-- ==== Sys2Proof/Word.lean ====
section
/-! DEFINITION. The word and byte types of the part (spec 00, R4: registers are 32 bits wide; multi-byte values
travel least-significant byte first). -/
namespace Sys2Proof

/-- A register (R4). -/
abbrev Word := BitVec 32
/-- One byte of MRAM, of a port item or of a measurement record. -/
abbrev Byte := BitVec 8

end Sys2Proof
end

