-- ==== Sys2Proof/Syntax.lean ====
section
/-! DEFINITION. The commands of the block: one constructor per row of spec/opcode_table.json, with the operands that the
rule behind the row gives it, and what the part's converters, comparators, pins and ports show at a command. -/
namespace Sys2Proof

/-- The host ports with mailboxes (R382). -/
inductive Port
  | a | b | c | e
  deriving DecidableEq, Repr

/-- The port's place in the register map: Port D has the place between C and E. -/
def Port.slot : Port → Nat
  | .a => 0 | .b => 1 | .c => 2 | .e => 4

/-- The port's place among Ports A, B, C and E. -/
def Port.idx : Port → Fin 4
  | .a => 0 | .b => 1 | .c => 2 | .e => 3

/-- What the mirrors and Kelvin sense report over one segment measurement (R166 to R168): current of the switch in mA,
on-resistance in 0.1 milliohm, the segment's mirrored current in % of an equal share, the mirrored current with the
gate off in mA, and whether the buck skipped or a protection acted. -/
structure SegMeas where
  load    : Nat
  ron     : BitVec 16
  share   : Nat
  offCur  : Nat
  skipped : Bool
  acted   : Bool
  deriving DecidableEq, Repr

/-- What stops charging (R190): a cell, or a monitor event by its number. -/
inductive StopCause
  | cell (k : Fin 8)
  | mev (n : Fin 96)
  deriving DecidableEq, Repr

/-- How a removed pack is found (R193): PACK_ID has stood open for 45 µs, or within 40 µs battery current stayed at `i` mA
or below while VSYS rose by `rise` mV. -/
inductive Removal
  | byId
  | byRise (i : BitVec 16) (rise : BitVec 16)
  deriving DecidableEq, Repr

/-- What the slot holds in which an urgent request reaches its core (R296). -/
inductive UrgSlot
  /-- slot 0, an idle slot, an urgent slot or a calibration conversion: no entry is abandoned -/
  | none
  /-- entry `e` of the sequence, or its redo -/
  | entry (e : Fin 64)
  deriving DecidableEq, Repr

/-- What the part's converters, comparators and pins show at a tick. -/
structure FrameIn where
  /-- crystal cycles since the last tick (R365, R375) -/
  xtal  : BitVec 16 := 0
  /-- the gauge converter's result of the ended frame (R202) -/
  gauge : BitVec 20 := 0
  /-- cell readings of the ended frame, 100 µV, CELL1 to CELL8 (R209) -/
  cells : Vector (BitVec 16) 8 := Vector.replicate 8 33000#16
  /-- pack voltage, mV (R209) -/
  vpack : BitVec 16 := 26400#16
  /-- PACK_ID is closed (R193) -/
  packId : Bool := true
  /-- the limit that governs the charger: battery current, VSYS, input current, resumption ramp (R186, R182) -/
  chgGov  : Fin 4 := 0
  /-- charger input current in mA, and loss of its external stage in mW -/
  chgIin  : BitVec 16 := 0
  chgLoss : BitVec 32 := 0
  /-- VSYS, FEEDBUS, FEED_A and FEED_B in mV (R180) -/
  vsys    : BitVec 16 := 26400#16
  feedbus : BitVec 16 := 0
  feedA   : BitVec 16 := 0
  feedB   : BitVec 16 := 0
  /-- levels of GPIO0 to GPIO7, and FAULT_N asserted (R245, R259) -/
  gpio    : BitVec 8 := 0
  faultN  : Bool := false
  /-- raw codes of the conversions of the ended frame, entry e of sequence s at 64 s + e; one that is not listed is 0
  (R295) -/
  conv    : List (BitVec 16) := []
  /-- raw code of each core's check in slot 0 of the frame that begins (R302) -/
  chk     : Vector (BitVec 16) 3 := Vector.replicate 3 0
  /-- per loop: sum of the 500 loop ADC codes of the ended frame, and their smallest and largest (R107, R125) -/
  loopSum : Vector (BitVec 18) 4 := Vector.replicate 4 0
  loopMin : Vector (BitVec 9) 4 := Vector.replicate 4 0
  loopMax : Vector (BitVec 9) 4 := Vector.replicate 4 0
  /-- the DLL calibration of the frame passes (R117), and STG_FLT_N is asserted (R103) -/
  dllPass : Bool := true
  stgFlt  : Bool := false
  /-- SYNC_IN shows rising edges, and their newest period in steps, 0 before the second (R121, R123) -/
  syncEdge : Bool := false
  syncPer  : BitVec 16 := 0
  /-- per regulator: output in 125 µV, output current in mA, loss in the package in mW (R160) -/
  regV    : Vector (BitVec 20) 14 := Vector.replicate 14 0
  regI    : Vector (BitVec 16) 14 := Vector.replicate 14 0
  regLoss : Vector (BitVec 32) 14 := Vector.replicate 14 0
  /-- input of each load switch in mV (R162) -/
  swVin   : Vector (BitVec 16) 4 := Vector.replicate 4 0
  deriving DecidableEq, Repr

/-- What a cell of the sibling link carries (R406). -/
inductive CellKind
  | idle | mark | echo | status0 | status1 | cmd | rsp
  deriving DecidableEq, Repr

/-- A Modbus request that is not answered with data: damaged by a wrong CRC, a gap or a parity error, with a function
code other than 0x03, 0x04 and 0x06, or to another address or address 0 (R403). -/
inductive BadRequest
  | damaged
  | otherCode (fc : BitVec 8)
  | otherAddr
  deriving DecidableEq, Repr

/-- How a transfer of AUX ends: `lost` attempts that lost arbitration, a line held low for `ms` (R401). -/
inductive AuxEnd
  | completed | nack
  | arbitration (lost : BitVec 4)
  | timeout (ms : BitVec 8)
  deriving DecidableEq, Repr

/-- A host command as the firmware row of its code gets it: the port and tag it came with, its deadline class and its
payload (R383). -/
structure HostCmd where
  port    : Port
  tag     : BitVec 8
  cls     : BitVec 4
  payload : List (BitVec 32)
  deriving DecidableEq, Repr

/-- What Burin writes to MBX_TX: the answer that an admitted command waits for, or words of a response (R391, R414). -/
inductive Response
  | owed (tag : Fin 96)
  | words (ws : List (BitVec 32))
  deriving DecidableEq, Repr

/-- What happens at the watchdog in the clock of another cause of a D_PROC reset (R338): nothing, the end of its period or
of the ROM's limit, or a check-in word of a source (0 Burin, 1 to 4 Ports A, B, C and E) at a clock of the frame. -/
inductive WdEvent
  | none
  | ends
  | checkin (w : Word) (src : Fin 5) (clock : BitVec 12)
  deriving DecidableEq, Repr

/-- An error that a read of MRAM meets: the byte offset of its word, and the two stored bits that are wrong, of 64 data
and 8 check bits; none for an error of one bit (R342). -/
structure EccRead where
  off  : BitVec 26
  bits : Option (Fin 72 × Fin 72)
  deriving DecidableEq, Repr

/-- The commands, one per row of spec/opcode_table.json: first those with operands, then those without, each in the
table's order. -/
inductive Instr
  /-- COLD_START (R71) -/
  | coldStart (strapA strapB : BitVec 12) (xtal : BitVec 48) (packId step8 : Bool) (ecc : List EccRead)
  /-- VSYS_FALL (R67) -/
  | vsysFall (vbak : BitVec 12)
  /-- VBAK_LOW (R373) -/
  | vbakLow (vbak : BitVec 12)
  /-- WAKE_REQUEST (R66) -/
  | wakeRequest (src : Fin 7)
  /-- RESET_N_PULSE (R63) -/
  | resetNPulse (e : WdEvent)
  /-- LOCKSTEP_MISMATCH (R87) -/
  | lockstepMismatch (e : WdEvent)
  /-- TCM_ERROR_UNCORRECTABLE (R88) -/
  | tcmErrorUncorrectable (instr : Bool)
  /-- D_PROC_RELEASE (R72) -/
  | dProcRelease (step8 : Bool) (ecc : List EccRead)
  /-- ACTIVE_OSCILLATOR_LOST (R52) -/
  | activeOscillatorLost (stopped : Bool) (counts : Vector (BitVec 10) 4) (e0 e1 : Option (Fin 64))
  /-- SPARE_OSCILLATOR_LOST (R53) -/
  | spareOscillatorLost (stopped : Bool) (counts : Vector (BitVec 10) 4)
  /-- OSCILLATOR_RESTART_ATTEMPT (R55) -/
  | oscillatorRestartAttempt (passed : Bool) (strapA strapB : BitVec 12) (xtal : BitVec 48) (packId step8 : Bool) (ecc : List EccRead)
  /-- MAIN_RESUME (R54) -/
  | mainResume (above : BitVec 14) (vout : Vector (BitVec 16) 14)
  /-- FRAME_TICK (R58) -/
  | frameTick (x : FrameIn)
  /-- FRAME_MARK (R61) -/
  | frameMark (leader : BitVec 32) (ofs : BitVec 16)
  /-- ECHO_RECEIPT (R406) -/
  | echoReceipt (round_ delay : BitVec 16)
  /-- SIBLING_STATUS (R262) -/
  | siblingStatus (ids : Word) (arrived passed : BitVec 4) (alert : Bool) (inFree hostFree : BitVec 7)
  /-- MAILBOX_CELL (R406) -/
  | mailboxCell (rsp : Bool) (seq : BitVec 4) (w : Word) (crcOk : Bool) (clock : BitVec 12)
  /-- EXTEND (R82) -/
  | extend (target : BitVec 2)
  /-- SOFTWARE_DOORBELL (R90) -/
  | softwareDoorbell (w : Word)
  /-- LOOP_ENABLE (R110) -/
  | loopEnable (m : Fin 4)
  /-- STAGE_ENABLE_DELAY_END (R108) -/
  | stageEnableDelayEnd (m : Fin 4)
  /-- COMPENSATOR_UPDATE (R111) -/
  | compensatorUpdate (m : Fin 4) (c1 c2 c3 c4 : BitVec 9)
  /-- REFERENCE_RAMP_END (R106) -/
  | referenceRampEnd (m : Fin 4)
  /-- LOOP_PG_SET (R108) -/
  | loopPgSet (m : Fin 4)
  /-- LOOP_DISABLE (R109) -/
  | loopDisable (m : Fin 4)
  /-- SOFT_STOP_END (R109) -/
  | softStopEnd (m : Fin 4)
  /-- STG_EN_DEASSERT (R102) -/
  | stgEnDeassert (m : Fin 4)
  /-- LOOP_SETPOINT_CHANGE (R106) -/
  | loopSetpointChange (m : Fin 4)
  /-- PERIOD_CHANGE (R119) -/
  | periodChange (m : Fin 4)
  /-- SWAP_REQ (R113) -/
  | swapReq (m : Fin 4)
  /-- PH_CFG_WRITE (R97) -/
  | phCfgWrite (n : Fin 16) (v : Word)
  /-- SYNC_QUALIFIED (R121) -/
  | syncQualified (p1 p2 p3 p4 : BitVec 16) (errs : Vector (BitVec 17) 4)
  /-- SYNCED (R121) -/
  | synced (m : Fin 4) (errs : Vector (BitVec 17) 16)
  /-- STG_FLT_N_ASSERTED (R103) -/
  | stgFltNAsserted (full : BitVec 16)
  /-- IMON_SAMPLE (R104) -/
  | imonSample (n : Fin 16) (c : BitVec 10)
  /-- PERSISTENT_PHASE_OVERCURRENT (R143) -/
  | persistentPhaseOvercurrent (n : Fin 16)
  /-- LOOP_OVERCURRENT (R143) -/
  | loopOvercurrent (m : Fin 4)
  /-- LOOP_OVERVOLTAGE (R143) -/
  | loopOvervoltage (m : Fin 4)
  /-- OVERVOLTAGE_HOLD_END (R143) -/
  | overvoltageHoldEnd (m : Fin 4)
  /-- LOOP_UNDERVOLTAGE (R143) -/
  | loopUndervoltage (m : Fin 4)
  /-- UNDERSHOOT_TRIP (R134) -/
  | undershootTrip (m : Fin 4)
  /-- FIRE_END (R136) -/
  | fireEnd (m : Fin 4)
  /-- UNDERSHOOT_REARM (R137) -/
  | undershootRearm (m : Fin 4) (above since : BitVec 20)
  /-- BRAKE_START (R139) -/
  | brakeStart (m : Fin 4) (code : BitVec 9) (since : BitVec 20)
  /-- BRAKE_END (R140) -/
  | brakeEnd (m : Fin 4) (code : BitVec 9) (periods : Fin 64)
  /-- BRAKE_TMAX (R140) -/
  | brakeTmax (m : Fin 4) (periods : Fin 64)
  /-- PHASE_SHED (R131) -/
  | phaseShed (n : Fin 16)
  /-- SHED_PHASES_JOIN (R138) -/
  | shedPhasesJoin (m : Fin 4)
  /-- RESHED_HOLDOFF_END (R132) -/
  | reshedHoldoffEnd (m : Fin 4)
  /-- IMBALANCE (R141) -/
  | imbalance (n : Fin 16)
  /-- FENCE (R147) -/
  | fence (n : Fin 16)
  /-- SUBST_REQ (R150) -/
  | substReq (n : Fin 16)
  /-- SUBSTITUTION (R148) -/
  | substitution (m : Fin 4)
  /-- REG_ENABLE (R155) -/
  | regEnable (r : Fin 14) (vin : BitVec 16)
  /-- REG_RAMP_END (R156) -/
  | regRampEnd (r : Fin 14)
  /-- REG_PG_SET (R156) -/
  | regPgSet (r : Fin 14)
  /-- REG_DISABLE (R157) -/
  | regDisable (r : Fin 14)
  /-- REG_SETPOINT_CHANGE (R158) -/
  | regSetpointChange (r : Fin 14)
  /-- REG_OVERVOLTAGE (R162) -/
  | regOvervoltage (r : Fin 14) (v : BitVec 20)
  /-- SW_REVERSE_CURRENT (R162) -/
  | swReverseCurrent (k : Fin 4) (v : BitVec 20) (vin : BitVec 16)
  /-- REG_UNDERVOLTAGE (R162) -/
  | regUndervoltage (r : Fin 14) (v : BitVec 20) (vin : BitVec 16)
  /-- PEAK_CURRENT_LIMIT (R162) -/
  | peakCurrentLimit (b : Fin 6) (i : BitVec 16) (again : Bool)
  /-- LD_CURRENT_LIMIT (R162) -/
  | ldCurrentLimit (k : Fin 4) (i : BitVec 16)
  /-- REG_PERSISTENT_OVERCURRENT (R162) -/
  | regPersistentOvercurrent (r : Fin 14) (i : BitVec 16)
  /-- REG_OVER_TEMPERATURE (R162) -/
  | regOverTemperature (r : Fin 14)
  /-- RETRY_WAIT_END (R164) -/
  | retryWaitEnd (r : Fin 14) (vin : BitVec 16)
  /-- RETRIES_RESET (R164) -/
  | retriesReset (r : Fin 14)
  /-- SEGMENT_MEASUREMENT (R168) -/
  | segmentMeasurement (x : SegMeas)
  /-- SEGMENT_RETRY (R167) -/
  | segmentRetry (sw : Fin 12) (k : Fin 9) (x : SegMeas)
  /-- SEGMENT_POSTPONED_2H (R167) -/
  | segmentPostponed2h (sw : Fin 12) (k : Fin 9)
  /-- SEGMENT_FENCE_APPLIED (R169) -/
  | segmentFenceApplied (sw : Fin 12)
  /-- FEED_WINDOW_ENTRY (R177) -/
  | feedWindowEntry (x : Fin 2)
  /-- FEED_QUALIFIED (R177) -/
  | feedQualified (x : Fin 2)
  /-- FEED_UV_DISQUALIFICATION (R177) -/
  | feedUvDisqualification (x : Fin 2) (v : BitVec 16) (t : BitVec 8)
  /-- FEED_OV_CUTOFF (R177) -/
  | feedOvCutoff (x : Fin 2) (v : BitVec 16)
  /-- INRUSH_FAILED (R179) -/
  | inrushFailed (x : Fin 2)
  /-- QUARANTINE_END (R177) -/
  | quarantineEnd (x : Fin 2)
  /-- FEED_DISABLE (R177) -/
  | feedDisable (x : Fin 2)
  /-- REVERSE_BLOCKING (R175) -/
  | reverseBlocking (x : Fin 2)
  /-- BOW_TRIP (R183) -/
  | bowTrip (vsys : BitVec 16)
  /-- STOP_CAUSE (R190) -/
  | stopCause (cause : StopCause)
  /-- PACK_REMOVED (R193) -/
  | packRemoved (how : Removal)
  /-- HIBERNATION_RESULT (R207) -/
  | hibernationResult (code : BitVec 20) (packId : Bool)
  /-- CELL_UV (R212) -/
  | cellUv (k : Fin 8)
  /-- GG_SOC_WRITE (R218) -/
  | ggSocWrite (v : Word)
  /-- HALT (R253) -/
  | halt (t : Fin 4)
  /-- ENABLE (R246) -/
  | enable (t : Fin 4)
  /-- DISABLE (R246) -/
  | disable (t : Fin 4)
  /-- SET_V (R246) -/
  | setV (t : Fin 4)
  /-- WAIT (R248) -/
  | wait (t : Fin 4)
  /-- WAIT_EXPIRY (R248) -/
  | waitExpiry (t : Fin 4)
  /-- WAIT_UNTIL (R249) -/
  | waitUntil (t : Fin 4)
  /-- WAIT_UNTIL_SATISFIED (R249) -/
  | waitUntilSatisfied (t : Fin 4)
  /-- WAIT_TIMEOUT (R249) -/
  | waitTimeout (t : Fin 4)
  /-- CHECK (R250) -/
  | check (t : Fin 4)
  /-- JUMP (R243) -/
  | jump (t : Fin 4)
  /-- CALL (R251) -/
  | call (t : Fin 4)
  /-- RETURN (R251) -/
  | returnStep (t : Fin 4)
  /-- COMMIT (R260) -/
  | commit (t : Fin 4)
  /-- MARK (R252) -/
  | mark (t : Fin 4)
  /-- SNAPSHOT (R252) -/
  | snapshot (t : Fin 4)
  /-- BARRIER (R262) -/
  | barrier (t : Fin 4)
  /-- BARRIER_PASS (R262) -/
  | barrierPass (t : Fin 4)
  /-- SEQ_START (R254) -/
  | seqStart (t : Fin 4) (useLabel : Bool) (label : Fin 64)
  /-- SEQ_STOP (R254) -/
  | seqStop (t : Fin 4)
  /-- SEQ_FLAG_SET (R245) -/
  | seqFlagSet (w : Word)
  /-- SEQ_FLAG_CLR (R245) -/
  | seqFlagClr (w : Word)
  /-- STENCIL_STORE_WRITE (R264) -/
  | stencilStoreWrite (i : Fin 6144) (v : BitVec 32)
  /-- LABEL_WRITE (R242) -/
  | labelWrite (i : Fin 64) (v : Word)
  /-- DOWN_START_BY_EVENT (R261) -/
  | downStartByEvent (esn : BitVec 8)
  /-- CONTEXT_WRITE (R275) -/
  | contextWrite (i : Fin 160) (k : Fin 5) (v : Word)
  /-- URGENT_REQUEST (R296) -/
  | urgentRequest (q : Fin 2) (j : Fin 8) (input : BitVec 6) (cal : Bool) (slot : UrgSlot)
  /-- URGENT_RESULT (R296) -/
  | urgentResult (q : Fin 2) (j : Fin 8) (raw : BitVec 16)
  /-- REF_READY_SET (R298) -/
  | refReadySet (chk : Vector (BitVec 16) 3)
  /-- REFERENCE_FAULT (R299) -/
  | referenceFault (n0 n1 : Fin 65)
  /-- CAL_ZERO (R300) -/
  | calZero (input : BitVec 6) (target : BitVec 16)
  /-- CAL_FULL (R300) -/
  | calFull (input : BitVec 6) (target : BitVec 16)
  /-- CALIBRATION_CAPTURE_DONE (R300) -/
  | calibrationCaptureDone (sums : Vector (BitVec 24) 3)
  /-- ADC2_TAKEOVER (R303) -/
  | adc2Takeover (q : Fin 2)
  /-- STICKY_CLEAR (R312) -/
  | stickyClear (w : Fin 8) (mask : Word)
  /-- FORCE_RAISE (R313) -/
  | forceRaise (n : BitVec 8)
  /-- WD_CHECKIN_WRITE (R329) -/
  | wdCheckinWrite (w : Word) (clock : BitVec 12)
  /-- NV_WORD_WRITE (R340) -/
  | nvWordWrite (fails : Fin 4)
  /-- PLATE_REBUILD_DONE (R360) -/
  | plateRebuildDone (ecc : List EccRead)
  /-- SNAP (R359) -/
  | snap (tag : BitVec 16)
  /-- PLATE_CURSOR_WRITE (R361) -/
  | plateCursorWrite (v : BitVec 20)
  /-- PLATE_WIN4_READ (R361) -/
  | plateWin4Read (ecc : List EccRead)
  /-- GG_QRAW_LO_READ (R205) -/
  | ggQrawLoRead (ref : Bool)
  /-- RTC_TRIM_WRITE (R370) -/
  | rtcTrimWrite (v : BitVec 8)
  /-- IDENTIFY (R416) -/
  | identify (c : HostCmd)
  /-- STATUS (R416) -/
  | status (c : HostCmd)
  /-- RESTART (R417) -/
  | restart (c : HostCmd)
  /-- STANDBY (R417) -/
  | standby (c : HostCmd)
  /-- FUSE_WD (R418) -/
  | fuseWd (c : HostCmd)
  /-- TELEM_READ (R420) -/
  | telemRead (c : HostCmd) (ecc : List EccRead)
  /-- ADC_URGENT (R421) -/
  | adcUrgent (c : HostCmd)
  /-- FAULT_READ (R419) -/
  | faultRead (c : HostCmd)
  /-- FAULT_CLEAR (R422) -/
  | faultClear (c : HostCmd)
  /-- RAIL_ENABLE (R424) -/
  | railEnable (c : HostCmd)
  /-- RAIL_DISABLE (R424) -/
  | railDisable (c : HostCmd)
  /-- RAIL_SET_V (R424) -/
  | railSetV (c : HostCmd)
  /-- RAIL_STATUS (R423) -/
  | railStatus (c : HostCmd)
  /-- PHASE_SUBST (R423) -/
  | phaseSubst (c : HostCmd)
  /-- THREAD_START (R425) -/
  | threadStart (c : HostCmd)
  /-- THREAD_STOP (R425) -/
  | threadStop (c : HostCmd)
  /-- SEQ_FLAGS (R425) -/
  | seqFlags (c : HostCmd)
  /-- THREAD_STATUS (R425) -/
  | threadStatus (c : HostCmd)
  /-- CHARGE (R426) -/
  | charge (c : HostCmd)
  /-- CHARGE_STATUS (R426) -/
  | chargeStatus (c : HostCmd)
  /-- GAUGE_READ (R426) -/
  | gaugeRead (c : HostCmd)
  /-- GAUGE_MODE (R426) -/
  | gaugeMode (c : HostCmd)
  /-- GAUGE_CELLS (R426) -/
  | gaugeCells (c : HostCmd)
  /-- PLATE_INFO (R427) -/
  | plateInfo (c : HostCmd)
  /-- PLATE_READ (R428) -/
  | plateRead (c : HostCmd) (ecc : List EccRead)
  /-- PLATE_SNAPSHOT (R428) -/
  | plateSnapshot (c : HostCmd)
  /-- RTC_READ (R429) -/
  | rtcRead (c : HostCmd)
  /-- RTC_SET (R429) -/
  | rtcSet (c : HostCmd)
  /-- RTC_CLEAR_SWO (R429) -/
  | rtcClearSwo (c : HostCmd)
  /-- RTC_WAKE (R429) -/
  | rtcWake (c : HostCmd)
  /-- WD_CHECKIN (R429) -/
  | wdCheckin (c : HostCmd) (clock : BitVec 12)
  /-- PROOF (R431) -/
  | proof (c : HostCmd)
  /-- PROOF_SIG (R431) -/
  | proofSig (c : HostCmd)
  /-- CERT_READ (R430) -/
  | certRead (c : HostCmd)
  /-- CFG_BEGIN (R434) -/
  | cfgBegin (c : HostCmd)
  /-- CFG_WRITE (R434) -/
  | cfgWrite (c : HostCmd)
  /-- CFG_VERIFY (R434) -/
  | cfgVerify (c : HostCmd) (ecc : List EccRead)
  /-- CFG_INFO (R433) -/
  | cfgInfo (c : HostCmd)
  /-- IMG_BEGIN (R434) -/
  | imgBegin (c : HostCmd)
  /-- IMG_WRITE (R434) -/
  | imgWrite (c : HostCmd)
  /-- IMG_VERIFY (R434) -/
  | imgVerify (c : HostCmd) (ecc : List EccRead)
  /-- IMG_ACTIVATE (R434) -/
  | imgActivate (c : HostCmd)
  /-- REG_READ (R436) -/
  | regRead (c : HostCmd) (ecc : List EccRead)
  /-- REG_WRITE (R436) -/
  | regWrite (c : HostCmd)
  /-- AUX_XFER (R436) -/
  | auxXfer (c : HostCmd)
  /-- DEADLINE_EXPIRY (R392) -/
  | deadlineExpiry (t : Fin 96)
  /-- RESPONSE_WRITE (R391) -/
  | responseWrite (p : Port) (r : Response)
  /-- RESPONSE_RETRIEVED (R391) -/
  | responseRetrieved (p : Port)
  /-- MBX_RX_READ (R382) -/
  | mbxRxRead (p : Port)
  /-- DROP (R386) -/
  | drop (p : Port)
  /-- MBX_IN (R397) -/
  | mbxIn (p : Port) (bytes : List Byte) (pecOk : Bool) (clock : BitVec 12)
  /-- MBX_OUT (R397) -/
  | mbxOut (p : Port) (n : Fin 65)
  /-- PORT_STATUS_READ (R397) -/
  | portStatusRead (p : Port)
  /-- HOST_DROP (R386) -/
  | hostDrop (p : Port)
  /-- ABORT_IN (R386) -/
  | abortIn (p : Port)
  /-- MBX_AGAIN (R398) -/
  | mbxAgain (p : Port)
  /-- ALERT_RESPONSE (R396) -/
  | alertResponse (p : Port)
  /-- ADDRESS_MATCH_WAKE (R66) -/
  | addressMatchWake (p : Port) (runs : Bool)
  /-- BUS_TIMEOUT (R399) -/
  | busTimeout (p : Port) (ms : BitVec 8)
  /-- MBX_HTX_WRITE (R406) -/
  | mbxHtxWrite (w : Word)
  /-- MODBUS_READ_REGISTERS (R404) -/
  | modbusReadRegisters (input : Bool) (addr count : BitVec 16)
  /-- MODBUS_WRITE_ACKNOWLEDGE (R405) -/
  | modbusWriteAcknowledge (addr v : BitVec 16)
  /-- MODBUS_BAD_REQUEST (R403) -/
  | modbusBadRequest (kind : BadRequest)
  /-- AUX_GO (R401) -/
  | auxGo (addr : BitVec 7) (wlen rlen : BitVec 8)
  /-- AUX_TRANSFER_END (R401) -/
  | auxTransferEnd (result : AuxEnd) (got : Fin 33) (bytes : Vector (BitVec 8) 32)
  /-- FIRST_KEY (R445) -/
  | firstKey (block : BitVec 5)
  /-- UNLOCK (R445) -/
  | unlock (block : BitVec 5)
  /-- PROTECTED_WRITE (R448) -/
  | protectedWrite (a v : BitVec 32)
  /-- SYS_ACT_WRITE (R442) -/
  | sysActWrite (v : BitVec 3)
  /-- REGISTER_WRITE (R5) -/
  | registerWrite (a v : BitVec 32)
  /-- VREG_OUT_OF_RANGE (R323) -/
  | vregOutOfRange (vreg5 : Bool)
  /-- CELL_CRC_ERROR (R406) -/
  | cellCrcError (kind : CellKind)
  /-- VBAK_RISE (R67) -/
  | vbakRise
  /-- VBAK_FALL (R67) -/
  | vbakFall
  /-- STANDBY_REQ (R67) -/
  | standbyReq
  /-- TCM_ERROR_CORRECTED (R88) -/
  | tcmErrorCorrected
  /-- ROM_LIMIT_EXPIRY (R73) -/
  | romLimitExpiry
  /-- BOTH_OSCILLATORS_LOST (R55) -/
  | bothOscillatorsLost
  /-- REF_IN_LOSS (R51) -/
  | refInLoss
  /-- HOLDOVER_EXPIRY (R51) -/
  | holdoverExpiry
  /-- REF_RETURN (R51) -/
  | refReturn
  /-- PLL_LOCK (R50) -/
  | pllLock
  /-- DISC_LOCK (R50) -/
  | discLock
  /-- CRYSTAL_FAULT (R56) -/
  | crystalFault
  /-- CRYSTAL_RETURN (R367) -/
  | crystalReturn
  /-- CRYSTAL_STOP (R366) -/
  | crystalStop
  /-- DLL_CAL_FAIL (R117) -/
  | dllCalFail
  /-- FRAME_MARK_AT_LEADER (R62) -/
  | frameMarkAtLeader
  /-- FRM_ALIGNED_SET (R61) -/
  | frmAlignedSet
  /-- FRAME_MARKS_MISSING (R61) -/
  | frameMarksMissing
  /-- LINK_UP (R406) -/
  | linkUp (good : BitVec 16)
  /-- SIBLING_STATUS_LOST (R263) -/
  | siblingStatusLost
  /-- READY (R81) -/
  | ready
  /-- PROOF_GO (R84) -/
  | proofGo
  /-- PROOF_SIGNED (R85) -/
  | proofSigned
  /-- DOORBELL_APPEND (R91) -/
  | doorbellAppend
  /-- IC_CLAIM (R92) -/
  | icClaim
  /-- SYNC_LOST (R122) -/
  | syncLost
  /-- SWEEP_START (R167) -/
  | sweepStart
  /-- ON_BATTERY_DECLARED (R180) -/
  | onBatteryDeclared
  /-- RETURN_TO_FEED (R180) -/
  | returnToFeed
  /-- UP_INHIBIT_RELEASE (R184) -/
  | upInhibitRelease
  /-- CHG_START (R188) -/
  | chgStart
  /-- CHG_TERMINATE (R188) -/
  | chgTerminate
  /-- CHG_HOLD (R188) -/
  | chgHold
  /-- CHG_RELEASE (R188) -/
  | chgRelease
  /-- CHG_STOP (R188) -/
  | chgStop
  /-- TRICKLE_EXIT (R188) -/
  | trickleExit
  /-- PRE_EXIT (R188) -/
  | preExit
  /-- CC_TO_CV (R188) -/
  | ccToCv
  /-- SAFETY_TIMER_EXPIRY (R191) -/
  | safetyTimerExpiry
  /-- PRECHARGE_TIMER_EXPIRY (R191) -/
  | prechargeTimerExpiry
  /-- PACK_ID_CLOSED (R188) -/
  | packIdClosed
  /-- PACK_QUAL_ELAPSED (R188) -/
  | packQualElapsed
  /-- ZCH_SHORT (R192) -/
  | zchShort
  /-- GAUGE_WAKE (R208) -/
  | gaugeWake
  /-- REST_REACHED (R216) -/
  | restReached
  /-- EST_DRIFT (R217) -/
  | estDrift
  /-- ESTIMATOR_UPDATE (R218) -/
  | estimatorUpdate
  /-- COUNT_RECORD_HOURLY (R231) -/
  | countRecordHourly
  /-- MIN_OFF_END (R260) -/
  | minOffEnd
  /-- AUTO_UP_START (R260) -/
  | autoUpStart
  /-- FAULT_N_EDGE (R259) -/
  | faultNEdge
  /-- FAULT_N_RELEASE (R258) -/
  | faultNRelease
  /-- UP_HELD_RELEASE (R259) -/
  | upHeldRelease
  /-- THERMAL_STEP (R281) -/
  | thermalStep
  /-- THROTTLE_FALL (R286) -/
  | throttleFall
  /-- CAL_ABORT (R300) -/
  | calAbort
  /-- FAULT_REACTION (R315) -/
  | faultReaction
  /-- WATCHDOG_PERIOD_END (R331) -/
  | watchdogPeriodEnd
  /-- WD_OUT_PULSE_END (R334) -/
  | wdOutPulseEnd
  /-- PLATE_INGEST (R351) -/
  | plateIngest
  /-- FLOOD_END (R356) -/
  | floodEnd
  /-- CLOCK_MARK_HOURLY (R357) -/
  | clockMarkHourly
  /-- RTC_SEC_LO_READ (R369) -/
  | rtcSecLoRead
  /-- RTC_OPT_LO_READ (R375) -/
  | rtcOptLoRead
  /-- NV_WRITE (R344) -/
  | nvWrite
  /-- ERASE (R345) -/
  | erase
  /-- RESUME (R345) -/
  | resume
  /-- SET (R370) -/
  | set
  /-- CALENDAR_LOAD (R370) -/
  | calendarLoad
  /-- CLEAR_SWO (R372) -/
  | clearSwo
  /-- PERIODIC_WAKE (R371) -/
  | periodicWake
  /-- CALENDAR_WRAP (R368) -/
  | calendarWrap
  /-- COUNTER_RECORD_HOURLY (R376) -/
  | counterRecordHourly
  /-- SESSION_TIMEOUT (R432) -/
  | sessionTimeout
  /-- CLOSE (R446) -/
  | close
  /-- UNLOCK_WINDOW_EXPIRY (R446) -/
  | unlockWindowExpiry
  deriving DecidableEq, Repr

end Sys2Proof
end

