-- ==== Sys2Proof/Config.lean ====
section
/-! DEFINITION. What an implementation fixes and the spec does not give (constants without a body), and the free
values: nothing in Lean can see what they are. -/
namespace Sys2Proof.Config
open Sys2Proof

/-- The value of a datum the spec leaves open, one per use of the state's counter (log 2). -/
opaque freeWord : Nat → Word
/-- ROM version, fused (BOOT_STAT.ROM_VER, R84). -/
opaque romVersion : Nat
/-- Device identifier, fused, 64 bits (R84). -/
opaque deviceId : Nat
/-- The bytes of the 32 KB boot ROM (R71 step 3). -/
opaque romBytes : List Byte
/-- The 512-byte fuse image with the key field read as zero, for the four watchdog fields as programmed (R71, R327). -/
opaque fuseImage : Option Nat → Option Nat → Option Nat → Option Nat → List Byte
/-- The device's private key and Kyoson's, and the nonce with which Kyoson signed the certificate (R86). -/
opaque privateKey : Nat
opaque kyosonKey : Nat
opaque certNonce : Nat
/-- The nonce of the signing of a digest with a proof counter (R84). -/
opaque proofNonce : Nat → Nat → Nat
/-- Expected raw codes of the check inputs of each ADC core: AGND and the check source (R302). -/
opaque adcCheckZero : Nat → Nat
opaque adcCheckSrc  : Nat → Nat
/-- On-resistance of a segment at 25 °C from the calibration partition, in 0.1 milliohm (R166). -/
opaque ron25 : Nat → Nat → Nat
/-- Byte i, below 0x3F, of a boot-select record with a sequence number, slot, trial and attempts: the spec does not give
its layout (R77, log 5). -/
opaque bootRecord : Nat → Nat → Bool → Nat → Nat → Byte
/-- The low 56 bits of the remap entry of a sector and a spare (R343, log 5). -/
opaque remapEntry : Nat → Nat → BitVec 56
/-- Byte i, below 0x3F, of a counter record of an operating time and a power-cycle count (R376, log 5). -/
opaque counterRecord : Nat → Nat → Nat → Byte
/-- Byte i, below 0x3F, of a calibration record of words of ADC_CALTAB (R300, log 5). -/
opaque calibRecord : List (Nat × Word) → Nat → Byte

/-- A word of the chemistry data where the configuration image carries none (R219, R453). -/
opaque noChemistry : Nat → Word

end Sys2Proof.Config
end

