-- ==== Sys2Proof/Machine/Crypto.lean ====
section
/-! DEFINITION. The digests and check codes the spec names: SHA-256 (R82), CRC-32 (R74), CRC-16 of Plate records
(R348), CRC-8 of link cells and SMBus forms (R397, R406) and the CRC of Modbus (R403). -/
namespace Sys2Proof.Machine
open Sys2Proof

/-! ### Bytes -/

/-- `n` bytes of a number, least significant first (R4). -/
def bytesLE : Nat → Nat → List Byte
  | 0, _ => []
  | n + 1, v => BitVec.ofNat 8 v :: bytesLE n (v / 256)

/-- The number whose bytes these are, least significant first (R4). -/
def ofBytesLE : List Byte → Nat
  | [] => 0
  | b :: r => b.toNat + 256 * ofBytesLE r

/-- The number whose bytes these are, most significant first. -/
def ofBytesBE (l : List Byte) : Nat := l.foldl (fun n b => n * 256 + b.toNat) 0

/-! ### SHA-256 -/

/-- The round constants. -/
def shaK : List Word :=
  [0x428a2f98, 0x71374491, 0xb5c0fbcf, 0xe9b5dba5, 0x3956c25b, 0x59f111f1, 0x923f82a4, 0xab1c5ed5] ++
  [0xd807aa98, 0x12835b01, 0x243185be, 0x550c7dc3, 0x72be5d74, 0x80deb1fe, 0x9bdc06a7, 0xc19bf174] ++
  [0xe49b69c1, 0xefbe4786, 0x0fc19dc6, 0x240ca1cc, 0x2de92c6f, 0x4a7484aa, 0x5cb0a9dc, 0x76f988da] ++
  [0x983e5152, 0xa831c66d, 0xb00327c8, 0xbf597fc7, 0xc6e00bf3, 0xd5a79147, 0x06ca6351, 0x14292967] ++
  [0x27b70a85, 0x2e1b2138, 0x4d2c6dfc, 0x53380d13, 0x650a7354, 0x766a0abb, 0x81c2c92e, 0x92722c85] ++
  [0xa2bfe8a1, 0xa81a664b, 0xc24b8b70, 0xc76c51a3, 0xd192e819, 0xd6990624, 0xf40e3585, 0x106aa070] ++
  [0x19a4c116, 0x1e376c08, 0x2748774c, 0x34b0bcb5, 0x391c0cb3, 0x4ed8aa4a, 0x5b9cca4f, 0x682e6ff3] ++
  [0x748f82ee, 0x78a5636f, 0x84c87814, 0x8cc70208, 0x90befffa, 0xa4506ceb, 0xbef9a3f7, 0xc67178f2]

/-- The eight working words of the hash. -/
structure ShaH where
  a : Word
  b : Word
  c : Word
  d : Word
  e : Word
  f : Word
  g : Word
  h : Word
  deriving DecidableEq, Repr

def shaInit : ShaH :=
  ⟨0x6a09e667, 0xbb67ae85, 0x3c6ef372, 0xa54ff53a, 0x510e527f, 0x9b05688c, 0x1f83d9ab, 0x5be0cd19⟩

def shaRound (x : ShaH) (k w : Word) : ShaH :=
  let s1 := x.e.rotateRight 6 ^^^ x.e.rotateRight 11 ^^^ x.e.rotateRight 25
  let ch := (x.e &&& x.f) ^^^ (~~~x.e &&& x.g)
  let t1 := x.h + s1 + ch + k + w
  let s0 := x.a.rotateRight 2 ^^^ x.a.rotateRight 13 ^^^ x.a.rotateRight 22
  let mj := (x.a &&& x.b) ^^^ (x.a &&& x.c) ^^^ (x.b &&& x.c)
  ⟨t1 + (s0 + mj), x.a, x.b, x.c, x.d + t1, x.e, x.f, x.g⟩

/-- The rounds over the message schedule, kept as a window of 16 words. -/
def shaRounds : List Word → List Word → ShaH → ShaH
  | [], _, x => x
  | k :: ks, win, x =>
    let w := win.getD 0 0
    let a := win.getD 1 0
    let b := win.getD 14 0
    let s0 := a.rotateRight 7 ^^^ a.rotateRight 18 ^^^ (a >>> 3)
    let s1 := b.rotateRight 17 ^^^ b.rotateRight 19 ^^^ (b >>> 10)
    shaRounds ks (win.drop 1 ++ [w + s0 + win.getD 9 0 + s1]) (shaRound x k w)

def shaBlock (h : ShaH) (win : List Word) : ShaH :=
  let r := shaRounds shaK win h
  ⟨h.a + r.a, h.b + r.b, h.c + r.c, h.d + r.d, h.e + r.e, h.f + r.f, h.g + r.g, h.h + r.h⟩

/-- Words of four bytes, most significant first. -/
def wordsBE : List Byte → List Word
  | a :: b :: c :: d :: r => BitVec.ofNat 32 (ofBytesBE [a, b, c, d]) :: wordsBE r
  | _ => []

def shaBlocks : Nat → List Word → ShaH → ShaH
  | 0, _, h => h
  | n + 1, ws, h => shaBlocks n (ws.drop 16) (shaBlock h (ws.take 16))

/-- SHA-256 of a byte string, as its 32 bytes. -/
def sha256 (m : List Byte) : List Byte :=
  let z := (119 - m.length % 64) % 64
  let p := m ++ [0x80] ++ List.replicate z 0 ++ (bytesLE 8 (8 * m.length)).reverse
  let h := shaBlocks (p.length / 64) (wordsBE p) shaInit
  [h.a, h.b, h.c, h.d, h.e, h.f, h.g, h.h].flatMap (fun w => (bytesLE 4 w.toNat).reverse)

/-- 32 bytes as a measurement value: byte i stands in bits 8i to 8i+7 (log 21). -/
def digestBV (l : List Byte) : BitVec 256 := BitVec.ofNat 256 (ofBytesLE l)

/-! ### Check codes -/

/-- One bit of a reflected CRC. -/
def crcBit (poly : Nat) (c : Nat) : Nat := if c % 2 = 1 then (c / 2) ^^^ poly else c / 2

def crcBits (poly : Nat) : Nat → Nat → Nat
  | 0, c => c
  | n + 1, c => crcBits poly n (crcBit poly c)

/-- CRC-32 of IEEE 802.3 (R74). -/
def crc32 (l : List Byte) : Nat :=
  (l.foldl (fun c b => crcBits 0xEDB88320 8 (c ^^^ b.toNat)) 0xFFFFFFFF) ^^^ 0xFFFFFFFF

/-- One bit of a CRC taken most significant bit first. -/
def crcBitM (w poly : Nat) (c : Nat) : Nat :=
  if c / 2 ^ (w - 1) % 2 = 1 then (2 * c % 2 ^ w) ^^^ poly else 2 * c % 2 ^ w

def crcBitsM (w poly : Nat) : Nat → Nat → Nat
  | 0, c => c
  | n + 1, c => crcBitsM w poly n (crcBitM w poly c)

/-- CRC-16 of polynomial 0x1021 from 0xFFFF (R348). -/
def crc16 (l : List Byte) : Nat :=
  l.foldl (fun c b => crcBitsM 16 0x1021 8 (c ^^^ (b.toNat * 256))) 0xFFFF

/-- CRC-8 of polynomial 0x07. -/
def crc8 (l : List Byte) : Nat :=
  l.foldl (fun c b => crcBitsM 8 0x07 8 (c ^^^ b.toNat)) 0

/-- The CRC of Modbus RTU. -/
def crcModbus (l : List Byte) : Nat :=
  l.foldl (fun c b => crcBits 0xA001 8 (c ^^^ b.toNat)) 0xFFFF

end Sys2Proof.Machine
end

