-- ==== Sys2Proof/Machine/Ecdsa.lean ====
section
/-! DEFINITION. ECDSA over P-256 (FIPS 186), with which proofs and the device certificate are signed (spec 04 R84, R86). -/
namespace Sys2Proof.Machine
open Sys2Proof

/-! ### The field and the curve -/

/-- The prime of the field, the coefficient b of y² = x³ - 3x + b, and the order of the base point. -/
def fieldP : Nat := 0xffffffff00000001000000000000000000000000ffffffffffffffffffffffff
def curveB : Nat := 0x5ac635d8aa3a93e7b3ebbd55769886bc651d06b0cc53b0f63bce3c3e27d2604b
def orderN : Nat := 0xffffffff00000000ffffffffffffffffbce6faada7179e84f3b9cac2fc632551

/-- `a` to the power of the number whose bits, least significant first, the fuel takes from `e`, modulo `m`. -/
def powMod (m : Nat) : Nat → Nat → Nat → Nat
  | 0, _, _ => 1
  | n + 1, a, e => (if e % 2 = 1 then a else 1) * powMod m n (a * a % m) (e / 2) % m

/-- The inverse modulo a prime of 256 bits. -/
def invMod (m a : Nat) : Nat := powMod m 256 (a % m) (m - 2)

/-- A point of the curve: none is the point at infinity. -/
abbrev Point := Option (Nat × Nat)

/-- The base point. -/
def baseG : Point :=
  some (0x6b17d1f2e12c4247f8bce6e563a440f277037d812deb33a0f4a13945d898c296,
    0x4fe342e2fe1a7f9b8ee7eb4a7c0f9e162bce33576b315ececbb6406837bf51f5)

/-- The third point on the line of a slope through two, reflected. -/
def chord (k x1 y1 x2 : Nat) : Point :=
  let x := (k * k + 2 * fieldP - x1 - x2) % fieldP
  some (x, (k * (x1 + fieldP - x) + fieldP - y1) % fieldP)

/-- The sum of two points. -/
def pointAdd (p q : Point) : Point :=
  match p, q with
  | none, q => q
  | p, none => p
  | some (x1, y1), some (x2, y2) =>
    if x1 ≠ x2 then chord ((y2 + fieldP - y1) * invMod fieldP (x2 + fieldP - x1) % fieldP) x1 y1 x2
    else if (y1 + y2) % fieldP = 0 then none
    else chord ((3 * x1 * x1 + fieldP - 3) * invMod fieldP (2 * y1) % fieldP) x1 y1 x2

/-- The multiple of a point by the number whose low bits the fuel takes. -/
def pointMul : Nat → Nat → Point → Point
  | 0, _, _ => none
  | n + 1, k, p =>
    let r := pointMul n (k / 2) (pointAdd p p)
    if k % 2 = 1 then pointAdd p r else r

/-! ### Signatures -/

/-- `n` bytes of a number, most significant first. -/
def bytesBE (n v : Nat) : List Byte := (bytesLE n v).reverse

/-- A key or nonce drawn from 1 to the order less 1. -/
def toScalar (v : Nat) : Nat := v % (orderN - 1) + 1

/-- The public key of a private key: X then Y, 32 bytes each, big-endian (R86). -/
def publicKey (d : Nat) : List Byte :=
  match pointMul 256 d baseG with
  | some (x, y) => bytesBE 32 x ++ bytesBE 32 y
  | none => []

/-- The signature of a digest under a private key with a nonce: r then s, 32 bytes each, big-endian. -/
def ecdsaSign (d nonce : Nat) (digest : List Byte) : List Byte :=
  let r := match pointMul 256 nonce baseG with
    | some (x, _) => x % orderN
    | none => 0
  bytesBE 32 r ++ bytesBE 32 (invMod orderN nonce * (ofBytesBE digest + r * d) % orderN)

/-- A signature of a digest verifies under a public key. -/
def ecdsaVerify (q : Point) (r s : Nat) (digest : List Byte) : Bool :=
  let w := invMod orderN s
  match pointAdd (pointMul 256 (ofBytesBE digest * w % orderN) baseG) (pointMul 256 (r * w % orderN) q) with
  | some (x, _) => decide (0 < r ∧ r < orderN ∧ 0 < s ∧ s < orderN) && x % orderN == r
  | none => false

/-! ### The part's own -/

/-- The device certificate (R86): the device identifier, the public key, and Kyoson's signature over them. -/
def deviceCert : List Byte :=
  let f := bytesLE 8 Config.deviceId ++ publicKey (toScalar Config.privateKey)
  f ++ ecdsaSign (toScalar Config.kyosonKey) (toScalar Config.certNonce) (sha256 f)

/-- The signature of a proof's digest (R84). -/
def proofSig (digest : List Byte) (counter : Nat) : List Byte :=
  ecdsaSign (toScalar Config.privateKey) (toScalar (Config.proofNonce (ofBytesBE digest) counter)) digest

end Sys2Proof.Machine
end

