-- ==== Sys2Proof/Machine/Regs.lean ====
section
/-! DEFINITION. Bit fields of a register word, sparse storage keyed by address, and the shape of one entry of the
register map: what the map itself (RegMapA to RegMapC) is written in. -/
namespace Sys2Proof.Machine
open Sys2Proof

/-- A bit field: lowest bit and width. -/
structure Fld where
  lo : Nat
  w  : Nat
  deriving DecidableEq, Repr

/-- The field's value in a word. -/
def getF (x : Word) (f : Fld) : Nat := (x >>> f.lo).toNat % 2 ^ f.w

/-- The mask of a field's bits. -/
def maskF (f : Fld) : Word := BitVec.ofNat 32 ((2 ^ f.w - 1) * 2 ^ f.lo)

/-- A word with one field replaced, every other bit kept. -/
def setF (x : Word) (f : Fld) (v : Nat) : Word :=
  (x &&& ~~~maskF f) ||| ((BitVec.ofNat 32 v <<< f.lo) &&& maskF f)

/-- The field read as a two's-complement number. -/
def getFI (x : Word) (f : Fld) : Int :=
  let n := getF x f
  if n < 2 ^ (f.w - 1) then (n : Int) else (n : Int) - (2 ^ f.w : Nat)

/-- A number as a two's-complement field of `w` bits, saturating at the format's limits (R9). -/
def satI (w : Nat) (v : Int) : Nat :=
  let hi : Int := (2 ^ (w - 1) : Nat) - 1
  let lo : Int := -((2 ^ (w - 1) : Nat) : Int)
  let c := if v > hi then hi else if v < lo then lo else v
  (c % ((2 ^ w : Nat) : Int)).toNat

/-- A number in an unsigned field of `w` bits, saturating at the format's limits (R9). -/
def satN (w : Nat) (v : Int) : Nat :=
  if v < 0 then 0 else min v.toNat (2 ^ w - 1)

/-- Two's complement of `w` bits without saturation (R9: the accumulators wrap). -/
def wrapI (w : Nat) (v : Int) : Nat := (v % ((2 ^ w : Nat) : Int)).toNat

/-- A number read as two's complement of `w` bits. -/
def toI (w n : Nat) : Int := if n < 2 ^ (w - 1) then (n : Int) else (n : Int) - (2 ^ w : Nat)

/-! ### Sparse storage -/

/-- The value at key `k`; a key that is not listed holds `d k`. -/
def lookupD {α : Type} (d : Nat → α) : List (Nat × α) → Nat → α
  | [], k => d k
  | (a, v) :: r, k => if a = k then v else lookupD d r k

/-- Put an entry before the first larger key. -/
def insertAt {α : Type} (k : Nat) (v : α) : List (Nat × α) → List (Nat × α)
  | [] => [(k, v)]
  | (a, w) :: r => if k < a then (k, v) :: (a, w) :: r else (a, w) :: insertAt k v r

/-- Without the entries of key `k`. -/
def eraseAt {α : Type} (k : Nat) : List (Nat × α) → List (Nat × α)
  | [] => []
  | (a, w) :: r => if a = k then eraseAt k r else (a, w) :: eraseAt k r

/-- Write key `k`: the list stays sorted, and an entry equal to what an unlisted key holds is not listed. -/
def writeD {α : Type} [DecidableEq α] (d : Nat → α) (l : List (Nat × α)) (k : Nat) (v : α) : List (Nat × α) :=
  if v = d k then eraseAt k l else insertAt k v (eraseAt k l)

/-- The canonical form: keys strictly rising, no entry equal to what an unlisted key holds. -/
def canonD {α : Type} [DecidableEq α] (d : Nat → α) : List (Nat × α) → Bool
  | [] => true
  | [(a, v)] => decide (v ≠ d a)
  | (a, v) :: (b, w) :: r => decide (a < b) && decide (v ≠ d a) && canonD d ((b, w) :: r)

/-! ### Entries of the register map -/

/-- Access codes (R5). -/
inductive Access
  | rw | ro | w1c | w1s | wo | rwl
  deriving DecidableEq, Repr

/-- Reset domains (R63). -/
inductive Domain
  | dBak | dPwr | dProc
  deriving DecidableEq, Repr

/-- Who may write a register: anyone, anyone inside an unlock window (R444), or Burin alone (R443). -/
inductive Guard
  | free | prot | burin
  deriving DecidableEq, Repr

/-- One field of a register: its bits, access code and reset value. -/
structure FieldDef where
  fld : Fld
  acc : Access
  rst : Nat
  deriving DecidableEq, Repr

/-- One register or array of registers: base address, dimensions (count and stride, outermost first), domain, guard
and fields. Bits of no field are reserved, read as 0 (R8). -/
structure RegDef where
  base   : Nat
  dims   : List (Nat × Nat)
  dom    : Domain
  guard  : Guard
  fields : List FieldDef
  deriving DecidableEq, Repr

/-- The indices that an offset names within the dimensions, if it names a register. -/
def dimIndex : List (Nat × Nat) → Nat → Option (List Nat)
  | [], off => if off = 0 then some [] else none
  | (n, s) :: r, off =>
    if off / s < n then (dimIndex r (off % s)).map (fun l => (off / s) :: l) else none

/-- The indices an address has in a register array. -/
def RegDef.index (d : RegDef) (a : Nat) : Option (List Nat) :=
  if a < d.base then none else dimIndex d.dims (a - d.base)

/-- The word whose fields hold their reset values. -/
def fieldsReset : List FieldDef → Word
  | [] => 0
  | f :: r => setF (fieldsReset r) f.fld f.rst

end Sys2Proof.Machine
end

