-- ==== Sys2Proof/Machine/RegMapA.lean ====
section
/-! DEFINITION. The register map of blocks 0 to 5 (spec chapters 03 to 18): each register's address, fields, access codes and reset values. -/
namespace Sys2Proof.Machine

/-! ## Block 0 (R440) -/

/-- CLK_CFG (R50): address. -/
def CLK_CFG : Nat := 0x40000000
def CLK_CFG_SRC : Fld := ⟨0, 2⟩
def CLK_CFG_FRM_ROLE : Fld := ⟨4, 2⟩
def regDefCLK_CFG : RegDef := ⟨0x40000000, [], .dPwr, .free,
  [⟨CLK_CFG_SRC, .rwl, 0⟩, ⟨CLK_CFG_FRM_ROLE, .rwl, 0⟩]⟩
/-- CLK_STAT (R51): address. -/
def CLK_STAT : Nat := 0x40000004
def CLK_STAT_ACTIVE : Fld := ⟨0, 1⟩
def CLK_STAT_PRI_FENCED : Fld := ⟨1, 1⟩
def CLK_STAT_SPR_FENCED : Fld := ⟨2, 1⟩
def CLK_STAT_PLL_LOCK : Fld := ⟨3, 1⟩
def CLK_STAT_REF_PRESENT : Fld := ⟨4, 1⟩
def CLK_STAT_XTAL_OK : Fld := ⟨5, 1⟩
def CLK_STAT_DISC_LOCK : Fld := ⟨6, 1⟩
def CLK_STAT_FRM_ALIGNED : Fld := ⟨7, 1⟩
def CLK_STAT_HOLDOVER : Fld := ⟨8, 1⟩
def regDefCLK_STAT : RegDef := ⟨0x40000004, [], .dPwr, .free,
  [⟨CLK_STAT_ACTIVE, .ro, 0⟩, ⟨CLK_STAT_PRI_FENCED, .ro, 0⟩, ⟨CLK_STAT_SPR_FENCED, .ro, 0⟩, ⟨CLK_STAT_PLL_LOCK, .ro, 0⟩, ⟨CLK_STAT_REF_PRESENT, .ro, 0⟩, ⟨CLK_STAT_XTAL_OK, .ro, 0⟩, ⟨CLK_STAT_DISC_LOCK, .ro, 0⟩, ⟨CLK_STAT_FRM_ALIGNED, .ro, 0⟩, ⟨CLK_STAT_HOLDOVER, .ro, 0⟩]⟩
/-- FRM_NUM (R57): address. -/
def FRM_NUM : Nat := 0x40000010
def FRM_NUM_NUM : Fld := ⟨0, 32⟩
def regDefFRM_NUM : RegDef := ⟨0x40000010, [], .dPwr, .free,
  [⟨FRM_NUM_NUM, .ro, 0⟩]⟩
/-- FRM_SIB (R61): address. -/
def FRM_SIB : Nat := 0x40000014
def FRM_SIB_OFS : Fld := ⟨0, 16⟩
def regDefFRM_SIB : RegDef := ⟨0x40000014, [], .dPwr, .free,
  [⟨FRM_SIB_OFS, .ro, 0⟩]⟩
/-- FRM_SIB_DELTA (R61): address. -/
def FRM_SIB_DELTA : Nat := 0x40000018
def FRM_SIB_DELTA_DELTA : Fld := ⟨0, 32⟩
def regDefFRM_SIB_DELTA : RegDef := ⟨0x40000018, [], .dPwr, .free,
  [⟨FRM_SIB_DELTA_DELTA, .ro, 0⟩]⟩
/-- SYS_PROT (R450): address. -/
def SYS_PROT : Nat := 0x40000040
def SYS_PROT_SRC_EN : Fld := ⟨0, 5⟩
def SYS_PROT_UNL_T : Fld := ⟨8, 8⟩
def SYS_PROT_LOCK : Fld := ⟨16, 1⟩
def regDefSYS_PROT : RegDef := ⟨0x40000040, [], .dPwr, .prot,
  [⟨SYS_PROT_SRC_EN, .rw, 1⟩, ⟨SYS_PROT_UNL_T, .rw, 100⟩, ⟨SYS_PROT_LOCK, .rwl, 0⟩]⟩
/-- SYS_UNLOCK (R445): address. -/
def SYS_UNLOCK : Nat := 0x40000044
def SYS_UNLOCK_KEY : Fld := ⟨0, 8⟩
def SYS_UNLOCK_BLOCK : Fld := ⟨8, 5⟩
def regDefSYS_UNLOCK : RegDef := ⟨0x40000044, [], .dPwr, .free,
  [⟨SYS_UNLOCK_KEY, .wo, 0⟩, ⟨SYS_UNLOCK_BLOCK, .wo, 0⟩]⟩
/-- SYS_UNL_STAT (R447): address. -/
def SYS_UNL_STAT : Nat := 0x40000048
def SYS_UNL_STAT_OPEN : Fld := ⟨0, 1⟩
def SYS_UNL_STAT_SRC : Fld := ⟨1, 3⟩
def SYS_UNL_STAT_REFUSED : Fld := ⟨4, 1⟩
def SYS_UNL_STAT_BLOCK : Fld := ⟨8, 5⟩
def SYS_UNL_STAT_LEFT : Fld := ⟨16, 16⟩
def regDefSYS_UNL_STAT : RegDef := ⟨0x40000048, [], .dPwr, .free,
  [⟨SYS_UNL_STAT_OPEN, .ro, 0⟩, ⟨SYS_UNL_STAT_SRC, .ro, 0⟩, ⟨SYS_UNL_STAT_REFUSED, .w1c, 0⟩, ⟨SYS_UNL_STAT_BLOCK, .ro, 0⟩, ⟨SYS_UNL_STAT_LEFT, .ro, 0⟩]⟩
/-- SYS_ACT (R442): address. -/
def SYS_ACT : Nat := 0x4000004c
def SYS_ACT_SRC : Fld := ⟨0, 3⟩
def regDefSYS_ACT : RegDef := ⟨0x4000004c, [], .dProc, .free,
  [⟨SYS_ACT_SRC, .rw, 0⟩]⟩

/-- The registers of block 0. -/
def blockRegs0 : List RegDef :=
  [regDefCLK_CFG, regDefCLK_STAT, regDefFRM_NUM, regDefFRM_SIB, regDefFRM_SIB_DELTA, regDefSYS_PROT,
   regDefSYS_UNLOCK, regDefSYS_UNL_STAT, regDefSYS_ACT]

/-! ## Block 1 (R440) -/

/-- RST_CAUSE (R63): address. -/
def RST_CAUSE : Nat := 0x40001000
def RST_CAUSE_COLD : Fld := ⟨0, 1⟩
def RST_CAUSE_WDOG : Fld := ⟨1, 1⟩
def RST_CAUSE_LOCKSTEP : Fld := ⟨2, 1⟩
def RST_CAUSE_PIN : Fld := ⟨3, 1⟩
def RST_CAUSE_CMD : Fld := ⟨4, 1⟩
def RST_CAUSE_CLKREC : Fld := ⟨5, 1⟩
def RST_CAUSE_TCM : Fld := ⟨6, 1⟩
def regDefRST_CAUSE : RegDef := ⟨0x40001000, [], .dPwr, .free,
  [⟨RST_CAUSE_COLD, .w1c, 1⟩, ⟨RST_CAUSE_WDOG, .w1c, 0⟩, ⟨RST_CAUSE_LOCKSTEP, .w1c, 0⟩, ⟨RST_CAUSE_PIN, .w1c, 0⟩, ⟨RST_CAUSE_CMD, .w1c, 0⟩, ⟨RST_CAUSE_CLKREC, .w1c, 0⟩, ⟨RST_CAUSE_TCM, .w1c, 0⟩]⟩
/-- RST_CFG (R63): address. -/
def RST_CFG : Nat := 0x40001004
def RST_CFG_PIN_EN : Fld := ⟨0, 1⟩
def regDefRST_CFG : RegDef := ⟨0x40001004, [], .dPwr, .free,
  [⟨RST_CFG_PIN_EN, .rwl, 1⟩]⟩
/-- PWR_STATE (R67): address. -/
def PWR_STATE : Nat := 0x40001008
def PWR_STATE_AUTON : Fld := ⟨0, 1⟩
def PWR_STATE_WARM : Fld := ⟨1, 1⟩
def PWR_STATE_STBY_REJ : Fld := ⟨2, 1⟩
def regDefPWR_STATE : RegDef := ⟨0x40001008, [], .dPwr, .free,
  [⟨PWR_STATE_AUTON, .ro, 1⟩, ⟨PWR_STATE_WARM, .ro, 0⟩, ⟨PWR_STATE_STBY_REJ, .w1c, 0⟩]⟩
/-- PWR_CTL (R67): address. -/
def PWR_CTL : Nat := 0x4000100c
def PWR_CTL_STANDBY_REQ : Fld := ⟨0, 1⟩
def regDefPWR_CTL : RegDef := ⟨0x4000100c, [], .dPwr, .free,
  [⟨PWR_CTL_STANDBY_REQ, .wo, 0⟩]⟩
/-- PWR_WAKE_EN (R68): address. -/
def PWR_WAKE_EN : Nat := 0x40001010
def PWR_WAKE_EN_ADDR_A : Fld := ⟨0, 1⟩
def PWR_WAKE_EN_ADDR_B : Fld := ⟨1, 1⟩
def PWR_WAKE_EN_CS_C : Fld := ⟨2, 1⟩
def PWR_WAKE_EN_SIB : Fld := ⟨3, 1⟩
def PWR_WAKE_EN_RTC : Fld := ⟨4, 1⟩
def PWR_WAKE_EN_GAUGE : Fld := ⟨5, 1⟩
def PWR_WAKE_EN_FEED : Fld := ⟨6, 1⟩
def regDefPWR_WAKE_EN : RegDef := ⟨0x40001010, [], .dPwr, .free,
  [⟨PWR_WAKE_EN_ADDR_A, .rw, 1⟩, ⟨PWR_WAKE_EN_ADDR_B, .rw, 1⟩, ⟨PWR_WAKE_EN_CS_C, .rw, 1⟩, ⟨PWR_WAKE_EN_SIB, .rw, 1⟩, ⟨PWR_WAKE_EN_RTC, .rw, 1⟩, ⟨PWR_WAKE_EN_GAUGE, .rw, 1⟩, ⟨PWR_WAKE_EN_FEED, .rw, 1⟩]⟩
/-- PWR_WAKE_SRC (R68): address. -/
def PWR_WAKE_SRC : Nat := 0x40001014
def PWR_WAKE_SRC_ADDR_A : Fld := ⟨0, 1⟩
def PWR_WAKE_SRC_ADDR_B : Fld := ⟨1, 1⟩
def PWR_WAKE_SRC_CS_C : Fld := ⟨2, 1⟩
def PWR_WAKE_SRC_SIB : Fld := ⟨3, 1⟩
def PWR_WAKE_SRC_RTC : Fld := ⟨4, 1⟩
def PWR_WAKE_SRC_GAUGE : Fld := ⟨5, 1⟩
def PWR_WAKE_SRC_FEED : Fld := ⟨6, 1⟩
def regDefPWR_WAKE_SRC : RegDef := ⟨0x40001014, [], .dPwr, .free,
  [⟨PWR_WAKE_SRC_ADDR_A, .w1c, 0⟩, ⟨PWR_WAKE_SRC_ADDR_B, .w1c, 0⟩, ⟨PWR_WAKE_SRC_CS_C, .w1c, 0⟩, ⟨PWR_WAKE_SRC_SIB, .w1c, 0⟩, ⟨PWR_WAKE_SRC_RTC, .w1c, 0⟩, ⟨PWR_WAKE_SRC_GAUGE, .w1c, 0⟩, ⟨PWR_WAKE_SRC_FEED, .w1c, 0⟩]⟩
/-- PWR_CYCLES (R64): address. -/
def PWR_CYCLES : Nat := 0x40001018
def PWR_CYCLES_COUNT : Fld := ⟨0, 32⟩
def regDefPWR_CYCLES : RegDef := ⟨0x40001018, [], .dPwr, .free,
  [⟨PWR_CYCLES_COUNT, .ro, 0⟩]⟩

/-- The registers of block 1. -/
def blockRegs1 : List RegDef :=
  [regDefRST_CAUSE, regDefRST_CFG, regDefPWR_STATE, regDefPWR_CTL, regDefPWR_WAKE_EN, regDefPWR_WAKE_SRC,
   regDefPWR_CYCLES]

/-! ## Block 2 (R440) -/

/-- FLT_CTL (R321): address. -/
def FLT_CTL : Nat := 0x40002000
def FLT_CTL_ERR_C : Fld := ⟨0, 1⟩
def FLT_CTL_ERR_U : Fld := ⟨1, 1⟩
def FLT_CTL_ERR_F : Fld := ⟨2, 1⟩
def regDefFLT_CTL : RegDef := ⟨0x40002000, [], .dPwr, .prot,
  [⟨FLT_CTL_ERR_C, .rw, 0⟩, ⟨FLT_CTL_ERR_U, .rw, 1⟩, ⟨FLT_CTL_ERR_F, .ro, 1⟩]⟩
/-- FLT_STAT (R321): address. -/
def FLT_STAT : Nat := 0x40002004
def FLT_STAT_ERR : Fld := ⟨0, 1⟩
def FLT_STAT_FATAL : Fld := ⟨1, 1⟩
def FLT_STAT_NSET : Fld := ⟨8, 9⟩
def regDefFLT_STAT : RegDef := ⟨0x40002004, [], .dPwr, .free,
  [⟨FLT_STAT_ERR, .ro, 1⟩, ⟨FLT_STAT_FATAL, .ro, 0⟩, ⟨FLT_STAT_NSET, .ro, 0⟩]⟩
/-- FLT_STICKY (R312): address. -/
def FLT_STICKY (i : Nat) : Nat := 0x40002040 + 0x4 * i
def FLT_STICKY_STICKY : Fld := ⟨0, 32⟩
def regDefFLT_STICKY : RegDef := ⟨0x40002040, [(8, 0x4)], .dPwr, .free,
  [⟨FLT_STICKY_STICKY, .w1c, 0⟩]⟩
/-- FLT_FORCE (R313): address. -/
def FLT_FORCE (i : Nat) : Nat := 0x40002060 + 0x4 * i
def FLT_FORCE_FORCE : Fld := ⟨0, 32⟩
def regDefFLT_FORCE : RegDef := ⟨0x40002060, [(8, 0x4)], .dPwr, .prot,
  [⟨FLT_FORCE_FORCE, .wo, 0⟩]⟩
/-- FLT_CFG (R323): address. -/
def FLT_CFG (i : Nat) : Nat := 0x40002400 + 0x4 * i
def FLT_CFG_SEV : Fld := ⟨0, 3⟩
def FLT_CFG_PLATE_EN : Fld := ⟨3, 1⟩
def FLT_CFG_NOTE : Fld := ⟨4, 4⟩
def FLT_CFG_LABEL : Fld := ⟨8, 6⟩
def FLT_CFG_FAULT_EN : Fld := ⟨14, 1⟩
def FLT_CFG_CLASS : Fld := ⟨16, 2⟩
def FLT_CFG_FCODES : Fld := ⟨20, 12⟩
def regDefFLT_CFG : RegDef := ⟨0x40002400, [(256, 0x4)], .dPwr, .prot,
  [⟨FLT_CFG_SEV, .rw, 0⟩, ⟨FLT_CFG_PLATE_EN, .rw, 1⟩, ⟨FLT_CFG_NOTE, .rw, 0⟩, ⟨FLT_CFG_LABEL, .rw, 2⟩, ⟨FLT_CFG_FAULT_EN, .rw, 0⟩, ⟨FLT_CFG_CLASS, .rw, 0⟩, ⟨FLT_CFG_FCODES, .rw, 0⟩]⟩
/-- FLT_INFO (R312): address. -/
def FLT_INFO (i : Nat) : Nat := 0x40002800 + 0x4 * i
def FLT_INFO_CODE : Fld := ⟨0, 8⟩
def FLT_INFO_CLS : Fld := ⟨8, 2⟩
def FLT_INFO_FORCED : Fld := ⟨10, 1⟩
def FLT_INFO_COUNT : Fld := ⟨12, 12⟩
def FLT_INFO_FRAME : Fld := ⟨24, 8⟩
def regDefFLT_INFO : RegDef := ⟨0x40002800, [(256, 0x4)], .dPwr, .free,
  [⟨FLT_INFO_CODE, .ro, 0⟩, ⟨FLT_INFO_CLS, .ro, 0⟩, ⟨FLT_INFO_FORCED, .ro, 0⟩, ⟨FLT_INFO_COUNT, .ro, 0⟩, ⟨FLT_INFO_FRAME, .ro, 0⟩]⟩
/-- MEV_FENCE (R316): address. -/
def MEV_FENCE (i : Nat) : Nat := 0x40002c00 + 0x4 * i
def MEV_FENCE_TARGET : Fld := ⟨0, 8⟩
def MEV_FENCE_KIND : Fld := ⟨8, 2⟩
def regDefMEV_FENCE : RegDef := ⟨0x40002c00, [(96, 0x4)], .dPwr, .prot,
  [⟨MEV_FENCE_TARGET, .rw, 0⟩, ⟨MEV_FENCE_KIND, .rw, 0⟩]⟩

/-- The registers of block 2. -/
def blockRegs2 : List RegDef :=
  [regDefFLT_CTL, regDefFLT_STAT, regDefFLT_STICKY, regDefFLT_FORCE, regDefFLT_CFG, regDefFLT_INFO,
   regDefMEV_FENCE]

/-! ## Block 3 (R440) -/

/-- WD_CFG (R328): address. -/
def WD_CFG : Nat := 0x40003000
def WD_CFG_PERIOD : Fld := ⟨0, 10⟩
def regDefWD_CFG : RegDef := ⟨0x40003000, [], .dPwr, .prot,
  [⟨WD_CFG_PERIOD, .rw, 1000⟩]⟩
/-- WD_FUSE0 (R327): address. -/
def WD_FUSE0 : Nat := 0x40003004
def WD_FUSE0_PMIN : Fld := ⟨0, 10⟩
def WD_FUSE0_PMAX : Fld := ⟨16, 10⟩
def regDefWD_FUSE0 : RegDef := ⟨0x40003004, [], .dPwr, .free,
  [⟨WD_FUSE0_PMIN, .ro, 0⟩, ⟨WD_FUSE0_PMAX, .ro, 0⟩]⟩
/-- WD_FUSE1 (R327): address. -/
def WD_FUSE1 : Nat := 0x40003008
def WD_FUSE1_OUT_W : Fld := ⟨0, 8⟩
def WD_FUSE1_WIN : Fld := ⟨8, 2⟩
def regDefWD_FUSE1 : RegDef := ⟨0x40003008, [], .dPwr, .free,
  [⟨WD_FUSE1_OUT_W, .ro, 0⟩, ⟨WD_FUSE1_WIN, .ro, 0⟩]⟩
/-- WD_SLOT_EN (R329): address. -/
def WD_SLOT_EN : Nat := 0x4000300c
def WD_SLOT_EN_EN0 : Fld := ⟨0, 1⟩
def WD_SLOT_EN_EN : Fld := ⟨1, 15⟩
def regDefWD_SLOT_EN : RegDef := ⟨0x4000300c, [], .dPwr, .prot,
  [⟨WD_SLOT_EN_EN0, .ro, 1⟩, ⟨WD_SLOT_EN_EN, .rw, 0⟩]⟩
/-- WD_OWN (R329): address. -/
def WD_OWN (i : Nat) : Nat := 0x40003010 + 0x4 * i
def WD_OWN_OWNER0 : Fld := ⟨0, 3⟩
def WD_OWN_OWNER1 : Fld := ⟨4, 3⟩
def WD_OWN_OWNER2 : Fld := ⟨8, 3⟩
def WD_OWN_OWNER3 : Fld := ⟨12, 3⟩
def WD_OWN_OWNER4 : Fld := ⟨16, 3⟩
def WD_OWN_OWNER5 : Fld := ⟨20, 3⟩
def WD_OWN_OWNER6 : Fld := ⟨24, 3⟩
def WD_OWN_OWNER7 : Fld := ⟨28, 3⟩
def regDefWD_OWN : RegDef := ⟨0x40003010, [(2, 0x4)], .dPwr, .prot,
  [⟨WD_OWN_OWNER0, .rw, 0⟩, ⟨WD_OWN_OWNER1, .rw, 0⟩, ⟨WD_OWN_OWNER2, .rw, 0⟩, ⟨WD_OWN_OWNER3, .rw, 0⟩, ⟨WD_OWN_OWNER4, .rw, 0⟩, ⟨WD_OWN_OWNER5, .rw, 0⟩, ⟨WD_OWN_OWNER6, .rw, 0⟩, ⟨WD_OWN_OWNER7, .rw, 0⟩]⟩
/-- WD_CHECKIN (R330): address. -/
def WD_CHECKIN : Nat := 0x40003018
def WD_CHECKIN_WORD : Fld := ⟨0, 32⟩
def regDefWD_CHECKIN : RegDef := ⟨0x40003018, [], .dPwr, .free,
  [⟨WD_CHECKIN_WORD, .wo, 0⟩]⟩
/-- WD_STAT (R331): address. -/
def WD_STAT : Nat := 0x4000301c
def WD_STAT_DONE : Fld := ⟨0, 16⟩
def WD_STAT_OPEN : Fld := ⟨16, 1⟩
def WD_STAT_HOSTREQ : Fld := ⟨17, 1⟩
def WD_STAT_OUT : Fld := ⟨18, 1⟩
def WD_STAT_IGN : Fld := ⟨19, 1⟩
def regDefWD_STAT : RegDef := ⟨0x4000301c, [], .dPwr, .free,
  [⟨WD_STAT_DONE, .ro, 0⟩, ⟨WD_STAT_OPEN, .ro, 0⟩, ⟨WD_STAT_HOSTREQ, .ro, 0⟩, ⟨WD_STAT_OUT, .ro, 0⟩, ⟨WD_STAT_IGN, .w1c, 0⟩]⟩
/-- WD_SEQ (R331): address. -/
def WD_SEQ : Nat := 0x40003020
def WD_SEQ_SEQ : Fld := ⟨0, 32⟩
def regDefWD_SEQ : RegDef := ⟨0x40003020, [], .dPwr, .free,
  [⟨WD_SEQ_SEQ, .ro, 0⟩]⟩
/-- WD_LAST (R333): address. -/
def WD_LAST : Nat := 0x40003024
def WD_LAST_CODE : Fld := ⟨0, 8⟩
def WD_LAST_INFO : Fld := ⟨8, 16⟩
def regDefWD_LAST : RegDef := ⟨0x40003024, [], .dPwr, .free,
  [⟨WD_LAST_CODE, .ro, 0⟩, ⟨WD_LAST_INFO, .ro, 0⟩]⟩
/-- WD_EXP (R333): address. -/
def WD_EXP : Nat := 0x40003028
def WD_EXP_COUNT : Fld := ⟨0, 32⟩
def regDefWD_EXP : RegDef := ⟨0x40003028, [], .dPwr, .free,
  [⟨WD_EXP_COUNT, .ro, 0⟩]⟩

/-- The registers of block 3. -/
def blockRegs3 : List RegDef :=
  [regDefWD_CFG, regDefWD_FUSE0, regDefWD_FUSE1, regDefWD_SLOT_EN, regDefWD_OWN, regDefWD_CHECKIN,
   regDefWD_STAT, regDefWD_SEQ, regDefWD_LAST, regDefWD_EXP]

/-! ## Block 4 (R440) -/

/-- IC_CTL (R90): address. -/
def IC_CTL : Nat := 0x40004000
def IC_CTL_EN : Fld := ⟨0, 1⟩
def regDefIC_CTL : RegDef := ⟨0x40004000, [], .dProc, .free,
  [⟨IC_CTL_EN, .rw, 0⟩]⟩
/-- IC_STAT (R91): address. -/
def IC_STAT : Nat := 0x40004004
def IC_STAT_NONEMPTY : Fld := ⟨0, 8⟩
def IC_STAT_BAD_DB : Fld := ⟨8, 1⟩
def regDefIC_STAT : RegDef := ⟨0x40004004, [], .dProc, .free,
  [⟨IC_STAT_NONEMPTY, .ro, 0⟩, ⟨IC_STAT_BAD_DB, .w1c, 0⟩]⟩
/-- IC_CLAIM (R92): address. -/
def IC_CLAIM : Nat := 0x40004008
def IC_CLAIM_WORD : Fld := ⟨0, 32⟩
def regDefIC_CLAIM : RegDef := ⟨0x40004008, [], .dProc, .free,
  [⟨IC_CLAIM_WORD, .ro, 0⟩]⟩
/-- IC_SWDB (R90): address. -/
def IC_SWDB : Nat := 0x4000400c
def IC_SWDB_WORD : Fld := ⟨0, 32⟩
def regDefIC_SWDB : RegDef := ⟨0x4000400c, [], .dProc, .free,
  [⟨IC_SWDB_WORD, .wo, 0⟩]⟩
/-- IC_RING_BASE (R91): address. -/
def IC_RING_BASE : Nat := 0x40004010
def IC_RING_BASE_BASE : Fld := ⟨10, 7⟩
def IC_RING_BASE_TCM : Fld := ⟨17, 15⟩
def regDefIC_RING_BASE : RegDef := ⟨0x40004010, [], .dProc, .free,
  [⟨IC_RING_BASE_BASE, .rw, 127⟩, ⟨IC_RING_BASE_TCM, .ro, 4096⟩]⟩
/-- IC_PRIO (R90): address. -/
def IC_PRIO (i : Nat) : Nat := 0x40004100 + 0x4 * i
def IC_PRIO_RING0 : Fld := ⟨0, 3⟩
def IC_PRIO_EN0 : Fld := ⟨7, 1⟩
def IC_PRIO_RING1 : Fld := ⟨8, 3⟩
def IC_PRIO_EN1 : Fld := ⟨15, 1⟩
def IC_PRIO_RING2 : Fld := ⟨16, 3⟩
def IC_PRIO_EN2 : Fld := ⟨23, 1⟩
def IC_PRIO_RING3 : Fld := ⟨24, 3⟩
def IC_PRIO_EN3 : Fld := ⟨31, 1⟩
def regDefIC_PRIO : RegDef := ⟨0x40004100, [(64, 0x4)], .dProc, .free,
  [⟨IC_PRIO_RING0, .rw, 0⟩, ⟨IC_PRIO_EN0, .rw, 0⟩, ⟨IC_PRIO_RING1, .rw, 0⟩, ⟨IC_PRIO_EN1, .rw, 0⟩, ⟨IC_PRIO_RING2, .rw, 0⟩, ⟨IC_PRIO_EN2, .rw, 0⟩, ⟨IC_PRIO_RING3, .rw, 0⟩, ⟨IC_PRIO_EN3, .rw, 0⟩]⟩
/-- IC_OVF (R93): address. -/
def IC_OVF (i : Nat) : Nat := 0x40004400 + 0x4 * i
def IC_OVF_COUNT : Fld := ⟨0, 8⟩
def IC_OVF_OVF : Fld := ⟨8, 1⟩
def regDefIC_OVF : RegDef := ⟨0x40004400, [(256, 0x4)], .dProc, .free,
  [⟨IC_OVF_COUNT, .ro, 0⟩, ⟨IC_OVF_OVF, .w1c, 0⟩]⟩

/-- The registers of block 4. -/
def blockRegs4 : List RegDef :=
  [regDefIC_CTL, regDefIC_STAT, regDefIC_CLAIM, regDefIC_SWDB, regDefIC_RING_BASE, regDefIC_PRIO,
   regDefIC_OVF]

/-! ## Block 5 (R440) -/

/-- SYNC_CFG (R121): address. -/
def SYNC_CFG : Nat := 0x40010000
def SYNC_CFG_LOSS_MODE : Fld := ⟨0, 1⟩
def SYNC_CFG_RANGE : Fld := ⟨1, 2⟩
def SYNC_CFG_OUT_SRC : Fld := ⟨4, 2⟩
def SYNC_CFG_OUT_EN : Fld := ⟨6, 1⟩
def SYNC_CFG_OUT_OFS : Fld := ⟨8, 8⟩
def regDefSYNC_CFG : RegDef := ⟨0x40010000, [], .dPwr, .free,
  [⟨SYNC_CFG_LOSS_MODE, .rw, 0⟩, ⟨SYNC_CFG_RANGE, .rw, 1⟩, ⟨SYNC_CFG_OUT_SRC, .rw, 0⟩, ⟨SYNC_CFG_OUT_EN, .rw, 0⟩, ⟨SYNC_CFG_OUT_OFS, .rw, 0⟩]⟩
/-- SYNC_STAT (R121): address. -/
def SYNC_STAT : Nat := 0x40010004
def SYNC_STAT_PRESENT : Fld := ⟨0, 1⟩
def SYNC_STAT_QUAL : Fld := ⟨1, 1⟩
def SYNC_STAT_LOST : Fld := ⟨2, 1⟩
def SYNC_STAT_RANGE_ERR : Fld := ⟨3, 1⟩
def SYNC_STAT_PER : Fld := ⟨16, 16⟩
def regDefSYNC_STAT : RegDef := ⟨0x40010004, [], .dPwr, .free,
  [⟨SYNC_STAT_PRESENT, .ro, 0⟩, ⟨SYNC_STAT_QUAL, .ro, 0⟩, ⟨SYNC_STAT_LOST, .w1c, 0⟩, ⟨SYNC_STAT_RANGE_ERR, .w1c, 0⟩, ⟨SYNC_STAT_PER, .ro, 0⟩]⟩
/-- DLL_STAT (R117): address. -/
def DLL_STAT : Nat := 0x40010008
def DLL_STAT_AGE : Fld := ⟨0, 8⟩
def DLL_STAT_FAIL_CNT : Fld := ⟨8, 8⟩
def DLL_STAT_CAL_FAIL : Fld := ⟨16, 1⟩
def regDefDLL_STAT : RegDef := ⟨0x40010008, [], .dPwr, .free,
  [⟨DLL_STAT_AGE, .ro, 255⟩, ⟨DLL_STAT_FAIL_CNT, .ro, 0⟩, ⟨DLL_STAT_CAL_FAIL, .w1c, 0⟩]⟩
/-- PE_STAT (R97): address. -/
def PE_STAT : Nat := 0x4001000c
def PE_STAT_CFG_IGN : Fld := ⟨0, 1⟩
def PE_STAT_STG_FLT : Fld := ⟨1, 1⟩
def PE_STAT_FLT_UNATTR : Fld := ⟨2, 1⟩
def regDefPE_STAT : RegDef := ⟨0x4001000c, [], .dPwr, .free,
  [⟨PE_STAT_CFG_IGN, .w1c, 0⟩, ⟨PE_STAT_STG_FLT, .ro, 0⟩, ⟨PE_STAT_FLT_UNATTR, .w1c, 0⟩]⟩
/-- PH_CFG (R97): address. -/
def PH_CFG (i : Nat) : Nat := 0x40010100 + 0x20 * i
def PH_CFG_ROLE : Fld := ⟨0, 2⟩
def PH_CFG_LOOP : Fld := ⟨2, 2⟩
def PH_CFG_POS : Fld := ⟨4, 4⟩
def regDefPH_CFG : RegDef := ⟨0x40010100, [(16, 0x20)], .dPwr, .prot,
  [⟨PH_CFG_ROLE, .rw, 0⟩, ⟨PH_CFG_LOOP, .rw, 0⟩, ⟨PH_CFG_POS, .rw, 0⟩]⟩
/-- PH_IMON (R104): address. -/
def PH_IMON (i : Nat) : Nat := 0x40010104 + 0x20 * i
def PH_IMON_GAIN : Fld := ⟨0, 16⟩
def PH_IMON_OFS : Fld := ⟨16, 16⟩
def regDefPH_IMON : RegDef := ⟨0x40010104, [(16, 0x20)], .dPwr, .prot,
  [⟨PH_IMON_GAIN, .rw, 10000⟩, ⟨PH_IMON_OFS, .rw, 8000⟩]⟩
/-- PH_CTL (R147): address. -/
def PH_CTL (i : Nat) : Nat := 0x40010108 + 0x20 * i
def PH_CTL_FENCE : Fld := ⟨0, 1⟩
def PH_CTL_SUBST_REQ : Fld := ⟨1, 1⟩
def regDefPH_CTL : RegDef := ⟨0x40010108, [(16, 0x20)], .dPwr, .free,
  [⟨PH_CTL_FENCE, .w1s, 0⟩, ⟨PH_CTL_SUBST_REQ, .wo, 0⟩]⟩
/-- PH_STAT (R98): address. -/
def PH_STAT (i : Nat) : Nat := 0x4001010c + 0x20 * i
def PH_STAT_STATE : Fld := ⟨0, 3⟩
def PH_STAT_SUBST : Fld := ⟨3, 1⟩
def PH_STAT_SLOT : Fld := ⟨4, 4⟩
def PH_STAT_STG_FAULT : Fld := ⟨8, 1⟩
def PH_STAT_OC : Fld := ⟨9, 1⟩
def PH_STAT_IMB : Fld := ⟨10, 1⟩
def PH_STAT_IMON_RANGE : Fld := ⟨11, 1⟩
def regDefPH_STAT : RegDef := ⟨0x4001010c, [(16, 0x20)], .dPwr, .free,
  [⟨PH_STAT_STATE, .ro, 0⟩, ⟨PH_STAT_SUBST, .ro, 0⟩, ⟨PH_STAT_SLOT, .ro, 0⟩, ⟨PH_STAT_STG_FAULT, .w1c, 0⟩, ⟨PH_STAT_OC, .w1c, 0⟩, ⟨PH_STAT_IMB, .w1c, 0⟩, ⟨PH_STAT_IMON_RANGE, .w1c, 0⟩]⟩
/-- PH_TEL (R125): address. -/
def PH_TEL (i : Nat) : Nat := 0x40010110 + 0x20 * i
def PH_TEL_I_AVG : Fld := ⟨0, 16⟩
def PH_TEL_I_PK : Fld := ⟨16, 16⟩
def regDefPH_TEL : RegDef := ⟨0x40010110, [(16, 0x20)], .dPwr, .free,
  [⟨PH_TEL_I_AVG, .ro, 0⟩, ⟨PH_TEL_I_PK, .ro, 0⟩]⟩
/-- PH_DUTY (R116): address. -/
def PH_DUTY (i : Nat) : Nat := 0x40010114 + 0x20 * i
def PH_DUTY_TON : Fld := ⟨0, 16⟩
def PH_DUTY_OFS : Fld := ⟨16, 16⟩
def regDefPH_DUTY : RegDef := ⟨0x40010114, [(16, 0x20)], .dPwr, .free,
  [⟨PH_DUTY_TON, .ro, 0⟩, ⟨PH_DUTY_OFS, .ro, 0⟩]⟩
/-- LOOP_CTL (R108): address. -/
def LOOP_CTL (i : Nat) : Nat := 0x40011000 + 0x400 * i
def LOOP_CTL_EN : Fld := ⟨0, 1⟩
def LOOP_CTL_SOFT_STOP : Fld := ⟨1, 1⟩
def LOOP_CTL_SHED_EN : Fld := ⟨2, 1⟩
def LOOP_CTL_BRAKE_EN : Fld := ⟨3, 1⟩
def LOOP_CTL_APF_EN : Fld := ⟨4, 1⟩
def LOOP_CTL_TSTG : Fld := ⟨8, 8⟩
def LOOP_CTL_PG_WIN : Fld := ⟨16, 8⟩
def LOOP_CTL_PG_FILT : Fld := ⟨24, 8⟩
def regDefLOOP_CTL : RegDef := ⟨0x40011000, [(4, 0x400)], .dPwr, .free,
  [⟨LOOP_CTL_EN, .rw, 0⟩, ⟨LOOP_CTL_SOFT_STOP, .rw, 1⟩, ⟨LOOP_CTL_SHED_EN, .rw, 0⟩, ⟨LOOP_CTL_BRAKE_EN, .rw, 1⟩, ⟨LOOP_CTL_APF_EN, .rw, 1⟩, ⟨LOOP_CTL_TSTG, .rw, 20⟩, ⟨LOOP_CTL_PG_WIN, .rw, 32⟩, ⟨LOOP_CTL_PG_FILT, .rw, 5⟩]⟩
/-- LOOP_STAT (R108): address. -/
def LOOP_STAT (i : Nat) : Nat := 0x40011004 + 0x400 * i
def LOOP_STAT_ON : Fld := ⟨0, 1⟩
def LOOP_STAT_RAMP : Fld := ⟨1, 1⟩
def LOOP_STAT_PG : Fld := ⟨2, 1⟩
def LOOP_STAT_OOW : Fld := ⟨3, 1⟩
def LOOP_STAT_SYNCED : Fld := ⟨4, 1⟩
def LOOP_STAT_APF : Fld := ⟨5, 1⟩
def LOOP_STAT_BRAKE : Fld := ⟨6, 1⟩
def LOOP_STAT_VCLAMP : Fld := ⟨7, 1⟩
def LOOP_STAT_NACT : Fld := ⟨8, 5⟩
def LOOP_STAT_SPARES : Fld := ⟨13, 2⟩
def LOOP_STAT_WR_IGN : Fld := ⟨16, 1⟩
def regDefLOOP_STAT : RegDef := ⟨0x40011004, [(4, 0x400)], .dPwr, .free,
  [⟨LOOP_STAT_ON, .ro, 0⟩, ⟨LOOP_STAT_RAMP, .ro, 0⟩, ⟨LOOP_STAT_PG, .ro, 0⟩, ⟨LOOP_STAT_OOW, .ro, 0⟩, ⟨LOOP_STAT_SYNCED, .ro, 0⟩, ⟨LOOP_STAT_APF, .ro, 0⟩, ⟨LOOP_STAT_BRAKE, .ro, 0⟩, ⟨LOOP_STAT_VCLAMP, .w1c, 0⟩, ⟨LOOP_STAT_NACT, .ro, 0⟩, ⟨LOOP_STAT_SPARES, .ro, 0⟩, ⟨LOOP_STAT_WR_IGN, .w1c, 0⟩]⟩
/-- LOOP_VSET (R105): address. -/
def LOOP_VSET (i : Nat) : Nat := 0x40011008 + 0x400 * i
def LOOP_VSET_CODE : Fld := ⟨0, 12⟩
def LOOP_VSET_SLEW : Fld := ⟨16, 8⟩
def regDefLOOP_VSET : RegDef := ⟨0x40011008, [(4, 0x400)], .dPwr, .free,
  [⟨LOOP_VSET_CODE, .rw, 0⟩, ⟨LOOP_VSET_SLEW, .rw, 32⟩]⟩
/-- LOOP_VLIM (R105): address. -/
def LOOP_VLIM (i : Nat) : Nat := 0x4001100c + 0x400 * i
def LOOP_VLIM_VMIN : Fld := ⟨0, 12⟩
def LOOP_VLIM_VMAX : Fld := ⟨16, 12⟩
def regDefLOOP_VLIM : RegDef := ⟨0x4001100c, [(4, 0x400)], .dPwr, .prot,
  [⟨LOOP_VLIM_VMIN, .rw, 0⟩, ⟨LOOP_VLIM_VMAX, .rw, 4095⟩]⟩
/-- LOOP_SCALE (R125): address. -/
def LOOP_SCALE (i : Nat) : Nat := 0x40011010 + 0x400 * i
def LOOP_SCALE_KDIV : Fld := ⟨0, 16⟩
def regDefLOOP_SCALE : RegDef := ⟨0x40011010, [(4, 0x400)], .dPwr, .prot,
  [⟨LOOP_SCALE_KDIV, .rw, 4096⟩]⟩
/-- LOOP_FSW (R119): address. -/
def LOOP_FSW (i : Nat) : Nat := 0x40011014 + 0x400 * i
def LOOP_FSW_PER : Fld := ⟨0, 16⟩
def LOOP_FSW_SYNC_OFS : Fld := ⟨16, 8⟩
def LOOP_FSW_SYNC_EN : Fld := ⟨24, 1⟩
def regDefLOOP_FSW : RegDef := ⟨0x40011014, [(4, 0x400)], .dPwr, .prot,
  [⟨LOOP_FSW_PER, .rw, 12800⟩, ⟨LOOP_FSW_SYNC_OFS, .rw, 0⟩, ⟨LOOP_FSW_SYNC_EN, .rw, 0⟩]⟩
/-- LOOP_PWM (R111): address. -/
def LOOP_PWM (i : Nat) : Nat := 0x40011018 + 0x400 * i
def LOOP_PWM_TON_MIN : Fld := ⟨0, 4⟩
def LOOP_PWM_TOFF_MIN : Fld := ⟨4, 4⟩
def LOOP_PWM_DMAX : Fld := ⟨8, 8⟩
def regDefLOOP_PWM : RegDef := ⟨0x40011018, [(4, 0x400)], .dPwr, .prot,
  [⟨LOOP_PWM_TON_MIN, .rw, 2⟩, ⟨LOOP_PWM_TOFF_MIN, .rw, 4⟩, ⟨LOOP_PWM_DMAX, .rw, 192⟩]⟩
/-- LOOP_SHED (R130): address. -/
def LOOP_SHED (i : Nat) : Nat := 0x4001101c + 0x400 * i
def LOOP_SHED_DROP_I : Fld := ⟨0, 8⟩
def LOOP_SHED_ADD_I : Fld := ⟨8, 8⟩
def LOOP_SHED_RAMP : Fld := ⟨16, 8⟩
def LOOP_SHED_NMIN : Fld := ⟨24, 4⟩
def LOOP_SHED_HOLD : Fld := ⟨28, 4⟩
def regDefLOOP_SHED : RegDef := ⟨0x4001101c, [(4, 0x400)], .dPwr, .prot,
  [⟨LOOP_SHED_DROP_I, .rw, 48⟩, ⟨LOOP_SHED_ADD_I, .rw, 120⟩, ⟨LOOP_SHED_RAMP, .rw, 16⟩, ⟨LOOP_SHED_NMIN, .rw, 1⟩, ⟨LOOP_SHED_HOLD, .rw, 4⟩]⟩
/-- LOOP_APF (R134): address. -/
def LOOP_APF (i : Nat) : Nat := 0x40011020 + 0x400 * i
def LOOP_APF_UTH : Fld := ⟨0, 8⟩
def LOOP_APF_TON : Fld := ⟨8, 8⟩
def LOOP_APF_IPRE : Fld := ⟨16, 8⟩
def LOOP_APF_ARM_SHED : Fld := ⟨24, 1⟩
def regDefLOOP_APF : RegDef := ⟨0x40011020, [(4, 0x400)], .dPwr, .prot,
  [⟨LOOP_APF_UTH, .rw, 30⟩, ⟨LOOP_APF_TON, .rw, 25⟩, ⟨LOOP_APF_IPRE, .rw, 0⟩, ⟨LOOP_APF_ARM_SHED, .rw, 1⟩]⟩
/-- LOOP_BRAKE (R139): address. -/
def LOOP_BRAKE (i : Nat) : Nat := 0x40011024 + 0x400 * i
def LOOP_BRAKE_OTH : Fld := ⟨0, 8⟩
def LOOP_BRAKE_TMAX : Fld := ⟨8, 8⟩
def regDefLOOP_BRAKE : RegDef := ⟨0x40011024, [(4, 0x400)], .dPwr, .prot,
  [⟨LOOP_BRAKE_OTH, .rw, 64⟩, ⟨LOOP_BRAKE_TMAX, .rw, 20⟩]⟩
/-- LOOP_IMB (R141): address. -/
def LOOP_IMB (i : Nat) : Nat := 0x40011028 + 0x400 * i
def LOOP_IMB_ITH : Fld := ⟨0, 8⟩
def LOOP_IMB_FILT : Fld := ⟨8, 8⟩
def LOOP_IMB_ACT : Fld := ⟨16, 1⟩
def regDefLOOP_IMB : RegDef := ⟨0x40011028, [(4, 0x400)], .dPwr, .prot,
  [⟨LOOP_IMB_ITH, .rw, 25⟩, ⟨LOOP_IMB_FILT, .rw, 50⟩, ⟨LOOP_IMB_ACT, .rw, 1⟩]⟩
/-- LOOP_PROT (R143): address. -/
def LOOP_PROT (i : Nat) : Nat := 0x4001102c + 0x400 * i
def LOOP_PROT_OV : Fld := ⟨0, 8⟩
def LOOP_PROT_UV : Fld := ⟨8, 8⟩
def LOOP_PROT_OCL : Fld := ⟨16, 10⟩
def LOOP_PROT_PH_OCL : Fld := ⟨26, 6⟩
def regDefLOOP_PROT : RegDef := ⟨0x4001102c, [(4, 0x400)], .dPwr, .prot,
  [⟨LOOP_PROT_OV, .rw, 50⟩, ⟨LOOP_PROT_UV, .rw, 50⟩, ⟨LOOP_PROT_OCL, .rw, 1023⟩, ⟨LOOP_PROT_PH_OCL, .rw, 35⟩]⟩
/-- LOOP_BANK (R113): address. -/
def LOOP_BANK (i : Nat) : Nat := 0x40011030 + 0x400 * i
def LOOP_BANK_ACTIVE : Fld := ⟨0, 1⟩
def LOOP_BANK_SWAP_REQ : Fld := ⟨1, 1⟩
def regDefLOOP_BANK : RegDef := ⟨0x40011030, [(4, 0x400)], .dPwr, .free,
  [⟨LOOP_BANK_ACTIVE, .ro, 0⟩, ⟨LOOP_BANK_SWAP_REQ, .w1s, 0⟩]⟩
/-- LOOP_V (R125): address. -/
def LOOP_V (i : Nat) : Nat := 0x40011040 + 0x400 * i
def LOOP_V_V : Fld := ⟨0, 16⟩
def regDefLOOP_V : RegDef := ⟨0x40011040, [(4, 0x400)], .dPwr, .free,
  [⟨LOOP_V_V, .ro, 0⟩]⟩
/-- LOOP_I (R125): address. -/
def LOOP_I (i : Nat) : Nat := 0x40011044 + 0x400 * i
def LOOP_I_I : Fld := ⟨0, 16⟩
def regDefLOOP_I : RegDef := ⟨0x40011044, [(4, 0x400)], .dPwr, .free,
  [⟨LOOP_I_I, .ro, 0⟩]⟩
/-- LOOP_IW (R125): address. -/
def LOOP_IW (i : Nat) : Nat := 0x40011048 + 0x400 * i
def LOOP_IW_I : Fld := ⟨0, 32⟩
def regDefLOOP_IW : RegDef := ⟨0x40011048, [(4, 0x400)], .dPwr, .free,
  [⟨LOOP_IW_I, .ro, 0⟩]⟩
/-- LOOP_P (R125): address. -/
def LOOP_P (i : Nat) : Nat := 0x4001104c + 0x400 * i
def LOOP_P_P : Fld := ⟨0, 32⟩
def regDefLOOP_P : RegDef := ⟨0x4001104c, [(4, 0x400)], .dPwr, .free,
  [⟨LOOP_P_P, .ro, 0⟩]⟩
/-- LOOP_ERR (R125): address. -/
def LOOP_ERR (i : Nat) : Nat := 0x40011050 + 0x400 * i
def LOOP_ERR_EMIN : Fld := ⟨0, 9⟩
def LOOP_ERR_EMAX : Fld := ⟨16, 9⟩
def regDefLOOP_ERR : RegDef := ⟨0x40011050, [(4, 0x400)], .dPwr, .free,
  [⟨LOOP_ERR_EMIN, .ro, 0⟩, ⟨LOOP_ERR_EMAX, .ro, 0⟩]⟩
/-- LOOP_DUTY (R125): address. -/
def LOOP_DUTY (i : Nat) : Nat := 0x40011054 + 0x400 * i
def LOOP_DUTY_D : Fld := ⟨0, 16⟩
def regDefLOOP_DUTY : RegDef := ⟨0x40011054, [(4, 0x400)], .dPwr, .free,
  [⟨LOOP_DUTY_D, .ro, 0⟩]⟩
/-- LOOP_COEF (R113): address. -/
def LOOP_COEF (i : Nat) (j : Nat) (k : Nat) : Nat := 0x40011100 + 0x400 * i + 0x20 * j + 0x4 * k
def LOOP_COEF_COEF : Fld := ⟨0, 18⟩
def regDefLOOP_COEF : RegDef := ⟨0x40011100, [(4, 0x400), (2, 0x20), (7, 0x4)], .dPwr, .prot,
  [⟨LOOP_COEF_COEF, .rw, 0⟩]⟩
/-- LOOP_DSH (R113): address. -/
def LOOP_DSH (i : Nat) (j : Nat) : Nat := 0x4001111c + 0x400 * i + 0x20 * j
def LOOP_DSH_DSH : Fld := ⟨0, 5⟩
def regDefLOOP_DSH : RegDef := ⟨0x4001111c, [(4, 0x400), (2, 0x20)], .dPwr, .prot,
  [⟨LOOP_DSH_DSH, .rw, 0⟩]⟩

/-- The registers of block 5. -/
def blockRegs5 : List RegDef :=
  [regDefSYNC_CFG, regDefSYNC_STAT, regDefDLL_STAT, regDefPE_STAT, regDefPH_CFG, regDefPH_IMON,
   regDefPH_CTL, regDefPH_STAT, regDefPH_TEL, regDefPH_DUTY, regDefLOOP_CTL, regDefLOOP_STAT,
   regDefLOOP_VSET, regDefLOOP_VLIM, regDefLOOP_SCALE, regDefLOOP_FSW, regDefLOOP_PWM, regDefLOOP_SHED,
   regDefLOOP_APF, regDefLOOP_BRAKE, regDefLOOP_IMB, regDefLOOP_PROT, regDefLOOP_BANK, regDefLOOP_V,
   regDefLOOP_I, regDefLOOP_IW, regDefLOOP_P, regDefLOOP_ERR, regDefLOOP_DUTY, regDefLOOP_COEF,
   regDefLOOP_DSH]

end Sys2Proof.Machine
end

