-- ==== Sys2Proof/Machine/RegMapB.lean ====
section
/-! DEFINITION. The register map of blocks 6 to 10 (spec chapters 03 to 18): each register's address, fields, access codes and reset values. -/
namespace Sys2Proof.Machine

/-! ## Block 6 (R440) -/

/-- REG_CTL (R155): address. -/
def REG_CTL (i : Nat) : Nat := 0x40014000 + 0x40 * i
def REG_CTL_EN : Fld := ⟨0, 1⟩
def REG_CTL_MODE : Fld := ⟨1, 1⟩
def REG_CTL_DISCH : Fld := ⟨2, 1⟩
def REG_CTL_SS : Fld := ⟨4, 4⟩
def REG_CTL_DIV : Fld := ⟨8, 8⟩
def regDefREG_CTL : RegDef := ⟨0x40014000, [(14, 0x40)], .dPwr, .free,
  [⟨REG_CTL_EN, .rw, 0⟩, ⟨REG_CTL_MODE, .rw, 0⟩, ⟨REG_CTL_DISCH, .rw, 1⟩, ⟨REG_CTL_SS, .rw, 4⟩, ⟨REG_CTL_DIV, .rw, 0⟩]⟩
/-- REG_VSET (R154): address. -/
def REG_VSET (i : Nat) : Nat := 0x40014004 + 0x40 * i
def REG_VSET_CODE : Fld := ⟨0, 10⟩
def regDefREG_VSET : RegDef := ⟨0x40014004, [(14, 0x40)], .dPwr, .free,
  [⟨REG_VSET_CODE, .rw, 0⟩]⟩
/-- REG_PROT (R162): address. -/
def REG_PROT (i : Nat) : Nat := 0x40014008 + 0x40 * i
def REG_PROT_OVSEL : Fld := ⟨0, 2⟩
def REG_PROT_UVSEL : Fld := ⟨2, 2⟩
def REG_PROT_ILIM : Fld := ⟨4, 2⟩
def REG_PROT_OC_MODE : Fld := ⟨6, 1⟩
def REG_PROT_RETRY_MAX : Fld := ⟨8, 3⟩
def regDefREG_PROT : RegDef := ⟨0x40014008, [(14, 0x40)], .dPwr, .prot,
  [⟨REG_PROT_OVSEL, .rw, 1⟩, ⟨REG_PROT_UVSEL, .rw, 1⟩, ⟨REG_PROT_ILIM, .rw, 1⟩, ⟨REG_PROT_OC_MODE, .rw, 0⟩, ⟨REG_PROT_RETRY_MAX, .rw, 3⟩]⟩
/-- REG_THR (R161): address. -/
def REG_THR (i : Nat) : Nat := 0x4001400c + 0x40 * i
def REG_THR_SKIP1 : Fld := ⟨0, 2⟩
def REG_THR_SKIP2 : Fld := ⟨2, 2⟩
def REG_THR_SKIP3 : Fld := ⟨4, 2⟩
def regDefREG_THR : RegDef := ⟨0x4001400c, [(14, 0x40)], .dPwr, .prot,
  [⟨REG_THR_SKIP1, .rw, 1⟩, ⟨REG_THR_SKIP2, .rw, 2⟩, ⟨REG_THR_SKIP3, .rw, 3⟩]⟩
/-- REG_STAT (R156): address. -/
def REG_STAT (i : Nat) : Nat := 0x40014010 + 0x40 * i
def REG_STAT_ON : Fld := ⟨0, 1⟩
def REG_STAT_SS : Fld := ⟨1, 1⟩
def REG_STAT_PG : Fld := ⟨2, 1⟩
def REG_STAT_SKIP : Fld := ⟨3, 1⟩
def REG_STAT_OV : Fld := ⟨4, 1⟩
def REG_STAT_UV : Fld := ⟨5, 1⟩
def REG_STAT_OC : Fld := ⟨6, 1⟩
def REG_STAT_OT : Fld := ⟨7, 1⟩
def REG_STAT_INUV : Fld := ⟨8, 1⟩
def REG_STAT_LIMIT : Fld := ⟨9, 1⟩
def REG_STAT_RETRIES : Fld := ⟨12, 3⟩
def regDefREG_STAT : RegDef := ⟨0x40014010, [(14, 0x40)], .dPwr, .free,
  [⟨REG_STAT_ON, .ro, 0⟩, ⟨REG_STAT_SS, .ro, 0⟩, ⟨REG_STAT_PG, .ro, 0⟩, ⟨REG_STAT_SKIP, .ro, 0⟩, ⟨REG_STAT_OV, .w1c, 0⟩, ⟨REG_STAT_UV, .w1c, 0⟩, ⟨REG_STAT_OC, .w1c, 0⟩, ⟨REG_STAT_OT, .w1c, 0⟩, ⟨REG_STAT_INUV, .w1c, 0⟩, ⟨REG_STAT_LIMIT, .ro, 0⟩, ⟨REG_STAT_RETRIES, .ro, 0⟩]⟩
/-- REG_V (R160): address. -/
def REG_V (i : Nat) : Nat := 0x40014014 + 0x40 * i
def REG_V_V : Fld := ⟨0, 16⟩
def regDefREG_V : RegDef := ⟨0x40014014, [(14, 0x40)], .dPwr, .free,
  [⟨REG_V_V, .ro, 0⟩]⟩
/-- REG_I (R160): address. -/
def REG_I (i : Nat) : Nat := 0x40014018 + 0x40 * i
def REG_I_I : Fld := ⟨0, 16⟩
def regDefREG_I : RegDef := ⟨0x40014018, [(14, 0x40)], .dPwr, .free,
  [⟨REG_I_I, .ro, 0⟩]⟩
/-- REG_LOSS (R160): address. -/
def REG_LOSS (i : Nat) : Nat := 0x4001401c + 0x40 * i
def REG_LOSS_P : Fld := ⟨0, 32⟩
def regDefREG_LOSS : RegDef := ⟨0x4001401c, [(14, 0x40)], .dPwr, .free,
  [⟨REG_LOSS_P, .ro, 0⟩]⟩
/-- IR_CFG (R167): address. -/
def IR_CFG : Nat := 0x40014400
def IR_CFG_SWEEP_EN : Fld := ⟨0, 1⟩
def IR_CFG_WEAR_WARN : Fld := ⟨8, 8⟩
def regDefIR_CFG : RegDef := ⟨0x40014400, [], .dPwr, .prot,
  [⟨IR_CFG_SWEEP_EN, .rw, 1⟩, ⟨IR_CFG_WEAR_WARN, .rw, 15⟩]⟩
/-- IR_SWEEP (R167): address. -/
def IR_SWEEP : Nat := 0x40014404
def IR_SWEEP_COUNT : Fld := ⟨0, 24⟩
def IR_SWEEP_RUNNING : Fld := ⟨24, 1⟩
def IR_SWEEP_POSTPONED : Fld := ⟨25, 1⟩
def regDefIR_SWEEP : RegDef := ⟨0x40014404, [], .dPwr, .free,
  [⟨IR_SWEEP_COUNT, .ro, 0⟩, ⟨IR_SWEEP_RUNNING, .ro, 0⟩, ⟨IR_SWEEP_POSTPONED, .w1c, 0⟩]⟩
/-- SEG_STAT (R166): address. -/
def SEG_STAT (i : Nat) : Nat := 0x40014800 + 0x40 * i
def SEG_STAT_IN_USE : Fld := ⟨0, 9⟩
def SEG_STAT_FENCED : Fld := ⟨16, 9⟩
def SEG_STAT_STUCK : Fld := ⟨28, 1⟩
def regDefSEG_STAT : RegDef := ⟨0x40014800, [(12, 0x40)], .dPwr, .free,
  [⟨SEG_STAT_IN_USE, .ro, 255⟩, ⟨SEG_STAT_FENCED, .ro, 0⟩, ⟨SEG_STAT_STUCK, .w1c, 0⟩]⟩
/-- SEG_DRIFT (R168): address. -/
def SEG_DRIFT (i : Nat) (j : Nat) : Nat := 0x40014804 + 0x40 * i + 0x4 * j
def SEG_DRIFT_DRIFT : Fld := ⟨0, 16⟩
def SEG_DRIFT_RON : Fld := ⟨16, 16⟩
def regDefSEG_DRIFT : RegDef := ⟨0x40014804, [(12, 0x40), (9, 0x4)], .dPwr, .free,
  [⟨SEG_DRIFT_DRIFT, .ro, 0⟩, ⟨SEG_DRIFT_RON, .ro, 0⟩]⟩

/-- The registers of block 6. -/
def blockRegs6 : List RegDef :=
  [regDefREG_CTL, regDefREG_VSET, regDefREG_PROT, regDefREG_THR, regDefREG_STAT, regDefREG_V,
   regDefREG_I, regDefREG_LOSS, regDefIR_CFG, regDefIR_SWEEP, regDefSEG_STAT, regDefSEG_DRIFT]

/-! ## Block 7 (R440) -/

/-- FEED_CFG (R176): address. -/
def FEED_CFG (i : Nat) : Nat := 0x40016000 + 0x20 * i
def FEED_CFG_EN : Fld := ⟨0, 1⟩
def FEED_CFG_UV : Fld := ⟨4, 4⟩
def FEED_CFG_UV_T : Fld := ⟨8, 5⟩
def FEED_CFG_OV : Fld := ⟨16, 5⟩
def FEED_CFG_INRUSH : Fld := ⟨24, 5⟩
def regDefFEED_CFG : RegDef := ⟨0x40016000, [(2, 0x20)], .dPwr, .prot,
  [⟨FEED_CFG_EN, .rw, 1⟩, ⟨FEED_CFG_UV, .rw, 6⟩, ⟨FEED_CFG_UV_T, .rw, 15⟩, ⟨FEED_CFG_OV, .rw, 6⟩, ⟨FEED_CFG_INRUSH, .rw, 10⟩]⟩
/-- FEED_STAT (R177): address. -/
def FEED_STAT (i : Nat) : Nat := 0x40016004 + 0x20 * i
def FEED_STAT_STATE : Fld := ⟨0, 2⟩
def FEED_STAT_GATE_ON : Fld := ⟨2, 1⟩
def FEED_STAT_REV : Fld := ⟨3, 1⟩
def FEED_STAT_DISQ : Fld := ⟨4, 4⟩
def FEED_STAT_UV : Fld := ⟨8, 1⟩
def FEED_STAT_OV : Fld := ⟨9, 1⟩
def FEED_STAT_INRUSH : Fld := ⟨10, 1⟩
def FEED_STAT_QUAR : Fld := ⟨11, 1⟩
def FEED_STAT_QUAR_LEFT : Fld := ⟨16, 8⟩
def regDefFEED_STAT : RegDef := ⟨0x40016004, [(2, 0x20)], .dPwr, .free,
  [⟨FEED_STAT_STATE, .ro, 0⟩, ⟨FEED_STAT_GATE_ON, .ro, 0⟩, ⟨FEED_STAT_REV, .ro, 0⟩, ⟨FEED_STAT_DISQ, .ro, 0⟩, ⟨FEED_STAT_UV, .w1c, 0⟩, ⟨FEED_STAT_OV, .w1c, 0⟩, ⟨FEED_STAT_INRUSH, .w1c, 0⟩, ⟨FEED_STAT_QUAR, .w1c, 0⟩, ⟨FEED_STAT_QUAR_LEFT, .ro, 0⟩]⟩
/-- FEED_V (R178): address. -/
def FEED_V (i : Nat) : Nat := 0x40016008 + 0x20 * i
def FEED_V_V : Fld := ⟨0, 16⟩
def regDefFEED_V : RegDef := ⟨0x40016008, [(2, 0x20)], .dPwr, .free,
  [⟨FEED_V_V, .ro, 0⟩]⟩
/-- PATH_CFG (R177): address. -/
def PATH_CFG : Nat := 0x40016040
def PATH_CFG_FEED_QUAL : Fld := ⟨0, 8⟩
def PATH_CFG_DISQ_MAX : Fld := ⟨8, 4⟩
def PATH_CFG_DISQ_WIN : Fld := ⟨12, 4⟩
def PATH_CFG_QUAR_T : Fld := ⟨16, 8⟩
def PATH_CFG_BOW_TH : Fld := ⟨24, 5⟩
def regDefPATH_CFG : RegDef := ⟨0x40016040, [], .dPwr, .prot,
  [⟨PATH_CFG_FEED_QUAL, .rw, 20⟩, ⟨PATH_CFG_DISQ_MAX, .rw, 5⟩, ⟨PATH_CFG_DISQ_WIN, .rw, 10⟩, ⟨PATH_CFG_QUAR_T, .rw, 60⟩, ⟨PATH_CFG_BOW_TH, .rw, 8⟩]⟩
/-- PATH_VMIN (R184): address. -/
def PATH_VMIN : Nat := 0x40016044
def PATH_VMIN_MIN_START : Fld := ⟨0, 16⟩
def regDefPATH_VMIN : RegDef := ⟨0x40016044, [], .dPwr, .prot,
  [⟨PATH_VMIN_MIN_START, .rw, 16000⟩]⟩
/-- PATH_STAT (R180): address. -/
def PATH_STAT : Nat := 0x40016048
def PATH_STAT_PATH : Fld := ⟨0, 2⟩
def PATH_STAT_BOW_ARMED : Fld := ⟨2, 1⟩
def PATH_STAT_BOW : Fld := ⟨3, 1⟩
def PATH_STAT_UP_INHIB : Fld := ⟨4, 1⟩
def PATH_STAT_HANDOVERS : Fld := ⟨8, 8⟩
def regDefPATH_STAT : RegDef := ⟨0x40016048, [], .dPwr, .free,
  [⟨PATH_STAT_PATH, .ro, 0⟩, ⟨PATH_STAT_BOW_ARMED, .ro, 0⟩, ⟨PATH_STAT_BOW, .w1c, 0⟩, ⟨PATH_STAT_UP_INHIB, .ro, 0⟩, ⟨PATH_STAT_HANDOVERS, .ro, 0⟩]⟩
/-- PATH_V (R178): address. -/
def PATH_V : Nat := 0x4001604c
def PATH_V_VSYS : Fld := ⟨0, 16⟩
def PATH_V_FEEDBUS : Fld := ⟨16, 16⟩
def regDefPATH_V : RegDef := ⟨0x4001604c, [], .dPwr, .free,
  [⟨PATH_V_VSYS, .ro, 0⟩, ⟨PATH_V_FEEDBUS, .ro, 0⟩]⟩
/-- CHG_CTL (R188): address. -/
def CHG_CTL : Nat := 0x40016080
def CHG_CTL_CMD : Fld := ⟨0, 3⟩
def regDefCHG_CTL : RegDef := ⟨0x40016080, [], .dPwr, .free,
  [⟨CHG_CTL_CMD, .wo, 0⟩]⟩
/-- CHG_CFG (R187): address. -/
def CHG_CFG : Nat := 0x40016084
def CHG_CFG_CHEM : Fld := ⟨0, 2⟩
def CHG_CFG_CELLS : Fld := ⟨4, 4⟩
def CHG_CFG_FSW : Fld := ⟨8, 8⟩
def regDefCHG_CFG : RegDef := ⟨0x40016084, [], .dPwr, .prot,
  [⟨CHG_CFG_CHEM, .rw, 0⟩, ⟨CHG_CFG_CELLS, .rw, 8⟩, ⟨CHG_CFG_FSW, .rw, 25⟩]⟩
/-- CHG_SENSE (R200): address. -/
def CHG_SENSE : Nat := 0x40016088
def CHG_SENSE_RSNS_BAT : Fld := ⟨0, 16⟩
def CHG_SENSE_RSNS_IN : Fld := ⟨16, 16⟩
def regDefCHG_SENSE : RegDef := ⟨0x40016088, [], .dPwr, .prot,
  [⟨CHG_SENSE_RSNS_BAT, .rw, 5000⟩, ⟨CHG_SENSE_RSNS_IN, .rw, 2500⟩]⟩
/-- CHG_VTH (R187): address. -/
def CHG_VTH : Nat := 0x4001608c
def CHG_VTH_V_TRK : Fld := ⟨0, 12⟩
def CHG_VTH_V_PRE : Fld := ⟨16, 12⟩
def regDefCHG_VTH : RegDef := ⟨0x4001608c, [], .dPwr, .prot,
  [⟨CHG_VTH_V_TRK, .rw, 2000⟩, ⟨CHG_VTH_V_PRE, .rw, 2800⟩]⟩
/-- CHG_VCV (R187): address. -/
def CHG_VCV : Nat := 0x40016090
def CHG_VCV_V_CV : Fld := ⟨0, 12⟩
def CHG_VCV_V_SAFE : Fld := ⟨16, 12⟩
def regDefCHG_VCV : RegDef := ⟨0x40016090, [], .dPwr, .prot,
  [⟨CHG_VCV_V_CV, .rw, 3550⟩, ⟨CHG_VCV_V_SAFE, .rw, 3400⟩]⟩
/-- CHG_I (R187): address. -/
def CHG_I : Nat := 0x40016094
def CHG_I_I_TRK : Fld := ⟨0, 8⟩
def CHG_I_I_PRE : Fld := ⟨8, 8⟩
def CHG_I_I_CC : Fld := ⟨16, 8⟩
def regDefCHG_I : RegDef := ⟨0x40016094, [], .dPwr, .prot,
  [⟨CHG_I_I_TRK, .rw, 20⟩, ⟨CHG_I_I_PRE, .rw, 100⟩, ⟨CHG_I_I_CC, .rw, 80⟩]⟩
/-- CHG_LIM (R189): address. -/
def CHG_LIM : Nat := 0x40016098
def CHG_LIM_IIN_LIM : Fld := ⟨0, 8⟩
def regDefCHG_LIM : RegDef := ⟨0x40016098, [], .dPwr, .prot,
  [⟨CHG_LIM_IIN_LIM, .rw, 100⟩]⟩
/-- CHG_TIMER (R191): address. -/
def CHG_TIMER : Nat := 0x4001609c
def CHG_TIMER_SAFETY : Fld := ⟨0, 8⟩
def CHG_TIMER_PRE_TMAX : Fld := ⟨8, 8⟩
def regDefCHG_TIMER : RegDef := ⟨0x4001609c, [], .dPwr, .prot,
  [⟨CHG_TIMER_SAFETY, .rw, 96⟩, ⟨CHG_TIMER_PRE_TMAX, .rw, 60⟩]⟩
/-- CHG_NOPACK (R193): address. -/
def CHG_NOPACK : Nat := 0x400160a0
def CHG_NOPACK_VSYS_NOPACK : Fld := ⟨0, 16⟩
def CHG_NOPACK_PACK_QUAL : Fld := ⟨16, 8⟩
def regDefCHG_NOPACK : RegDef := ⟨0x400160a0, [], .dPwr, .prot,
  [⟨CHG_NOPACK_VSYS_NOPACK, .rw, 26000⟩, ⟨CHG_NOPACK_PACK_QUAL, .rw, 50⟩]⟩
/-- CHG_THR (R196): address. -/
def CHG_THR : Nat := 0x400160a4
def CHG_THR_CUR1 : Fld := ⟨0, 8⟩
def CHG_THR_CUR2 : Fld := ⟨8, 8⟩
def CHG_THR_CUR3 : Fld := ⟨16, 8⟩
def CHG_THR_SKIP1 : Fld := ⟨24, 2⟩
def CHG_THR_SKIP2 : Fld := ⟨26, 2⟩
def CHG_THR_SKIP3 : Fld := ⟨28, 2⟩
def regDefCHG_THR : RegDef := ⟨0x400160a4, [], .dPwr, .prot,
  [⟨CHG_THR_CUR1, .rw, 75⟩, ⟨CHG_THR_CUR2, .rw, 50⟩, ⟨CHG_THR_CUR3, .rw, 25⟩, ⟨CHG_THR_SKIP1, .rw, 0⟩, ⟨CHG_THR_SKIP2, .rw, 1⟩, ⟨CHG_THR_SKIP3, .rw, 2⟩]⟩
/-- CHG_STOPEV (R190): address. -/
def CHG_STOPEV : Nat := 0x400160a8
def CHG_STOPEV_MEV0 : Fld := ⟨0, 7⟩
def CHG_STOPEV_EN0 : Fld := ⟨7, 1⟩
def CHG_STOPEV_MEV1 : Fld := ⟨8, 7⟩
def CHG_STOPEV_EN1 : Fld := ⟨15, 1⟩
def regDefCHG_STOPEV : RegDef := ⟨0x400160a8, [], .dPwr, .prot,
  [⟨CHG_STOPEV_MEV0, .rw, 0⟩, ⟨CHG_STOPEV_EN0, .rw, 0⟩, ⟨CHG_STOPEV_MEV1, .rw, 0⟩, ⟨CHG_STOPEV_EN1, .rw, 0⟩]⟩
/-- CHG_STAT (R188): address. -/
def CHG_STAT : Nat := 0x400160b0
def CHG_STAT_STATE : Fld := ⟨0, 4⟩
def CHG_STAT_LOOP : Fld := ⟨4, 2⟩
def CHG_STAT_SUSP : Fld := ⟨6, 1⟩
def CHG_STAT_ZCH_OK : Fld := ⟨7, 1⟩
def CHG_STAT_HOLD_REL : Fld := ⟨8, 1⟩
def CHG_STAT_TMR_EXP : Fld := ⟨9, 1⟩
def CHG_STAT_PRE_EXP : Fld := ⟨10, 1⟩
def CHG_STAT_CELL_OV : Fld := ⟨11, 1⟩
def CHG_STAT_STOPEV : Fld := ⟨12, 1⟩
def CHG_STAT_CLAMP : Fld := ⟨13, 1⟩
def CHG_STAT_NOPACK : Fld := ⟨14, 1⟩
def CHG_STAT_ZCH_SHORT : Fld := ⟨15, 1⟩
def regDefCHG_STAT : RegDef := ⟨0x400160b0, [], .dPwr, .free,
  [⟨CHG_STAT_STATE, .ro, 0⟩, ⟨CHG_STAT_LOOP, .ro, 3⟩, ⟨CHG_STAT_SUSP, .ro, 0⟩, ⟨CHG_STAT_ZCH_OK, .ro, 0⟩, ⟨CHG_STAT_HOLD_REL, .ro, 0⟩, ⟨CHG_STAT_TMR_EXP, .w1c, 0⟩, ⟨CHG_STAT_PRE_EXP, .w1c, 0⟩, ⟨CHG_STAT_CELL_OV, .w1c, 0⟩, ⟨CHG_STAT_STOPEV, .w1c, 0⟩, ⟨CHG_STAT_CLAMP, .w1c, 0⟩, ⟨CHG_STAT_NOPACK, .w1c, 0⟩, ⟨CHG_STAT_ZCH_SHORT, .w1c, 0⟩]⟩
/-- CHG_TIME (R191): address. -/
def CHG_TIME : Nat := 0x400160b4
def CHG_TIME_SAFE_S : Fld := ⟨0, 16⟩
def CHG_TIME_PRE_S : Fld := ⟨16, 16⟩
def regDefCHG_TIME : RegDef := ⟨0x400160b4, [], .dPwr, .free,
  [⟨CHG_TIME_SAFE_S, .ro, 0⟩, ⟨CHG_TIME_PRE_S, .ro, 0⟩]⟩
/-- CHG_IIN (R189): address. -/
def CHG_IIN : Nat := 0x400160b8
def CHG_IIN_IIN : Fld := ⟨0, 16⟩
def regDefCHG_IIN : RegDef := ⟨0x400160b8, [], .dPwr, .free,
  [⟨CHG_IIN_IIN, .ro, 0⟩]⟩
/-- CHG_LOSS (R196): address. -/
def CHG_LOSS : Nat := 0x400160bc
def CHG_LOSS_P : Fld := ⟨0, 32⟩
def regDefCHG_LOSS : RegDef := ⟨0x400160bc, [], .dPwr, .free,
  [⟨CHG_LOSS_P, .ro, 0⟩]⟩

/-- The registers of block 7. -/
def blockRegs7 : List RegDef :=
  [regDefFEED_CFG, regDefFEED_STAT, regDefFEED_V, regDefPATH_CFG, regDefPATH_VMIN, regDefPATH_STAT,
   regDefPATH_V, regDefCHG_CTL, regDefCHG_CFG, regDefCHG_SENSE, regDefCHG_VTH, regDefCHG_VCV,
   regDefCHG_I, regDefCHG_LIM, regDefCHG_TIMER, regDefCHG_NOPACK, regDefCHG_THR, regDefCHG_STOPEV,
   regDefCHG_STAT, regDefCHG_TIME, regDefCHG_IIN, regDefCHG_LOSS]

/-! ## Block 8 (R440) -/

/-- GG_CFG (R213): address. -/
def GG_CFG : Nat := 0x40018000
def GG_CFG_TNTC : Fld := ⟨0, 3⟩
def GG_CFG_TNTC_EN : Fld := ⟨3, 1⟩
def GG_CFG_DRIFT_H : Fld := ⟨8, 8⟩
def regDefGG_CFG : RegDef := ⟨0x40018000, [], .dPwr, .prot,
  [⟨GG_CFG_TNTC, .rw, 0⟩, ⟨GG_CFG_TNTC_EN, .rw, 0⟩, ⟨GG_CFG_DRIFT_H, .rw, 72⟩]⟩
/-- GG_CTL (R233): address. -/
def GG_CTL : Nat := 0x40018004
def GG_CTL_COMMISSION : Fld := ⟨0, 1⟩
def regDefGG_CTL : RegDef := ⟨0x40018004, [], .dPwr, .free,
  [⟨GG_CTL_COMMISSION, .rw, 0⟩]⟩
/-- GG_STAT (R216): address. -/
def GG_STAT : Nat := 0x40018008
def GG_STAT_PRESENT : Fld := ⟨0, 1⟩
def GG_STAT_HIB : Fld := ⟨1, 1⟩
def GG_STAT_REST : Fld := ⟨2, 1⟩
def GG_STAT_DRIFT : Fld := ⟨3, 1⟩
def GG_STAT_SAT : Fld := ⟨4, 1⟩
def GG_STAT_CELL_HELD : Fld := ⟨5, 1⟩
def GG_STAT_CELL_UV : Fld := ⟨6, 1⟩
def GG_STAT_OPEN_TAP : Fld := ⟨7, 1⟩
def regDefGG_STAT : RegDef := ⟨0x40018008, [], .dPwr, .free,
  [⟨GG_STAT_PRESENT, .ro, 0⟩, ⟨GG_STAT_HIB, .ro, 0⟩, ⟨GG_STAT_REST, .ro, 0⟩, ⟨GG_STAT_DRIFT, .ro, 0⟩, ⟨GG_STAT_SAT, .w1c, 0⟩, ⟨GG_STAT_CELL_HELD, .ro, 0⟩, ⟨GG_STAT_CELL_UV, .w1c, 0⟩, ⟨GG_STAT_OPEN_TAP, .w1c, 0⟩]⟩
/-- GG_REST (R216): address. -/
def GG_REST : Nat := 0x4001800c
def GG_REST_REST_I : Fld := ⟨0, 16⟩
def GG_REST_REST_T : Fld := ⟨16, 16⟩
def regDefGG_REST : RegDef := ⟨0x4001800c, [], .dPwr, .prot,
  [⟨GG_REST_REST_I, .rw, 100⟩, ⟨GG_REST_REST_T, .rw, 1800⟩]⟩
/-- GG_LIM (R212): address. -/
def GG_LIM : Nat := 0x40018010
def GG_LIM_WAKE_I : Fld := ⟨0, 16⟩
def GG_LIM_CELL_UV : Fld := ⟨16, 16⟩
def regDefGG_LIM : RegDef := ⟨0x40018010, [], .dPwr, .prot,
  [⟨GG_LIM_WAKE_I, .rw, 200⟩, ⟨GG_LIM_CELL_UV, .rw, 2500⟩]⟩
/-- GG_BAL_CFG (R214): address. -/
def GG_BAL_CFG : Nat := 0x40018014
def GG_BAL_CFG_EN : Fld := ⟨0, 1⟩
def GG_BAL_CFG_BAL_CC : Fld := ⟨1, 1⟩
def GG_BAL_CFG_MAX : Fld := ⟨4, 4⟩
def GG_BAL_CFG_SETTLE : Fld := ⟨8, 4⟩
def GG_BAL_CFG_VMIN : Fld := ⟨12, 12⟩
def GG_BAL_CFG_ON : Fld := ⟨24, 8⟩
def regDefGG_BAL_CFG : RegDef := ⟨0x40018014, [], .dPwr, .prot,
  [⟨GG_BAL_CFG_EN, .rw, 0⟩, ⟨GG_BAL_CFG_BAL_CC, .rw, 0⟩, ⟨GG_BAL_CFG_MAX, .rw, 8⟩, ⟨GG_BAL_CFG_SETTLE, .rw, 4⟩, ⟨GG_BAL_CFG_VMIN, .rw, 3400⟩, ⟨GG_BAL_CFG_ON, .rw, 20⟩]⟩
/-- GG_BAL_R (R215): address. -/
def GG_BAL_R : Nat := 0x40018018
def GG_BAL_R_OFF : Fld := ⟨0, 8⟩
def GG_BAL_R_RBAL : Fld := ⟨16, 16⟩
def regDefGG_BAL_R : RegDef := ⟨0x40018018, [], .dPwr, .prot,
  [⟨GG_BAL_R_OFF, .rw, 5⟩, ⟨GG_BAL_R_RBAL, .rw, 2200⟩]⟩
/-- GG_I (R203): address. -/
def GG_I : Nat := 0x40018020
def GG_I_I : Fld := ⟨0, 16⟩
def GG_I_I_1S : Fld := ⟨16, 16⟩
def regDefGG_I : RegDef := ⟨0x40018020, [], .dPwr, .free,
  [⟨GG_I_I, .ro, 0⟩, ⟨GG_I_I_1S, .ro, 0⟩]⟩
/-- GG_QRAW_LO (R204): address. -/
def GG_QRAW_LO : Nat := 0x40018024
def GG_QRAW_LO_QRAW : Fld := ⟨0, 32⟩
def regDefGG_QRAW_LO : RegDef := ⟨0x40018024, [], .dPwr, .free,
  [⟨GG_QRAW_LO_QRAW, .ro, 0⟩]⟩
/-- GG_QRAW_HI (R204): address. -/
def GG_QRAW_HI : Nat := 0x40018028
def GG_QRAW_HI_QRAW : Fld := ⟨0, 32⟩
def regDefGG_QRAW_HI : RegDef := ⟨0x40018028, [], .dPwr, .free,
  [⟨GG_QRAW_HI_QRAW, .ro, 0⟩]⟩
/-- GG_Q (R204): address. -/
def GG_Q : Nat := 0x4001802c
def GG_Q_Q : Fld := ⟨0, 32⟩
def regDefGG_Q : RegDef := ⟨0x4001802c, [], .dPwr, .free,
  [⟨GG_Q_Q, .ro, 0⟩]⟩
/-- GG_VPACK (R213): address. -/
def GG_VPACK : Nat := 0x40018030
def GG_VPACK_VPACK : Fld := ⟨0, 16⟩
def GG_VPACK_TPACK : Fld := ⟨16, 16⟩
def regDefGG_VPACK : RegDef := ⟨0x40018030, [], .dPwr, .free,
  [⟨GG_VPACK_VPACK, .ro, 0⟩, ⟨GG_VPACK_TPACK, .ro, 32768⟩]⟩
/-- GG_REST_AGE (R216): address. -/
def GG_REST_AGE : Nat := 0x40018034
def GG_REST_AGE_AGE : Fld := ⟨0, 32⟩
def regDefGG_REST_AGE : RegDef := ⟨0x40018034, [], .dPwr, .free,
  [⟨GG_REST_AGE_AGE, .ro, 0⟩]⟩
/-- GG_CELL_EXT (R209): address. -/
def GG_CELL_EXT : Nat := 0x40018060
def GG_CELL_EXT_MIN : Fld := ⟨0, 16⟩
def GG_CELL_EXT_MAX : Fld := ⟨16, 16⟩
def regDefGG_CELL_EXT : RegDef := ⟨0x40018060, [], .dPwr, .free,
  [⟨GG_CELL_EXT_MIN, .ro, 0⟩, ⟨GG_CELL_EXT_MAX, .ro, 0⟩]⟩
/-- GG_CELL_STAT (R209): address. -/
def GG_CELL_STAT : Nat := 0x40018064
def GG_CELL_STAT_OPEN : Fld := ⟨0, 9⟩
def GG_CELL_STAT_MIN_IDX : Fld := ⟨12, 4⟩
def GG_CELL_STAT_MAX_IDX : Fld := ⟨16, 4⟩
def GG_CELL_STAT_BAL_ON : Fld := ⟨24, 8⟩
def regDefGG_CELL_STAT : RegDef := ⟨0x40018064, [], .dPwr, .free,
  [⟨GG_CELL_STAT_OPEN, .ro, 0⟩, ⟨GG_CELL_STAT_MIN_IDX, .ro, 0⟩, ⟨GG_CELL_STAT_MAX_IDX, .ro, 0⟩, ⟨GG_CELL_STAT_BAL_ON, .ro, 0⟩]⟩
/-- GG_SOC (R218): address. -/
def GG_SOC : Nat := 0x40018100
def GG_SOC_SOC : Fld := ⟨0, 16⟩
def GG_SOC_BAND : Fld := ⟨16, 16⟩
def regDefGG_SOC : RegDef := ⟨0x40018100, [], .dPwr, .burin,
  [⟨GG_SOC_SOC, .rw, 0⟩, ⟨GG_SOC_BAND, .rw, 5000⟩]⟩
/-- GG_FCC (R218): address. -/
def GG_FCC : Nat := 0x40018104
def GG_FCC_FCC : Fld := ⟨0, 32⟩
def regDefGG_FCC : RegDef := ⟨0x40018104, [], .dPwr, .burin,
  [⟨GG_FCC_FCC, .rw, 0⟩]⟩
/-- GG_HEALTH (R218): address. -/
def GG_HEALTH : Nat := 0x40018108
def GG_HEALTH_SOH : Fld := ⟨0, 16⟩
def GG_HEALTH_RIMP : Fld := ⟨16, 16⟩
def regDefGG_HEALTH : RegDef := ⟨0x40018108, [], .dPwr, .burin,
  [⟨GG_HEALTH_SOH, .rw, 0⟩, ⟨GG_HEALTH_RIMP, .rw, 0⟩]⟩
/-- GG_TIME (R218): address. -/
def GG_TIME : Nat := 0x4001810c
def GG_TIME_TTE : Fld := ⟨0, 16⟩
def GG_TIME_TTF : Fld := ⟨16, 16⟩
def regDefGG_TIME : RegDef := ⟨0x4001810c, [], .dPwr, .burin,
  [⟨GG_TIME_TTE, .rw, 65535⟩, ⟨GG_TIME_TTF, .rw, 65535⟩]⟩
/-- GG_EFLAGS (R218): address. -/
def GG_EFLAGS : Nat := 0x40018110
def GG_EFLAGS_FROZEN : Fld := ⟨0, 1⟩
def GG_EFLAGS_SOC_STALE : Fld := ⟨1, 1⟩
def GG_EFLAGS_LEARN_STALE : Fld := ⟨2, 1⟩
def GG_EFLAGS_LEARNING : Fld := ⟨3, 1⟩
def GG_EFLAGS_FALLBACK : Fld := ⟨4, 1⟩
def GG_EFLAGS_LAST_DISQ : Fld := ⟨8, 8⟩
def regDefGG_EFLAGS : RegDef := ⟨0x40018110, [], .dPwr, .burin,
  [⟨GG_EFLAGS_FROZEN, .ro, 0⟩, ⟨GG_EFLAGS_SOC_STALE, .rw, 0⟩, ⟨GG_EFLAGS_LEARN_STALE, .rw, 0⟩, ⟨GG_EFLAGS_LEARNING, .rw, 0⟩, ⟨GG_EFLAGS_FALLBACK, .rw, 0⟩, ⟨GG_EFLAGS_LAST_DISQ, .rw, 0⟩]⟩
/-- GG_QREF_LO (R218): address. -/
def GG_QREF_LO : Nat := 0x40018118
def GG_QREF_LO_QREF : Fld := ⟨0, 32⟩
def regDefGG_QREF_LO : RegDef := ⟨0x40018118, [], .dPwr, .free,
  [⟨GG_QREF_LO_QREF, .ro, 0⟩]⟩
/-- GG_QREF_HI (R218): address. -/
def GG_QREF_HI : Nat := 0x4001811c
def GG_QREF_HI_QREF : Fld := ⟨0, 32⟩
def regDefGG_QREF_HI : RegDef := ⟨0x4001811c, [], .dPwr, .free,
  [⟨GG_QREF_HI_QREF, .ro, 0⟩]⟩
/-- GG_CELL (R209): address. -/
def GG_CELL (i : Nat) : Nat := 0x40018040 + 0x4 * i
def GG_CELL_V : Fld := ⟨0, 16⟩
def regDefGG_CELL : RegDef := ⟨0x40018040, [(8, 0x4)], .dPwr, .free,
  [⟨GG_CELL_V, .ro, 0⟩]⟩
/-- GG_BAL_Q (R215): address. -/
def GG_BAL_Q (i : Nat) : Nat := 0x40018080 + 0x4 * i
def GG_BAL_Q_Q : Fld := ⟨0, 32⟩
def regDefGG_BAL_Q : RegDef := ⟨0x40018080, [(8, 0x4)], .dPwr, .free,
  [⟨GG_BAL_Q_Q, .ro, 0⟩]⟩

/-- The registers of block 8. -/
def blockRegs8 : List RegDef :=
  [regDefGG_CFG, regDefGG_CTL, regDefGG_STAT, regDefGG_REST, regDefGG_LIM, regDefGG_BAL_CFG,
   regDefGG_BAL_R, regDefGG_I, regDefGG_QRAW_LO, regDefGG_QRAW_HI, regDefGG_Q, regDefGG_VPACK,
   regDefGG_REST_AGE, regDefGG_CELL_EXT, regDefGG_CELL_STAT, regDefGG_SOC, regDefGG_FCC, regDefGG_HEALTH,
   regDefGG_TIME, regDefGG_EFLAGS, regDefGG_QREF_LO, regDefGG_QREF_HI, regDefGG_CELL, regDefGG_BAL_Q]

/-! ## Block 9 (R440) -/

/-- ADC_CFG (R298): address. -/
def ADC_CFG : Nat := 0x4001a000
def ADC_CFG_REF_EN : Fld := ⟨0, 1⟩
def ADC_CFG_FORCE : Fld := ⟨1, 1⟩
def ADC_CFG_CHK_FAIL : Fld := ⟨4, 4⟩
def ADC_CFG_CHK_TOL : Fld := ⟨8, 16⟩
def regDefADC_CFG : RegDef := ⟨0x4001a000, [], .dPwr, .prot,
  [⟨ADC_CFG_REF_EN, .rw, 0⟩, ⟨ADC_CFG_FORCE, .rw, 0⟩, ⟨ADC_CFG_CHK_FAIL, .rw, 3⟩, ⟨ADC_CFG_CHK_TOL, .rw, 64⟩]⟩
/-- ADC_STAT (R298): address. -/
def ADC_STAT : Nat := 0x4001a004
def ADC_STAT_REF_READY : Fld := ⟨0, 1⟩
def ADC_STAT_REF_FLT : Fld := ⟨1, 1⟩
def ADC_STAT_FENCED : Fld := ⟨4, 3⟩
def ADC_STAT_TAKEN : Fld := ⟨8, 2⟩
def ADC_STAT_LOST : Fld := ⟨12, 2⟩
def ADC_STAT_URG_DEFER : Fld := ⟨16, 1⟩
def regDefADC_STAT : RegDef := ⟨0x4001a004, [], .dPwr, .free,
  [⟨ADC_STAT_REF_READY, .ro, 0⟩, ⟨ADC_STAT_REF_FLT, .w1c, 0⟩, ⟨ADC_STAT_FENCED, .ro, 0⟩, ⟨ADC_STAT_TAKEN, .ro, 0⟩, ⟨ADC_STAT_LOST, .ro, 0⟩, ⟨ADC_STAT_URG_DEFER, .w1c, 0⟩]⟩
/-- ADC_SEQLEN (R294): address. -/
def ADC_SEQLEN : Nat := 0x4001a008
def ADC_SEQLEN_LEN0 : Fld := ⟨0, 7⟩
def ADC_SEQLEN_LEN1 : Fld := ⟨8, 7⟩
def regDefADC_SEQLEN : RegDef := ⟨0x4001a008, [], .dPwr, .prot,
  [⟨ADC_SEQLEN_LEN0, .rw, 0⟩, ⟨ADC_SEQLEN_LEN1, .rw, 0⟩]⟩
/-- ADC_CHK (R302): address. -/
def ADC_CHK (i : Nat) : Nat := 0x4001a010 + 0x4 * i
def ADC_CHK_LAST : Fld := ⟨0, 16⟩
def ADC_CHK_KIND : Fld := ⟨16, 1⟩
def ADC_CHK_FAILS : Fld := ⟨20, 4⟩
def regDefADC_CHK : RegDef := ⟨0x4001a010, [(3, 0x4)], .dPwr, .free,
  [⟨ADC_CHK_LAST, .ro, 0⟩, ⟨ADC_CHK_KIND, .ro, 0⟩, ⟨ADC_CHK_FAILS, .ro, 0⟩]⟩
/-- ADC_CHK_EXP (R302): address. -/
def ADC_CHK_EXP (i : Nat) : Nat := 0x4001a020 + 0x4 * i
def ADC_CHK_EXP_ZERO : Fld := ⟨0, 16⟩
def ADC_CHK_EXP_SRC : Fld := ⟨16, 16⟩
def regDefADC_CHK_EXP : RegDef := ⟨0x4001a020, [(3, 0x4)], .dPwr, .free,
  [⟨ADC_CHK_EXP_ZERO, .ro, 0⟩, ⟨ADC_CHK_EXP_SRC, .ro, 0⟩]⟩
/-- ADC_CAL (R300): address. -/
def ADC_CAL : Nat := 0x4001a030
def ADC_CAL_INPUT : Fld := ⟨0, 6⟩
def ADC_CAL_CMD : Fld := ⟨8, 2⟩
def ADC_CAL_TARGET : Fld := ⟨16, 16⟩
def regDefADC_CAL : RegDef := ⟨0x4001a030, [], .dPwr, .prot,
  [⟨ADC_CAL_INPUT, .wo, 0⟩, ⟨ADC_CAL_CMD, .wo, 0⟩, ⟨ADC_CAL_TARGET, .wo, 0⟩]⟩
/-- ADC_CAL_STAT (R300): address. -/
def ADC_CAL_STAT : Nat := 0x4001a034
def ADC_CAL_STAT_STATE : Fld := ⟨0, 2⟩
def ADC_CAL_STAT_INPUT : Fld := ⟨8, 6⟩
def ADC_CAL_STAT_RESULT : Fld := ⟨16, 2⟩
def regDefADC_CAL_STAT : RegDef := ⟨0x4001a034, [], .dPwr, .free,
  [⟨ADC_CAL_STAT_STATE, .ro, 0⟩, ⟨ADC_CAL_STAT_INPUT, .ro, 0⟩, ⟨ADC_CAL_STAT_RESULT, .ro, 0⟩]⟩
/-- ADC_URG (R296): address. -/
def ADC_URG (i : Nat) (j : Nat) : Nat := 0x4001a040 + 0x20 * i + 0x4 * j
def ADC_URG_INPUT : Fld := ⟨0, 6⟩
def ADC_URG_CAL_EN : Fld := ⟨8, 1⟩
def ADC_URG_GO : Fld := ⟨16, 1⟩
def ADC_URG_PEND : Fld := ⟨17, 1⟩
def regDefADC_URG : RegDef := ⟨0x4001a040, [(2, 0x20), (8, 0x4)], .dPwr, .free,
  [⟨ADC_URG_INPUT, .rw, 0⟩, ⟨ADC_URG_CAL_EN, .rw, 1⟩, ⟨ADC_URG_GO, .wo, 0⟩, ⟨ADC_URG_PEND, .ro, 0⟩]⟩
/-- ADC_URG_RES (R296): address. -/
def ADC_URG_RES (i : Nat) (j : Nat) : Nat := 0x4001a080 + 0x20 * i + 0x4 * j
def ADC_URG_RES_WORD : Fld := ⟨0, 32⟩
def regDefADC_URG_RES : RegDef := ⟨0x4001a080, [(2, 0x20), (8, 0x4)], .dPwr, .free,
  [⟨ADC_URG_RES_WORD, .ro, 262144⟩]⟩
/-- ADC_URG_DONE (R296): address. -/
def ADC_URG_DONE : Nat := 0x4001a0c0
def ADC_URG_DONE_DONE : Fld := ⟨0, 16⟩
def regDefADC_URG_DONE : RegDef := ⟨0x4001a0c0, [], .dPwr, .free,
  [⟨ADC_URG_DONE_DONE, .w1c, 0⟩]⟩
/-- ADC_SEQ (R294): address. -/
def ADC_SEQ (i : Nat) (j : Nat) : Nat := 0x4001a100 + 0x100 * i + 0x4 * j
def ADC_SEQ_INPUT : Fld := ⟨0, 6⟩
def ADC_SEQ_CAL_EN : Fld := ⟨8, 1⟩
def regDefADC_SEQ : RegDef := ⟨0x4001a100, [(2, 0x100), (64, 0x4)], .dPwr, .prot,
  [⟨ADC_SEQ_INPUT, .rw, 0⟩, ⟨ADC_SEQ_CAL_EN, .rw, 1⟩]⟩
/-- ADC_RES (R295): address. -/
def ADC_RES (i : Nat) (j : Nat) : Nat := 0x4001a400 + 0x100 * i + 0x4 * j
def ADC_RES_WORD : Fld := ⟨0, 32⟩
def regDefADC_RES : RegDef := ⟨0x4001a400, [(3, 0x100), (64, 0x4)], .dPwr, .free,
  [⟨ADC_RES_WORD, .ro, 262144⟩]⟩
/-- ADC_CALTAB (R301): address. -/
def ADC_CALTAB (i : Nat) (j : Nat) : Nat := 0x4001a800 + 0x100 * i + 0x4 * j
def ADC_CALTAB_OFS : Fld := ⟨0, 16⟩
def ADC_CALTAB_GAIN : Fld := ⟨16, 16⟩
def regDefADC_CALTAB : RegDef := ⟨0x4001a800, [(3, 0x100), (64, 0x4)], .dPwr, .prot,
  [⟨ADC_CALTAB_OFS, .rw, 0⟩, ⟨ADC_CALTAB_GAIN, .rw, 32768⟩]⟩

/-- The registers of block 9. -/
def blockRegs9 : List RegDef :=
  [regDefADC_CFG, regDefADC_STAT, regDefADC_SEQLEN, regDefADC_CHK, regDefADC_CHK_EXP, regDefADC_CAL,
   regDefADC_CAL_STAT, regDefADC_URG, regDefADC_URG_RES, regDefADC_URG_DONE, regDefADC_SEQ, regDefADC_RES,
   regDefADC_CALTAB]

/-! ## Block 10 (R440) -/

/-- CTX_SRC (R268): address. -/
def CTX_SRC (i : Nat) : Nat := 0x4001c000 + 0x20 * i
def CTX_SRC_KIND : Fld := ⟨0, 3⟩
def CTX_SRC_INDEX : Fld := ⟨8, 8⟩
def CTX_SRC_INV_ACT : Fld := ⟨16, 1⟩
def regDefCTX_SRC : RegDef := ⟨0x4001c000, [(160, 0x20)], .dPwr, .prot,
  [⟨CTX_SRC_KIND, .rw, 0⟩, ⟨CTX_SRC_INDEX, .rw, 0⟩, ⟨CTX_SRC_INV_ACT, .rw, 0⟩]⟩
/-- CTX_THR (R271): address. -/
def CTX_THR (i : Nat) : Nat := 0x4001c004 + 0x20 * i
def CTX_THR_LO : Fld := ⟨0, 16⟩
def CTX_THR_HI : Fld := ⟨16, 16⟩
def regDefCTX_THR : RegDef := ⟨0x4001c004, [(160, 0x20)], .dPwr, .prot,
  [⟨CTX_THR_LO, .rw, 0⟩, ⟨CTX_THR_HI, .rw, 65535⟩]⟩
/-- CTX_FILT (R271): address. -/
def CTX_FILT (i : Nat) : Nat := 0x4001c008 + 0x20 * i
def CTX_FILT_FILT : Fld := ⟨0, 8⟩
def CTX_FILT_FUNIT : Fld := ⟨8, 1⟩
def CTX_FILT_HYST : Fld := ⟨16, 16⟩
def regDefCTX_FILT : RegDef := ⟨0x4001c008, [(160, 0x20)], .dPwr, .prot,
  [⟨CTX_FILT_FILT, .rw, 1⟩, ⟨CTX_FILT_FUNIT, .rw, 0⟩, ⟨CTX_FILT_HYST, .rw, 0⟩]⟩
/-- CTX_ROR (R272): address. -/
def CTX_ROR (i : Nat) : Nat := 0x4001c00c + 0x20 * i
def CTX_ROR_LIM : Fld := ⟨0, 16⟩
def CTX_ROR_WIN : Fld := ⟨16, 3⟩
def CTX_ROR_FALL : Fld := ⟨19, 1⟩
def regDefCTX_ROR : RegDef := ⟨0x4001c00c, [(160, 0x20)], .dPwr, .prot,
  [⟨CTX_ROR_LIM, .rw, 0⟩, ⟨CTX_ROR_WIN, .rw, 0⟩, ⟨CTX_ROR_FALL, .rw, 0⟩]⟩
/-- CTX_GATE (R270): address. -/
def CTX_GATE (i : Nat) : Nat := 0x4001c010 + 0x20 * i
def CTX_GATE_COND : Fld := ⟨0, 12⟩
def CTX_GATE_GATE_EN : Fld := ⟨12, 1⟩
def CTX_GATE_MEV : Fld := ⟨16, 7⟩
def CTX_GATE_EN : Fld := ⟨24, 1⟩
def CTX_GATE_LO_EN : Fld := ⟨25, 1⟩
def CTX_GATE_HI_EN : Fld := ⟨26, 1⟩
def regDefCTX_GATE : RegDef := ⟨0x4001c010, [(160, 0x20)], .dPwr, .prot,
  [⟨CTX_GATE_COND, .rw, 0⟩, ⟨CTX_GATE_GATE_EN, .rw, 0⟩, ⟨CTX_GATE_MEV, .rw, 0⟩, ⟨CTX_GATE_EN, .rw, 0⟩, ⟨CTX_GATE_LO_EN, .rw, 0⟩, ⟨CTX_GATE_HI_EN, .rw, 0⟩]⟩
/-- CTX_VAL (R271): address. -/
def CTX_VAL (i : Nat) : Nat := 0x4001c014 + 0x20 * i
def CTX_VAL_VALUE : Fld := ⟨0, 16⟩
def CTX_VAL_RISE : Fld := ⟨16, 16⟩
def regDefCTX_VAL : RegDef := ⟨0x4001c014, [(160, 0x20)], .dPwr, .free,
  [⟨CTX_VAL_VALUE, .ro, 0⟩, ⟨CTX_VAL_RISE, .ro, 0⟩]⟩
/-- CTX_STAT (R271): address. -/
def CTX_STAT (i : Nat) : Nat := 0x4001c018 + 0x20 * i
def CTX_STAT_STATE : Fld := ⟨0, 2⟩
def CTX_STAT_RATE : Fld := ⟨2, 1⟩
def CTX_STAT_INVALID_SRC : Fld := ⟨3, 1⟩
def CTX_STAT_GATED : Fld := ⟨4, 1⟩
def CTX_STAT_INWIN : Fld := ⟨5, 1⟩
def CTX_STAT_BELOW : Fld := ⟨6, 1⟩
def CTX_STAT_TRIPPED : Fld := ⟨8, 1⟩
def CTX_STAT_FCNT : Fld := ⟨16, 16⟩
def regDefCTX_STAT : RegDef := ⟨0x4001c018, [(160, 0x20)], .dPwr, .free,
  [⟨CTX_STAT_STATE, .ro, 0⟩, ⟨CTX_STAT_RATE, .ro, 0⟩, ⟨CTX_STAT_INVALID_SRC, .ro, 0⟩, ⟨CTX_STAT_GATED, .ro, 0⟩, ⟨CTX_STAT_INWIN, .ro, 0⟩, ⟨CTX_STAT_BELOW, .ro, 0⟩, ⟨CTX_STAT_TRIPPED, .w1c, 0⟩, ⟨CTX_STAT_FCNT, .ro, 0⟩]⟩
/-- CTX_ANC (R272): address. -/
def CTX_ANC (i : Nat) : Nat := 0x4001c01c + 0x20 * i
def CTX_ANC_ANC_OLD : Fld := ⟨0, 16⟩
def CTX_ANC_ANC_NEW : Fld := ⟨16, 16⟩
def regDefCTX_ANC : RegDef := ⟨0x4001c01c, [(160, 0x20)], .dPwr, .free,
  [⟨CTX_ANC_ANC_OLD, .ro, 0⟩, ⟨CTX_ANC_ANC_NEW, .ro, 0⟩]⟩
/-- MON_STAT (R275): address. -/
def MON_STAT : Nat := 0x4001d400
def MON_STAT_WR_IGN : Fld := ⟨0, 1⟩
def regDefMON_STAT : RegDef := ⟨0x4001d400, [], .dPwr, .free,
  [⟨MON_STAT_WR_IGN, .w1c, 0⟩]⟩
/-- MEV_STAT (R276): address. -/
def MEV_STAT (i : Nat) : Nat := 0x4001d410 + 0x4 * i
def MEV_STAT_RAISED : Fld := ⟨0, 32⟩
def regDefMEV_STAT : RegDef := ⟨0x4001d410, [(3, 0x4)], .dPwr, .free,
  [⟨MEV_STAT_RAISED, .ro, 0⟩]⟩

/-- The registers of block 10. -/
def blockRegs10 : List RegDef :=
  [regDefCTX_SRC, regDefCTX_THR, regDefCTX_FILT, regDefCTX_ROR, regDefCTX_GATE, regDefCTX_VAL,
   regDefCTX_STAT, regDefCTX_ANC, regDefMON_STAT, regDefMEV_STAT]

end Sys2Proof.Machine
end

