-- ==== Sys2Proof/Machine/RegMapC.lean ====
section
/-! DEFINITION. The register map of blocks 11 to 16 (spec chapters 03 to 18): each register's address, fields, access codes and reset values. -/
namespace Sys2Proof.Machine

/-! ## Block 11 (R440) -/

/-- TH_CFG (R281): address. -/
def TH_CFG : Nat := 0x4001e000
def TH_CFG_EN : Fld := ⟨0, 1⟩
def TH_CFG_XCHK_EN : Fld := ⟨1, 1⟩
def TH_CFG_DWELL : Fld := ⟨8, 8⟩
def TH_CFG_HYST : Fld := ⟨16, 8⟩
def TH_CFG_PKG_LVL : Fld := ⟨24, 2⟩
def regDefTH_CFG : RegDef := ⟨0x4001e000, [], .dPwr, .prot,
  [⟨TH_CFG_EN, .rw, 0⟩, ⟨TH_CFG_XCHK_EN, .rw, 1⟩, ⟨TH_CFG_DWELL, .rw, 25⟩, ⟨TH_CFG_HYST, .rw, 6⟩, ⟨TH_CFG_PKG_LVL, .rw, 2⟩]⟩
/-- TH_AMB (R279): address. -/
def TH_AMB : Nat := 0x4001e004
def TH_AMB_AMB : Fld := ⟨0, 16⟩
def TH_AMB_OFS_MAX : Fld := ⟨16, 16⟩
def regDefTH_AMB : RegDef := ⟨0x4001e004, [], .dPwr, .prot,
  [⟨TH_AMB_AMB, .rw, 3200⟩, ⟨TH_AMB_OFS_MAX, .rw, 2560⟩]⟩
/-- TH_OFS (R283): address. -/
def TH_OFS : Nat := 0x4001e008
def TH_OFS_OFS : Fld := ⟨0, 16⟩
def TH_OFS_ADJ : Fld := ⟨16, 8⟩
def regDefTH_OFS : RegDef := ⟨0x4001e008, [], .dPwr, .prot,
  [⟨TH_OFS_OFS, .ro, 0⟩, ⟨TH_OFS_ADJ, .ro, 0⟩]⟩
/-- TH_PKG (R285): address. -/
def TH_PKG : Nat := 0x4001e00c
def TH_PKG_PKG_LIM : Fld := ⟨0, 16⟩
def regDefTH_PKG : RegDef := ⟨0x4001e00c, [], .dPwr, .prot,
  [⟨TH_PKG_PKG_LIM, .rw, 6500⟩]⟩
/-- TH_PKG_P (R279): address. -/
def TH_PKG_P : Nat := 0x4001e010
def TH_PKG_P_P : Fld := ⟨0, 32⟩
def regDefTH_PKG_P : RegDef := ⟨0x4001e010, [], .dPwr, .prot,
  [⟨TH_PKG_P_P, .ro, 0⟩]⟩
/-- TH_CTL (R285): address. -/
def TH_CTL : Nat := 0x4001e014
def TH_CTL_FORCE_MIN : Fld := ⟨0, 2⟩
def regDefTH_CTL : RegDef := ⟨0x4001e014, [], .dPwr, .free,
  [⟨TH_CTL_FORCE_MIN, .rw, 0⟩]⟩
/-- TH_STAT (R285): address. -/
def TH_STAT : Nat := 0x4001e018
def TH_STAT_THR_LVL : Fld := ⟨0, 2⟩
def TH_STAT_RATE : Fld := ⟨2, 1⟩
def TH_STAT_CAUSE : Fld := ⟨8, 6⟩
def TH_STAT_CRIT : Fld := ⟨16, 1⟩
def TH_STAT_XCHK : Fld := ⟨17, 1⟩
def TH_STAT_OFS_LIM : Fld := ⟨18, 1⟩
def TH_STAT_NTC_FLT : Fld := ⟨19, 1⟩
def regDefTH_STAT : RegDef := ⟨0x4001e018, [], .dPwr, .prot,
  [⟨TH_STAT_THR_LVL, .ro, 0⟩, ⟨TH_STAT_RATE, .ro, 0⟩, ⟨TH_STAT_CAUSE, .ro, 0⟩, ⟨TH_STAT_CRIT, .w1c, 0⟩, ⟨TH_STAT_XCHK, .w1c, 0⟩, ⟨TH_STAT_OFS_LIM, .w1c, 0⟩, ⟨TH_STAT_NTC_FLT, .w1c, 0⟩]⟩
/-- TH_PFIX (R279): address. -/
def TH_PFIX : Nat := 0x4001e01c
def TH_PFIX_PWR : Fld := ⟨0, 16⟩
def TH_PFIX_CTL : Fld := ⟨16, 16⟩
def regDefTH_PFIX : RegDef := ⟨0x4001e01c, [], .dPwr, .prot,
  [⟨TH_PFIX_PWR, .rw, 500⟩, ⟨TH_PFIX_CTL, .rw, 600⟩]⟩
/-- TH_CHG_SPLIT (R279): address. -/
def TH_CHG_SPLIT : Nat := 0x4001e020
def TH_CHG_SPLIT_N34 : Fld := ⟨0, 8⟩
def TH_CHG_SPLIT_N35 : Fld := ⟨8, 8⟩
def regDefTH_CHG_SPLIT : RegDef := ⟨0x4001e020, [], .dPwr, .prot,
  [⟨TH_CHG_SPLIT_N34, .rw, 40⟩, ⟨TH_CHG_SPLIT_N35, .rw, 40⟩]⟩
/-- TH_STG_R (R280): address. -/
def TH_STG_R (i : Nat) : Nat := 0x4001e040 + 0x10 * i
def TH_STG_R_RHS : Fld := ⟨0, 16⟩
def TH_STG_R_RLS : Fld := ⟨16, 16⟩
def regDefTH_STG_R : RegDef := ⟨0x4001e040, [(4, 0x10)], .dPwr, .prot,
  [⟨TH_STG_R_RHS, .rw, 150⟩, ⟨TH_STG_R_RLS, .rw, 80⟩]⟩
/-- TH_STG_SW (R280): address. -/
def TH_STG_SW (i : Nat) : Nat := 0x4001e044 + 0x10 * i
def TH_STG_SW_TSW : Fld := ⟨0, 16⟩
def TH_STG_SW_PFSW : Fld := ⟨16, 16⟩
def regDefTH_STG_SW : RegDef := ⟨0x4001e044, [(4, 0x10)], .dPwr, .prot,
  [⟨TH_STG_SW_TSW, .rw, 2000⟩, ⟨TH_STG_SW_PFSW, .rw, 150⟩]⟩
/-- TH_STG_VIN (R280): address. -/
def TH_STG_VIN (i : Nat) : Nat := 0x4001e048 + 0x10 * i
def TH_STG_VIN_VIN : Fld := ⟨0, 16⟩
def TH_STG_VIN_SRC : Fld := ⟨16, 2⟩
def regDefTH_STG_VIN : RegDef := ⟨0x4001e048, [(4, 0x10)], .dPwr, .prot,
  [⟨TH_STG_VIN_VIN, .rw, 12000⟩, ⟨TH_STG_VIN_SRC, .rw, 0⟩]⟩
/-- TH_NODE (R281): address. -/
def TH_NODE (i : Nat) : Nat := 0x4001e100 + 0x4 * i
def TH_NODE_CAP : Fld := ⟨0, 24⟩
def regDefTH_NODE : RegDef := ⟨0x4001e100, [(40, 0x4)], .dPwr, .prot,
  [⟨TH_NODE_CAP, .rw, 0⟩]⟩
/-- TH_LINK (R281): address. -/
def TH_LINK (i : Nat) : Nat := 0x4001e200 + 0x4 * i
def TH_LINK_A : Fld := ⟨0, 6⟩
def TH_LINK_B : Fld := ⟨6, 6⟩
def TH_LINK_G : Fld := ⟨16, 16⟩
def regDefTH_LINK : RegDef := ⟨0x4001e200, [(80, 0x4)], .dPwr, .prot,
  [⟨TH_LINK_A, .rw, 0⟩, ⟨TH_LINK_B, .rw, 0⟩, ⟨TH_LINK_G, .rw, 0⟩]⟩
/-- TH_LIM_A (R285): address. -/
def TH_LIM_A (i : Nat) : Nat := 0x4001e400 + 0x10 * i
def TH_LIM_A_T1 : Fld := ⟨0, 16⟩
def TH_LIM_A_T2 : Fld := ⟨16, 16⟩
def regDefTH_LIM_A : RegDef := ⟨0x4001e400, [(40, 0x10)], .dPwr, .prot,
  [⟨TH_LIM_A_T1, .rw, 32767⟩, ⟨TH_LIM_A_T2, .rw, 32767⟩]⟩
/-- TH_LIM_B (R285): address. -/
def TH_LIM_B (i : Nat) : Nat := 0x4001e404 + 0x10 * i
def TH_LIM_B_T3 : Fld := ⟨0, 16⟩
def TH_LIM_B_TCRIT : Fld := ⟨16, 16⟩
def regDefTH_LIM_B : RegDef := ⟨0x4001e404, [(40, 0x10)], .dPwr, .prot,
  [⟨TH_LIM_B_T3, .rw, 32767⟩, ⟨TH_LIM_B_TCRIT, .rw, 32767⟩]⟩
/-- TH_LIM_R (R285): address. -/
def TH_LIM_R (i : Nat) : Nat := 0x4001e408 + 0x10 * i
def TH_LIM_R_RISE10 : Fld := ⟨0, 16⟩
def TH_LIM_R_RISE1S : Fld := ⟨16, 16⟩
def regDefTH_LIM_R : RegDef := ⟨0x4001e408, [(40, 0x10)], .dPwr, .prot,
  [⟨TH_LIM_R_RISE10, .rw, 0⟩, ⟨TH_LIM_R_RISE1S, .rw, 0⟩]⟩
/-- TH_LIM_C (R285): address. -/
def TH_LIM_C (i : Nat) : Nat := 0x4001e40c + 0x10 * i
def TH_LIM_C_RLVL : Fld := ⟨0, 2⟩
def TH_LIM_C_EN : Fld := ⟨2, 1⟩
def regDefTH_LIM_C : RegDef := ⟨0x4001e40c, [(40, 0x10)], .dPwr, .prot,
  [⟨TH_LIM_C_RLVL, .rw, 1⟩, ⟨TH_LIM_C_EN, .rw, 0⟩]⟩
/-- TH_T (R281): address. -/
def TH_T (i : Nat) : Nat := 0x4001e700 + 0x4 * i
def TH_T_T : Fld := ⟨0, 16⟩
def TH_T_P : Fld := ⟨16, 16⟩
def regDefTH_T : RegDef := ⟨0x4001e700, [(40, 0x4)], .dPwr, .prot,
  [⟨TH_T_T, .ro, 32768⟩, ⟨TH_T_P, .ro, 0⟩]⟩
/-- TH_RISE (R284): address. -/
def TH_RISE (i : Nat) : Nat := 0x4001e7a0 + 0x4 * i
def TH_RISE_R10 : Fld := ⟨0, 16⟩
def TH_RISE_R1S : Fld := ⟨16, 16⟩
def regDefTH_RISE : RegDef := ⟨0x4001e7a0, [(40, 0x4)], .dPwr, .prot,
  [⟨TH_RISE_R10, .ro, 0⟩, ⟨TH_RISE_R1S, .ro, 0⟩]⟩
/-- NTC_CFG (R278): address. -/
def NTC_CFG (i : Nat) : Nat := 0x4001e900 + 0x8 * i
def NTC_CFG_ENTRY : Fld := ⟨0, 7⟩
def NTC_CFG_NODE : Fld := ⟨8, 6⟩
def NTC_CFG_EN : Fld := ⟨15, 1⟩
def NTC_CFG_BETA : Fld := ⟨16, 16⟩
def regDefNTC_CFG : RegDef := ⟨0x4001e900, [(8, 0x8)], .dPwr, .prot,
  [⟨NTC_CFG_ENTRY, .rw, 0⟩, ⟨NTC_CFG_NODE, .rw, 63⟩, ⟨NTC_CFG_EN, .rw, 0⟩, ⟨NTC_CFG_BETA, .rw, 3435⟩]⟩
/-- NTC_R25 (R278): address. -/
def NTC_R25 (i : Nat) : Nat := 0x4001e904 + 0x8 * i
def NTC_R25_R25 : Fld := ⟨0, 24⟩
def regDefNTC_R25 : RegDef := ⟨0x4001e904, [(8, 0x8)], .dPwr, .prot,
  [⟨NTC_R25_R25, .rw, 10000⟩]⟩
/-- NTC_T (R278): address. -/
def NTC_T (i : Nat) : Nat := 0x4001e940 + 0x4 * i
def NTC_T_T : Fld := ⟨0, 16⟩
def NTC_T_OPEN : Fld := ⟨16, 1⟩
def NTC_T_SHORT : Fld := ⟨17, 1⟩
def regDefNTC_T : RegDef := ⟨0x4001e940, [(8, 0x4)], .dPwr, .prot,
  [⟨NTC_T_T, .ro, 32768⟩, ⟨NTC_T_OPEN, .ro, 0⟩, ⟨NTC_T_SHORT, .ro, 0⟩]⟩

/-- The registers of block 11. -/
def blockRegs11 : List RegDef :=
  [regDefTH_CFG, regDefTH_AMB, regDefTH_OFS, regDefTH_PKG, regDefTH_PKG_P, regDefTH_CTL,
   regDefTH_STAT, regDefTH_PFIX, regDefTH_CHG_SPLIT, regDefTH_STG_R, regDefTH_STG_SW, regDefTH_STG_VIN,
   regDefTH_NODE, regDefTH_LINK, regDefTH_LIM_A, regDefTH_LIM_B, regDefTH_LIM_R, regDefTH_LIM_C,
   regDefTH_T, regDefTH_RISE, regDefNTC_CFG, regDefNTC_R25, regDefNTC_T]

/-! ## Block 12 (R440) -/

/-- STEP (R243): address. -/
def STEP (i : Nat) : Nat := 0x40020000 + 0x4 * i
def STEP_WORD : Fld := ⟨0, 32⟩
def regDefSTEP : RegDef := ⟨0x40020000, [(6144, 0x4)], .dPwr, .prot,
  [⟨STEP_WORD, .rw, 0⟩]⟩
/-- SEQ_CFG (R246): address. -/
def SEQ_CFG : Nat := 0x40026000
def SEQ_CFG_OFF_MV : Fld := ⟨0, 8⟩
def regDefSEQ_CFG : RegDef := ⟨0x40026000, [], .dPwr, .prot,
  [⟨SEQ_CFG_OFF_MV, .rw, 20⟩]⟩
/-- SEQ_STAT (R258): address. -/
def SEQ_STAT : Nat := 0x40026004
def SEQ_STAT_FN_IN : Fld := ⟨0, 1⟩
def SEQ_STAT_FN_DRIVE : Fld := ⟨1, 1⟩
def SEQ_STAT_UP_PEND : Fld := ⟨2, 1⟩
def SEQ_STAT_MIN_OFF : Fld := ⟨3, 1⟩
def SEQ_STAT_SIB_OK : Fld := ⟨4, 1⟩
def SEQ_STAT_WR_IGN : Fld := ⟨5, 1⟩
def SEQ_STAT_FAULT_SUPP : Fld := ⟨6, 1⟩
def regDefSEQ_STAT : RegDef := ⟨0x40026004, [], .dPwr, .free,
  [⟨SEQ_STAT_FN_IN, .ro, 0⟩, ⟨SEQ_STAT_FN_DRIVE, .ro, 0⟩, ⟨SEQ_STAT_UP_PEND, .ro, 0⟩, ⟨SEQ_STAT_MIN_OFF, .ro, 0⟩, ⟨SEQ_STAT_SIB_OK, .ro, 0⟩, ⟨SEQ_STAT_WR_IGN, .w1c, 0⟩, ⟨SEQ_STAT_FAULT_SUPP, .w1c, 0⟩]⟩
/-- SEQ_FLAGS (R245): address. -/
def SEQ_FLAGS : Nat := 0x40026008
def SEQ_FLAGS_FLAGS : Fld := ⟨0, 32⟩
def regDefSEQ_FLAGS : RegDef := ⟨0x40026008, [], .dPwr, .free,
  [⟨SEQ_FLAGS_FLAGS, .ro, 0⟩]⟩
/-- SEQ_FLAG_SET (R245): address. -/
def SEQ_FLAG_SET : Nat := 0x4002600c
def SEQ_FLAG_SET_SET : Fld := ⟨0, 32⟩
def regDefSEQ_FLAG_SET : RegDef := ⟨0x4002600c, [], .dPwr, .free,
  [⟨SEQ_FLAG_SET_SET, .wo, 0⟩]⟩
/-- SEQ_FLAG_CLR (R245): address. -/
def SEQ_FLAG_CLR : Nat := 0x40026010
def SEQ_FLAG_CLR_CLR : Fld := ⟨0, 32⟩
def regDefSEQ_FLAG_CLR : RegDef := ⟨0x40026010, [], .dPwr, .free,
  [⟨SEQ_FLAG_CLR_CLR, .wo, 0⟩]⟩
/-- SEQ_DOWN (R260): address. -/
def SEQ_DOWN : Nat := 0x40026014
def SEQ_DOWN_RESUME : Fld := ⟨0, 6⟩
def SEQ_DOWN_ABORT_EN : Fld := ⟨6, 1⟩
def SEQ_DOWN_MIN_OFF : Fld := ⟨8, 8⟩
def SEQ_DOWN_AUTO_UP : Fld := ⟨16, 1⟩
def SEQ_DOWN_EV_EN : Fld := ⟨20, 4⟩
def regDefSEQ_DOWN : RegDef := ⟨0x40026014, [], .dPwr, .prot,
  [⟨SEQ_DOWN_RESUME, .rw, 4⟩, ⟨SEQ_DOWN_ABORT_EN, .rw, 1⟩, ⟨SEQ_DOWN_MIN_OFF, .rw, 10⟩, ⟨SEQ_DOWN_AUTO_UP, .rw, 1⟩, ⟨SEQ_DOWN_EV_EN, .rw, 0⟩]⟩
/-- SEQ_DOWN_EV (R261): address. -/
def SEQ_DOWN_EV : Nat := 0x40026018
def SEQ_DOWN_EV_ESN : Fld := ⟨0, 32⟩
def regDefSEQ_DOWN_EV : RegDef := ⟨0x40026018, [], .dPwr, .prot,
  [⟨SEQ_DOWN_EV_ESN, .rw, 0⟩]⟩
/-- SEQ_FN (R258): address. -/
def SEQ_FN : Nat := 0x4002601c
def SEQ_FN_DRIVE : Fld := ⟨0, 1⟩
def SEQ_FN_BLOCK_UP : Fld := ⟨1, 1⟩
def SEQ_FN_LABEL : Fld := ⟨8, 6⟩
def SEQ_FN_HOLD : Fld := ⟨16, 8⟩
def regDefSEQ_FN : RegDef := ⟨0x4002601c, [], .dPwr, .prot,
  [⟨SEQ_FN_DRIVE, .rw, 1⟩, ⟨SEQ_FN_BLOCK_UP, .rw, 1⟩, ⟨SEQ_FN_LABEL, .rw, 2⟩, ⟨SEQ_FN_HOLD, .rw, 4⟩]⟩
/-- SEQ_CMD (R254): address. -/
def SEQ_CMD (i : Nat) : Nat := 0x40026020 + 0x4 * i
def SEQ_CMD_CMD : Fld := ⟨0, 2⟩
def SEQ_CMD_LABEL : Fld := ⟨8, 6⟩
def SEQ_CMD_USE_LABEL : Fld := ⟨15, 1⟩
def regDefSEQ_CMD : RegDef := ⟨0x40026020, [(4, 0x4)], .dPwr, .free,
  [⟨SEQ_CMD_CMD, .wo, 0⟩, ⟨SEQ_CMD_LABEL, .wo, 0⟩, ⟨SEQ_CMD_USE_LABEL, .wo, 0⟩]⟩
/-- SEQ_THR_CFG (R254): address. -/
def SEQ_THR_CFG (i : Nat) : Nat := 0x40026040 + 0x4 * i
def SEQ_THR_CFG_ENTRY : Fld := ⟨0, 6⟩
def regDefSEQ_THR_CFG : RegDef := ⟨0x40026040, [(4, 0x4)], .dPwr, .prot,
  [⟨SEQ_THR_CFG_ENTRY, .rw, 0⟩]⟩
/-- SEQ_THR_STAT (R239): address. -/
def SEQ_THR_STAT (i : Nat) : Nat := 0x40026050 + 0x4 * i
def SEQ_THR_STAT_STATE : Fld := ⟨0, 2⟩
def SEQ_THR_STAT_DEPTH : Fld := ⟨2, 3⟩
def SEQ_THR_STAT_COMMITTED : Fld := ⟨5, 1⟩
def SEQ_THR_STAT_TO : Fld := ⟨6, 1⟩
def SEQ_THR_STAT_END : Fld := ⟨8, 4⟩
def SEQ_THR_STAT_PC : Fld := ⟨16, 13⟩
def regDefSEQ_THR_STAT : RegDef := ⟨0x40026050, [(4, 0x4)], .dPwr, .free,
  [⟨SEQ_THR_STAT_STATE, .ro, 0⟩, ⟨SEQ_THR_STAT_DEPTH, .ro, 0⟩, ⟨SEQ_THR_STAT_COMMITTED, .ro, 0⟩, ⟨SEQ_THR_STAT_TO, .ro, 0⟩, ⟨SEQ_THR_STAT_END, .ro, 0⟩, ⟨SEQ_THR_STAT_PC, .ro, 0⟩]⟩
/-- SEQ_XCTX (R274): address. -/
def SEQ_XCTX (i : Nat) : Nat := 0x40026080 + 0x4 * i
def SEQ_XCTX_CTX0 : Fld := ⟨0, 8⟩
def SEQ_XCTX_CTX1 : Fld := ⟨8, 8⟩
def SEQ_XCTX_CTX2 : Fld := ⟨16, 8⟩
def SEQ_XCTX_CTX3 : Fld := ⟨24, 8⟩
def regDefSEQ_XCTX : RegDef := ⟨0x40026080, [(8, 0x4)], .dPwr, .prot,
  [⟨SEQ_XCTX_CTX0, .rw, 255⟩, ⟨SEQ_XCTX_CTX1, .rw, 255⟩, ⟨SEQ_XCTX_CTX2, .rw, 255⟩, ⟨SEQ_XCTX_CTX3, .rw, 255⟩]⟩
/-- SEQ_SIB_ID (R262): address. -/
def SEQ_SIB_ID : Nat := 0x400260a0
def SEQ_SIB_ID_ID0 : Fld := ⟨0, 8⟩
def SEQ_SIB_ID_ID1 : Fld := ⟨8, 8⟩
def SEQ_SIB_ID_ID2 : Fld := ⟨16, 8⟩
def SEQ_SIB_ID_ID3 : Fld := ⟨24, 8⟩
def regDefSEQ_SIB_ID : RegDef := ⟨0x400260a0, [], .dPwr, .free,
  [⟨SEQ_SIB_ID_ID0, .ro, 0⟩, ⟨SEQ_SIB_ID_ID1, .ro, 0⟩, ⟨SEQ_SIB_ID_ID2, .ro, 0⟩, ⟨SEQ_SIB_ID_ID3, .ro, 0⟩]⟩
/-- SEQ_SIB_FLG (R262): address. -/
def SEQ_SIB_FLG : Nat := 0x400260a4
def SEQ_SIB_FLG_ARRIVED0 : Fld := ⟨0, 1⟩
def SEQ_SIB_FLG_PASSED0 : Fld := ⟨1, 1⟩
def SEQ_SIB_FLG_ARRIVED1 : Fld := ⟨2, 1⟩
def SEQ_SIB_FLG_PASSED1 : Fld := ⟨3, 1⟩
def SEQ_SIB_FLG_ARRIVED2 : Fld := ⟨4, 1⟩
def SEQ_SIB_FLG_PASSED2 : Fld := ⟨5, 1⟩
def SEQ_SIB_FLG_ARRIVED3 : Fld := ⟨6, 1⟩
def SEQ_SIB_FLG_PASSED3 : Fld := ⟨7, 1⟩
def regDefSEQ_SIB_FLG : RegDef := ⟨0x400260a4, [], .dPwr, .free,
  [⟨SEQ_SIB_FLG_ARRIVED0, .ro, 0⟩, ⟨SEQ_SIB_FLG_PASSED0, .ro, 0⟩, ⟨SEQ_SIB_FLG_ARRIVED1, .ro, 0⟩, ⟨SEQ_SIB_FLG_PASSED1, .ro, 0⟩, ⟨SEQ_SIB_FLG_ARRIVED2, .ro, 0⟩, ⟨SEQ_SIB_FLG_PASSED2, .ro, 0⟩, ⟨SEQ_SIB_FLG_ARRIVED3, .ro, 0⟩, ⟨SEQ_SIB_FLG_PASSED3, .ro, 0⟩]⟩
/-- SEQ_LABEL (R242): address. -/
def SEQ_LABEL (i : Nat) : Nat := 0x40026100 + 0x4 * i
def SEQ_LABEL_STEP : Fld := ⟨0, 13⟩
def regDefSEQ_LABEL : RegDef := ⟨0x40026100, [(64, 0x4)], .dPwr, .prot,
  [⟨SEQ_LABEL_STEP, .rw, 0⟩]⟩

/-- The registers of block 12. -/
def blockRegs12 : List RegDef :=
  [regDefSTEP, regDefSEQ_CFG, regDefSEQ_STAT, regDefSEQ_FLAGS, regDefSEQ_FLAG_SET, regDefSEQ_FLAG_CLR,
   regDefSEQ_DOWN, regDefSEQ_DOWN_EV, regDefSEQ_FN, regDefSEQ_CMD, regDefSEQ_THR_CFG, regDefSEQ_THR_STAT,
   regDefSEQ_XCTX, regDefSEQ_SIB_ID, regDefSEQ_SIB_FLG, regDefSEQ_LABEL]

/-! ## Block 13 (R440) -/

/-- PLATE_CFG (R353): address. -/
def PLATE_CFG : Nat := 0x40028000
def PLATE_CFG_COAL : Fld := ⟨0, 16⟩
def PLATE_CFG_COAL_HI : Fld := ⟨16, 1⟩
def PLATE_CFG_WEAR_SEV : Fld := ⟨17, 3⟩
def PLATE_CFG_SNAP_SEV : Fld := ⟨20, 3⟩
def PLATE_CFG_QUIET : Fld := ⟨24, 8⟩
def regDefPLATE_CFG : RegDef := ⟨0x40028000, [], .dPwr, .prot,
  [⟨PLATE_CFG_COAL, .rw, 1000⟩, ⟨PLATE_CFG_COAL_HI, .rw, 0⟩, ⟨PLATE_CFG_WEAR_SEV, .rw, 3⟩, ⟨PLATE_CFG_SNAP_SEV, .rw, 3⟩, ⟨PLATE_CFG_QUIET, .rw, 50⟩]⟩
/-- PLATE_CTL (R359): address. -/
def PLATE_CTL : Nat := 0x40028004
def PLATE_CTL_SNAP : Fld := ⟨0, 1⟩
def PLATE_CTL_TAG : Fld := ⟨16, 16⟩
def regDefPLATE_CTL : RegDef := ⟨0x40028004, [], .dPwr, .free,
  [⟨PLATE_CTL_SNAP, .wo, 0⟩, ⟨PLATE_CTL_TAG, .wo, 0⟩]⟩
/-- PLATE_STAT (R360): address. -/
def PLATE_STAT : Nat := 0x40028008
def PLATE_STAT_READY : Fld := ⟨0, 1⟩
def PLATE_STAT_BLOCKED : Fld := ⟨1, 1⟩
def PLATE_STAT_FLOOD : Fld := ⟨2, 1⟩
def PLATE_STAT_SNAP_BUSY : Fld := ⟨3, 1⟩
def PLATE_STAT_FULL : Fld := ⟨4, 1⟩
def PLATE_STAT_LEVEL : Fld := ⟨16, 10⟩
def regDefPLATE_STAT : RegDef := ⟨0x40028008, [], .dPwr, .free,
  [⟨PLATE_STAT_READY, .ro, 0⟩, ⟨PLATE_STAT_BLOCKED, .ro, 0⟩, ⟨PLATE_STAT_FLOOD, .ro, 0⟩, ⟨PLATE_STAT_SNAP_BUSY, .ro, 0⟩, ⟨PLATE_STAT_FULL, .ro, 0⟩, ⟨PLATE_STAT_LEVEL, .ro, 0⟩]⟩
/-- PLATE_SEQ (R348): address. -/
def PLATE_SEQ : Nat := 0x4002800c
def PLATE_SEQ_SEQ : Fld := ⟨0, 32⟩
def regDefPLATE_SEQ : RegDef := ⟨0x4002800c, [], .dPwr, .free,
  [⟨PLATE_SEQ_SEQ, .ro, 0⟩]⟩
/-- PLATE_WPTR (R354): address. -/
def PLATE_WPTR : Nat := 0x40028010
def PLATE_WPTR_SLOT : Fld := ⟨0, 20⟩
def regDefPLATE_WPTR : RegDef := ⟨0x40028010, [], .dPwr, .free,
  [⟨PLATE_WPTR_SLOT, .ro, 0⟩]⟩
/-- PLATE_CHAIN (R359): address. -/
def PLATE_CHAIN : Nat := 0x40028014
def PLATE_CHAIN_ID : Fld := ⟨0, 16⟩
def regDefPLATE_CHAIN : RegDef := ⟨0x40028014, [], .dPwr, .free,
  [⟨PLATE_CHAIN_ID, .ro, 0⟩]⟩
/-- PLATE_SEVCNT (R354): address. -/
def PLATE_SEVCNT (i : Nat) : Nat := 0x40028020 + 0x4 * i
def PLATE_SEVCNT_COUNT : Fld := ⟨0, 20⟩
def regDefPLATE_SEVCNT : RegDef := ⟨0x40028020, [(5, 0x4)], .dPwr, .free,
  [⟨PLATE_SEVCNT_COUNT, .ro, 0⟩]⟩
/-- PLATE_DROP (R356): address. -/
def PLATE_DROP (i : Nat) : Nat := 0x40028040 + 0x4 * i
def PLATE_DROP_COUNT : Fld := ⟨0, 32⟩
def regDefPLATE_DROP : RegDef := ⟨0x40028040, [(5, 0x4)], .dPwr, .free,
  [⟨PLATE_DROP_COUNT, .ro, 0⟩]⟩
/-- PLATE_CURSOR (R361): address. -/
def PLATE_CURSOR : Nat := 0x40028060
def PLATE_CURSOR_SLOT : Fld := ⟨0, 20⟩
def regDefPLATE_CURSOR : RegDef := ⟨0x40028060, [], .dPwr, .free,
  [⟨PLATE_CURSOR_SLOT, .rw, 0⟩]⟩
/-- PLATE_WIN (R361): address. -/
def PLATE_WIN (i : Nat) : Nat := 0x40028080 + 0x4 * i
def PLATE_WIN_WORD : Fld := ⟨0, 32⟩
def regDefPLATE_WIN : RegDef := ⟨0x40028080, [(16, 0x4)], .dPwr, .free,
  [⟨PLATE_WIN_WORD, .ro, 0⟩]⟩
/-- NV_STAT (R344): address. -/
def NV_STAT : Nat := 0x40028100
def NV_STAT_BUSY : Fld := ⟨0, 1⟩
def NV_STAT_REFUSED : Fld := ⟨1, 1⟩
def NV_STAT_UNCORR : Fld := ⟨2, 1⟩
def NV_STAT_SPARES : Fld := ⟨8, 8⟩
def NV_STAT_CORR : Fld := ⟨16, 16⟩
def regDefNV_STAT : RegDef := ⟨0x40028100, [], .dPwr, .free,
  [⟨NV_STAT_BUSY, .ro, 0⟩, ⟨NV_STAT_REFUSED, .w1c, 0⟩, ⟨NV_STAT_UNCORR, .w1c, 0⟩, ⟨NV_STAT_SPARES, .ro, 0⟩, ⟨NV_STAT_CORR, .ro, 0⟩]⟩
/-- NV_ADDR (R344): address. -/
def NV_ADDR : Nat := 0x40028104
def NV_ADDR_WORD : Fld := ⟨3, 23⟩
def regDefNV_ADDR : RegDef := ⟨0x40028104, [], .dPwr, .burin,
  [⟨NV_ADDR_WORD, .rw, 0⟩]⟩
/-- NV_DATA_LO (R344): address. -/
def NV_DATA_LO : Nat := 0x40028108
def NV_DATA_LO_DATA : Fld := ⟨0, 32⟩
def regDefNV_DATA_LO : RegDef := ⟨0x40028108, [], .dPwr, .burin,
  [⟨NV_DATA_LO_DATA, .rw, 0⟩]⟩
/-- NV_DATA_HI (R344): address. -/
def NV_DATA_HI : Nat := 0x4002810c
def NV_DATA_HI_DATA : Fld := ⟨0, 32⟩
def regDefNV_DATA_HI : RegDef := ⟨0x4002810c, [], .dPwr, .burin,
  [⟨NV_DATA_HI_DATA, .rw, 0⟩]⟩
/-- NV_CMD (R344): address. -/
def NV_CMD : Nat := 0x40028110
def NV_CMD_CMD : Fld := ⟨0, 2⟩
def regDefNV_CMD : RegDef := ⟨0x40028110, [], .dPwr, .burin,
  [⟨NV_CMD_CMD, .wo, 0⟩]⟩
/-- NV_JRNL_BASE (R345): address. -/
def NV_JRNL_BASE : Nat := 0x40028120
def NV_JRNL_BASE_SECTOR : Fld := ⟨12, 14⟩
def regDefNV_JRNL_BASE : RegDef := ⟨0x40028120, [], .dPwr, .burin,
  [⟨NV_JRNL_BASE_SECTOR, .rw, 0⟩]⟩
/-- NV_JRNL_LEN (R345): address. -/
def NV_JRNL_LEN : Nat := 0x40028124
def NV_JRNL_LEN_LEN : Fld := ⟨0, 14⟩
def regDefNV_JRNL_LEN : RegDef := ⟨0x40028124, [], .dPwr, .burin,
  [⟨NV_JRNL_LEN_LEN, .rw, 0⟩]⟩
/-- NV_JRNL_DONE (R345): address. -/
def NV_JRNL_DONE : Nat := 0x40028128
def NV_JRNL_DONE_DONE : Fld := ⟨0, 14⟩
def regDefNV_JRNL_DONE : RegDef := ⟨0x40028128, [], .dPwr, .free,
  [⟨NV_JRNL_DONE_DONE, .ro, 0⟩]⟩
/-- NV_JRNL_STAT (R345): address. -/
def NV_JRNL_STAT : Nat := 0x4002812c
def NV_JRNL_STAT_ACTIVE : Fld := ⟨0, 1⟩
def NV_JRNL_STAT_INTERRUPTED : Fld := ⟨1, 1⟩
def regDefNV_JRNL_STAT : RegDef := ⟨0x4002812c, [], .dPwr, .free,
  [⟨NV_JRNL_STAT_ACTIVE, .ro, 0⟩, ⟨NV_JRNL_STAT_INTERRUPTED, .ro, 0⟩]⟩
/-- PLATE_SUPP (R356): address. -/
def PLATE_SUPP (i : Nat) : Nat := 0x40028400 + 0x4 * i
def PLATE_SUPP_COUNT : Fld := ⟨0, 24⟩
def PLATE_SUPP_SEV : Fld := ⟨24, 3⟩
def regDefPLATE_SUPP : RegDef := ⟨0x40028400, [(256, 0x4)], .dPwr, .free,
  [⟨PLATE_SUPP_COUNT, .ro, 0⟩, ⟨PLATE_SUPP_SEV, .ro, 0⟩]⟩

/-- The registers of block 13. -/
def blockRegs13 : List RegDef :=
  [regDefPLATE_CFG, regDefPLATE_CTL, regDefPLATE_STAT, regDefPLATE_SEQ, regDefPLATE_WPTR, regDefPLATE_CHAIN,
   regDefPLATE_SEVCNT, regDefPLATE_DROP, regDefPLATE_CURSOR, regDefPLATE_WIN, regDefNV_STAT, regDefNV_ADDR,
   regDefNV_DATA_LO, regDefNV_DATA_HI, regDefNV_CMD, regDefNV_JRNL_BASE, regDefNV_JRNL_LEN, regDefNV_JRNL_DONE,
   regDefNV_JRNL_STAT, regDefPLATE_SUPP]

/-! ## Block 14 (R440) -/

/-- RTC_CTL (R370): address. -/
def RTC_CTL : Nat := 0x4002a000
def RTC_CTL_CMD : Fld := ⟨0, 2⟩
def regDefRTC_CTL : RegDef := ⟨0x4002a000, [], .dBak, .free,
  [⟨RTC_CTL_CMD, .wo, 0⟩]⟩
/-- RTC_STAT (R365): address. -/
def RTC_STAT : Nat := 0x4002a004
def RTC_STAT_VALID : Fld := ⟨0, 1⟩
def RTC_STAT_SUBST : Fld := ⟨1, 1⟩
def RTC_STAT_XSTOP : Fld := ⟨2, 1⟩
def RTC_STAT_BAK_LOW : Fld := ⟨3, 1⟩
def RTC_STAT_BAK_FRESH : Fld := ⟨4, 1⟩
def RTC_STAT_SWO_STAMPED : Fld := ⟨5, 1⟩
def RTC_STAT_SET_IGN : Fld := ⟨6, 1⟩
def RTC_STAT_LOSS : Fld := ⟨7, 1⟩
def regDefRTC_STAT : RegDef := ⟨0x4002a004, [], .dBak, .free,
  [⟨RTC_STAT_VALID, .ro, 0⟩, ⟨RTC_STAT_SUBST, .ro, 0⟩, ⟨RTC_STAT_XSTOP, .w1c, 0⟩, ⟨RTC_STAT_BAK_LOW, .w1c, 0⟩, ⟨RTC_STAT_BAK_FRESH, .w1c, 1⟩, ⟨RTC_STAT_SWO_STAMPED, .ro, 0⟩, ⟨RTC_STAT_SET_IGN, .w1c, 0⟩, ⟨RTC_STAT_LOSS, .ro, 0⟩]⟩
/-- RTC_SEC_LO (R369): address. -/
def RTC_SEC_LO : Nat := 0x4002a008
def RTC_SEC_LO_SEC : Fld := ⟨0, 32⟩
def regDefRTC_SEC_LO : RegDef := ⟨0x4002a008, [], .dBak, .free,
  [⟨RTC_SEC_LO_SEC, .ro, 0⟩]⟩
/-- RTC_SEC_HI (R369): address. -/
def RTC_SEC_HI : Nat := 0x4002a00c
def RTC_SEC_HI_SEC : Fld := ⟨0, 16⟩
def RTC_SEC_HI_SUB : Fld := ⟨16, 8⟩
def regDefRTC_SEC_HI : RegDef := ⟨0x4002a00c, [], .dBak, .free,
  [⟨RTC_SEC_HI_SEC, .ro, 0⟩, ⟨RTC_SEC_HI_SUB, .ro, 0⟩]⟩
/-- RTC_DATE (R368): address. -/
def RTC_DATE : Nat := 0x4002a010
def RTC_DATE_DAY : Fld := ⟨0, 5⟩
def RTC_DATE_MONTH : Fld := ⟨8, 4⟩
def RTC_DATE_YEAR : Fld := ⟨16, 8⟩
def RTC_DATE_WEEKDAY : Fld := ⟨24, 3⟩
def regDefRTC_DATE : RegDef := ⟨0x4002a010, [], .dBak, .free,
  [⟨RTC_DATE_DAY, .ro, 1⟩, ⟨RTC_DATE_MONTH, .ro, 1⟩, ⟨RTC_DATE_YEAR, .ro, 0⟩, ⟨RTC_DATE_WEEKDAY, .ro, 5⟩]⟩
/-- RTC_TIME (R368): address. -/
def RTC_TIME : Nat := 0x4002a014
def RTC_TIME_SUB : Fld := ⟨0, 8⟩
def RTC_TIME_SEC : Fld := ⟨8, 6⟩
def RTC_TIME_MIN : Fld := ⟨16, 6⟩
def RTC_TIME_HOUR : Fld := ⟨24, 5⟩
def regDefRTC_TIME : RegDef := ⟨0x4002a014, [], .dBak, .free,
  [⟨RTC_TIME_SUB, .ro, 0⟩, ⟨RTC_TIME_SEC, .ro, 0⟩, ⟨RTC_TIME_MIN, .ro, 0⟩, ⟨RTC_TIME_HOUR, .ro, 0⟩]⟩
/-- RTC_SET_LO (R370): address. -/
def RTC_SET_LO : Nat := 0x4002a018
def RTC_SET_LO_SEC : Fld := ⟨0, 32⟩
def regDefRTC_SET_LO : RegDef := ⟨0x4002a018, [], .dBak, .free,
  [⟨RTC_SET_LO_SEC, .rw, 0⟩]⟩
/-- RTC_SET_HI (R370): address. -/
def RTC_SET_HI : Nat := 0x4002a01c
def RTC_SET_HI_SEC : Fld := ⟨0, 16⟩
def RTC_SET_HI_SUB : Fld := ⟨16, 8⟩
def regDefRTC_SET_HI : RegDef := ⟨0x4002a01c, [], .dBak, .free,
  [⟨RTC_SET_HI_SEC, .rw, 0⟩, ⟨RTC_SET_HI_SUB, .rw, 0⟩]⟩
/-- RTC_TRIM (R365): address. -/
def RTC_TRIM : Nat := 0x4002a020
def RTC_TRIM_TRIM : Fld := ⟨0, 8⟩
def regDefRTC_TRIM : RegDef := ⟨0x4002a020, [], .dBak, .prot,
  [⟨RTC_TRIM_TRIM, .rw, 0⟩]⟩
/-- RTC_WAKE (R371): address. -/
def RTC_WAKE : Nat := 0x4002a024
def RTC_WAKE_PERIOD : Fld := ⟨0, 25⟩
def regDefRTC_WAKE : RegDef := ⟨0x4002a024, [], .dBak, .free,
  [⟨RTC_WAKE_PERIOD, .rw, 0⟩]⟩
/-- RTC_CFG (R373): address. -/
def RTC_CFG : Nat := 0x4002a028
def RTC_CFG_TRIM_DEF : Fld := ⟨0, 8⟩
def RTC_CFG_NO_VBAK : Fld := ⟨8, 1⟩
def regDefRTC_CFG : RegDef := ⟨0x4002a028, [], .dPwr, .prot,
  [⟨RTC_CFG_TRIM_DEF, .rw, 0⟩, ⟨RTC_CFG_NO_VBAK, .rw, 0⟩]⟩
/-- RTC_OPT_LO (R375): address. -/
def RTC_OPT_LO : Nat := 0x4002a030
def RTC_OPT_LO_OPT : Fld := ⟨0, 32⟩
def regDefRTC_OPT_LO : RegDef := ⟨0x4002a030, [], .dPwr, .free,
  [⟨RTC_OPT_LO_OPT, .ro, 0⟩]⟩
/-- RTC_OPT_HI (R375): address. -/
def RTC_OPT_HI : Nat := 0x4002a034
def RTC_OPT_HI_OPT : Fld := ⟨0, 16⟩
def regDefRTC_OPT_HI : RegDef := ⟨0x4002a034, [], .dPwr, .free,
  [⟨RTC_OPT_HI_OPT, .ro, 0⟩]⟩
/-- RTC_SWO_CNT (R372): address. -/
def RTC_SWO_CNT : Nat := 0x4002a038
def RTC_SWO_CNT_COUNT : Fld := ⟨0, 32⟩
def regDefRTC_SWO_CNT : RegDef := ⟨0x4002a038, [], .dBak, .free,
  [⟨RTC_SWO_CNT_COUNT, .ro, 0⟩]⟩
/-- RTC_SWO_CAL_LO (R372): address. -/
def RTC_SWO_CAL_LO : Nat := 0x4002a040
def RTC_SWO_CAL_LO_SEC : Fld := ⟨0, 32⟩
def regDefRTC_SWO_CAL_LO : RegDef := ⟨0x4002a040, [], .dBak, .free,
  [⟨RTC_SWO_CAL_LO_SEC, .ro, 0⟩]⟩
/-- RTC_SWO_CAL_HI (R372): address. -/
def RTC_SWO_CAL_HI : Nat := 0x4002a044
def RTC_SWO_CAL_HI_SEC : Fld := ⟨0, 16⟩
def RTC_SWO_CAL_HI_SUB : Fld := ⟨16, 8⟩
def regDefRTC_SWO_CAL_HI : RegDef := ⟨0x4002a044, [], .dBak, .free,
  [⟨RTC_SWO_CAL_HI_SEC, .ro, 0⟩, ⟨RTC_SWO_CAL_HI_SUB, .ro, 0⟩]⟩
/-- RTC_SWO_OPT_LO (R372): address. -/
def RTC_SWO_OPT_LO : Nat := 0x4002a048
def RTC_SWO_OPT_LO_OPT : Fld := ⟨0, 32⟩
def regDefRTC_SWO_OPT_LO : RegDef := ⟨0x4002a048, [], .dBak, .free,
  [⟨RTC_SWO_OPT_LO_OPT, .ro, 0⟩]⟩
/-- RTC_SWO_OPT_HI (R372): address. -/
def RTC_SWO_OPT_HI : Nat := 0x4002a04c
def RTC_SWO_OPT_HI_OPT : Fld := ⟨0, 16⟩
def regDefRTC_SWO_OPT_HI : RegDef := ⟨0x4002a04c, [], .dBak, .free,
  [⟨RTC_SWO_OPT_HI_OPT, .ro, 0⟩]⟩
/-- RTC_LOSS_CAL_LO (R377): address. -/
def RTC_LOSS_CAL_LO : Nat := 0x4002a050
def RTC_LOSS_CAL_LO_SEC : Fld := ⟨0, 32⟩
def regDefRTC_LOSS_CAL_LO : RegDef := ⟨0x4002a050, [], .dBak, .free,
  [⟨RTC_LOSS_CAL_LO_SEC, .ro, 0⟩]⟩
/-- RTC_LOSS_CAL_HI (R377): address. -/
def RTC_LOSS_CAL_HI : Nat := 0x4002a054
def RTC_LOSS_CAL_HI_SEC : Fld := ⟨0, 16⟩
def RTC_LOSS_CAL_HI_SUB : Fld := ⟨16, 8⟩
def regDefRTC_LOSS_CAL_HI : RegDef := ⟨0x4002a054, [], .dBak, .free,
  [⟨RTC_LOSS_CAL_HI_SEC, .ro, 0⟩, ⟨RTC_LOSS_CAL_HI_SUB, .ro, 0⟩]⟩
/-- RTC_LOSS_OPT_LO (R377): address. -/
def RTC_LOSS_OPT_LO : Nat := 0x4002a058
def RTC_LOSS_OPT_LO_OPT : Fld := ⟨0, 32⟩
def regDefRTC_LOSS_OPT_LO : RegDef := ⟨0x4002a058, [], .dBak, .free,
  [⟨RTC_LOSS_OPT_LO_OPT, .ro, 0⟩]⟩
/-- RTC_LOSS_OPT_HI (R377): address. -/
def RTC_LOSS_OPT_HI : Nat := 0x4002a05c
def RTC_LOSS_OPT_HI_OPT : Fld := ⟨0, 16⟩
def regDefRTC_LOSS_OPT_HI : RegDef := ⟨0x4002a05c, [], .dBak, .free,
  [⟨RTC_LOSS_OPT_HI_OPT, .ro, 0⟩]⟩

/-- The registers of block 14. -/
def blockRegs14 : List RegDef :=
  [regDefRTC_CTL, regDefRTC_STAT, regDefRTC_SEC_LO, regDefRTC_SEC_HI, regDefRTC_DATE, regDefRTC_TIME,
   regDefRTC_SET_LO, regDefRTC_SET_HI, regDefRTC_TRIM, regDefRTC_WAKE, regDefRTC_CFG, regDefRTC_OPT_LO,
   regDefRTC_OPT_HI, regDefRTC_SWO_CNT, regDefRTC_SWO_CAL_LO, regDefRTC_SWO_CAL_HI, regDefRTC_SWO_OPT_LO, regDefRTC_SWO_OPT_HI,
   regDefRTC_LOSS_CAL_LO, regDefRTC_LOSS_CAL_HI, regDefRTC_LOSS_OPT_LO, regDefRTC_LOSS_OPT_HI]

/-! ## Block 15 (R440) -/

/-- PORT_CFG[p] (R388): address of the register of port p. -/
def PORT_CFG (p : Port) : Nat := 0x4002c000 + 0x100 * p.slot
def PORT_CFG_EN : Fld := ⟨0, 1⟩
def PORT_CFG_PEC : Fld := ⟨1, 1⟩
def PORT_CFG_TAG_BASE : Fld := ⟨8, 7⟩
def PORT_CFG_TAG_CNT : Fld := ⟨16, 7⟩
def regDefPORT_CFG : RegDef := ⟨0x4002c000, [(3, 0x100)], .dPwr, .prot,
  [⟨PORT_CFG_EN, .rw, 1⟩, ⟨PORT_CFG_PEC, .rw, 0⟩, ⟨PORT_CFG_TAG_BASE, .rw, 0⟩, ⟨PORT_CFG_TAG_CNT, .rw, 24⟩]⟩
def regDefPORT_CFG_E : RegDef := ⟨0x4002c400, [], .dPwr, .prot,
  [⟨PORT_CFG_EN, .rw, 1⟩, ⟨PORT_CFG_PEC, .rw, 0⟩, ⟨PORT_CFG_TAG_BASE, .rw, 0⟩, ⟨PORT_CFG_TAG_CNT, .rw, 24⟩]⟩
/-- PORT_TIM[p] (R399): address of the register of port p. -/
def PORT_TIM (p : Port) : Nat := 0x4002c004 + 0x100 * p.slot
def PORT_TIM_HOLD : Fld := ⟨0, 8⟩
def PORT_TIM_SU : Fld := ⟨8, 8⟩
def PORT_TIM_STO : Fld := ⟨16, 6⟩
def regDefPORT_TIM : RegDef := ⟨0x4002c004, [(3, 0x100)], .dPwr, .prot,
  [⟨PORT_TIM_HOLD, .rw, 40⟩, ⟨PORT_TIM_SU, .rw, 40⟩, ⟨PORT_TIM_STO, .rw, 25⟩]⟩
def regDefPORT_TIM_E : RegDef := ⟨0x4002c404, [], .dPwr, .prot,
  [⟨PORT_TIM_HOLD, .rw, 40⟩, ⟨PORT_TIM_SU, .rw, 40⟩, ⟨PORT_TIM_STO, .rw, 25⟩]⟩
/-- PORT_STAT[p] (R397): address of the register of port p. -/
def PORT_STAT (p : Port) : Nat := 0x4002c008 + 0x100 * p.slot
def PORT_STAT_IN_FREE : Fld := ⟨0, 7⟩
def PORT_STAT_OUT_WORDS : Fld := ⟨8, 7⟩
def PORT_STAT_FRAME_ERR : Fld := ⟨16, 1⟩
def PORT_STAT_BUS_TO : Fld := ⟨17, 1⟩
def PORT_STAT_NOTE_OVF : Fld := ⟨18, 1⟩
def PORT_STAT_LATE : Fld := ⟨24, 8⟩
def regDefPORT_STAT : RegDef := ⟨0x4002c008, [(3, 0x100)], .dProc, .free,
  [⟨PORT_STAT_IN_FREE, .ro, 64⟩, ⟨PORT_STAT_OUT_WORDS, .ro, 0⟩, ⟨PORT_STAT_FRAME_ERR, .w1c, 0⟩, ⟨PORT_STAT_BUS_TO, .w1c, 0⟩, ⟨PORT_STAT_NOTE_OVF, .w1c, 0⟩, ⟨PORT_STAT_LATE, .ro, 0⟩]⟩
def regDefPORT_STAT_E : RegDef := ⟨0x4002c408, [], .dProc, .free,
  [⟨PORT_STAT_IN_FREE, .ro, 64⟩, ⟨PORT_STAT_OUT_WORDS, .ro, 0⟩, ⟨PORT_STAT_FRAME_ERR, .w1c, 0⟩, ⟨PORT_STAT_BUS_TO, .w1c, 0⟩, ⟨PORT_STAT_NOTE_OVF, .w1c, 0⟩, ⟨PORT_STAT_LATE, .ro, 0⟩]⟩
/-- MBX_RX[p] (R382): address of the register of port p. -/
def MBX_RX (p : Port) : Nat := 0x4002c00c + 0x100 * p.slot
def MBX_RX_WORD : Fld := ⟨0, 32⟩
def regDefMBX_RX : RegDef := ⟨0x4002c00c, [(3, 0x100)], .dProc, .free,
  [⟨MBX_RX_WORD, .ro, 4294967295⟩]⟩
def regDefMBX_RX_E : RegDef := ⟨0x4002c40c, [], .dProc, .free,
  [⟨MBX_RX_WORD, .ro, 4294967295⟩]⟩
/-- MBX_TX[p] (R391): address of the register of port p. -/
def MBX_TX (p : Port) : Nat := 0x4002c010 + 0x100 * p.slot
def MBX_TX_WORD : Fld := ⟨0, 32⟩
def regDefMBX_TX : RegDef := ⟨0x4002c010, [(3, 0x100)], .dProc, .free,
  [⟨MBX_TX_WORD, .wo, 0⟩]⟩
def regDefMBX_TX_E : RegDef := ⟨0x4002c410, [], .dProc, .free,
  [⟨MBX_TX_WORD, .wo, 0⟩]⟩
/-- MBX_CTL[p] (R386): address of the register of port p. -/
def MBX_CTL (p : Port) : Nat := 0x4002c014 + 0x100 * p.slot
def MBX_CTL_DROP : Fld := ⟨0, 1⟩
def regDefMBX_CTL : RegDef := ⟨0x4002c014, [(3, 0x100)], .dProc, .free,
  [⟨MBX_CTL_DROP, .wo, 0⟩]⟩
def regDefMBX_CTL_E : RegDef := ⟨0x4002c414, [], .dProc, .free,
  [⟨MBX_CTL_DROP, .wo, 0⟩]⟩
/-- NOTE_STAT[p] (R395): address of the register of port p. -/
def NOTE_STAT (p : Port) : Nat := 0x4002c018 + 0x100 * p.slot
def NOTE_STAT_QUEUED : Fld := ⟨0, 7⟩
def NOTE_STAT_LOST : Fld := ⟨16, 16⟩
def regDefNOTE_STAT : RegDef := ⟨0x4002c018, [(3, 0x100)], .dProc, .free,
  [⟨NOTE_STAT_QUEUED, .ro, 0⟩, ⟨NOTE_STAT_LOST, .ro, 0⟩]⟩
def regDefNOTE_STAT_E : RegDef := ⟨0x4002c418, [], .dProc, .free,
  [⟨NOTE_STAT_QUEUED, .ro, 0⟩, ⟨NOTE_STAT_LOST, .ro, 0⟩]⟩
/-- PORT_ADDR[p] (R34): address of the register of port p. -/
def PORT_ADDR (p : Port) : Nat := 0x4002c01c + 0x100 * p.slot
def PORT_ADDR_ADDR : Fld := ⟨0, 7⟩
def regDefPORT_ADDR : RegDef := ⟨0x4002c01c, [(3, 0x100)], .dPwr, .free,
  [⟨PORT_ADDR_ADDR, .ro, 0⟩]⟩
def regDefPORT_ADDR_E : RegDef := ⟨0x4002c41c, [], .dPwr, .free,
  [⟨PORT_ADDR_ADDR, .ro, 0⟩]⟩
/-- MBX_HTX (R406): address. -/
def MBX_HTX : Nat := 0x4002c420
def MBX_HTX_WORD : Fld := ⟨0, 32⟩
def regDefMBX_HTX : RegDef := ⟨0x4002c420, [], .dProc, .free,
  [⟨MBX_HTX_WORD, .wo, 0⟩]⟩
/-- MBX_HRX (R406): address. -/
def MBX_HRX : Nat := 0x4002c424
def MBX_HRX_WORD : Fld := ⟨0, 32⟩
def regDefMBX_HRX : RegDef := ⟨0x4002c424, [], .dProc, .free,
  [⟨MBX_HRX_WORD, .ro, 4294967295⟩]⟩
/-- LINK_STAT (R406): address. -/
def LINK_STAT : Nat := 0x4002c428
def LINK_STAT_UP : Fld := ⟨0, 1⟩
def LINK_STAT_LAT : Fld := ⟨8, 8⟩
def LINK_STAT_CRC_ERR : Fld := ⟨16, 16⟩
def regDefLINK_STAT : RegDef := ⟨0x4002c428, [], .dPwr, .free,
  [⟨LINK_STAT_UP, .ro, 0⟩, ⟨LINK_STAT_LAT, .ro, 0⟩, ⟨LINK_STAT_CRC_ERR, .ro, 0⟩]⟩
/-- DL_CFG (R403): address. -/
def DL_CFG : Nat := 0x4002c300
def DL_CFG_ADDR : Fld := ⟨0, 8⟩
def DL_CFG_BAUD : Fld := ⟨8, 3⟩
def DL_CFG_PARITY : Fld := ⟨12, 2⟩
def DL_CFG_EN : Fld := ⟨16, 1⟩
def regDefDL_CFG : RegDef := ⟨0x4002c300, [], .dPwr, .prot,
  [⟨DL_CFG_ADDR, .rw, 1⟩, ⟨DL_CFG_BAUD, .rw, 1⟩, ⟨DL_CFG_PARITY, .rw, 0⟩, ⟨DL_CFG_EN, .rw, 0⟩]⟩
/-- DL_STAT (R403): address. -/
def DL_STAT : Nat := 0x4002c304
def DL_STAT_REQS : Fld := ⟨0, 16⟩
def DL_STAT_ERRS : Fld := ⟨16, 16⟩
def regDefDL_STAT : RegDef := ⟨0x4002c304, [], .dPwr, .free,
  [⟨DL_STAT_REQS, .ro, 0⟩, ⟨DL_STAT_ERRS, .ro, 0⟩]⟩
/-- AUX_CFG (R401): address. -/
def AUX_CFG : Nat := 0x4002c500
def AUX_CFG_SPEED : Fld := ⟨0, 2⟩
def AUX_CFG_TRIES : Fld := ⟨4, 4⟩
def AUX_CFG_STO : Fld := ⟨8, 6⟩
def regDefAUX_CFG : RegDef := ⟨0x4002c500, [], .dPwr, .prot,
  [⟨AUX_CFG_SPEED, .rw, 0⟩, ⟨AUX_CFG_TRIES, .rw, 3⟩, ⟨AUX_CFG_STO, .rw, 25⟩]⟩
/-- AUX_CMD (R401): address. -/
def AUX_CMD : Nat := 0x4002c504
def AUX_CMD_ADDR : Fld := ⟨0, 7⟩
def AUX_CMD_WLEN : Fld := ⟨8, 8⟩
def AUX_CMD_RLEN : Fld := ⟨16, 8⟩
def AUX_CMD_GO : Fld := ⟨31, 1⟩
def regDefAUX_CMD : RegDef := ⟨0x4002c504, [], .dProc, .free,
  [⟨AUX_CMD_ADDR, .wo, 0⟩, ⟨AUX_CMD_WLEN, .wo, 0⟩, ⟨AUX_CMD_RLEN, .wo, 0⟩, ⟨AUX_CMD_GO, .wo, 0⟩]⟩
/-- AUX_STAT (R401): address. -/
def AUX_STAT : Nat := 0x4002c508
def AUX_STAT_BUSY : Fld := ⟨0, 1⟩
def AUX_STAT_DONE : Fld := ⟨1, 1⟩
def AUX_STAT_NACK : Fld := ⟨2, 1⟩
def AUX_STAT_ARB : Fld := ⟨3, 1⟩
def AUX_STAT_TIMEOUT : Fld := ⟨4, 1⟩
def regDefAUX_STAT : RegDef := ⟨0x4002c508, [], .dProc, .free,
  [⟨AUX_STAT_BUSY, .ro, 0⟩, ⟨AUX_STAT_DONE, .w1c, 0⟩, ⟨AUX_STAT_NACK, .ro, 0⟩, ⟨AUX_STAT_ARB, .ro, 0⟩, ⟨AUX_STAT_TIMEOUT, .ro, 0⟩]⟩
/-- AUX_DATA (R401): address. -/
def AUX_DATA (i : Nat) : Nat := 0x4002c520 + 0x4 * i
def AUX_DATA_BYTES : Fld := ⟨0, 32⟩
def regDefAUX_DATA : RegDef := ⟨0x4002c520, [(8, 0x4)], .dProc, .free,
  [⟨AUX_DATA_BYTES, .rw, 0⟩]⟩
/-- ADM_CAP0 (R389): address. -/
def ADM_CAP0 : Nat := 0x4002c600
def ADM_CAP0_CAP0 : Fld := ⟨0, 8⟩
def ADM_CAP0_CAP1 : Fld := ⟨8, 8⟩
def ADM_CAP0_CAP2 : Fld := ⟨16, 8⟩
def ADM_CAP0_CAP3 : Fld := ⟨24, 8⟩
def regDefADM_CAP0 : RegDef := ⟨0x4002c600, [], .dProc, .burin,
  [⟨ADM_CAP0_CAP0, .rw, 96⟩, ⟨ADM_CAP0_CAP1, .rw, 96⟩, ⟨ADM_CAP0_CAP2, .rw, 96⟩, ⟨ADM_CAP0_CAP3, .rw, 96⟩]⟩
/-- ADM_CAP1 (R389): address. -/
def ADM_CAP1 : Nat := 0x4002c604
def ADM_CAP1_CAP4 : Fld := ⟨0, 8⟩
def regDefADM_CAP1 : RegDef := ⟨0x4002c604, [], .dProc, .burin,
  [⟨ADM_CAP1_CAP4, .rw, 96⟩]⟩
/-- TAG_BUSY (R389): address. -/
def TAG_BUSY (i : Nat) : Nat := 0x4002c610 + 0x4 * i
def TAG_BUSY_BUSY : Fld := ⟨0, 32⟩
def regDefTAG_BUSY : RegDef := ⟨0x4002c610, [(3, 0x4)], .dPwr, .free,
  [⟨TAG_BUSY_BUSY, .ro, 0⟩]⟩
/-- ADM_TAB (R389): address. -/
def ADM_TAB (i : Nat) : Nat := 0x4002d000 + 0x4 * i
def ADM_TAB_MIN0 : Fld := ⟨0, 3⟩
def ADM_TAB_MIN2 : Fld := ⟨3, 3⟩
def ADM_TAB_MIN3 : Fld := ⟨6, 3⟩
def ADM_TAB_HW : Fld := ⟨9, 1⟩
def ADM_TAB_VALID : Fld := ⟨10, 1⟩
def regDefADM_TAB : RegDef := ⟨0x4002d000, [(256, 0x4)], .dProc, .burin,
  [⟨ADM_TAB_MIN0, .rw, 0⟩, ⟨ADM_TAB_MIN2, .rw, 0⟩, ⟨ADM_TAB_MIN3, .rw, 0⟩, ⟨ADM_TAB_HW, .ro, 0⟩, ⟨ADM_TAB_VALID, .rw, 0⟩]⟩

/-- The registers of block 15. -/
def blockRegs15 : List RegDef :=
  [regDefPORT_CFG, regDefPORT_CFG_E, regDefPORT_TIM, regDefPORT_TIM_E, regDefPORT_STAT, regDefPORT_STAT_E,
   regDefMBX_RX, regDefMBX_RX_E, regDefMBX_TX, regDefMBX_TX_E, regDefMBX_CTL, regDefMBX_CTL_E,
   regDefNOTE_STAT, regDefNOTE_STAT_E, regDefPORT_ADDR, regDefPORT_ADDR_E, regDefMBX_HTX, regDefMBX_HRX,
   regDefLINK_STAT, regDefDL_CFG, regDefDL_STAT, regDefAUX_CFG, regDefAUX_CMD, regDefAUX_STAT,
   regDefAUX_DATA, regDefADM_CAP0, regDefADM_CAP1, regDefTAG_BUSY, regDefADM_TAB]

/-! ## Block 16 (R440) -/

/-- MR0 (R82): address. -/
def MR0 (i : Nat) : Nat := 0x4002e000 + 0x4 * i
def MR0_WORD : Fld := ⟨0, 32⟩
def regDefMR0 : RegDef := ⟨0x4002e000, [(8, 0x4)], .dPwr, .free,
  [⟨MR0_WORD, .ro, 0⟩]⟩
/-- MR1 (R82): address. -/
def MR1 (i : Nat) : Nat := 0x4002e020 + 0x4 * i
def MR1_WORD : Fld := ⟨0, 32⟩
def regDefMR1 : RegDef := ⟨0x4002e020, [(8, 0x4)], .dProc, .free,
  [⟨MR1_WORD, .ro, 0⟩]⟩
/-- MR2 (R82): address. -/
def MR2 (i : Nat) : Nat := 0x4002e040 + 0x4 * i
def MR2_WORD : Fld := ⟨0, 32⟩
def regDefMR2 : RegDef := ⟨0x4002e040, [(8, 0x4)], .dPwr, .free,
  [⟨MR2_WORD, .ro, 0⟩]⟩
/-- MR3 (R82): address. -/
def MR3 (i : Nat) : Nat := 0x4002e060 + 0x4 * i
def MR3_WORD : Fld := ⟨0, 32⟩
def regDefMR3 : RegDef := ⟨0x4002e060, [(8, 0x4)], .dPwr, .free,
  [⟨MR3_WORD, .ro, 0⟩]⟩
/-- MR_CNT0 (R82): address. -/
def MR_CNT0 : Nat := 0x4002e080
def MR_CNT0_COUNT : Fld := ⟨0, 32⟩
def regDefMR_CNT0 : RegDef := ⟨0x4002e080, [], .dPwr, .free,
  [⟨MR_CNT0_COUNT, .ro, 0⟩]⟩
/-- MR_CNT1 (R82): address. -/
def MR_CNT1 : Nat := 0x4002e084
def MR_CNT1_COUNT : Fld := ⟨0, 32⟩
def regDefMR_CNT1 : RegDef := ⟨0x4002e084, [], .dProc, .free,
  [⟨MR_CNT1_COUNT, .ro, 0⟩]⟩
/-- MR_CNT2 (R82): address. -/
def MR_CNT2 (i : Nat) : Nat := 0x4002e088 + 0x4 * i
def MR_CNT2_COUNT : Fld := ⟨0, 32⟩
def regDefMR_CNT2 : RegDef := ⟨0x4002e088, [(2, 0x4)], .dPwr, .free,
  [⟨MR_CNT2_COUNT, .ro, 0⟩]⟩
/-- MR_DATA (R82): address. -/
def MR_DATA (i : Nat) : Nat := 0x4002e0a0 + 0x4 * i
def MR_DATA_WORD : Fld := ⟨0, 32⟩
def regDefMR_DATA : RegDef := ⟨0x4002e0a0, [(8, 0x4)], .dPwr, .free,
  [⟨MR_DATA_WORD, .rw, 0⟩]⟩
/-- MR_CTL (R82): address. -/
def MR_CTL : Nat := 0x4002e0c0
def MR_CTL_TARGET : Fld := ⟨0, 2⟩
def MR_CTL_GO : Fld := ⟨4, 1⟩
def regDefMR_CTL : RegDef := ⟨0x4002e0c0, [], .dPwr, .free,
  [⟨MR_CTL_TARGET, .rw, 1⟩, ⟨MR_CTL_GO, .wo, 0⟩]⟩
/-- BOOT_STAT (R77): address. -/
def BOOT_STAT : Nat := 0x4002e0d0
def BOOT_STAT_SLOT : Fld := ⟨0, 1⟩
def BOOT_STAT_TRIAL : Fld := ⟨1, 1⟩
def BOOT_STAT_ATTEMPT : Fld := ⟨2, 2⟩
def BOOT_STAT_ROLLBACK : Fld := ⟨4, 1⟩
def BOOT_STAT_RECOVERY : Fld := ⟨5, 1⟩
def BOOT_STAT_CFG_COPY : Fld := ⟨6, 1⟩
def BOOT_STAT_CFG_NONE : Fld := ⟨7, 1⟩
def BOOT_STAT_READY : Fld := ⟨8, 1⟩
def BOOT_STAT_ROM_VER : Fld := ⟨16, 16⟩
def regDefBOOT_STAT : RegDef := ⟨0x4002e0d0, [], .dProc, .free,
  [⟨BOOT_STAT_SLOT, .ro, 0⟩, ⟨BOOT_STAT_TRIAL, .ro, 0⟩, ⟨BOOT_STAT_ATTEMPT, .ro, 0⟩, ⟨BOOT_STAT_ROLLBACK, .ro, 0⟩, ⟨BOOT_STAT_RECOVERY, .ro, 0⟩, ⟨BOOT_STAT_CFG_COPY, .ro, 0⟩, ⟨BOOT_STAT_CFG_NONE, .ro, 0⟩, ⟨BOOT_STAT_READY, .w1s, 0⟩, ⟨BOOT_STAT_ROM_VER, .ro, 0⟩]⟩
/-- LS_STAT (R87): address. -/
def LS_STAT : Nat := 0x4002e0d4
def LS_STAT_COUNT : Fld := ⟨0, 3⟩
def LS_STAT_FENCED : Fld := ⟨4, 1⟩
def regDefLS_STAT : RegDef := ⟨0x4002e0d4, [], .dPwr, .free,
  [⟨LS_STAT_COUNT, .ro, 0⟩, ⟨LS_STAT_FENCED, .ro, 0⟩]⟩
/-- PRF_NONCE (R84): address. -/
def PRF_NONCE (i : Nat) : Nat := 0x4002e100 + 0x4 * i
def PRF_NONCE_WORD : Fld := ⟨0, 32⟩
def regDefPRF_NONCE : RegDef := ⟨0x4002e100, [(4, 0x4)], .dPwr, .free,
  [⟨PRF_NONCE_WORD, .rw, 0⟩]⟩
/-- PRF_CTL (R84): address. -/
def PRF_CTL : Nat := 0x4002e110
def PRF_CTL_GO : Fld := ⟨0, 1⟩
def regDefPRF_CTL : RegDef := ⟨0x4002e110, [], .dPwr, .free,
  [⟨PRF_CTL_GO, .wo, 0⟩]⟩
/-- PRF_STAT (R84): address. -/
def PRF_STAT : Nat := 0x4002e114
def PRF_STAT_BUSY : Fld := ⟨0, 1⟩
def PRF_STAT_DONE : Fld := ⟨1, 1⟩
def regDefPRF_STAT : RegDef := ⟨0x4002e114, [], .dPwr, .free,
  [⟨PRF_STAT_BUSY, .ro, 0⟩, ⟨PRF_STAT_DONE, .w1c, 0⟩]⟩
/-- PRF_SIG (R84): address. -/
def PRF_SIG (i : Nat) : Nat := 0x4002e140 + 0x4 * i
def PRF_SIG_WORD : Fld := ⟨0, 32⟩
def regDefPRF_SIG : RegDef := ⟨0x4002e140, [(16, 0x4)], .dPwr, .free,
  [⟨PRF_SIG_WORD, .ro, 0⟩]⟩
/-- PRF_BODY (R84): address. -/
def PRF_BODY (i : Nat) : Nat := 0x4002e200 + 0x4 * i
def PRF_BODY_WORD : Fld := ⟨0, 32⟩
def regDefPRF_BODY : RegDef := ⟨0x4002e200, [(48, 0x4)], .dPwr, .free,
  [⟨PRF_BODY_WORD, .ro, 0⟩]⟩

/-- The registers of block 16. -/
def blockRegs16 : List RegDef :=
  [regDefMR0, regDefMR1, regDefMR2, regDefMR3, regDefMR_CNT0, regDefMR_CNT1,
   regDefMR_CNT2, regDefMR_DATA, regDefMR_CTL, regDefBOOT_STAT, regDefLS_STAT, regDefPRF_NONCE,
   regDefPRF_CTL, regDefPRF_STAT, regDefPRF_SIG, regDefPRF_BODY]

end Sys2Proof.Machine
end

