-- ==== Sys2Proof/Machine/RegFile.lean ====
section
/-! DEFINITION. The register file as a whole: which block an address lies in (R440), which register it names, and what
that register holds after the reset of its domain. -/
namespace Sys2Proof.Machine
open Sys2Proof

/-- Base and size of each peripheral block, by block index (R440). -/
def blockRanges : List (Nat × Nat) :=
  [(0x40000000, 0x1000), (0x40001000, 0x1000), (0x40002000, 0x1000), (0x40003000, 0x1000), (0x40004000, 0x1000)] ++
  [(0x40010000, 0x4000), (0x40014000, 0x2000), (0x40016000, 0x2000), (0x40018000, 0x2000), (0x4001A000, 0x2000)] ++
  [(0x4001C000, 0x2000), (0x4001E000, 0x2000), (0x40020000, 0x8000), (0x40028000, 0x2000), (0x4002A000, 0x2000)] ++
  [(0x4002C000, 0x2000), (0x4002E000, 0x2000)]

/-- The first block from index `i` on that holds the address. -/
def blockFrom (a : Nat) : List (Nat × Nat) → Nat → Option Nat
  | [], _ => none
  | (b, n) :: r, i => if b ≤ a && a < b + n then some i else blockFrom a r (i + 1)

/-- The block an address lies in (R440). -/
def blockOf (a : Nat) : Option Nat := blockFrom a blockRanges 0

/-- The registers of each block. -/
def blockRegs : Nat → List RegDef
  | 0 => blockRegs0
  | 1 => blockRegs1
  | 2 => blockRegs2
  | 3 => blockRegs3
  | 4 => blockRegs4
  | 5 => blockRegs5
  | 6 => blockRegs6
  | 7 => blockRegs7
  | 8 => blockRegs8
  | 9 => blockRegs9
  | 10 => blockRegs10
  | 11 => blockRegs11
  | 12 => blockRegs12
  | 13 => blockRegs13
  | 14 => blockRegs14
  | 15 => blockRegs15
  | 16 => blockRegs16
  | _ => []

/-- The register an address names among some, with its indices. -/
def findIn (a : Nat) : List RegDef → Option (RegDef × List Nat)
  | [] => none
  | d :: r => match d.index a with
    | some ix => some (d, ix)
    | none => findIn a r

/-- The register an address names, with its indices; none for a reserved or unmapped address (R440). -/
def regAt (a : Nat) : Option (RegDef × List Nat) :=
  match blockOf a with
  | some b => findIn a (blockRegs b)
  | none => none

/-- The reset domain of a register's address. -/
def domainOf (a : Nat) : Option Domain := (regAt a).map (·.1.dom)

/-! ### Event source numbers (R323) -/

/-- An ESN marked reserved is never raised (R323). -/
def esnReserved (n : Nat) : Bool :=
  n == 0x07 || (0x0A ≤ n && n ≤ 0x0F) || n == 0x1F || n == 0x57 || n == 0x60 || n == 0x61 || n == 0x67 ||
  (0x87 ≤ n && n ≤ 0x8F) || (0x99 ≤ n && n ≤ 0x9F) || 0xFF < n

/-- ESNs whose every code has floor uncontained (R323). -/
def esnAllUncontained : List Nat :=
  [0x04, 0x05, 0x06, 0x10, 0x11, 0x13, 0x14, 0x18, 0x1C, 0x1D, 0x36, 0x4C, 0x4F, 0x50, 0x52, 0x53] ++
  [0x5E, 0x5F, 0x6C, 0x73, 0x75, 0x7D, 0x7E, 0x96, 0x97]

/-- The codes of an ESN that have floor uncontained, where not all have (R323). -/
def esnFloorCodes (n : Nat) : List Nat :=
  if 0x30 ≤ n && n ≤ 0x33 then [0x01, 0x02, 0x03, 0x06, 0x0A]
  else if 0x38 ≤ n && n ≤ 0x45 then [0x01, 0x02, 0x03, 0x04, 0x07, 0x0A, 0x0B]
  else if n == 0x48 || n == 0x49 then [0x03, 0x04, 0x05]
  else if n == 0x5C || n == 0x6D || n == 0x72 || n == 0x7C || n == 0x85 then [0x02]
  else if 0x78 ≤ n && n ≤ 0x7B then [0x06, 0x07]
  else if n == 0x7F || (0x80 ≤ n && n ≤ 0x84) then [0x01]
  else []

/-- The class floor of a raise from its source: 0 corrected, 1 uncontained, 2 fatal (R314, R323). -/
def classFloor (n code : Nat) : Nat :=
  if n == 0x02 || n == 0x17 then 2
  else if esnAllUncontained.contains n || (esnFloorCodes n).contains code then 1
  else 0

/-- The ESN has a floor above corrected on some code (R323). -/
def esnAnyFloor (n : Nat) : Bool :=
  n == 0x02 || n == 0x17 || esnAllUncontained.contains n || !(esnFloorCodes n).isEmpty

/-- Reset value of FLT_CFG.SEV (R323). -/
def esnSev (n : Nat) : Nat :=
  if n == 0x02 || n == 0x17 then 4
  else if esnReserved n then 0
  else if esnAllUncontained.contains n then 3
  else if n == 0x93 || n == 0x98 then 0
  else if [0x00, 0x01, 0x08, 0x16, 0x19, 0x1B, 0x34, 0x4A, 0x54, 0x5A, 0x5D, 0x68, 0x69, 0x6A, 0x6B, 0x71].contains n
    || [0x72, 0x74, 0x7C, 0x86, 0x90, 0x91, 0x92, 0x95].contains n then 2
  else 1

/-! ### Reset values -/

/-- Reset values that depend on the register's index or on what the implementation fixes; every other register resets
to the values of its fields. -/
def resetWord (d : RegDef) (ix : List Nat) : Word :=
  let w := fieldsReset d.fields
  let i := ix.getD 0 0
  if d.base = FLT_CFG 0 then
    setF (setF w FLT_CFG_SEV (esnSev i)) FLT_CFG_NOTE (if esnAnyFloor i then 7 else 0)
  else if d.base = WD_FUSE0 then setF (setF w WD_FUSE0_PMIN 1) WD_FUSE0_PMAX 1000
  else if d.base = WD_FUSE1 then setF (setF w WD_FUSE1_OUT_W 100) WD_FUSE1_WIN 1
  else if d.base = REG_CTL 0 then setF w REG_CTL_DIV (if i < 2 then 100 else if i < 6 then 50 else 0)
  else if d.base = ADC_CHK_EXP 0 then
    setF (setF w ADC_CHK_EXP_ZERO (Config.adcCheckZero i)) ADC_CHK_EXP_SRC (Config.adcCheckSrc i)
  else if d.base = SEQ_THR_CFG 0 then setF w SEQ_THR_CFG_ENTRY i
  else if d.base = NV_STAT then setF w NV_STAT_SPARES 255
  else if d.base = PORT_CFG .a then setF w PORT_CFG_TAG_BASE (24 * i)
  else if d.base = PORT_CFG .e then setF w PORT_CFG_TAG_BASE 72
  else if d.base = PORT_ADDR .a || d.base = PORT_ADDR .e then setF w PORT_ADDR_ADDR 0x40
  else if d.base = ADM_TAB 0 then if i = 0x10 || i = 0x58 then setF (setF w ADM_TAB_HW 1) ADM_TAB_VALID 1 else w
  else if d.base = BOOT_STAT then setF w BOOT_STAT_ROM_VER Config.romVersion
  else w

/-- What a register holds after the reset of its domain; an address that names no register holds 0 (R440). -/
def resetVal (a : Nat) : Word :=
  match regAt a with
  | some (d, ix) => resetWord d ix
  | none => 0

end Sys2Proof.Machine
end

