-- ==== Sys2Proof/Machine/State.lean ====
section
/-! DEFINITION. The state of the part as plain data: every register by its address (with the register map of RegMapA
to RegMapC giving fields and reset values), the state the spec names without a register, and the queue of waiting
commands. -/
namespace Sys2Proof.Machine
open Sys2Proof

/-! ### Why a step can stop -/

/-- Why the machine stops with a fault. The spec gives every command of this block an effect, so no meaning raises
one; the type has one constructor because a closed inductive needs one. -/
inductive Fault
  /-- Raised by no command; safe. -/
  | none
  deriving DecidableEq, Repr

/-- Why a command has no meaning. -/
inductive Refusal
  /-- A command that has no meaning in the model yet, by its mnemonic; raised by an arm of `exec` only; safe. -/
  | notModelled (mnemonic : String)
  deriving DecidableEq, Repr

/-! ### Power, clocks and the frame (spec 03) -/

/-- Power states (R67). -/
inductive Power
  | unpowered | frost | standby | run
  deriving DecidableEq, Repr

/-- The source MAIN follows (R50), as CLK_CFG.SRC encodes it. -/
inductive ClkSrc
  | free | xtal | ref
  deriving DecidableEq, Repr

/-- The windows of a frame after its contexts (R58). -/
inductive Stage
  /-- clocks 0 to 1,359: the contexts, and the fault reactions at their end -/
  | contexts
  /-- the fault reactions of the frame are done -/
  | reacted
  /-- clocks 1,360 to 1,519: a sequencer thread has begun its steps -/
  | threads
  /-- from clock 1,520 on: the Plate ingest has accepted -/
  | reserve
  deriving DecidableEq, Repr

/-- Clock and frame state without a register (R50 to R61). -/
structure ClkSt where
  /-- source in force (R51) -/
  source     : ClkSrc := .free
  /-- MAIN is stopped until the other oscillator drives it (R54) -/
  stopped    : Bool := false
  /-- both oscillators lost, until the clock recovery (R55) -/
  bothLost   : Bool := false
  /-- frames since the cold start, not wrapping (R57); FRM_NUM shows its low 32 bits -/
  frames     : Nat := 0
  /-- the first tick after the configuration load has passed (R322, R452) -/
  inForce    : Bool := false
  /-- how far the work of the present frame has come (R58) -/
  stage      : Stage := .reserve
  /-- the configuration copy in use; none while none is loaded (R75) -/
  cfgCopy    : Option Nat := none
  /-- a frame mark was received in the present frame (R61) -/
  markSeen   : Bool := false
  /-- a mark has been received since link-up (R61) -/
  marked     : Bool := false
  /-- consecutive frames with |OFS| of 2 clocks or less (R61) -/
  goodMarks  : Nat := 0
  /-- consecutive frames without a mark (R61) -/
  missed     : Nat := 0
  /-- ESN 0x7D was raised in the present run of missing marks (R61) -/
  marksLost  : Bool := false
  /-- clocks by which the present frame is lengthened (R61) -/
  lengthen   : Nat := 0
  /-- clocks of the present frame that are known to have passed -/
  now        : Nat := 0
  /-- the MAIN trim steers towards the leader's mark (R61) -/
  steering   : Bool := false
  deriving DecidableEq, Repr

/-! ### Burin, its start and the interrupt controller (spec 04) -/

/-- What D_PROC does (R63, R72, R79, R87). -/
inductive ProcMode
  /-- held in reset: the 64 clocks of a D_PROC reset, or D_PWR in reset -/
  | held
  /-- the boot ROM runs and has not reached step 8 of R71 -/
  | rom
  /-- Burin firmware runs -/
  | firmware
  /-- the ROM's recovery loop runs (R79) -/
  | recovery
  /-- both cores held in reset by the lockstep fence (R87) -/
  | fenced
  deriving DecidableEq, Repr

/-- A boot-select record (R77): the newest valid one of the ring is kept. -/
structure BootRec where
  seq      : Nat
  slot     : Nat
  trial    : Bool
  attempts : Nat
  deriving DecidableEq, Repr

/-- Burin's state without a register. -/
structure ProcSt where
  mode       : ProcMode := .held
  /-- operating times of the lockstep mismatches of the last 10 s (R87) -/
  mismatches : List Nat := []
  /-- FW_VERSION of the running image (R84) -/
  fwVersion  : Nat := 0
  /-- the newest boot-select record's trial start awaits its first period (R78) -/
  trialOpen  : Bool := false
  /-- bus-error exceptions raised in Burin (R441) -/
  busErrors  : Nat := 0
  deriving DecidableEq, Repr

/-- The interrupt controller (R90 to R95): input latches by ESN and the ring pointers; ring words lie in data TCM. -/
structure IcSt where
  latch : List (Nat × Word) := []
  head  : Vector Nat 8 := Vector.replicate 8 0
  count : Vector Nat 8 := Vector.replicate 8 0
  deriving DecidableEq, Repr

/-- What a proof holds (R84, R85, R431). -/
structure ProofSt where
  /-- digest the engine signs while BUSY -/
  digest  : BitVec 256 := 0
  /-- counter of the proof the engine holds -/
  counter : Nat := 0
  deriving DecidableEq, Repr

/-! ### Phase engine (spec 05 and 06) -/

/-- Where a loop stands between enable and disable (R108, R109). -/
inductive LoopRun
  | off
  /-- within the stage enable delay TSTG -/
  | stageDelay
  | on
  /-- the reference ramps to 0 V -/
  | softStop
  deriving DecidableEq, Repr

/-- Loop state without a register. Voltages are in units of 0.3125 mV (R105, R107): a setpoint CODE is 800 + CODE. -/
structure LoopSt where
  run       : LoopRun := .off
  /-- the reference (R106), and where it stood at the last tick (R125) -/
  vref      : Nat := 0
  v0        : Nat := 0
  /-- what is left of the stage enable delay at the last tick (R108), and how far into the present frame the ramp began,
  both in 10 µs -/
  delay     : Nat := 0
  late      : Nat := 0
  /-- the reference the present ramp moves to -/
  target    : Nat := 0
  /-- the compensator has started (R108) -/
  started   : Bool := false
  /-- error history in quarter codes: e[k-1], e[k-2], e[k-3] (R111) -/
  e1 : Int := 0
  e2 : Int := 0
  e3 : Int := 0
  /-- output history in units of 2^-16: y[k-1], y[k-2], y[k-3] (R111) -/
  y1 : Int := 0
  y2 : Int := 0
  y3 : Int := 0
  /-- on-time of the newest update, steps (R115) -/
  ton       : Nat := 0
  /-- duty of the newest update, in 1/65,536 (R125) -/
  duty      : Nat := 0
  /-- frame of the newest request: it is honoured at a later tick (R60) -/
  askAt     : Nat := 0
  /-- a write of EN awaits its tick (R109, R110) -/
  pendEn    : Option Bool := none
  /-- a write of CODE awaits its tick (R106) -/
  pendCode  : Bool := false
  /-- a write of PER awaits its tick (R119); the loop was off when it was written, and it takes effect at once -/
  pendPer   : Bool := false
  perAtOnce : Bool := false
  /-- the period in force, steps (R115, R119) -/
  per       : Nat := 12800
  /-- the period it slews to -/
  perTo     : Nat := 12800
  /-- the period the slew began from, and the slew's remainder in 1/5,000 step -/
  perOld    : Nat := 12800
  perAcc    : Nat := 0
  /-- SYNC_IN qualified for the loop: it acquires or is locked (R121) -/
  syncOn    : Bool := false
  /-- the period reached under SYNC_IN is held (R118, R122) -/
  held      : Bool := false
  /-- steps by which slot 0 lies off its place after SYNC_IN (R121) -/
  phErr     : Int := 0
  ovArmed   : Bool := false
  /-- PG has been set since the enable: the undershoot comparator, the brake and the UV comparator are armed (R134,
  R139, R143) -/
  pgOnce    : Bool := false
  /-- a fire has ended and the comparator has not re-armed (R137) -/
  rearmWait : Bool := false
  /-- a brake has ended since the enable (R140) -/
  braked    : Bool := false
  /-- consecutive sums of samples above OCL (R143) -/
  ocSums    : Nat := 0
  /-- frame in which imbalance last fenced a phase of the loop (R142) -/
  imbAt     : Option Nat := none
  /-- fires in the present frame (R137) -/
  fires     : Nat := 0
  /-- the shed phases join at the next tick (R138) -/
  join      : Bool := false
  /-- the overvoltage action holds the outputs low (R143) -/
  ovHold    : Bool := false
  /-- STG_ENm is driven high (R102) -/
  stgEn     : Bool := false
  /-- STG_EN falls 1 µs after the outputs went to high impedance (R102) -/
  stgEnFall : Bool := false
  /-- consecutive qualifying ticks towards PG (R108) -/
  pgRun     : Nat := 0
  /-- consecutive ticks below DROP_I (R130) -/
  shedRun   : Nat := 0
  /-- frame at which the re-shed hold-off ends (R132) -/
  holdoff   : Option Nat := none
  /-- the frame held a fire, a brake, a change of N or a substitution (R130, R141) -/
  disturbed : Bool := false
  deriving DecidableEq, Repr

/-- Phase state without a register. -/
structure PhaseSt where
  /-- newest IMON code and current in 10 mA (R104) -/
  code     : Nat := 0
  cur      : Int := 0
  /-- sum of the codes, number and largest current of the frame's samples (R125) -/
  sum      : Nat := 0
  num      : Nat := 0
  peak     : Int := 0
  /-- consecutive samples above PH_OCL (R143) and at full scale (R145) -/
  ocRun    : Nat := 0
  fullRun  : Nat := 0
  /-- the frame's overcurrent and range events have been raised (R104, R143) -/
  ocSaid   : Bool := false
  rngSaid  : Bool := false
  /-- 2: held low from the next period; 1: held low in this period (R143) -/
  ocHold   : Nat := 0
  /-- the phase fires in the present fire (R134) -/
  firing   : Bool := false
  /-- the phase's current limit has ended its part in the present fire (R135) -/
  cut      : Bool := false
  /-- holds its output after a fire until its own rising edge or the next tick (R136, R151) -/
  postFire : Bool := false
  /-- switching periods of the shedding ramp gone by (R131) -/
  shedJ    : Nat := 0
  /-- on-time of the last period, steps (R125) -/
  ton      : Nat := 0
  /-- the phase was in the interleave at its last spacing, and the length in steps of its first period under a new one,
  0 for PER (R99) -/
  spaced   : Bool := false
  gap      : Nat := 0
  /-- position in the loop's order: its own POS or the one a spare took over (R98) -/
  pos      : Nat := 0
  /-- frame of the newest request: it is honoured at a later tick (R60) -/
  askAt    : Nat := 0
  /-- fenced, its slot awaiting the substitution tick; the state it held (R148, R151) -/
  claim    : Option Nat := none
  /-- a SUBST_REQ awaits the tick (R150) -/
  substReq : Bool := false
  /-- the last SUBST_REQ was ignored (R150) -/
  substIgn : Bool := false
  /-- consecutive deviating ticks, and their deviation in 10 mA (R141, R142) -/
  imbRun   : Nat := 0
  imbDev   : Nat := 0
  /-- IMB of the present run has been set and raised (R141) -/
  imbSaid  : Bool := false
  /-- the run is held: another phase of the loop was acted on at its tick (R142) -/
  imbHeld  : Bool := false
  deriving DecidableEq, Repr

/-- Engine-wide state of the phase engine. -/
structure PeSt where
  /-- edge steps of MAIN that the period generators have counted at the last tick (R115, R118, R120) -/
  steps    : Nat := 0
  /-- ESN 0x36 was raised in the present run of failures (R117) -/
  dllSaid  : Bool := false
  deriving DecidableEq, Repr

/-! ### Integrated regulators (spec 07) -/

/-- Where a regulator stands (R155 to R164). -/
inductive RegRun
  | off
  /-- the reference ramps from 0 V (R156) -/
  | starting
  | running
  /-- off for the 10 ms before a restart (R164) -/
  | retryWait
  deriving DecidableEq, Repr

/-- Regulator state without a register. Voltages are in mV. -/
structure RegSt where
  run      : RegRun := .off
  /-- the reference (R156) -/
  vref     : Nat := 0
  /-- what the reference holds beyond whole mV, in parts of the ramp time's frames -/
  vfrac    : Nat := 0
  target   : Nat := 0
  /-- what the reference moves by in a ramp time, mV (R156, R158) -/
  span     : Nat := 0
  /-- the low side sinks up to 1 A after an overvoltage, until the output is at the setpoint (R162) -/
  sink     : Bool := false
  /-- frame of the newest request: it is honoured at a later tick (R60) -/
  askAt    : Nat := 0
  /-- a write of EN awaits its tick (R155) -/
  pendEn   : Option Bool := none
  /-- a write of CODE awaits its tick (R158) -/
  pendCode : Bool := false
  ovArmed  : Bool := false
  uvArmed  : Bool := false
  /-- the OV or UV comparator was asserted since the last tick (R156) -/
  cmpSeen  : Bool := false
  /-- consecutive qualifying ticks towards PG (R156) -/
  pgRun    : Nat := 0
  /-- the output stands below its UV threshold (R162, R165) -/
  uvNow    : Bool := false
  /-- peak-limited cycles in a row for a buck, limited ticks in a row for an LDO (R162) -/
  limRun   : Nat := 0
  /-- the limit acted since the last tick (R162) -/
  limSeen  : Bool := false
  /-- frame of the next restart (R164) -/
  retryAt  : Nat := 0
  /-- frame since which PG has held (R164) -/
  pgSince  : Nat := 0
  /-- frame in which the local sensor was last latched above 145 °C (R162, R170) -/
  otAt     : Option Nat := none
  deriving DecidableEq, Repr

/-- A postponed segment measurement (R167): switch and segment, operating time of its first postponement, frame of its
last attempt, and whether ESN 0x47 was raised. -/
structure Postponed where
  s     : Nat
  k     : Nat
  since : Nat
  tried : Nat
  said  : Bool
  deriving DecidableEq, Repr

/-- Segment-sweep state without a register (R166 to R169). -/
structure SegSt where
  /-- the sweep's present switch and segment, the frame in which its turn began, and whether its buck was on then -/
  s         : Nat := 0
  k         : Nat := 0
  turnAt    : Nat := 0
  turnOn    : Bool := false
  postponed : List Postponed := []
  /-- fences decided and waiting for the switch's off boundary: switch, segment (R169) -/
  waiting   : List (Nat × Nat) := []
  /-- segments whose wear warning was given: switch, segment (R168) -/
  warned    : List (Nat × Nat) := []
  /-- hours of operating time whose sweep has begun or been passed over (R167) -/
  hour      : Nat := 0
  deriving DecidableEq, Repr

/-! ### Feeds, path and charger (spec 08) -/

/-- Feed state without a register (R177 to R179). -/
structure FeedSt where
  /-- frame of the tick qualification started -/
  qualAt  : Nat := 0
  /-- ticks in a row at which FEEDBUS lay more than 1 V below the feed with its gate on (R179) -/
  lagRun  : Nat := 0
  /-- the feed left its window while MAIN was stopped: code 2 or 3, taken at the first tick after MAIN runs (R197) -/
  gone    : Option Nat := none
  /-- operating times of the disqualifications counted -/
  disqs   : List Nat := []
  /-- operating time at which the quarantine ends -/
  quarEnd : Nat := 0
  /-- reverse blocking acted since the last tick -/
  revSeen : Bool := false
  deriving DecidableEq, Repr

/-- Path and charger state without a register (R180 to R196). -/
structure ChgSt where
  /-- BOW has tripped in the present arming (R183) -/
  bowDone   : Bool := false
  /-- frame in which the present hand-over began (R180) -/
  handAt    : Nat := 0
  /-- frame of the newest request: it is honoured at a later tick (R60) -/
  askAt     : Nat := 0
  /-- the command written to CHG_CTL since the last tick (R188, R197) -/
  cmd       : Option Nat := none
  /-- the last command was ignored (R188, R193) -/
  ignored   : Bool := false
  /-- consecutive ticks towards the exit of TRICKLE, PRE or CC (R188) -/
  exitRun   : Nat := 0
  /-- consecutive ticks below -500 mA in ZCH, and the entry's ESN 0x54 was raised (R192) -/
  shortRun  : Nat := 0
  shortSaid : Bool := false
  /-- consecutive ticks of each cell above its ceiling (R190) -/
  ovRun     : Vector Nat 8 := Vector.replicate 8 0
  /-- the cell cause has been raised at its onset (R190) -/
  ovSaid    : Bool := false
  /-- monitor events raised as stop causes at their onset (R190) -/
  mevSaid   : List Nat := []
  /-- the resumption ramp runs: frame of its start (R182) -/
  ramp      : Option Nat := none
  /-- SAFE_HOLD holds its battery-current target at 0 A (R190) -/
  zeroHold  : Bool := false
  /-- the timers count, and their counts in ms (R191) -/
  safeOn    : Bool := false
  preOn     : Bool := false
  safeMs    : Nat := 0
  preMs     : Nat := 0
  /-- frame at which PACK_QUAL ends (R195) -/
  qualEnd   : Nat := 0
  /-- PACK_ID is closed (R193) -/
  packId    : Bool := false
  deriving DecidableEq, Repr

/-! ### Battery gauge and its estimator (spec 09) -/

/-- Gauge state without a register (R202 to R216). -/
structure GgSt where
  /-- GG_QRAW and GG_QREF, signed 64-bit (R204, R218) -/
  qraw      : Int := 0
  qref      : Int := 0
  /-- high halves latched by a read of the low half (R205) -/
  qrawHi    : Option Word := none
  qrefHi    : Option Word := none
  /-- the last result counted, in codes (R203, R207) -/
  last      : Int := 0
  /-- a run of saturated frames is open (R206) -/
  satRun    : Bool := false
  /-- sum and number of the results of the present 100 ms, and those of the last ten, newest first (R202) -/
  blockSum  : Int := 0
  blockN    : Nat := 0
  blocks    : List (Int × Nat) := []
  /-- length of the rest run, in frames (R216) -/
  restRun   : Nat := 0
  /-- operating time at which REST was last 1 (R216) -/
  restedAt  : Nat := 0
  /-- consecutive refreshes of each cell below CELL_UV, and those raised (R212) -/
  uvRun     : Vector Nat 8 := Vector.replicate 8 0
  uvSaid    : List Nat := []
  /-- an open-tap check is due at the next measurement frame, or is this frame (R211) -/
  tapDue    : Bool := false
  tapNow    : Bool := false
  /-- the last readings of the cells, 100 µV (R211) -/
  raw       : Vector Nat 8 := Vector.replicate 8 0
  /-- balance switches are open for a measurement; the cells that balanced before it (R210) -/
  settling  : Bool := false
  balWas    : Nat := 0
  /-- fractions of a microampere-hour of each balancing charge, in 1e-9 µAh (R215) -/
  balAcc    : Vector Nat 8 := Vector.replicate 8 0
  /-- sums of the cells at the last 50 refreshes, newest first (R221) -/
  refreshes : List Nat := []
  /-- hibernation results since STANDBY was entered, and those in a row above WAKE_I (R207, R208) -/
  hibN      : Nat := 0
  wakeRun   : Nat := 0
  /-- crystal cycles of the hibernation result in progress (R207) -/
  hibCycles : Nat := 0
  /-- newest record of the store: slot and sequence number (R230) -/
  slot      : Nat := 1023
  seq       : Nat := 0
  /-- records refused under BOW, by type (R231) -/
  refused   : List (Nat × List Byte) := []
  /-- hours of operating time for which a COUNT record was written while FROZEN (R231) -/
  frozenAt  : Nat := 0
  deriving DecidableEq, Repr

/-- A learning cycle in progress (R227). -/
structure Learn where
  /-- GG_Q, SOC_ocv in 0.0001 %, balancing charges and operating time at its start -/
  q0    : Int
  soc0  : Int
  bal0  : List Nat
  ms0   : Nat
  /-- it started at LEARN_HI: its direction is discharge -/
  down  : Bool
  /-- charge counted against its direction, µAh (R228) -/
  wrong : Nat
  deriving DecidableEq, Repr

/-- The estimator in the Burin firmware (R218 to R235): what it holds besides its published registers. States of charge
and bands are in 0.0001 %, charges in µAh. -/
structure EstSt where
  /-- chemistry data of the configuration image (R219, R453) -/
  chem      : List Word := []
  /-- the first update after a start has been made -/
  running   : Bool := false
  /-- the start was a cold start (R232) -/
  cold      : Bool := false
  /-- state of charge, charge and balancing charges at the last correction or seed (R220) -/
  soc0      : Int := 0
  q0        : Int := 0
  bal0      : List Nat := [0, 0, 0, 0, 0, 0, 0, 0]
  /-- band at that time, and what it has grown by: charge counted, time, time without rest (R222) -/
  band0     : Int := 500000
  counted   : Nat := 0
  bandMs    : Nat := 0
  noRestMs  : Nat := 0
  /-- GG_Q and operating time at the last update -/
  qPrev     : Int := 0
  msPrev    : Nat := 0
  /-- the present rest has been read (R221) -/
  restRead  : Bool := false
  /-- a manufactured rest was asked for (R223), and the rest age at which the next may be -/
  holding   : Bool := false
  holdNext  : Nat := 0
  learn     : Option Learn := none
  /-- GG_STAT.SAT was set since the cycle started (R228) -/
  satSeen   : Bool := false
  /-- last 100 ms mean of GG_I in mA with the number of its 100 ms, VPACK, path (R225) -/
  lastI     : Option Int := none
  lastBlk   : Nat := 0
  lastV     : Nat := 0
  lastPath  : Nat := 0
  /-- a brake, a hand-over or a balancing change since the last update (R225) -/
  braked    : Bool := false
  /-- the last 16 step impedances in 10 µΩ, newest first (R225) -/
  steps     : List Int := []
  /-- operating time of the last ESTIMATE record (R231) -/
  recMs     : Nat := 0
  /-- frame of the last update (R218) -/
  updAt     : Option Nat := none
  /-- calendar, in seconds, at the cold start, where it was valid (R222) -/
  coldCal   : Option Nat := none
  /-- a cycle was disqualified by a D_PROC reset: its LEARN record is owed (R231) -/
  learnLost : Bool := false
  /-- a reinsertion, with the cell voltage in µV at the end of PACK_QUAL, awaits the next update (R233, R234) -/
  reinsert  : Option Int := none
  /-- a cold start's comparison awaits the next update (R235) -/
  compare   : Bool := false
  deriving DecidableEq, Repr

/-! ### Sequencer (spec 10) -/

/-- What a waiting thread is held at (R248, R249, R262). -/
inductive Wait
  | time | until | barrier
  deriving DecidableEq, Repr

/-- Thread state without a register (R239 to R262). -/
structure ThrSt where
  /-- return indices, newest first (R251) -/
  stack   : List Nat := []
  /-- steps executed in the present frame (R241) -/
  steps   : Nat := 0
  wait    : Wait := .time
  /-- frame in which the present wait was executed, and its length in frames: 0 is no timeout (R244) -/
  waitAt  : Nat := 0
  waitFor : Nat := 0
  /-- frame of the newest request: it is honoured at a later tick (R60) -/
  askAt   : Nat := 0
  /-- the command written to SEQ_CMD since the last tick: 1 START, 2 STOP, with its label if it names one (R254) -/
  cmd     : Option (Nat × Option Nat) := none
  /-- the last command was refused (R255) -/
  refused : Bool := false
  /-- barrier last passed, and the frame of the pass (R262) -/
  passed  : Option (Nat × Nat) := none
  deriving DecidableEq, Repr

/-- Sequencer state without a register. -/
structure SeqSt where
  thr       : Vector ThrSt 4 := Vector.replicate 4 {}
  /-- EXT_EN0 to EXT_EN15, and the levels that take effect at the next tick (R246) -/
  extEn     : BitVec 16 := 0
  extNext   : BitVec 16 := 0
  /-- frames in which DOWN and FAULT started, and what started FAULT: 0 reaction, 1 command, 2 FAULT_N (R256, R265) -/
  downAt    : Option Nat := none
  faultAt   : Option Nat := none
  /-- labels of starts of DOWN and FAULT that are to be raised before the frame's steps (R254, R256) -/
  tellDown  : Option Nat := none
  tellFault : Option Nat := none
  /-- SEQ_THR_STAT of DOWN before its start, which a start of FAULT in the same frame restores (R265) -/
  downWas   : Word := 0
  /-- the step that SEQ_DOWN.RESUME named when DOWN started (R242) -/
  resumeAt  : Nat := 0
  /-- place in the order of threads that the present frame has reached (R239) -/
  turn      : Nat := 0
  faultBy   : Nat := 0
  /-- ESN whose reaction gave FAULT its label (R256) -/
  faultEsn  : Nat := 0
  /-- UP is held by the start inhibit, and by FAULT_N (R257, R259) -/
  heldVsys  : Bool := false
  heldFn    : Bool := false
  /-- DOWN has been aborted in this run (R260) -/
  aborted   : Bool := false
  /-- frame at which the minimum off time ends (R260) -/
  minOffEnd : Nat := 0
  /-- a sample of FAULT_N has been taken since the cold start; an edge awaits its frame's work (R259) -/
  fnSampled : Bool := false
  fnEdge    : Bool := false
  /-- frame in which this part asserted FAULT_N (R258) -/
  fnAt      : Nat := 0
  /-- UP is to start at the first tick after the configuration load (R76) -/
  upAtStart : Bool := false
  /-- a sibling status has arrived since the cold start, and frames since the last (R263) -/
  sibSeen   : Bool := false
  sibAge    : Nat := 0
  /-- a status has arrived after SIB_OK was lost, or for the first time, and awaits the tick (R263) -/
  sibCame   : Bool := false
  deriving DecidableEq, Repr

/-! ### Supervision and the thermal model (spec 11) -/

/-- Supervision-context state without a register (R270 to R272): the four counts, and what the anchors need. -/
structure CtxSt where
  low   : Nat := 0
  high  : Nat := 0
  rate  : Nat := 0
  inv   : Nat := 0
  /-- both anchors have taken a valid value since evaluation started -/
  ancOk : Bool := false
  /-- the last valid value -/
  last  : Int := 0
  /-- consecutive frames with an invalid source (R290) -/
  bad   : Nat := 0
  deriving DecidableEq, Repr

/-- One node of the thermal model (R281 to R288). Temperatures have 24 fractional bits. -/
structure NodeSt where
  t      : Int := 0
  /-- powers of the present 16 frames, in microwatt (R279) -/
  sum    : Int := 0
  /-- mean power of the last step, mW -/
  p      : Int := 0
  /-- the last 32 step values and the last 26 samples, newest first (R284) -/
  hist   : List Int := []
  samp   : List Int := []
  r10    : Int := 0
  r1s    : Int := 0
  /-- T3, TCRIT and the two rate limits have been raised at their entry (R288) -/
  t3Said : Bool := false
  crSaid : Bool := false
  rtSaid : Bool := false
  rsSaid : Bool := false
  deriving DecidableEq, Repr

/-- Thermal and throttling state without a register. -/
structure ThSt where
  nodes  : Vector NodeSt 40 := Vector.replicate 40 {}
  /-- the model runs: its nodes have started (R282) -/
  on     : Bool := false
  /-- steps since the model started (R284) -/
  steps  : Nat := 0
  /-- offset and number of its adjustments, before their latch -/
  ofs    : Int := 0
  adj    : Nat := 0
  /-- package power of the last step, mW (R279) -/
  pkg    : Int := 0
  /-- consecutive steps of each NTC input's discrepancy (R283) -/
  runs   : Vector Nat 8 := Vector.replicate 8 0
  /-- throttle level and its cause, before their latch (R285) -/
  level  : Nat := 0
  cause  : Nat := 0
  rate   : Bool := false
  /-- steps with the lowered demand below the level (R286) -/
  dwell  : Nat := 0
  /-- the NTC inputs whose present run of open or short was raised (R278) -/
  ntcSaid : List Nat := []
  /-- the frame of the last step -/
  last   : Option Nat := none
  deriving DecidableEq, Repr

/-! ### Housekeeping converters (spec 12) -/

/-- One sequence of the housekeeping converters in the present frame (R294 to R297). -/
structure AdcSeqSt where
  /-- entries converted again in this frame (R296) -/
  redo    : List Nat := []
  /-- urgent conversions of this frame (R297) -/
  urgent  : Nat := 0
  /-- urgent requests deferred to the next frame, by register (R297) -/
  later   : List Nat := []
  /-- entries converted before the reference was lost in this frame (R298) -/
  upTo    : Option Nat := none
  deriving DecidableEq, Repr

/-- State of the housekeeping converters without a register. -/
structure AdcSt where
  seqs    : Vector AdcSeqSt 2 := Vector.replicate 2 {}
  /-- frame since which the buffer has been on (R298) -/
  refAt   : Option Nat := none
  /-- REF_READY stood at the present frame's tick -/
  ready   : Bool := false
  /-- cores whose check failed in the present frame (R302) -/
  failed  : List Nat := []
  /-- urgent requests of each sequence that wait, in the order in which they reached the core (R297) -/
  queue   : Vector (List Nat) 2 := Vector.replicate 2 []
  /-- frames in which the capture that runs has converted (R300) -/
  calN    : Nat := 0
  /-- the sequence ADC2 takes over, and the frame of the fence (R303) -/
  takeDue : Option (Nat × Nat) := none
  /-- tables of ADC_CALTAB to be written at the next tick, by core and input (R300) -/
  store   : List (Nat × Word) := []
  /-- target of the calibration in progress, and the zero held: sums of 256 codes of each core, with its target (R300) -/
  target  : Nat := 0
  zero    : Option (Nat × List Nat) := none
  deriving DecidableEq, Repr

/-! ### Fault collector and watchdog (spec 13) -/

/-- The raises of one ESN since the last reaction window (R315). -/
structure WinRaise where
  esn    : Nat
  /-- code of the first raise in the window -/
  first  : Nat
  /-- number of raises -/
  count  : Nat
  /-- highest effective class -/
  cls    : Nat
  /-- every code raised -/
  codes  : List Nat
  forced : Bool
  deriving DecidableEq, Repr

/-- A raise that waits in its latch while MAIN is stopped (R320). -/
structure HeldRaise where
  esn    : Nat
  code   : Nat
  hi     : Nat
  detail : List Byte
  forced : Bool
  deriving DecidableEq, Repr

/-- Fault-collector state without a register. -/
structure FltSt where
  /-- raises that wait for MAIN to run again, oldest first (R320) -/
  held    : List HeldRaise := []
  /-- raises awaiting the next reaction window (R315) -/
  window  : List WinRaise := []
  /-- rail identifiers fenced by a monitor event in the present frame (R316) -/
  fenced  : List Nat := []
  /-- ESNs enabled in SEQ_DOWN_EV that were raised and have not started DOWN yet (R261) -/
  downDue : List Nat := []
  deriving DecidableEq, Repr

/-- The watchdog fuses: a field not yet programmed is none (R327). -/
structure WdFuse where
  pmin : Option Nat := none
  pmax : Option Nat := none
  win  : Option Nat := none
  outw : Option Nat := none
  deriving DecidableEq, Repr

/-- Watchdog state without a register (R328 to R336). -/
structure WdSt where
  /-- a period runs -/
  running  : Bool := false
  /-- slots required in the present period -/
  required : Nat := 1
  /-- slots enabled in the present period -/
  enabled  : Nat := 1
  /-- owner registers in force in the present period -/
  own0     : Word := 0
  own1     : Word := 0
  /-- PERIOD in force, ms -/
  period   : Nat := 1000
  /-- the present period is the first since the watchdog started -/
  first    : Bool := false
  /-- clocks of MAIN from the beginning of the period, or of the ROM's limit, to the last tick: negative where it began
  after that tick (R73, R328) -/
  clocks   : Int := 0
  /-- ticks left of the WD_OUT pulse (R334) -/
  outLeft  : Nat := 0
  /-- the RTC-domain pulse of R55 drives WD_OUT -/
  rtcPulse : Bool := false
  deriving DecidableEq, Repr

/-! ### The Plate and the NV engine (spec 14) -/

/-- A record of the Plate (R347), before it has a sequence, power-cycle count, CRC and mark. -/
structure PlateRec where
  type    : Nat
  sev     : Nat
  esn     : Nat
  code    : Nat
  first   : Nat
  frm     : Nat
  last    : Nat
  /-- repeat count, or the chain id of a snapshot record -/
  rep     : Nat
  payload : List Byte
  deriving DecidableEq, Repr

/-- Where the newest EVENT record of an ESN stands (R353). -/
inductive Target
  /-- in the FIFO, by its entry number -/
  | fifo (id : Nat)
  /-- in an MRAM slot -/
  | slot (i : Nat)
  deriving DecidableEq, Repr

/-- The newest EVENT record of one ESN: its key, last time and place (R353). -/
structure Newest where
  esn   : Nat
  sev   : Nat
  key   : Nat
  last  : Nat
  rep   : Nat
  place : Target
  deriving DecidableEq, Repr

/-- One entry of the ingest FIFO (R351): a record, or an in-place update of a slot bound to its target (R353). -/
structure FifoEntry where
  id     : Nat
  body   : PlateRec
  /-- none: a record to write; some i: the update word of slot i -/
  update : Option Nat
  deriving DecidableEq, Repr

/-- A record being written: its slot and the words left, as (MRAM word offset, 64-bit value) (R348, R355). -/
structure Writing where
  /-- 0: a FIFO entry, 1: a clock mark, 2: a snapshot record, 3: an in-place update -/
  kind  : Nat
  id    : Nat
  slot  : Nat
  body  : PlateRec
  all   : List (Nat × BitVec 64)
  left  : List (Nat × BitVec 64)
  deriving DecidableEq, Repr

/-- The suppressed raises of one ESN in a flood: first and last times (R356). -/
structure Supp where
  esn   : Nat
  first : Nat
  last  : Nat
  deriving DecidableEq, Repr

/-- Plate state without a register. -/
structure PlateSt where
  /-- records raised since the last acceptance, oldest first (R351) -/
  raised   : List PlateRec := []
  fifo     : List FifoEntry := []
  nextId   : Nat := 0
  newest   : List Newest := []
  supp     : List Supp := []
  /-- acceptances since the last suppression, and whether the last one ended the flood (R356) -/
  quiet    : Nat := 0
  calm     : Bool := false
  /-- clock marks waiting, at most 4 (R357) -/
  marks    : List PlateRec := []
  /-- snapshot records waiting, head last (R359) -/
  snap     : List PlateRec := []
  writing  : Option Writing := none
  /-- an EVENT 0x90 was raised for a drop in the present frame (R354) -/
  dropped  : Bool := false
  /-- the commanded snapshot of the next tick, by its tag (R359) -/
  snapCmd  : Option Nat := none
  /-- frame of that request -/
  snapAt   : Nat := 0
  /-- the last commanded snapshot was skipped (R359) -/
  snapSkip : Bool := false
  /-- the half of PLATE_WIN[5] latched by a read of PLATE_WIN[4] (R361) -/
  winLatch : Option Word := none
  /-- the cold-start clock mark awaits the first acceptance after the rebuild (R357) -/
  coldMark : Bool := false
  deriving DecidableEq, Repr

/-- Who has a boot-select record written: the boot ROM, Burin firmware with an activation, or the confirmation of a trial
(R77, R78). -/
inductive BootBy
  | rom | firmware | confirm
  deriving DecidableEq, Repr

/-- What a record or word written through the NV engine is. -/
inductive NvWhat
  /-- a boot-select record: the newest once its last word is written (R77) -/
  | boot (source : BootBy) (r : BootRec)
  /-- the incremented proof counter (R84) -/
  | proof (counter : Nat)
  /-- a sector is copied to a spare sector, and its remap entry written (R343) -/
  | remap (sector spare : Nat)
  /-- a counter record: operating time and power cycles (R376) -/
  | counter (ms cycles : Nat)
  /-- a calibration record: the words of ADC_CALTAB of an input, by core and input (R300) -/
  | calib (tab : List (Nat × Word))
  /-- a gauge record that hardware writes (R231) -/
  | record
  /-- words that Burin firmware issues: a write, or a gauge record of the estimator (R231, R344) -/
  | words
  /-- the write-back of a corrected word (R342) -/
  | fix
  deriving DecidableEq, Repr

/-- A job of a writer of priority 1, 2 or 4 (R341): its words as (MRAM offset, value),
how many words it has and how many are left. -/
structure NvJob where
  what  : NvWhat
  all   : List (Nat × BitVec 64)
  total : Nat
  left  : Nat
  deriving DecidableEq, Repr

/-- NV engine state without a register. -/
structure NvSt where
  /-- writers of priority 1, 2 and 4 (R341) -/
  q1       : List NvJob := []
  q2       : List NvJob := []
  q4       : List NvJob := []
  /-- word times used in the present frame, of 125 (R355) -/
  used     : Nat := 0
  /-- words left of the sector the erase is in (R345) -/
  eraseWord : Nat := 0
  deriving DecidableEq, Repr

/-- MRAM: bytes by offset in the one canonical form, the records whose layout the spec does not give, and the spare
sectors in use (R69, R77, R84, R343). -/
structure Mram where
  cells    : List Host.Cell := []
  /-- the newest valid boot-select record, and its place in the ring (R77) -/
  bootSel  : Option BootRec := none
  bootAt   : Nat := 1023
  proofCtr : Nat := 0
  /-- offsets of words that hold a double-bit error (R342) -/
  bad      : List Nat := []
  /-- sectors replaced, each with its spare, newest last (R343) -/
  remap    : List (Nat × Nat) := []
  /-- sectors that failed with no spare free (R343) -/
  failed   : List Nat := []
  /-- operating time and power cycles of the newest counter record (R376) -/
  counters : Option (Nat × Nat) := none
  /-- the newest valid calibration records, by 64 × core + input; an unlisted one has GAIN 32,768 and OFS 0 (R301) -/
  calib    : List (Nat × Word) := []
  /-- inputs whose newest calibration record stands at the second of its two places (R300) -/
  calibAlt : List Nat := []
  deriving DecidableEq, Repr

/-! ### Real-time clock, backup domain and operating time (spec 15) -/

/-- Backup-domain state without a register (R365 to R377). -/
structure BakSt where
  /-- calendar in 1/256 s since 1 January 2000 (R368) -/
  cal        : Nat := 0
  /-- trim accumulator, below 1,000,000 (R365) -/
  trimAcc    : Nat := 0
  /-- trimmed cycles of the present 1/256 s step, below 128 (R365) -/
  cycles     : Nat := 0
  /-- steps left of the periodic wake, 0 off (R371) -/
  wakeLeft   : Nat := 0
  /-- an expiry of the periodic wake awaits its outcome (R371) -/
  wakeDue    : Bool := false
  /-- shadow of the operating time, ms (R375) -/
  shadowOpt  : Nat := 0
  /-- shadow of the power-cycle count (R376) -/
  shadowCyc  : Nat := 0
  /-- code of the switch-over marked for the next cold start (R372) -/
  swoMark    : Option Nat := none
  /-- BAK_LOW was set since the last cold start (R373) -/
  lowMark    : Bool := false
  /-- TRIM awaits TRIM_DEF after a reset of the domain (R374) -/
  trimFresh  : Bool := true
  /-- the crystal runs -/
  crystal    : Bool := false
  deriving DecidableEq, Repr

/-- Operating time, substitute counts and crossings: the D_PWR side (R367, R370, R375). -/
structure OptSt where
  /-- operating time, ms (R375) -/
  ms        : Nat := 0
  /-- accumulator of modulus 32,768 (R375) -/
  acc       : Nat := 0
  /-- MAIN clocks of the present substitute 1/256 s step (R367) -/
  substStep : Nat := 0
  /-- MAIN clocks of the present substitute ms (R367) -/
  substMs   : Nat := 0
  /-- the substitute calendar in 1/256 s (R367) -/
  substCal  : Nat := 0
  /-- a SET crossing into the backup domain, in 1/256 s, and that a trimmed step has come since (R370) -/
  setCross  : Option Nat := none
  setDue    : Bool := false
  /-- a CLEAR_SWO crossing into the backup domain (R65, R372) -/
  swoCross  : Bool := false
  /-- what a read of RTC_SEC_LO latched, in 1/256 s (R369), and what a read of RTC_OPT_LO latched, in ms (R375) -/
  calLatch  : Option Nat := none
  optLatch  : Option Nat := none
  /-- ESNs and codes to raise at the first tick after the configuration load, or after MAIN runs (R371 to R374) -/
  firstTick : List (Nat × Nat × Nat) := []
  /-- hours of operating time whose clock mark has been made (R357) -/
  hourMark  : Nat := 0
  /-- hours of operating time whose counter record has been written (R376) -/
  hourRec   : Nat := 0
  deriving DecidableEq, Repr

/-! ### Ports and mailboxes (spec 16) -/

/-- State of a tag (R389 to R393). -/
inductive TagState
  | free | queued | answered | owed
  deriving DecidableEq, Repr

/-- One tag: its state, the port and class of its command, the frame whose tick ends its
deadline (R387), and its place in the order of admission (R412). -/
structure TagSt where
  st   : TagState := .free
  port : Port := .a
  cls  : Nat := 0
  due  : Nat := 0
  order : Nat := 0
  deriving DecidableEq, Repr

/-- An item of an outbound FIFO: its words left, the tag a response owns, and whether the host has begun it (R385). -/
structure Item where
  words  : List Word
  tag    : Option Nat
  notice : Bool
  begun  : Bool
  deriving DecidableEq, Repr

/-- A notice in its queue: ESN, code and count, whether it is the OVERFLOW notice, and the responses it has waited
behind (R395). -/
structure Notice where
  esn    : Nat
  code   : Nat
  count  : Nat
  ovf    : Bool
  waited : Nat
  deriving DecidableEq, Repr

/-- State of one of Ports A, B, C and E without a register (R382 to R397). -/
structure PortSt where
  /-- words of the packet being collected -/
  collect : List Word := []
  /-- a word of the packet being collected was discarded: it is answered BAD_FRAME at its last word (R402) -/
  bad     : Bool := false
  /-- words of the packet being collected that were discarded -/
  missed  : Nat := 0
  /-- words left of the packet Burin reads, and those of it read (R382, R386) -/
  rx      : List Word := []
  rxDone  : List Word := []
  /-- admitted packets that Burin has not begun -/
  inq     : List (List Word) := []
  /-- outbound items, the oldest first -/
  out     : List Item := []
  /-- notices waiting (R395) -/
  notes   : List Notice := []
  /-- words of the last MBX_OUT read (R398) -/
  again   : List Word := []
  /-- words of the response that Burin writes (R391) -/
  tx      : List Word := []
  deriving DecidableEq, Repr

/-- State of the sibling link without a register (R406). -/
structure LinkSt where
  /-- next sequence numbers of CMD and RSP cells received, and of those sent -/
  cmdSeq  : Nat := 0
  rspSeq  : Nat := 0
  cmdTx   : Nat := 0
  rspTx   : Nat := 0
  /-- free words of the far side's inbound FIFO and host FIFO as last reported, less the cells sent since -/
  farIn   : Nat := 0
  farHost : Nat := 0
  /-- the far side's outbound alert -/
  alert   : Bool := false
  /-- ESN 0x84 was raised for a wrong CRC in the present frame -/
  crcSaid : Bool := false
  /-- channel H: command words to be sent, and response words received and being collected -/
  htx     : List Word := []
  hrx     : List Word := []
  hpart   : List Word := []
  /-- mailbox cells sent in the present frame: RSP or CMD, sequence, word -/
  sent    : List (Bool × Nat × Word) := []
  deriving DecidableEq, Repr

/-- State of the AUX controller and of Port D without a register (R401, R403). -/
structure AuxSt where
  addr   : Nat := 0
  wlen   : Nat := 0
  rlen   : Nat := 0
  /-- ESN 0x83 was raised in the present frame -/
  dlSaid : Bool := false
  deriving DecidableEq, Repr

/-! ### Firmware and register window (spec 17 and 18) -/

/-- What an answer that firmware has not given yet reports (R414, R421, R428, R429, R434, R436). -/
inductive Answer
  /-- EN or EXT_EN of a rail; true where it was to be enabled -/
  | rail (id : Nat) (on : Bool)
  /-- CODE of a rail; the code written was clamped -/
  | setV (id : Nat) (clamped : Bool)
  | subst (n : Fin 16)
  | thread (t : Fin 4)
  | flags
  | charge
  | gaugeMode
  | snapshot
  | rtcSet
  | rtcWake
  | urgent (q : Fin 2) (j : Fin 8)
  /-- the target has been erased; of the configuration session: which copy -/
  | begun (copy : Option Nat)
  /-- the last word has been read back -/
  | written
  | aux
  /-- a proof has been signed -/
  | proof
  /-- the activation record has been written -/
  | activated
  deriving DecidableEq, Repr

/-- An admitted command whose answer waits: its tag, the frame in which it was executed, and what it reports. -/
structure Deferred where
  tag : Nat
  frm : Nat
  ans : Answer
  deriving DecidableEq, Repr

/-- A configuration or image session (R432 to R434): its owner, target, the operating time of its last command, and
what a passing VERIFY with no later write returned. -/
structure Session where
  port   : Port
  target : Nat
  last   : Nat
  ok     : Option Nat
  deriving DecidableEq, Repr

/-- What the standard firmware holds (R412 to R434). -/
structure FwSt where
  /-- packets read whole through MBX_RX, by port -/
  taken    : List (Port × List Word) := []
  deferred : List Deferred := []
  /-- RESTART (false) and STANDBY (true) answered: the tag and the frame at which each acts at the latest (R417) -/
  acts     : List (Bool × Nat × Nat) := []
  /-- commands admitted since the start of D_PROC (R412) -/
  admitted : Nat := 0
  cfg      : Option Session := none
  img      : Option Session := none
  deriving DecidableEq, Repr

/-- An unlock window (R445, R446): owner, block, and the operating time at which it closes. -/
structure Window where
  src   : Nat
  block : Nat
  until_ : Nat
  deriving DecidableEq, Repr

/-- Unlocking without a register: first keys that wait, by source, with their block, and the window. -/
structure SysSt where
  keys   : List (Nat × Nat) := []
  window : Option Window := none
  deriving DecidableEq, Repr

/-! ### The whole state -/

/-- What is latched at a tick for telemetry, conditions and snapshots (R58, R245, R358, R420). -/
structure Snap where
  regs : List (Nat × Word) := []
  mr   : Vector (BitVec 256) 4 := Vector.replicate 4 0
  /-- the calendar in 1/256 s and the operating time in ms -/
  cal  : Nat := 0
  ms   : Nat := 0
  /-- ERR_N is asserted whatever the collector holds (R322) -/
  err  : Bool := true
  /-- the slot in the Plate's window (R361) -/
  win  : Vector Word 16 := Vector.replicate 16 0
  /-- STG_EN0 to STG_EN3 and GPIO0 to GPIO7 (R245) -/
  stg  : BitVec 4 := 0
  gpio : BitVec 8 := 0
  /-- ESNs acknowledged on the alarm link (R403, R404) -/
  acks : List Nat := []
  deriving DecidableEq, Repr

/-- The state of the part. -/
@[ext]
structure State where
  /-- registers by address; one that is not listed holds its reset value (RegMapA to RegMapC) -/
  regs    : List (Nat × Word) := []
  /-- what the last tick latched (R58, R420) -/
  snap    : Snap := {}
  /-- measurement registers MR0 to MR3 (R82) -/
  mr      : Vector (BitVec 256) 4 := Vector.replicate 4 0
  mram    : Mram := {}
  itcm    : List Host.Cell := []
  dtcm    : List Host.Cell := []
  power   : Power := .unpowered
  clk     : ClkSt := {}
  proc    : ProcSt := {}
  ic      : IcSt := {}
  proof   : ProofSt := {}
  loops   : Vector LoopSt 4 := Vector.replicate 4 {}
  phases  : Vector PhaseSt 16 := Vector.replicate 16 {}
  pe      : PeSt := {}
  regul   : Vector RegSt 14 := Vector.replicate 14 {}
  seg     : SegSt := {}
  seq     : SeqSt := {}
  /-- levels of GPIO0 to GPIO7 (R245) -/
  gpio    : BitVec 8 := 0
  ctx     : Vector CtxSt 160 := Vector.replicate 160 {}
  th      : ThSt := {}
  adc     : AdcSt := {}
  feeds   : Vector FeedSt 2 := Vector.replicate 2 {}
  chg     : ChgSt := {}
  gg      : GgSt := {}
  est     : EstSt := {}
  flt     : FltSt := {}
  fuse    : WdFuse := {}
  wd      : WdSt := {}
  plate   : PlateSt := {}
  nv      : NvSt := {}
  bak     : BakSt := {}
  opt     : OptSt := {}
  /-- Ports A, B, C and E -/
  ports   : Vector PortSt 4 := Vector.replicate 4 {}
  /-- the interrupt controller and the port command layers are out of reset (R63, R87, R393) -/
  layers  : Bool := false
  tags    : Vector TagSt 96 := Vector.replicate 96 {}
  link    : LinkSt := {}
  aux     : AuxSt := {}
  fw      : FwSt := {}
  sys     : SysSt := {}
  /-- the words the last read command returned (the model's own observation) -/
  out     : List Word := []
  /-- the bytes of the last transfer that the part sent on a port, the alarm link or AUX, in their order (R4; the model's own
  observation) -/
  wire    : List Byte := []
  /-- counter to which free values are applied (the model's own) -/
  freeCtr : Nat := 0
  /-- ESNs acknowledged on the alarm link (R405) -/
  acks    : List Nat := []
  /-- RWL registers written since their domain's reset (R7), by address -/
  locked  : List Nat := []
  /-- commands that are waiting, first in, first out -/
  pending : List Instr := []
  deriving DecidableEq, Repr

/-- The machine right after reset: without power, every register at its reset value, nothing listed in memory and no
command waiting (R67). -/
def State.reset : State := {}

end Sys2Proof.Machine
end

