-- ==== Sys2Proof/Machine/Ops.lean ====
section
/-! DEFINITION. The named operations over the state that every meaning is written in: reading and writing registers and
their fields, MRAM and TCM bytes, raising an event source number (R310 to R318), ringing a doorbell (R90) and extending
a measurement register (R82). -/
namespace Sys2Proof.Machine
open Sys2Proof

/-! ### Registers -/

/-- The word a register holds. -/
def State.rd (s : State) (a : Nat) : Word := lookupD resetVal s.regs a

/-- The state with a register holding a word. -/
def State.wr (s : State) (a : Nat) (v : Word) : State := { s with regs := writeD resetVal s.regs a v }

/-- A field of a register. -/
def State.get (s : State) (a : Nat) (f : Fld) : Nat := getF (s.rd a) f

/-- A field of a register as a two's-complement number. -/
def State.getI (s : State) (a : Nat) (f : Fld) : Int := getFI (s.rd a) f

/-- A field reads other than 0. -/
def State.flag (s : State) (a : Nat) (f : Fld) : Bool := s.get a f != 0

/-- The state with one field of a register replaced. -/
def State.put (s : State) (a : Nat) (f : Fld) (v : Nat) : State := s.wr a (setF (s.rd a) f v)

/-- The state with a one-bit field set or cleared. -/
def State.putB (s : State) (a : Nat) (f : Fld) (b : Bool) : State := s.put a f (if b then 1 else 0)

/-- The state with a count incremented in a field, saturating. -/
def State.bump (s : State) (a : Nat) (f : Fld) : State := s.put a f (min (s.get a f + 1) (2 ^ f.w - 1))

/-- One bit of a word as a field. -/
def bitF (n : Nat) : Fld := ⟨n, 1⟩

/-- The whole word as a field. -/
def wordF : Fld := ⟨0, 32⟩

/-! ### What each command first asks -/

/-- The part is in RUN and MAIN runs. -/
def State.inRun (s : State) : Bool := s.power == .run && !s.clk.stopped && !s.clk.bothLost

/-- The D_PWR engines run on a loaded configuration (R71, R75: with none they are held at reset). -/
def State.engines (s : State) : Bool := s.inRun && s.clk.inForce && s.clk.cfgCopy.isSome

/-- Protections that act in analogue are armed: as `engines`, whether MAIN runs or is stopped (R54, R320). -/
def State.analog (s : State) : Bool := s.power == .run && !s.clk.bothLost && s.clk.inForce && s.clk.cfgCopy.isSome

/-- Burin's accesses reach the space (R441). -/
def State.burinReaches (s : State) : Bool := s.inRun && (s.proc.mode == .firmware || s.proc.mode == .recovery)

/-- A command that acts only where its condition holds; where it does not, the event cannot occur and the state is
kept (log 3). -/
def State.when (s : State) (c : Bool) (f : State → State) : State := if c then f s else s

/-- The outcome of a command: every command of this block goes on. -/
def done (s : State) : Host.Outcome State Fault Refusal := .next s

/-! ### Memory -/

/-- Offsets in MRAM of the calibration records, the boot-select ring, the proof counter, the device certificate and the
ring of counter records (R69, log 5). -/
def calibBase : Nat := 0x00280000
def bootRing : Nat := 0x002D0000
def counterRing : Nat := 0x002F0000
def proofPlace : Nat := 0x002E0000
def certPlace : Nat := 0x002E0008

/-- What a byte of MRAM or TCM that nothing has written reads as (log 5): the device certificate stands at its place from
manufacture on (R86). -/
def blankByte : Nat → Byte := fun a =>
  if certPlace ≤ a ∧ a < certPlace + 136 then deviceCert.getD (a - certPlace) 0 else 0

/-- A memory's canonical form: addresses strictly rising, no entry equal to what an unlisted address reads as. -/
abbrev Memory.wf (m : List Host.Cell) : Bool := canonD blankByte m

/-- One byte of a memory. -/
def memByte (m : List Host.Cell) (a : Nat) : Byte := lookupD blankByte m a

/-- A memory with one byte written. -/
def memSet (m : List Host.Cell) (a : Nat) (b : Byte) : List Host.Cell := writeD blankByte m a b

/-- `n` bytes of a memory from an address. -/
def memRead (m : List Host.Cell) (a : Nat) : Nat → List Byte
  | 0 => []
  | n + 1 => memByte m a :: memRead m (a + 1) n

/-- A memory with bytes written from an address on. -/
def memWrite (m : List Host.Cell) (a : Nat) : List Byte → List Host.Cell
  | [] => m
  | b :: r => memWrite (memSet m a b) (a + 1) r

/-- A 32-bit word of a memory, least significant byte first (R4). -/
def memWord (m : List Host.Cell) (a : Nat) : Nat := ofBytesLE (memRead m a 4)

/-- The sector that a sector's addresses name: its spare, or the spare's own, as far as replacements go (R343). -/
def sectorAt (l : List (Nat × Nat)) : Nat → Nat → Nat
  | 0, a => a
  | n + 1, a =>
    match l.find? (fun p => p.1 == a) with
    | some p => sectorAt l n p.2
    | none => a
def State.physSector (s : State) (a : Nat) : Nat := sectorAt s.mram.remap s.mram.remap.length a

/-- The sectors whose addresses name the sector that `a`'s name (R343). -/
def State.namesOf (s : State) (a : Nat) : List Nat :=
  let p := s.physSector a
  (p :: s.mram.remap.map Prod.fst).filter (fun b => s.physSector b == p)

/-- The place of a word in the array of sectors. -/
def State.physWord (s : State) (off : Nat) : Nat := 4096 * s.physSector (off / 4096) + off % 4096 / 8 * 8

/-- The state with bytes of one word of MRAM written, under each of its addresses; a double-bit error of it is gone. -/
def State.mramWrite (s : State) (off : Nat) (l : List Byte) : State :=
  let m := (s.namesOf (off / 4096)).foldl (fun m b => memWrite m (4096 * b + off % 4096) l) s.mram.cells
  { s with mram := { s.mram with cells := m, bad := s.mram.bad.filter (fun a => a != s.physWord off) } }

/-! ### Bytes on a bus (R4) -/

/-- Words that a port sends, as `out` shows them and byte by byte, least significant first. -/
def State.send (s : State) (ws : List Word) : State :=
  { s with out := ws, wire := ws.flatMap (fun w => bytesLE 4 w.toNat) }

/-- The whole words among bytes that a port receives, least significant byte first. -/
def wordsOf : List Byte → List Word
  | a :: b :: c :: d :: r => BitVec.ofNat 32 (ofBytesLE [a, b, c, d]) :: wordsOf r
  | _ => []

/-! ### The loop, phase, regulator ... of an index -/

def State.updLoop (s : State) (m : Fin 4) (f : LoopSt → LoopSt) : State := { s with loops := s.loops.set m (f s.loops[m]) }
def State.updPhase (s : State) (n : Fin 16) (f : PhaseSt → PhaseSt) : State :=
  { s with phases := s.phases.set n (f s.phases[n]) }
def State.updReg (s : State) (r : Fin 14) (f : RegSt → RegSt) : State := { s with regul := s.regul.set r (f s.regul[r]) }

def State.updFeed (s : State) (x : Fin 2) (f : FeedSt → FeedSt) : State := { s with feeds := s.feeds.set x (f s.feeds[x]) }
def State.updChg (s : State) (f : ChgSt → ChgSt) : State := { s with chg := f s.chg }
def State.updGg (s : State) (f : GgSt → GgSt) : State := { s with gg := f s.gg }
def State.updEst (s : State) (f : EstSt → EstSt) : State := { s with est := f s.est }

/-- Every index below `n`, in ascending order. -/
def allFin (n : Nat) : List (Fin n) := List.finRange n

/-! ### Measurement (R82, R83) -/

/-- The address of MR_CNT[n]. -/
def mrCnt (n : Nat) : Nat := 0x4002E080 + 4 * n

/-- Extension of MRn by a 32-byte digest (R82). -/
def State.extend (s : State) (n : Fin 4) (d : List Byte) : State :=
  let m := digestBV (sha256 (bytesLE 32 s.mr[n].toNat ++ d))
  ({ s with mr := s.mr.set n m }).put (mrCnt n) wordF (min ((s.rd (mrCnt n)).toNat + 1) 0xFFFFFFFF)

/-! ### Doorbells (R90 to R95) -/

/-- The enable of an ESN's doorbells (IC_PRIO). -/
def State.icEnabled (s : State) (esn : Nat) : Bool := s.flag (IC_PRIO (esn / 4)) (bitF (8 * (esn % 4) + 7))

/-- A doorbell is not stored: the source's overflow is counted (R93). -/
def State.icOverflow (s : State) (esn : Nat) : State :=
  (s.bump (IC_OVF esn) IC_OVF_COUNT).putB (IC_OVF esn) IC_OVF_OVF true

/-- Ring a doorbell: its word takes the source's input latch, or is lost where the latch is occupied (R90, R93). While
D_PROC is in reset nothing is latched (R20). -/
def State.doorbell (s : State) (w : Word) : State :=
  let esn := (w >>> 24).toNat
  if !s.layers then s
  else if w == 0xFFFFFFFF then s.putB IC_STAT IC_STAT_BAD_DB true
  else if !s.icEnabled esn then s
  else if s.ic.latch.any (fun p => p.1 == esn) then s.icOverflow esn
  else { s with ic := { s.ic with latch := insertAt esn w s.ic.latch } }

/-! ### Raises (R310 to R318) -/

/-- The number of a frame as FRM_NUM shows it (R57). -/
def State.frmNum (s : State) : Nat := s.clk.frames % 2 ^ 32

/-- The effective class of a raise (R314). -/
def State.effClass (s : State) (esn code : Nat) (forced : Bool) : Nat :=
  max (s.get (FLT_CFG esn) FLT_CFG_CLASS) (if forced then 0 else classFloor esn code)

/-- The raise records the use or loss of a spare (R318). -/
def isWear (esn code : Nat) : Bool :=
  esn == 0x00 || esn == 0x01 || esn == 0x11 || esn == 0x14 || esn == 0x1B || esn == 0x1D ||
  (0x20 ≤ esn && esn ≤ 0x2F && (code == 4 || code == 5)) || (0x30 ≤ esn && esn ≤ 0x33 && code == 6) ||
  (0x38 ≤ esn && esn ≤ 0x45 && 8 ≤ code && code ≤ 0xB) || (0x68 ≤ esn && esn ≤ 0x6A && code == 2) ||
  esn == 0x6B || esn == 0x6C

/-- The Plate severity of a raise of a class (R317, R318). -/
def State.plateSev (s : State) (esn code cls : Nat) : Nat :=
  let base := max (min (s.get (FLT_CFG esn) FLT_CFG_SEV) 4) (if cls = 2 then 4 else if cls = 1 then 3 else 0)
  if isWear esn code then max base (min (s.get PLATE_CFG PLATE_CFG_WEAR_SEV) 4) else base

/-- A list of bytes as a 32-byte payload. -/
def pad32 (l : List Byte) : List Byte := (l ++ List.replicate 32 0).take 32

/-- An EVENT record of the present instant (R347, R350). -/
def State.eventRec (s : State) (esn code sev payload : Nat) (detail : List Byte) : PlateRec :=
  { type := 1, sev := sev, esn := esn, code := code % 256, first := s.opt.ms, frm := s.frmNum % 65536, last := s.opt.ms,
    rep := 1, payload := pad32 (bytesLE 3 payload ++ [0] ++ detail) }

/-- A record handed to the Plate ingest (R317, R351). -/
def State.toPlate (s : State) (r : PlateRec) : State := { s with plate := { s.plate with raised := s.plate.raised ++ [r] } }

/-- The calendar the part reads, in 1/256 s: the substitute while SUBST is 1 (R367). -/
def State.calendar (s : State) : Nat := if s.flag RTC_STAT RTC_STAT_SUBST then s.opt.substCal else s.bak.cal

/-- The CLOCK record of the present instant (R357). -/
def State.clockMark (s : State) (esn code cause before : Nat) : PlateRec :=
  let c := s.calendar
  { type := 2, sev := min (s.get (FLT_CFG esn) FLT_CFG_SEV) 4, esn := esn, code := code, first := s.opt.ms,
    frm := s.frmNum % 65536, last := s.opt.ms, rep := 1,
    payload := pad32 (bytesLE 6 (c / 256) ++ bytesLE 1 (c % 256) ++
      bytesLE 1 (s.get RTC_STAT RTC_STAT_VALID + 2 * s.get RTC_STAT RTC_STAT_SUBST) ++
      bytesLE 1 (s.get RTC_TRIM RTC_TRIM_TRIM) ++ bytesLE 1 cause ++ bytesLE 6 before ++ bytesLE 4 s.frmNum) }

/-- A clock mark joins the buffer of 4; a full buffer loses its oldest mark (R357). -/
def State.addMark (s : State) (r : PlateRec) : State :=
  { s with plate := { s.plate with marks := (if s.plate.marks.length ≥ 4 then s.plate.marks.drop 1 else s.plate.marks) ++ [r] } }

/-- The raises of one ESN since the last window, with one more (R315). -/
def addWin (esn code cls : Nat) (forced : Bool) : List WinRaise → List WinRaise
  | [] => [⟨esn, code, 1, cls, [code], forced⟩]
  | w :: r =>
    if w.esn = esn then
      { w with count := w.count + 1, cls := max w.cls cls, codes := w.codes ++ [code], forced := w.forced || forced } :: r
    else w :: addWin esn code cls forced r

/-- The acknowledge bit of an ESN on the alarm link (R405): a raise of class uncontained or fatal clears it. -/
def State.ackClear (s : State) (esn cls : Nat) : State :=
  if cls ≥ 1 then { s with acks := s.acks.filter (fun n => n ≠ esn) } else s

/-- An ESN enabled in SEQ_DOWN_EV (R261). -/
def State.downEvent (s : State) (esn : Nat) : Bool :=
  (List.range 4).any (fun j => (s.get SEQ_DOWN SEQ_DOWN_EV_EN).testBit j && getF (s.rd SEQ_DOWN_EV) ⟨8 * j, 8⟩ == esn)

/-- A raise of such an ESN is to start DOWN (R261). -/
def State.noteDown (s : State) (esn : Nat) : State :=
  if s.downEvent esn && !s.flt.downDue.contains esn then
    { s with flt := { s.flt with downDue := s.flt.downDue ++ [esn] } }
  else s

/-- FLT_INFO of an ESN after a raise of a class (R310, R313, R314). -/
def State.infoWord (s : State) (esn code cls : Nat) (forced : Bool) : Word :=
  let g := s.get (FLT_INFO esn)
  setF (setF (setF (setF (setF (s.rd (FLT_INFO esn)) FLT_INFO_CODE code) FLT_INFO_CLS (max (g FLT_INFO_CLS) cls))
    FLT_INFO_FORCED (if forced then 1 else g FLT_INFO_FORCED)) FLT_INFO_COUNT (min (g FLT_INFO_COUNT + 1) 4095))
    FLT_INFO_FRAME (s.frmNum % 256)

/-- A raise as it is taken: sticky bit and FLT_INFO (R310), class (R314), reactions to come (R315), doorbell
(R90) and the Plate (R317, R318). A monitor event with code 0 sets nothing in the collector (R311). -/
def State.raiseNow (s : State) (esn code hi : Nat) (detail : List Byte) (forced : Bool) : State :=
  let payload := (code % 256 + 256 * hi) % 2 ^ 24
  let s := s.doorbell (BitVec.ofNat 32 (esn * 2 ^ 24 + payload))
  if 0xA0 ≤ esn && code = 0 && !forced then s.toPlate (s.eventRec esn 0 0 payload detail)
  else
    let cls := s.effClass esn code forced
    let s := s.putB (FLT_STICKY (esn / 32)) (bitF (esn % 32)) true
    let s := s.wr (FLT_INFO esn) (s.infoWord esn code cls forced)
    let s := (s.ackClear esn cls).noteDown esn
    let s := { s with flt := { s.flt with window := addWin esn code cls forced s.flt.window } }
    let handed := cls ≥ 1 || s.flag (FLT_CFG esn) FLT_CFG_PLATE_EN || isWear esn code
    if handed && esn ≠ 0x91 && esn ≠ 0x92 then s.toPlate (s.eventRec esn code (s.plateSev esn code cls) payload detail)
    else s

/-- A raise as every source makes it: while MAIN is stopped, and in STANDBY, it waits in its latch (R320, R322). -/
def State.raiseWith (s : State) (esn code hi : Nat) (detail : List Byte) (forced : Bool) : State :=
  if s.clk.stopped || s.power == .standby then { s with flt := { s.flt with held := s.flt.held ++ [⟨esn, code, hi, detail, forced⟩] } }
  else s.raiseNow esn code hi detail forced

/-- The raises that waited are taken in the clock in which MAIN runs again, in their order (R320). -/
def State.raiseHeld (s : State) : State :=
  s.flt.held.foldl (fun s h => s.raiseNow h.esn h.code h.hi h.detail h.forced)
    { s with flt := { s.flt with held := [] } }

/-- A raise of an ESN with a code, and payload bits [23:8]. -/
def State.raise (s : State) (esn code : Nat) (hi : Nat := 0) (detail : List Byte := []) : State :=
  s.raiseWith esn code hi detail false

/-! ### Frames and operating time -/

/-- A free value for the present use, and the state whose next free value is another (log 2). -/
def State.free (s : State) : Word × State := (Config.freeWord s.freeCtr, { s with freeCtr := s.freeCtr + 1 })

/-- A quotient rounded to the nearest integer, ties away from zero. -/
def roundDiv (a : Int) (b : Nat) : Int :=
  if a ≥ 0 then (2 * a + b) / (2 * b) else -((2 * (-a) + b) / (2 * b))

/-- A quotient of two numbers rounded to the nearest integer, ties away from zero; the divisor is not 0. -/
def roundQuot (a b : Int) : Int := if b < 0 then roundDiv (-a) (-b).toNat else roundDiv a b.toNat

/-- A quotient to the nearest integer; a divisor of 0 or less leaves it open, and it is the `k`-th free value of the
present command (log 2). -/
def State.quotAt (s : State) (k : Nat) (a b : Int) : Int :=
  if b ≤ 0 then (Config.freeWord (s.freeCtr + k)).toInt else roundDiv a b.toNat
def State.quot (s : State) (a b : Int) : Int := s.quotAt 0 a b

/-- Serial-number comparison modulo 2^32: `a` is greater than `b` (R75, R348). -/
def serialGt (a b : Nat) : Bool := a != b && decide ((a + 2 ^ 32 - b) % 2 ^ 32 < 2 ^ 31)

/-! ### Jobs of the NV engine (R341) -/

/-- The 64-bit words of a list of bytes, at ascending offsets. -/
def words64 (off : Nat) : Nat → List Byte → List (Nat × BitVec 64)
  | 0, _ => []
  | n + 1, l => (off, BitVec.ofNat 64 (ofBytesLE (l.take 8))) :: words64 (off + 8) n (l.drop 8)

/-- A record of 64 bytes as a job of 8 words. -/
def recordJob (what : NvWhat) (off : Nat) (l : List Byte) : NvJob := ⟨what, words64 off 8 l, 8, 8⟩

/-- A job joins the writers of priority 1, 2 or 4. -/
def State.nvQueue1 (s : State) (j : NvJob) : State := { s with nv := { s.nv with q1 := s.nv.q1 ++ [j] } }
def State.nvQueue2 (s : State) (j : NvJob) : State := { s with nv := { s.nv with q2 := s.nv.q2 ++ [j] } }
def State.nvQueue4 (s : State) (j : NvJob) : State := { s with nv := { s.nv with q4 := s.nv.q4 ++ [j] } }

/-- The NV engine begins no word (R346). -/
def State.nvBlocked (s : State) : Bool := s.flag PLATE_STAT PLATE_STAT_BLOCKED

/-! ### Errors in MRAM (R342) -/

/-- A corrected read: raised, counted, and the word written back at priority 4. -/
def State.eccFixed (s : State) (off : Nat) : State :=
  let at_ := off / 8 * 8
  let w := BitVec.ofNat 64 (ofBytesLE (memRead s.mram.cells at_ 8))
  ((s.raise 0x1A 0 (off / 4096)).bump NV_STAT NV_STAT_CORR).nvQueue4 ⟨.fix, [(at_, w)], 1, 1⟩

/-- A bit of a stored word as a mask: bits 64 to 71 are its check bits, which no read returns. -/
def bitMask (i : Fin 72) : BitVec 64 := if i.val < 64 then 1 <<< i.val else 0

/-- Two bits of a stored word have changed, where they have not already: every read of it returns it so (R342). -/
def State.flipWord (s : State) (off : Nat) (i j : Fin 72) : State :=
  let at_ := s.physWord off
  if s.mram.bad.contains at_ then s
  else
    let w := BitVec.ofNat 64 (ofBytesLE (memRead s.mram.cells at_ 8)) ^^^ bitMask i ^^^ bitMask j
    let s := s.mramWrite at_ (bytesLE 8 w.toNat)
    { s with mram := { s.mram with bad := at_ :: s.mram.bad } }

/-- The double-bit errors that stand in MRAM when a command reads it (R342). -/
def State.eccFlip (s : State) : List EccRead → State
  | [] => s
  | e :: r =>
    State.eccFlip (match e.bits with | some (i, j) => s.flipWord e.off.toNat i j | none => s) r

/-- What a command's reads report of the errors they met: a single-bit error is corrected, a double-bit error is not
(R342). -/
def State.eccReads (s : State) : List EccRead → State
  | [] => s
  | e :: r =>
    State.eccReads (if e.bits.isSome then (s.putB NV_STAT NV_STAT_UNCORR true).raise 0x1C 0 else s.eccFixed e.off.toNat) r

/-! ### Rails (R11) -/

/-- The rails an identifier can name. -/
inductive Rail
  | loop (m : Fin 4)
  | reg (r : Fin 14)
  | ext (k : Fin 32)
  deriving DecidableEq, Repr

/-- The rail of an identifier; none for a reserved one (R11). -/
def railOf (id : Nat) : Option Rail :=
  if h : id < 4 then some (.loop ⟨id, h⟩)
  else if h : 0x10 ≤ id ∧ id < 0x1E then some (.reg ⟨id - 0x10, by omega⟩)
  else if h : 0x20 ≤ id ∧ id < 0x40 then some (.ext ⟨id - 0x20, by omega⟩)
  else none

/-- The identifier of a rail (R11). -/
def Rail.id : Rail → Nat
  | .loop m => m
  | .reg r => 0x10 + r
  | .ext k => 0x20 + k

end Sys2Proof.Machine
end

