-- ==== Sys2Proof/Machine/View.lean ====
section
/-! DEFINITION. What a register shows where that is computed from other state (FLT_STAT, the clock, the Plate's window,
the measurement registers), and the latch a tick takes (R58, R420). -/
namespace Sys2Proof.Machine
open Sys2Proof

/-! ### The collector's summary (R321, R322) -/

/-- An ESN asserts ERR_N: its bit is set, with a class that ERR_EN names. -/
def esnErr (r : Nat → Word) (n : Nat) : Bool :=
  getF (r (FLT_STICKY (n / 32))) (bitF (n % 32)) != 0 &&
  (let c := getF (r (FLT_INFO n)) FLT_INFO_CLS
   if c = 0 then getF (r FLT_CTL) FLT_CTL_ERR_C != 0 else if c = 1 then getF (r FLT_CTL) FLT_CTL_ERR_U != 0 else true)

/-- A fatal fault stands on an ESN. -/
def esnFatal (r : Nat → Word) (n : Nat) : Bool :=
  getF (r (FLT_STICKY (n / 32))) (bitF (n % 32)) != 0 && 2 ≤ getF (r (FLT_INFO n)) FLT_INFO_CLS

/-- Ones among the low `n` bits of a word. -/
def ones (w : Word) : Nat → Nat
  | 0 => 0
  | n + 1 => (if w.getLsbD n then 1 else 0) + ones w n

/-- The sticky bits at 1. -/
def setCount (r : Nat → Word) : Nat := ((List.range 8).map (fun i => ones (r (FLT_STICKY i)) 32)).foldl (· + ·) 0

/-- FLT_STAT over the registers; `force` asserts ERR_N whatever they hold. -/
def fltStat (r : Nat → Word) (force : Bool) : Word :=
  let n := setCount r
  let err := force || (n != 0 && (List.range 256).any (esnErr r))
  let fatal := n != 0 && (List.range 256).any (esnFatal r)
  setF (setF (setF 0 FLT_STAT_ERR (if err then 1 else 0)) FLT_STAT_FATAL (if fatal then 1 else 0)) FLT_STAT_NSET n

/-! ### The calendar (R368) -/

/-- A year from 2000 on is a leap year. -/
def leapYear (y : Nat) : Bool := y % 4 == 0 && y != 100

/-- Year and day of the year, from a day count and a year. -/
def yearOf : Nat → Nat → Nat → Nat × Nat
  | 0, y, d => (y, d)
  | n + 1, y, d =>
    let len := if leapYear y then 366 else 365
    if d < len then (y, d) else yearOf n (y + 1) (d - len)

/-- Month and day of the month, from 1. -/
def monthOf (leap : Bool) : List Nat → Nat → Nat → Nat × Nat
  | [], m, d => (m, d + 1)
  | l :: r, m, d =>
    let l := if leap && m == 2 then 29 else l
    if d < l then (m, d + 1) else monthOf leap r (m + 1) (d - l)

/-- RTC_DATE of a calendar in 1/256 s. -/
def rtcDate (cal : Nat) : Word :=
  let days := cal / 256 / 86400
  let y := yearOf 200 0 days
  let md := monthOf (leapYear y.1) [31, 28, 31, 30, 31, 30, 31, 31, 30, 31, 30, 31] 1 y.2
  setF (setF (setF (setF 0 RTC_DATE_DAY md.2) RTC_DATE_MONTH md.1) RTC_DATE_YEAR y.1) RTC_DATE_WEEKDAY ((days + 5) % 7)

/-- RTC_TIME of a calendar in 1/256 s. -/
def rtcTime (cal : Nat) : Word :=
  let t := cal / 256 % 86400
  setF (setF (setF (setF 0 RTC_TIME_SUB (cal % 256)) RTC_TIME_SEC (t % 60)) RTC_TIME_MIN (t / 60 % 60)) RTC_TIME_HOUR (t / 3600)

/-- RTC_SEC_LO and RTC_SEC_HI of a calendar in 1/256 s. -/
def rtcSecLo (cal : Nat) : Word := BitVec.ofNat 32 (cal / 256)
def rtcSecHi (cal : Nat) : Word := setF (setF 0 RTC_SEC_HI_SEC (cal / 256 / 2 ^ 32)) RTC_SEC_HI_SUB (cal % 256)

/-! ### What is read (R58, R420) -/

/-- A word of a measurement register: bytes 4k to 4k + 3, least significant first. -/
def mrWord (x : BitVec 256) (k : Nat) : Word := (x >>> (32 * k)).truncate 32

/-- The word a register shows among what is latched. -/
def Snap.word (x : Snap) (a : Nat) : Word :=
  let r := lookupD resetVal x.regs
  if a = FLT_STAT then fltStat r x.err
  else if a = RTC_SEC_LO then rtcSecLo x.cal
  else if a = RTC_SEC_HI then rtcSecHi x.cal
  else if a = RTC_DATE then rtcDate x.cal
  else if a = RTC_TIME then rtcTime x.cal
  else if a = RTC_OPT_LO then BitVec.ofNat 32 x.ms
  else if a = RTC_OPT_HI then BitVec.ofNat 32 (x.ms / 2 ^ 32)
  else if PLATE_WIN 0 ≤ a ∧ a < PLATE_WIN 16 then x.win.toList.getD ((a - PLATE_WIN 0) / 4) 0
  else if MR0 0 ≤ a ∧ a < MR0 8 then mrWord x.mr[0] ((a - MR0 0) / 4)
  else if MR1 0 ≤ a ∧ a < MR1 8 then mrWord x.mr[1] ((a - MR1 0) / 4)
  else if MR2 0 ≤ a ∧ a < MR2 8 then mrWord x.mr[2] ((a - MR2 0) / 4)
  else if MR3 0 ≤ a ∧ a < MR3 8 then mrWord x.mr[3] ((a - MR3 0) / 4)
  else r a

/-- Base of the Plate in MRAM and its number of slots (R69, R347). -/
def plateBase : Nat := 0x00400000
def plateSlots : Nat := 983040

/-- STG_EN0 to STG_EN3 as driven (R102). -/
def State.stgPins (s : State) : BitVec 4 :=
  BitVec.ofNat 4 ((List.range 4).foldl (fun n m => n + (if (s.loops.toList.getD m {}).stgEn then 2 ^ m else 0)) 0)

/-- What a latch takes of the state as it stands. -/
def State.snapOf (s : State) : Snap :=
  { regs := s.regs, mr := s.mr, cal := s.calendar, ms := s.opt.ms, err := !s.clk.inForce || s.clk.bothLost,
    win := Vector.ofFn (fun k : Fin 16 =>
      BitVec.ofNat 32 (memWord s.mram.cells (plateBase + 64 * s.get PLATE_CURSOR PLATE_CURSOR_SLOT + 4 * k))),
    stg := s.stgPins, gpio := s.gpio, acks := s.acks }

/-- The word a register shows as the state stands. -/
def State.live (s : State) (a : Nat) : Word := s.snapOf.word a

/-- What a register shows as latched at the last tick. -/
def State.latched (s : State) (a : Nat) : Word := s.snap.word a

/-- A field of a register as latched at the last tick. -/
def State.latchedF (s : State) (a : Nat) (f : Fld) : Nat := getF (s.latched a) f

/-- The core that runs a sequence (R303). -/
def State.coreOf (s : State) (c : Nat) : Nat := if (s.latchedF ADC_STAT ADC_STAT_TAKEN).testBit c then 2 else c

/-- The latch of a tick (R58). -/
def State.latch (s : State) : State := { s with snap := s.snapOf }

/-- Registers whose word differs between two states of the file, with the newer word. -/
def changedRegs (old new : List (Nat × Word)) : List (Nat × Word) :=
  new.filter (fun p => lookupD resetVal old p.1 != p.2) ++
    (old.filter (fun p => new.all (fun q => q.1 != p.1))).map (fun p => (p.1, resetVal p.1))

/-- Words put into a latched file. -/
def putAll (l : List (Nat × Word)) : List (Nat × Word) → List (Nat × Word)
  | [] => l
  | (a, v) :: r => putAll (writeD resetVal l a v) r

/-- What a command that is part of a tick's work changed, joined to what the tick latched; what other commands changed
since then is not. -/
def State.latchChange (old new : State) : State :=
  { new with snap := { new.snap with
      regs := putAll new.snap.regs (changedRegs old.regs new.regs)
      stg := (new.snap.stg &&& ~~~(old.stgPins ^^^ new.stgPins)) ||| (new.stgPins &&& (old.stgPins ^^^ new.stgPins)) } }

/-- A command that is part of a tick's work: what it changes is latched with that tick (R58, R60). -/
def State.atTick (s : State) (c : Bool) (f : State → State) : State := if c then s.latchChange (f s) else s

end Sys2Proof.Machine
end

