-- ==== Sys2Proof/Machine/Adc.lean ====
section
/-! DEFINITION. Housekeeping converters: sequences, urgent requests, the reference, calibration, the per-frame check and
the spare core (spec 12 R292 to R308). -/
namespace Sys2Proof.Machine
open Sys2Proof

def State.updAdc (s : State) (f : AdcSt → AdcSt) : State := { s with adc := f s.adc }
def State.updAdcSeq (s : State) (q : Fin 2) (f : AdcSeqSt → AdcSeqSt) : State :=
  s.updAdc (fun a => { a with seqs := a.seqs.set q (f a.seqs[q]) })

/-! ### Codes and result words (R295, R301) -/

/-- A code corrected by a word of ADC_CALTAB (R301). -/
def calCode (tab : Word) (raw : Nat) : Nat :=
  satN 16 (roundDiv ((4 * (raw : Int) - getFI tab ADC_CALTAB_OFS) * (getF tab ADC_CALTAB_GAIN : Nat)) 131072)

/-- The code an input publishes on a core. -/
def State.adcCode (s : State) (core input : Nat) (cal : Bool) (raw : Nat) : Nat :=
  if cal then calCode (s.rd (ADC_CALTAB core input)) raw else raw

def fldUnsettled : Fld := bitF 16
def fldRedone : Fld := bitF 17
def fldStale : Fld := bitF 18

/-- A result word (R295). -/
def resultWord (code : Nat) (unsettled redone stale : Bool) (core frame : Nat) : Word :=
  let b (c : Bool) : Nat := if c then 1 else 0
  setF (setF (setF (setF (setF (setF 0 ⟨0, 16⟩ code) fldUnsettled (b unsettled)) fldRedone (b redone)) fldStale (b stale))
    ⟨20, 4⟩ core) ⟨24, 8⟩ (frame % 256)

/-- A register reads STALE, its code and frame kept. -/
def State.adcStale (s : State) (core e : Nat) : State :=
  let w := s.rd (ADC_RES core e)
  if getF w fldStale = 1 then s else s.wr (ADC_RES core e) (setF w fldStale 1)

def State.adcReady (s : State) : Bool := s.flag ADC_STAT ADC_STAT_REF_READY
def State.coreFenced (s : State) (c : Nat) : Bool := (s.get ADC_STAT ADC_STAT_FENCED).testBit c
def State.seqLost (s : State) (q : Nat) : Bool := (s.get ADC_STAT ADC_STAT_LOST).testBit q

/-- The sequence a core ran in the frame whose tick is latched (R303). -/
def State.coreSeq (s : State) (core : Nat) : Option (Fin 2) :=
  if core = 0 then some 0
  else if core = 1 then some 1
  else match s.latchedF ADC_STAT ADC_STAT_TAKEN with
    | 1 => some 0
    | 2 => some 1
    | _ => none

/-! ### Publication (R294, R295, R298, R302, R303) -/

/-- Entries of a sequence, as the table stood at the tick of the ended frame (R294). -/
def State.seqLen (s : State) (q : Fin 2) : Nat :=
  min 64 (s.latchedF ADC_SEQLEN (if q = 0 then ADC_SEQLEN_LEN0 else ADC_SEQLEN_LEN1))

/-- One result register at a tick, for the core that ran sequence `q` in the frame just ended. -/
def State.publishEntry (s : State) (core : Nat) (q : Fin 2) (x : FrameIn) (frame e : Nat) : State :=
  let st := s.adc.seqs[q]
  let before := s.adc.ready && (match st.upTo with | some k => decide (e < k) | none => true)
  let ran := !s.coreFenced core && decide (e < s.seqLen q) &&
    ((s.adc.ready && s.adcReady) || s.latchedF ADC_CFG ADC_CFG_FORCE != 0)
  if ran && !s.adc.failed.contains core then
    let entry := s.latched (ADC_SEQ q e)
    let raw := (x.conv.getD (64 * q + e) 0).toNat
    let code := s.adcCode core (getF entry ADC_SEQ_INPUT) (getF entry ADC_SEQ_CAL_EN != 0) raw
    s.wr (ADC_RES core e) (resultWord code (!before) (st.redo.contains e) false core frame)
  else s.adcStale core e

/-- The result registers of a core at a tick. -/
def State.publishCore (s : State) (x : FrameIn) (frame core : Nat) : State :=
  match s.coreSeq core with
  | some q => (List.range 64).foldl (fun s e => s.publishEntry core q x frame e) s
  | none => (List.range 64).foldl (fun s e => s.adcStale core e) s

/-! ### The check and the spare core (R302 to R304) -/

/-- The urgent requests of a sequence that wait. -/
def State.updUrgent (s : State) (q : Fin 2) (f : List Nat → List Nat) : State :=
  s.updAdc (fun a => { a with queue := a.queue.set q (f a.queue[q]) })

/-- Pending urgent requests of a lost sequence are ignored (R297, R306). -/
def State.dropUrgent (s : State) (q : Fin 2) : State :=
  let s := s.updUrgent q (fun _ => [])
  (List.range 8).foldl (fun s j =>
    if s.flag (ADC_URG q j) ADC_URG_PEND then (s.putB (ADC_URG q j) ADC_URG_PEND false).raise 0x6F 0 else s) s

/-- A sequence is lost until the next cold start (R304). -/
def State.loseSeq (s : State) (q : Fin 2) : State :=
  ((s.put ADC_STAT ADC_STAT_LOST (s.get ADC_STAT ADC_STAT_LOST ||| 2 ^ q.val)).raise 0x6C 0 q).dropUrgent q

/-- The check of one core in slot 0 (R302). -/
def State.adcCheck (s : State) (chk : Vector (BitVec 16) 3) (c : Fin 3) : State :=
  if s.coreFenced c || !s.adcReady then s
  else
    let even := s.frmNum % 2 == 0
    let e := s.get (ADC_CHK_EXP c) (if even then ADC_CHK_EXP_SRC else ADC_CHK_EXP_ZERO)
    let raw := chk[c].toNat
    let bad := decide (s.get ADC_CFG ADC_CFG_CHK_TOL < ((raw : Int) - e).natAbs)
    let n := if bad then min 15 (s.get (ADC_CHK c) ADC_CHK_FAILS + 1) else 0
    let s := s.wr (ADC_CHK c) (setF (setF (setF 0 ADC_CHK_LAST raw) ADC_CHK_KIND (if even then 1 else 0)) ADC_CHK_FAILS n)
    if bad then (s.updAdc (fun a => { a with failed := a.failed ++ [c.val] })).raise (0x68 + c) 1 else s

/-- Fails enough to be fenced (R303). -/
def State.fenceDue (s : State) (c : Fin 3) : Bool :=
  !s.coreFenced c && s.adc.failed.contains c.val &&
    decide (max 1 (s.get ADC_CFG ADC_CFG_CHK_FAIL) ≤ s.get (ADC_CHK c) ADC_CHK_FAILS)

/-- The cores are fenced together (R303). -/
def State.fenceCores (s : State) : List (Fin 3) → State
  | [] => s
  | c :: r =>
    State.fenceCores ((s.put ADC_STAT ADC_STAT_FENCED (s.get ADC_STAT ADC_STAT_FENCED ||| 2 ^ c.val)).raise (0x68 + c) 2) r

/-- What becomes of a sequence whose core was fenced (R303, R304). -/
def State.afterFence (s : State) (c : Fin 3) : State :=
  let free := !s.coreFenced 2 && s.get ADC_STAT ADC_STAT_TAKEN == 0 && s.adc.takeDue == none
  if c.val = 2 then
    match s.get ADC_STAT ADC_STAT_TAKEN with
    | 1 => s.loseSeq 0
    | 2 => s.loseSeq 1
    | _ => s
  else
    let q : Fin 2 := ⟨c.val % 2, by omega⟩
    if free then s.updAdc (fun a => { a with takeDue := some (q.val, s.clk.frames) }) else s.loseSeq q

/-- The checks of a frame, judged together (R303). -/
def State.adcChecks (s : State) (chk : Vector (BitVec 16) 3) : State :=
  let s := (allFin 3).foldl (fun s c => s.adcCheck chk c) s
  let l := (allFin 3).filter s.fenceDue
  l.foldl State.afterFence (s.fenceCores l)

/-- A capture runs. -/
def State.calRuns (s : State) : Bool :=
  s.get ADC_CAL_STAT ADC_CAL_STAT_STATE == 1 || s.get ADC_CAL_STAT ADC_CAL_STAT_STATE == 3

/-- The cores convert (R298). -/
def State.adcRuns (s : State) : Bool := s.adcReady || s.flag ADC_CFG ADC_CFG_FORCE

/-- The converters' work at a tick: the ended frame's results, stored calibrations, the frame of a capture (R300), and the
new frame's tables. -/
def State.adcTick (s : State) (x : FrameIn) : State :=
  let s := (List.range 3).foldl (fun s c => s.publishCore x (s.clk.frames - 1) c) s
  let s := s.adc.store.foldl (fun s p => s.wr (ADC_CALTAB (p.1 / 64) (p.1 % 64)) p.2) s
  let on := s.flag ADC_CFG ADC_CFG_REF_EN
  let pend (q : Nat) : Nat := ((List.range 8).filter (fun j => s.flag (ADC_URG q j) ADC_URG_PEND)).length
  s.updAdc (fun a =>
    { a with store := [], failed := [], ready := s.adcReady, calN := if s.calRuns && s.adcRuns then a.calN + 1 else a.calN,
             refAt := if on then some (a.refAt.getD s.clk.frames) else none,
             seqs := Vector.ofFn (fun q : Fin 2 => { urgent := pend q }) })

/-- ADC2_TAKEOVER (R303, R304): from the frame after the fence ADC2 runs the sequence; where ADC2's own check of that frame
has fenced it, the sequence is then lost. -/
def execAdc2Takeover (q : Fin 2) (s : State) : Host.Outcome State Fault Refusal :=
  done <| s.atTick (s.engines && (match s.adc.takeDue with
      | some p => p.1 == q.val && decide (p.2 < s.clk.frames)
      | none => false)) fun s =>
    let s := ((s.updAdc (fun a => { a with takeDue := none })).put ADC_STAT ADC_STAT_TAKEN (q + 1)).raise 0x6B 0 q
    if s.coreFenced 2 then s.loseSeq q else s

/-! ### Urgent requests (R296, R297) -/

/-- Some core runs the sequence or is about to (R297, R306). -/
def State.seqServed (s : State) (q : Fin 2) : Bool :=
  !s.seqLost q && (!s.coreFenced (s.coreOf q) || (match s.adc.takeDue with | some p => p.1 == q.val | none => false))

/-- A write of an urgent request register with GO at 1: the request is made, or ignored with ESN 0x6F. -/
def State.urgentWrite (s : State) (q : Fin 2) (j : Fin 8) (input : Nat) (cal : Bool) (slot : UrgSlot) : State :=
  if s.flag (ADC_URG q j) ADC_URG_PEND || !s.seqServed q then s.raise 0x6F 0
  else
    let s := s.wr (ADC_URG q j) (setF (setF (setF 0 ADC_URG_INPUT input) ADC_URG_CAL_EN (if cal then 1 else 0)) ADC_URG_PEND 1)
    let s := s.updUrgent q (fun l => l ++ [j.val])
    if !s.adcRuns then s
    else if 8 ≤ s.adc.seqs[q].urgent then
      (s.putB ADC_STAT ADC_STAT_URG_DEFER true).updAdcSeq q (fun a => { a with later := a.later ++ [j.val] })
    else
      s.updAdcSeq q (fun a =>
        { a with urgent := a.urgent + 1, redo := match slot with | .entry e => a.redo ++ [e.val] | .none => a.redo })

/-- URGENT_REQUEST (R296, R297). -/
def execUrgentRequest (q : Fin 2) (j : Fin 8) (input : BitVec 6) (cal : Bool) (slot : UrgSlot) (s : State) :
    Host.Outcome State Fault Refusal :=
  done <| s.when s.inRun fun s => s.urgentWrite q j input.toNat cal slot

/-- URGENT_RESULT (R296, R297, R302): the urgent conversion of the request that waits longest ends with a raw code. -/
def execUrgentResult (q : Fin 2) (j : Fin 8) (raw : BitVec 16) (s : State) : Host.Outcome State Fault Refusal :=
  let core := s.coreOf q
  done <| s.when (s.engines && s.flag (ADC_URG q j) ADC_URG_PEND && s.adcRuns && !s.coreFenced core && !s.seqLost q &&
      s.adc.queue[q].head? == some j.val && !s.adc.seqs[q].later.contains j.val) fun s =>
    let r := s.rd (ADC_URG q j)
    let code := s.adcCode core (getF r ADC_URG_INPUT) (getF r ADC_URG_CAL_EN != 0) raw.toNat
    let s := s.wr (ADC_URG_RES q j) (resultWord code (!s.adcReady) false (s.adc.failed.contains core) core s.frmNum)
    ((s.updUrgent q (fun l => l.drop 1)).putB (ADC_URG q j) ADC_URG_PEND false).putB ADC_URG_DONE (bitF (8 * q + j)) true

/-! ### The reference (R298, R299) -/

/-- REF_READY_SET (R298, R299, R302): the buffer has been on for 100 frames and lies in its window; slot 0 of the frame that
begins converts each core's check, with the codes `chk`. -/
def execRefReadySet (chk : Vector (BitVec 16) 3) (s : State) : Host.Outcome State Fault Refusal :=
  done <| s.atTick (s.engines && s.flag ADC_CFG ADC_CFG_REF_EN && !s.adcReady &&
      (match s.adc.refAt with | some f => decide (f + 100 ≤ s.clk.frames) | none => false)) fun s =>
    (((s.putB ADC_STAT ADC_STAT_REF_READY true).updAdc (fun a => { a with ready := true })).raise 0x6D 1).adcChecks chk

/-- REF_READY clears; without FORCE every result register reads STALE from then on (R298). -/
def State.refDown (s : State) : State :=
  let s := if s.latchedF ADC_CFG ADC_CFG_FORCE != 0 then s
    else (List.range 3).foldl (fun s c => (List.range 64).foldl (fun s e => s.adcStale c e) s) s
  s.putB ADC_STAT ADC_STAT_REF_READY false

/-- REF_READY clears within a frame, when so many entries of each sequence have been converted. -/
def State.refLost (s : State) (n0 n1 : Nat) : State :=
  s.refDown.updAdc (fun a =>
    { a with seqs := Vector.ofFn (fun q : Fin 2 =>
        { a.seqs[q] with upTo := some (a.seqs[q].upTo.getD (if q = 0 then n0 else n1)) }) })

/-- A calibration that runs ends, with a result; a held zero is discarded (R300, R306). -/
def State.calEnd (s : State) (result : Nat) : State :=
  ((s.put ADC_CAL_STAT ADC_CAL_STAT_STATE 0).put ADC_CAL_STAT ADC_CAL_STAT_RESULT result).updAdc (fun a =>
    { a with zero := none })

/-- REFERENCE_FAULT (R299, R306): the monitor finds the buffer outside its window. -/
def execReferenceFault (n0 n1 : Fin 65) (s : State) : Host.Outcome State Fault Refusal :=
  done <| s.when (s.engines && s.adcReady) fun s =>
    let s := ((s.refLost n0 n1).putB ADC_STAT ADC_STAT_REF_FLT true).raise 0x6D 2
    if s.calRuns then (s.calEnd 2).raise 0x6E 3 else s

/-! ### System calibration (R300) -/

/-- A calibration command that is ignored. -/
def State.calIgnored (s : State) : State := s.raise 0x6F 0

/-- The low-level capture starts; a zero held before is given up. -/
def State.calZero (s : State) (input target : Nat) : State :=
  if s.calRuns then s.calIgnored
  else
    ((s.put ADC_CAL_STAT ADC_CAL_STAT_STATE 1).put ADC_CAL_STAT ADC_CAL_STAT_INPUT input).updAdc (fun a =>
      { a with zero := none, target := target, calN := 0 })

/-- The high-level capture starts while a zero of the same input is held. -/
def State.calFull (s : State) (input target : Nat) : State :=
  if s.get ADC_CAL_STAT ADC_CAL_STAT_STATE == 2 && s.get ADC_CAL_STAT ADC_CAL_STAT_INPUT == input then
    (s.put ADC_CAL_STAT ADC_CAL_STAT_STATE 3).updAdc (fun a => { a with target := target, calN := 0 })
  else s.calIgnored

/-- ABORT ends a capture or gives up a held zero. -/
def State.calAbort (s : State) : State := if s.get ADC_CAL_STAT ADC_CAL_STAT_STATE = 0 then s else s.calEnd 3

/-- CAL_ZERO (R300). -/
def execCalZero (input : BitVec 6) (target : BitVec 16) (s : State) : Host.Outcome State Fault Refusal :=
  done <| s.when s.inRun fun s => s.calZero input.toNat target.toNat

/-- CAL_FULL (R300). -/
def execCalFull (input : BitVec 6) (target : BitVec 16) (s : State) : Host.Outcome State Fault Refusal :=
  done <| s.when s.inRun fun s => s.calFull input.toNat target.toNat

/-- CAL_ABORT (R300). -/
def execCalAbort (s : State) : Host.Outcome State Fault Refusal := done <| s.when s.inRun fun s => s.calAbort

/-- GAIN and OFS of a core from the sums of 256 codes at both levels and their targets; none where it refuses (R300). -/
def calPair (sz sf : Nat) (tz tf : Int) : Option (Nat × Int) :=
  let d : Int := (sf : Int) - sz
  let t := tf - tz
  if d = 0 || t = 0 then none
  else
    let gain := roundQuot (t * 256 * 32768) d
    let ofs := roundQuot ((sz : Int) * t - tz * d) (64 * t)
    if 31130 ≤ gain && gain ≤ 34406 && ofs.natAbs ≤ 4096 then some (gain.toNat, ofs) else none

/-- The table words of the unfenced cores, by 64 × core + input; none where a core refuses. -/
def State.calTables (s : State) (input : Nat) (z f : List Nat) (tz tf : Int) : List Nat → Option (List (Nat × Word))
  | [] => some []
  | c :: r =>
    if s.coreFenced c then s.calTables input z f tz tf r
    else
      match calPair (z.getD c 0) (f.getD c 0) tz tf, s.calTables input z f tz tf r with
      | some p, some l =>
        some ((64 * c + input, setF (setF 0 ADC_CALTAB_OFS (satI 16 p.2)) ADC_CALTAB_GAIN p.1) :: l)
      | _, _ => none

/-- The calibration record of an input, at the place of its two that its newest record does not have, with its valid mark
last (R300, R301). -/
def State.calibJob (s : State) (input : Nat) (tab : List (Nat × Word)) : NvJob :=
  recordJob (.calib tab) (calibBase + 64 * (2 * input + if s.mram.calibAlt.contains input then 0 else 1))
    ((List.range 63).map (Config.calibRecord tab) ++ [(0xA5 : Byte)])

/-- CALIBRATION_CAPTURE_DONE (R300): the sums of each core's 256 conversions, 8 in each of 32 frames. -/
def execCalibrationCaptureDone (sums : Vector (BitVec 24) 3) (s : State) : Host.Outcome State Fault Refusal :=
  done <| s.when (s.engines && s.calRuns && decide (32 ≤ s.adc.calN)) fun s =>
    let l := sums.toList.map (·.toNat)
    if s.get ADC_CAL_STAT ADC_CAL_STAT_STATE = 1 then
      ((s.put ADC_CAL_STAT ADC_CAL_STAT_STATE 2).updAdc (fun a => { a with zero := some (a.target, l) })).raise 0x6E 1
    else
      let input := s.get ADC_CAL_STAT ADC_CAL_STAT_INPUT
      let z := s.adc.zero.getD (0, [])
      match s.calTables input z.2 l z.1 s.adc.target [0, 1, 2] with
      | some tab =>
        (((s.calEnd 1).updAdc (fun a => { a with store := tab })).nvQueue4 (s.calibJob input tab)).raise 0x6E 2
      | none => (s.calEnd 2).raise 0x6E 3

/-! ### STANDBY and writes (R294, R299, R306) -/

/-- Entry to STANDBY: buffer and cores stop, a calibration is aborted and pending requests go (R306). -/
def State.adcStandby (s : State) : State :=
  let s := if s.get ADC_CAL_STAT ADC_CAL_STAT_STATE = 0 then s else s.calEnd 3
  let s := (allFin 2).foldl (fun s q => (List.range 8).foldl (fun s j => s.putB (ADC_URG q j) ADC_URG_PEND false) s) s
  s.refDown.updAdc (fun a =>
    { a with refAt := none, ready := false, queue := Vector.replicate 2 [] })

/-- A reserved input (R293). -/
def adcReserved (i : Nat) : Bool := decide (50 ≤ i ∧ i < 60) || decide (62 ≤ i)

/-- The address lies in ADC_SEQ. -/
def isAdcSeq (a : Nat) : Bool := decide (ADC_SEQ 0 0 ≤ a ∧ a < ADC_SEQ 2 0)

/-- A converter register takes a word, or the write is ignored with ESN 0x6F (R294); clearing REF_EN clears REF_READY
(R299), the entries converted before it being open (log 2). -/
def State.adcWrite (s : State) (a : Nat) (w : Word) : State :=
  if a = ADC_SEQLEN && (64 < getF w ADC_SEQLEN_LEN0 || 64 < getF w ADC_SEQLEN_LEN1) then s.raise 0x6F 0
  else if isAdcSeq a && adcReserved (getF w ADC_SEQ_INPUT) then s.raise 0x6F 0
  else if a = ADC_CFG then
    let s := s.wr a w
    if s.adcReady && getF w ADC_CFG_REF_EN = 0 then
      let f0 := s.free
      let f1 := f0.2.free
      (f1.2.refLost (f0.1.toNat % 65) (f1.1.toNat % 65)).updAdc (fun a => { a with refAt := none })
    else s
  else if a = ADC_CAL then
    match getF w ADC_CAL_CMD with
    | 1 => s.calZero (getF w ADC_CAL_INPUT) (getF w ADC_CAL_TARGET)
    | 2 => s.calFull (getF w ADC_CAL_INPUT) (getF w ADC_CAL_TARGET)
    | 3 => s.calAbort
    | _ => s
  else s.wr a w

end Sys2Proof.Machine
end

