-- ==== Sys2Proof/Machine/Access.lean ====
section
/-! DEFINITION. What a write does to a register's word by the access codes of its fields, and the ranges that one register's
word must keep (spec 00 R5 to R8; spec 04 R74; spec 18 R452). -/
namespace Sys2Proof.Machine
open Sys2Proof

/-- The bits of a register whose fields have a given access code. -/
def RegDef.bits (d : RegDef) (x : Access) : Word :=
  d.fields.foldl (fun m f => if f.acc == x then m ||| maskF f.fld else m) 0

/-- The bits that a write of the whole word stores: RW, and RWL until they are written (R5, R7). -/
def State.storeBits (s : State) (a : Nat) (d : RegDef) : Word :=
  d.bits .rw ||| (if s.locked.contains a then 0 else d.bits .rwl)

/-- The word a register holds after a write, by its access codes (R5): RW and open RWL fields take the value, W1C fields
clear and W1S fields set where the value has ones, and everything else stands. -/
def State.written (s : State) (a : Nat) (d : RegDef) (v : Word) : Word :=
  let st := s.storeBits a d
  ((((s.rd a) &&& ~~~st) ||| (v &&& st)) &&& ~~~(v &&& d.bits .w1c)) ||| (v &&& d.bits .w1s)

/-- A register with an RWL field is locked by its first write (R7). -/
def State.lock (s : State) (a : Nat) (d : RegDef) : State :=
  if d.bits .rwl == 0 || s.locked.contains a then s else { s with locked := a :: s.locked }

/-- An index that a register's array bounds. -/
def finOf (n k : Nat) (h : 0 < n := by decide) : Fin n := ⟨k % n, Nat.mod_lt k h⟩

/-- A DIV that is out of the range of its kind: 50 to 250 for HB, 33 to 100 for LB (R159). -/
def divBad (r : Nat) (w : Nat) : Bool :=
  if r < 2 then decide (w < 50 ∨ 250 < w) else if r < 6 then decide (w < 33 ∨ 100 < w) else false

end Sys2Proof.Machine
end

