-- ==== Sys2Proof/Machine/Phase.lean ====
section
/-! DEFINITION. Phase engine: interleave, output of each phase, start and stop of a loop, the compensator, period and
synchronisation, and the commands of spec 05. -/
namespace Sys2Proof.Machine
open Sys2Proof

/-! ### Phases of a loop -/

/-- Values of PH_STAT.STATE (R128). -/
def phUnused : Nat := 0
def phOff : Nat := 1
def phActive : Nat := 2
def phShedding : Nat := 3
def phShed : Nat := 4
def phSpare : Nat := 5
def phFenced : Nat := 6

def State.phState (s : State) (n : Fin 16) : Nat := s.get (PH_STAT n) PH_STAT_STATE
def State.phRole (s : State) (n : Fin 16) : Nat := s.get (PH_CFG n) PH_CFG_ROLE
def State.phLoop (s : State) (n : Fin 16) : Nat := s.get (PH_CFG n) PH_CFG_LOOP
def State.setPh (s : State) (n : Fin 16) (st : Nat) : State := s.put (PH_STAT n) PH_STAT_STATE st

/-- The phases wired to a loop: role active or spare (R96). -/
def State.phasesOf (s : State) (m : Fin 4) : List (Fin 16) :=
  (allFin 16).filter (fun n => s.phRole n != 0 && s.phLoop n == m.val)

/-- The slot a phase keeps while it is in the interleave or fenced until its substitution tick (R98, R148). -/
def State.inInterleave (s : State) (n : Fin 16) : Bool :=
  s.phState n == phActive || s.phState n == phShedding ||
  s.phases[n].claim == some phActive || s.phases[n].claim == some phShedding

/-- Insert a phase by its position in the loop's order. -/
def insertPos (s : State) (n : Fin 16) : List (Fin 16) → List (Fin 16)
  | [] => [n]
  | k :: r => if s.phases[n].pos < s.phases[k].pos then n :: k :: r else k :: insertPos s n r

/-- The interleave of a loop in slot order (R98). -/
def State.interleave (s : State) (m : Fin 4) : List (Fin 16) :=
  ((s.phasesOf m).filter s.inInterleave).foldl (fun l n => insertPos s n l) []

/-- The offset of slot k among N, in steps (R98): PER k / N, rounded to the nearest. -/
def slotOffset (per n k : Nat) : Nat := if n = 0 then 0 else (2 * k * per + n) / (2 * n)

/-- The first period, in steps, of a phase whose offset moves (R99): with the new position less than PER / 2 after the last
rising edge the phase waits one further period. -/
def respaced (per old new : Nat) : Nat :=
  let d := (new + per - old) % per
  if 2 * d < per then per + d else d

/-- Number the slots from `k` on among `n1`, where there were `n0`; a phase whose offset moves is re-spaced (R99). -/
def numberSlots (per n0 n1 : Nat) : List (Fin 16) → Nat → State → State
  | [], _, s => s
  | n :: r, k, s =>
    let old := slotOffset per n0 (s.get (PH_STAT n) PH_STAT_SLOT)
    let new := slotOffset per n1 k
    numberSlots per n0 n1 r (k + 1) ((s.put (PH_STAT n) PH_STAT_SLOT k).updPhase n (fun p =>
      { p with spaced := true, gap := if p.spaced && old != new then respaced per old new else p.gap }))

/-- Each phase of some that is out of the interleave keeps no place in it. -/
def State.unspace (s : State) : List (Fin 16) → State
  | [] => s
  | n :: r =>
    State.unspace (if s.inInterleave n then s else s.updPhase n (fun p => { p with spaced := false, gap := 0 })) r

/-- Unfenced spares of a loop not substituted, in ascending phase number. -/
def State.sparesOf (s : State) (m : Fin 4) : List (Fin 16) := (s.phasesOf m).filter (fun n => s.phState n == phSpare)

/-- The loop's slots, NACT and SPARES follow the states of its phases (R98, R99). -/
def State.reslot (s : State) (m : Fin 4) : State :=
  let l := s.interleave m
  let n0 := s.get (LOOP_STAT m) LOOP_STAT_NACT
  ((numberSlots s.loops[m].per n0 l.length l 0 (s.unspace (s.phasesOf m))).put (LOOP_STAT m) LOOP_STAT_NACT l.length).put (LOOP_STAT m) LOOP_STAT_SPARES
    (s.sparesOf m).length

/-- The frame holds a fire, a brake, a change of N or a substitution (R130, R141). -/
def State.disturb (s : State) (m : Fin 4) : State := s.updLoop m (fun l => { l with disturbed := true })

/-! ### Period generators (R115, R118, R120, R124) -/

/-- Parts of 256 of a period, to the nearest step (R120, R124). -/
def partOf (ofs per : Nat) : Nat := (2 * ofs * per + 256) / 512

/-- Steps from the common period origin to slot 0 of a loop on internal timing (R120). -/
def State.slot0 (s : State) (m : Fin 4) : Nat := partOf (s.get (LOOP_FSW m) LOOP_FSW_SYNC_OFS) s.loops[m].per

/-- Steps that a loop's period generator has counted from its slot 0, `t` steps after the last tick: loops of equal period
share one origin (R120), and the count stands while MAIN is stopped (R118). A loop that follows SYNC_IN lies `phErr` steps
off its place (R121). -/
def State.genCount (s : State) (m : Fin 4) (t : Nat) : Nat :=
  let per := s.loops[m].per
  ((((s.pe.steps + t : Nat) : Int) - s.slot0 m - s.loops[m].phErr) % (per : Int)).toNat

/-- A phase's offset in its loop's period (R98). -/
def State.offsetOf (s : State) (n : Fin 16) (m : Fin 4) : Nat :=
  slotOffset s.loops[m].per (s.get (LOOP_STAT m) LOOP_STAT_NACT) (s.get (PH_STAT n) PH_STAT_SLOT)

/-- The length of a phase's present period, in steps (R99). -/
def State.periodOf (s : State) (n : Fin 16) (m : Fin 4) : Nat :=
  if s.phases[n].gap = 0 then s.loops[m].per else s.phases[n].gap

/-! ### Output state of each phase (R100) -/

/-- What a PWM pin is driven to. -/
inductive Pwm
  | hiZ | low | high | modulated
  deriving DecidableEq, Repr

/-- The one-shot of a fire drives the phase, high or cut short by its current limit (R135). -/
def PhaseSt.fired (p : PhaseSt) : Bool := p.firing || p.cut

/-- The pin of a phase in the loop it is wired to, by R100: the first row that applies governs. A fire runs to its bound
while MAIN is stopped (R54, R151). A phase that was shed when a soft stop began is off, and modulates with the others until
the stop ends: R100 has no row that holds it (DESIGN CHOICE, log 15). -/
def State.pwmIn (s : State) (n : Fin 16) (m : Fin 4) : Pwm :=
  let p := s.phases[n]
  let l := s.loops[m]
  let st := s.phState n
  if s.power != .run || s.clk.bothLost || (s.clk.stopped && !p.fired) then .hiZ
  else if s.phRole n == 0 || st == phFenced || st == phSpare then .hiZ
  else if l.ovHold then .low
  else if l.run == .off || l.run == .stageDelay then .hiZ
  else if p.firing then .high
  else if p.cut then .low
  else if !l.started then .hiZ
  else if s.flag (LOOP_STAT m) LOOP_STAT_BRAKE then .hiZ
  else if st == phShed then .hiZ
  else if st == phShedding && p.shedJ ≥ max 1 (s.get (LOOP_SHED m) LOOP_SHED_RAMP) then .hiZ
  else if p.ocHold == 1 || p.postFire then .low
  else .modulated

/-- What PWMn is driven to (R100). -/
def State.pwmOf (s : State) (n : Fin 16) : Pwm := s.pwmIn n ⟨s.phLoop n % 4, by omega⟩

/-! ### Stopping -/

/-- A loop is enabled: an enable has taken effect and it has not stopped since (R60, R97). -/
def State.loopOn (s : State) (m : Fin 4) : Bool := s.loops[m].run != .off

/-- PG is cleared other than by disable: code 0x07 follows where it was set (R109, R144). -/
def State.losePG (s : State) (m : Fin 4) : State :=
  if s.flag (LOOP_STAT m) LOOP_STAT_PG then
    (s.putB (LOOP_STAT m) LOOP_STAT_PG false).raise (0x30 + m) 0x07
  else s

/-- Each phase of some that is active, shedding or shed becomes off (R128). -/
def State.phasesOff (s : State) : List (Fin 16) → State
  | [] => s
  | n :: r =>
    let st := s.phState n
    let s := if st == phActive || st == phShedding || st == phShed then s.setPh n phOff else s
    State.phasesOff (s.updPhase n (fun p => { p with firing := false, cut := false, postFire := false, shedJ := 0, ocHold := 0 })) r

/-- The loop's outputs are at high impedance and it regulates no more (R109): ON, RAMP, APF and BRAKE read 0, its
phases are off, and STG_EN falls 1 µs later (R102). -/
def State.loopHalt (s : State) (m : Fin 4) : State :=
  let s := s.updLoop m (fun l =>
    { l with run := .off, started := false, ovArmed := false, pgOnce := false, rearmWait := false, join := false,
             stgEnFall := l.stgEn, pgRun := 0, shedRun := 0, vref := 0, v0 := 0, delay := 0, braked := false, ocSums := 0,
             pendEn := none })
  let s := s.wr (LOOP_STAT m) (setF (setF (setF (setF (s.rd (LOOP_STAT m)) LOOP_STAT_ON 0) LOOP_STAT_RAMP 0)
    LOOP_STAT_APF 0) LOOP_STAT_BRAKE 0)
  ((s.phasesOff (s.phasesOf m)).putB (LOOP_CTL m) LOOP_CTL_EN false).reslot m

/-- A stop as by loop overcurrent (R143): high impedance, EN reads 0, PG cleared. -/
def State.loopStop (s : State) (m : Fin 4) : State := (s.losePG m).loopHalt m

/-- A monitor fence of a loop (R316): off at the tick whatever SOFT_STOP holds, as a disable. -/
def State.loopFenceOff (s : State) (m : Fin 4) : State :=
  (s.putB (LOOP_STAT m) LOOP_STAT_PG false).loopHalt m

/-! ### Fencing (R147) -/

/-- No unfenced phase of the loop is active, shedding or shed, and it has no spare (R147). -/
def State.loopBare (s : State) (m : Fin 4) : Bool :=
  (s.phasesOf m).all (fun n => s.phState n != phActive && s.phState n != phShedding && s.phState n != phShed &&
    s.phState n != phSpare)

/-- No phase of the loop waits any longer for a substitution. -/
def State.dropClaims (s : State) : List (Fin 16) → State
  | [] => s
  | n :: r => State.dropClaims (s.updPhase n (fun p => { p with claim := none })) r

/-- Fence a phase (R128, R147, R324): it never fires again until the next cold start; its slot awaits the substitution
tick; a loop it leaves bare is stopped as by loop overcurrent. A frame in which a shedding phase is fenced held a shedding
ramp (R141). -/
def State.fencePhase (s : State) (n : Fin 16) : State :=
  let st := s.phState n
  if st == phUnused || st == phFenced then s
  else
    let m : Fin 4 := ⟨s.phLoop n % 4, by omega⟩
    let s := (s.setPh n phFenced).updPhase n (fun p =>
      { p with claim := if st == phSpare then none else some st, askAt := s.clk.frames, firing := false, cut := false,
               postFire := false, shedJ := 0, ocRun := 0, fullRun := 0, ocHold := 0, imbRun := 0, imbSaid := false,
               imbHeld := false })
    let s := (s.putB (PH_STAT n) PH_STAT_SUBST false).raise (0x20 + n) 0x04
    let s := s.put (LOOP_STAT m) LOOP_STAT_SPARES (s.sparesOf m).length
    let s := s.updLoop m (fun l => { l with shedRun := 0, disturbed := l.disturbed || st == phShedding })
    let s :=
      if s.loops[m].run != .off && s.loopBare m then
        (((s.raise (0x30 + m) 0x06).loopStop m).dropClaims (s.phasesOf m)).reslot m
      else s
    if (s.phasesOf m).all (fun k => s.phState k == phFenced) then
      s.updLoop m (fun l => { l with stgEn := false, stgEnFall := false })
    else s

/-! ### Enable and disable (R108 to R110) -/

/-- The address of a word of a coefficient bank: B0, B1, B2, B3, A1, A2, A3. -/
def coefAt (m : Fin 4) (bank j : Nat) : Nat := LOOP_COEF m bank j

/-- Why an enable is refused at its tick (R110). An active phase is one of ROLE active: a substituted spare is none
(DESIGN CHOICE, log 15). -/
def State.enableRefused (s : State) (m : Fin 4) : Bool :=
  let b := s.get (LOOP_BANK m) LOOP_BANK_ACTIVE
  let per := s.get (LOOP_FSW m) LOOP_FSW_PER
  (s.phasesOf m).all (fun n => s.phRole n != 1 || s.phState n == phFenced) ||
  s.get (coefAt m b 0) LOOP_COEF_COEF == 0 || 20 < s.get (LOOP_DSH m b) LOOP_DSH_DSH || per < 6400 || 64000 < per

/-- Each phase of some that is off joins the interleave (R128). -/
def State.joinPhases (s : State) : List (Fin 16) → State
  | [] => s
  | n :: r =>
    State.joinPhases (if s.phState n == phOff && (s.phRole n == 1 || s.flag (PH_STAT n) PH_STAT_SUBST) then
      s.setPh n phActive else s) r

/-- LOOP_ENABLE (R108, R110): the enable is judged at its tick; it is refused, or the start begins. -/
def execLoopEnable (m : Fin 4) (s : State) : Host.Outcome State Fault Refusal :=
  done <| s.atTick (s.engines && s.loops[m].pendEn == some true && decide (s.loops[m].askAt < s.clk.frames)) fun s =>
    let s := s.updLoop m (fun l => { l with pendEn := none })
    if s.loops[m].run == .on || s.loops[m].run == .stageDelay then s
    else if s.enableRefused m then
      ((s.putB (LOOP_CTL m) LOOP_CTL_EN false).raise 0x37 0x02 m)
    else
      let s := s.updLoop m (fun l =>
        { l with run := .stageDelay, vref := 0, v0 := 0, delay := s.get (LOOP_CTL m) LOOP_CTL_TSTG, late := 0, ton := 0,
                 braked := false, ocSums := 0, target := 800 + s.get (LOOP_VSET m) LOOP_VSET_CODE, started := false,
                 e1 := 0, e2 := 0, e3 := 0, y1 := 0, y2 := 0, y3 := 0, ovArmed := false, pgOnce := false, pgRun := 0,
                 shedRun := 0, rearmWait := false, join := false, stgEn := true, stgEnFall := false,
                 disturbed := true })
      let s := (s.putB (LOOP_STAT m) LOOP_STAT_ON true).putB (LOOP_STAT m) LOOP_STAT_RAMP true
      (s.joinPhases (s.phasesOf m)).reslot m

/-- STAGE_ENABLE_DELAY_END (R102, R108): TSTG after the tick of the enable, which is a tick or the middle of a frame, the
reference ramp begins. -/
def execStageEnableDelayEnd (m : Fin 4) (s : State) : Host.Outcome State Fault Refusal :=
  done <| s.when (s.engines && s.loops[m].run == .stageDelay && decide (s.loops[m].delay ≤ 1)) fun s =>
    s.updLoop m (fun l => { l with run := .on, late := l.delay, delay := 0 })

/-- Codes by which the reference can move in what the present frame leaves a ramp (R106). -/
def State.rampStep (s : State) (m : Fin 4) : Nat :=
  (20 - 10 * s.loops[m].late) * max 1 (s.get (LOOP_VSET m) LOOP_VSET_SLEW)

/-- The reference reaches its target within the present frame, before the tick that ends it (R106, R108). -/
def State.rampNear (s : State) (m : Fin 4) : Bool :=
  let l := s.loops[m]
  let step := s.rampStep m
  decide (l.target < l.vref + step ∧ l.vref < l.target + step)

/-- REFERENCE_RAMP_END (R106, R108): the reference stands at the setpoint, RAMP clears, and the overvoltage comparator
is armed. -/
def execReferenceRampEnd (m : Fin 4) (s : State) : Host.Outcome State Fault Refusal :=
  done <| s.when (s.engines && s.loops[m].run == .on && s.flag (LOOP_STAT m) LOOP_STAT_RAMP && s.rampNear m) fun s =>
    (s.updLoop m (fun l => { l with vref := l.target, ovArmed := true })).putB (LOOP_STAT m) LOOP_STAT_RAMP false

/-- LOOP_PG_SET (R108): PG_FILT qualifying ticks set PG. -/
def execLoopPgSet (m : Fin 4) (s : State) : Host.Outcome State Fault Refusal :=
  done <| s.atTick (s.engines && s.loops[m].run == .on && !s.flag (LOOP_STAT m) LOOP_STAT_PG &&
      decide (max 1 (s.get (LOOP_CTL m) LOOP_CTL_PG_FILT) ≤ s.loops[m].pgRun)) fun s =>
    ((s.updLoop m (fun l => { l with pgOnce := true })).putB (LOOP_STAT m) LOOP_STAT_PG true).raise (0x30 + m) 0x08

/-- LOOP_DISABLE (R109): EN reads 0 from this tick; with SOFT_STOP the reference ramps to 0 V, otherwise the outputs are at high impedance at
once. -/
def execLoopDisable (m : Fin 4) (s : State) : Host.Outcome State Fault Refusal :=
  done <| s.atTick (s.engines && s.loops[m].pendEn == some false && decide (s.loops[m].askAt < s.clk.frames)) fun s =>
    let s := s.updLoop m (fun l => { l with pendEn := none })
    if s.loops[m].run == .off then s.putB (LOOP_CTL m) LOOP_CTL_EN false
    else
      let s := (s.putB (LOOP_STAT m) LOOP_STAT_PG false).putB (LOOP_CTL m) LOOP_CTL_EN false
      if s.flag (LOOP_CTL m) LOOP_CTL_SOFT_STOP then
        let s := s.updLoop m (fun l =>
          { l with run := .softStop, target := 0, ovArmed := false, pgOnce := false, pgRun := 0, join := false })
        let s := s.wr (LOOP_STAT m) (setF (setF (setF (setF (s.rd (LOOP_STAT m)) LOOP_STAT_ON 1) LOOP_STAT_RAMP 1)
          LOOP_STAT_APF 0) LOOP_STAT_BRAKE 0)
        (s.phasesOff (s.phasesOf m)).reslot m
      else s.loopHalt m

/-- SOFT_STOP_END (R109): the reference reaches 0 V and the outputs go to high impedance. -/
def execSoftStopEnd (m : Fin 4) (s : State) : Host.Outcome State Fault Refusal :=
  done <| s.when (s.engines && s.loops[m].run == .softStop && s.rampNear m) fun s => s.loopHalt m

/-- STG_EN_DEASSERT (R102). -/
def execStgEnDeassert (m : Fin 4) (s : State) : Host.Outcome State Fault Refusal :=
  done <| s.when (s.inRun && s.loops[m].stgEnFall) fun s =>
    s.updLoop m (fun l => { l with stgEn := false, stgEnFall := false })

/-- LOOP_SETPOINT_CHANGE (R106): the reference ramps from where it stands to the new CODE. -/
def execLoopSetpointChange (m : Fin 4) (s : State) : Host.Outcome State Fault Refusal :=
  done <| s.atTick (s.engines && s.loops[m].pendCode && decide (s.loops[m].askAt < s.clk.frames)) fun s =>
    let t := 800 + s.get (LOOP_VSET m) LOOP_VSET_CODE
    let s := s.updLoop m (fun l => { l with pendCode := false })
    if s.loops[m].run == .on || s.loops[m].run == .stageDelay then
      let s := s.updLoop m (fun l => { l with target := t })
      s.putB (LOOP_STAT m) LOOP_STAT_RAMP (s.loops[m].vref != t)
    else s

/-! ### The compensator (R107, R111, R112, R115) -/

/-- The error of an update in quarter codes (R107). -/
def errorOf (c1 c2 c3 c4 : BitVec 9) : Int := -(c1.toInt + c2.toInt + c3.toInt + c4.toInt)

/-- A coefficient of the active bank, in 1/65,536 (R111). -/
def State.coef (s : State) (m : Fin 4) (j : Nat) : Int :=
  s.getI (coefAt m (s.get (LOOP_BANK m) LOOP_BANK_ACTIVE) j) LOOP_COEF_COEF

/-- DSH of the active bank. -/
def State.dsh (s : State) (m : Fin 4) : Nat := s.get (LOOP_DSH m (s.get (LOOP_BANK m) LOOP_BANK_ACTIVE)) LOOP_DSH_DSH

/-- The clamp of an output in units of 2^-16 (R112). -/
def State.clampY (s : State) (m : Fin 4) (y : Int) : Int :=
  let hi : Int := (s.get (LOOP_PWM m) LOOP_PWM_DMAX * 2 ^ s.dsh m * 256 : Nat)
  if y < 0 then 0 else if y > hi then hi else y

/-- The sum of R111 for a new error over a history, rounded to a multiple of 2^-16 and clamped. -/
def State.compY (s : State) (m : Fin 4) (l : LoopSt) (e : Int) : Int :=
  s.clampY m (roundDiv
    (16384 * (s.coef m 0 * e + s.coef m 1 * l.e1 + s.coef m 2 * l.e2 + s.coef m 3 * l.e3)
      - (s.coef m 4 * l.y1 + s.coef m 5 * l.y2 + s.coef m 6 * l.y3)) 65536)

/-- The on-time of an output, in steps (R115). -/
def State.onTime (s : State) (m : Fin 4) (y : Int) : Nat :=
  let per := s.loops[m].per
  let den := 65536 * 2 ^ s.dsh m
  let t := (2 * y.toNat * per + den) / (2 * den)
  let lo := s.get (LOOP_PWM m) LOOP_PWM_TON_MIN * 128
  let hi := per - s.get (LOOP_PWM m) LOOP_PWM_TOFF_MIN * 128
  let t := if 0 < t && t < lo then lo else t
  if t > hi then hi else t

/-- The steps by which an update completes after slot 0's rising edge: 12 MAIN clocks (R116). -/
def updateSteps : Nat := 1536

/-- A switching period begins for each phase of a loop: its on-time is the update's, or the previous update's where its
rising edge falls before the update is complete (R116), scaled while it sheds (R131); an overcurrent hold runs its period
(R143). -/
def State.newPeriod (s : State) (m : Fin 4) (was now ramp : Nat) : List (Fin 16) → State
  | [] => s
  | n :: r =>
    let st := s.phState n
    let ton := if s.offsetOf n m < updateSteps then was else now
    State.newPeriod (s.updPhase n (fun p =>
      let j := p.shedJ + 1
      let p := { p with ocHold := p.ocHold - 1, postFire := false, gap := 0 }
      if st == phShedding then { p with shedJ := j, ton := if j < ramp then ton * (ramp - j) / ramp else 0 }
      else if st == phActive || st == phOff then { p with ton := if p.ocHold == 1 then 0 else ton }
      else { p with ton := 0 })) m was now ramp r

/-- COMPENSATOR_UPDATE (R107, R108, R111, R112, R116): a new duty from the four newest loop ADC codes. Before the first
positive error nothing is computed; updates stop during a fire and a brake (R136, R140). The duty that LOOP_DUTY shows is
truncated to its 16 bits (DESIGN CHOICE, log 15). -/
def execCompensatorUpdate (m : Fin 4) (c1 c2 c3 c4 : BitVec 9) (s : State) : Host.Outcome State Fault Refusal :=
  let e := errorOf c1 c2 c3 c4
  done <| s.when (s.engines && (s.loops[m].run == .on || s.loops[m].run == .softStop) &&
      !s.flag (LOOP_STAT m) LOOP_STAT_APF && !s.flag (LOOP_STAT m) LOOP_STAT_BRAKE &&
      (s.loops[m].started || decide (0 < e))) fun s =>
    let l := s.loops[m]
    let l := if l.started then l else
      { l with started := true, ovArmed := l.run == .on, e1 := 0, e2 := 0, e3 := 0, y1 := 0, y2 := 0, y3 := 0 }
    let y := s.compY m l e
    let ton := s.onTime m y
    let s := s.updLoop m (fun _ =>
      { l with e1 := e, e2 := l.e1, e3 := l.e2, y1 := y, y2 := l.y1, y3 := l.y2, ton := ton,
               duty := min 65535 (y.toNat / 2 ^ s.dsh m) })
    s.newPeriod m l.ton ton (max 1 (s.get (LOOP_SHED m) LOOP_SHED_RAMP)) (s.phasesOf m)

/-- SWAP_REQ (R113): a swap of the banks is requested for the next tick. -/
def execSwapReq (m : Fin 4) (s : State) : Host.Outcome State Fault Refusal :=
  done <| s.when s.inRun fun s => s.putB (LOOP_BANK m) LOOP_BANK_SWAP_REQ true

/-! ### Period and synchronisation (R119 to R123) -/

/-- PERIOD_CHANGE (R119): a written PER takes effect, by slewing where it was written to an enabled loop. A loop that
follows SYNC_IN keeps following it, and one that holds the period reached under it holds on (R122). -/
def execPeriodChange (m : Fin 4) (s : State) : Host.Outcome State Fault Refusal :=
  done <| s.atTick (s.engines && s.loops[m].pendPer && decide (s.loops[m].askAt < s.clk.frames)) fun s =>
    let p := s.get (LOOP_FSW m) LOOP_FSW_PER
    s.updLoop m (fun l =>
      let l := { l with pendPer := false }
      if l.syncOn || l.held then l
      else if !l.perAtOnce then { l with perTo := p, perOld := l.per, perAcc := 0 }
      else { l with per := p, perTo := p, perOld := p, perAcc := 0 })

/-- Percent of SYNC_CFG.RANGE (R121). -/
def syncRange : Nat → Nat
  | 0 => 5
  | 1 => 10
  | 2 => 20
  | _ => 40

/-- A measured period lies within the range of a configured one and within 200 kHz to 2 MHz (R121). -/
def State.syncFits (s : State) (m : Fin 4) (p : Nat) : Bool :=
  let per := s.get (LOOP_FSW m) LOOP_FSW_PER
  let r := syncRange (s.get SYNC_CFG SYNC_CFG_RANGE)
  decide (6400 ≤ p ∧ p ≤ 64000 ∧ per * (100 - r) ≤ 100 * p ∧ 100 * p ≤ per * (100 + r))

/-- The periods differ from each other by no more than 0.5 % (R121). -/
def periodsAgree (ps : List Nat) : Bool :=
  let lo := ps.foldl min (ps.headD 0)
  let hi := ps.foldl max 0
  decide (200 * (hi - lo) ≤ lo)

/-- SYNC_IN qualifies for each loop that follows it and whose range it meets: its period slews and its phase, `errs` steps
off, is pulled in; another loop keeps its own timing. -/
def State.syncLoops (s : State) (ps : List Nat) (errs : Vector (BitVec 17) 4) : List (Fin 4) → State
  | [] => s
  | m :: r =>
    let p := ps.getLastD 0
    let s :=
      if !s.flag (LOOP_FSW m) LOOP_FSW_SYNC_EN then s
      else if periodsAgree ps && ps.all (s.syncFits m) then
        (s.updLoop m (fun l =>
          { l with syncOn := true, held := false, phErr := errs[m].toInt, perTo := p, perOld := l.per, perAcc := 0 })).putB
          SYNC_STAT SYNC_STAT_QUAL true
      else (s.putB SYNC_STAT SYNC_STAT_RANGE_ERR true)
    State.syncLoops s ps errs r

/-- SYNC_QUALIFIED (R121, R123): after 4 measured periods SYNC_IN qualifies, or RANGE_ERR is set and ESN 0x35 code 0x02
raised. `errs` are the steps by which each loop's slot 0 lies off SYNC_IN's edge plus SYNC_OFS. -/
def execSyncQualified (p1 p2 p3 p4 : BitVec 16) (errs : Vector (BitVec 17) 4) (s : State) :
    Host.Outcome State Fault Refusal :=
  let ps := [p1.toNat, p2.toNat, p3.toNat, p4.toNat]
  done <| s.when s.engines fun s =>
    let fails := (allFin 4).any (fun m => s.flag (LOOP_FSW m) LOOP_FSW_SYNC_EN &&
      !(periodsAgree ps && ps.all (s.syncFits m)))
    let s := (s.putB SYNC_STAT SYNC_STAT_PRESENT true).put SYNC_STAT SYNC_STAT_PER p4.toNat
    let s := s.syncLoops ps errs (allFin 4)
    if fails then s.raise 0x35 0x02 else s

/-- Steps by which periods pull the phase in within a frame: at most 1 % of PER in each (R121). -/
def LoopSt.pullStep (l : LoopSt) : Nat := (256000 / l.per + 1) * (l.per / 100)

/-- SYNCED (R121): the period is the measured one, and the phase error of 16 periods in a row has stayed within 64 steps,
which the pull-in can have brought about within the present frame. -/
def execSynced (m : Fin 4) (errs : Vector (BitVec 17) 16) (s : State) : Host.Outcome State Fault Refusal :=
  done <| s.when (s.engines && s.loops[m].syncOn && s.loops[m].per == s.loops[m].perTo &&
      !s.flag (LOOP_STAT m) LOOP_STAT_SYNCED && errs.toList.all (fun e => decide (e.toInt.natAbs ≤ 64)) &&
      decide (s.loops[m].phErr.natAbs ≤ 64 + s.loops[m].pullStep)) fun s =>
    ((s.updLoop m (fun l => { l with phErr := errs[15].toInt })).putB (LOOP_STAT m) LOOP_STAT_SYNCED true).raise 0x35 0x01

/-- Each synchronised loop of some leaves SYNC_IN: HOLD keeps the period reached, RETURN slews to PER (R122). -/
def State.unsync (s : State) (ret : Bool) : List (Fin 4) → State
  | [] => s
  | m :: r =>
    let per := s.get (LOOP_FSW m) LOOP_FSW_PER
    let s := s.putB (LOOP_STAT m) LOOP_STAT_SYNCED false
    State.unsync (s.updLoop m (fun l =>
      if l.syncOn then
        { l with syncOn := false, held := !ret, perTo := if ret then per else l.per, perOld := l.per, perAcc := 0 }
      else l))
      ret r

/-- SYNC_LOST (R122): two expected edges in a row are missing. -/
def execSyncLost (s : State) : Host.Outcome State Fault Refusal :=
  done <| s.when (s.engines && s.flag SYNC_STAT SYNC_STAT_QUAL) fun s =>
    let s := ((((s.putB SYNC_STAT SYNC_STAT_LOST true).putB SYNC_STAT SYNC_STAT_PRESENT false).putB
      SYNC_STAT SYNC_STAT_QUAL false).put SYNC_STAT SYNC_STAT_PER 0)
    (s.unsync (s.flag SYNC_CFG SYNC_CFG_LOSS_MODE) (allFin 4)).raise 0x34 0

/-- A loop whose SYNC_EN is cleared follows SYNC_IN no more and holds nothing: PER slews to the configured one (R122). -/
def State.syncOff (s : State) (m : Fin 4) : State :=
  if s.loops[m].syncOn || s.loops[m].held then
    (s.updLoop m (fun l =>
      { l with syncOn := false, held := false, perTo := s.get (LOOP_FSW m) LOOP_FSW_PER, perOld := l.per, perAcc := 0 })).putB
      (LOOP_STAT m) LOOP_STAT_SYNCED false
  else s

/-- MAIN runs again: a lock to SYNC_IN is to be reacquired from the start, each loop holding the period reached until then
(R118). -/
def State.reacquire (s : State) : State := (s.unsync false (allFin 4)).putB SYNC_STAT SYNC_STAT_QUAL false

/-! ### Configuration of a phase (R96, R97) -/

/-- A loop's assignment is valid (R96): an active phase, at most 2 spares, no POS twice. -/
def State.assignOk (s : State) (m : Fin 4) : Bool :=
  let l := s.phasesOf m
  l.isEmpty || (l.any (fun n => s.phRole n == 1) && (l.filter (fun n => s.phRole n == 2)).length ≤ 2 &&
    l.all (fun n => s.phRole n != 3 &&
      l.all (fun k => n == k || s.get (PH_CFG n) PH_CFG_POS != s.get (PH_CFG k) PH_CFG_POS)))

/-- A phase takes its role: unused, off or spare; a fenced one stays fenced (R128, R129). -/
def State.takeRole (s : State) (n : Fin 16) : State :=
  let s := s.updPhase n (fun p => { p with pos := s.get (PH_CFG n) PH_CFG_POS })
  if s.phState n == phFenced then s
  else s.setPh n (match s.phRole n with | 1 => phOff | 2 => phSpare | _ => phUnused)

/-- PH_CFG is written at its target: taken, or ignored with CFG_IGN and ESN 0x37 code 0x01 (R97). -/
def State.phCfgWrite (s : State) (n : Fin 16) (v : Word) : State :=
  let old : Fin 4 := ⟨s.phLoop n % 4, by omega⟩
  let new : Fin 4 := ⟨getF v PH_CFG_LOOP % 4, by omega⟩
  let w := setF (setF (setF 0 PH_CFG_ROLE (getF v PH_CFG_ROLE)) PH_CFG_LOOP (getF v PH_CFG_LOOP)) PH_CFG_POS
    (getF v PH_CFG_POS)
  let t := s.wr (PH_CFG n) w
  if getF v PH_CFG_ROLE = 3 || s.loopOn old || s.loopOn new ||
      (allFin 4).any (fun m => s.loopOn m && !t.assignOk m) then
    (s.putB PE_STAT PE_STAT_CFG_IGN true).raise 0x37 0x01 n
  else ((t.takeRole n).reslot old).reslot new
end Sys2Proof.Machine
end

