-- ==== Sys2Proof/Machine/Cond.lean ====
section
/-! DEFINITION. The conditions that stencils and context gates name, and which encodings of them are in range (spec 10
R245, R247; spec 11 R270). -/
namespace Sys2Proof.Machine
open Sys2Proof

/-! ### Words of the stencil store (R243) -/

/-- Bits of a step word from `lo` on, `w` wide. -/
def stepBits (w : Word) (lo n : Nat) : Nat := getF w ⟨lo, n⟩

def stepOp (w : Word) : Nat := stepBits w 28 4
def stepRail (w : Word) : Nat := stepBits w 16 8
def stepTarget (w : Word) : Nat := stepBits w 0 13
def stepCond (w : Word) : Nat := stepBits w 16 12
def stepToAct (w : Word) : Bool := stepBits w 15 1 != 0

/-- Frames of the UNIT and COUNT of a step (R244). -/
def stepFrames (w : Word) : Nat :=
  stepBits w 0 13 * (match stepBits w 13 2 with | 0 => 1 | 1 => 50 | 2 => 5000 | _ => 50000)

/-- The bits of a step word that its opcode names; the others are reserved (R8, R243). -/
def stepMask : Nat → Word
  | 1 => 0xF0FF0000
  | 2 => 0xF0FF0000
  | 3 => 0xF0FF0FFF
  | 4 => 0xF0007FFF
  | 5 => 0xFFFFFFFF
  | 6 => 0xFFFF1FFF
  | 7 => 0xF0001FFF
  | 8 => 0xF0001FFF
  | 11 => 0xF700FFFF
  | 12 => 0xF000FFFF
  | 13 => 0xF0FFFFFF
  | _ => 0xF0000000

/-- A step word as the store holds it, its reserved bits 0 (R8, R243). -/
def stepHeld (w : Word) : Word := w &&& stepMask (stepOp w)

/-! ### The parts of a condition (R245) -/

def condNeg (c : Nat) : Bool := c / 2048 % 2 == 1
def condKind (c : Nat) : Nat := c / 128 % 16
def condArg (c : Nat) : Nat := c % 128

/-- KIND is defined and ARG lies in its range (R245, R247); a gate's condition has no KIND 9 (R270). -/
def condOk (gate : Bool) (c : Nat) : Bool :=
  let a := condArg c
  match condKind c with
  | 0 => (railOf a).isSome
  | 1 => (railOf a).isSome
  | 2 => decide (a < 96)
  | 3 => decide (a < 6)
  | 4 => decide (a < 2)
  | 5 => decide (a < 8)
  | 6 => decide (a < 32)
  | 7 => decide (a < 4)
  | 8 => a == 0
  | 9 => a == 0 && !gate
  | _ => false

/-- A word the stencil store may hold (R247). -/
def stepOk (w : Word) : Bool :=
  let r := railOf (stepRail w)
  match stepOp w with
  | 0 => true
  | 1 => (match r with | some (.ext k) => decide (k.val < 16) | some _ => true | none => false)
  | 2 => (match r with | some (.ext k) => decide (k.val < 16) | some _ => true | none => false)
  | 3 => (match r with | some (.loop _) => true | some (.reg k) => decide (k.val < 10) | _ => false)
  | 4 => true
  | 5 => condOk false (stepCond w)
  | 6 => condOk false (stepCond w) && decide (stepTarget w < 6144)
  | 7 => decide (stepTarget w < 6144)
  | 8 => decide (stepTarget w < 6144)
  | 9 => true
  | 10 => true
  | 11 => decide (stepBits w 24 3 ≤ 4)
  | 12 => true
  | 13 => true
  | _ => false

/-! ### Values (R245) -/

/-- The context SEQ_XCTX names for an external rail; none for 0xFF and for a number above 159 (R245). -/
def State.railContext (s : State) (k : Nat) : Option Nat :=
  let c := getF (s.latched (SEQ_XCTX (k / 4))) ⟨8 * (k % 4), 8⟩
  if c ≤ 159 then some c else none

/-- What a condition reads of the supervision engine: this frame's evaluation for a stencil, the last frame's, as
latched, for a gate (R245, R270). -/
def State.evalWord (s : State) (gate : Bool) (a : Nat) : Word := if gate then s.latched a else s.rd a

/-- A rail is in power good (KIND 0). -/
def State.railPG (s : State) (gate : Bool) : Rail → Bool
  | .loop m => s.latchedF (LOOP_STAT m) LOOP_STAT_PG != 0
  | .reg r => s.latchedF (REG_STAT r) REG_STAT_PG != 0
  | .ext k => match s.railContext k with
    | some c => getF (s.evalWord gate (CTX_STAT c)) CTX_STAT_INWIN != 0
    | none => false

/-- A rail is off (KIND 1). REG_V counts 125 µV and OFF_MV 10 mV. -/
def State.railOff (s : State) (gate : Bool) : Rail → Bool
  | .loop m => !s.snap.stg.getLsbD m
  | .reg r => decide (s.latchedF (REG_V r) REG_V_V < 80 * s.latchedF SEQ_CFG SEQ_CFG_OFF_MV)
  | .ext k => match s.railContext k with
    | some c => getF (s.evalWord gate (CTX_STAT c)) CTX_STAT_BELOW != 0
    | none => true

/-- Value of FEED_STAT.STATE for a qualified feed (R177). -/
def feedAbsent : Nat := 0
def feedQualifying : Nat := 1
def feedQualified : Nat := 2
def feedQuarantined : Nat := 3

def State.latchedQualified (s : State) (x : Nat) : Bool := s.latchedF (FEED_STAT x) FEED_STAT_STATE == feedQualified

/-- MIN_START as R184 and R245 test it: below 16,000 mV it acts as 16,000 mV. -/
def minStart (v : Nat) : Nat := max 16000 v

/-- The latched VSYS lets UP execute (R184). -/
def State.vsysStarts (s : State) : Bool :=
  decide (minStart (s.latchedF PATH_VMIN PATH_VMIN_MIN_START) ≤ s.latchedF PATH_V PATH_V_VSYS)

/-- The values of KIND 3. -/
def State.pathCond (s : State) : Nat → Bool
  | 0 => s.latchedQualified 0 || s.latchedQualified 1
  | 1 => s.latchedQualified 0
  | 2 => s.latchedQualified 1
  | 3 => s.latchedF PATH_STAT PATH_STAT_PATH == 1
  | 4 => s.latchedF PATH_STAT PATH_STAT_PATH == 0
  | 5 => s.vsysStarts
  | _ => false

/-- A condition before its NEG, for thread `t` (R245). -/
def State.condRaw (s : State) (gate : Bool) (t : Nat) (c : Nat) : Bool :=
  let a := condArg c
  match condKind c with
  | 0 => (match railOf a with | some r => s.railPG gate r | none => false)
  | 1 => (match railOf a with | some r => s.railOff gate r | none => false)
  | 2 => (s.evalWord gate (MEV_STAT (a / 32))).getLsbD (a % 32)
  | 3 => s.pathCond a
  | 4 => if a = 0 then s.latchedF SEQ_STAT SEQ_STAT_SIB_OK != 0 else s.latchedF CLK_STAT CLK_STAT_FRM_ALIGNED != 0
  | 5 => s.snap.gpio.getLsbD a
  | 6 => (s.latched SEQ_FLAGS).getLsbD a
  | 7 => s.latchedF (SEQ_THR_STAT a) SEQ_THR_STAT_STATE != 0
  | 8 => s.latchedF SEQ_STAT SEQ_STAT_FN_IN != 0
  | 9 => s.get (SEQ_THR_STAT t) SEQ_THR_STAT_TO != 0
  | _ => false

/-- A condition of a stencil step of thread `t`. -/
def State.cond (s : State) (t : Nat) (c : Nat) : Bool := s.condRaw false t c != condNeg c

/-- A condition of a context's gate. -/
def State.gateCond (s : State) (c : Nat) : Bool := s.condRaw true 0 c != condNeg c

end Sys2Proof.Machine
end

