-- ==== Sys2Proof/Machine/Contexts.lean ====
section
/-! DEFINITION. The supervision engine: sources, evaluation, monitor events and writes of the contexts (spec 11 R268 to
R277, R290). -/
namespace Sys2Proof.Machine
open Sys2Proof

/-! ### Sources (R268, R269) -/

/-- What a context's source shows: its 16 bits, whether they are two's complement, and whether it is valid. -/
structure Source where
  raw    : Nat
  signed : Bool
  valid  : Bool
  deriving DecidableEq, Repr

/-- 16 bits as the source reads them. -/
def Source.int (x : Source) (v : Nat) : Int := if x.signed then toI 16 v else v

/-- A KIND and INDEX that R268 lists. -/
def sourceOk (kind idx : Nat) : Bool :=
  match kind with
  | 0 => decide (idx < 128)
  | 1 => (decide (idx < 0x20) && decide (idx % 8 < 5)) || decide (0x20 ≤ idx ∧ idx < 0x40 + 28)
  | 2 => decide (idx < 20)
  | 3 => decide (idx < 40) || decide (0x40 ≤ idx ∧ idx < 0x48)
  | _ => false

/-- The value of an ADC entry, as its core's result word gives it (R268, R269, R295). -/
def State.adcSource (s : State) (idx : Nat) : Source :=
  let w := s.latched (ADC_RES (s.coreOf (idx / 64 % 2)) (idx % 64))
  ⟨getF w ⟨0, 16⟩, false, getF w (bitF 16) == 0 && getF w (bitF 18) == 0⟩

/-- A signed value that telemetry holds in another width. -/
def signedSource (v : Int) : Source := ⟨wrapI 16 v, true, true⟩

/-- Rail telemetry (KIND 1). -/
def State.railSource (s : State) (idx : Nat) : Source :=
  if idx < 0x20 then
    let m := idx / 8
    match idx % 8 with
    | 0 => ⟨s.latchedF (LOOP_V m) LOOP_V_V, false, true⟩
    | 1 => ⟨s.latchedF (LOOP_I m) LOOP_I_I, true, true⟩
    | 2 => signedSource (getFI (s.latched (LOOP_ERR m)) LOOP_ERR_EMIN)
    | 3 => signedSource (getFI (s.latched (LOOP_ERR m)) LOOP_ERR_EMAX)
    | _ => ⟨s.latchedF (LOOP_DUTY m) LOOP_DUTY_D, false, true⟩
  else if idx < 0x40 then
    ⟨s.latchedF (PH_TEL ((idx - 0x20) / 2)) (if idx % 2 = 0 then PH_TEL_I_AVG else PH_TEL_I_PK), true, true⟩
  else
    let r := (idx - 0x40) / 2
    if idx % 2 = 0 then ⟨s.latchedF (REG_V r) REG_V_V, false, true⟩ else ⟨s.latchedF (REG_I r) REG_I_I, true, true⟩

/-- A temperature, invalid at 0x8000. -/
def tempSource (v : Nat) : Source := ⟨v, true, v != 0x8000⟩

/-- A cell voltage, invalid at 0xFFFF. -/
def cellSource (v : Nat) : Source := ⟨v, false, v != 0xFFFF⟩

/-- Path and gauge (KIND 2). -/
def State.pathSource (s : State) (idx : Nat) : Source :=
  match idx with
  | 0 => ⟨s.latchedF PATH_V PATH_V_VSYS, false, true⟩
  | 1 => ⟨s.latchedF PATH_V PATH_V_FEEDBUS, false, true⟩
  | 2 => ⟨s.latchedF (FEED_V 0) FEED_V_V, false, true⟩
  | 3 => ⟨s.latchedF (FEED_V 1) FEED_V_V, false, true⟩
  | 4 => ⟨s.latchedF CHG_IIN CHG_IIN_IIN, false, true⟩
  | 5 => ⟨s.latchedF GG_I GG_I_I, true, true⟩
  | 6 => ⟨s.latchedF GG_I GG_I_I_1S, true, true⟩
  | 7 => ⟨s.latchedF GG_VPACK GG_VPACK_VPACK, false, true⟩
  | 8 => tempSource (s.latchedF GG_VPACK GG_VPACK_TPACK)
  | 9 => cellSource (s.latchedF GG_CELL_EXT GG_CELL_EXT_MIN)
  | 10 => cellSource (s.latchedF GG_CELL_EXT GG_CELL_EXT_MAX)
  | 19 => ⟨s.latchedF GG_SOC GG_SOC_SOC, false, true⟩
  | k => cellSource (s.latchedF (GG_CELL (k - 11)) GG_CELL_V)

/-- The value a context watches, as latched at the tick (R59, R268). -/
def State.source (s : State) (kind idx : Nat) : Source :=
  match kind with
  | 0 => s.adcSource idx
  | 1 => s.railSource idx
  | 2 => s.pathSource idx
  | _ => if idx < 40 then tempSource (s.latchedF (TH_T idx) TH_T_T)
    else tempSource (s.latchedF (NTC_T (idx - 0x40)) NTC_T_T)

/-! ### Evaluation (R270 to R274) -/

def State.updCtx (s : State) (i : Fin 160) (f : CtxSt → CtxSt) : State := { s with ctx := s.ctx.set i (f s.ctx[i]) }

/-- What one evaluation works on: the counts, the state of R271 and RATE, and the code of an alarm entered. -/
structure CtxEval where
  c     : CtxSt
  state : Nat
  rate  : Bool
  code  : Option Nat
  deriving DecidableEq, Repr

/-- Frames of the filter (R271). -/
def filterFrames (w : Word) : Nat :=
  max 1 (getF w CTX_FILT_FILT) * (if getF w CTX_FILT_FUNIT = 0 then 1 else 50)

/-- Frames of the window of R272. -/
def windowFrames (win : Nat) : Nat :=
  match win with | 0 => 1 | 1 => 5 | 2 => 50 | 3 => 500 | 4 => 5000 | _ => 50000

/-- The NORMAL rows of R271. -/
def normalRows (f : Nat) (e : CtxEval) : CtxEval :=
  if e.state ≠ 0 then e
  else if f ≤ e.c.low then { e with state := 1, code := some 1 }
  else if f ≤ e.c.high then { e with state := 2, code := some 2 }
  else if f ≤ e.c.inv then { e with state := 3, code := some 4 }
  else e

/-- A count grows where its condition holds. -/
def grow (n : Nat) (c : Bool) : Nat := if c then n + 1 else 0

/-- A context after an evaluation in which its source is valid (R271, R272): the value, its thresholds and settings. -/
def evalValid (e : CtxEval) (v lo hi : Int) (filt ror gate : Word) (rise : Int) : CtxEval :=
  let f := filterFrames filt
  let hyst : Int := getF filt CTX_FILT_HYST
  let lim := getF ror CTX_ROR_LIM
  let below := getF gate CTX_GATE_LO_EN != 0 && decide (v < lo)
  let above := getF gate CTX_GATE_HI_EN != 0 && decide (hi < v)
  let fast := lim != 0 && decide ((lim : Int) < rise)
  let c := { e.c with low := grow e.c.low below, high := grow e.c.high above, rate := grow e.c.rate fast, inv := 0, bad := 0 }
  let st :=
    if e.state = 1 && decide (lo + hyst ≤ v) then 0
    else if e.state = 2 && decide (v ≤ hi - hyst) then 0
    else if e.state = 3 then 0
    else e.state
  let e := normalRows f { e with c := c, state := st }
  if !e.rate && decide (f ≤ c.rate) then { e with rate := true, code := some (e.code.getD 3) }
  else if e.rate && (lim == 0 || decide (2 * rise ≤ lim)) then { e with rate := false }
  else e

/-- A context after an evaluation in which its source is invalid. -/
def evalInvalid (e : CtxEval) (src filt ror : Word) : CtxEval :=
  let act := getF src CTX_SRC_INV_ACT != 0
  let c := { e.c with inv := grow e.c.inv act, bad := e.c.bad + 1 }
  let f := filterFrames filt
  let e := { e with c := c, rate := e.rate && getF ror CTX_ROR_LIM != 0 }
  if e.state = 0 && act && decide (f ≤ c.inv) then { e with state := 3, code := some 4 } else e

/-- The anchors of R272 after a frame: the older, the newer, and whether both hold a valid value. -/
def anchors (c : CtxSt) (old new : Int) (v : Option Int) (boundary : Bool) : CtxSt × Int × Int :=
  match v with
  | some x =>
    if !c.ancOk then ({ c with ancOk := true, last := x }, x, x)
    else if boundary then ({ c with last := x }, new, x)
    else ({ c with last := x }, old, new)
  | none => if c.ancOk && boundary then (c, new, c.last) else (c, old, new)

/-- The context is not evaluated: NORMAL, counts and RATE cleared (R270). -/
def State.ctxRest (s : State) (i : Fin 160) (gated : Bool) : State :=
  let w := s.rd (CTX_STAT i)
  let keep := setF (setF 0 CTX_STAT_TRIPPED (getF w CTX_STAT_TRIPPED)) CTX_STAT_GATED (if gated then 1 else 0)
  let s := if w = keep then s else s.wr (CTX_STAT i) keep
  if s.ctx[i] = {} then s else s.updCtx i (fun _ => {})

/-- One context evaluated in this frame, and the code with which it enters alarm (R271 to R274, R290). -/
def State.ctxRun (s : State) (i : Fin 160) : State × Option Nat :=
  let src := s.rd (CTX_SRC i)
  let thr := s.rd (CTX_THR i)
  let filt := s.rd (CTX_FILT i)
  let ror := s.rd (CTX_ROR i)
  let gate := s.rd (CTX_GATE i)
  let stat := s.rd (CTX_STAT i)
  let anc := s.rd (CTX_ANC i)
  let x := s.source (getF src CTX_SRC_KIND) (getF src CTX_SRC_INDEX)
  let v := x.int x.raw
  let lo := x.int (getF thr CTX_THR_LO)
  let hi := x.int (getF thr CTX_THR_HI)
  let a := anchors s.ctx[i] (x.int (getF anc CTX_ANC_ANC_OLD)) (x.int (getF anc CTX_ANC_ANC_NEW))
    (if x.valid then some v else none) (s.frmNum % windowFrames (getF ror CTX_ROR_WIN) == 0)
  let rise := if getF ror CTX_ROR_FALL = 0 then v - a.2.1 else a.2.1 - v
  let e0 : CtxEval := ⟨a.1, getF stat CTX_STAT_STATE, getF stat CTX_STAT_RATE != 0, none⟩
  let e := if x.valid then evalValid e0 v lo hi filt ror gate rise else evalInvalid e0 src filt ror
  let fcnt := min 65535 (max (max e.c.low e.c.high) (max e.c.rate e.c.inv))
  let tripped := getF stat CTX_STAT_TRIPPED != 0 || e.code.isSome
  let b (c : Bool) : Nat := if c then 1 else 0
  let w := setF (setF (setF (setF (setF (setF (setF 0 CTX_STAT_STATE e.state) CTX_STAT_RATE (b e.rate))
    CTX_STAT_INVALID_SRC (b (!x.valid))) CTX_STAT_INWIN (b (x.valid && decide (lo ≤ v ∧ v ≤ hi))))
    CTX_STAT_BELOW (b (x.valid && decide (v < lo)))) CTX_STAT_TRIPPED (b tripped)) CTX_STAT_FCNT fcnt
  let s := s.updCtx i (fun _ => e.c)
  let s := (s.wr (CTX_STAT i) w).wr (CTX_ANC i) (setF (setF 0 CTX_ANC_ANC_OLD (wrapI 16 a.2.1)) CTX_ANC_ANC_NEW
    (wrapI 16 a.2.2))
  let s := if x.valid then
      s.wr (CTX_VAL i) (setF (setF 0 CTX_VAL_VALUE x.raw) CTX_VAL_RISE (satI 16 rise))
    else s
  let s := if e.c.bad = 50 then s.raise 0x76 0 i else s
  (s, e.code)

/-- One context in its turn (R270). -/
def State.ctxEval (s : State) (i : Fin 160) : State × Option Nat :=
  let g := s.rd (CTX_GATE i)
  if getF g CTX_GATE_EN = 0 then (s.ctxRest i false, none)
  else if getF g CTX_GATE_GATE_EN != 0 && !s.gateCond (getF g CTX_GATE_COND) then (s.ctxRest i true, none)
  else s.ctxRun i

/-- Each context in ascending order, with those that enter alarm and their codes. -/
def State.ctxAll (s : State) : List (Fin 160) → State × List (Fin 160 × Nat)
  | [] => (s, [])
  | i :: r =>
    let a := s.ctxEval i
    let b := State.ctxAll a.1 r
    (b.1, match a.2 with | some c => (i, c) :: b.2 | none => b.2)

/-! ### Monitor events (R273) -/

/-- The event a context names. -/
def State.ctxMev (s : State) (i : Fin 160) : Nat := s.get (CTX_GATE i) CTX_GATE_MEV

/-- The context is in an alarm state or has RATE set. -/
def State.ctxStands (s : State) (i : Fin 160) : Bool :=
  s.get (CTX_STAT i) CTX_STAT_STATE != 0 || s.flag (CTX_STAT i) CTX_STAT_RATE

/-- The events that stand raised after an evaluation. -/
def State.mevNow (s : State) : List Nat := ((allFin 160).filter s.ctxStands).map s.ctxMev

/-- The detail of a monitor event's record (R350). -/
def State.mevDetail (s : State) (i : Fin 160) : List Byte :=
  bytesLE 2 (s.get (CTX_VAL i) CTX_VAL_VALUE) ++ bytesLE 2 (s.get (CTX_THR i) CTX_THR_LO) ++
    bytesLE 2 (s.get (CTX_THR i) CTX_THR_HI) ++ bytesLE 2 (s.get (CTX_VAL i) CTX_VAL_RISE) ++
    bytesLE 1 ((s.rd (CTX_STAT i)).toNat % 256)

/-- The words of MEV_STAT for the events that stand. -/
def State.mevWords (s : State) (now : List Nat) : State :=
  (List.range 3).foldl (fun s w =>
    let v := (List.range 32).foldl (fun n b => n + (if now.contains (32 * w + b) then 2 ^ b else 0)) 0
    if s.rd (MEV_STAT w) = BitVec.ofNat 32 v then s else s.wr (MEV_STAT w) (BitVec.ofNat 32 v)) s

/-- Each event is raised with its lowest context's code, or with 0 where it stops standing. -/
def State.mevRaise (s : State) (entered : List (Fin 160 × Nat)) (before now : List Nat) : List Nat → State
  | [] => s
  | m :: r =>
    let s := match entered.find? (fun p => s.ctxMev p.1 == m) with
      | some p => s.raise (0xA0 + m) p.2 p.1 (s.mevDetail p.1)
      | none => if before.contains m && !now.contains m then s.raise (0xA0 + m) 0 else s
    State.mevRaise s entered before now r

/-- The events MEV_STAT shows as standing. -/
def State.mevShown (s : State) : List Nat :=
  (List.range 96).filter (fun n => (s.rd (MEV_STAT (n / 32))).getLsbD (n % 32))

/-- The supervision engine's work in a frame (R58, R271, R273). -/
def State.contextsTick (s : State) : State :=
  let before := s.mevShown
  let a := s.ctxAll (allFin 160)
  let now := a.1.mevNow
  (a.1.mevWords now).mevRaise a.2 before now (List.range 96)

/-- The contexts at the exit from STANDBY (R276): each returns to NORMAL. -/
def State.contextsReset (s : State) : State := (allFin 160).foldl (fun s i => s.ctxRest i false) s

/-! ### Writes (R275) -/

/-- The five configuration words of a context. -/
def ctxWordAt (i : Fin 160) (k : Fin 5) : Nat := CTX_SRC i + 4 * k

/-- Bits of a context's configuration words that are fields. -/
def ctxWordMask (k : Fin 5) : Word :=
  match k.val with
  | 0 => maskF CTX_SRC_KIND ||| maskF CTX_SRC_INDEX ||| maskF CTX_SRC_INV_ACT
  | 1 => maskF wordF
  | 2 => maskF CTX_FILT_FILT ||| maskF CTX_FILT_FUNIT ||| maskF CTX_FILT_HYST
  | 3 => maskF CTX_ROR_LIM ||| maskF CTX_ROR_WIN ||| maskF CTX_ROR_FALL
  | _ => maskF CTX_GATE_COND ||| maskF CTX_GATE_GATE_EN ||| maskF CTX_GATE_MEV ||| maskF CTX_GATE_EN |||
    maskF CTX_GATE_LO_EN ||| maskF CTX_GATE_HI_EN

/-- LO stands at or above HI with both in use, in the format of the source (R275). -/
def thrBad (src thr gate : Word) : Bool :=
  let k := getF src CTX_SRC_KIND
  let ix := getF src CTX_SRC_INDEX
  let signed := k == 3 || (k == 1 && (if ix < 0x20 then 1 ≤ ix % 8 && ix % 8 ≤ 3 else ix < 0x40 || ix % 2 == 1)) ||
    (k == 2 && (ix == 5 || ix == 6 || ix == 8))
  let num (v : Nat) : Int := if signed then toI 16 v else v
  getF gate CTX_GATE_LO_EN != 0 && getF gate CTX_GATE_HI_EN != 0 &&
    decide (num (getF thr CTX_THR_HI) ≤ num (getF thr CTX_THR_LO))

/-- The five words make a context that may stand (R268, R270, R272, R275). -/
def ctxWordsOk (src thr ror gate : Word) : Bool :=
  sourceOk (getF src CTX_SRC_KIND) (getF src CTX_SRC_INDEX) && !thrBad src thr gate &&
  decide (getF ror CTX_ROR_WIN < 6) && decide (getF gate CTX_GATE_MEV < 96) && condOk true (getF gate CTX_GATE_COND)

/-- A context's configuration word takes a value, or the write is ignored (R275). -/
def State.contextWrite (s : State) (i : Fin 160) (k : Fin 5) (v : Word) : State :=
  let v := v &&& ctxWordMask k
  let w (j : Nat) : Word := if j = k.val then v else s.rd (CTX_SRC i + 4 * j)
  if ctxWordsOk (w 0) (w 1) (w 3) (w 4) then
    let s := s.wr (ctxWordAt i k) v
    if k.val = 0 || k.val = 4 then
      let stat := s.rd (CTX_STAT i)
      (s.wr (CTX_STAT i) (setF (setF (setF stat CTX_STAT_STATE 0) CTX_STAT_RATE 0) CTX_STAT_FCNT 0)).updCtx i (fun _ => {})
    else s
  else (s.putB MON_STAT MON_STAT_WR_IGN true).raise 0x77 1 i

end Sys2Proof.Machine
end

