-- ==== Sys2Proof/Machine/Plate.lean ====
section
/-! DEFINITION. The Plate: records, ingest, floods, clock marks, snapshots, the rebuild and the reading window (spec 14
R347 to R363). -/
namespace Sys2Proof.Machine
open Sys2Proof

/-! ### Records (R347, R348) -/

/-- The payload key of an EVENT record (R350): ESN, severity and payload bytes 0 to 2. -/
def PlateRec.key (r : PlateRec) : Nat := (r.esn * 8 + r.sev) * 2 ^ 24 + ofBytesLE (r.payload.take 3)

/-- The word at offset 0x10: last time and repeat count (R347). -/
def PlateRec.lastWord (r : PlateRec) : BitVec 64 := BitVec.ofNat 64 (r.last % 2 ^ 48 + 2 ^ 48 * min r.rep 65535)

/-- The 64 bytes of a record with its sequence and the power-cycle count (R347, R348). -/
def PlateRec.bytes (r : PlateRec) (seq cycles : Nat) : List Byte :=
  let a := bytesLE 1 r.type ++ bytesLE 1 r.sev ++ bytesLE 1 r.esn ++ bytesLE 1 r.code ++ bytesLE 4 seq ++
    bytesLE 6 r.first ++ bytesLE 2 r.frm
  let b := pad32 r.payload ++ bytesLE 4 cycles
  a ++ bytesLE 6 r.last ++ bytesLE 2 (min r.rep 65535) ++ b ++ bytesLE 2 (crc16 (a ++ b)) ++ bytesLE 1 0 ++ bytesLE 1 0xA5

/-- Offset of a slot in MRAM. -/
def slotAt (i : Nat) : Nat := plateBase + 64 * i

/-- The slot's valid mark stands (R348). -/
def State.slotMarked (s : State) (i : Nat) : Bool := memByte s.mram.cells (slotAt i + 63) == 0xA5

/-- The bytes of a slot. -/
def State.slotBytes (s : State) (i : Nat) : List Byte := memRead s.mram.cells (slotAt i) 64

/-- A slot is valid: marked, and its CRC matches (R348). -/
def slotValid (b : List Byte) : Bool :=
  b.getD 63 0 == 0xA5 && crc16 (b.take 16 ++ (b.drop 24).take 36) == ofBytesLE ((b.drop 60).take 2)

/-- The severity a slot's record has. -/
def State.slotSev (s : State) (i : Nat) : Nat := (memByte s.mram.cells (slotAt i + 1)).toNat

/-! ### Counts of the FIFO (R351) -/

/-- Records of severity 3 and above, and of severity 2 and below, in the FIFO; an in-place update is no record. -/
def State.fifoHigh (s : State) : Nat := (s.plate.fifo.filter (fun e => e.update.isNone && decide (3 ≤ e.body.sev))).length
def State.fifoLow (s : State) : Nat := (s.plate.fifo.filter (fun e => e.update.isNone && decide (e.body.sev < 3))).length

def State.updPlate (s : State) (f : PlateSt → PlateSt) : State := { s with plate := f s.plate }

/-- PLATE_STAT.LEVEL and SNAP_BUSY follow the queues. -/
def State.plateLevel (s : State) : State :=
  (s.put PLATE_STAT PLATE_STAT_LEVEL (min 512 (s.fifoHigh + s.fifoLow))).putB PLATE_STAT PLATE_STAT_SNAP_BUSY
    (!s.plate.snap.isEmpty)

/-- A record joins the FIFO at its end. -/
def State.fifoAdd (s : State) (r : PlateRec) (update : Option Nat) : State :=
  s.updPlate (fun p => { p with fifo := p.fifo ++ [⟨p.nextId, r, update⟩], nextId := p.nextId + 1 })

/-- The newest EVENT record of an ESN is the record just added (R353). -/
def State.newTarget (s : State) (r : PlateRec) (id : Nat) : State :=
  if r.type = 1 then
    s.updPlate (fun p =>
      { p with newest := p.newest.filter (fun n => n.esn ≠ r.esn) ++ [⟨r.esn, r.sev, r.key, r.last, r.rep, .fifo id⟩] })
  else s

/-! ### Drops and suppression (R351, R354, R356) -/

/-- A dropped record is counted; ESN 0x90 is raised at most once per frame, and not for a record of ESN 0x90 (R354). -/
def State.plateDrop (s : State) (r : PlateRec) : State :=
  let i := min r.sev 4
  let s := s.put (PLATE_DROP i) PLATE_DROP_COUNT (min (s.get (PLATE_DROP i) PLATE_DROP_COUNT + 1) 0xFFFFFFFF)
  if s.plate.dropped || r.esn = 0x90 then s
  else (s.updPlate (fun p => { p with dropped := true })).raise 0x90 0 r.esn

/-- A suppressed record is counted for its ESN (R356); the first one starts a flood. -/
def State.plateSuppress (s : State) (r : PlateRec) : State :=
  let a := PLATE_SUPP r.esn
  let n := min (s.get a PLATE_SUPP_COUNT + r.rep) (2 ^ 24 - 1)
  let s := s.wr a (setF (setF 0 PLATE_SUPP_COUNT n) PLATE_SUPP_SEV (max (s.get a PLATE_SUPP_SEV) r.sev))
  let s := s.updPlate (fun p =>
    { p with quiet := 0,
             supp := if p.supp.any (fun x => x.esn == r.esn) then
                 p.supp.map (fun x => if x.esn = r.esn then { x with first := min x.first r.first, last := max x.last r.last } else x)
               else p.supp ++ [⟨r.esn, r.first, r.last⟩] })
  if s.flag PLATE_STAT PLATE_STAT_FLOOD then s else (s.putB PLATE_STAT PLATE_STAT_FLOOD true).raise 0x92 0

/-! ### Coalescing (R353) -/

/-- The record coalesces into its ESN's newest record. -/
def State.coalesces (s : State) (r : PlateRec) (n : Newest) : Bool :=
  let c := s.get PLATE_CFG PLATE_CFG_COAL
  r.type == 1 && n.esn == r.esn && n.key == r.key && c != 0 && decide (r.first ≤ n.last + c) &&
    (decide (r.sev < 3) || s.flag PLATE_CFG PLATE_CFG_COAL_HI)

/-- A target has taken the repeats of a record. -/
def State.bumpTarget (s : State) (esn last rep : Nat) : State :=
  s.updPlate (fun p => { p with newest := p.newest.map (fun n => if n.esn = esn then { n with last := last, rep := rep } else n) })

/-- The record being written that an entry id names. -/
def State.writingId (s : State) (id : Nat) : Option Writing :=
  match s.plate.writing with
  | some w => if w.kind = 0 && w.id = id then some w else none
  | none => none

/-- An in-place update of a slot: merged into one that waits, or queued at its target's place (R352, R353). -/
def State.queueUpdate (s : State) (slot : Nat) (r : PlateRec) : State :=
  let waits (e : FifoEntry) : Bool := e.update == some slot && (s.writingId e.id).isNone &&
    !(match s.plate.writing with | some w => w.kind == 3 && w.id == e.id | none => false)
  if s.plate.fifo.any waits then
    s.updPlate (fun p => { p with fifo := p.fifo.map (fun e => if waits e then { e with body := r } else e) })
  else s.fifoAdd r (some slot)

/-- A record coalesces into its target, where the target stands (R353). -/
def State.coalesce (s : State) (r : PlateRec) (n : Newest) : State :=
  let rep := min (n.rep + r.rep) 65535
  let upd : PlateRec := { r with last := r.last, rep := rep }
  let s := s.bumpTarget r.esn r.last rep
  match n.place with
  | .slot i => s.queueUpdate i upd
  | .fifo id =>
    match s.writingId id with
    | some w => s.queueUpdate w.slot upd
    | none =>
      s.updPlate (fun p =>
        { p with fifo := p.fifo.map (fun e => if e.id = id then { e with body := { e.body with last := r.last, rep := rep } } else e) })

/-! ### The ingest (R351) -/

/-- A record not coalesced: accepted, suppressed or dropped. -/
def State.acceptNew (s : State) (r : PlateRec) : State :=
  let full := 512 ≤ s.fifoHigh + s.fifoLow
  if 3 ≤ r.sev then
    if full then s.plateDrop r else (s.fifoAdd r none).newTarget r s.plate.nextId
  else if full || 384 ≤ s.fifoLow then s.plateSuppress r
  else (s.fifoAdd r none).newTarget r s.plate.nextId

/-- One record at the ingest. -/
def State.accept (s : State) (r : PlateRec) : State :=
  match s.plate.newest.find? (fun n => n.esn == r.esn) with
  | some n => if s.coalesces r n then s.coalesce r n else s.acceptNew r
  | none => s.acceptNew r

/-- Records of one frame with the same payload key and type become one (R351). -/
def mergeRec (r : PlateRec) : List PlateRec → List PlateRec
  | [] => [r]
  | x :: l =>
    if x.type = r.type && x.key = r.key then
      { x with first := min x.first r.first, last := max x.last r.last, rep := x.rep + r.rep } :: l
    else x :: mergeRec r l

/-- Severity highest first, then ESN lowest first, then in the order raised (R351). -/
def insertRec (r : PlateRec) : List PlateRec → List PlateRec
  | [] => [r]
  | x :: l => if x.sev < r.sev || (x.sev = r.sev && r.esn < x.esn) then r :: x :: l else x :: insertRec r l

/-- The records of a frame in the order of acceptance. -/
def acceptOrder (l : List PlateRec) : List PlateRec :=
  (l.foldl (fun m r => mergeRec r m) []).foldl (fun m r => insertRec r m) []

/-- Each record in turn. -/
def State.acceptAll (s : State) : List PlateRec → State
  | [] => s
  | r :: l => State.acceptAll (s.accept r) l

/-- An acceptance that has taken in its records judges whether the flood ends: no record of severity 2 or below waits, and
QUIET acceptances have suppressed nothing (R356). -/
def State.floodJudge (s : State) : State :=
  s.updPlate (fun p =>
    { p with calm := s.flag PLATE_STAT PLATE_STAT_FLOOD && s.fifoLow == 0 &&
               decide (max 1 (s.get PLATE_CFG PLATE_CFG_QUIET) ≤ p.quiet) })

/-- The frame's ingest is still to come, and its fault reactions are done (R58). -/
def State.ingestDue (s : State) : Bool :=
  s.inRun && match s.clk.stage with
    | .contexts => !s.engines || s.flt.window.isEmpty
    | .reserve => false
    | _ => true

/-- PLATE_INGEST (R58, R351, R353, R356, R357): once in a frame, the records raised so far are accepted; the first
acceptance after the head rebuild of a cold start makes a clock mark. -/
def execPlateIngest (s : State) : Host.Outcome State Fault Refusal :=
  done <| s.when s.ingestDue fun s =>
    let s := { s with clk := { s.clk with stage := .reserve } }
    let l := acceptOrder s.plate.raised
    let q := s.plate.quiet
    let s := s.updPlate (fun p => { p with raised := [], quiet := p.quiet + 1 })
    let s := s.acceptAll l
    let s := if s.plate.quiet = 0 then s else s.updPlate (fun p => { p with quiet := q + 1 })
    let s := if s.plate.coldMark && s.flag PLATE_STAT PLATE_STAT_READY then
        (s.updPlate (fun p => { p with coldMark := false })).addMark (s.clockMark 0x93 3 3 0)
      else s
    s.floodJudge.plateLevel

/-! ### Floods (R356) -/

/-- The SUPPRESSED record of an ESN. -/
def State.suppRec (s : State) (x : Supp) : PlateRec :=
  let a := PLATE_SUPP x.esn
  let sev := s.get a PLATE_SUPP_SEV
  { type := 3, sev := sev, esn := 0x91, code := 1, first := s.opt.ms, frm := s.frmNum % 65536, last := s.opt.ms, rep := 1,
    payload := pad32 (bytesLE 1 x.esn ++ bytesLE 1 sev ++ bytesLE 2 0 ++ bytesLE 4 (s.get a PLATE_SUPP_COUNT) ++
      bytesLE 6 x.first ++ bytesLE 6 x.last) }

/-- The SUPPRESSED records, in ascending ESN order; the counts are cleared. -/
def State.emitSupp (s : State) : List Nat → State
  | [] => s
  | n :: r =>
    match s.plate.supp.find? (fun x => x.esn == n) with
    | some x => State.emitSupp ((s.fifoAdd (s.suppRec x) none).wr (PLATE_SUPP n) 0) r
    | none => State.emitSupp s r

/-- FLOOD_END (R356): at the acceptance that judged it over, before the next one. -/
def execFloodEnd (s : State) : Host.Outcome State Fault Refusal :=
  done <| s.when (s.inRun && s.flag PLATE_STAT PLATE_STAT_FLOOD && s.clk.stage == .reserve && s.plate.calm) fun s =>
    let n := s.plate.supp.length
    let s := s.emitSupp (List.range 256)
    let s := (s.updPlate (fun p => { p with supp := [], calm := false })).putB PLATE_STAT PLATE_STAT_FLOOD false
    (s.raise 0x91 0 n).plateLevel

/-! ### Clock marks (R357) -/

/-- CLOCK_MARK_HOURLY (R357): each operating time that is a multiple of an hour. -/
def execClockMarkHourly (s : State) : Host.Outcome State Fault Refusal :=
  done <| s.when (s.inRun && decide (s.opt.hourMark < s.opt.ms / 3600000)) fun s =>
    { s with opt := { s.opt with hourMark := s.opt.ms / 3600000 } }.addMark (s.clockMark 0x93 0 0 0)

/-! ### Snapshots (R358, R359) -/

/-- Words in blocks of 8, the last padded with 0. -/
def blocks8 : Nat → List Word → List (List Word)
  | 0, _ => []
  | n + 1, l => ((l ++ List.replicate 8 0).take 8) :: blocks8 n (l.drop 8)

/-- Result registers of entries 0 to n - 1 of a sequence. -/
def State.seqResults (s : State) (c n : Nat) : List Nat := (List.range n).map (fun k => ADC_RES (s.coreOf c) k)

/-- Addresses of the blocks after the ADC blocks (R358). -/
def snapRegs : List Nat :=
  ((List.range 4).flatMap (fun m => [LOOP_STAT m, LOOP_VSET m, LOOP_V m, LOOP_IW m, LOOP_P m, LOOP_ERR m, LOOP_DUTY m,
    LOOP_BANK m])) ++
  ((List.range 16).flatMap (fun n => [PH_STAT n, PH_TEL n, PH_DUTY n])) ++
  ((List.range 14).flatMap (fun r => [REG_STAT r, REG_V r, REG_I r])) ++
  [IR_SWEEP, SYNC_STAT, DLL_STAT, PE_STAT, CLK_STAT, PWR_STATE] ++
  (List.range 40).map TH_T ++ (List.range 8).map NTC_T ++
  [GG_I, GG_QRAW_LO, GG_QRAW_HI, GG_VPACK] ++ (List.range 8).map GG_CELL ++
  [GG_CELL_EXT, GG_SOC, GG_FCC, GG_HEALTH, GG_EFLAGS, GG_STAT, PATH_V, PATH_STAT, FEED_V 0, FEED_V 1, CHG_STAT, CHG_IIN] ++
  (List.range 8).map FLT_STICKY ++ (List.range 3).map MEV_STAT ++ (List.range 4).map SEQ_THR_STAT ++
  [SEQ_STAT, TH_STAT, TH_PKG_P, FEED_STAT 0, FEED_STAT 1, ADC_STAT, FLT_STAT, GG_TIME, FRM_SIB_DELTA]

/-- One record of a chain. -/
def State.snapRec (s : State) (esn chain idx : Nat) (payload : List Byte) : PlateRec :=
  { type := if idx = 0 then 4 else 5, sev := min 4 (s.get PLATE_CFG PLATE_CFG_SNAP_SEV), esn := esn, code := idx,
    first := s.opt.ms, frm := s.frmNum % 65536, last := s.opt.ms, rep := chain, payload := payload }

/-- A snapshot is captured into its buffer, or skipped while the buffer is held, with `hi` in payload bits [23:8] (R252,
R266, R358, R359). -/
def State.snapshot (s : State) (esn tag : Nat) (hi : Nat := 0) : State :=
  if !s.plate.snap.isEmpty then s.raise esn 0x0C hi
  else
    let l0 := s.latchedF ADC_SEQLEN ADC_SEQLEN_LEN0
    let l1 := s.latchedF ADC_SEQLEN ADC_SEQLEN_LEN1
    let a := min 16 ((l0 + l1 + 7) / 8)
    let blocks := blocks8 a ((s.seqResults 0 l0 ++ s.seqResults 1 l1).map s.latched) ++ blocks8 28 (snapRegs.map s.latched)
    let chain := (s.get PLATE_CHAIN PLATE_CHAIN_ID + 1) % 65536
    let conts := (List.range blocks.length).map (fun i =>
      s.snapRec esn chain (i + 1) ((blocks.getD i []).flatMap (fun w => bytesLE 4 w.toNat)))
    let head := s.snapRec esn chain 0 (pad32 (bytesLE 2 tag ++ bytesLE 1 blocks.length ++ bytesLE 1 a ++ bytesLE 1 l0 ++
      bytesLE 1 l1 ++ bytesLE 2 0 ++ bytesLE 4 s.frmNum))
    ((s.updPlate (fun p => { p with snap := conts ++ [head] })).put PLATE_CHAIN PLATE_CHAIN_ID chain).putB
      PLATE_STAT PLATE_STAT_SNAP_BUSY true

/-- A write of 1 to PLATE_CTL.SNAP asks for a snapshot at the next tick (R359, R60). -/
def State.snapAsk (s : State) (tag : Nat) : State := s.updPlate (fun p => { p with snapCmd := some tag, snapAt := s.clk.frames })

/-- SNAP (R359): the commanded snapshot at the first tick after the write; a write not yet registered is taken with
it. -/
def execSnap (tag : BitVec 16) (s : State) : Host.Outcome State Fault Refusal :=
  done <| s.when (s.inRun && (s.plate.snapCmd.isNone || decide (s.plate.snapAt < s.clk.frames))) fun s =>
    let t := s.plate.snapCmd.getD tag.toNat
    (s.updPlate (fun p => { p with snapCmd := none, snapSkip := !p.snap.isEmpty })).snapshot 0x15 t

/-! ### The rebuild (R360) -/

/-- Slots of the Plate whose mark stands. -/
def markedPlate (m : List Host.Cell) : List Nat :=
  (m.filter (fun c => c.2 == 0xA5 && decide (plateBase ≤ c.1 ∧ c.1 < plateBase + 64 * plateSlots) &&
    decide ((c.1 - plateBase) % 64 = 63))).map (fun c => (c.1 - plateBase) / 64)

/-- Sequence and first time of a slot. -/
def State.slotSeq (s : State) (i : Nat) : Nat := ofBytesLE (memRead s.mram.cells (slotAt i + 4) 4)
def State.slotFirst (s : State) (i : Nat) : Nat := ofBytesLE (memRead s.mram.cells (slotAt i + 8) 6)

/-- Slot `i` is later than slot `j` in the order of R348. -/
def State.slotLater (s : State) (i j : Nat) : Bool :=
  decide (s.slotFirst j < s.slotFirst i) ||
    (s.slotFirst i == s.slotFirst j && s.slotSeq i != s.slotSeq j &&
      decide ((s.slotSeq i + 2 ^ 32 - s.slotSeq j) % 2 ^ 32 < 2 ^ 31))

/-- The counts of valid records per severity. -/
def State.countSevs (s : State) (l : List Nat) : List Nat → State
  | [] => s
  | v :: r =>
    State.countSevs (s.put (PLATE_SEVCNT v) PLATE_SEVCNT_COUNT (l.filter (fun i => min 4 (s.slotSev i) == v)).length) l r

/-- PLATE_FULL follows the counts. -/
def State.plateFull (s : State) : State :=
  let n := ((List.range 5).map (fun v => s.get (PLATE_SEVCNT v) PLATE_SEVCNT_COUNT)).foldl (· + ·) 0
  s.putB PLATE_STAT PLATE_STAT_FULL (decide (plateSlots ≤ n))

/-- PLATE_REBUILD_DONE (R360): the cursor, the sequence and the counts from the valid slots; READY. -/
def execPlateRebuildDone (ecc : List EccRead) (s : State) : Host.Outcome State Fault Refusal :=
  done <| s.when (s.inRun && !s.flag PLATE_STAT PLATE_STAT_READY) fun s =>
    let s := s.eccFlip ecc
    let l := markedPlate s.mram.cells
    let best := l.foldl (fun b i => match b with
      | none => some i
      | some j => if s.slotLater i j then some i else b) (none : Option Nat)
    let s := match best with
      | some i => (s.put PLATE_WPTR PLATE_WPTR_SLOT i).put PLATE_SEQ PLATE_SEQ_SEQ (s.slotSeq i)
      | none => s.put PLATE_WPTR PLATE_WPTR_SLOT 0
    (((s.countSevs l (List.range 5)).putB PLATE_STAT PLATE_STAT_READY true).plateFull).eccReads ecc

/-! ### Reading (R361) -/

/-- PLATE_CURSOR takes a slot; above 983,039 the write is ignored (R361). -/
def State.cursorWrite (s : State) (v : Nat) : State :=
  if v < plateSlots then s.put PLATE_CURSOR PLATE_CURSOR_SLOT v else s

/-- PLATE_CURSOR_WRITE (R361). -/
def execPlateCursorWrite (v : BitVec 20) (s : State) : Host.Outcome State Fault Refusal :=
  done <| s.when s.inRun fun s => s.cursorWrite v.toNat

/-- PLATE_WIN4_READ (R361): word 4 is returned and word 5 latched, so the two are read whole. -/
def execPlateWin4Read (ecc : List EccRead) (s : State) : Host.Outcome State Fault Refusal :=
  done <| s.when s.inRun fun s =>
    let s := s.eccFlip ecc
    { (s.updPlate (fun p => { p with winLatch := some (s.live (PLATE_WIN 5)) })).eccReads ecc with
        out := [s.live (PLATE_WIN 4)] }

end Sys2Proof.Machine
end

