-- ==== Sys2Proof/Machine/Nv.lean ====
section
/-! DEFINITION. The NV engine: word writes in priority order, sector replacement, the Plate's record writes, Burin's
writes and the erase journal (spec 14 R340 to R348, R352 to R355). -/
namespace Sys2Proof.Machine
open Sys2Proof

def State.updNv (s : State) (f : NvSt → NvSt) : State := { s with nv := f s.nv }

/-- NV_STAT.BUSY: a Burin write or erase waits or runs. -/
def State.nvBusy (s : State) : State :=
  s.putB NV_STAT NV_STAT_BUSY (s.nv.q4.any (fun j => j.what == .words) || s.flag NV_JRNL_STAT NV_JRNL_STAT_ACTIVE)

/-! ### One word (R340, R343) -/

/-- The bytes of a word. -/
def wordBytes (v : BitVec 64) : List Byte := bytesLE 8 v.toNat

/-- A word whose third write failed with no spare free: it is left as it stands, and what it reads as is open (log 2). -/
def State.brokenWord (s : State) (off : Nat) : State :=
  let lo := (Config.freeWord s.freeCtr).toNat
  let hi := (Config.freeWord (s.freeCtr + 1)).toNat
  { s with freeCtr := s.freeCtr + 2 }.mramWrite off (bytesLE 4 lo ++ bytesLE 4 hi)

/-- Offset of the spare partition, whose first sector holds the remap entries (R69, R343). -/
def spareBase : Nat := 0x00300000

/-- The remap entry of a sector and a spare, with its valid mark in the top byte (R343). -/
def remapWord (sector spare : Nat) : BitVec 64 := BitVec.ofNat 64 (0xA5 * 2 ^ 56 + (Config.remapEntry sector spare).toNat)

/-- The words of a replacement (R343): the other 511 of the sector, the failing word, the remap entry. -/
def State.remapWords (s : State) (sector spare k : Nat) (v : BitVec 64) : List (Nat × BitVec 64) :=
  let from_ (j : Nat) : BitVec 64 := BitVec.ofNat 64 (ofBytesLE (memRead s.mram.cells (4096 * sector + 8 * j) 8))
  let dest (j : Nat) : Nat := spareBase + 4096 * (spare + 1) + 8 * j
  ((List.range 512).filter (fun j => j != k)).map (fun j => (dest j, from_ j)) ++
    [(dest k, v), (spareBase + 8 * spare, remapWord sector spare)]

/-- A word is written and read back (R343): `fails` of its 3 writes read back wrong. After the third the sector is to be
replaced by a free spare, before any other word, or with none free the word is left and its sector refused from then on. -/
def State.nvWord (s : State) (off : Nat) (v : BitVec 64) (fails : Fin 4) : State :=
  let sector := s.physSector (off / 4096)
  if s.mram.failed.contains sector then s.putB NV_STAT NV_STAT_REFUSED true
  else if fails.val < 3 then s.mramWrite off (wordBytes v)
  else
    let n := s.get NV_STAT NV_STAT_SPARES
    if n = 0 then
      ({ s with mram := { s.mram with failed := s.mram.failed ++ [sector] } }.brokenWord off).raise 0x1D 0
    else
      let s := (s.put NV_STAT NV_STAT_SPARES (n - 1)).brokenWord off
      let j : NvJob := ⟨.remap sector (255 - n), s.remapWords sector (255 - n) (off % 4096 / 8) v, 513, 513⟩
      s.updNv (fun x => { x with q1 := j :: x.q1 })

/-- Word times a word takes: one for each of its writes. -/
def wordTimes (fails : Fin 4) : Nat := min 3 (fails.val + 1)

/-! ### Jobs of priority 1, 2 and 4 (R341) -/

/-- The reset word of ADC_CALTAB: GAIN 32,768 and OFS 0 (R301). -/
def noCalib : Nat → Word := fun _ => 0x80000000

/-- Calibration records take the place of those before them (R301). -/
def calibAll (l : List (Nat × Word)) : List (Nat × Word) → List (Nat × Word)
  | [] => l
  | (k, w) :: r => calibAll (writeD noCalib l k w) r

/-- A boot-select record stands, at its place in the ring (R77); that of a confirmed trial ends the trial (R78). -/
def State.bootDone (s : State) (source : BootBy) (r : BootRec) (off : Nat) : State :=
  let s := { s with mram := { s.mram with bootSel := some r, bootAt := (off - bootRing) / 64 } }
  if source = .confirm then (s.putB BOOT_STAT BOOT_STAT_TRIAL s.proc.trialOpen).raise 0x15 2 else s

/-- The spare takes the sector's place under each of its addresses (R343). -/
def State.remapDone (s : State) (sector spare : Nat) : State :=
  let dest := 768 + (spare + 1)
  let s := { s with mram := { s.mram with remap := s.mram.remap ++ [(sector, dest)] } }
  let l := memRead s.mram.cells (4096 * dest) 4096
  let m := ((s.namesOf dest).filter (fun b => b != dest)).foldl (fun m b => memWrite m (4096 * b) l) s.mram.cells
  { s with mram := { s.mram with cells := m } }.raise 0x1B 0

/-- A calibration record stands at its place, the newest of its input (R300, R301). -/
def State.calibDone (s : State) (tab : List (Nat × Word)) (off : Nat) : State :=
  let k := (off - calibBase) / 64
  let l := s.mram.calibAlt.filter (fun i => i ≠ k / 2)
  { s with mram := { s.mram with calib := calibAll s.mram.calib tab, calibAlt := if k % 2 = 0 then l else k / 2 :: l } }

/-- What a finished job leaves (R77, R84, R301, R343, R376). -/
def State.jobDone (s : State) (j : NvJob) : State :=
  match j.what with
  | .boot x r => s.bootDone x r ((j.all.getD 0 (bootRing, 0)).1)
  | .proof c => { s with mram := { s.mram with proofCtr := c } }
  | .remap a b => s.remapDone a b
  | .counter ms c => { s with mram := { s.mram with counters := some (ms, c) } }
  | .calib tab => s.calibDone tab ((j.all.getD 0 (calibBase, 0)).1)
  | .record => s
  | .words => s
  | .fix => s

/-- The next word of a job. -/
def State.jobWord (s : State) (j : NvJob) (fails : Fin 4) : State :=
  match j.all[j.total - j.left]? with
  | some w => s.nvWord w.1 w.2 fails
  | none => s

/-- A queue of jobs after the head's next word. -/
def jobNext (j : NvJob) (r : List NvJob) : List NvJob := if j.left ≤ 1 then r else { j with left := j.left - 1 } :: r

/-- Every word of a job that is left, written. -/
def State.flushWords (s : State) : List (Nat × BitVec 64) → State
  | [] => s
  | w :: r => State.flushWords (s.nvWord w.1 w.2 0) r

/-- The jobs of priority 1 are written to their end, unless the engine is blocked (R341, R346). -/
def State.nvFirst (s : State) : State :=
  if s.nvBlocked then s
  else
    s.nv.q1.foldl (fun s j => (s.flushWords (j.all.drop (j.total - j.left))).jobDone j)
      (s.updNv (fun n => { n with q1 := [] }))

/-! ### Boot-select records (R77, R78) -/

/-- The newest valid boot-select record; with none, slot A without a trial. -/
def State.bootRec (s : State) : BootRec := s.mram.bootSel.getD ⟨0, 0, false, 0⟩

/-- Boot-select records that wait to be written. -/
def State.bootWaits (s : State) : Nat :=
  (s.nv.q1.filter (fun j => match j.what with
    | .boot _ _ => true | .proof _ => false | .remap _ _ => false | .counter _ _ => false | .calib _ => false
    | .record => false | .words => false | .fix => false)).length

/-- The bytes of a boot-select record, its valid mark last (R77). -/
def BootRec.bytes (r : BootRec) : List Byte :=
  (List.range 63).map (Config.bootRecord r.seq r.slot r.trial r.attempts) ++ [(0xA5 : Byte)]

/-- A boot-select record, the next of the ring, joins the writers of priority 1. -/
def State.queueBoot (s : State) (source : BootBy) (slot : Nat) (trial : Bool) (attempts : Nat) : State :=
  let n := 1 + s.bootWaits
  let r : BootRec := ⟨(s.bootRec.seq + n) % 2 ^ 32, slot, trial, attempts⟩
  s.nvQueue1 (recordJob (.boot source r) (bootRing + 64 * ((s.mram.bootAt + n) % 1024)) r.bytes)

/-! ### Steps of the engine -/

/-- The head job's word and, with its last word, what it leaves. -/
def State.jobStep (s : State) (j : NvJob) (fails : Fin 4) : State :=
  let s := s.jobWord j fails
  if j.left ≤ 1 then s.jobDone j else s

/-! ### Records of the Plate (R348, R352 to R355) -/

/-- A slot can take a record of a severity (R354). -/
def State.slotTakes (s : State) (sev i : Nat) : Bool := !s.slotMarked i || decide (s.slotSev i ≤ sev)

/-- The first slot from `i` on that can, within `n` slots. -/
def State.findSlot (s : State) (sev i : Nat) : Nat → Option Nat
  | 0 => none
  | n + 1 => if s.slotTakes sev i then some i else State.findSlot s sev ((i + 1) % plateSlots) n

/-- The Plate holds no valid record. -/
def State.plateEmpty (s : State) : Bool := (List.range 5).all (fun v => s.get (PLATE_SEVCNT v) PLATE_SEVCNT_COUNT == 0)

/-- The slot for a new record of a severity (R354). -/
def State.chooseSlot (s : State) (sev : Nat) : Option Nat :=
  let start := if s.plateEmpty then 0 else (s.get PLATE_WPTR PLATE_WPTR_SLOT + 1) % plateSlots
  s.findSlot sev start plateSlots

/-- The words of a record: over a valid record its last word first, with a mark of 0 (R348). -/
def State.recordWords (s : State) (slot : Nat) (r : PlateRec) (seq : Nat) : List (Nat × BitVec 64) :=
  let ws := words64 (slotAt slot) 8 (r.bytes seq (s.rd PWR_CYCLES).toNat)
  if s.slotMarked slot then
    let old := (s.slotBytes slot).drop 56
    (slotAt slot + 56, BitVec.ofNat 64 (ofBytesLE (old.take 7 ++ [0]))) :: ws
  else ws

/-- The item next in the order of R352: kind, id and body, with the slot of an in-place update. -/
def State.plateNext (s : State) : Option (Nat × FifoEntry) :=
  let hi := s.plate.fifo.find? (fun e => decide (3 ≤ e.body.sev))
  match hi with
  | some e => some (if e.update.isSome then 3 else 0, e)
  | none =>
    match s.plate.marks with
    | m :: _ => some (1, ⟨0, m, none⟩)
    | [] =>
      match s.plate.snap with
      | r :: _ => some (2, ⟨0, r, none⟩)
      | [] => match s.plate.fifo with
        | e :: _ => some (if e.update.isSome then 3 else 0, e)
        | [] => none

/-- The item leaves its queue. -/
def State.plateTake (s : State) (kind id : Nat) : State :=
  s.updPlate (fun p =>
    if kind = 1 then { p with marks := p.marks.drop 1 }
    else if kind = 2 then { p with snap := p.snap.drop 1 }
    else { p with fifo := p.fifo.filter (fun e => e.id ≠ id) })

/-- A slot has been chosen for another record (R353): it is nobody's target, and an update that waits for it goes, as a
copy with the update applied, to a new record. -/
def State.slotLost (s : State) (slot : Nat) : State :=
  let b := s.slotBytes slot
  match s.plate.fifo.find? (fun e => e.update == some slot) with
  | none => s.updPlate (fun p => { p with newest := p.newest.filter (fun n => n.place != .slot slot) })
  | some e =>
    let r : PlateRec :=
      { type := (b.getD 0 0).toNat, sev := (b.getD 1 0).toNat, esn := (b.getD 2 0).toNat, code := (b.getD 3 0).toNat,
        first := ofBytesLE ((b.drop 8).take 6), frm := ofBytesLE ((b.drop 14).take 2), last := e.body.last,
        rep := e.body.rep, payload := (b.drop 24).take 32 }
    s.updPlate (fun p =>
      { p with fifo := p.fifo.map (fun x => if x.id = e.id then { x with body := r, update := none } else x),
               newest := p.newest.map (fun n => if n.place = .slot slot then { n with place := .fifo e.id } else n) })

/-- A record dropped from the FIFO is no target any more (R353, R354). -/
def State.dropTarget (s : State) (kind id : Nat) : State :=
  if kind = 0 then s.updPlate (fun p => { p with newest := p.newest.filter (fun n => n.place != .fifo id) }) else s

/-- A record of the Plate is begun: its slot is chosen, or it is dropped (R354). -/
def State.beginRecord (s : State) (kind : Nat) (e : FifoEntry) : State :=
  match s.chooseSlot e.body.sev with
  | none => (((s.plateTake kind e.id).dropTarget kind e.id).plateDrop e.body).plateLevel
  | some slot =>
    let seq := ((s.rd PLATE_SEQ).toNat + 1) % 2 ^ 32
    let ws := s.recordWords slot e.body seq
    let old := min 4 (s.slotSev slot)
    let s := if s.slotMarked slot then
        (s.put (PLATE_SEVCNT old) PLATE_SEVCNT_COUNT (s.get (PLATE_SEVCNT old) PLATE_SEVCNT_COUNT - 1)).slotLost slot
      else s
    let s := (s.put PLATE_WPTR PLATE_WPTR_SLOT slot).put PLATE_SEQ PLATE_SEQ_SEQ seq
    s.updPlate (fun p => { p with writing := some ⟨kind, e.id, slot, e.body, ws, ws⟩ })

/-- Words the next item needs (R355). -/
def State.itemWords (s : State) (kind : Nat) (e : FifoEntry) : Nat :=
  if kind = 3 then 1
  else match s.chooseSlot e.body.sev with
    | some slot => if s.slotMarked slot then 9 else 8
    | none => 0

/-- The item is begun. -/
def State.beginItem (s : State) (kind : Nat) (e : FifoEntry) : State :=
  if kind = 3 then
    let slot := e.update.getD 0
    let ws := [(slotAt slot + 16, e.body.lastWord)]
    s.updPlate (fun p => { p with writing := some ⟨3, e.id, slot, e.body, ws, ws⟩ })
  else s.beginRecord kind e

/-- A record's valid mark has been written: it is counted and leaves its queue (R352, R353). -/
def State.recordDone (s : State) (w : Writing) : State :=
  let s := (s.updPlate (fun p => { p with writing := none })).plateTake w.kind w.id
  let s :=
    if w.kind = 3 then s
    else
      let v := min 4 w.body.sev
      let s := (s.put (PLATE_SEVCNT v) PLATE_SEVCNT_COUNT (s.get (PLATE_SEVCNT v) PLATE_SEVCNT_COUNT + 1)).plateFull
      s.updPlate (fun p => { p with newest := p.newest.map (fun n =>
        if w.kind = 0 && n.place = .fifo w.id then { n with place := .slot w.slot } else n) })
  s.plateLevel

/-- The next word of the record being written. -/
def State.plateWord (s : State) (w : Writing) (fails : Fin 4) : State :=
  match w.left with
  | [] => s.recordDone w
  | x :: r =>
    let s := (s.nvWord x.1 x.2 fails).updPlate (fun p => { p with writing := some { w with left := r } })
    if r.isEmpty then s.recordDone { w with left := r } else s

/-! ### Burin's writes and the erase journal (R344, R345) -/

/-- Offset of the journal's base sector. -/
def State.jrnlSector (s : State) : Nat := s.get NV_JRNL_BASE NV_JRNL_BASE_SECTOR + s.get NV_JRNL_DONE NV_JRNL_DONE_DONE

/-- The offset lies in the Plate, or in the boot and proof counters partition while the code that runs is not the boot
ROM's (R344). -/
def State.nvForbidden (s : State) (off : Nat) : Bool :=
  decide (plateBase ≤ off) || (decide (bootRing ≤ off) && decide (off < spareBase) && s.proc.mode != .recovery)

/-- One word of the erase; one that lies where Burin must not write is refused. -/
def State.eraseStep (s : State) (fails : Fin 4) : State :=
  let k := s.nv.eraseWord
  let off := 4096 * s.jrnlSector + 8 * k
  let s := if s.nvForbidden off then s.putB NV_STAT NV_STAT_REFUSED true else s.nvWord off 0 fails
  if k < 511 then s.updNv (fun n => { n with eraseWord := k + 1 })
  else
    let d := s.get NV_JRNL_DONE NV_JRNL_DONE_DONE + 1
    let s := (s.updNv (fun n => { n with eraseWord := 0 })).put NV_JRNL_DONE NV_JRNL_DONE_DONE d
    if s.get NV_JRNL_LEN NV_JRNL_LEN_LEN ≤ d then s.putB NV_JRNL_STAT NV_JRNL_STAT_ACTIVE false else s

/-- A word for a writer of priority 4: Burin's writes and write-backs first, then the erase. -/
def State.lowWord (s : State) (fails : Fin 4) : State :=
  match s.nv.q4 with
  | j :: r => ((s.updNv (fun n => { n with q4 := jobNext j r })).jobStep j fails).nvBusy
  | [] => if s.flag NV_JRNL_STAT NV_JRNL_STAT_ACTIVE then (s.eraseStep fails).nvBusy else s

/-- A word time for the Plate, or for priority 4 where the Plate has none or its next item does not fit (R355). -/
def State.plateOrLow (s : State) (fails : Fin 4) : State :=
  if !s.flag PLATE_STAT PLATE_STAT_READY then s.lowWord fails
  else
    match s.plate.writing with
    | some w => s.plateWord w fails
    | none =>
      match s.plateNext with
      | none => s.lowWord fails
      | some (kind, e) =>
        if 125 < s.nv.used + s.itemWords kind e then s.lowWord fails
        else
          let s := s.beginItem kind e
          match s.plate.writing with
          | some w => s.plateWord w fails
          | none => s

/-- The Plate has a word to write in this frame (R355). -/
def State.plateDue (s : State) : Bool :=
  s.flag PLATE_STAT PLATE_STAT_READY && (s.plate.writing.isSome || (match s.plateNext with
    | some k => decide (s.nv.used + s.itemWords k.1 k.2 ≤ 125)
    | none => false))

/-- Some writer has a word for the engine (R341). -/
def State.nvDue (s : State) : Bool :=
  !s.nv.q1.isEmpty || !s.nv.q2.isEmpty || s.plateDue || !s.nv.q4.isEmpty || s.flag NV_JRNL_STAT NV_JRNL_STAT_ACTIVE

/-- NV_WORD_WRITE (R340, R341, R343, R346, R355): one word of the writer whose turn it is, unless BOW blocks the engine
or the frame's 125 word times are used. -/
def execNvWordWrite (fails : Fin 4) (s : State) : Host.Outcome State Fault Refusal :=
  done <| s.when (s.inRun && !s.nvBlocked && decide (s.nv.used < 125) && s.nvDue) fun s =>
    let t := match s.nv.q1 with
      | j :: r => (s.updNv (fun n => { n with q1 := jobNext j r })).jobStep j fails
      | [] =>
        match s.nv.q2 with
        | j :: r => (s.updNv (fun n => { n with q2 := jobNext j r })).jobStep j fails
        | [] => s.plateOrLow fails
    t.updNv (fun n => { n with used := n.used + wordTimes fails })

/-- Every writer is empty (R363). -/
def State.nvIdle (s : State) : Bool :=
  s.nv.q1.isEmpty && s.nv.q2.isEmpty && s.nv.q4.isEmpty && s.plate.fifo.isEmpty && s.plate.marks.isEmpty &&
  s.plate.snap.isEmpty && s.plate.writing.isNone && !s.flag NV_JRNL_STAT NV_JRNL_STAT_ACTIVE &&
  !s.flag PLATE_STAT PLATE_STAT_FLOOD

/-! ### Brown-out (R346) -/

/-- A job caught part-written is written again from its first word. -/
def jobAgain : List NvJob → List NvJob
  | [] => []
  | j :: r => { j with left := j.total } :: r

/-- BOW blocks the engine (R346). -/
def State.nvBlock (s : State) : State :=
  let s := s.updNv (fun n => { n with q1 := jobAgain n.q1, q2 := jobAgain n.q2, q4 := jobAgain n.q4 })
  let s := s.updPlate (fun p => { p with writing := p.writing.map (fun w => { w with left := w.all }) })
  s.putB PLATE_STAT PLATE_STAT_BLOCKED true

/-- The block ends (R346). -/
def State.nvUnblock (s : State) : State := s.putB PLATE_STAT PLATE_STAT_BLOCKED false

/-! ### Burin's commands (R344, R345) -/


/-- NV_CMD WRITE: the word waits for the engine, or is refused (R344). -/
def State.burinWrite (s : State) : State :=
  let off := 8 * s.get NV_ADDR NV_ADDR_WORD
  if s.nvForbidden off then s.putB NV_STAT NV_STAT_REFUSED true
  else
    let v : BitVec 64 := BitVec.ofNat 64 ((s.rd NV_DATA_LO).toNat + 2 ^ 32 * (s.rd NV_DATA_HI).toNat)
    (s.nvQueue4 ⟨.words, [(off, v)], 1, 1⟩).nvBusy

/-- A sector of an erase lies in a partition Burin must not write. -/
def State.eraseForbidden (s : State) : Bool :=
  (List.range (s.get NV_JRNL_LEN NV_JRNL_LEN_LEN)).any (fun k => s.nvForbidden (4096 * (s.get NV_JRNL_BASE NV_JRNL_BASE_SECTOR + k)))

/-- NV_CMD ERASE starts the journal; one that would enter a protected partition is refused (R344, R345). -/
def State.burinErase (s : State) : State :=
  if s.eraseForbidden then s.putB NV_STAT NV_STAT_REFUSED true
  else
    let s := (s.updNv (fun n => { n with eraseWord := 0 })).put NV_JRNL_DONE NV_JRNL_DONE_DONE 0
    let s := s.put NV_JRNL_STAT NV_JRNL_STAT_INTERRUPTED 0
    (s.putB NV_JRNL_STAT NV_JRNL_STAT_ACTIVE (s.get NV_JRNL_LEN NV_JRNL_LEN_LEN != 0)).nvBusy

/-- NV_CMD RESUME continues from sector BASE + DONE, unless the erase would enter a protected partition (R344, R345). -/
def State.burinResume (s : State) : State :=
  if !s.flag NV_JRNL_STAT NV_JRNL_STAT_INTERRUPTED then s
  else if s.eraseForbidden then s.putB NV_STAT NV_STAT_REFUSED true
  else
    let s := (s.updNv (fun n => { n with eraseWord := 0 })).putB NV_JRNL_STAT NV_JRNL_STAT_INTERRUPTED false
    ((s.putB NV_JRNL_STAT NV_JRNL_STAT_ACTIVE true).raise 0x1E 0).nvBusy

/-- A job that Burin firmware does not issue (R337). -/
def NvWhat.byHardware : NvWhat → Bool
  | .boot source _ => source != .firmware
  | .proof _ => true
  | .remap _ _ => true
  | .counter _ _ => true
  | .calib _ => true
  | .record => true
  | .words => false
  | .fix => true

/-- The jobs that go on over a D_PROC reset (R337). -/
def keptJobs (l : List NvJob) : List NvJob := l.filter (fun j => j.what.byHardware)

/-- A D_PROC reset cuts an erase, Burin's writes, its gauge records and an activation short (R337, R345). -/
def State.nvProcReset (s : State) : State :=
  let s := s.updNv (fun n =>
    { n with q1 := keptJobs n.q1, q2 := keptJobs n.q2, q4 := keptJobs n.q4, eraseWord := 0 })
  if s.flag NV_JRNL_STAT NV_JRNL_STAT_ACTIVE then
    ((s.putB NV_JRNL_STAT NV_JRNL_STAT_ACTIVE false).putB NV_JRNL_STAT NV_JRNL_STAT_INTERRUPTED true).nvBusy
  else s.nvBusy

end Sys2Proof.Machine
end

