-- ==== Sys2Proof/Machine/Rtc.lean ====
section
/-! DEFINITION. The backup domain and the operating time: trimmed counting, the calendar, setting it, the periodic wake,
switch-over stamps and counter records (spec 15 R365 to R379). -/
namespace Sys2Proof.Machine
open Sys2Proof

def State.updBak (s : State) (f : BakSt → BakSt) : State := { s with bak := f s.bak }
def State.updOpt (s : State) (f : OptSt → OptSt) : State := { s with opt := f s.opt }

/-! ### Counting (R365, R367, R371, R375) -/

/-- Steps of 1/256 s in the calendar's range (R368). -/
def calLimit : Nat := 256 * 6311433600

/-- Trim in ppm: −128 acts as −127 (R365, R379). -/
def State.trim (s : State) : Int := max (-127) (s.getI RTC_TRIM RTC_TRIM_TRIM)

/-- Trimmed cycles that `n` crystal cycles make, with the accumulator at `acc`, and the accumulator after them (R365). -/
def trimmed (t : Int) (acc n : Nat) : Nat × Nat :=
  let a := acc + t.natAbs * n
  let k := a / 1000000
  (if t > 0 then n - k else n + k, a % 1000000)

/-- Steps left of the periodic wake after `n` steps, and whether it expired (R371). -/
def wakeRun (period left n : Nat) : Nat × Bool :=
  if period = 0 then (0, false)
  else if n < left then (left - n, false)
  else (period - (n - left) % period, true)

/-- The wake period in steps: above 24 h it acts as 24 h (R371). -/
def State.wakePeriod (s : State) : Nat := min 22118400 (s.get RTC_WAKE RTC_WAKE_PERIOD)

/-- The periodic wake counts steps (R371). -/
def State.wakeSteps (s : State) (n : Nat) : State :=
  let w := wakeRun s.wakePeriod s.bak.wakeLeft n
  s.updBak (fun b => { b with wakeLeft := w.1, wakeDue := b.wakeDue || w.2 })

/-- The calendar after `n` steps; past its last second it wraps and is no longer valid (R368). -/
def State.calSteps (s : State) (n : Nat) : State :=
  let c := s.bak.cal + n
  let s := s.updBak (fun b => { b with cal := c % calLimit })
  if calLimit ≤ c then s.putB RTC_STAT RTC_STAT_VALID false else s

/-- `n` trimmed cycles of the backup domain (R365, R368, R371). -/
def State.bakCycles (s : State) (n : Nat) : State :=
  let c := s.bak.cycles + n
  ((s.updBak (fun b => { b with cycles := c % 128 })).calSteps (c / 128)).wakeSteps (c / 128)

/-- The operating time in its registers, and its shadow in the backup domain, which takes no write while its crystal stands
(R65, R375, R378). -/
def State.optShow (s : State) : State :=
  let live := s.bak.crystal && !s.flag RTC_STAT RTC_STAT_SUBST
  ((s.wr RTC_OPT_LO (BitVec.ofNat 32 s.opt.ms)).put RTC_OPT_HI RTC_OPT_HI_OPT (s.opt.ms / 2 ^ 32)).updBak (fun b =>
    { b with shadowOpt := if live then s.opt.ms else b.shadowOpt })

/-- Operating time moves on (R375). -/
def State.optAdd (s : State) (n : Nat) : State := (s.updOpt (fun o => { o with ms := (o.ms + n) % 2 ^ 48 })).optShow

/-- The stamp of the switch-over, its count and SWO_STAMPED are cleared (R372). -/
def State.clearSwo (s : State) : State :=
  let s := ((((s.wr RTC_SWO_CNT 0).wr RTC_SWO_CAL_LO 0).wr RTC_SWO_CAL_HI 0).wr RTC_SWO_OPT_LO 0).wr RTC_SWO_OPT_HI 0
  (s.putB RTC_STAT RTC_STAT_SWO_STAMPED false).updOpt (fun o => { o with swoCross := false })

/-- Writes that cross into the backup domain with its crystal: CLEAR_SWO arrives, and a SET is due at the first trimmed step,
`step` (R65, R370, R372). -/
def State.crossed (s : State) (n : Nat) (step : Bool) : State :=
  let s := s.updOpt (fun o => { o with setDue := o.setDue || (o.setCross.isSome && step) })
  if s.opt.swoCross && n != 0 then s.clearSwo else s

/-- `n` crystal cycles: the backup domain counts them, and with `live` the operating time too (R365, R375). -/
def State.xtalCycles (s : State) (n : Nat) (live : Bool) : State :=
  let t := trimmed s.trim s.bak.trimAcc n
  let step := decide (128 ≤ s.bak.cycles + t.1)
  let s := ((s.updBak (fun b => { b with trimAcc := t.2 })).bakCycles t.1).crossed n step
  if live then
    let a := s.opt.acc + 1000 * t.1
    (s.updOpt (fun o => { o with acc := a % 32768 })).optAdd (a / 32768)
  else s

/-- `n` clocks of MAIN while the crystal fault stands: the substitute counts (R367, R371). -/
def State.substClocks (s : State) (n : Nat) : State :=
  let a := s.opt.substStep + n
  let b := s.opt.substMs + n
  let s := s.updOpt (fun o =>
    { o with substStep := a % 390625, substMs := b % 100000, substCal := (o.substCal + a / 390625) % calLimit })
  (s.wakeSteps (a / 390625)).optAdd (b / 100000)

/-- Time that passes with a frame of `n` clocks in which `x` crystal cycles are seen; nothing counts while the crystal is
stopped (R366). -/
def State.timeTick (s : State) (x n : Nat) : State :=
  if s.flag RTC_STAT RTC_STAT_SUBST then s.substClocks n else if s.bak.crystal then s.xtalCycles x true else s

/-! ### A reset of the domain (R374) -/

/-- D_BAK is reset, and the crystal starts. -/
def State.bakReset (s : State) : State :=
  { s with regs := s.regs.filter (fun p => domainOf p.1 != some .dBak),
           bak := { trimFresh := true, crystal := true } }

/-! ### Setting (R370) -/

/-- RTC_CTL SET: the value crosses, or is ignored if its seconds are out of range. -/
def State.rtcSet (s : State) : State :=
  let sec := (s.rd RTC_SET_LO).toNat + 2 ^ 32 * s.get RTC_SET_HI RTC_SET_HI_SEC
  if 6311433599 < sec then s.putB RTC_STAT RTC_STAT_SET_IGN true
  else s.updOpt (fun o => { o with setCross := some (256 * sec + s.get RTC_SET_HI RTC_SET_HI_SUB), setDue := false })

/-- A write of RTC_CTL.CMD: both commands cross into the backup domain (R65, R379). -/
def State.rtcCmd (s : State) (c : Nat) : State :=
  if c = 1 then s.rtcSet else if c = 2 then s.updOpt (fun o => { o with swoCross := true }) else s

/-- SET (R370). -/
def execSet (s : State) : Host.Outcome State Fault Refusal := done <| s.when s.inRun fun s => s.rtcSet

/-- CLEAR_SWO (R372): the command reaches the backup domain. -/
def execClearSwo (s : State) : Host.Outcome State Fault Refusal := done <| s.when s.inRun fun s => s.clearSwo

/-- A raise of ESN 0x94 and its clock mark (R357, R370). -/
def State.calEvent (s : State) (code before : Nat) : State :=
  let s := s.raise 0x94 code
  s.addMark (s.clockMark 0x94 code code (before / 256))

/-- CALENDAR_LOAD: the value that crossed is loaded at the next trimmed step (R370). A substitute load comes first
(R378). -/
def execCalendarLoad (s : State) : Host.Outcome State Fault Refusal :=
  done <| s.when (s.inRun && s.opt.setCross.isSome && s.opt.setDue && !s.flag RTC_STAT RTC_STAT_SUBST) fun s =>
    let before := s.calendar
    let s := (s.updBak (fun b => { b with cal := s.opt.setCross.getD 0 })).updOpt (fun o =>
      { o with setCross := none, setDue := false })
    (s.putB RTC_STAT RTC_STAT_VALID true).calEvent 1 before

/-- A write of RTC_TRIM (R370). -/
def State.trimWrite (s : State) (v : Nat) : State :=
  let before := s.calendar
  (s.put RTC_TRIM RTC_TRIM_TRIM v).calEvent 2 before

/-- A write of RTC_WAKE: the wake counts from the step at which it takes effect (R371). -/
def State.wakeWrite (s : State) (v : Nat) : State :=
  let s := s.put RTC_WAKE RTC_WAKE_PERIOD v
  s.updBak (fun b => { b with wakeLeft := s.wakePeriod })

/-! ### Reads that latch (R369, R375) -/

/-- A read of RTC_SEC_LO. -/
def State.secLoRead (s : State) : Word × State :=
  (rtcSecLo s.calendar, s.updOpt (fun o => { o with calLatch := some s.calendar }))

/-- RTC_SEC_LO_READ (R369). -/
def execRtcSecLoRead (s : State) : Host.Outcome State Fault Refusal :=
  done <| s.when s.inRun fun s => { s.secLoRead.2 with out := [s.secLoRead.1] }

/-- A read of RTC_OPT_LO. -/
def State.optLoRead (s : State) : Word × State :=
  (BitVec.ofNat 32 s.opt.ms, s.updOpt (fun o => { o with optLatch := some s.opt.ms }))

/-- RTC_OPT_LO_READ (R375). -/
def execRtcOptLoRead (s : State) : Host.Outcome State Fault Refusal :=
  done <| s.when s.inRun fun s => { s.optLoRead.2 with out := [s.optLoRead.1] }

/-! ### Events of the domain (R366, R368, R373, R376) -/

/-- CRYSTAL_STOP: the stop detector fires (R366). -/
def execCrystalStop (s : State) : Host.Outcome State Fault Refusal :=
  done <| s.when (s.power != .unpowered) fun s =>
    ((s.putB RTC_STAT RTC_STAT_XSTOP true).putB RTC_STAT RTC_STAT_VALID false).updBak (fun b => { b with crystal := false })

/-- CALENDAR_WRAP: the step after the last second (R368). -/
def execCalendarWrap (s : State) : Host.Outcome State Fault Refusal :=
  done <| s.when (s.power != .unpowered && s.bak.cal == calLimit - 1) fun s =>
    ((s.updBak (fun b => { b with cycles := 0 })).calSteps 1).wakeSteps 1

/-- ESNs to be raised at the first tick after MAIN runs, or after the configuration load. -/
def State.raiseLater (s : State) (esn code hi : Nat) : State :=
  s.updOpt (fun o => { o with firstTick := o.firstTick ++ [(esn, code, hi)] })

/-- VBAK_LOW (R373): VBAK, in mV, falls below 2.0 V, with VSYS present or from VBAK. -/
def execVbakLow (vbak : BitVec 12) (s : State) : Host.Outcome State Fault Refusal :=
  done <| s.when (s.power != .unpowered && decide (vbak.toNat < 2000)) fun s =>
    match s.power with
    | .run => s.raise 0x96 1
    | .standby => s.raiseLater 0x96 1 0
    | _ => (s.putB RTC_STAT RTC_STAT_BAK_LOW true).updBak (fun b => { b with lowMark := true })

/-- The switch-over to VBAK is stamped, or counted (R372). -/
def State.switchOver (s : State) : State :=
  if s.flag RTC_STAT RTC_STAT_SWO_STAMPED then
    (s.bump RTC_SWO_CNT RTC_SWO_CNT_COUNT).updBak (fun b => { b with swoMark := some 2 })
  else
    let s := (s.wr RTC_SWO_CAL_LO (rtcSecLo s.bak.cal)).wr RTC_SWO_CAL_HI (rtcSecHi s.bak.cal)
    let s := (s.wr RTC_SWO_OPT_LO (BitVec.ofNat 32 s.bak.shadowOpt)).put RTC_SWO_OPT_HI RTC_SWO_OPT_HI_OPT
      (s.bak.shadowOpt / 2 ^ 32)
    (s.putB RTC_STAT RTC_STAT_SWO_STAMPED true).updBak (fun b => { b with swoMark := some 1 })

/-- The counter record of an operating time and a power-cycle count, its valid mark last; each takes the place after the one
before it, as one of the two counts has gone on (R376). -/
def counterJob (ms cyc : Nat) : NvJob :=
  recordJob (.counter ms cyc) (counterRing + 64 * ((ms / 3600000 + cyc) % 1024))
    ((List.range 63).map (Config.counterRecord ms cyc) ++ [(0xA5 : Byte)])

/-- A counter record of the operating time and the power cycles (R376). -/
def State.counterRecord (s : State) : State := s.nvQueue1 (counterJob s.opt.ms (s.rd PWR_CYCLES).toNat)

/-- COUNTER_RECORD_HOURLY (R376). -/
def execCounterRecordHourly (s : State) : Host.Outcome State Fault Refusal :=
  done <| s.when (s.inRun && decide (s.opt.hourRec < s.opt.ms / 3600000)) fun s =>
    (s.updOpt (fun o => { o with hourRec := o.ms / 3600000 })).counterRecord

end Sys2Proof.Machine
end

