-- ==== Sys2Proof/Machine/Regulators.lean ====
section
/-! DEFINITION. Integrated regulators: start, stop, protections, retries and segments (spec 07). -/
namespace Sys2Proof.Machine
open Sys2Proof

/-- The four kinds of regulator (R153). -/
inductive RegKind
  | hb | lb | ld | sw
  deriving DecidableEq, Repr

def regKind (r : Fin 14) : RegKind := if r.val < 2 then .hb else if r.val < 6 then .lb else if r.val < 10 then .ld else .sw

/-- The highest CODE of a kind (R153). -/
def RegKind.top : RegKind → Nat
  | .hb => 870 | .lb => 600 | .ld => 250 | .sw => 1023

/-- The setpoint of a CODE in mV (R154); a load switch has none. -/
def RegKind.setpoint : RegKind → Nat → Nat
  | .hb, c => 3300 + 10 * min c 870
  | .lb, c => 600 + 5 * min c 600
  | .ld, c => 800 + 10 * min c 250
  | .sw, _ => 1000

/-- The full output span of a kind in mV (R153, R158). -/
def RegKind.span : RegKind → Nat
  | .hb => 8700 | .lb => 3000 | .ld => 2500 | .sw => 1000

/-- The ESN of a regulator. -/
def regEsn (r : Fin 14) : Nat := 0x38 + r

/-- The setpoint of a regulator, mV. For a load switch the reference counts thousandths of its ramp. -/
def State.regSetpoint (s : State) (r : Fin 14) : Nat := (regKind r).setpoint (s.get (REG_VSET r) REG_VSET_CODE)

/-- The lowest input a regulator starts from, mV (R155). -/
def State.startMin (s : State) (r : Fin 14) : Nat :=
  match regKind r with
  | .hb => s.regSetpoint r + 2000
  | .lb => 4500
  | .ld => max (s.regSetpoint r + 300) 1400
  | .sw => 1000

/-- Frames of the ramp time (R156). -/
def State.rampFrames (s : State) (r : Fin 14) : Nat := 5 * (s.get (REG_CTL r) REG_CTL_SS + 1)

/-- How far the reference moves in a ramp time: the setpoint at the start, the full span once a CODE has been written
(R156, R158). -/
def State.rampSpan (s : State) (r : Fin 14) : Nat := s.regul[r].span

/-- The reference and its target, in mV times the frames of the ramp time. -/
def State.refNow (s : State) (r : Fin 14) : Nat := s.regul[r].vref * s.rampFrames r + s.regul[r].vfrac
def State.refTarget (s : State) (r : Fin 14) : Nat := s.regul[r].target * s.rampFrames r

/-- The reference after a frame of its move (R156, R158). -/
def State.refNext (s : State) (r : Fin 14) : Nat :=
  if s.refNow r ≤ s.refTarget r then min (s.refTarget r) (s.refNow r + s.rampSpan r)
  else max (s.refTarget r) (s.refNow r - s.rampSpan r)

/-- The reference stands at its target, or reaches it within the present frame, before the tick that ends it (R156). -/
def State.refNear (s : State) (r : Fin 14) : Bool :=
  decide (s.refNow r = s.refTarget r ∨
    (s.refTarget r < s.refNow r + s.rampSpan r ∧ s.refNow r < s.refTarget r + s.rampSpan r))

/-- The lower and the higher end, in mV, of what the reference passes through in the present frame. -/
def State.refLow (s : State) (r : Fin 14) : Nat := min (s.refNow r) (s.refNext r) / s.rampFrames r
def State.refHigh (s : State) (r : Fin 14) : Nat := max (s.refNow r) (s.refNext r) / s.rampFrames r

/-- An output in 125 µV stands below, or above, a fraction in thousandths of a level in mV. -/
def below (v ref permille : Nat) : Bool := decide (1000 * v < 8 * ref * permille)
def above (v ref permille : Nat) : Bool := decide (8 * ref * permille < 1000 * v)

/-- Thousandths of the reference, or of a load switch's input, at which the UV and the OV comparators act (R162). -/
def State.uvPermille (s : State) (r : Fin 14) : Nat := 950 - 50 * s.get (REG_PROT r) REG_PROT_UVSEL
def State.ovPermille (s : State) (r : Fin 14) : Nat := 1050 + 50 * s.get (REG_PROT r) REG_PROT_OVSEL

/-- The regulator drives its output. -/
def State.regOn (s : State) (r : Fin 14) : Bool := s.regul[r].run == .starting || s.regul[r].run == .running

/-! ### Stopping -/

/-- PG is cleared while EN was 1: code 0x05 follows where it was set (R163). -/
def State.regLosePG (s : State) (r : Fin 14) : State :=
  if s.flag (REG_STAT r) REG_STAT_PG then (s.putB (REG_STAT r) REG_STAT_PG false).raise (regEsn r) 0x05 else s

/-- ILIM of each kind in mA (R162). -/
def RegKind.ilim : RegKind → Nat → Nat
  | .hb, n => 3500 + 500 * n
  | .lb, n => 2500 + 500 * n
  | .ld, n => 350 + 100 * n
  | .sw, n => 2500 + 500 * n

/-- The switches or the pass device turn off; ON, SS and LIMIT read 0 (R157). -/
def State.regSwitchOff (s : State) (r : Fin 14) (run : RegRun) : State :=
  let s := s.updReg r (fun x =>
    { x with run := run, vref := 0, vfrac := 0, ovArmed := false, uvArmed := false, pgRun := 0, limRun := 0, limSeen := false,
             uvNow := false, sink := false, pendEn := none })
  s.wr (REG_STAT r) (setF (setF (setF (setF (s.rd (REG_STAT r)) REG_STAT_ON 0) REG_STAT_SS 0) REG_STAT_LIMIT 0)
    REG_STAT_PG 0)

/-- Off with EN reading 0 (R157, R162). -/
def State.regHalt (s : State) (r : Fin 14) : State := (s.regSwitchOff r .off).putB (REG_CTL r) REG_CTL_EN false

/-- A stop by a protection: its code, PG lost, off (R162, R163). -/
def State.regStop (s : State) (r : Fin 14) (code hi : Nat) : State := ((s.raise (regEsn r) code hi).regLosePG r).regHalt r

/-- A monitor fence of a regulator (R316): off as by disable; PG that it clears while EN is 1 is lost with code 0x05 (R163). -/
def State.regFenceOff (s : State) (r : Fin 14) : State :=
  (if s.flag (REG_CTL r) REG_CTL_EN then s.regLosePG r else s).regHalt r

/-! ### Starting (R155, R156, R164) -/

/-- The UV fault of the start check: the input is below the start minimum (R155). -/
def State.inputUv (s : State) (r : Fin 14) : State :=
  let s := s.regHalt r
  ((s.putB (REG_STAT r) REG_STAT_UV true).putB (REG_STAT r) REG_STAT_INUV true).raise (regEsn r) 0x02 1

/-- The reference ramps from 0 V (R156). -/
def State.regStart (s : State) (r : Fin 14) : State :=
  let s := s.updReg r (fun x =>
    { x with run := .starting, vref := 0, vfrac := 0, target := s.regSetpoint r, span := s.regSetpoint r, ovArmed := false,
             uvArmed := false, sink := false, cmpSeen := false, pgRun := 0, limRun := 0, limSeen := false, uvNow := false })
  (s.putB (REG_STAT r) REG_STAT_ON true).putB (REG_STAT r) REG_STAT_SS true

/-- The local sensor was latched at this tick (R170). -/
def State.otLatched (s : State) (r : Fin 14) : Bool :=
  match s.regul[r].otAt with
  | some f => decide (s.clk.frames ≤ f + 1)
  | none => false

/-- REG_ENABLE (R155, R170): the start check at the tick at which the enable takes effect, and the ramp or the UV
fault. -/
def execRegEnable (r : Fin 14) (vin : BitVec 16) (s : State) : Host.Outcome State Fault Refusal :=
  done <| s.atTick (s.engines && s.regul[r].pendEn == some true && decide (s.regul[r].askAt < s.clk.frames)) fun s =>
    let s := s.updReg r (fun x => { x with pendEn := none })
    if s.regOn r || s.regul[r].run == .retryWait then s
    else if s.otLatched r then s.regHalt r
    else if vin.toNat < s.startMin r then s.inputUv r
    else s.regStart r

/-- REG_RAMP_END (R156, R158): the reference reaches its setpoint and SS clears; at the end of the start ramp the OV
comparator is armed. -/
def execRegRampEnd (r : Fin 14) (s : State) : Host.Outcome State Fault Refusal :=
  done <| s.when (s.engines && s.regOn r && s.flag (REG_STAT r) REG_STAT_SS && s.refNear r)
    fun s =>
      (s.updReg r (fun x => { x with run := .running, vref := x.target, vfrac := 0, ovArmed := regKind r != .sw })).putB
        (REG_STAT r) REG_STAT_SS false

/-- REG_PG_SET (R156, R162): the fifth consecutive qualifying tick sets PG and arms the UV comparator. -/
def execRegPgSet (r : Fin 14) (s : State) : Host.Outcome State Fault Refusal :=
  done <| s.atTick (s.engines && s.regul[r].run == .running && !s.flag (REG_STAT r) REG_STAT_PG &&
      decide (5 ≤ s.regul[r].pgRun)) fun s =>
    ((s.updReg r (fun x => { x with uvArmed := true, pgSince := s.clk.frames })).putB (REG_STAT r) REG_STAT_PG true).raise
      (regEsn r) 0x06

/-- REG_DISABLE (R157, R170): the switches turn off at the tick and PG clears; a retry wait ends (R164). -/
def execRegDisable (r : Fin 14) (s : State) : Host.Outcome State Fault Refusal :=
  done <| s.atTick (s.engines && s.regul[r].pendEn == some false && decide (s.regul[r].askAt < s.clk.frames)) fun s => s.regHalt r

/-- REG_SETPOINT_CHANGE (R158): the reference moves to the new CODE; during the ramp it is retargeted. -/
def execRegSetpointChange (r : Fin 14) (s : State) : Host.Outcome State Fault Refusal :=
  done <| s.atTick (s.engines && s.regul[r].pendCode && decide (s.regul[r].askAt < s.clk.frames)) fun s =>
    let t := s.regSetpoint r
    let s := s.updReg r (fun x => { x with pendCode := false })
    if s.regOn r && regKind r != .sw then
      (s.updReg r (fun x => { x with target := t, span := (regKind r).span })).putB (REG_STAT r) REG_STAT_SS
        (s.regul[r].vref != t || s.regul[r].run == .starting)
    else s

/-! ### Fast protections (R162) -/

/-- REG_OVERVOLTAGE (R158, R162): HB, LB and LD, once the comparator is armed: the output, in 125 µV, stands above the
reference by OVSEL. The low side of a buck sinks its output. -/
def execRegOvervoltage (r : Fin 14) (v : BitVec 20) (s : State) : Host.Outcome State Fault Refusal :=
  done <| s.when (s.analog && s.regOn r && s.regul[r].ovArmed && above v.toNat (s.refLow r) (s.ovPermille r)) fun s =>
    ((s.putB (REG_STAT r) REG_STAT_OV true).regStop r 0x01 0).updReg r (fun x => { x with sink := decide (r.val < 6) })

/-- SW_REVERSE_CURRENT (R162): the output, in 125 µV, stands 50 mV above the input in mV, and the switch turns off. -/
def execSwReverseCurrent (k : Fin 4) (v : BitVec 20) (vin : BitVec 16) (s : State) : Host.Outcome State Fault Refusal :=
  let r : Fin 14 := ⟨10 + k, by omega⟩
  done <| s.when (s.analog && s.regul[r].run != .off && decide (8 * (vin.toNat + 50) < v.toNat)) fun s =>
    (s.putB (REG_STAT r) REG_STAT_OV true).regStop r 0x01 0

/-- The UV comparator is asserted (R156, R162): it holds back PG, and once it is armed PG is lost and operation
continues. -/
def State.uvAssert (s : State) (r : Fin 14) : State :=
  let s := s.updReg r (fun x => { x with cmpSeen := true, pgRun := 0, uvNow := true })
  if s.regul[r].uvArmed then ((s.putB (REG_STAT r) REG_STAT_UV true).raise (regEsn r) 0x02).regLosePG r else s

/-- REG_UNDERVOLTAGE (R156, R162): the output, in 125 µV, stands below the reference, or for a load switch below its input
`vin` in mV, by UVSEL. -/
def execRegUndervoltage (r : Fin 14) (v : BitVec 20) (vin : BitVec 16) (s : State) : Host.Outcome State Fault Refusal :=
  let level := if regKind r == .sw then vin.toNat else s.refHigh r
  done <| s.when (s.analog && s.regOn r && below v.toNat level (s.uvPermille r)) fun s => s.uvAssert r

/-- Number of segments that conduct. -/
def popcount (n : Nat) : Nat → Nat
  | 0 => 0
  | k + 1 => (if n.testBit k then 1 else 0) + popcount n k

/-- The current limit of a regulator in mA (R162); a buck's is scaled by n / 8 where a switch of it runs on n segments
without its spare (R169). -/
def State.ilim (s : State) (r : Fin 14) : Nat :=
  let full := (regKind r).ilim (s.get (REG_PROT r) REG_PROT_ILIM)
  let n (sw : Nat) : Nat := popcount (s.get (SEG_STAT sw) SEG_STAT_IN_USE) 9
  if r.val < 6 then full * min 8 (min (n (2 * r)) (n (2 * r + 1))) / 8 else full

/-- PEAK_CURRENT_LIMIT (R162): the high-side current `i`, in mA, is at ILIM; conduction ends for the cycle and LIMIT is set
for the frame. `again`: the cycle before was limited too. -/
def execPeakCurrentLimit (b : Fin 6) (i : BitVec 16) (again : Bool) (s : State) : Host.Outcome State Fault Refusal :=
  let r : Fin 14 := ⟨b, by omega⟩
  done <| s.when (s.engines && s.regOn r && decide (s.ilim r ≤ i.toNat)) fun s =>
    (s.updReg r (fun x => { x with limRun := if again then x.limRun + 1 else 1, limSeen := true })).putB (REG_STAT r)
      REG_STAT_LIMIT true

/-- LD_CURRENT_LIMIT (R162): the output current `i`, in mA, is held at ILIM and LIMIT is set. -/
def execLdCurrentLimit (k : Fin 4) (i : BitVec 16) (s : State) : Host.Outcome State Fault Refusal :=
  let r : Fin 14 := ⟨6 + k, by omega⟩
  done <| s.when (s.engines && s.regOn r && decide (s.ilim r ≤ i.toNat)) fun s =>
    (s.updReg r (fun x => { x with limSeen := true })).putB (REG_STAT r) REG_STAT_LIMIT true

/-- The current `i`, in mA, stops the regulator (R162): 64 limited cycles in a row or UV while LIMIT for a buck, 50 ticks for
an LDO; a load switch stops at a current above ILIM, which a short circuit above 8 A is too. UV counts here whether or not
its comparator is armed (DESIGN CHOICE, log 18). -/
def State.limPersists (s : State) (r : Fin 14) (i : Nat) : Bool :=
  match regKind r with
  | .hb | .lb => decide (64 ≤ s.regul[r].limRun) || (s.regul[r].uvNow && s.flag (REG_STAT r) REG_STAT_LIMIT)
  | .ld => decide (50 ≤ s.regul[r].limRun)
  | .sw => decide (s.ilim r < i)

/-- A stop for overcurrent (R164): off, or off for 500 frames before a restart; retries exhausted raise code 0x07. -/
def State.overcurrentStop (s : State) (r : Fin 14) : State :=
  let s := ((s.putB (REG_STAT r) REG_STAT_OC true).raise (regEsn r) 0x03).regLosePG r
  if !s.flag (REG_PROT r) REG_PROT_OC_MODE then s.regHalt r
  else if s.get (REG_STAT r) REG_STAT_RETRIES = s.get (REG_PROT r) REG_PROT_RETRY_MAX then
    (s.regHalt r).raise (regEsn r) 0x07
  else (s.regSwitchOff r .retryWait).updReg r (fun x =>
    { x with retryAt := s.clk.frames + 500, pendEn := s.regul[r].pendEn })

/-- REG_PERSISTENT_OVERCURRENT (R162, R164), at a current in mA. -/
def execRegPersistentOvercurrent (r : Fin 14) (i : BitVec 16) (s : State) : Host.Outcome State Fault Refusal :=
  done <| s.when (s.engines && s.regOn r && s.limPersists r i.toNat) fun s => s.overcurrentStop r

/-- REG_OVER_TEMPERATURE (R162, R170): off as for disable, EN reads 0. -/
def execRegOverTemperature (r : Fin 14) (s : State) : Host.Outcome State Fault Refusal :=
  done <| s.when s.analog fun s =>
    let s := s.updReg r (fun x => { x with otAt := some s.clk.frames })
    (s.putB (REG_STAT r) REG_STAT_OT true).regStop r 0x04 0

/-- RETRY_WAIT_END (R164): the restart is made through the start check; one that fails it is not counted. A write of EN = 0
ends the wait without a restart. -/
def execRetryWaitEnd (r : Fin 14) (vin : BitVec 16) (s : State) : Host.Outcome State Fault Refusal :=
  done <| s.atTick (s.engines && s.regul[r].run == .retryWait && decide (s.regul[r].retryAt ≤ s.clk.frames)) fun s =>
    if !s.flag (REG_CTL r) REG_CTL_EN then s.regHalt r
    else if vin.toNat < s.startMin r then s.inputUv r
    else (s.bump (REG_STAT r) REG_STAT_RETRIES).regStart r

/-- RETRIES_RESET (R164): PG has held for 1 s. -/
def execRetriesReset (r : Fin 14) (s : State) : Host.Outcome State Fault Refusal :=
  done <| s.atTick (s.engines && s.flag (REG_STAT r) REG_STAT_PG && decide (s.regul[r].pgSince + 50000 ≤ s.clk.frames)) fun s =>
    s.put (REG_STAT r) REG_STAT_RETRIES 0

/-! ### Segments (R166 to R170) -/

/-- The regulator of a switch. -/
def segReg (sw : Fin 12) : Fin 14 := ⟨sw / 2, by omega⟩

/-- Payload bits [12:8] of a segment's codes: the segment and the side (R168). -/
def segPayload (sw : Fin 12) (k : Fin 9) : Nat := k + 16 * (sw.val % 2)

/-- A segment has been fenced, or its fence is decided. -/
def State.segGone (s : State) (sw : Fin 12) (k : Fin 9) : Bool :=
  (s.get (SEG_STAT sw) SEG_STAT_FENCED).testBit k || s.seg.waiting.contains (sw.val, k.val)

/-- Spare available: segment 8 neither conducts nor is fenced (R166, R169). -/
def State.segSpare (s : State) (sw : Fin 12) : Bool :=
  !(s.get (SEG_STAT sw) SEG_STAT_IN_USE).testBit 8 && !s.segGone sw 8

/-- The expected on-resistance of a segment at its buck's model temperature, in 1/128,000 of 0.1 milliohm (R166). -/
def State.ronExp (s : State) (sw : Fin 12) (k : Fin 9) : Int :=
  (Config.ron25 sw k : Int) * (128000 + 4 * (s.getI (TH_T (16 + sw / 2)) TH_T_T - 3200))

/-- Drift in 0.1 % of a measured on-resistance (R166), to the nearest; where the expected value is not above 0 the spec
states none, and it is a free value (log 2). -/
def State.segDrift (s : State) (sw : Fin 12) (k : Fin 9) (ron : Nat) : Int :=
  let e := s.ronExp sw k
  if e ≤ 0 then (Config.freeWord s.freeCtr).toInt else roundTo (1000 * ((ron : Int) * 128000 - e)) e.toNat
where
  /-- Quotient to the nearest integer. -/
  roundTo (a : Int) (b : Nat) : Int := (2 * a + b) / (2 * b)

/-- By how much a drift exceeds a percentage (R168): above 0, at 0 or below it; it is compared as measured, before SEG_DRIFT
rounds it. -/
def State.driftOver (s : State) (sw : Fin 12) (k : Fin 9) (ron pct : Nat) : Int :=
  let e := s.ronExp sw k
  if e ≤ 0 then s.segDrift sw k ron - 10 * pct else 100 * ((ron : Int) * 128000 - e) - pct * e

/-- A decided fence takes effect at the switch's off boundary (R169): the spare takes over, or the switch is derated, or
the buck stops below 6 segments. -/
def State.applyFence (s : State) (sw : Fin 12) (k : Fin 9) : State :=
  let r := segReg sw
  let spare := s.segSpare sw && k != 8
  let use := s.get (SEG_STAT sw) SEG_STAT_IN_USE
  let use := if use.testBit k then use - 2 ^ k.val else use
  let use := if spare then use ||| 256 else use
  let s := { s with seg := { s.seg with waiting := s.seg.waiting.filter (fun p => p != (sw.val, k.val)) } }
  let s := (s.put (SEG_STAT sw) SEG_STAT_IN_USE use).put (SEG_STAT sw) SEG_STAT_FENCED
    (s.get (SEG_STAT sw) SEG_STAT_FENCED ||| 2 ^ k.val)
  if popcount use 9 < 6 then s.regStop r 0x0B (segPayload sw k) else s

/-- The outcome of a completed measurement (R168): stuck, fence, warning or none. -/
def State.segJudge (s : State) (sw : Fin 12) (k : Fin 9) (x : SegMeas) : State :=
  let r := segReg sw
  let d := s.segDrift sw k x.ron.toNat
  let worn := s.driftOver sw k x.ron.toNat 30
  let warn := s.driftOver sw k x.ron.toNat (s.get IR_CFG IR_CFG_WEAR_WARN)
  let s := { s with freeCtr := s.freeCtr + 1, seg := { s.seg with
    postponed := s.seg.postponed.filter (fun p => !(p.s == sw.val && p.k == k.val)) } }
  let s := s.wr (SEG_DRIFT sw k) (setF (setF 0 SEG_DRIFT_DRIFT (satI 16 d)) SEG_DRIFT_RON x.ron.toNat)
  if 20 < x.offCur then
    (s.putB (SEG_STAT sw) SEG_STAT_STUCK true).regStop r 0x0A (segPayload sw k)
  else if 0 < worn || x.share < 5 then
    let code := if s.segSpare sw && k != 8 then 0x08 else 0x09
    let s := { s with seg := { s.seg with waiting := s.seg.waiting ++ [(sw.val, k.val)] } }
    let s := s.raise (regEsn r) code (segPayload sw k)
    if s.regOn r then s else s.applyFence sw k
  else if 0 ≤ warn && !s.seg.warned.contains (sw.val, k.val) then
    { s with seg := { s.seg with warned := s.seg.warned ++ [(sw.val, k.val)] } }.raise (regEsn r) 0x0C (segPayload sw k)
  else s

/-- The measurement is not made: too little current or a skipping buck at its turn, or a protection acted in it (R167,
R170). -/
def segUnfit (r : Fin 14) (x : SegMeas) : Bool :=
  x.skipped || x.acted || decide (x.load < (if regKind r == .hb then 300 else 200))

/-- A segment's measurement is postponed (R167). -/
def State.segPostpone (s : State) (sw : Fin 12) (k : Fin 9) : State :=
  let s := s.putB IR_SWEEP IR_SWEEP_POSTPONED true
  if s.seg.postponed.any (fun p => p.s == sw.val && p.k == k.val) then
    { s with seg := { s.seg with postponed := s.seg.postponed.map (fun p =>
      if p.s == sw.val && p.k == k.val then { p with tried := s.clk.frames } else p) } }
  else { s with seg := { s.seg with postponed := s.seg.postponed ++ [⟨sw, k, s.opt.ms, s.clk.frames, false⟩] } }

/-- A segment's turn begins (R167). -/
def State.segTurn (s : State) (sw k : Nat) : State :=
  { s with seg := { s.seg with s := sw, k := k, turnAt := s.clk.frames, turnOn := s.regOn (segReg ⟨sw % 12, by omega⟩) } }

/-- The sweep moves to its next segment; after the last one it is complete (R167). -/
def State.segNext (s : State) : State :=
  if s.seg.k < 8 then s.segTurn s.seg.s (s.seg.k + 1)
  else if s.seg.s < 11 then s.segTurn (s.seg.s + 1) 0
  else
    (({ s with seg := { s.seg with k := 0, s := 0 } }.putB IR_SWEEP IR_SWEEP_RUNNING false).put IR_SWEEP IR_SWEEP_COUNT
      (s.get IR_SWEEP IR_SWEEP_COUNT + 1))

/-- SWEEP_START (R167): each 3,600,000 ms of operating time. -/
def execSweepStart (s : State) : Host.Outcome State Fault Refusal :=
  done <| s.when (s.engines && s.flag IR_CFG IR_CFG_SWEEP_EN && decide (s.seg.hour < s.opt.ms / 3600000)) fun s =>
    ({ s with seg := { s.seg with hour := s.opt.ms / 3600000 } }.segTurn 0 0).putB IR_SWEEP IR_SWEEP_RUNNING true

/-- An hour mark that falls while sweeps are off has none (R167). -/
def State.sweepTick (s : State) : State :=
  if s.flag IR_CFG IR_CFG_SWEEP_EN then s else { s with seg := { s.seg with hour := s.opt.ms / 3600000 } }

/-- SEGMENT_MEASUREMENT (R166 to R168, R170): 1 ms (50 frames) after its turn began, the measurement of the sweep's present
segment ends at a tick. A buck that is disabled at its turn is passed over without an event, as is a segment already
fenced. -/
def execSegmentMeasurement (x : SegMeas) (s : State) : Host.Outcome State Fault Refusal :=
  done <| s.atTick (s.engines && s.flag IR_SWEEP IR_SWEEP_RUNNING && decide (s.seg.turnAt + 50 ≤ s.clk.frames)) fun s =>
    let sw : Fin 12 := ⟨s.seg.s % 12, by omega⟩
    let k : Fin 9 := ⟨s.seg.k % 9, by omega⟩
    let r := segReg sw
    let s :=
      if !s.seg.turnOn || s.segGone sw k then s
      else if segUnfit r x then s.segPostpone sw k
      else s.segJudge sw k x
    s.segNext

/-- SEGMENT_RETRY (R167): a postponed measurement is retried, 1 s (50,000 frames) after its last attempt. -/
def execSegmentRetry (sw : Fin 12) (k : Fin 9) (x : SegMeas) (s : State) : Host.Outcome State Fault Refusal :=
  done <| s.atTick (s.engines && s.seg.postponed.any (fun p =>
      p.s == sw.val && p.k == k.val && decide (p.tried + 50000 ≤ s.clk.frames))) fun s =>
    if !s.regOn (segReg sw) || segUnfit (segReg sw) x then s.segPostpone sw k else s.segJudge sw k x

/-- SEGMENT_POSTPONED_2H (R167): ESN 0x47 once. -/
def execSegmentPostponed2h (sw : Fin 12) (k : Fin 9) (s : State) : Host.Outcome State Fault Refusal :=
  let due (p : Postponed) : Bool := p.s == sw.val && p.k == k.val && !p.said && decide (p.since + 7200000 ≤ s.opt.ms)
  done <| s.when (s.engines && s.seg.postponed.any due) fun s =>
    { s with seg := { s.seg with postponed := s.seg.postponed.map (fun p => if due p then { p with said := true } else p) } }.raise
      0x47 0 (k + 16 * sw)

/-- SEGMENT_FENCE_APPLIED (R169). -/
def execSegmentFenceApplied (sw : Fin 12) (s : State) : Host.Outcome State Fault Refusal :=
  done <| match s.seg.waiting.find? (fun p => p.1 == sw.val) with
    | some p => s.when s.engines fun s => s.applyFence sw ⟨p.2 % 9, by omega⟩
    | none => s

/-! ### Outputs (R157, R159, R162, R165) -/

/-- What a regulator does at its output. -/
inductive RegOut
  /-- it regulates, or conducts as a load switch -/
  | drives
  /-- the low side sinks up to 1 A -/
  | sinks
  /-- a resistance to ground, in ohm -/
  | discharges (ohm : Nat)
  | open_
  deriving DecidableEq, Repr

/-- What a regulator does at its output: every switch is off while MAIN is stopped (R165); one that is off discharges, an LDO
or load switch always through 1 kΩ (R30, R157, R162). -/
def State.regOut (s : State) (r : Fin 14) : RegOut :=
  if s.power == .run && s.clk.stopped then .open_
  else if s.power == .run && s.regOn r then .drives
  else if 6 ≤ r.val then .discharges 1000
  else if s.regul[r].sink then .sinks
  else if (s.power == .run || s.power == .standby) && s.flag (REG_CTL r) REG_CTL_DISCH then .discharges 100
  else .open_

/-- The place of a buck's switching period after the common origin of its kind, in 1/4 of a MAIN clock: HB1 half a period
after HB0, LBk k quarters after LB0 (R159). -/
def State.buckOffset (s : State) (b : Fin 6) : Nat :=
  (if b.val < 2 then 2 * b.val else b.val - 2) * s.get (REG_CTL b) REG_CTL_DIV

end Sys2Proof.Machine
end

