-- ==== Sys2Proof/Machine/Rails.lean ====
section
/-! DEFINITION. Turning rails on and off and writing their setpoints, as stencil steps and commands do (spec 10 R246;
spec 05 R105, R109, R110; spec 07 R154, R155; spec 13 R316). -/
namespace Sys2Proof.Machine
open Sys2Proof

/-- A write of a loop's EN takes effect at the next tick (R60): it reads 1 from the write of an enable and 0 from the tick
of a disable (R109, R110). -/
def State.loopEnWrite (s : State) (m : Fin 4) (on : Bool) : State :=
  (if on then s.putB (LOOP_CTL m) LOOP_CTL_EN true else s).updLoop m (fun l => { l with pendEn := some on, askAt := s.clk.frames })

/-- A write of a regulator's EN takes effect at the next tick (R155). -/
def State.regEnWrite (s : State) (r : Fin 14) (on : Bool) : State :=
  (s.putB (REG_CTL r) REG_CTL_EN on).updReg r (fun x => { x with pendEn := some on, askAt := s.clk.frames })

/-- A setpoint code outside the loop's limits is held at the nearer one, which sets VCLAMP (R105); a new code takes effect
at the next tick (R106). -/
def State.loopCodeWrite (s : State) (m : Fin 4) (code : Nat) : State :=
  let lo := s.get (LOOP_VLIM m) LOOP_VLIM_VMIN
  let hi := s.get (LOOP_VLIM m) LOOP_VLIM_VMAX
  let c := if code < lo then lo else if hi < code then hi else code
  let s := if c = code then s else s.putB (LOOP_STAT m) LOOP_STAT_VCLAMP true
  (s.put (LOOP_VSET m) LOOP_VSET_CODE c).updLoop m (fun l =>
    { l with askAt := s.clk.frames, pendCode := l.pendCode || s.get (LOOP_VSET m) LOOP_VSET_CODE != c })

/-- A setpoint code of a regulator, held at the top of its kind's range (R154). -/
def State.regCodeWrite (s : State) (r : Fin 14) (code : Nat) : State :=
  let c := min code (regKind r).top
  (s.put (REG_VSET r) REG_VSET_CODE c).updReg r (fun x =>
    { x with askAt := s.clk.frames, pendCode := x.pendCode || s.get (REG_VSET r) REG_VSET_CODE != c })

/-- A rail is enabled, or is to be at the next tick. -/
def State.railEn (s : State) : Rail → Bool
  | .loop m => s.loops[m].pendEn.getD (s.flag (LOOP_CTL m) LOOP_CTL_EN)
  | .reg r => s.flag (REG_CTL r) REG_CTL_EN
  | .ext k => s.seq.extNext.getLsbD k

/-- The level of EXT_ENk from the next tick on (R246). -/
def State.extSet (s : State) (k : Fin 32) (on : Bool) : State :=
  if 16 ≤ k.val then s
  else
    let b : BitVec 16 := 1#16 <<< k.val
    { s with seq := { s.seq with extNext := if on then s.seq.extNext ||| b else s.seq.extNext &&& ~~~b } }

/-- ENABLE or DISABLE of a rail (R246): of a rail already so it changes nothing; an enable written in the frame of a
fence by monitor event is ignored (R316). -/
def State.railWrite (s : State) (r : Rail) (on : Bool) : State :=
  if s.railEn r == on || (on && s.flt.fenced.contains r.id) then s
  else match r with
    | .loop m => s.loopEnWrite m on
    | .reg k => s.regEnWrite k on
    | .ext k => s.extSet k on

/-- SET_V of a rail (R246); a load switch and an external rail have no setpoint. -/
def State.railSetV (s : State) (r : Rail) (code : Nat) : State :=
  match r with
  | .loop m => s.loopCodeWrite m code
  | .reg k => if regKind k == .sw then s else s.regCodeWrite k code
  | .ext _ => s

/-- A rail fenced by a monitor event is off at the tick that ends the frame (R316). -/
def State.railFenceOff (s : State) (r : Rail) : State :=
  match r with
  | .loop m => if s.loops[m].run == .off && !s.flag (LOOP_CTL m) LOOP_CTL_EN then s else s.loopFenceOff m
  | .reg k => if s.regul[k].run == .off && !s.flag (REG_CTL k) REG_CTL_EN then s else s.regFenceOff k
  | .ext k => s.extSet k false

/-- The fences of the ended frame and the levels of EXT_EN take effect (R246, R316). -/
def State.railTick (s : State) : State :=
  let s := s.flt.fenced.foldl (fun s id => match railOf id with | some r => s.railFenceOff r | none => s) s
  { s with flt := { s.flt with fenced := [] }, seq := { s.seq with extEn := s.seq.extNext } }

end Sys2Proof.Machine
end

