-- ==== Sys2Proof/Machine/Sequencer.lean ====
section
/-! DEFINITION. The sequencer: stencil steps, starts and stops of threads, FAULT_N, DOWN's abort and minimum off time,
barriers and writes of the store (spec 10 R239 to R267). -/
namespace Sys2Proof.Machine
open Sys2Proof

/-! ### Threads (R239 to R242) -/

def thIdle : Nat := 0
def thRunning : Nat := 1
def thWaiting : Nat := 2
def thHeld : Nat := 3

def thUp : Fin 4 := 0
def thDown : Fin 4 := 1
def thFault : Fin 4 := 2
def thUser : Fin 4 := 3

def State.thState (s : State) (t : Fin 4) : Nat := s.get (SEQ_THR_STAT t) SEQ_THR_STAT_STATE
def State.setThState (s : State) (t : Fin 4) (v : Nat) : State := s.put (SEQ_THR_STAT t) SEQ_THR_STAT_STATE v
def State.thPc (s : State) (t : Fin 4) : Nat := s.get (SEQ_THR_STAT t) SEQ_THR_STAT_PC
def State.updSeq (s : State) (f : SeqSt → SeqSt) : State := { s with seq := f s.seq }
def State.updThr (s : State) (t : Fin 4) (f : ThrSt → ThrSt) : State :=
  s.updSeq (fun q => { q with thr := q.thr.set t (f q.thr[t]) })

/-- RUNNING or WAITING. -/
def State.thRuns (s : State) (t : Fin 4) : Bool := s.thState t == thRunning || s.thState t == thWaiting

/-- An event of a thread: the step index stands in payload bits [20:8] (R266). -/
def State.thRaise (s : State) (t : Fin 4) (code : Nat) : State := s.raise (0x78 + t) code (s.thPc t)

/-- UP is held no more. -/
def State.upUnhold (s : State) (t : Fin 4) : State :=
  if t = thUp then (s.updSeq (fun q => { q with heldVsys := false, heldFn := false })).putB PATH_STAT PATH_STAT_UP_INHIB false
  else s

/-- The minimum off time in frames (R260). -/
def State.minOff (s : State) : Nat := 5000 * min 100 (max 1 (s.get SEQ_DOWN SEQ_DOWN_MIN_OFF))

/-- A thread ends with a code (R249, R251, R253, R254); a committed DOWN's HALT starts the minimum off time (R260). -/
def State.thEnd (s : State) (t : Fin 4) (code : Nat) : State :=
  let s := s.thRaise t code
  let w := s.rd (SEQ_THR_STAT t)
  let s := s.wr (SEQ_THR_STAT t) (setF (setF (setF w SEQ_THR_STAT_STATE thIdle) SEQ_THR_STAT_DEPTH 0) SEQ_THR_STAT_END code)
  let s := (s.updThr t (fun x => { x with stack := [] })).upUnhold t
  if t = thDown && code == 2 && s.flag (SEQ_THR_STAT t) SEQ_THR_STAT_COMMITTED && !s.seq.aborted then
    (s.updSeq (fun q => { q with minOffEnd := s.clk.frames + s.minOff })).putB SEQ_STAT SEQ_STAT_MIN_OFF true
  else s

/-- The thread's next step index; 6,144 ends it as at a HALT (R242). -/
def State.thGoto (s : State) (t : Fin 4) (i : Nat) : State :=
  if 6144 ≤ i then s.thEnd t 2 else s.put (SEQ_THR_STAT t) SEQ_THR_STAT_PC i

/-- The thread continues at its next step. -/
def State.thNext (s : State) (t : Fin 4) : State := s.thGoto t (s.thPc t + 1)

/-! ### Starts (R254 to R257) -/

/-- UP and USER are stopped by the start of DOWN or FAULT (R254, R265). -/
def State.preempt (s : State) : State :=
  let s := if s.thState thUp = thIdle then s else s.thEnd thUp 4
  if s.thState thUser = thIdle then s else s.thEnd thUser 4

/-- The step a label holds, as the last tick put it in force (R60, R242, R265). -/
def State.labelStep (s : State) (l : Nat) : Nat := s.latchedF (SEQ_LABEL l) SEQ_LABEL_STEP

/-- The entry label of a thread, as the last tick put it in force (R60, R242). -/
def State.entryLabel (s : State) (t : Fin 4) : Nat := s.latchedF (SEQ_THR_CFG t) SEQ_THR_CFG_ENTRY

/-- A thread's counter and flags at its start from a label (R242, R254). -/
def State.thEnter (s : State) (t : Fin 4) (label : Nat) : State :=
  let w := s.rd (SEQ_THR_STAT t)
  let s := s.wr (SEQ_THR_STAT t) (setF (setF (setF (setF w SEQ_THR_STAT_STATE thRunning) SEQ_THR_STAT_DEPTH 0)
    SEQ_THR_STAT_COMMITTED 0) SEQ_THR_STAT_PC (s.labelStep label))
  s.updThr t (fun x => { x with stack := [] })

/-- A thread starts at a label, and its start is raised (R254). -/
def State.thBegin (s : State) (t : Fin 4) (label : Nat) : State := (s.thEnter t label).raise (0x78 + t) 1 label

/-- FAULT_N is sampled asserted and holds starts of UP (R259). -/
def State.fnHolds (s : State) : Bool := s.flag SEQ_FN SEQ_FN_BLOCK_UP && s.flag SEQ_STAT SEQ_STAT_FN_IN

/-- UP is held by the start inhibit (R184, R257), by FAULT_N (R259), or runs. -/
def State.upHold (s : State) : State :=
  let v := !s.vsysStarts
  let f := s.fnHolds
  let s := s.updSeq (fun q => { q with heldVsys := v, heldFn := f })
  let s := if v then (s.putB PATH_STAT PATH_STAT_UP_INHIB true).raise 0x4D 0 else s
  let s := if f then s.raise 0x7C 4 else s
  if v || f then s.setThState thUp thHeld else s

/-- A start of UP is refused (R255). -/
def State.upRefused (s : State) : Bool :=
  s.thState thUp != thIdle || s.thRuns thDown || s.flag SEQ_STAT SEQ_STAT_MIN_OFF

/-- UP starts, or the start is refused (R254, R255). -/
def State.startUp (s : State) (label : Nat) : State :=
  if s.upRefused then s.thRaise thUp 8 else (s.thBegin thUp label).upHold

/-- USER starts, or the start is refused. -/
def State.startUser (s : State) (label : Nat) : State :=
  if s.thState thUser != thIdle then s.thRaise thUser 8 else s.thBegin thUser label

/-- DOWN starts, or the start is refused (R254, R255). The start is raised before the frame's steps, since FAULT may yet
start in the frame (R265). -/
def State.startDown (s : State) (label : Nat) : State :=
  if s.thState thDown != thIdle || s.thRuns thFault then s.thRaise thDown 8
  else
    let was := s.rd (SEQ_THR_STAT thDown)
    let s := s.preempt
    (s.thEnter thDown label).updSeq (fun q =>
      { q with downAt := some s.clk.frames, aborted := false, downWas := was, tellDown := some label,
               resumeAt := s.labelStep (s.latchedF SEQ_DOWN SEQ_DOWN_RESUME) })

/-- FAULT_N is asserted with a local start of FAULT (R258). -/
def State.driveFn (s : State) : State :=
  if s.flag SEQ_FN SEQ_FN_DRIVE && !s.flag SEQ_STAT SEQ_STAT_FN_DRIVE then
    ((s.putB SEQ_STAT SEQ_STAT_FN_DRIVE true).updSeq (fun q => { q with fnAt := s.clk.frames })).raise 0x7C 1
  else s

/-- FAULT has started in the present frame and executed no step yet (R256). -/
def State.faultFresh (s : State) : Bool :=
  s.thState thFault == thRunning && s.seq.faultAt == some s.clk.frames && s.seq.thr[thFault].steps == 0

/-- DOWN has started in the present frame and executed no step yet (R265). -/
def State.downFresh (s : State) : Bool :=
  s.thState thDown == thRunning && s.seq.downAt == some s.clk.frames && s.seq.thr[thDown].steps == 0

/-- A cause has a stronger claim to FAULT's label than the one that started it (R256): 0 a reaction, 1 a command, 2 an
edge; of reactions the lowest ESN. -/
def State.relabels (s : State) (by_ esn : Nat) : Bool :=
  decide (by_ < s.seq.faultBy) || (by_ == 0 && s.seq.faultBy == 0 && decide (esn < s.seq.faultEsn))

/-- A start of DOWN in the present frame is undone and refused, since FAULT starts in it (R255, R265). -/
def State.downUndo (s : State) : State :=
  ((s.wr (SEQ_THR_STAT thDown) s.seq.downWas).updSeq (fun q => { q with downAt := none, tellDown := none })).thRaise thDown 8

/-- FAULT starts, or the start is refused; several causes of one frame start it once, and its label is settled before the
frame's steps (R255, R256). -/
def State.startFault (s : State) (label by_ esn : Nat) : State :=
  if s.faultFresh then
    if s.relabels by_ esn then
      (s.put (SEQ_THR_STAT thFault) SEQ_THR_STAT_PC (s.labelStep label)).updSeq (fun q =>
        { q with faultBy := by_, faultEsn := esn, tellFault := some label })
    else s
  else if s.thState thFault != thIdle then s.thRaise thFault 0x0B
  else if s.thRuns thDown && !s.downFresh then (s.putB SEQ_STAT SEQ_STAT_FAULT_SUPP true).thRaise thFault 0x0B
  else
    let s := if s.downFresh then s.downUndo else s
    let s := (s.preempt.thEnter thFault label).updSeq (fun q =>
      { q with faultAt := some s.clk.frames, faultBy := by_, faultEsn := esn, tellFault := some label })
    s.putB SEQ_STAT SEQ_STAT_UP_PEND false

/-- A start of DOWN that stands is raised (R254). -/
def State.tellDown (s : State) : State :=
  match s.seq.tellDown with
  | some l => (s.updSeq (fun q => { q with tellDown := none })).raise 0x79 1 l
  | none => s

/-- The start of FAULT is raised with its label, and a local one asserts FAULT_N (R254, R256, R258). -/
def State.tellFault (s : State) : State :=
  match s.seq.tellFault with
  | some l =>
    let s := (s.updSeq (fun q => { q with tellFault := none })).raise 0x7A 1 l
    if s.seq.faultBy < 2 then s.driveFn else s
  | none => s

/-- The starts of the frame are settled: at the end of its fault reactions, or before its first step (R254, R256). -/
def State.seqSettle (s : State) : State := s.tellFault.tellDown

/-- A start command of a thread (R254). -/
def State.thStart (s : State) (t : Fin 4) (label : Nat) : State :=
  if t = thUp then s.startUp label
  else if t = thDown then s.startDown label
  else if t = thFault then s.startFault label 1 0
  else s.startUser label

/-- A stop command of a thread (R254, R255). -/
def State.thStop (s : State) (t : Fin 4) : State :=
  let s := if t = thUp then s.putB SEQ_STAT SEQ_STAT_UP_PEND false else if t = thDown then s.tellDown else s
  if s.thState t = thIdle then s
  else if (t = thDown && s.flag (SEQ_THR_STAT t) SEQ_THR_STAT_COMMITTED) || t = thFault then s.thRaise t 8
  else s.thEnd t 3

/-- The sequencer refuses a start of the thread (R255). -/
def State.startRefused (s : State) (t : Fin 4) : Bool :=
  if t = thUp then s.upRefused
  else if t = thDown then s.thState thDown != thIdle || s.thRuns thFault
  else if t = thFault then !s.faultFresh && (s.thState thFault != thIdle || (s.thRuns thDown && !s.downFresh))
  else s.thState thUser != thIdle

/-- The sequencer refuses a stop of the thread (R255). -/
def State.stopRefused (s : State) (t : Fin 4) : Bool :=
  s.thState t != thIdle && ((t == thDown && s.flag (SEQ_THR_STAT t) SEQ_THR_STAT_COMMITTED) || t == thFault)

/-- The frame has not begun its steps: a start raised now takes effect in it (R254). -/
def State.startsNow (s : State) : Bool := s.clk.stage == .contexts || s.clk.stage == .reacted

/-- The command is the one to take effect: none other awaits the tick (R254). -/
def State.seqDue (s : State) (t : Fin 4) (c : Nat × Option Nat) : Bool :=
  s.engines && s.startsNow && (s.seq.thr[t].cmd == none ||
    (s.seq.thr[t].cmd == some c && decide (s.seq.thr[t].askAt < s.clk.frames)))

/-- SEQ_START (R254): at the thread's entry label, or at the command's. -/
def execSeqStart (t : Fin 4) (useLabel : Bool) (label : Fin 64) (s : State) : Host.Outcome State Fault Refusal :=
  done <| s.atTick (s.seqDue t (1, if useLabel then some label.val else none)) fun s =>
    (s.updThr t (fun x => { x with cmd := none, refused := s.startRefused t })).thStart t
      (if useLabel then label else s.entryLabel t)

/-- SEQ_STOP (R254, R255, R260). -/
def execSeqStop (t : Fin 4) (s : State) : Host.Outcome State Fault Refusal :=
  done <| s.atTick (s.seqDue t (2, none)) fun s =>
    (s.updThr t (fun x => { x with cmd := none, refused := s.stopRefused t })).thStop t

/-- DOWN_START_BY_EVENT (R254, R261): an ESN enabled in SEQ_DOWN_EV has been raised; DOWN starts before the frame's steps,
or in the next frame. -/
def execDownStartByEvent (esn : BitVec 8) (s : State) : Host.Outcome State Fault Refusal :=
  done <| s.when (s.engines && s.startsNow && s.flt.downDue.contains esn.toNat) fun s =>
    ({ s with flt := { s.flt with downDue := s.flt.downDue.filter (fun n => n ≠ esn.toNat) } }).startDown
      (s.entryLabel thDown)

/-- UP_INHIBIT_RELEASE (R184, R257): a tick with the latched VSYS at or above MIN_START. -/
def execUpInhibitRelease (s : State) : Host.Outcome State Fault Refusal :=
  done <| s.atTick (s.engines && s.thState thUp == thHeld && s.seq.heldVsys && s.vsysStarts) fun s =>
    let s := (s.updSeq (fun q => { q with heldVsys := false })).putB PATH_STAT PATH_STAT_UP_INHIB false
    if s.seq.heldFn then s else s.setThState thUp thRunning

/-- UP_HELD_RELEASE (R259): the first tick after FAULT_N is released. -/
def execUpHeldRelease (s : State) : Host.Outcome State Fault Refusal :=
  done <| s.atTick (s.engines && s.thState thUp == thHeld && s.seq.heldFn && s.latchedF SEQ_STAT SEQ_STAT_FN_IN == 0) fun s =>
    let s := s.updSeq (fun q => { q with heldFn := false })
    if s.seq.heldVsys then s else s.setThState thUp thRunning

/-- MIN_OFF_END (R260). -/
def execMinOffEnd (s : State) : Host.Outcome State Fault Refusal :=
  done <| s.atTick (s.engines && s.flag SEQ_STAT SEQ_STAT_MIN_OFF && decide (s.seq.minOffEnd ≤ s.clk.frames)) fun s =>
    let s := s.putB SEQ_STAT SEQ_STAT_MIN_OFF false
    if s.flag SEQ_DOWN SEQ_DOWN_AUTO_UP then s.putB SEQ_STAT SEQ_STAT_UP_PEND true else s

/-- AUTO_UP_START (R260): with UP_PEND set, UP starts at the first tick with a qualified feed at which it can. -/
def execAutoUpStart (s : State) : Host.Outcome State Fault Refusal :=
  done <| s.atTick (s.engines && s.startsNow && s.flag SEQ_STAT SEQ_STAT_UP_PEND && !s.upRefused &&
      (s.latchedQualified 0 || s.latchedQualified 1)) fun s =>
    let s := (s.putB SEQ_STAT SEQ_STAT_UP_PEND false).thBegin thUp (s.entryLabel thUp)
    (s.thRaise thUp 0x0D).upHold

/-! ### FAULT_N (R258, R259) -/

/-- FAULT_N_EDGE (R256, R259): an edge from another part starts FAULT at SEQ_FN.LABEL. -/
def execFaultNEdge (s : State) : Host.Outcome State Fault Refusal :=
  done <| s.atTick (s.engines && s.startsNow && s.seq.fnEdge) fun s =>
    let s := (s.updSeq (fun q => { q with fnEdge := false })).raise 0x7C 2
    s.startFault (s.latchedF SEQ_FN SEQ_FN_LABEL) 2 0

/-- FAULT_N_RELEASE (R258): the thread has ended, and the least assertion has passed. -/
def execFaultNRelease (s : State) : Host.Outcome State Fault Refusal :=
  done <| s.when (s.engines && s.flag SEQ_STAT SEQ_STAT_FN_DRIVE && s.thState thFault == thIdle &&
      decide (s.seq.fnAt + max 2 (s.get SEQ_FN SEQ_FN_HOLD) ≤ s.clk.frames)) fun s =>
    (s.putB SEQ_STAT SEQ_STAT_FN_DRIVE false).raise 0x7C 3

/-! ### DOWN's abort (R260) -/

/-- A feed that enters QUALIFIED aborts a DOWN that has not committed, once: it goes on from the step that the resume
label named when DOWN started (R242, R260). -/
def State.downAbort (s : State) : State :=
  if s.flag SEQ_DOWN SEQ_DOWN_ABORT_EN && s.thRuns thDown && !s.flag (SEQ_THR_STAT thDown) SEQ_THR_STAT_COMMITTED &&
      !s.seq.aborted then
    let s := s.thRaise thDown 0x0A
    let w := s.rd (SEQ_THR_STAT thDown)
    let s := s.wr (SEQ_THR_STAT thDown) (setF (setF (setF w SEQ_THR_STAT_STATE thRunning) SEQ_THR_STAT_DEPTH 0)
      SEQ_THR_STAT_PC s.seq.resumeAt)
    (s.updThr thDown (fun x => { x with stack := [] })).updSeq (fun q => { q with aborted := true })
  else s

/-! ### Steps (R241, R243 to R253, R260, R262) -/

/-- The word at the thread's position. -/
def State.stepWord (s : State) (t : Fin 4) : Word := s.rd (STEP (s.thPc t))

/-- Place of a thread in the order of a frame: FAULT, DOWN, UP, USER (R239). -/
def thRank (t : Fin 4) : Nat := if t = thFault then 0 else if t = thDown then 1 else if t = thUp then 2 else 3

/-- A RUNNING thread has steps of the present frame left (R241). -/
def State.stepsLeft (s : State) (t : Fin 4) : Bool := s.thState t == thRunning && decide (s.seq.thr[t].steps < 4)

/-- The sequencer's window of the frame: after the fault reactions and the starts they and the events make, before the
Plate ingest (R58, R59, R254). -/
def State.seqWindow (s : State) : Bool :=
  s.engines && match s.clk.stage with
    | .contexts => s.flt.window.isEmpty && s.flt.downDue.isEmpty
    | .reacted => s.flt.downDue.isEmpty
    | .threads => true
    | .reserve => false

/-- It is the thread's turn: no thread after it in the order has worked in the frame, and none before it has steps left
(R239). -/
def State.seqTurn (s : State) (t : Fin 4) : Bool :=
  s.seqWindow && decide (s.seq.turn ≤ thRank t) &&
  (allFin 4).all (fun u => decide (thRank t ≤ thRank u) || !s.stepsLeft u)

/-- A thread takes its turn: the frame's starts are settled first. -/
def State.seqTake (s : State) (t : Fin 4) : State :=
  let s := s.seqSettle.updSeq (fun q => { q with turn := thRank t })
  { s with clk := { s.clk with stage := .threads } }

/-- The thread executes a step of this opcode now: it is RUNNING, within its 4 steps of the frame, in its turn (R239,
R241). -/
def State.stepDue (s : State) (t : Fin 4) (op : Nat) : Bool :=
  s.seqTurn t && s.stepsLeft t && stepOp (s.stepWord t) == op

/-- A step counts against the budget. -/
def State.stepSpent (s : State) (t : Fin 4) : State := (s.seqTake t).updThr t (fun x => { x with steps := x.steps + 1 })

/-- A step row: where the thread executes a step of the opcode, the step is spent and its word acts. -/
def State.stepRow (s : State) (t : Fin 4) (op : Nat) (f : State → Word → State) : State :=
  s.when (s.stepDue t op) fun s => f (s.stepSpent t) (s.stepWord t)

/-- The wait of the thread has ended, by timeout or not (R249): TO. -/
def State.waitOver (s : State) (t : Fin 4) (b : Bool) : State :=
  (s.putB (SEQ_THR_STAT t) SEQ_THR_STAT_TO b).setThState t thRunning

/-- The thread is held at its step. -/
def State.waitAt (s : State) (t : Fin 4) (w : Wait) (frames : Nat) : State :=
  (s.updThr t (fun x => { x with wait := w, waitAt := s.clk.frames, waitFor := frames })).setThState t thWaiting

/-- HALT (R253). -/
def execHalt (t : Fin 4) (s : State) : Host.Outcome State Fault Refusal := done <| s.stepRow t 0 fun s _ => s.thEnd t 2

/-- ENABLE (R246). -/
def execEnable (t : Fin 4) (s : State) : Host.Outcome State Fault Refusal :=
  done <| s.stepRow t 1 fun s w =>
    (match railOf (stepRail w) with | some r => s.railWrite r true | none => s).thNext t

/-- DISABLE (R246). -/
def execDisable (t : Fin 4) (s : State) : Host.Outcome State Fault Refusal :=
  done <| s.stepRow t 2 fun s w =>
    (match railOf (stepRail w) with | some r => s.railWrite r false | none => s).thNext t

/-- SET_V (R246). -/
def execSetV (t : Fin 4) (s : State) : Host.Outcome State Fault Refusal :=
  done <| s.stepRow t 3 fun s w =>
    (match railOf (stepRail w) with | some r => s.railSetV r (stepBits w 0 12) | none => s).thNext t

/-- WAIT (R248): a WAIT of 0 continues in the same frame. -/
def execWait (t : Fin 4) (s : State) : Host.Outcome State Fault Refusal :=
  done <| s.stepRow t 4 fun s w => if stepFrames w = 0 then s.thNext t else s.waitAt t .time (stepFrames w)

/-- WAIT_EXPIRY (R248): the thread resumes at its next step. -/
def execWaitExpiry (t : Fin 4) (s : State) : Host.Outcome State Fault Refusal :=
  let x := s.seq.thr[t]
  done <| s.when (s.seqTurn t && s.thState t == thWaiting && x.wait == .time && decide (x.waitAt + x.waitFor ≤ s.clk.frames))
    fun s => ((s.seqTake t).setThState t thRunning).thNext t

/-- WAIT_UNTIL (R249): COND is evaluated at once. -/
def execWaitUntil (t : Fin 4) (s : State) : Host.Outcome State Fault Refusal :=
  done <| s.stepRow t 5 fun s w =>
    if s.cond t (stepCond w) then (s.waitOver t false).thNext t else s.waitAt t .until (stepFrames w)

/-- A held step is evaluated in a later frame, within the budget. -/
def State.waitDue (s : State) (t : Fin 4) (w : Wait) : Bool :=
  s.seqTurn t && s.thState t == thWaiting && s.seq.thr[t].wait == w && decide (s.seq.thr[t].steps < 4) &&
    decide (s.seq.thr[t].waitAt < s.clk.frames)

/-- WAIT_UNTIL_SATISFIED (R249). -/
def execWaitUntilSatisfied (t : Fin 4) (s : State) : Host.Outcome State Fault Refusal :=
  done <| s.when (s.waitDue t .until && s.cond t (stepCond (s.stepWord t))) fun s =>
    ((s.stepSpent t).waitOver t false).thNext t

/-- The role of the part in frame alignment (R50). -/
def State.frmRole (s : State) : Nat := s.get CLK_CFG CLK_CFG_FRM_ROLE

/-- The latest sibling status shows barrier `id` reached, or the part is ALONE (R262). -/
def State.barrierOpen (s : State) (id : Nat) : Bool :=
  s.frmRole == 0 ||
    (List.range 4).any (fun t => getF (s.rd SEQ_SIB_ID) ⟨8 * t, 8⟩ == id &&
      ((s.rd SEQ_SIB_FLG).getLsbD (2 * t) || (s.rd SEQ_SIB_FLG).getLsbD (2 * t + 1)))

/-- The thread passes the barrier (R262). -/
def State.barrierPass (s : State) (t : Fin 4) (id : Nat) : State :=
  ((s.waitOver t false).updThr t (fun x => { x with passed := some (id, s.clk.frames) })).thNext t

/-- BARRIER (R262). -/
def execBarrier (t : Fin 4) (s : State) : Host.Outcome State Fault Refusal :=
  done <| s.stepRow t 13 fun s w =>
    if s.barrierOpen (stepBits w 16 8) then s.barrierPass t (stepBits w 16 8) else s.waitAt t .barrier (stepFrames w)

/-- BARRIER_PASS (R262): the held thread passes in a later frame. -/
def execBarrierPass (t : Fin 4) (s : State) : Host.Outcome State Fault Refusal :=
  done <| s.when (s.waitDue t .barrier && s.barrierOpen (stepBits (s.stepWord t) 16 8)) fun s =>
    (s.stepSpent t).barrierPass t (stepBits (s.stepWord t) 16 8)

/-- The held step's wait would end by itself at this evaluation. -/
def State.waitMet (s : State) (t : Fin 4) : Bool :=
  let w := s.stepWord t
  if s.seq.thr[t].wait == .barrier then s.barrierOpen (stepBits w 16 8) else s.cond t (stepCond w)

/-- WAIT_TIMEOUT (R249, R262): at the evaluation N frames after the step, what it waits for is still false. -/
def execWaitTimeout (t : Fin 4) (s : State) : Host.Outcome State Fault Refusal :=
  let x := s.seq.thr[t]
  done <| s.when ((s.waitDue t .until || s.waitDue t .barrier) && x.waitFor != 0 &&
      decide (x.waitAt + x.waitFor ≤ s.clk.frames) && !s.waitMet t) fun s =>
    let act := stepToAct (s.stepWord t)
    let s := (s.stepSpent t).waitOver t true
    if t = thDown || t = thFault then ((s.snapshot (0x78 + t) 0xFFFF (s.thPc t)).thRaise t 5).thNext t
    else if act then s.thEnd t 6
    else (s.thRaise t 5).thNext t

/-- CHECK (R250). -/
def execCheck (t : Fin 4) (s : State) : Host.Outcome State Fault Refusal :=
  done <| s.stepRow t 6 fun s w => if s.cond t (stepCond w) then s.thNext t else s.thGoto t (stepTarget w)

/-- JUMP (R243). -/
def execJump (t : Fin 4) (s : State) : Host.Outcome State Fault Refusal :=
  done <| s.stepRow t 7 fun s w => s.thGoto t (stepTarget w)

/-- The call stack of a thread, with DEPTH. -/
def State.setStack (s : State) (t : Fin 4) (l : List Nat) : State :=
  (s.updThr t (fun x => { x with stack := l })).put (SEQ_THR_STAT t) SEQ_THR_STAT_DEPTH l.length

/-- CALL (R251): at depth 4 the thread ends with code 0x07. -/
def execCall (t : Fin 4) (s : State) : Host.Outcome State Fault Refusal :=
  done <| s.stepRow t 8 fun s w =>
    let l := s.seq.thr[t].stack
    if 4 ≤ l.length then s.thEnd t 7 else (s.setStack t ((s.thPc t + 1) :: l)).thGoto t (stepTarget w)

/-- RETURN (R251): at depth 0 the thread ends with code 0x07. -/
def execReturn (t : Fin 4) (s : State) : Host.Outcome State Fault Refusal :=
  done <| s.stepRow t 9 fun s _ =>
    match s.seq.thr[t].stack with
    | [] => s.thEnd t 7
    | i :: r => (s.setStack t r).thGoto t i

/-- COMMIT (R260): in any thread but DOWN it changes nothing. -/
def execCommit (t : Fin 4) (s : State) : Host.Outcome State Fault Refusal :=
  done <| s.stepRow t 10 fun s _ =>
    (if t = thDown then (s.putB (SEQ_THR_STAT t) SEQ_THR_STAT_COMMITTED true).thRaise t 9 else s).thNext t

/-- MARK (R252): a record for the Plate alone. -/
def execMark (t : Fin 4) (s : State) : Host.Outcome State Fault Refusal :=
  done <| s.stepRow t 11 fun s w =>
    let code := stepBits w 0 16
    (s.toPlate (s.eventRec (0x78 + t) 0x0E (min 4 (stepBits w 24 3)) (0x0E + 256 * code)
      (bytesLE 1 t ++ bytesLE 2 (s.thPc t) ++ [0] ++ bytesLE 2 code))).thNext t

/-- SNAPSHOT (R252). -/
def execSnapshot (t : Fin 4) (s : State) : Host.Outcome State Fault Refusal :=
  done <| s.stepRow t 12 fun s w => (s.snapshot (0x78 + t) (stepBits w 0 16) (s.thPc t)).thNext t

/-! ### Sibling status (R262, R263) -/

/-- A sibling status: the ID of each thread, ARRIVED and PASSED (R262, R263). -/
def State.siblingStatus (s : State) (ids : Word) (arrived passed : BitVec 4) : State :=
  let b (v : BitVec 4) (t : Nat) : Nat := if v.getLsbD t then 1 else 0
  let flg := (List.range 4).foldl (fun n t => n + b arrived t * 2 ^ (2 * t) + b passed t * 2 ^ (2 * t + 1)) 0
  ((s.wr SEQ_SIB_ID ids).wr SEQ_SIB_FLG (BitVec.ofNat 32 flg)).updSeq (fun q =>
    { q with sibAge := 0, sibCame := q.sibCame || (s.frmRole != 0 && !s.flag SEQ_STAT SEQ_STAT_SIB_OK) })

/-- SIBLING_STATUS_LOST (R263): 8 frames without a status. -/
def execSiblingStatusLost (s : State) : Host.Outcome State Fault Refusal :=
  done <| s.when (s.inRun && s.flag SEQ_STAT SEQ_STAT_SIB_OK && decide (8 ≤ s.seq.sibAge)) fun s =>
    (s.putB SEQ_STAT SEQ_STAT_SIB_OK false).raise 0x7F 1

/-- The sibling status at a tick (R263). -/
def State.sibTick (s : State) : State :=
  let s := s.updSeq (fun q => { q with sibAge := q.sibAge + 1 })
  if !s.seq.sibCame then s
  else
    let seen := s.seq.sibSeen
    let s := (s.putB SEQ_STAT SEQ_STAT_SIB_OK true).updSeq (fun q => { q with sibCame := false, sibSeen := true, sibAge := 0 })
    if seen then s.raise 0x7F 2 else s

/-! ### The tick -/

/-- The sample of FAULT_N (R259): an edge is asserted after released, while the part does not drive the net. -/
def State.fnSample (s : State) (level : Bool) : State :=
  let drive := s.flag SEQ_STAT SEQ_STAT_FN_DRIVE
  let edge := level && !s.flag SEQ_STAT SEQ_STAT_FN_IN && s.seq.fnSampled && !drive
  (s.putB SEQ_STAT SEQ_STAT_FN_IN level).updSeq (fun q => { q with fnSampled := true, fnEdge := q.fnEdge || edge })

/-- The budgets and the order of a new frame begin anew (R239, R241). -/
def State.budgets (s : State) : State :=
  s.updSeq (fun q => { q with thr := q.thr.map (fun x => { x with steps := 0 }), turn := 0 })

/-! ### Flags, labels and the store (R242, R245, R264) -/

def State.flagsSet (s : State) (w : Word) : State := s.wr SEQ_FLAGS (s.rd SEQ_FLAGS ||| w)
def State.flagsClear (s : State) (w : Word) : State := s.wr SEQ_FLAGS (s.rd SEQ_FLAGS &&& ~~~w)

/-- SEQ_FLAG_SET (R245, R267). -/
def execSeqFlagSet (w : Word) (s : State) : Host.Outcome State Fault Refusal := done <| s.when s.inRun fun s => s.flagsSet w

/-- SEQ_FLAG_CLR (R245, R267). -/
def execSeqFlagClr (w : Word) (s : State) : Host.Outcome State Fault Refusal := done <| s.when s.inRun fun s => s.flagsClear w

/-- A write of the store or of a label is ignored (R242, R264). -/
def State.storeIgnored (s : State) : State := (s.putB SEQ_STAT SEQ_STAT_WR_IGN true).raise 0x7F 3

/-- The store takes a word while every thread is IDLE and the word passes R247 (R264); reserved bits stay 0 (R243). -/
def State.storeWrite (s : State) (i : Fin 6144) (w : Word) : State :=
  if (allFin 4).all (fun t => s.thState t == thIdle) && stepOk w then s.wr (STEP i) (stepHeld w) else s.storeIgnored

/-- A label takes a step index up to 6,143 (R242). -/
def State.labelWrite (s : State) (i : Fin 64) (v : Word) : State :=
  if getF v SEQ_LABEL_STEP < 6144 then s.wr (SEQ_LABEL i) (setF 0 SEQ_LABEL_STEP (getF v SEQ_LABEL_STEP)) else s.storeIgnored

end Sys2Proof.Machine
end

