-- ==== Sys2Proof/Machine/Thermal.lean ====
section
/-! DEFINITION. NTC inputs, the thermal model and throttling (spec 11 R278 to R291). -/
namespace Sys2Proof.Machine
open Sys2Proof

/-! ### NTC inputs (R278, R305) -/

/-- Binary logarithm of x / 2^48 for x in [2^48, 2^49), in 2^-48, one bit for each squaring. -/
def log2Bits : Nat → Nat → Nat → Nat
  | 0, _, acc => acc
  | n + 1, x, acc =>
    let y := x * x / 2 ^ 48
    if 2 ^ 49 ≤ y then log2Bits n (y / 2) (2 * acc + 1) else log2Bits n y (2 * acc)

/-- Natural logarithm of a positive number in 2^-48 (log 24). -/
def lnQ48 (x : Nat) : Int :=
  let e := Nat.log2 x
  let m := x * 2 ^ 48 / 2 ^ e
  let l2 : Nat := e * 2 ^ 48 + log2Bits 48 m 0
  (l2 * 195103586505167 : Nat) / (2 ^ 48 : Nat)

/-- The temperature of an NTC input in 1/128 °C from its code, R25 and BETA (R278), before it saturates (R9); none where the
formula divides by 0. -/
def ntcTemp (code r25 beta : Nat) : Option Int :=
  if beta = 0 || r25 = 0 then none
  else
    let l := lnQ48 (10000 * code) - lnQ48 (r25 * (65536 - code))
    let den : Int := 20 * (2 ^ 48 : Nat) * beta + 5963 * l
    if den = 0 then none
    else some (roundQuot (128 * 5963 * beta * (2 ^ 48 : Nat) * 5 - 174816 * den) (5 * den))

/-- One NTC input at a tick (R278, R305). -/
def State.ntcInput (s : State) (k : Nat) : State :=
  let c := s.rd (NTC_CFG k)
  let e := getF c NTC_CFG_ENTRY
  let w := s.rd (ADC_RES (s.coreOf (e / 64)) (e % 64))
  let put (s : State) (t o sh : Nat) : State :=
    let w := setF (setF (setF 0 NTC_T_T t) NTC_T_OPEN o) NTC_T_SHORT sh
    if s.rd (NTC_T k) = w then s else s.wr (NTC_T k) w
  let said := s.th.ntcSaid.contains k
  let clear (s : State) : State :=
    if said then { s with th := { s.th with ntcSaid := s.th.ntcSaid.filter (fun n => n ≠ k) } } else s
  if getF c NTC_CFG_EN = 0 then clear (put s 0x8000 0 0)
  else if getF w (bitF 16) != 0 || getF w (bitF 18) != 0 then put s 0x8000 0 0
  else
    let code := getF w ⟨0, 16⟩
    let isOpen := decide (245 * 65536 ≤ 250 * code)
    let isShort := decide (250 * code ≤ 5 * 65536)
    if isOpen || isShort then
      let s := put s 0x8000 (if isOpen then 1 else 0) (if isShort then 1 else 0)
      if said then s
      else ({ s with th := { s.th with ntcSaid := s.th.ntcSaid ++ [k] } }.putB TH_STAT TH_STAT_NTC_FLT true).raise 0x73 0 k
    else
      match ntcTemp code (s.get (NTC_R25 k) NTC_R25_R25) (getF c NTC_CFG_BETA) with
      | some t => clear (put s (satI 16 t) 0 0)
      | none => let f := s.free; clear (put f.2 (f.1.toNat % 65536) 0 0)

/-- Every NTC input at a tick. -/
def State.ntcTick (s : State) : State := (List.range 8).foldl State.ntcInput s

/-! ### Node powers (R279, R280), in microwatt -/

/-- The stage's input voltage in mV (R280). -/
def State.stageVin (s : State) (m : Fin 4) : Nat :=
  match s.get (TH_STG_VIN m) TH_STG_VIN_SRC with
  | 1 => s.get PATH_V PATH_V_VSYS
  | 2 => s.get PATH_V PATH_V_FEEDBUS
  | _ => s.get (TH_STG_VIN m) TH_STG_VIN_VIN

/-- The stage loss of a phase (R280). -/
def State.stageLoss (s : State) (n : Fin 16) : Int :=
  let m : Fin 4 := ⟨s.phLoop n % 4, by omega⟩
  let i := s.getI (PH_TEL n) PH_TEL_I_AVG
  let vin := s.stageVin m
  let v := s.get (LOOP_V m) LOOP_V_V
  let dd := if vin = 0 then (if v = 0 then 65536 else 1) else 8 * vin
  let dn := if vin = 0 then (if v = 0 then (Config.freeWord s.freeCtr).toNat % 65537 else 1) else min v (8 * vin)
  let r : Nat := dn * s.get (TH_STG_R m) TH_STG_R_RHS + (dd - dn) * s.get (TH_STG_R m) TH_STG_R_RLS
  let cond := roundDiv (i * i * r) (1000 * dd)
  let st := s.phState n
  if st == phActive || st == phShedding then
    let per := max 1 s.loops[m].per
    cond + roundDiv (16 * vin * i.natAbs * s.get (TH_STG_SW m) TH_STG_SW_TSW) (125 * per) +
      roundDiv (s.get (TH_STG_SW m) TH_STG_SW_PFSW * 12800000) per
  else cond

/-- Loss in the balancing switches (R279). -/
def State.balLoss (s : State) : Int :=
  ((List.range 8).filter (fun k => (s.get GG_CELL_STAT GG_CELL_STAT_BAL_ON).testBit k)).foldl (fun t k =>
    let v := s.get (GG_CELL k) GG_CELL_V
    let r := s.get GG_BAL_R GG_BAL_R_RBAL + 30
    t + roundDiv (30 * v * v) (r * r)) 0

/-- The power of a node in the present frame. -/
def State.nodePower (s : State) (i : Fin 40) : Int :=
  if h : i.val < 16 then s.stageLoss ⟨i.val, h⟩
  else if i.val < 30 then 1000 * (s.get (REG_LOSS (i.val - 16)) REG_LOSS_P : Nat)
  else if i.val = 30 then 1000 * (s.get TH_PFIX TH_PFIX_PWR : Nat) + s.balLoss
  else if i.val = 31 then 1000 * (s.get TH_PFIX TH_PFIX_CTL : Nat)
  else
    let l := s.get CHG_LOSS CHG_LOSS_P
    let a := s.get TH_CHG_SPLIT TH_CHG_SPLIT_N34
    let b := s.get TH_CHG_SPLIT TH_CHG_SPLIT_N35
    if i.val = 34 then (10 * l * a : Nat)
    else if i.val = 35 then (10 * l * b : Nat)
    else if i.val = 36 then (10 * l * (100 - a - b) : Nat)
    else 0

def State.updTh (s : State) (f : ThSt → ThSt) : State := { s with th := f s.th }

/-- Powers of the 16 frames that end at a tick whose number is a multiple of 16 (R279). -/
def State.powerTick (s : State) : State :=
  let fresh := s.frmNum % 16 == 1
  s.updTh (fun t => { t with nodes := Vector.ofFn (fun i : Fin 40 =>
    let n := t.nodes[i]
    let p := s.nodePower i
    { n with sum := if fresh then p else n.sum + p }) })

/-! ### The latch of the model's results (R281, R285, R286) -/

/-- The boundary temperature in 1/128 °C (R279). -/
def State.boundary (s : State) : Int := s.getI TH_AMB TH_AMB_AMB + s.th.ofs

/-- A temperature of 24 fractional bits in 1/128 °C. -/
def pubT (t : Int) : Int := roundDiv t (2 ^ 17)

/-- Every node at the boundary temperature, its histories empty (R282). -/
def State.nodesStart (s : State) : State :=
  let b := s.boundary * (2 ^ 17 : Nat)
  s.updTh (fun t => { t with on := true, steps := 0, runs := Vector.replicate 8 0, dwell := 0
                             nodes := t.nodes.map (fun n => { t := b, sum := n.sum }) })

/-- The model does not run: THR_LVL is FORCE_MIN (R286), which is its cause where it is above 0 (log 25). -/
def State.nodesStop (s : State) : State :=
  let f := s.get TH_CTL TH_CTL_FORCE_MIN
  s.updTh (fun t => { t with on := false, level := f, cause := if f = 0 then 0 else 41, rate := false, dwell := 0 })

/-- A register takes a word where it differs. -/
def State.wrNew (s : State) (a : Nat) (w : Word) : State := if s.rd a = w then s else s.wr a w

/-- The nodes' results in their registers: 0x8000 while the model does not run (R269). -/
def State.publishNode (s : State) (i : Fin 40) : State :=
  let n := s.th.nodes[i]
  if s.th.on then
    (s.wrNew (TH_T i) (setF (setF 0 TH_T_T (satI 16 (pubT n.t))) TH_T_P (satN 16 n.p))).wrNew (TH_RISE i)
      (setF (setF 0 TH_RISE_R10 (satI 16 n.r10)) TH_RISE_R1S (satI 16 n.r1s))
  else (s.wrNew (TH_T i) (setF 0 TH_T_T 0x8000)).wrNew (TH_RISE i) 0

/-- TH_STAT takes the level, its cause and the rate demand; a changed level raises ESN 0x70 (R285). -/
def State.levelShow (s : State) : State :=
  let old := s.get TH_STAT TH_STAT_THR_LVL
  let new := s.th.level
  let w := setF (setF (setF (s.rd TH_STAT) TH_STAT_THR_LVL new) TH_STAT_RATE (if s.th.rate then 1 else 0)) TH_STAT_CAUSE
    s.th.cause
  let s := s.wrNew TH_STAT w
  if old = new then s else s.raise 0x70 (new + 16 * old) s.th.cause

/-- At an entry to STANDBY the level is set to 0, and the effects that read it latched follow (R286). -/
def State.levelStandby (s : State) : State :=
  s.latchChange (s.updTh (fun t => { t with level := 0, cause := 0, rate := false })).levelShow

/-- THROTTLE_N is asserted (R287). -/
def State.throttleN (s : State) : Bool := s.power == .run && s.get TH_STAT TH_STAT_THR_LVL != 0

/-- The clock of Burin's cores and TCMs, as the divisor of MAIN; a level set while D_PROC is in reset counts from the
release (R287). -/
def State.burinDiv (s : State) : Nat :=
  match s.get TH_STAT TH_STAT_THR_LVL with
  | 2 => 2
  | 3 => 4
  | _ => 1

/-- The results of the last step are latched (R281, R285). -/
def State.thermalTick (s : State) : State :=
  let en := s.flag TH_CFG TH_CFG_EN
  let s := if en then (if s.th.on then s else s.nodesStart) else s.nodesStop
  let s := (allFin 40).foldl State.publishNode s
  let s := s.wrNew TH_OFS (setF (setF 0 TH_OFS_OFS (satI 16 s.th.ofs)) TH_OFS_ADJ (min 255 s.th.adj))
  (s.wrNew TH_PKG_P (BitVec.ofNat 32 (satN 32 s.th.pkg))).levelShow

/-! ### The step (R281 to R288) -/

/-- A node takes part in links and demands: CAP above 0, or the boundary (R281). -/
def State.nodeUsed (s : State) (i : Nat) : Bool := i == 39 || s.latchedF (TH_NODE i) TH_NODE_CAP != 0

/-- The links in use, as two nodes and a conductance. -/
def State.links (s : State) : List (Nat × Nat × Nat) :=
  ((List.range 80).map (fun k =>
    let w := s.latched (TH_LINK k)
    (getF w TH_LINK_A, getF w TH_LINK_B, getF w TH_LINK_G))).filter (fun l =>
      l.2.2 != 0 && decide (l.1 < 40) && decide (l.2.1 < 40) && s.nodeUsed l.1 && s.nodeUsed l.2.1)

/-- Heat that leaves a node, in G units times 2^-24 K (R281). -/
def nodeFlow (ts : List Int) (i : Nat) : List (Nat × Nat × Nat) → Int
  | [] => 0
  | (a, b, g) :: r =>
    (if a = i then g * (ts.getD a 0 - ts.getD b 0) else if b = i then g * (ts.getD b 0 - ts.getD a 0) else 0) +
      nodeFlow ts i r

/-- Node powers and temperatures after a step (R281). -/
def State.integrate (s : State) : State :=
  let b := (getFI (s.latched TH_AMB) TH_AMB_AMB + s.th.ofs) * (2 ^ 17 : Nat)
  let ls := s.links
  let ts := (s.th.nodes.toList.map (·.t)).set 39 b
  s.updTh (fun t => { t with steps := t.steps + 1, nodes := Vector.ofFn (fun i : Fin 40 =>
    let n := t.nodes[i]
    let cap := s.latchedF (TH_NODE i) TH_NODE_CAP
    let tNew := if i.val = 39 || cap = 0 then b
      else n.t + roundDiv (n.sum * (2 ^ 20 : Nat) - 100 * nodeFlow ts i ls) (3125000 * cap)
    { n with t := tNew, p := roundDiv n.sum 16000 }) })

/-- Package power: the sum of nodes 16 to 32 (R279), mW. -/
def State.packagePower (s : State) : State :=
  s.updTh (fun t => { t with
    pkg := roundDiv (((t.nodes.toList.drop 16).take 17).foldl (fun a n => a + n.sum) 0) 16000 })

/-- The discrepancy of an NTC input, where it is cross-checked and valid (R283). -/
def State.ntcGap (s : State) (k : Fin 8) : Option Int :=
  let c := s.latched (NTC_CFG k)
  let node := getF c NTC_CFG_NODE
  let t := s.latched (NTC_T k)
  if getF c NTC_CFG_EN != 0 && decide (node < 39) && getF t NTC_T_T != 0x8000 then
    some (getFI t NTC_T_T - pubT ((s.th.nodes.toList.getD node {}).t))
  else none

/-- The input chosen: of those with a run of 16 the one of largest discrepancy, the lowest of equals (R283). -/
def State.ntcChosen (s : State) : Option (Fin 8 × Int) :=
  (allFin 8).foldl (fun best k =>
    match s.ntcGap k with
    | some d =>
      if s.th.runs[k] < 16 then best
      else match best with
        | some b => if b.2.natAbs < d.natAbs then some (k, d) else best
        | none => some (k, d)
    | none => best) none

/-- The shift of offset, boundary, nodes and histories (R283). -/
def State.shiftBy (s : State) (d : Int) : State :=
  let e := d * (2 ^ 17 : Nat)
  s.updTh (fun t => { t with ofs := t.ofs + d, adj := t.adj + 1, runs := Vector.replicate 8 0
                             nodes := t.nodes.map (fun n =>
    { n with t := n.t + e, hist := n.hist.map (· + e), samp := n.samp.map (· + e) }) })

/-- The cross-check of a step (R283). -/
def State.crossCheck (s : State) : State :=
  let s := s.updTh (fun t => { t with runs := Vector.ofFn (fun k : Fin 8 =>
    match s.ntcGap k with
    | some d => if 1280 < d.natAbs then t.runs[k] + 1 else 0
    | none => 0) })
  if s.latchedF TH_CFG TH_CFG_XCHK_EN = 0 then s
  else
    match s.ntcChosen with
    | none => s
    | some (k, d) =>
      let m : Int := s.latchedF TH_AMB TH_AMB_OFS_MAX
      let goal := s.th.ofs + d
      let goal := if goal > m then m else if goal < -m then -m else goal
      let cut := goal != s.th.ofs + d
      let s := (s.shiftBy (goal - s.th.ofs)).putB TH_STAT TH_STAT_XCHK true
      if cut then (s.putB TH_STAT TH_STAT_OFS_LIM true).raise 0x72 2 k else s.raise 0x72 1 k

/-- The rises of a node, its histories moving on (R284). -/
def nodeRise (steps : Nat) (n : NodeSt) : NodeSt :=
  let samp := if steps % 125 = 0 then (n.t :: n.samp).take 26 else n.samp
  { n with r10 := if n.hist.length < 32 then 0 else roundDiv ((n.t - n.hist.getD 31 0) * 125) (2 ^ 24)
           r1s := if samp.length < 26 then 0 else roundDiv (n.t - samp.getD 25 0) (2 ^ 17)
           hist := (n.t :: n.hist).take 32, samp := samp }

def State.rises (s : State) : State := s.updTh (fun t => { t with nodes := t.nodes.map (nodeRise t.steps) })

/-- A rise exceeds a limit, where the limit is not 0; `k` times the rise is compared (R285, R286). -/
def riseOver (k lim : Nat) (r : Int) : Bool := lim != 0 && decide ((lim : Int) < k * r)

/-- A temperature of 24 fractional bits stands at or above a threshold in 1/128 °C lowered by `low` (R285, R286). -/
def atOrAbove (t : Int) (thr : Int) (low : Nat) : Bool := decide ((thr - low) * (2 ^ 17 : Nat) ≤ t)

/-- The demand a node makes (R285, R288); `low` lowers its thresholds and `k` multiplies its rises (R286). -/
def State.nodeDemand (s : State) (i : Fin 40) (low k : Nat) : Nat :=
  let c := s.latched (TH_LIM_C i)
  if getF c TH_LIM_C_EN = 0 || !s.nodeUsed i then 0
  else
    let n := s.th.nodes[i]
    let a := s.latched (TH_LIM_A i)
    let b := s.latched (TH_LIM_B i)
    let r := s.latched (TH_LIM_R i)
    let lvl := if atOrAbove n.t (getFI b TH_LIM_B_TCRIT) low then 3
      else if atOrAbove n.t (getFI b TH_LIM_B_T3) low then 3
      else if atOrAbove n.t (getFI a TH_LIM_A_T2) low then 2
      else if atOrAbove n.t (getFI a TH_LIM_A_T1) low then 1 else 0
    let rate := riseOver k (getF r TH_LIM_R_RISE10) n.r10 || riseOver k (getF r TH_LIM_R_RISE1S) n.r1s
    max lvl (if rate then getF c TH_LIM_C_RLVL else 0)

/-- The package limit in mW (R48, R291). -/
def State.pkgLim (s : State) : Nat := min 6500 (s.latchedF TH_PKG TH_PKG_PKG_LIM)

/-- The greatest demand and what sets it: a node, 40 for the package, 41 for FORCE_MIN (R285); `pct` of PKG_LIM
counts. -/
def State.demand (s : State) (low k pct : Nat) : Nat × Nat :=
  let d := (allFin 40).foldl (fun (b : Nat × Nat) i =>
    let x := s.nodeDemand i low k
    if b.1 < x then (x, i.val) else b) (0, s.th.cause)
  let p := if decide ((pct * s.pkgLim : Nat) < 100 * s.th.pkg) then s.latchedF TH_CFG TH_CFG_PKG_LVL else 0
  let d := if d.1 < p then (p, 40) else d
  let f := s.latchedF TH_CTL TH_CTL_FORCE_MIN
  if d.1 < f then (f, 41) else d

/-- A node with a threshold exceeded raises it once per entry (R288). -/
def State.nodeEvents (s : State) (i : Fin 40) : State :=
  let c := s.latched (TH_LIM_C i)
  if getF c TH_LIM_C_EN = 0 || !s.nodeUsed i then s
  else
    let n := s.th.nodes[i]
    let b := s.latched (TH_LIM_B i)
    let r := s.latched (TH_LIM_R i)
    let hyst := 64 * s.latchedF TH_CFG TH_CFG_HYST
    let crit := atOrAbove n.t (getFI b TH_LIM_B_TCRIT) 0
    let t3 := atOrAbove n.t (getFI b TH_LIM_B_T3) 0
    let r10 := riseOver 1 (getF r TH_LIM_R_RISE10) n.r10
    let r1s := riseOver 1 (getF r TH_LIM_R_RISE1S) n.r1s
    let s := if crit && !n.crSaid then (s.putB TH_STAT TH_STAT_CRIT true).raise 0x75 0 i
      else if crit then s.putB TH_STAT TH_STAT_CRIT true else s
    let s := if t3 && !n.t3Said then s.raise 0x71 0 i else s
    let s := if r10 && !n.rtSaid then s.raise 0x74 0 i else s
    let s := if r1s && !n.rsSaid then s.raise 0x74 0 (i + 64) else s
    s.updTh (fun t => { t with nodes := t.nodes.set i { n with
      crSaid := crit || (n.crSaid && atOrAbove n.t (getFI b TH_LIM_B_TCRIT) hyst)
      t3Said := t3 || (n.t3Said && atOrAbove n.t (getFI b TH_LIM_B_T3) hyst), rtSaid := r10, rsSaid := r1s } })

/-- A rate demand is in force (R285). -/
def State.rateDemand (s : State) : Bool :=
  (allFin 40).any (fun i =>
    let r := s.latched (TH_LIM_R i)
    let n := s.th.nodes[i]
    s.latchedF (TH_LIM_C i) TH_LIM_C_EN != 0 && s.nodeUsed i &&
      (riseOver 1 (getF r TH_LIM_R_RISE10) n.r10 || riseOver 1 (getF r TH_LIM_R_RISE1S) n.r1s))

/-- The level and the count towards a fall after a step (R285, R286). -/
def State.throttle (s : State) : State :=
  let d := s.demand 0 1 100
  let d2 := s.demand (64 * s.latchedF TH_CFG TH_CFG_HYST) 2 95
  let rate := s.rateDemand
  s.updTh (fun t =>
    if t.level < d.1 then { t with level := d.1, cause := d.2, rate := rate, dwell := 0 }
    else { t with cause := d.2, rate := rate, dwell := if d2.1 < t.level then t.dwell + 1 else 0 })

/-- THERMAL_STEP (R281 to R285, R288): in each frame whose number is a multiple of 16. -/
def execThermalStep (s : State) : Host.Outcome State Fault Refusal :=
  done <| s.when (s.engines && s.th.on && s.latchedF TH_CFG TH_CFG_EN != 0 && s.frmNum % 16 == 0 &&
      s.th.last != some s.clk.frames) fun s =>
    let s := (s.updTh (fun t => { t with last := some s.clk.frames })).integrate.packagePower.crossCheck.rises
    ((allFin 40).foldl State.nodeEvents s).throttle

/-- THROTTLE_FALL (R286): the lowered demand has stayed below the level for DWELL × 125 steps. -/
def execThrottleFall (s : State) : Host.Outcome State Fault Refusal :=
  done <| s.when (s.engines && s.th.on && decide (0 < s.th.level) &&
      decide (125 * max 1 (s.latchedF TH_CFG TH_CFG_DWELL) ≤ s.th.dwell)) fun s =>
    s.updTh (fun t => { t with level := t.level - 1, dwell := 0 })

/-! ### Writes of the thermal block (R282, R291) -/

/-- The node's condition of R282 over a capacity and the conductances of its links. -/
def stableNode (cap g : Nat) : Bool := cap == 0 || decide (32 * g ≤ 1000000 * cap)

/-- Sum of the conductances that touch a node, over the register words `r`. -/
def nodeG (r : Nat → Word) (i : Nat) : Nat :=
  (List.range 80).foldl (fun n k =>
    let w := r (TH_LINK k)
    if getF w TH_LINK_A = i || getF w TH_LINK_B = i then n + getF w TH_LINK_G else n) 0

/-- The lowest node that breaks the condition of R282. -/
def unstableNode (r : Nat → Word) : Option Nat :=
  (List.range 39).find? (fun i => !stableNode (getF (r (TH_NODE i)) TH_NODE_CAP) (nodeG r i))

/-- The address lies in TH_NODE or TH_LINK. -/
def isThermalNet (a : Nat) : Bool :=
  decide (TH_NODE 0 ≤ a ∧ a < TH_NODE 40) || decide (TH_LINK 0 ≤ a ∧ a < TH_LINK 80)

/-- A thermal register takes a word, or the write is ignored (R282, R291). -/
def State.thermalWrite (s : State) (a : Nat) (w : Word) : State :=
  if isThermalNet a then
    match unstableNode (fun b => if b = a then w else s.rd b) with
    | some i => s.raise 0x77 2 i
    | none => s.wr a w
  else if a = TH_CHG_SPLIT then
    if 100 < getF w TH_CHG_SPLIT_N34 + getF w TH_CHG_SPLIT_N35 then s else s.wr a w
  else s.wr a w

end Sys2Proof.Machine
end

