-- ==== Sys2Proof/Machine/Gauge.lean ====
section
/-! DEFINITION. Battery gauge: counting, hibernation, cells, balancing, rest and the gauge store (spec 09 R201 to R217,
R230, R231). -/
namespace Sys2Proof.Machine
open Sys2Proof

/-! ### Values of the path and the charger (R180, R188) -/

def pathOnBattery : Nat := 0
def pathOnFeed : Nat := 1
def pathHandover : Nat := 2
def pathReturning : Nat := 3
def State.path (s : State) : Nat := s.get PATH_STAT PATH_STAT_PATH

def chgIdle : Nat := 0
def chgTrickle : Nat := 1
def chgPre : Nat := 2
def chgCC : Nat := 3
def chgCV : Nat := 4
def chgZch : Nat := 5
def chgNoPack : Nat := 6
def chgSafeHold : Nat := 7
def chgPackQual : Nat := 8
def State.chgState (s : State) : Nat := s.get CHG_STAT CHG_STAT_STATE

/-- Number of cells (R209). -/
def State.cells (s : State) : Nat := min 8 (s.get CHG_CFG CHG_CFG_CELLS)

/-- The battery shunt in microohm. -/
def State.rsns (s : State) : Nat := s.get CHG_SENSE CHG_SENSE_RSNS_BAT

/-! ### Counting (R202 to R207) -/

/-- The current of a converter code in mA (R201, R202): one code is 190.735 nV. -/
def State.codeMilliamp (s : State) (v : Int) : Int := s.quot (v * 190735) (1000 * s.rsns : Nat)

/-- A number held within 64 signed bits (R204). -/
def sat64 (v : Int) : Int :=
  if v > 9223372036854775807 then 9223372036854775807 else if v < -9223372036854775808 then -9223372036854775808 else v

/-- The charge of a count in microampere-hours (R204). -/
def State.countCharge (s : State) (q : Int) : Int := s.quot (q * 38147) (36000000 * s.rsns : Nat)

/-- A signed 64-bit value in a pair of registers. -/
def State.put64 (s : State) (lo hi : Nat) (v : Int) : State :=
  let n := wrapI 64 v
  (s.wr lo (BitVec.ofNat 32 n)).wr hi (BitVec.ofNat 32 (n / 2 ^ 32))

/-- A result counts with a weight in frames (R202 to R204, R206, R207); an auto-zero result is replaced by the one
before it. -/
def State.gaugeResult (s : State) (code : Int) (auto : Bool) (weight : Nat) : State :=
  let v := if auto then s.gg.last else code
  let sat := v = 524287 || v = -524288
  let s := if sat then
      let t := s.putB GG_STAT GG_STAT_SAT true
      let t := t.updEst (fun e => { e with satSeen := true })
      if s.gg.satRun then t else t.raise 0x62 0
    else s
  let q := sat64 (s.gg.qraw + v * weight)
  let s := s.updGg (fun g =>
    { g with qraw := q, last := v, satRun := sat, blockSum := g.blockSum + v * weight, blockN := g.blockN + weight })
  let s := (s.put64 GG_QRAW_LO GG_QRAW_HI q).put GG_Q GG_Q_Q (satI 32 (s.countCharge q))
  s.put GG_I GG_I_I (satI 16 (s.codeMilliamp v))

/-- Sum and number over some blocks. -/
def blockTotal (l : List (Int × Nat)) : Int × Nat := l.foldl (fun t b => (t.1 + b.1, t.2 + b.2)) (0, 0)

/-- The 100 ms end: the mean of the last 50,000 results is updated (R202). -/
def State.gaugeMean (s : State) : State :=
  let l := ((s.gg.blockSum, s.gg.blockN) :: s.gg.blocks).take 10
  let s := s.updGg (fun g => { g with blocks := l, blockSum := 0, blockN := 0 })
  let t := blockTotal l
  s.put GG_I GG_I_I_1S (satI 16 (s.quot (t.1 * 190735) (1000 * s.rsns * t.2 : Nat)))

/-! ### Rest (R216, R217) -/

/-- The pack is present (R216). -/
def State.packPresent (s : State) : Bool := s.chg.packId && s.chgState != chgNoPack && s.chgState != chgPackQual

/-- The rest run grows by some frames or is reset (R216); REST clears at the first reset, and the rest age follows the
operating time. -/
def State.gaugeRest (s : State) (frames : Nat) : State :=
  let present := s.packPresent
  let s := s.putB GG_STAT GG_STAT_PRESENT present
  let grows := present && decide ((s.getI GG_I GG_I_I).natAbs < s.get GG_REST GG_REST_REST_I)
  let s := if grows then s.updGg (fun g => { g with restRun := g.restRun + frames })
    else (s.updGg (fun g => { g with restRun := 0 })).putB GG_STAT GG_STAT_REST false
  let s := if s.flag GG_STAT GG_STAT_REST then s.updGg (fun g => { g with restedAt := s.opt.ms }) else s
  s.put GG_REST_AGE GG_REST_AGE_AGE (satN 32 ((s.opt.ms - s.gg.restedAt) / 1000 : Nat))

/-- The gauge counts: in RUN with the engines running, and in STANDBY. -/
def State.gaugeRuns (s : State) : Bool := s.engines || s.power == .standby

/-- REST_REACHED (R216, R217): the run reaches REST_T, as the last tick put it in force (R238); REST is set and DRIFT
clears. -/
def execRestReached (s : State) : Host.Outcome State Fault Refusal :=
  done <| s.atTick (s.gaugeRuns && s.packPresent && !s.flag GG_STAT GG_STAT_REST &&
      decide (50000 * max 1 (s.latchedF GG_REST GG_REST_REST_T) ≤ s.gg.restRun)) fun s =>
    let s := (s.putB GG_STAT GG_STAT_REST true).putB GG_STAT GG_STAT_DRIFT false
    ((s.updGg (fun g => { g with restedAt := s.opt.ms })).put GG_REST_AGE GG_REST_AGE_AGE 0).raise 0x58 0

/-- EST_DRIFT (R217): no rest for DRIFT_H hours, as the last tick put it in force (R238). -/
def execEstDrift (s : State) : Host.Outcome State Fault Refusal :=
  done <| s.atTick (s.gaugeRuns && !s.flag GG_STAT GG_STAT_REST && !s.flag GG_STAT GG_STAT_DRIFT &&
      decide (3600 * max 1 (s.latchedF GG_CFG GG_CFG_DRIFT_H) ≤ s.get GG_REST_AGE GG_REST_AGE_AGE)) fun s =>
    (s.putB GG_STAT GG_STAT_DRIFT true).raise 0x5A 0

/-! ### Hibernation (R207, R208) -/

/-- HIBERNATION_RESULT (R207, R208, R216): a result of 2,048 crystal cycles in STANDBY, in which time passes (R375); every
sixteenth is an auto-zero result. A stopped crystal gives none (R366). Beyond WAKE_I in 2 consecutive results the gauge requests a wake, which GAUGE_WAKE makes. -/
def execHibernationResult (code : BitVec 20) (packId : Bool) (s : State) : Host.Outcome State Fault Refusal :=
  done <| s.when (s.power == .standby && s.flag GG_STAT GG_STAT_HIB && s.bak.crystal) fun s =>
    let s := s.xtalCycles 2048 true
    let n := s.gg.hibN + 1
    let s := (s.updChg (fun c => { c with packId := packId })).updGg (fun g => { g with hibN := n, hibCycles := 0 })
    let s := s.gaugeResult code.toInt (n % 16 = 0) 3125
    let s := if s.gg.blockN ≥ 5000 then s.gaugeMean else s
    let s := s.gaugeRest 3125
    let beyond := decide (s.get GG_LIM GG_LIM_WAKE_I < (s.getI GG_I GG_I_I).natAbs)
    s.updGg (fun g => { g with wakeRun := if beyond then g.wakeRun + 1 else 0 })

/-! ### Cells (R209 to R213) -/

/-- Cell k + 1 lies beside an open tap (R211). -/
def besideOpen (open_ k : Nat) : Bool := open_.testBit k || open_.testBit (k + 1)

/-- The cell registers take the readings (R209, R211); those above CELLS read 0. -/
def State.cellRegs (s : State) (v : Vector Nat 8) : List (Fin 8) → State
  | [] => s
  | k :: r =>
    let o := s.get GG_CELL_STAT GG_CELL_STAT_OPEN
    let x := if s.cells ≤ k.val then 0 else if besideOpen o k then 0xFFFF else v[k]
    State.cellRegs (s.put (GG_CELL k) GG_CELL_V x) v r

/-- A cell's latched voltage, 100 µV. -/
def State.cellV (s : State) (k : Nat) : Nat := s.get (GG_CELL k) GG_CELL_V

/-- The lowest cell among those below `n` that are valid, with its index from 1 (R209, R211). -/
def State.lowCell (s : State) : Nat → Nat × Nat
  | 0 => (0, 0)
  | n + 1 =>
    let b := State.lowCell s n
    if s.cellV n = 0xFFFF then b else if b.2 = 0 || s.cellV n < b.1 then (s.cellV n, n + 1) else b

/-- The highest valid cell. -/
def State.highCell (s : State) : Nat → Nat × Nat
  | 0 => (0, 0)
  | n + 1 =>
    let b := State.highCell s n
    if s.cellV n = 0xFFFF then b else if b.2 = 0 || b.1 < s.cellV n then (s.cellV n, n + 1) else b

/-- "Lowest cell" (R209): GG_CELL_EXT.MIN, 100 µV. -/
def State.lowestCell (s : State) : Nat := s.get GG_CELL_EXT GG_CELL_EXT_MIN

/-- Runs of refreshes below CELL_UV (R212). -/
def State.uvRuns (s : State) : State :=
  let below (k : Fin 8) : Bool := k.val < s.cells && decide (s.cellV k < 10 * s.get GG_LIM GG_LIM_CELL_UV)
  s.updGg (fun g =>
    { g with uvRun := Vector.ofFn (fun k : Fin 8 => if below k then g.uvRun[k] + 1 else 0),
             uvSaid := g.uvSaid.filter (fun k => if h : k < 8 then below ⟨k, h⟩ else false) })

/-- The cell registers, the extremes and their indices show the readings taken up last, with the cells beside an open tap
left out (R209, R211). -/
def State.cellShow (s : State) : State :=
  let s := s.cellRegs s.gg.raw (allFin 8)
  let lo := s.lowCell s.cells
  let hi := s.highCell s.cells
  let s := s.wr GG_CELL_EXT (setF (setF 0 GG_CELL_EXT_MIN lo.1) GG_CELL_EXT_MAX hi.1)
  (s.put GG_CELL_STAT GG_CELL_STAT_MIN_IDX lo.2).put GG_CELL_STAT GG_CELL_STAT_MAX_IDX hi.2

/-- A measurement frame's readings are latched (R209). -/
def State.cellRefresh (s : State) (v : Vector Nat 8) (vpack : Nat) : State :=
  let s := (s.updGg (fun g => { g with raw := v })).cellShow
  let s := (s.put GG_VPACK GG_VPACK_VPACK (min vpack 65535)).putB GG_STAT GG_STAT_CELL_HELD false
  let sum := ((List.range s.cells).map s.cellV).foldl (· + ·) 0
  (s.updGg (fun g => { g with refreshes := (sum :: g.refreshes).take 50 })).uvRuns

/-- CELL_UV (R212): a cell below CELL_UV at 5 consecutive refreshes. -/
def execCellUv (k : Fin 8) (s : State) : Host.Outcome State Fault Refusal :=
  done <| s.atTick (s.engines && decide (5 ≤ s.gg.uvRun[k]) && !s.gg.uvSaid.contains k.val) fun s =>
    ((s.updGg (fun g => { g with uvSaid := g.uvSaid ++ [k.val] })).putB GG_STAT GG_STAT_CELL_UV true).raise 0x5F 0 (k + 1)

/-- Tap t is open (R211): the cells on either side of it moved in opposite directions by more than 200 mV. -/
def State.tapMoves (s : State) (v : Vector Nat 8) (t : Nat) : Bool :=
  if h : 1 ≤ t ∧ t < s.cells ∧ t < 8 then
    let a : Int := (v[t - 1]'(by omega) : Int) - s.gg.raw[t - 1]'(by omega)
    let b : Int := (v[t]'(by omega) : Int) - s.gg.raw[t]'(by omega)
    (decide (2000 < a) && decide (b < -2000)) || (decide (a < -2000) && decide (2000 < b))
  else false

/-- Each tap from 8 down found open is marked, and one newly found is raised (R211). -/
def State.tapCheck (s : State) (v : Vector Nat 8) : Nat → State
  | 0 => s
  | n + 1 =>
    let s := State.tapCheck s v n
    let o := s.get GG_CELL_STAT GG_CELL_STAT_OPEN
    if s.tapMoves v n then
      let t := (s.put GG_CELL_STAT GG_CELL_STAT_OPEN (o ||| 2 ^ n)).putB GG_STAT GG_STAT_OPEN_TAP true
      if o.testBit n then t else t.raise 0x5E 0 n
    else if o.testBit n then s.put GG_CELL_STAT GG_CELL_STAT_OPEN (o - 2 ^ n) else s

/-! ### Balancing (R214, R215) -/

/-- Cell k + 1 qualifies for balancing (R214); `was` is the mask of the cells that balanced at the last refresh. -/
def State.balances (s : State) (was k : Nat) : Bool :=
  let v := s.cellV k
  let lo := s.lowestCell
  let st := s.chgState
  s.flag GG_BAL_CFG GG_BAL_CFG_EN && s.path == pathOnFeed &&
  (st == chgCV || st == chgZch || (st == chgCC && s.flag GG_BAL_CFG GG_BAL_CFG_BAL_CC)) &&
  decide (10 * s.get GG_BAL_CFG GG_BAL_CFG_VMIN ≤ v) &&
  (decide (lo + 10 * s.get GG_BAL_CFG GG_BAL_CFG_ON ≤ v) ||
    (was.testBit k && decide (lo + 10 * s.get GG_BAL_R GG_BAL_R_OFF < v))) &&
  decide (s.get TH_STAT TH_STAT_THR_LVL < 3) && s.get GG_CELL_STAT GG_CELL_STAT_OPEN == 0 &&
  !s.flag GG_STAT GG_STAT_CELL_UV && (s.gg.restRun == 0 || s.flag GG_STAT GG_STAT_REST)

/-- The highest `n` of some cells. -/
def State.highest (s : State) : Nat → List Nat → List Nat
  | 0, _ => []
  | _, [] => []
  | n + 1, k :: r =>
    let m := r.foldl (fun b j => if s.cellV b < s.cellV j then j else b) k
    m :: State.highest s n ((k :: r).filter (fun j => j ≠ m))

/-- The switches close as the balancing rule requires (R214), at the tick that begins frame `n`. Where the settling time
before frame 63 of the cycle has begun already, they stay open through it (R210; log 22). A change of the cells balanced
is noted for the estimator (R225). -/
def State.balance (s : State) (n : Nat) : State :=
  let was := if s.gg.settling then s.gg.balWas else s.get GG_CELL_STAT GG_CELL_STAT_BAL_ON
  let m := s.get GG_BAL_CFG GG_BAL_CFG_MAX
  let l := s.highest (min 8 (max 1 m)) ((List.range s.cells).filter (s.balances was))
  let mask := l.foldl (fun t k => t + 2 ^ k) 0
  let late := mask != 0 && decide (63 ≤ n % 64 + max 1 (s.get GG_BAL_CFG GG_BAL_CFG_SETTLE))
  let s := s.updEst (fun e => { e with braked := e.braked || was != mask })
  (s.updGg (fun g => { g with settling := late, balWas := mask })).put GG_CELL_STAT GG_CELL_STAT_BAL_ON
    (if late then 0 else mask)

/-- The charge drawn in the frame by each cell whose switch is on (R215), kept in 1e-9 µAh. -/
def State.balCharge (s : State) : List (Fin 8) → State
  | [] => s
  | k :: r =>
    let s :=
      if (s.get GG_CELL_STAT GG_CELL_STAT_BAL_ON).testBit k then
        let d := 18000 * (s.get GG_BAL_R GG_BAL_R_RBAL + 30)
        let a := s.gg.balAcc[k] + (s.cellV k * 1000000000 + d / 2) / d
        (s.updGg (fun g => { g with balAcc := g.balAcc.set k (a % 1000000000) })).put (GG_BAL_Q k) GG_BAL_Q_Q
          (min (s.get (GG_BAL_Q k) GG_BAL_Q_Q + a / 1000000000) 0xFFFFFFFF)
      else s
    State.balCharge s r

/-- The gauge's pack temperature (R213). -/
def State.packTemp (s : State) : State :=
  s.put GG_VPACK GG_VPACK_TPACK
    (if s.flag GG_CFG GG_CFG_TNTC_EN then s.get (NTC_T (s.get GG_CFG GG_CFG_TNTC)) NTC_T_T else 0x8000)

/-! ### The tick (R202 to R216) -/

/-- The current's side of a tick: the result is counted, hibernation ends, the mean is taken, the balancing charge counts. -/
def State.gaugeCurrent (s : State) (x : FrameIn) (hib : Bool) (ended weight : Nat) : State :=
  let s := s.updChg (fun c => { c with packId := x.packId })
  let s := s.gaugeResult x.gauge.toInt (if hib then (s.gg.hibN + 1) % 16 = 0 else ended % 50000 = 0) weight
  (s.when hib (fun s => (s.putB GG_STAT GG_STAT_HIB false).updGg (fun g => { g with hibN := 0, hibCycles := 0, wakeRun := 0 }))
    |>.when (s.clk.frames % 5000 = 0) State.gaugeMean).balCharge (allFin 8)

/-- Cells are balanced in this cycle of 64 frames. -/
def State.cycling (s : State) : Bool := s.get GG_CELL_STAT GG_CELL_STAT_BAL_ON != 0 || s.gg.settling

/-- The cells' side of a tick: held, the tap check, or the voltages taken up. -/
def State.gaugeCells (s : State) (x : FrameIn) (measured : Bool) : State :=
  let v : Vector Nat 8 := x.cells.map (·.toNat)
  if !measured then s.putB GG_STAT GG_STAT_CELL_HELD true
  else if s.gg.tapNow then
    (((s.tapCheck v 9).updGg (fun g => { g with tapNow := false })).cellShow).putB GG_STAT GG_STAT_CELL_HELD true
  else s.cellRefresh v x.vpack.toNat

/-- Balancing stops for the settling time before a measurement (R210). -/
def State.gaugeSettle (s : State) (n : Nat) : State :=
  let on := s.get GG_CELL_STAT GG_CELL_STAT_BAL_ON
  s.when (on != 0 && n % 64 + max 1 (s.get GG_BAL_CFG GG_BAL_CFG_SETTLE) = 63) fun s =>
    (s.updGg (fun g => { g with settling := true, balWas := on })).put GG_CELL_STAT GG_CELL_STAT_BAL_ON 0

/-- The tap check falls due, and takes place at the next measurement. -/
def State.gaugeTap (s : State) (n : Nat) : State :=
  let s := s.when (n % 50000 = 25000) (fun s => s.updGg (fun g => { g with tapDue := true }))
  s.when (s.gg.tapDue && (!s.cycling || n % 64 = 63)) fun s => s.updGg (fun g => { g with tapDue := false, tapNow := true })

/-- What the gauge does at a tick: the ended frame's result, the cells, balancing and rest. -/
def State.gaugeTick (s : State) (x : FrameIn) : State :=
  let hib := s.flag GG_STAT GG_STAT_HIB
  let n := s.frmNum
  let ended := if n = 0 then 2 ^ 32 - 1 else n - 1
  let weight := if hib then ((s.gg.hibCycles + x.xtal.toNat) * 3125 + 1024) / 2048 else 1
  let s := s.gaugeCurrent x hib ended weight
  let measured := !hib && (!s.cycling || decide (ended % 64 = 63))
  let s := (((s.gaugeCells x measured).packTemp).gaugeRest weight).when measured (fun s => s.balance n)
  (s.gaugeSettle n).gaugeTap n

/-! ### The gauge store (R230, R231) -/

/-- Base of the gauge store in MRAM (R69). -/
def gaugeBase : Nat := 0x002C0000

/-- The bytes of a record but its sequence number and CRC, as last published (R230). -/
def State.gaugeRec (s : State) (type : Nat) : List Byte :=
  let e := s.get GG_EFLAGS
  let l := s.est.learn
  bytesLE 1 type ++
  bytesLE 1 (e GG_EFLAGS_SOC_STALE + 2 * e GG_EFLAGS_LEARN_STALE + 4 * e GG_EFLAGS_LEARNING + 8 * e GG_EFLAGS_FROZEN +
    16 * s.get GG_CTL GG_CTL_COMMISSION) ++ bytesLE 2 0 ++
  bytesLE 4 0 ++ bytesLE 6 s.opt.ms ++ bytesLE 2 (s.get GG_VPACK GG_VPACK_TPACK) ++ bytesLE 4 (s.rd PWR_CYCLES).toNat ++
  bytesLE 8 (wrapI 64 s.gg.qraw) ++ bytesLE 2 (s.get GG_SOC GG_SOC_SOC) ++ bytesLE 2 (s.get GG_SOC GG_SOC_BAND) ++
  bytesLE 4 (s.rd GG_FCC).toNat ++ bytesLE 2 (s.get GG_HEALTH GG_HEALTH_SOH) ++
  bytesLE 2 (s.get GG_HEALTH GG_HEALTH_RIMP) ++
  bytesLE 4 (match l with | some c => wrapI 32 c.q0 | none => 0) ++
  bytesLE 2 (match l with | some c => (c.soc0 / 100).toNat | none => 0) ++
  bytesLE 2 (e GG_EFLAGS_LAST_DISQ) ++ bytesLE 6 (s.calendar / 256) ++ bytesLE 2 0 ++
  bytesLE 4 (s.get GG_REST_AGE GG_REST_AGE_AGE)

/-- A record with its sequence number, CRC-16 and valid mark (R230). -/
def gaugeFinish (l : List Byte) (seq : Nat) : List Byte :=
  let b := l.take 4 ++ bytesLE 4 seq ++ l.drop 8
  b ++ bytesLE 2 (crc16 b) ++ [(0 : Byte), (0xA5 : Byte)]

/-- A record goes to the slot after the newest (R230). -/
def State.gaugeStore (s : State) (type : Nat) (l : List Byte) : State :=
  let slot := (s.gg.slot + 1) % 1024
  let seq := (s.gg.seq + 1) % 2 ^ 32
  (s.updGg (fun g => { g with slot := slot, seq := seq, refused := g.refused.filter (fun p => p.1 ≠ type) })).nvQueue2
    (recordJob (if type = 2 ∨ type = 4 then .record else .words) (gaugeBase + 64 * slot) (gaugeFinish l seq))

/-- A record is written, or refused while BOW is tripped (R231). -/
def State.gaugeWrite (s : State) (type : Nat) : State :=
  let l := s.gaugeRec type
  if s.nvBlocked then
    (s.updGg (fun g => { g with refused := g.refused.filter (fun p => p.1 ≠ type) ++ [(type, l)] })).raise 0x5C 0x03
  else s.gaugeStore type l

/-- The refused records are written when the path is next ON_FEED (R231). -/
def State.gaugeRetry (s : State) : List (Nat × List Byte) → State
  | [] => s
  | p :: r => State.gaugeRetry (s.gaugeStore p.1 p.2) r

/-- COUNT_RECORD_HOURLY (R231): every hour while FROZEN is set. -/
def execCountRecordHourly (s : State) : Host.Outcome State Fault Refusal :=
  done <| s.when (s.engines && s.flag GG_EFLAGS GG_EFLAGS_FROZEN && decide (s.gg.frozenAt + 3600000 ≤ s.opt.ms)) fun s =>
    (s.updGg (fun g => { g with frozenAt := g.frozenAt + 3600000 })).gaugeWrite 2

/-- The estimator is frozen at a D_PROC reset, with a COUNT record (R218, R231). -/
def State.gaugeFreeze (s : State) : State :=
  let s := ((s.putB GG_EFLAGS GG_EFLAGS_FROZEN true).raise 0x64 0).updGg (fun g => { g with frozenAt := s.opt.ms })
  s.gaugeWrite 2

/-! ### GG_SOC (R218, R236) -/

/-- Burin writes GG_SOC: GG_QREF takes GG_QRAW and FROZEN clears (R218). -/
def State.socWrite (s : State) (v : Word) : State :=
  let s := (s.wr GG_SOC v).updGg (fun g => { g with qref := g.qraw })
  (s.put64 GG_QREF_LO GG_QREF_HI s.gg.qraw).putB GG_EFLAGS GG_EFLAGS_FROZEN false

/-- GG_QRAW_LO_READ (R205): a read of the low half of GG_QRAW, or of GG_QREF, latches its high half. -/
def execGgQrawLoRead (ref : Bool) (s : State) : Host.Outcome State Fault Refusal :=
  done <| s.when s.inRun fun s =>
    if ref then { s.updGg (fun g => { g with qrefHi := some (s.rd GG_QREF_HI) }) with out := [s.rd GG_QREF_LO] }
    else { s.updGg (fun g => { g with qrawHi := some (s.rd GG_QRAW_HI) }) with out := [s.rd GG_QRAW_LO] }

end Sys2Proof.Machine
end

