-- ==== Sys2Proof/Machine/Estimator.lean ====
section
/-! DEFINITION. The estimator of the standard Burin firmware (spec 09 R218 to R235). States of charge and bands are in
0.0001 % (100 % is 1,000,000), charges in microampere-hours, voltages in microvolts. -/
namespace Sys2Proof.Machine
open Sys2Proof

/-! ### Chemistry data (R219, R453) -/

/-- Word `n` of the chemistry data; with no such item in the configuration image it is open (log 2). -/
def State.chem (s : State) (n : Nat) : Int := (s.est.chem.getD n (Config.noChemistry n)).toInt

def State.designCap (s : State) : Int := s.chem 0
def State.ocv (s : State) (i : Nat) : Int := s.chem (1 + i)

/-- The pack temperature the estimator takes, 1/128 °C (R213). -/
def State.packT (s : State) : Int :=
  if s.latchedF GG_CFG GG_CFG_TNTC_EN != 0 then s.getI GG_VPACK GG_VPACK_TPACK else 3200

/-! ### Rest-voltage table (R221) -/

/-- The first segment from `i` on, among `n`, in which a cell voltage lies. -/
def State.ocvSeg (s : State) (v : Int) (i : Nat) : Nat → Option Nat
  | 0 => none
  | n + 1 => if 1000 * s.ocv i ≤ v && v ≤ 1000 * s.ocv (i + 1) then some i else State.ocvSeg s v (i + 1) n

/-- State of charge and width of the table's segment in mV for a cell voltage (R221): linear between the points; outside
the table the spec states none (log 2). -/
def State.ocvMap (s : State) (v : Int) : Int × Int :=
  match s.ocvSeg v 0 20 with
  | some i =>
    let d := s.ocv (i + 1) - s.ocv i
    (50000 * i + s.quotAt 1 (50 * (v - 1000 * s.ocv i)) d, d)
  | none => ((Config.freeWord (s.freeCtr + 2)).toInt % 1000001, 0)

/-- The band of an uncertainty in µV over a segment: 50 w / d is w over the slope (R221, R224). -/
def State.bandOf (s : State) (k : Nat) (w d : Int) : Int := s.quotAt k (50 * w) d

/-- band_ocv (R221). -/
def State.bandOcv (s : State) (d : Int) : Int := max 5000 (s.bandOf 3 2000 d)

/-- A state of charge held to 0 % to 100 %. -/
def clampSoc (v : Int) : Int := if v < 0 then 0 else if v > 1000000 then 1000000 else v

/-! ### Charge and band between corrections (R220, R222) -/

/-- The balancing charges. -/
def State.balNow (s : State) : List Nat := (List.range 8).map (fun k => s.get (GG_BAL_Q k) GG_BAL_Q_Q)

/-- Mean over the cells of the balancing charge since some start. -/
def State.balSince (s : State) (b0 : List Nat) : Int :=
  let l := (List.range s.cells).map (fun k => (s.get (GG_BAL_Q k) GG_BAL_Q_Q : Int) - (b0.getD k 0 : Int))
  s.quotAt 4 (l.foldl (· + ·) 0) s.cells

/-- Counted charge, µAh. -/
def State.ggQ (s : State) : Int := s.getI GG_Q GG_Q_Q

/-- Full-charge capacity, µAh. -/
def State.fcc (s : State) : Int := 1000 * (s.rd GG_FCC).toNat

/-- A charge as a part of FCC. -/
def State.part (s : State) (k : Nat) (q : Int) : Int := s.quotAt k (1000000 * q) s.fcc

/-- The state of charge (R220). -/
def State.socNow (s : State) : Int :=
  clampSoc (s.est.soc0 + s.part 5 (s.ggQ - s.est.q0 - s.balSince s.est.bal0))

/-- The band (R222): its value at the last correction and each term's growth. -/
def State.bandNow (s : State) : Int :=
  let e := s.est
  let ofs := s.quotAt 6 (10 * (e.bandMs : Int) * 1000000) (36 * (s.rsns : Int) * s.fcc)
  min 500000 (e.band0 + s.quotAt 7 ((e.counted : Int) * 1000) s.fcc + ofs +
    s.quotAt 8 (s.balSince e.bal0 * 50000) s.fcc + (e.noRestMs : Int) * 2500 / 3600000)

/-- A correction or seed (R220 to R222). -/
def State.correct (s : State) (soc band : Int) : State :=
  s.updEst (fun e =>
    { e with soc0 := clampSoc soc, q0 := s.ggQ, bal0 := s.balNow, band0 := min 500000 band, counted := 0, bandMs := 0,
             noRestMs := 0 })

/-! ### Publishing (R218) -/

/-- The outputs but GG_SOC and the times are in their registers already; GG_SOC is written last. -/
def State.publish (s : State) : State :=
  s.socWrite (setF (setF 0 GG_SOC_SOC (satN 16 (roundDiv s.socNow 100))) GG_SOC_BAND (satN 16 (roundDiv s.bandNow 100)))

/-- An ESTIMATE or LEARN record with what the estimator now publishes; the 10 minutes count from an ESTIMATE (R231). -/
def State.estRecord (s : State) (type : Nat) : State :=
  let s := s.publish
  (s.gaugeWrite type).updEst (fun e => { e with recMs := if type = 1 then s.opt.ms else e.recMs })

/-! ### Readings of the cells (R221, R224) -/

/-- Mean cell voltage now, µV. -/
def State.cellMean (s : State) : Int :=
  s.quotAt 9 (100 * (((List.range s.cells).map s.cellV).foldl (· + ·) 0 : Nat)) s.cells

/-- The rest voltage of the last 50 refreshes, corrected to 25 °C, µV (R221). -/
def State.restVoltage (s : State) : Int :=
  let l := s.gg.refreshes
  let v := s.quotAt 9 (100 * (l.foldl (· + ·) 0 : Nat)) (l.length * s.cells : Nat)
  v - roundDiv (s.chem 22 * (s.packT - 3200) * 10) 128

/-- Impedance of a cell in 10 µΩ, times the number of cells (R225). -/
def State.rimp (s : State) : Nat := s.get GG_HEALTH GG_HEALTH_RIMP

/-- What the pack current drops across a cell, µV (R224, R225: r_cell is RIMP / CELLS). -/
def State.cellDrop (s : State) : Int :=
  s.quotAt 10 (s.getI GG_I GG_I_I_1S * (s.rimp : Int)) (100 * s.cells : Nat)

/-- An impedance-corrected reading (R224): state of charge and band. -/
def State.irReading (s : State) : Int × Int :=
  let m := s.ocvMap (s.cellMean - s.cellDrop)
  (m.1, s.bandOf 11 (2000 + s.cellDrop.natAbs / 5) m.2)

/-! ### Learning (R227 to R229) -/

/-- The cycle is disqualified and ends (R228). -/
def State.learnFail (s : State) (code : Nat) : State :=
  match s.est.learn with
  | none => s
  | some _ =>
    let s := (s.putB GG_EFLAGS GG_EFLAGS_LEARNING false).put GG_EFLAGS GG_EFLAGS_LAST_DISQ code
    (s.updEst (fun e => { e with learn := none })).raise 0x5B 0x03 code

/-- A disqualification with its LEARN record, as the firmware makes it (R231). -/
def State.learnDrop (s : State) (code : Nat) : State :=
  if s.est.learn.isSome then (s.learnFail code).estRecord 3 else s

/-- The first condition of R228 that an update finds for an open cycle. -/
def State.learnCode (s : State) (l : Learn) : Option Nat :=
  let t := s.packT
  let span := s.balSince l.bal0
  if s.latchedF GG_CFG GG_CFG_TNTC_EN == 0 || t < s.chem 31 || s.chem 32 < t then some 0x01
  else if s.chem 33 * s.fcc < 1000000 * ((s.getI GG_I GG_I_I_1S).natAbs : Int) then some 0x02
  else if s.fcc < 50 * (l.wrong : Int) then some 0x03
  else if s.flag GG_EFLAGS GG_EFLAGS_FALLBACK then some 0x06
  else if s.chem 35 * 86400000 < (s.opt.ms : Int) - l.ms0 then some 0x07
  else if s.fcc < 100 * span then some 0x08
  else if s.est.satSeen then some 0x0A
  else none

/-- Charge counted against the cycle's direction since the last update (R228). -/
def State.learnWrong (s : State) (dq : Int) : State :=
  match s.est.learn with
  | none => s
  | some l =>
    let w := if l.down then (if dq > 0 then dq.toNat else 0) else (if dq < 0 then (-dq).toNat else 0)
    let s := s.updEst (fun e => { e with learn := some { l with wrong := l.wrong + w } })
    match s.learnCode { l with wrong := l.wrong + w } with
    | some c => s.learnDrop c
    | none => s

/-- The cycle ends at a rest reading (R227 to R229). -/
def State.learnEnd (s : State) (l : Learn) (soc : Int) : State :=
  let span := (soc - l.soc0).natAbs
  let q := ((s.ggQ - l.q0) - s.balSince l.bal0).natAbs
  let c := s.quotAt 12 ((q : Int) * 1000) (span : Nat)
  let f : Int := (s.rd GG_FCC).toNat
  if (span : Int) < 100 * s.chem 29 then s.learnDrop 0x09
  else if !s.flag GG_EFLAGS GG_EFLAGS_LEARN_STALE && f * s.chem 34 < 10000 * ((c - f).natAbs : Int) then s.learnDrop 0x0B
  else
    let new := if s.flag GG_EFLAGS GG_EFLAGS_LEARN_STALE then c else f + roundDiv (c - f) 2
    let soh := satN 16 (min 10000 (s.quotAt 13 (10000 * new) s.designCap))
    let s := (s.put GG_FCC GG_FCC_FCC (satN 32 new)).put GG_HEALTH GG_HEALTH_SOH soh
    let s := (s.putB GG_EFLAGS GG_EFLAGS_LEARN_STALE false).putB GG_EFLAGS GG_EFLAGS_LEARNING false
    ((s.updEst (fun e => { e with learn := none })).estRecord 3).raise 0x5B 0x02

/-- The cycle starts at a rest reading (R227). -/
def State.learnStart (s : State) (soc : Int) : State :=
  let hi := decide (100 * s.chem 27 ≤ soc)
  if s.est.learn.isNone && (hi || decide (soc ≤ 100 * s.chem 28)) then
    let s := (s.putB GG_EFLAGS GG_EFLAGS_LEARNING true).updEst (fun e =>
      { e with learn := some ⟨s.ggQ, soc, s.balNow, s.opt.ms, hi, 0⟩, satSeen := false })
    s.raise 0x5B 0x01
  else s

/-- A rest reading (R221, R227). -/
def State.restReading (s : State) : State :=
  let m := s.ocvMap s.restVoltage
  let band := s.bandOcv m.2
  let s := s.updEst (fun e => { e with restRead := true })
  let s :=
    if band < s.bandNow || s.flag GG_EFLAGS GG_EFLAGS_SOC_STALE then
      let s := (s.correct m.1 band).putB GG_EFLAGS GG_EFLAGS_SOC_STALE false
      (s.raise 0x59 0 (min 255 (roundDiv band 1000).toNat)).estRecord 1
    else s
  if band ≤ 100 * s.chem 30 then
    let s := match s.est.learn with
      | some l => s.learnEnd l m.1
      | none => s
    s.learnStart m.1
  else s

/-! ### The gauge store read back (R230, R232) -/

/-- One record of the store. -/
structure StoreRec where
  slot : Nat
  seq  : Nat
  b    : List Byte
  deriving DecidableEq, Repr

/-- A little-endian field of a record. -/
def StoreRec.u (r : StoreRec) (off n : Nat) : Nat := ofBytesLE ((r.b.drop off).take n)

/-- The slots of the store whose valid mark stands. -/
def markedSlots (m : List Host.Cell) (base count : Nat) : List Nat :=
  (m.filter (fun c => c.2 == 0xA5 && decide (base ≤ c.1 ∧ c.1 < base + 64 * count) && decide ((c.1 - base) % 64 = 63))).map
    (fun c => (c.1 - base) / 64)

/-- The record of a slot; none where its CRC fails. -/
def storeRec (m : List Host.Cell) (slot : Nat) : Option StoreRec :=
  let b := memRead m (gaugeBase + 64 * slot) 64
  if crc16 (b.take 60) = ofBytesLE ((b.drop 60).take 2) then some ⟨slot, ofBytesLE ((b.drop 4).take 4), b⟩ else none

/-- The newest of some records. -/
def newestRec (l : List StoreRec) : Option StoreRec :=
  l.foldl (fun b r => match b with | none => some r | some x => if serialGt r.seq x.seq then some r else b) none

/-- The valid records of the store. -/
def State.storeRecs (s : State) : List StoreRec :=
  (markedSlots s.mram.cells gaugeBase 1024).filterMap (storeRec s.mram.cells)

/-- The newest record of an estimator's type: ESTIMATE or LEARN. -/
def State.newestEst (s : State) : Option StoreRec :=
  newestRec (s.storeRecs.filter (fun r => r.u 0 1 == 1 || r.u 0 1 == 3))

/-- The hardware finds the newest record at a cold start (R230). -/
def State.storeScan (s : State) : State :=
  match newestRec s.storeRecs with
  | some r => s.updGg (fun g => { g with slot := r.slot, seq := r.seq })
  | none => s

/-- COMMISSION applies (R233). -/
def State.commission (s : State) : Bool := s.flag GG_CTL GG_CTL_COMMISSION || s.newestEst.isNone

/-! ### Seeds (R233 to R235) -/

/-- The cell voltage a seed is taken from, µV: impedance-corrected where RIMP is known (R234). -/
def State.seedVoltage (s : State) : Int := if s.rimp != 0 then s.cellMean - s.cellDrop else s.cellMean

/-- The COMMISSION seed from a cell voltage (R234). -/
def State.seed (s : State) (v : Int) : State :=
  let known := s.rimp != 0
  let m := s.ocvMap v
  let b := s.bandOcv m.2
  let s := s.put GG_FCC GG_FCC_FCC (satN 32 s.designCap)
  let s := s.wr GG_HEALTH (setF 0 GG_HEALTH_SOH 10000)
  let s := s.correct m.1 (if known then b else max 50000 (2 * b))
  let s := s.putB GG_EFLAGS GG_EFLAGS_LEARN_STALE true
  (s.raise 0x5D 0x03).estRecord 1

/-- Both STALE flags are set (R233, R235). -/
def State.stale (s : State) (code : Nat) : State :=
  let s := (s.putB GG_EFLAGS GG_EFLAGS_SOC_STALE true).putB GG_EFLAGS GG_EFLAGS_LEARN_STALE true
  (s.raise 0x5D code).estRecord 1

/-- The estimator takes note of a completed PACK_QUAL, at whose end a cell stood at `v` µV (R233, R234). -/
def State.reinserted (s : State) (v : Int) : State :=
  let s := s.updEst (fun e => { e with reinsert := none })
  if s.commission then s.seed v
  else ((s.correct s.socNow 500000)).stale 0x01

/-- The first reading after a cold start is compared with the restored state of charge (R235). -/
def State.compareSwap (s : State) : State :=
  if s.rimp = 0 || !s.packPresent then s
  else
    let r := s.irReading
    let s := s.updEst (fun e => { e with compare := false })
    if s.bandNow + r.2 + 200000 < ((r.1 - s.socNow).natAbs : Int) then s.stale 0x02 else s

/-! ### Starting (R218, R232) -/

/-- ESN 0x5C code 0x01 for each torn record (R232). -/
def State.tornRecords (s : State) : List Nat → State
  | [] => s
  | k :: r => State.tornRecords (if (storeRec s.mram.cells k).isNone then s.raise 0x5C 0x01 else s) r

/-- Growth of the band while the part was unpowered (R222): from the newest record's calendar time to the cold start. -/
def State.unpoweredBand (s : State) (band : Int) (r : StoreRec) : Int :=
  match s.est.coldCal with
  | some c => min 500000 (band + ((c - r.u 0x30 6) * 1000 / 86400 : Nat))
  | none => 500000

/-- The LEARN record of a cycle that a start has found disqualified is written (R231). -/
def State.learnOwed (s : State) : State :=
  if s.est.learnLost then (s.updEst (fun e => { e with learnLost := false })).estRecord 3 else s

/-- The estimator starts at a cold start (R232): the charge counted since the record, and the time since the cold start,
are still to grow the band at the update (R222). -/
def State.coldEstimator (s : State) : State :=
  let s := s.tornRecords (markedSlots s.mram.cells gaugeBase 1024)
  let s := if s.storeRecs.isEmpty then s.raise 0x5C 0x02 else s
  match s.newestEst, newestRec s.storeRecs with
  | some r, some n =>
    let s := (s.put GG_FCC GG_FCC_FCC (r.u 0x20 4)).wr GG_HEALTH
      (setF (setF 0 GG_HEALTH_SOH (r.u 0x24 2)) GG_HEALTH_RIMP (r.u 0x26 2))
    let f := r.u 1 1
    let s := (s.put GG_EFLAGS GG_EFLAGS_SOC_STALE (f % 2)).put GG_EFLAGS GG_EFLAGS_LEARN_STALE (f / 2 % 2)
    let s := s.put GG_EFLAGS GG_EFLAGS_LAST_DISQ (r.u 0x2E 2)
    let s := if f / 4 % 2 = 1 then (s.put GG_EFLAGS GG_EFLAGS_LAST_DISQ 0x04).raise 0x5B 0x03 0x04 else s
    let dq := if (n.u 0 1 == 2 || n.u 0 1 == 4) && n.u 0x10 4 == r.u 0x10 4 then
        s.countCharge (toI 64 (n.u 0x14 8) - toI 64 (r.u 0x14 8)) else 0
    let s := s.updEst (fun e =>
      { e with running := true, soc0 := clampSoc (100 * (r.u 0x1C 2 : Int) + s.part 5 dq), q0 := 0,
               bal0 := [0, 0, 0, 0, 0, 0, 0, 0], band0 := s.unpoweredBand (100 * (r.u 0x1E 2 : Int)) n,
               counted := dq.natAbs, recMs := s.opt.ms, learnLost := f / 4 % 2 = 1 })
    let s := s.learnOwed
    if s.flag GG_CTL GG_CTL_COMMISSION then (if s.packPresent then s.seed s.seedVoltage else s)
    else s.updEst (fun e => { e with compare := true })
  | _, _ =>
    let s := s.updEst (fun e => { e with running := true, band0 := 500000, recMs := s.opt.ms })
    if s.packPresent then s.seed s.seedVoltage else s

/-- The estimator resumes after a D_PROC reset from what is published (R218); the charge and the time of its absence are
still to grow the band at the update (R222). A cycle that the reset disqualified has its LEARN record (R231). -/
def State.warmEstimator (s : State) : State :=
  (s.updEst (fun e =>
    { e with running := true, soc0 := 100 * (s.get GG_SOC GG_SOC_SOC : Int), q0 := s.countCharge s.gg.qref,
             bal0 := s.balNow, band0 := 100 * (s.get GG_SOC GG_SOC_BAND : Int), qPrev := s.countCharge s.gg.qref,
             recMs := s.opt.ms })).learnOwed

/-! ### Parts of an update (R222 to R226) -/

/-- The charge and the time since the last update are added to what the band grows by (R222). -/
def State.grow (s : State) : State :=
  let q := s.ggQ
  let dt := s.opt.ms - s.est.msPrev
  let dq := q - s.est.qPrev
  let noRest := s.path == pathOnBattery && decide (s.chem 26 < (s.get GG_REST_AGE GG_REST_AGE_AGE : Int))
  let s := s.updEst (fun e =>
    { e with counted := e.counted + dq.natAbs, bandMs := e.bandMs + dt,
             noRestMs := if noRest then e.noRestMs + dt else e.noRestMs, qPrev := q, msPrev := s.opt.ms })
  s.learnWrong dq

/-- The manufactured rest (R223): HOLD when the rest age calls for it, RELEASE once the rest has been read, or where the
present ZCH falls short. -/
def State.manufacture (s : State) : State :=
  let age := s.get GG_REST_AGE GG_REST_AGE_AGE
  let after := (s.chem 25).toNat
  if s.est.holding then
    if s.chgState == chgZch && s.flag CHG_STAT CHG_STAT_HOLD_REL then
      if s.est.restRead || s.chg.shortSaid then
        (s.updChg (fun c => { c with cmd := some 4, askAt := s.clk.frames })).updEst (fun e =>
          { e with holding := false, holdNext := if e.restRead then 0 else age + after })
      else s
    else if s.chg.cmd == some 3 then s
    else s.updEst (fun e => { e with holding := false, holdNext := age + after })
  else if s.path == pathOnFeed && (s.chgState == chgCC || s.chgState == chgCV) && decide (after < age ∧ s.est.holdNext ≤ age) then
    (s.updChg (fun c => { c with cmd := some 3, askAt := s.clk.frames })).updEst (fun e => { e with holding := true })
  else s

/-- The fallback on battery (R224): the reading replaces the state of charge alone. -/
def State.fallback (s : State) : State :=
  if s.flag GG_STAT GG_STAT_REST then s.putB GG_EFLAGS GG_EFLAGS_FALLBACK false
  else if s.path == pathOnBattery && decide (s.chem 26 < (s.get GG_REST_AGE GG_REST_AGE_AGE : Int)) then
    let s := (s.putB GG_EFLAGS GG_EFLAGS_FALLBACK true).learnDrop 0x06
    if s.rimp = 0 then s
    else
      let r := s.irReading
      if r.2 < s.bandNow then s.correct r.1 s.bandNow else s
  else s

/-- Insertion into an ascending list. -/
def insertAsc (x : Int) : List Int → List Int
  | [] => [x]
  | y :: r => if x ≤ y then x :: y :: r else y :: insertAsc x r

/-- The median of 16 values: half the sum of the two in the middle. -/
def median16 (l : List Int) : Int :=
  let a := l.foldl (fun t x => insertAsc x t) []
  roundDiv (a.getD 7 0 + a.getD 8 0) 2

/-- A brake or a hand-over acts now (R225). -/
def State.upset (s : State) : Bool :=
  s.path == pathHandover || (List.range 4).any (fun m => s.flag (LOOP_STAT m) LOOP_STAT_BRAKE)

/-- The impedance of a load step between two consecutive 100 ms (R225). -/
def State.impedance (s : State) : State :=
  let b := s.gg.blocks.headD (0, 1)
  let i := s.quotAt 14 (b.1 * 190735) (1000 * s.rsns * b.2 : Nat)
  let v := s.get GG_VPACK GG_VPACK_VPACK
  let path := s.path
  let blk := s.clk.frames / 5000
  let e := s.est
  let s := s.updEst (fun e => { e with lastI := some i, lastBlk := blk, lastV := v, lastPath := path, braked := s.upset })
  match e.lastI with
  | none => s
  | some i0 =>
    let di := i - i0
    if 2000 ≤ di.natAbs && e.lastPath == path && blk == e.lastBlk + 1 && !e.braked && !s.upset then
      let dv : Int := (v : Int) - e.lastV
      let num := if di < 0 then -(dv * 100000) else dv * 100000
      let r := s.quotAt 15 (num * 1280000) (di.natAbs * (1280000 + s.chem 23 * (s.packT - 3200)))
      let s := s.updEst (fun e => { e with steps := (r :: e.steps).take 16 })
      if s.est.steps.length < 16 then s
      else (s.put GG_HEALTH GG_HEALTH_RIMP (satN 16 (median16 s.est.steps))).raise 0x65 0
    else s

/-- Remaining times (R226), in minutes. -/
def State.times (s : State) : State :=
  let i := s.getI GG_I GG_I_I_1S
  let ri : Int := s.latchedF GG_REST GG_REST_REST_I
  let f : Int := (s.rd GG_FCC).toNat
  let minutes (soc : Int) : Nat := min 0xFFFE (satN 16 (roundDiv (soc * f * 60) (1000000 * i.natAbs)))
  let tte := if i < -ri then minutes (s.socNow - 100 * s.chem 24) else 0xFFFF
  let ttf := if ri < i then minutes (1000000 - s.socNow) else 0xFFFF
  s.wr GG_TIME (setF (setF 0 GG_TIME_TTE tte) GG_TIME_TTF ttf)

/-- The estimator starts, if it has not. -/
def State.estStart (s : State) : State :=
  if s.est.running then s else if s.est.cold then s.coldEstimator else s.warmEstimator

/-- The parts of an update that depend on what it finds: a reinsertion, the comparison after a cold start, a rest reading
(R221, R233 to R235). -/
def State.estReinsert (s : State) : State :=
  match s.est.reinsert with
  | some v => s.reinserted v
  | none => s
def State.estCompare (s : State) : State := if s.est.compare then s.compareSwap else s
def State.estRest (s : State) : State :=
  if s.flag GG_STAT GG_STAT_REST then (if s.est.restRead then s else s.restReading)
  else s.updEst (fun e => { e with restRead := false })

/-- What an update works out before it publishes. -/
def State.estWork (s : State) : State :=
  s.estStart.grow.estReinsert.estCompare.estRest.manufacture.fallback.impedance.times

/-- An update publishes, and writes an ESTIMATE record every 10 minutes (R218, R231). -/
def State.estPublish (s : State) : State :=
  if s.publish.est.recMs + 600000 ≤ s.publish.opt.ms then s.publish.estRecord 1 else s.publish

/-- The free values of a command have been used. -/
def State.freeUsed (s : State) (n : Nat) : State := { s with freeCtr := s.freeCtr + n }

/-- 100 ms (5,000 frames) have passed since the last update (R218). -/
def State.estDue (s : State) : Bool :=
  match s.est.updAt with
  | some a => decide (a + 5000 ≤ s.clk.frames)
  | none => true

/-- ESTIMATOR_UPDATE (R218 to R235): every 100 ms while Burin firmware runs. -/
def execEstimatorUpdate (s : State) : Host.Outcome State Fault Refusal :=
  done <| s.when (s.engines && s.proc.mode == .firmware && s.flag BOOT_STAT BOOT_STAT_READY && s.estDue) fun s =>
    (s.estWork.estPublish.updEst (fun e => { e with updAt := some s.clk.frames })).freeUsed 16

/-- The ESTIMATE record before STANDBY is requested: the estimator brings itself up to date first (R218, R231). -/
def State.estStandby (s : State) : State := (s.estStart.grow.estRecord 1).freeUsed 16

/-- The estimator ends with Burin (R218, R228): it resumes from what is published, and an open cycle is disqualified. -/
def State.estReset (s : State) : State :=
  let open_ := s.est.learn.isSome || s.est.learnLost
  let s := s.learnFail 0x04
  s.updEst (fun e =>
    { chem := e.chem, cold := e.cold && !e.running, coldCal := e.coldCal, reinsert := e.reinsert, msPrev := e.msPrev,
      learnLost := open_ })

end Sys2Proof.Machine
end

