-- ==== Sys2Proof/Machine/Charger.lean ====
section
/-! DEFINITION. The charger: states, commands, timers, stop causes and the pack's removal (spec 08 R185 to R197). -/
namespace Sys2Proof.Machine
open Sys2Proof

/-! ### States (R188, R189) -/

/-- The charger is charging: TRICKLE to CV. -/
def charging (st : Nat) : Bool := chgTrickle ≤ st && st ≤ chgCV

/-- The charger moves to a state; each change raises ESN 0x4E with the new and the previous state (R188). Leaving ZCH
clears HOLD_REL, and each entry to ZCH may raise ESN 0x54 once (R192). -/
def State.chgTo (s : State) (st : Nat) : State :=
  let old := s.chgState
  if st == old then s
  else
    let s := s.wr CHG_STAT (setF (setF (s.rd CHG_STAT) CHG_STAT_STATE st) CHG_STAT_HOLD_REL 0)
    let s := s.updChg (fun c => { c with exitRun := 0, shortRun := 0, shortSaid := false, zeroHold := false })
    let s := if st == chgZch then s else s.putB CHG_STAT CHG_STAT_ZCH_OK false
    let s := if st == chgIdle then s.put CHG_STAT CHG_STAT_LOOP 3 else s
    s.raise 0x4E (st + 16 * old)

/-! ### Limits (R182, R185, R186, R196) -/

/-- The throttle level applies to the charger's targets and cycles in this state (R196). -/
def chgThrottled (st : Nat) : Bool := charging st || st == chgSafeHold

/-- Percent of the battery-current target at the throttle level in force (R196). -/
def State.chgScale (s : State) : Nat :=
  match s.get TH_STAT TH_STAT_THR_LVL with
  | 0 => 100
  | 1 => min 100 (s.latchedF CHG_THR CHG_THR_CUR1)
  | 2 => min 100 (s.latchedF CHG_THR CHG_THR_CUR2)
  | _ => min 100 (s.latchedF CHG_THR CHG_THR_CUR3)

/-- The charger skips one switching cycle in so many at the throttle level in force; 0: none (R161, R196). -/
def State.chgSkip (s : State) : Nat :=
  let k := match s.get TH_STAT TH_STAT_THR_LVL with
    | 0 => 0
    | 1 => s.latchedF CHG_THR CHG_THR_SKIP1
    | 2 => s.latchedF CHG_THR CHG_THR_SKIP2
    | _ => s.latchedF CHG_THR CHG_THR_SKIP3
  if !chgThrottled s.chgState || k = 0 then 0 else 16 / 2 ^ k

/-- The battery-current target of the state in 0.1 mA, scaled by the throttle level (R186, R190, R196). -/
def State.chgTarget (s : State) : Nat :=
  let st := s.chgState
  let pre := 2 * s.latchedF CHG_I CHG_I_I_PRE
  if st == chgTrickle then s.latchedF CHG_I CHG_I_I_TRK * s.chgScale
  else if st == chgPre then pre * s.chgScale
  else if st == chgCC || st == chgCV then 10 * s.latchedF CHG_I CHG_I_I_CC * s.chgScale
  else if st == chgNoPack then pre * 100
  else if st == chgSafeHold && !s.chg.zeroHold then pre * s.chgScale
  else 0

/-- The VSYS limit of the state in mV; none in IDLE (R186). -/
def State.chgVsysLimit (s : State) : Option Nat :=
  let st := s.chgState
  if st == chgIdle then none
  else if st == chgNoPack then some (s.latchedF CHG_NOPACK CHG_NOPACK_VSYS_NOPACK)
  else if st == chgSafeHold then some (s.latchedF CHG_VCV CHG_VCV_V_SAFE * s.cells)
  else some (s.latchedF CHG_VCV CHG_VCV_V_CV * s.cells)

/-- The input-current limit in mA (R186). -/
def State.chgInLimit (s : State) : Nat := 100 * s.latchedF CHG_LIM CHG_LIM_IIN_LIM

/-- The limit of the resumption ramp on the output current in mA: 0 A at its start, 1 A/ms from there (R182). -/
def State.rampLimit (s : State) : Option Nat := s.chg.ramp.map (fun f => 20 * (s.clk.frames - f))

/-- How the charger switches (R185). -/
inductive ChgMode
  | buck | boost | fourSwitch
  deriving DecidableEq, Repr

/-- The operation of a cycle from FEEDBUS and VSYS in mV (R185). -/
def chgMode (feedbus vsys : Nat) : ChgMode :=
  if 11 * vsys < 10 * feedbus then .buck else if 10 * feedbus < 9 * vsys then .boost else .fourSwitch

/-- The switching frequency in kHz (R185). -/
def State.chgFreq (s : State) : Nat := 10 * s.latchedF CHG_CFG CHG_CFG_FSW

/-! ### Cells -/

/-- The lowest cell against a threshold in mV per cell. -/
def State.lowBelow (s : State) (mv : Nat) : Bool := decide (s.lowestCell < 10 * mv)

/-- The phase evaluation (R189). -/
def State.chgEval (s : State) : Nat :=
  if s.lowBelow (s.latchedF CHG_VTH CHG_VTH_V_TRK) then chgTrickle
  else if s.lowBelow (s.latchedF CHG_VTH CHG_VTH_V_PRE) then chgPre else chgCC

/-- The cell ceiling in mV (R187). -/
def State.cellCeiling (s : State) : Nat := if s.get CHG_CFG CHG_CFG_CHEM = 1 then 4250 else 3750

/-- A cell stands above the ceiling; 0xFFFF beside an open tap does (R190, R211). -/
def State.cellHigh (s : State) (k : Nat) : Bool := k < s.cells && decide (10 * s.cellCeiling < s.cellV k)

/-- The first cell above the ceiling among those below `n`. -/
def State.firstHigh (s : State) (n : Nat) : Option Nat := (List.range n).find? s.cellHigh

/-- The cell cause of R190 stands: a cell above its ceiling at 5 consecutive ticks. -/
def State.cellCause (s : State) : Bool := (allFin 8).any (fun k => decide (5 ≤ s.chg.ovRun[k]))

/-- Monitor event `n` reads standing in MEV_STAT. -/
def State.mevStands (s : State) (n : Nat) : Bool := n < 96 && s.flag (MEV_STAT (n / 32)) (bitF (n % 32))

/-- Monitor event `n` is named and enabled in CHG_STOPEV (R190). -/
def State.stopNamed (s : State) (n : Nat) : Bool :=
  (s.flag CHG_STOPEV CHG_STOPEV_EN0 && s.get CHG_STOPEV CHG_STOPEV_MEV0 == n) ||
  (s.flag CHG_STOPEV CHG_STOPEV_EN1 && s.get CHG_STOPEV CHG_STOPEV_MEV1 == n)

/-- The monitor-event cause of R190 stands. -/
def State.mevCause (s : State) : Bool := (List.range 96).any (fun n => s.mevStands n && s.stopNamed n)

/-- What a stop cause does at a tick at which it stands (R190). -/
def State.chgStopped (s : State) : State :=
  let st := s.chgState
  if charging st then s.chgTo chgZch
  else if st == chgZch then s.putB CHG_STAT CHG_STAT_HOLD_REL false
  else if st == chgSafeHold then s.updChg (fun c => { c with zeroHold := true })
  else s

/-- The flags of the stop causes that stand (R190). -/
def State.stopFlags (s : State) : State :=
  let s := if s.cellCause then s.putB CHG_STAT CHG_STAT_CELL_OV true else s
  if s.mevCause then s.putB CHG_STAT CHG_STAT_STOPEV true else s

/-! ### Commands (R188, R197) -/

/-- The command is the one to take effect: it awaits the tick, or none does and Burin, which alone issues charge commands
(R23), runs to have issued it. -/
def State.chgDue (s : State) (c : Nat) : Bool :=
  s.engines && ((s.chg.cmd == none && s.burinReaches) || (s.chg.cmd == some c && decide (s.chg.askAt < s.clk.frames)))

/-- A command that the state does not accept is ignored (R188). -/
def State.chgIgnored (s : State) : State := (s.updChg (fun c => { c with ignored := true })).raise 0x56 0

/-- The command has been taken. -/
def State.chgTaken (s : State) : State := s.updChg (fun c => { c with cmd := none, ignored := false })

/-- The charger waits while the path is not ON_FEED (R188). -/
def State.chgWaits (s : State) : State :=
  if s.path == pathOnFeed then s else s.putB CHG_STAT CHG_STAT_SUSP true

/-- Both timers are reset and started. -/
def State.timersStart (s : State) : State :=
  (s.updChg (fun c => { c with safeOn := true, preOn := true, safeMs := 0, preMs := 0 })).wr CHG_TIME 0

/-- The safety timer has reached its limit (R191). -/
def State.safeDone (s : State) : Bool :=
  s.chg.safeOn && decide (300000 * max 1 (s.latchedF CHG_TIMER CHG_TIMER_SAFETY) ≤ s.chg.safeMs)

/-- The pre-charge timer has reached its limit. -/
def State.preDone (s : State) : Bool :=
  s.chg.preOn && decide (60000 * max 1 (s.latchedF CHG_TIMER CHG_TIMER_PRE_TMAX) ≤ s.chg.preMs)

/-- The safety timer expires (R191). -/
def State.safeExpire (s : State) : State :=
  (((s.putB CHG_STAT CHG_STAT_TMR_EXP true).updChg (fun c => { c with safeOn := false })).raise 0x4F 0x01)

/-- CHG_START (R188, R190, R197): both timers start and the phase evaluation chooses the state, or ZCH while a stop cause
stands. -/
def execChgStart (s : State) : Host.Outcome State Fault Refusal :=
  done <| s.atTick (s.chgDue 1) fun s =>
    let s := s.chgTaken
    let st := s.chgState
    if (st == chgIdle || st == chgZch || st == chgSafeHold) && s.chg.packId then
      let s := s.timersStart
      let s := if s.cellCause || s.mevCause then (s.stopFlags.chgTo chgZch).putB CHG_STAT CHG_STAT_HOLD_REL false
        else s.chgTo s.chgEval
      s.chgWaits
    else s.chgIgnored

/-- CHG_TERMINATE (R188, R197): the safety timer stops and the charger holds zero current; a timer that expires at the
same tick sets TMR_EXP as well. -/
def execChgTerminate (s : State) : Host.Outcome State Fault Refusal :=
  done <| s.atTick (s.chgDue 2) fun s =>
    let s := s.chgTaken
    if charging s.chgState then
      let s := if s.safeDone then s.safeExpire else s
      (s.updChg (fun c => { c with safeOn := false })).chgTo chgZch
    else s.chgIgnored

/-- CHG_HOLD (R188): the timers pause, since neither counts in ZCH, and HOLD_REL is set. -/
def execChgHold (s : State) : Host.Outcome State Fault Refusal :=
  done <| s.atTick (s.chgDue 3) fun s =>
    let s := s.chgTaken
    if charging s.chgState then (s.chgTo chgZch).putB CHG_STAT CHG_STAT_HOLD_REL true else s.chgIgnored

/-- CHG_RELEASE (R188): ZCH entered by HOLD is left by phase evaluation, the timers continuing. -/
def execChgRelease (s : State) : Host.Outcome State Fault Refusal :=
  done <| s.atTick (s.chgDue 4) fun s =>
    let s := s.chgTaken
    if s.chgState == chgZch && s.flag CHG_STAT CHG_STAT_HOLD_REL then s.chgTo s.chgEval else s.chgIgnored

/-- CHG_STOP (R188, R197): gates off, timers stopped, IDLE. -/
def execChgStop (s : State) : Host.Outcome State Fault Refusal :=
  done <| s.atTick (s.chgDue 5) fun s =>
    let s := s.chgTaken
    if s.chgState == chgNoPack || s.chgState == chgPackQual then s.chgIgnored
    else (s.updChg (fun c => { c with safeOn := false, preOn := false, ramp := none })).chgTo chgIdle

/-! ### Phase exits and timers (R188, R191) -/

/-- TRICKLE_EXIT (R188). -/
def execTrickleExit (s : State) : Host.Outcome State Fault Refusal :=
  done <| s.atTick (s.engines && s.chgState == chgTrickle && decide (50 ≤ s.chg.exitRun)) fun s => s.chgTo chgPre

/-- PRE_EXIT (R188). -/
def execPreExit (s : State) : Host.Outcome State Fault Refusal :=
  done <| s.atTick (s.engines && s.chgState == chgPre && decide (50 ≤ s.chg.exitRun)) fun s => s.chgTo chgCC

/-- CC_TO_CV (R188). -/
def execCcToCv (s : State) : Host.Outcome State Fault Refusal :=
  done <| s.atTick (s.engines && s.chgState == chgCC && decide (50 ≤ s.chg.exitRun)) fun s => s.chgTo chgCV

/-- SAFETY_TIMER_EXPIRY (R188, R190, R191). -/
def execSafetyTimerExpiry (s : State) : Host.Outcome State Fault Refusal :=
  done <| s.atTick (s.engines && s.safeDone && (charging s.chgState || s.chgState == chgSafeHold)) fun s =>
    let s := s.safeExpire
    if s.chgState == chgSafeHold then s.updChg (fun c => { c with zeroHold := true }) else s.chgTo chgZch

/-- PRECHARGE_TIMER_EXPIRY (R188, R191). -/
def execPrechargeTimerExpiry (s : State) : Host.Outcome State Fault Refusal :=
  done <| s.atTick (s.engines && s.preDone && (s.chgState == chgTrickle || s.chgState == chgPre)) fun s =>
    (((s.putB CHG_STAT CHG_STAT_PRE_EXP true).updChg (fun c => { c with preOn := false })).raise 0x4F 0x02).chgTo chgZch

/-! ### Stop causes (R190) -/

/-- STOP_CAUSE (R188, R190): a cell or a named monitor event. The flag is set at every tick at which the cause stands,
the ESN at its onset only. -/
def execStopCause (cause : StopCause) (s : State) : Host.Outcome State Fault Refusal :=
  done <| match cause with
    | .cell k => s.atTick (s.engines && decide (5 ≤ s.chg.ovRun[k])) fun s =>
      let s := s.putB CHG_STAT CHG_STAT_CELL_OV true
      let s := if s.chg.ovSaid then s else (s.updChg (fun c => { c with ovSaid := true })).raise 0x52 0 (k + 1)
      s.chgStopped
    | .mev n => s.atTick (s.engines && s.mevStands n && s.stopNamed n) fun s =>
      let s := s.putB CHG_STAT CHG_STAT_STOPEV true
      let s := if s.chg.mevSaid.contains n.val then s
        else (s.updChg (fun c => { c with mevSaid := c.mevSaid ++ [n.val] })).raise 0x53 0 n
      s.chgStopped

/-! ### The pack (R193 to R195, R233, R234) -/

/-- A removal is found in a state (R193): by PACK_ID in every state but NO_PACK; in TRICKLE, PRE and CC by a battery current
below 10 % of its target while VSYS rises by 25 mV or more. -/
def State.removalFound (s : State) : Removal → Bool
  | .byId => s.chgState != chgNoPack
  | .byRise i rise =>
    (s.chgState == chgTrickle || s.chgState == chgPre || s.chgState == chgCC) &&
    decide (100 * i.toInt < (s.chgTarget : Int) ∧ 25 ≤ rise.toNat)

/-- PACK_REMOVED (R188, R193): by PACK_ID, or by a rise of VSYS. The charge phase is abandoned, the gauge disqualifies a
learning cycle, with its LEARN record, and the REMOVAL record is written at entry to NO_PACK (R228, R231). -/
def execPackRemoved (how : Removal) (s : State) : Host.Outcome State Fault Refusal :=
  let st := s.chgState
  let byId := how == .byId
  done <| s.when (s.engines && s.removalFound how) fun s =>
    let s := if byId then s.updChg (fun c => { c with packId := false }) else s
    let s := (s.putB CHG_STAT CHG_STAT_NOPACK true).raise 0x50 (if byId then 1 else 2)
    let s := s.learnDrop 0x05
    if st == chgPackQual || ((st == chgIdle || charging st || st == chgZch) && s.path == pathOnFeed) then
      let s := s.updChg (fun c => { c with safeOn := false, preOn := false, ramp := none })
      (s.chgTo chgNoPack).gaugeWrite 4
    else s

/-- PACK_ID_CLOSED (R188, R195): qualification of the pack begins at 0 A. -/
def execPackIdClosed (s : State) : Host.Outcome State Fault Refusal :=
  done <| s.when (s.engines && s.chgState == chgNoPack) fun s =>
    (s.updChg (fun c =>
      { c with packId := true, qualEnd := s.clk.frames + 500 * max 1 (s.latchedF CHG_NOPACK CHG_NOPACK_PACK_QUAL) })).chgTo
      chgPackQual

/-- PACK_QUAL_ELAPSED (R188, R195): charging restarts, or a high cell leads to ZCH. The estimator takes note of the
reinsertion, at its next update where Burin is absent (R233, R234). -/
def execPackQualElapsed (s : State) : Host.Outcome State Fault Refusal :=
  done <| s.atTick (s.engines && s.chgState == chgPackQual && decide (s.chg.qualEnd ≤ s.clk.frames)) fun s =>
    match s.firstHigh 8 with
    | some k => ((s.putB CHG_STAT CHG_STAT_CELL_OV true).raise 0x52 0 (k + 1)).chgTo chgZch
    | none =>
      let s := (s.timersStart.raise 0x51 0).chgTo
        (if s.lowBelow (s.latchedF CHG_VTH CHG_VTH_V_TRK) then chgTrickle else chgPre)
      if s.est.running && s.proc.mode == .firmware then (s.reinserted s.seedVoltage).freeUsed 16
      else s.updEst (fun e => { e with reinsert := some s.seedVoltage })

/-- ZCH_SHORT (R192). -/
def execZchShort (s : State) : Host.Outcome State Fault Refusal :=
  done <| s.atTick (s.engines && s.chgState == chgZch && decide (50 ≤ s.chg.shortRun) && !s.chg.shortSaid) fun s =>
    ((s.updChg (fun c => { c with shortSaid := true })).putB CHG_STAT CHG_STAT_ZCH_SHORT true).raise 0x54 0

/-! ### D_PROC reset and resumption (R23, R182, R188) -/

/-- Safe hold at a D_PROC reset (R23): the safety timer counts from its held value; the pre-charge timer holds. -/
def State.safeHold (s : State) : State :=
  if s.chgState == chgNoPack || s.chgState == chgPackQual then s
  else (s.updChg (fun c => { c with safeOn := true, cmd := none })).chgTo chgSafeHold

/-- The charger resumes when the path becomes ON_FEED (R182). -/
def State.chgResume (s : State) : State :=
  let st := s.chgState
  let s := s.putB CHG_STAT CHG_STAT_SUSP false
  if charging st then (s.updChg (fun c => { c with ramp := some s.clk.frames })).chgTo s.chgEval
  else if st == chgSafeHold then s.updChg (fun c => { c with ramp := some s.clk.frames })
  else s

/-! ### The tick (R188 to R192, R196) -/

/-- Runs of cells above their ceiling; a cause that does not stand at a tick has ceased (R190). -/
def State.ovRuns (s : State) : State :=
  let s := s.updChg (fun c => { c with ovRun := Vector.ofFn (fun k : Fin 8 => if s.cellHigh k then c.ovRun[k] + 1 else 0) })
  s.updChg (fun c =>
    { c with ovSaid := c.ovSaid && s.cellCause, mevSaid := c.mevSaid.filter (fun n => s.mevStands n && s.stopNamed n) })

/-- The charger switches (R185). -/
def State.chgSwitching (s : State) : Bool :=
  s.path == pathOnFeed && s.chgState != chgIdle && !s.flag CHG_STAT CHG_STAT_SUSP

/-- The tick's count towards an exit (R188): the lowest cell at its threshold, or the VSYS limit governing. -/
def State.exitHolds (s : State) (gov : Fin 4) : Bool :=
  let st := s.chgState
  if st == chgTrickle then !s.lowBelow (s.get CHG_VTH CHG_VTH_V_TRK)
  else if st == chgPre then !s.lowBelow (s.get CHG_VTH CHG_VTH_V_PRE)
  else if st == chgCC then s.chgSwitching && gov == 1
  else false

/-- The limit that governs, among those in force: the resumption ramp only while it runs (R182, R186). Which of the limits
the regulation meets is measured (log 39). -/
def State.chgGoverned (s : State) (gov : Fin 4) : Fin 4 := if gov == 3 && s.chg.ramp.isNone then 2 else gov

/-- What the charger does at a tick: runs, timers by the operating time gone by, and what its limits show. -/
def State.chargerTick (s : State) (x : FrameIn) (dms : Nat) : State :=
  let s := s.ovRuns
  let st := s.chgState
  let i := s.getI GG_I GG_I_I
  let gov := s.chgGoverned x.chgGov
  let holds := s.exitHolds gov
  let susp := s.flag CHG_STAT CHG_STAT_SUSP
  let sw := s.chgSwitching
  let s := s.updChg (fun c =>
    { c with exitRun := if holds then c.exitRun + 1 else 0,
             shortRun := if st == chgZch && decide (i < -500) then c.shortRun + 1 else 0,
             safeMs := if c.safeOn && !susp && (charging st || st == chgSafeHold) then c.safeMs + dms else c.safeMs,
             preMs := if c.preOn && !susp && (st == chgTrickle || st == chgPre) then c.preMs + dms else c.preMs,
             ramp := if sw && gov != 3 then none else c.ramp })
  let s := s.wr CHG_TIME (setF (setF 0 CHG_TIME_SAFE_S (min 65535 (s.chg.safeMs / 1000))) CHG_TIME_PRE_S
    (min 65535 (s.chg.preMs / 1000)))
  let s := s.put CHG_STAT CHG_STAT_LOOP
    (if !sw then 3 else match gov with | 0 => 0 | 1 => 1 | _ => 2)
  let s := s.putB CHG_STAT CHG_STAT_ZCH_OK (st == chgZch && decide (i.natAbs ≤ 50))
  (s.put CHG_IIN CHG_IIN_IIN x.chgIin.toNat).put CHG_LOSS CHG_LOSS_P x.chgLoss.toNat

/-! ### Writes of the charger's registers (R187, R200) -/

/-- A field that exceeds a ceiling is stored as the ceiling; whether any was. -/
def clampField (w : Word × Bool) (f : Fld) (hi : Nat) : Word × Bool :=
  if hi < getF w.1 f then (setF w.1 f hi, true) else w

/-- The ceiling of V_PRE and of V_CV, mV per cell (R187). -/
def State.vPreTop (s : State) : Nat := if s.get CHG_CFG CHG_CFG_CHEM = 1 then 3400 else 3000
def State.vCvTop (s : State) : Nat := if s.get CHG_CFG CHG_CFG_CHEM = 1 then 4200 else 3650

/-- The charge currents held in order (R187): I_CC to 15 A, then I_PRE to I_CC, then I_TRK to I_PRE, in their LSBs of
100, 20 and 10 mA. -/
def clampCurrents (w : Word) : Word × Bool :=
  let r := clampField (w, false) CHG_I_I_CC 150
  let r := clampField r CHG_I_I_PRE (5 * getF r.1 CHG_I_I_CC)
  clampField r CHG_I_I_TRK (2 * getF r.1 CHG_I_I_PRE)

/-- A charger register's word as it is stored, and whether a field was clamped (R187). -/
def State.chgClamp (s : State) (a : Nat) (w : Word) : Word × Bool :=
  if a = CHG_I then clampCurrents w
  else if a = CHG_VTH then
    let r := clampField (w, false) CHG_VTH_V_PRE s.vPreTop
    clampField r CHG_VTH_V_TRK (getF r.1 CHG_VTH_V_PRE)
  else if a = CHG_VCV then
    let r := clampField (w, false) CHG_VCV_V_CV s.vCvTop
    clampField r CHG_VCV_V_SAFE (getF r.1 CHG_VCV_V_CV)
  else if a = CHG_LIM then clampField (w, false) CHG_LIM_IIN_LIM 200
  else if a = CHG_TIMER then clampField (w, false) CHG_TIMER_SAFETY 144
  else if a = CHG_NOPACK then
    let r := clampField (w, false) CHG_NOPACK_VSYS_NOPACK (s.get CHG_VCV CHG_VCV_V_CV * s.cells)
    if getF r.1 CHG_NOPACK_VSYS_NOPACK < 16000 then (setF r.1 CHG_NOPACK_VSYS_NOPACK 16000, true) else r
  else (w, false)

/-- A write of a charger register is ignored (R200). -/
def State.chgWriteBad (s : State) (a : Nat) (w : Word) : Bool :=
  if a = CHG_CFG then
    let c := getF w CHG_CFG_CHEM
    let n := getF w CHG_CFG_CELLS
    s.chgState != chgIdle || 2 ≤ c || (c == 0 && !(n == 7 || n == 8)) || (c == 1 && !(n == 6 || n == 7)) ||
    getF w CHG_CFG_FSW < 20 || 60 < getF w CHG_CFG_FSW
  else if a = CHG_SENSE then getF w CHG_SENSE_RSNS_BAT == 0 || getF w CHG_SENSE_RSNS_IN == 0
  else false

/-- A charger register takes a word: clamped where it must be (R187), ignored with ESN 0x56 where it must not be written
(R200). -/
def State.chgWrite (s : State) (a : Nat) (w : Word) : State :=
  if s.chgWriteBad a w then s.raise 0x56 0
  else
    let r := s.chgClamp a w
    let s := s.wr a r.1
    if r.2 then (s.putB CHG_STAT CHG_STAT_CLAMP true).raise 0x55 0 else s

end Sys2Proof.Machine
end

