-- ==== Sys2Proof/Machine/Mailbox.lean ====
section
/-! DEFINITION. The mailboxes of Ports A, B, C and E: outbound items and notices, tags, the answers the port hardware
gives, and what the host reads (spec 16 R382 to R396). -/
namespace Sys2Proof.Machine
open Sys2Proof

/-! ### Ports -/

def allPorts : List Port := [.a, .b, .c, .e]

def State.port (s : State) (p : Port) : PortSt := s.ports[p.idx]

/-- The word of an empty FIFO (R382). -/
def idleItem : Word := 0xFFFFFFFF

/-- Words of the inbound FIFO in use (R382). -/
def PortSt.inUsed (x : PortSt) : Nat := x.collect.length + x.rx.length + (x.inq.map List.length).sum

/-- Words of the outbound items; those beyond the FIFO's 64 wait for space (R382, R387). -/
def PortSt.outUsed (x : PortSt) : Nat := min 64 (x.out.map (fun i => i.words.length)).sum

/-- A change of a port's state, with the levels that PORT_STAT and NOTE_STAT show. -/
def State.updPort (s : State) (p : Port) (f : PortSt → PortSt) : State :=
  let x := f (s.port p)
  (({ s with ports := s.ports.set p.idx x }.put (PORT_STAT p) PORT_STAT_IN_FREE (64 - x.inUsed)).put (PORT_STAT p)
    PORT_STAT_OUT_WORDS x.outUsed).put (NOTE_STAT p) NOTE_STAT_QUEUED (min 64 x.notes.length)

/-- The ESN of a port (R323). -/
def portEsn (p : Port) : Nat := 0x80 + p.slot

/-- Packets of the port carry a CRC word (R384). -/
def State.crcPort (s : State) (p : Port) : Bool :=
  match p with
  | .a => !s.flag (PORT_CFG .a) PORT_CFG_PEC
  | .b => !s.flag (PORT_CFG .b) PORT_CFG_PEC
  | .c => true
  | .e => false

/-- The CRC word of the words of a packet (R384). -/
def crcWord (ws : List Word) : Word := BitVec.ofNat 32 (crc16 (ws.flatMap (fun w => bytesLE 4 w.toNat)))

/-! ### Items and notices (R383, R385, R395) -/

/-- The fields of a header word (R383). -/
def headCode (w : Word) : Nat := (w >>> 24).toNat
def headTag (w : Word) : Nat := (w >>> 16).toNat % 256
def headClass (w : Word) : Nat := (w >>> 12).toNat % 16
def headLen (w : Word) : Nat := w.toNat % 4096

/-- A header word (R383). -/
def header (status tag cls len : Nat) : Word :=
  BitVec.ofNat 32 (status % 256 * 2 ^ 24 + tag % 256 * 2 ^ 16 + cls % 16 * 2 ^ 12 + len % 4096)

/-- The words of a notice (R383). -/
def Notice.words (n : Notice) : List Word :=
  [0x00FE0001, BitVec.ofNat 32 (n.esn % 256 * 2 ^ 24 + n.code % 256 * 2 ^ 16 + min n.count 65535)]

/-- An outbound item with its CRC word where the port has one (R384). -/
def State.item (s : State) (p : Port) (ws : List Word) (tag : Option Nat) (notice : Bool) : Item :=
  ⟨if s.crcPort p then ws ++ [crcWord ws] else ws, tag, notice, false⟩

/-- The host is between items and no notice stands at the head. -/
def PortSt.boundary (x : PortSt) : Bool :=
  match x.out with
  | [] => true
  | i :: _ => !i.begun && !i.notice

/-- A waiting notice enters the outbound FIFO where no response is ready, or when it has waited behind 4 (R395). -/
def State.pump (s : State) (p : Port) : State :=
  match (s.port p).notes with
  | [] => s
  | n :: r =>
    if (s.port p).out.isEmpty || ((s.port p).boundary && decide (4 ≤ n.waited)) then
      s.updPort p (fun x => { x with notes := r, out := s.item p n.words none true :: x.out })
    else s

/-- A response joins the outbound FIFO. -/
def State.place (s : State) (p : Port) (ws : List Word) (tag : Option Nat) : State :=
  (s.updPort p (fun x => { x with out := x.out ++ [s.item p ws tag false] })).pump p

/-- A notice for a host (R315, R395): dropped while the command layers are in reset (R319); a full queue collapses. -/
def State.notify (s : State) (p : Port) (esn code count : Nat) : State :=
  if !s.layers then s
  else if 64 ≤ (s.port p).notes.length then
    let gone := 1 + ((s.port p).notes.filter (fun n => !n.ovf)).length
    let before := (((s.port p).notes.filter (fun n => n.ovf)).map Notice.count).sum
    let s := s.updPort p (fun x => { x with notes := [⟨portEsn p, 4, gone + before, true, 0⟩] })
    let s := s.putB (PORT_STAT p) PORT_STAT_NOTE_OVF true
    let s := s.put (NOTE_STAT p) NOTE_STAT_LOST (min 65535 (s.get (NOTE_STAT p) NOTE_STAT_LOST + gone))
    (s.raise (portEsn p) 4).pump p
  else (s.updPort p (fun x => { x with notes := x.notes ++ [⟨esn, code, count, false, 0⟩] })).pump p

/-! ### Tags (R388 to R393) -/

def State.setTag (s : State) (t : Fin 96) (x : TagSt) : State :=
  { s with tags := s.tags.set t x }.putB (TAG_BUSY (t / 32)) (bitF (t.val % 32)) (x.st != TagState.free)

def State.tagState (s : State) (t : Fin 96) (v : TagState) : State := s.setTag t { s.tags[t] with st := v }

/-- A port owns a tag: it lies from TAG_BASE to TAG_BASE + TAG_CNT - 1 (R388). -/
def State.owns (s : State) (p : Port) (t : Nat) : Bool :=
  decide (s.get (PORT_CFG p) PORT_CFG_TAG_BASE ≤ t) &&
    decide (t < s.get (PORT_CFG p) PORT_CFG_TAG_BASE + s.get (PORT_CFG p) PORT_CFG_TAG_CNT)

/-- The tag a number names. -/
def tagOf (n : Nat) : Option (Fin 96) := if h : n < 96 then some ⟨n, h⟩ else none

/-- The tag that a response frees becomes FREE (R391). -/
def State.freeTag (s : State) (o : Option Nat) : State :=
  match o.bind tagOf with
  | some t => s.tagState t TagState.free
  | none => s

/-- The answer of an admitted or owed command: its response is placed and its tag is ANSWERED (R391). -/
def State.answer (s : State) (t : Fin 96) (status : Nat) (pay : List Word) : State :=
  let x := s.tags[t]
  (s.tagState t .answered).place x.port (header status t x.cls pay.length :: pay) (some t)

/-- TIMEOUT_INTERNAL for a tag (R392, R393). -/
def State.timeout (s : State) (t : Fin 96) : State :=
  (s.answer t 0xE2 []).raise (portEsn s.tags[t].port) 1 t

/-- OWED tags of a port are answered in ascending order (R393, R394). -/
def State.placeOwed (s : State) : State :=
  (allFin 96).foldl (fun s t => if s.tags[t].st == .owed then s.timeout t else s) s

/-- Tags that are not FREE become OWED (R393, R394). -/
def State.oweTags (s : State) : State :=
  (allFin 96).foldl (fun s t => if s.tags[t].st == TagState.free then s else s.tagState t .owed) s

/-- A tag still QUEUED at the tick its deadline passes is answered TIMEOUT_INTERNAL (R392). -/
def execDeadlineExpiry (t : Fin 96) (s : State) : Host.Outcome State Fault Refusal :=
  done <| s.when (s.inRun && s.layers && s.tags[t].st == .queued && decide (s.tags[t].due ≤ s.clk.frames)) fun s => s.timeout t

/-! ### What the host reads (R385, R386, R391, R397) -/

/-- The item at the head leaves the FIFO, read or dropped: its tag is FREE, and notices have waited behind a response. -/
def State.itemGone (s : State) (p : Port) : State :=
  match (s.port p).out with
  | [] => s
  | i :: r =>
    let s := s.updPort p (fun x =>
      { x with out := r, notes := if i.notice then x.notes else x.notes.map (fun n => { n with waited := n.waited + 1 }) })
    (s.freeTag i.tag).pump p

/-- One word leaves the outbound FIFO; an empty one gives the idle item (R382). -/
def State.outWord (s : State) (p : Port) : Word × State :=
  match (s.port p).out with
  | [] => (idleItem, s)
  | i :: r =>
    match i.words with
    | [] => (idleItem, s.itemGone p)
    | [w] => (w, s.itemGone p)
    | w :: ws => (w, s.updPort p (fun x => { x with out := { i with words := ws, begun := true } :: r }))

/-- `n` words of the outbound FIFO. -/
def State.outWords (s : State) (p : Port) : Nat → List Word × State
  | 0 => ([], s)
  | n + 1 =>
    let a := s.outWord p
    let b := State.outWords a.2 p n
    (a.1 :: b.1, b.2)

/-- Words left of the item at the head. -/
def PortSt.headWords (x : PortSt) : Nat :=
  match x.out with
  | [] => 0
  | i :: _ => i.words.length

/-- A host reaches the port: it is enabled, and its command layer is out of reset (R31, R408). -/
def State.hostReaches (s : State) (p : Port) : Bool := s.inRun && s.layers && s.flag (PORT_CFG p) PORT_CFG_EN

/-- A transaction of Ports A, B and C: Port E has cells in their place (R406). -/
def State.transacts (s : State) (p : Port) : Bool := s.hostReaches p && p != .e

/-- Words that an MBX_OUT read of `n` clocked words takes: a Block Read takes the lesser of 16 and the words of the
item, and 1 of an empty FIFO (R398); a transaction of Ports A and B has at most 64 data bytes (R381). -/
def State.outCount (s : State) (p : Port) (n : Nat) : Nat :=
  if p == .c then n else if s.crcPort p then min 16 n else max 1 (min 16 (s.port p).headWords)

/-- MBX_OUT (R397, R398, R402). -/
def execMbxOut (p : Port) (n : Fin 65) (s : State) : Host.Outcome State Fault Refusal :=
  done <| s.when (s.transacts p) fun s =>
    let r := s.outWords p (s.outCount p n)
    (r.2.updPort p (fun x => { x with again := r.1 })).send r.1

/-- MBX_AGAIN: the words of the last MBX_OUT read; Ports A and B only (R397, R398). -/
def execMbxAgain (p : Port) (s : State) : Host.Outcome State Fault Refusal :=
  done <| s.when (s.transacts p && p != .c) fun s => s.send (s.port p).again

/-- The host reads the response at the head to its last word, and the tag becomes FREE (R391). -/
def execResponseRetrieved (p : Port) (s : State) : Host.Outcome State Fault Refusal :=
  done <| s.when (s.hostReaches p && (match (s.port p).out with | [] => false | i :: _ => !i.notice)) fun s =>
    let r := s.outWords p (s.port p).headWords
    (r.2.updPort p (fun x => { x with again := r.1 })).send r.1

/-- The host drops the rest of the item it is reading; between items nothing happens (R386). -/
def execHostDrop (p : Port) (s : State) : Host.Outcome State Fault Refusal :=
  done <| s.when (s.transacts p && (match (s.port p).out with | [] => false | i :: _ => i.begun)) fun s => s.itemGone p

/-- ABORT_IN discards a packet being collected (R386). -/
def execAbortIn (p : Port) (s : State) : Host.Outcome State Fault Refusal :=
  done <| s.when (s.transacts p) fun s => s.updPort p (fun x => { x with collect := [], bad := false, missed := 0 })

/-- The status word (R397). -/
def State.statusWord (s : State) (p : Port) : Word :=
  let x := s.port p
  setF (setF (setF (setF (setF (setF (0 : Word) ⟨0, 7⟩ (64 - x.inUsed)) ⟨8, 7⟩ x.outUsed) ⟨15, 1⟩
    (if x.notes.any (fun n => n.ovf) then 1 else 0)) ⟨16, 1⟩ (s.get BOOT_STAT BOOT_STAT_READY)) ⟨17, 1⟩
    (s.get PWR_STATE PWR_STATE_AUTON)) ⟨18, 1⟩ (if x.collect.isEmpty && x.missed = 0 then 0 else 1)

/-- STATUS (R397). -/
def execPortStatusRead (p : Port) (s : State) : Host.Outcome State Fault Refusal :=
  done <| s.when (s.transacts p) fun s => s.send [s.statusWord p]

/-- The port's alert is asserted: its outbound FIFO holds a readable item (R396). -/
def State.alert (s : State) (p : Port) : Bool := s.layers && !(s.port p).out.isEmpty

/-- A read of the Alert Response Address: the port's address shifted left by one bit (R396). -/
def execAlertResponse (p : Port) (s : State) : Host.Outcome State Fault Refusal :=
  done <| s.when (s.transacts p && p != .c && s.alert p) fun s =>
    let a := 2 * s.get (PORT_ADDR p) PORT_ADDR_ADDR
    { s with out := [BitVec.ofNat 32 a], wire := bytesLE 1 a }

/-- STO in ms: 0 acts as 1, above 35 as 35 (R401, R408). -/
def stoMs (v : Nat) : Nat := min 35 (max 1 v)

/-- SCL has been held low for `ms`, at least STO: the transport is reset (R399). -/
def execBusTimeout (p : Port) (ms : BitVec 8) (s : State) : Host.Outcome State Fault Refusal :=
  done <| s.when (s.transacts p && p != .c && decide (stoMs (s.get (PORT_TIM p) PORT_TIM_STO) ≤ ms.toNat)) fun s =>
    ((s.updPort p (fun x => { x with collect := [], bad := false, missed := 0 })).putB (PORT_STAT p) PORT_STAT_BUS_TO
      true).raise (portEsn p) 3

/-! ### Burin's side (R382, R386, R391) -/

/-- A read of MBX_RX: the next inbound word, or the idle item (R382). A packet read whole is in Burin's hands. -/
def State.rxWord (s : State) (p : Port) : Word × State :=
  let x := s.port p
  let s := if x.rx.isEmpty then
      match x.inq with
      | [] => s
      | k :: r => s.updPort p (fun x => { x with rx := k, rxDone := [], inq := r })
    else s
  match (s.port p).rx with
  | [] => (idleItem, s)
  | w :: r =>
    let all := (s.port p).rxDone ++ [w]
    let s := s.updPort p (fun x => { x with rx := r, rxDone := if r.isEmpty then [] else all })
    (w, if r.isEmpty then { s with fw := { s.fw with taken := s.fw.taken ++ [(p, all)] } } else s)

/-- A read of MBX_RX. -/
def execMbxRxRead (p : Port) (s : State) : Host.Outcome State Fault Refusal :=
  done <| s.when s.burinReaches fun s =>
    let r := s.rxWord p
    { r.2 with out := [r.1] }

/-- The rest of the inbound packet that Burin reads is discarded (R386). -/
def State.rxDrop (s : State) (p : Port) : State := s.updPort p (fun x => { x with rx := [], rxDone := [] })

/-- MBX_CTL.DROP. -/
def execDrop (p : Port) (s : State) : Host.Outcome State Fault Refusal :=
  done <| s.when s.burinReaches fun s => s.rxDrop p

/-- A response of Burin is accepted: its tag is QUEUED for the port, and its deadline has not passed (R391, R392). -/
def State.accepts (s : State) (t : Fin 96) (p : Port) : Bool :=
  s.tags[t].st == .queued && s.tags[t].port == p && decide (s.clk.frames < s.tags[t].due)

/-- A whole response from Burin: accepted, or discarded and counted (R391). -/
def State.respond (s : State) (p : Port) (ws : List Word) : State :=
  match ws with
  | [] => s
  | h :: _ =>
    match tagOf (headTag h) with
    | some t =>
      if s.accepts t p then (s.tagState t .answered).place p ws (some t)
      else s.bump (PORT_STAT p) PORT_STAT_LATE
    | none => s.bump (PORT_STAT p) PORT_STAT_LATE

/-- A word that Burin writes to MBX_TX: with its last word the response is whole. A header that names more than 62
payload words is a framing error (R385). -/
def State.txWord (s : State) (p : Port) (w : Word) : State :=
  let ws := (s.port p).tx ++ [w]
  let n := headLen (ws.getD 0 0)
  if 62 < n then (s.updPort p (fun x => { x with tx := [] })).putB (PORT_STAT p) PORT_STAT_FRAME_ERR true
  else if ws.length = n + 1 then (s.updPort p (fun x => { x with tx := [] })).respond p ws
  else s.updPort p (fun x => { x with tx := ws })

end Sys2Proof.Machine
end

