-- ==== Sys2Proof/Machine/Proc.lean ====
section
/-! DEFINITION. The reset of D_PROC as one shared operation, the count of lockstep mismatches and TCM errors; the interrupt controller (spec 03 R63, R64; spec 04 R87 to R95; spec 01 R15 to R23). -/
namespace Sys2Proof.Machine
open Sys2Proof

/-! ### Parts of a reset -/

/-- The registers of a domain return to their reset values, and its RWL registers accept a write again (R5, R63). -/
def State.resetRegs (s : State) (d : Domain) : State :=
  { s with regs := s.regs.filter (fun p => domainOf p.1 != some d), locked := s.locked.filter (fun a => domainOf a != some d) }

/-- The unlock window closes (R446). -/
def State.closeWindow (s : State) : State :=
  ({ s with sys := { s.sys with window := none } }.putB SYS_UNL_STAT SYS_UNL_STAT_OPEN false).put SYS_UNL_STAT SYS_UNL_STAT_LEFT 0

/-- READY clears, and the part is in autonomous mode (R15, R81): a proof being made is given up (R17). -/
def State.unready (s : State) : State :=
  ((s.putB BOOT_STAT BOOT_STAT_READY false).putB PWR_STATE PWR_STATE_AUTON true).putB PRF_STAT PRF_STAT_BUSY false

/-- The command layers in reset: FIFOs and notices are lost, tags that are not FREE become OWED (R393). -/
def State.portsReset (s : State) : State :=
  { (s.oweTags) with ports := Vector.replicate 4 {}, layers := false, aux := { s.aux with addr := 0, wlen := 0, rlen := 0 },
                     link := { s.link with htx := [], hrx := [], hpart := [] } }

/-- The D_PWR side of a D_PROC reset: the charger falls to safe hold (R23), the estimator stops (R17, R218), Burin's NV
writes are abandoned whether a configuration is loaded or not (R337). -/
def State.procEngines (s : State) : State := (if s.engines then s.safeHold.gaugeFreeze.estReset else s).nvProcReset

/-- A D_PROC reset with the cause that RST_CAUSE records (R15 to R23, R63): ESN 0x08 is raised, everything of D_PROC is
reset, the watchdog runs no period, and every other domain goes on. -/
def State.procReset (s : State) (cause : Fld) : State :=
  let s := ((s.putB RST_CAUSE cause true).raise 0x08 0).procEngines
  let s := s.portsReset.resetRegs .dProc
  let s := { s with mr := s.mr.set 1 0, ic := {}, itcm := [], dtcm := [], fw := {}, sys := { s.sys with keys := [] },
                    proc := { s.proc with mode := .held, trialOpen := false }, wd := { s.wd with running := false } }
  s.unready.closeWindow

/-- Burin's cores run: a start or the firmware. -/
def State.coresRun (s : State) : Bool :=
  s.inRun && (s.proc.mode == .rom || s.proc.mode == .firmware || s.proc.mode == .recovery)

/-! ### Causes (R87, R88) -/

/-- The mismatches of the last 10 s (R87). -/
def State.recentMismatches (s : State) : List Nat := s.proc.mismatches.filter (fun t => decide (s.opt.ms ≤ t + 10000))

/-- LS_STAT.COUNT follows the mismatches of the last 10 s; while Burin is fenced it is held as it stood at the fence
(DESIGN CHOICE, log 31). -/
def State.mismatchTick (s : State) : State :=
  if s.proc.mismatches.isEmpty || s.proc.mode == .fenced then s
  else
    let l := s.recentMismatches
    { s.put LS_STAT LS_STAT_COUNT (min 7 l.length) with proc := { s.proc with mismatches := l } }

/-- TCM_ERROR_CORRECTED (R88): the corrected word is the word that stands. -/
def execTcmErrorCorrected (s : State) : Host.Outcome State Fault Refusal :=
  done <| s.when s.coresRun fun s => s.raise 0x12 0

/-- TCM_ERROR_UNCORRECTABLE (R88): a double-bit error of data TCM (payload 1) or a parity error of instruction TCM
(payload 2). -/
def execTcmErrorUncorrectable (instr : Bool) (s : State) : Host.Outcome State Fault Refusal :=
  done <| s.when s.coresRun fun s => (s.raise 0x13 (if instr then 2 else 1)).procReset RST_CAUSE_TCM

/-! ### The interrupt controller (R90 to R93) -/

/-- Byte offset in data TCM of a place of a ring (R91). -/
def State.ringAt (s : State) (p i : Nat) : Nat :=
  (1024 * s.get IC_RING_BASE IC_RING_BASE_BASE + 128 * p + 4 * (i % 32)) % 131072

/-- The ring that IC_PRIO names for an ESN (R91). -/
def State.ringOf (s : State) (esn : Nat) : Fin 8 :=
  ⟨s.get (IC_PRIO (esn / 4)) ⟨8 * (esn % 4), 3⟩ % 8, Nat.mod_lt _ (by decide)⟩

/-- SOFTWARE_DOORBELL: Burin writes IC_SWDB (R90). -/
def execSoftwareDoorbell (w : Word) (s : State) : Host.Outcome State Fault Refusal :=
  done <| s.when s.coresRun fun s => s.doorbell w

/-- The lowest latched doorbell goes to its ring, or finds it full (R91, R93). -/
def State.appendDoorbell (s : State) : State :=
  match s.ic.latch with
  | [] => s
  | (esn, w) :: r =>
    let p := s.ringOf esn
    let n := s.ic.count[p]
    let s := { s with ic := { s.ic with latch := r } }
    if 32 ≤ n then s.icOverflow esn
    else
      let s := { s with dtcm := memWrite s.dtcm (s.ringAt p (s.ic.head[p] + n)) (bytesLE 4 w.toNat),
                        ic := { s.ic with count := s.ic.count.set p (n + 1) } }
      s.putB IC_STAT (bitF p) true

/-- DOORBELL_APPEND (R91). -/
def execDoorbellAppend (s : State) : Host.Outcome State Fault Refusal :=
  done <| s.when (s.inRun && s.layers) fun s => s.appendDoorbell

/-- The highest ring that holds a word (R92). -/
def State.topRing (s : State) : Option (Fin 8) := (allFin 8).reverse.find? (fun p => decide (0 < s.ic.count[p]))

/-- What a read of IC_CLAIM by Burin returns and removes (R92). -/
def State.claim (s : State) : Word × State :=
  match s.topRing with
  | none => (0xFFFFFFFF, s)
  | some p =>
    let w := BitVec.ofNat 32 (memWord s.dtcm (s.ringAt p s.ic.head[p]))
    let n := s.ic.count[p] - 1
    let s := { s with ic := { s.ic with head := s.ic.head.set p ((s.ic.head[p] + 1) % 32), count := s.ic.count.set p n } }
    (w, if n = 0 then s.putB IC_STAT (bitF p) false else s)

/-- The source on whose behalf Burin accesses the space: 0 Burin, 1 to 4 Ports A, B, C and E; 5 to 7 act as 0
(R442). -/
def State.actSrc (s : State) : Nat :=
  if 5 ≤ s.get SYS_ACT SYS_ACT_SRC then 0 else s.get SYS_ACT SYS_ACT_SRC

/-- IC_CLAIM (R92): a read through the register window, under an SYS_ACT source, gives all ones and removes nothing. -/
def execIcClaim (s : State) : Host.Outcome State Fault Refusal :=
  done <| s.when s.coresRun fun s =>
    let r := if s.actSrc = 0 then s.claim else (0xFFFFFFFF, s)
    { r.2 with out := [r.1] }

/-- The request line to Burin (R91): some ring holds a word and IC_CTL.EN is 1. -/
def State.irq (s : State) : Bool := s.flag IC_CTL IC_CTL_EN && s.topRing.isSome

end Sys2Proof.Machine
end

