-- ==== Sys2Proof/Machine/Watchdog.lean ====
section
/-! DEFINITION. The watchdog: check-ins, periods, expiry and its registers (spec 13 R327 to R339). -/
namespace Sys2Proof.Machine
open Sys2Proof

def State.updWd (s : State) (f : WdSt → WdSt) : State := { s with wd := f s.wd }

/-- WD_OUT is high (R334): the watchdog's pulse or that of the RTC domain. -/
def State.wdOut (s : State) : Bool := s.flag WD_STAT WD_STAT_OUT || s.wd.rtcPulse

/-! ### Clocks of the frame -/

/-- Clocks of the present frame (R57, R61). -/
def State.frameClocks (s : State) : Nat := 2000 + s.clk.lengthen

/-- An event falls at a clock of the present frame; what came before it is not undone (log 27). -/
def State.clockAt (s : State) (c : Nat) : State :=
  { s with clk := { s.clk with now := max s.clk.now (min c (s.frameClocks - 1)) } }

/-- Clocks since the period, or the ROM's limit, began (R73, R328). -/
def State.wdElapsed (s : State) : Int := s.wd.clocks + s.clk.now

/-! ### Expiry (R333, R334) -/

/-- What an expiry does besides the reset of D_PROC: its record, its cause, ESN 0x18 and a WD_OUT pulse. -/
def State.wdFire (s : State) (code info : Nat) : State :=
  let s := s.wr WD_LAST (setF (setF (s.rd WD_LAST) WD_LAST_CODE code) WD_LAST_INFO info)
  let s := ((s.bump WD_EXP WD_EXP_COUNT).putB WD_STAT WD_STAT_OUT true).putB RST_CAUSE RST_CAUSE_WDOG true
  let s := s.updWd (fun w => { w with outLeft := 50 * s.get WD_FUSE1 WD_FUSE1_OUT_W })
  s.raise 0x18 code info

/-- What a clock of the watchdog ends in: an expiry with its code and what WD_LAST.INFO holds, or none. -/
abbrev Verdict := Option (Nat × Nat)

/-- The watchdog expires where the verdict says so (R333). -/
def State.wdSettle (r : Verdict × State) : State :=
  match r.1 with
  | some (code, info) => (r.2.wdFire code info).procReset RST_CAUSE_WDOG
  | none => r.2

/-- WD_OUT_PULSE_END (R334): the watchdog's pulse, or with both oscillators lost that of the RTC domain (R55). -/
def execWdOutPulseEnd (s : State) : Host.Outcome State Fault Refusal :=
  done <|
    if s.power == .run && s.clk.bothLost then s.updWd (fun w => { w with rtcPulse := false })
    else s.when (s.inRun && s.flag WD_STAT WD_STAT_OUT && s.wd.outLeft == 0) fun s => s.putB WD_STAT WD_STAT_OUT false

/-! ### Periods (R328, R335, R336) -/

/-- Owner of a slot among two words of owners (R329). -/
def ownerIn (own0 own1 : Word) (k : Nat) : Nat := getF (if k < 8 then own0 else own1) ⟨4 * (k % 8), 3⟩

/-- The slots of a mask that are owned by Burin, and with READY those of the ports too (R335). -/
def requiredSlots (en : Nat) (own0 own1 : Word) (ready : Bool) : Nat :=
  (List.range 16).foldl (fun n k => if en.testBit k && (ready || ownerIn own0 own1 k == 0) then n + 2 ^ k else n) 0

/-- PERIOD as the fuses bound it (R328). -/
def State.wdClamp (s : State) (p : Nat) : Nat :=
  max (s.get WD_FUSE0 WD_FUSE0_PMIN) (min (s.get WD_FUSE0 WD_FUSE0_PMAX) p)

/-- A period begins under the settings as they stand, at a clock S that lies `clocks` clocks before the last tick (R328,
R335, R336). -/
def State.wdPeriod (s : State) (first : Bool) (clocks : Int) : State :=
  let en := getF (s.rd WD_SLOT_EN) ⟨0, 16⟩
  let ready := s.flag BOOT_STAT BOOT_STAT_READY
  let own0 := s.rd (WD_OWN 0)
  let own1 := s.rd (WD_OWN 1)
  let s := s.updWd (fun w =>
    { w with running := true, required := requiredSlots en own0 own1 ready, enabled := en, own0 := own0, own1 := own1,
             period := s.wdClamp (s.get WD_CFG WD_CFG_PERIOD), first := first, clocks := clocks })
  s.wr WD_STAT (setF (setF (setF (s.rd WD_STAT) WD_STAT_DONE 0) WD_STAT_OPEN 0) WD_STAT_HOSTREQ (if ready then 1 else 0))

/-- The watchdog's first period begins (R73, R336). -/
def State.wdStart (s : State) : State := (s.wr WD_SEQ 0).wdPeriod true (-s.clk.now)

/-- The window opens at S + floor(P × WIN), in clocks (R328). -/
def windowAt (period win : Nat) : Nat :=
  period * 100000 * (if win = 0 then 2 else if win = 1 then 4 else if win = 2 then 6 else 7) / 8

/-- WD_STAT.OPEN shows whether clock W has come (R328). -/
def State.wdWindow (s : State) : State :=
  s.putB WD_STAT WD_STAT_OPEN (s.wd.running && decide (windowAt s.wd.period (s.get WD_FUSE1 WD_FUSE1_WIN) ≤ s.wdElapsed))

/-- The first period of a trial start has been served: the NV engine is to write the record that confirms it (R78). -/
def State.trialConfirm (s : State) : State :=
  { s.queueBoot .confirm (s.get BOOT_STAT BOOT_STAT_SLOT) false 0 with proc := { s.proc with trialOpen := false } }

/-- Every required slot has checked in (R331). -/
def wdComplete (required done_ : Nat) : Bool := required &&& done_ == required

/-- What is being counted ends: the ROM's limit of 20 ms, or the period; in clocks from its beginning (R73, R328). -/
def State.wdLimit (s : State) : Nat := if s.proc.mode == .rom then 2000000 else 100000 * s.wd.period

/-- The watchdog counts: a period runs, or the ROM has not reached step 8 (R73). -/
def State.wdCounts (s : State) : Bool := s.wd.running || s.proc.mode == .rom

/-- Clock E: the period is served and the next begins, or the watchdog expires; so does the ROM's limit (R73, R331). -/
def State.wdEnd (s : State) : Verdict × State :=
  if s.proc.mode == .rom then (some (5, 0), s)
  else
    let d := s.get WD_STAT WD_STAT_DONE
    if wdComplete s.wd.required d then
      let s := if s.wd.first && s.proc.trialOpen then s.trialConfirm else s
      (none, (s.wr WD_SEQ (s.rd WD_SEQ + 1)).wdPeriod false (s.wd.clocks - s.wdLimit))
    else (some (1, s.wd.required &&& (d ^^^ 65535)), s)

/-- Clock E of what is being counted lies in the present frame, or has passed (R331). -/
def State.wdEndsNow (s : State) : Bool := s.wdCounts && decide ((s.wdLimit : Int) < s.wd.clocks + s.frameClocks)

/-- The clock at which what is being counted ends. -/
def State.atEnd (s : State) : State := s.clockAt (s.wdLimit - s.wd.clocks).toNat

/-- ROM_LIMIT_EXPIRY (R73): the ROM has not reached step 8 within 20 ms. -/
def execRomLimitExpiry (s : State) : Host.Outcome State Fault Refusal :=
  done <| s.when (s.inRun && s.proc.mode == .rom && s.wdEndsNow) fun s => State.wdSettle s.atEnd.wdEnd

/-- WATCHDOG_PERIOD_END (R331). -/
def execWatchdogPeriodEnd (s : State) : Host.Outcome State Fault Refusal :=
  done <| s.when (s.inRun && s.wd.running && s.wdEndsNow) fun s => State.wdSettle s.atEnd.wdEnd

/-- In recovery the ROM services the watchdog from slot 0, once the window is open (R79). -/
def State.wdRom (s : State) : State :=
  let d := s.get WD_STAT WD_STAT_DONE
  if s.proc.mode == .recovery && s.flag WD_STAT WD_STAT_OPEN && !d.testBit 0 then s.put WD_STAT WD_STAT_DONE (d + 1) else s

/-- The tick's share of the watchdog: an end that lay in the ended frame and was not commanded, the frame's clocks, the
window, the ROM's service and the pulse. -/
def State.wdTick (s : State) : State :=
  let n := s.frameClocks
  let s := if s.wdEndsNow then State.wdSettle s.wdEnd else s
  let s := s.updWd (fun w => { w with clocks := w.clocks + n, outLeft := w.outLeft - 1 })
  { s with clk := { s.clk with now := 0 } }.wdWindow.wdRom

/-! ### Check-ins (R329 to R331) -/

/-- A check-in word is ignored (R330). -/
def State.wdIgnore (s : State) (code slot src : Nat) : State :=
  (s.putB WD_STAT WD_STAT_IGN true).raise 0x19 code (slot + 256 * src)

/-- A word of a period that runs, from a source (R330, R331). -/
def State.wdWord (s : State) (w : Word) (src : Nat) : Verdict × State :=
  let slot := getF w ⟨0, 8⟩
  if !s.wd.running then (none, s)
  else if getF w ⟨16, 16⟩ ≠ 0x5A3C then (none, s.wdIgnore 1 slot src)
  else if 16 ≤ slot || !s.wd.enabled.testBit slot then (none, s.wdIgnore 2 slot src)
  else if ownerIn s.wd.own0 s.wd.own1 slot ≠ src then (none, s.wdIgnore 3 slot src)
  else
    let d := s.get WD_STAT WD_STAT_DONE
    if d.testBit slot then (some (3, slot), s)
    else if getF w ⟨8, 8⟩ ≠ (s.rd WD_SEQ).toNat % 256 then (some (4, slot), s)
    else
      let d' := d + 2 ^ slot
      let s := (s.put WD_STAT WD_STAT_DONE d').wdWindow
      (if wdComplete s.wd.required d' && !wdComplete s.wd.required d && !s.flag WD_STAT WD_STAT_OPEN then some (2, slot)
       else none, s)

/-- A word that reaches the watchdog at the clock that `now` shows, from a source: 0 Burin, 1 to 4 the ports, 0x80 and
above the register window. At clock E the end of the period is judged before it (R329 to R331). -/
def State.wdJudge (s : State) (w : Word) (src : Nat) : Verdict × State :=
  if s.wd.running && decide ((s.wdLimit : Int) ≤ s.wdElapsed) then
    match s.wdEnd with
    | (some v, t) => (some v, t)
    | (none, t) => t.wdWord w src
  else s.wdWord w src

/-- The word's outcome. -/
def State.wdCheckin (s : State) (w : Word) (src : Nat) : State := State.wdSettle (s.wdJudge w src)

/-- The source of Burin's own access: Burin, or the register window under the source of SYS_ACT. -/
def State.checkinSource (s : State) : Nat :=
  if s.actSrc = 0 then 0 else 0x80 + s.actSrc

/-- WD_CHECKIN_WRITE: Burin writes WD_CHECKIN, at a clock of the present frame (R329). -/
def execWdCheckinWrite (w : Word) (clock : BitVec 12) (s : State) : Host.Outcome State Fault Refusal :=
  done <| s.when s.burinReaches fun s => (s.clockAt clock.toNat).wdCheckin w s.checkinSource

/-! ### Other causes of a D_PROC reset, alone or in one clock with an expiry (R64, R87, R338) -/

/-- What the watchdog's event of the same clock does short of its reset of D_PROC. -/
def State.wdBeside (s : State) (e : WdEvent) : State :=
  let r : Verdict × State := match e with
    | .none => (Option.none, s)
    | .ends => if s.wdEndsNow then s.atEnd.wdEnd else (Option.none, s)
    | .checkin w src clock => (s.clockAt clock.toNat).wdJudge w src.val
  match r.1 with
  | some (code, info) => r.2.wdFire code info
  | none => r.2

/-- Burin's fence is lifted, and its count cleared (R87). -/
def State.unfence (s : State) : State :=
  { (s.putB LS_STAT LS_STAT_FENCED false).put LS_STAT LS_STAT_COUNT 0 with proc := { s.proc with mismatches := [] } }

/-- RESET_N_PULSE (R64, R338): ignored with PIN_EN at 0, and while D_PROC is in reset or restarting unless Burin is fenced.
A pulse that lifts no fence leaves the count of mismatches as it is (DESIGN CHOICE, log 31). -/
def execResetNPulse (e : WdEvent) (s : State) : Host.Outcome State Fault Refusal :=
  done <| s.when (s.inRun && s.flag RST_CFG RST_CFG_PIN_EN &&
      (s.proc.mode == .firmware || s.proc.mode == .recovery || s.proc.mode == .fenced)) fun s =>
    ((if s.proc.mode == .fenced then s.unfence else s).wdBeside e).procReset RST_CAUSE_PIN

/-- LOCKSTEP_MISMATCH (R87, R338): D_PROC is reset, and the fourth mismatch in 10 s fences Burin. -/
def execLockstepMismatch (e : WdEvent) (s : State) : Host.Outcome State Fault Refusal :=
  done <| s.when s.coresRun fun s =>
    let l := s.recentMismatches ++ [s.opt.ms]
    let s := { s.put LS_STAT LS_STAT_COUNT (min 7 l.length) with proc := { s.proc with mismatches := l } }
    let s := ((s.wdBeside e).raise 0x10 0).procReset RST_CAUSE_LOCKSTEP
    if 4 ≤ l.length then
      { (s.putB LS_STAT LS_STAT_FENCED true).raise 0x11 0 with proc := { s.proc with mode := .fenced } }
    else s

/-! ### Writes (R328, R339) -/

def isWdOwn (a : Nat) : Bool := decide (a = WD_OWN 0 ∨ a = WD_OWN 1)

/-- An owner word names an owner from 5 to 7 (R339). -/
def ownBad (w : Word) : Bool := (List.range 8).any (fun j => decide (5 ≤ getF w ⟨4 * j, 3⟩))

/-- A protected write of a watchdog register, given the word it would hold; slot 0 is Burin's whatever is written
(R339). -/
def State.wdWrite (s : State) (a : Nat) (v : Word) : State :=
  let w := if a = WD_OWN 0 then setF v ⟨0, 3⟩ 0 else v
  if a = WD_CFG then
    let p := getF w WD_CFG_PERIOD
    let c := s.wdClamp p
    let s := s.wr WD_CFG (setF w WD_CFG_PERIOD c)
    if c = p then s else s.raise 0x19 4 p
  else if isWdOwn a && ownBad w then s.raise 0x19 5
  else s.wr a w

end Sys2Proof.Machine
end

