-- ==== Sys2Proof/Machine/Power.lean ====
section
/-! DEFINITION. The power states: FROST, STANDBY, RUN and unpowered, and the wake sources (spec 03 R63, R66 to R68; spec
15 R371, R372). -/
namespace Sys2Proof.Machine
open Sys2Proof

/-! ### What each loss of supply keeps (R63, R67) -/

/-- The state with D_PWR and D_PROC in reset: what lies in D_BAK, MRAM and the fuses is kept. -/
def State.pwrReset (s : State) : State :=
  { regs := s.regs.filter (fun p => domainOf p.1 == some Domain.dBak), mram := s.mram, fuse := s.fuse, bak := s.bak,
    power := s.power, freeCtr := s.freeCtr, pending := s.pending }

/-- The state with all lost except MRAM; the fuses stand (R67). -/
def State.allLost (s : State) : State := { mram := s.mram, fuse := s.fuse, freeCtr := s.freeCtr, pending := s.pending }

/-- VBAK_RISE (R67): from unpowered into FROST. -/
def execVbakRise (s : State) : Host.Outcome State Fault Refusal :=
  done <| s.when (s.power == .unpowered) fun s => { s.bakReset with power := .frost }

/-- VBAK_FALL (R67): from FROST, all state except MRAM is lost. -/
def execVbakFall (s : State) : Host.Outcome State Fault Refusal :=
  done <| s.when (s.power == .frost) fun s => s.allLost

/-- VSYS_FALL (R67, R372, R373): into FROST with VBAK (in mV) at 1.8 V or more, and otherwise unpowered. A SET or a
CLEAR_SWO that is crossing is dropped (R378). -/
def execVsysFall (vbak : BitVec 12) (s : State) : Host.Outcome State Fault Refusal :=
  done <| s.when (s.power == .run || s.power == .standby) fun s =>
    if vbak.toNat < 1800 then s.allLost
    else
      let s := s.switchOver
      let s := if vbak.toNat < 2000 then
          (s.putB RTC_STAT RTC_STAT_BAK_LOW true).updBak (fun b => { b with lowMark := true })
        else s
      { s.pwrReset with power := .frost }

/-! ### STANDBY (R67, R68) -/

/-- Every generated rail is off. -/
def State.railsOff (s : State) : Bool :=
  (allFin 4).all (fun m => !s.loopOn m) && (allFin 14).all (fun r => s.regul[r].run == .off && !s.flag (REG_CTL r) REG_CTL_EN)

/-- The conditions of a STANDBY request (R67). -/
def State.standbyReady (s : State) : Bool :=
  s.railsOff && s.seq.extEn == 0 && s.seq.extNext == 0 && (allFin 4).all (fun t => !s.thRuns t) &&
  s.chgState == chgIdle && s.nvIdle

/-- The gauge records that wait are written before MAIN stops. -/
def State.nvFlush (s : State) : State := (s.nv.q2.foldl (fun s j => s.flushWords j.all) s).updNv (fun n => { n with q2 := [] })

/-- The mailboxes of the ports are empty after an entry to STANDBY; every tag in use is owed an answer (R394). -/
def State.portsStandby (s : State) : State :=
  allPorts.foldl (fun s p => s.updPort p (fun _ => {})) s.oweTags

/-- What the pins' STANDBY states turn off (R30): ORing gates, balance switches, stage enables, FAULT_N, WD_OUT. -/
def State.pinsStandby (s : State) : State :=
  let s := (s.putB (FEED_STAT 0) FEED_STAT_GATE_ON false).putB (FEED_STAT 1) FEED_STAT_GATE_ON false
  let s := (s.put GG_CELL_STAT GG_CELL_STAT_BAL_ON 0).putB SEQ_STAT SEQ_STAT_FN_DRIVE false
  let s := (s.putB WD_STAT WD_STAT_OUT false).updWd (fun w => { w with outLeft := 0, rtcPulse := false })
  (allFin 4).foldl (fun s m => s.updLoop m (fun l => { l with stgEn := false })) s

/-- The gauge hibernates: cells, balancing and the tap check stop (R207), and no load step spans the entry (R225). -/
def State.hibernate (s : State) : State :=
  let s := (s.putB GG_STAT GG_STAT_HIB true).updEst (fun e => { e with lastI := none })
  s.updGg (fun g =>
    { g with hibN := 0, hibCycles := 0, wakeRun := 0, settling := false, balWas := 0, tapNow := false, tapDue := false })

/-- The entry to STANDBY (R30, R67, R81, R207, R306, R336). -/
def State.enterStandby (s : State) : State :=
  let s := ((s.gaugeWrite 2).nvFlush.unready.portsStandby.adcStandby).putB SEQ_STAT SEQ_STAT_UP_PEND false
  let s := s.pinsStandby.hibernate.levelStandby
  { s.updWd (fun w => { w with running := false }) with
      power := .standby, fw := { s.fw with acts := [], taken := [], deferred := [] } }

/-- A write of 1 to PWR_CTL.STANDBY_REQ (R67). -/
def State.standbyReq (s : State) : State :=
  if s.standbyReady then s.enterStandby else s.putB PWR_STATE PWR_STATE_STBY_REJ true

/-- STANDBY_REQ (R67). -/
def execStandbyReq (s : State) : Host.Outcome State Fault Refusal := done <| s.when s.inRun fun s => s.standbyReq

/-! ### Wakes (R66, R80, R208, R371) -/

/-- The exit from STANDBY by a source: its bit, and Burin's warm start (R68, R80, R336). -/
def State.wake (s : State) (src : Nat) : State :=
  let s := ((s.putB PWR_WAKE_SRC (bitF src) true).putB PWR_STATE PWR_STATE_WARM true).contextsReset
  let s := { s.updTh (fun t => { t with on := false, last := none }) with power := .run }
  let s := if s.flag ADC_CFG ADC_CFG_REF_EN then s.updAdc (fun a => { a with refAt := some s.clk.frames }) else s
  let s := s.raiseHeld
  if s.proc.mode == .firmware || s.proc.mode == .recovery then s.wdStart else s

/-- A wake request from a source that PWR_WAKE_EN enables, in STANDBY. -/
def State.wakeRequest (s : State) (src : Nat) : State :=
  if s.power == .standby && s.flag PWR_WAKE_EN (bitF src) then s.wake src else s

/-- WAKE_REQUEST (R66, R67). -/
def execWakeRequest (src : Fin 7) (s : State) : Host.Outcome State Fault Refusal := done (s.wakeRequest src)

/-- ADDRESS_MATCH_WAKE (R66): a port is addressed in STANDBY. `runs`: MAIN runs within the stretch timeout; where it does
not, a two-wire port releases its bus and resets its transport (R399). -/
def execAddressMatchWake (p : Port) (runs : Bool) (s : State) : Host.Outcome State Fault Refusal :=
  done <| s.when (s.power == .standby && s.flag (PORT_CFG p) PORT_CFG_EN && s.flag PWR_WAKE_EN (bitF p.idx)) fun s =>
    if runs then s.wake p.idx
    else if p == .a || p == .b then (s.putB (PORT_STAT p) PORT_STAT_BUS_TO true).raiseLater (portEsn p) 3 0
    else s

/-- GAUGE_WAKE (R208). -/
def execGaugeWake (s : State) : Host.Outcome State Fault Refusal :=
  done <| s.when (s.power == .standby && decide (2 ≤ s.gg.wakeRun) && s.flag PWR_WAKE_EN PWR_WAKE_EN_GAUGE) fun s =>
    (s.raiseLater 0x63 0 0).wake 5

/-- PERIODIC_WAKE (R371): an expiry of the periodic wake, by the state of the part. -/
def execPeriodicWake (s : State) : Host.Outcome State Fault Refusal :=
  done <| s.when (s.bak.wakeDue && (s.power == .standby || s.power == .frost || s.inRun)) fun s =>
    let s := s.updBak (fun b => { b with wakeDue := false })
    match s.power with
    | .run => s.raise 0x98 0
    | .standby => (s.raiseLater 0x98 0 0).wakeRequest 4
    | _ => s

end Sys2Proof.Machine
end

