-- ==== Sys2Proof/Machine/Clock.lean ====
section
/-! DEFINITION. MAIN's source, the clock monitor, the crystal fault, and the alignment of FRAME with the sibling (spec 03
R50 to R62; spec 15 R367; spec 07 R165; spec 16 R406). -/
namespace Sys2Proof.Machine
open Sys2Proof

def State.updClk (s : State) (f : ClkSt → ClkSt) : State := { s with clk := f s.clk }

/-- A field of CLK_STAT. -/
def State.clkBit (s : State) (f : Fld) : Bool := s.flag CLK_STAT f
def State.setClk (s : State) (f : Fld) (b : Bool) : State := s.putB CLK_STAT f b

/-! ### The source (R50, R51) -/

/-- MAIN changes its source, with ESN 0x03 (R51). -/
def State.toSource (s : State) (x : ClkSrc) : State := (s.updClk (fun c => { c with source := x })).raise 0x03 0

/-- The source CLK_CFG selects. -/
def State.srcCfg (s : State) : ClkSrc :=
  match s.get CLK_CFG CLK_CFG_SRC with | 1 => .xtal | 2 => .ref | _ => .free

/-- The source that takes the place of REF: XTAL, or FREE while the crystal fault stands (R51, R56). -/
def State.xtalOrFree (s : State) : ClkSrc := if s.clkBit CLK_STAT_XTAL_OK then .xtal else .free

/-- REF_IN_LOSS (R51): REF_IN has no edges; a source REF goes into holdover. -/
def execRefInLoss (s : State) : Host.Outcome State Fault Refusal :=
  done <| s.when s.inRun fun s =>
    let s := (s.setClk CLK_STAT_REF_PRESENT false).setClk CLK_STAT_PLL_LOCK false
    if s.clk.source == .ref && !s.clkBit CLK_STAT_HOLDOVER then (s.setClk CLK_STAT_HOLDOVER true).raise 0x03 0 else s

/-- HOLDOVER_EXPIRY (R51). -/
def execHoldoverExpiry (s : State) : Host.Outcome State Fault Refusal :=
  done <| s.when (s.inRun && s.clk.source == .ref && s.clkBit CLK_STAT_HOLDOVER) fun s =>
    (s.setClk CLK_STAT_HOLDOVER false).toSource s.xtalOrFree

/-- REF_RETURN (R51): REF_IN is back and the PLL has stayed locked for 10 ms. -/
def execRefReturn (s : State) : Host.Outcome State Fault Refusal :=
  done <| s.when (s.inRun && s.clk.inForce && s.srcCfg == .ref && (s.clk.source != .ref || s.clkBit CLK_STAT_HOLDOVER)) fun s =>
    (((s.setClk CLK_STAT_REF_PRESENT true).setClk CLK_STAT_PLL_LOCK true).setClk CLK_STAT_HOLDOVER false).toSource .ref

/-- PLL_LOCK (R50): REF_IN has edges and the PLL locks to it. -/
def execPllLock (s : State) : Host.Outcome State Fault Refusal :=
  done <| s.when s.inRun fun s => (s.setClk CLK_STAT_REF_PRESENT true).setClk CLK_STAT_PLL_LOCK true

/-- DISC_LOCK (R50): the discipline of source XTAL is within 20 ppm. -/
def execDiscLock (s : State) : Host.Outcome State Fault Refusal :=
  done <| s.when (s.inRun && s.clk.source == .xtal && s.clkBit CLK_STAT_XTAL_OK) fun s => s.setClk CLK_STAT_DISC_LOCK true

/-! ### The crystal (R56, R367) -/

/-- CRYSTAL_FAULT (R56, R367): XTAL falls back to FREE, and substitute counts begin. -/
def execCrystalFault (s : State) : Host.Outcome State Fault Refusal :=
  done <| s.when (s.inRun && !s.flag RTC_STAT RTC_STAT_SUBST) fun s =>
    let s := ((s.setClk CLK_STAT_XTAL_OK false).setClk CLK_STAT_DISC_LOCK false).raise 0x04 0
    let s := if s.clk.source == .xtal then s.toSource .free else s
    (s.updOpt (fun o => { o with substCal := s.bak.cal, substStep := 0, substMs := 0 })).putB RTC_STAT RTC_STAT_SUBST true

/-- CRYSTAL_RETURN (R367): the substitute calendar is loaded as a SET loads its value, without ESN 0x94; XTAL is taken up
again by a part that fell back from it to FREE, from source XTAL or from an expired holdover of REF (R51, R56). -/
def execCrystalReturn (s : State) : Host.Outcome State Fault Refusal :=
  done <| s.when (s.inRun && s.flag RTC_STAT RTC_STAT_SUBST) fun s =>
    let s := (s.updBak (fun b => { b with cal := s.opt.substCal, crystal := true })).putB RTC_STAT RTC_STAT_SUBST false
    let s := (s.putB RTC_STAT RTC_STAT_VALID true).setClk CLK_STAT_XTAL_OK true
    if s.clk.inForce && s.srcCfg != .free && s.clk.source == .free then s.toSource .xtal else s

/-! ### The clock monitor (R52 to R55) -/

/-- The oscillator that drives MAIN is the spare; the other one is fenced. -/
def State.onSpare (s : State) : Bool := s.clkBit CLK_STAT_ACTIVE
def State.otherFenced (s : State) : Bool := s.clkBit (if s.onSpare then CLK_STAT_PRI_FENCED else CLK_STAT_SPR_FENCED)

/-- A crystal cycle whose count of MAIN / 8 lies outside 90 MHz to 110 MHz (R52). -/
def offFrequency (count : Nat) : Bool := decide (count ≤ 343) || decide (420 ≤ count)

/-- An oscillator fails the monitor: its stopped-clock detector fires, or the counts of 4 crystal cycles in a row lie
outside the range; without the crystal the frequency detector does not work (R52, R53, R56). -/
def State.oscFails (s : State) (stopped : Bool) (counts : Vector (BitVec 10) 4) : Bool :=
  stopped || (s.clkBit CLK_STAT_XTAL_OK && counts.toList.all (fun c => offFrequency c.toNat))

/-- A conversion that MAIN's stop caught is made again (R306). -/
def State.convAgain (s : State) (q : Fin 2) (e : Option (Fin 64)) : State :=
  match e with
  | some e => s.updAdcSeq q (fun x => { x with redo := x.redo ++ [e.val] })
  | none => s

/-- The loss of both oscillators (R55): the stamp, WD_OUT, ERR_N, and every output off. -/
def State.loseBoth (s : State) : State :=
  let s := (s.wr RTC_LOSS_CAL_LO (rtcSecLo s.bak.cal)).wr RTC_LOSS_CAL_HI (rtcSecHi s.bak.cal)
  let s := (s.wr RTC_LOSS_OPT_LO (BitVec.ofNat 32 s.bak.shadowOpt)).put RTC_LOSS_OPT_HI RTC_LOSS_OPT_HI_OPT
    (s.bak.shadowOpt / 2 ^ 32)
  let s := (s.putB RTC_STAT RTC_STAT_LOSS true).raise 0x02 0
  let s := (allFin 14).foldl (fun s r => s.regSwitchOff r .off) (s.put CHG_STAT CHG_STAT_STATE chgIdle)
  { s with clk := { s.clk with bothLost := true }, wd := { s.wd with running := false, rtcPulse := true },
           loops := s.loops.map (fun l => { l with stgEn := false, stgEnFall := false }),
           seq := { s.seq with extEn := 0, extNext := 0 } }

/-- ACTIVE_OSCILLATOR_LOST (R52 to R54): the active oscillator is fenced and MAIN switched to the other; with the other
fenced already, both are lost. `stopped`: the stopped-clock detector found it, so MAIN stands still until MAIN_RESUME;
`counts` are what the frequency detector counted in 4 crystal cycles; `e0` and `e1` are the entries of the sequences that
were being converted. -/
def execActiveOscillatorLost (stopped : Bool) (counts : Vector (BitVec 10) 4) (e0 e1 : Option (Fin 64)) (s : State) :
    Host.Outcome State Fault Refusal :=
  done <| s.when (s.inRun && s.oscFails stopped counts) fun s =>
    if s.otherFenced then s.loseBoth
    else
      let s := s.setClk (if s.onSpare then CLK_STAT_SPR_FENCED else CLK_STAT_PRI_FENCED) true
      let s := s.setClk CLK_STAT_ACTIVE (!s.onSpare)
      (if stopped then ((s.convAgain 0 e0).convAgain 1 e1).updClk (fun c => { c with stopped := true }) else s).raise 0x00 0

/-- SPARE_OSCILLATOR_LOST (R53): the idle oscillator fails the same checks. -/
def execSpareOscillatorLost (stopped : Bool) (counts : Vector (BitVec 10) 4) (s : State) : Host.Outcome State Fault Refusal :=
  done <| s.when (s.inRun && !s.otherFenced && s.oscFails stopped counts) fun s =>
    (s.setClk (if s.onSpare then CLK_STAT_PRI_FENCED else CLK_STAT_SPR_FENCED) true).raise 0x01 0

/-- A regulator after the gap (R165): above its UV threshold it resumes, a load switch fully on; otherwise its UV comparator
is asserted, and it ramps from its present output, in mV. -/
def State.regResume (s : State) (r : Fin 14) (above : Bool) (vout : Nat) : State :=
  if !s.regOn r then s
  else if above then
    if regKind r == .sw then
      (s.updReg r (fun x => { x with run := .running, vref := x.target })).putB (REG_STAT r) REG_STAT_SS false
    else s
  else
    let s := s.uvAssert r
    (s.updReg r (fun x =>
      { x with run := .starting, vref := if regKind r == .sw then 0 else vout, vfrac := 0, target := s.regSetpoint r,
               span := s.regSetpoint r })).putB (REG_STAT r) REG_STAT_SS true

/-- MAIN_RESUME (R54, R118, R165, R320): the interrupted frame goes on where it stopped, and the raises that waited are
taken. A SYNC_IN lock is reacquired. -/
def execMainResume (above : BitVec 14) (vout : Vector (BitVec 16) 14) (s : State) : Host.Outcome State Fault Refusal :=
  done <| s.when (s.power == .run && s.clk.stopped && !s.clk.bothLost) fun s =>
    let s := (s.updClk (fun c => { c with stopped := false })).raiseHeld
    ((allFin 14).foldl (fun s r => s.regResume r (above.getLsbD r) vout[r].toNat) s).reacquire

/-- BOTH_OSCILLATORS_LOST (R55): both oscillators fail at once. -/
def execBothOscillatorsLost (s : State) : Host.Outcome State Fault Refusal :=
  done <| s.when (s.power == .run && !s.clk.bothLost) fun s => s.loseBoth

/-! ### Alignment with the sibling (R61, R62) -/

/-- Clocks by which the frame is lengthened so that the next tick falls on the leader's mark (R61). -/
def lengthenBy (ofs : Int) : Nat := (ofs % 2000).toNat

/-- FRAME_MARK (R61): a follower receives the leader's mark, with its frame number and the offset after correction. -/
def execFrameMark (leader : BitVec 32) (ofs : BitVec 16) (s : State) : Host.Outcome State Fault Refusal :=
  done <| s.when (s.engines && s.frmRole == 2 && s.flag LINK_STAT LINK_STAT_UP) fun s =>
    let s := (s.put FRM_SIB FRM_SIB_OFS ofs.toNat).wr FRM_SIB_DELTA (leader - BitVec.ofNat 32 s.frmNum)
    let d := ofs.toInt.natAbs
    let far := !s.clk.marked || decide (16 < d)
    s.updClk (fun c =>
      { c with markSeen := true, marked := true, missed := 0, marksLost := false,
               goodMarks := if d ≤ 2 then c.goodMarks + 1 else 0,
               lengthen := if far then lengthenBy ofs.toInt else c.lengthen,
               steering := !far && c.source != .ref })

/-- FRAME_MARK_AT_LEADER (R62). -/
def execFrameMarkAtLeader (s : State) : Host.Outcome State Fault Refusal :=
  done <| s.when (s.engines && s.frmRole == 1) fun s => s.raise 0x7E 0

/-- FRM_ALIGNED_SET (R61). -/
def execFrmAlignedSet (s : State) : Host.Outcome State Fault Refusal :=
  done <| s.when (s.engines && s.frmRole == 2 && decide (8 ≤ s.clk.goodMarks) && !s.clkBit CLK_STAT_FRM_ALIGNED) fun s =>
    s.setClk CLK_STAT_FRM_ALIGNED true

/-- FRAME_MARKS_MISSING (R61): 8 marks in a row are missing. -/
def execFrameMarksMissing (s : State) : Host.Outcome State Fault Refusal :=
  done <| s.when (s.engines && s.frmRole == 2 && decide (8 ≤ s.clk.missed) && !s.clk.marksLost) fun s =>
    ((s.updClk (fun c => { c with marksLost := true, goodMarks := 0, steering := false })).setClk CLK_STAT_FRM_ALIGNED
      false).raise 0x7D 0

/-- The tick's share of the alignment: marks missing, and the lengthened frame is over (R61). -/
def State.alignTick (s : State) : State :=
  let miss := s.frmRole == 2 && s.flag LINK_STAT LINK_STAT_UP && !s.clk.markSeen
  s.updClk (fun c =>
    { c with missed := if miss then c.missed + 1 else c.missed, goodMarks := if miss then 0 else c.goodMarks,
             markSeen := false, lengthen := 0 })

/-- LINK_UP (R406): the CRC of each of the last 16 cells was right. -/
def execLinkUp (good : BitVec 16) (s : State) : Host.Outcome State Fault Refusal :=
  done <| s.when (s.engines && good == 0xFFFF && !s.flag LINK_STAT LINK_STAT_UP) fun s =>
    (s.putB LINK_STAT LINK_STAT_UP true).updClk (fun c => { c with marked := false, missed := 0, marksLost := false })

/-- ECHO_RECEIPT (R406): the latency is half of the round trip less the follower's delay. -/
def execEchoReceipt (round_ delay : BitVec 16) (s : State) : Host.Outcome State Fault Refusal :=
  done <| s.when (s.engines && s.frmRole == 1 && s.flag LINK_STAT LINK_STAT_UP) fun s =>
    s.put LINK_STAT LINK_STAT_LAT (min 255 ((round_.toNat - delay.toNat) / 2))

end Sys2Proof.Machine
end

