-- ==== Sys2Proof/Machine/Transients.lean ====
section
/-! DEFINITION. Phase engine under stress: protections, all-phases-fire, braking, shedding, imbalance, fencing and
substitution (spec 05 R103, R104, R117 and spec 06). -/
namespace Sys2Proof.Machine
open Sys2Proof

/-! ### IMON (R103, R104, R143, R145) -/

/-- The loop of a phase. -/
def State.loopOf (s : State) (n : Fin 16) : Fin 4 := ⟨s.phLoop n % 4, by omega⟩

/-- The current of an IMON code in 10 mA: (v - OFS × 0.1 mV) / GAIN with v = 200 mV + code × 1.953125 mV, to the nearest
(R104); a GAIN of 0 leaves it open (log 2). -/
def State.imonCurrent (s : State) (n : Fin 16) (code : Nat) : Int :=
  let gain := s.get (PH_IMON n) PH_IMON_GAIN
  let ofs := s.get (PH_IMON n) PH_IMON_OFS
  if gain = 0 then (Config.freeWord s.freeCtr).toInt
  else roundDiv ((128000 + 1250 * (code : Int) - 64 * (ofs : Int)) * 625) (4 * gain)

/-- A stage fault is attributed to a phase and fences it (R103, R145). -/
def State.attribute (s : State) (n : Fin 16) : State :=
  if s.phRole n == 0 || s.phState n == phFenced then s
  else ((s.putB (PH_STAT n) PH_STAT_STG_FAULT true).raise (0x20 + n) 0x01).fencePhase n

/-- Attribution to each phase named (R103). -/
def State.attributeAll (s : State) (mask : BitVec 16) : List (Fin 16) → State
  | [] => s
  | n :: r => State.attributeAll (if mask.getLsbD n then s.attribute n else s) mask r

/-- ESN 0x30 + m code 0x0A for every enabled loop (R103). -/
def State.unattributed (s : State) : List (Fin 4) → State
  | [] => s
  | m :: r => State.unattributed (if s.loopOn m then s.raise (0x30 + m) 0x0A else s) r

/-- STG_FLT_N_ASSERTED (R103, R145, R146): the phases whose converter reads full scale in either of the first two
samples are attributed; with none, the fault stays unattributed and fences nothing. -/
def execStgFltNAsserted (full : BitVec 16) (s : State) : Host.Outcome State Fault Refusal :=
  done <| s.when s.engines fun s =>
    let named := (allFin 16).any (fun n => full.getLsbD n && s.phRole n != 0 && s.phState n != phFenced)
    let s := s.putB PE_STAT PE_STAT_STG_FLT true
    if named then s.attributeAll full (allFin 16)
    else (s.putB PE_STAT PE_STAT_FLT_UNATTR true).unattributed (allFin 4)

/-- The limit of a phase's current, in 10 mA (R143). -/
def State.phOcl (s : State) (m : Fin 4) : Int := (s.get (LOOP_PROT m) LOOP_PROT_PH_OCL * 200 : Nat)

/-- Sum of the newest samples of a loop's unfenced phases, in 10 mA (R129, R143). -/
def State.sampleSum (s : State) (m : Fin 4) : Int :=
  ((s.phasesOf m).filter (fun n => s.phState n != phFenced)).foldl (fun t n => t + s.phases[n].cur) 0

/-- A sum of a loop's newest samples is formed at the sample of its unfenced phase of the highest number (DESIGN CHOICE,
log 15): it lengthens the run above OCL or ends it (R143). -/
def State.sumTaken (s : State) (n : Fin 16) (m : Fin 4) : State :=
  if ((s.phasesOf m).filter (fun k => s.phState k != phFenced)).getLast? == some n then
    let high := decide ((s.get (LOOP_PROT m) LOOP_PROT_OCL * 100 : Nat) < s.sampleSum m)
    s.updLoop m (fun l => { l with ocSums := if high then l.ocSums + 1 else 0 })
  else s

/-- IMON_SAMPLE (R104, R135, R143, R145): a sample is checked for range, for phase overcurrent and for continued
stage-fault attribution. A fenced phase is sampled and its range checked, and no check of spec 06 heeds it (R129); a phase
that is not in use is not read (R460). -/
def execImonSample (n : Fin 16) (c : BitVec 10) (s : State) : Host.Outcome State Fault Refusal :=
  done <| s.when (s.engines && s.phRole n != 0) fun s =>
    let code := c.toNat
    let i := s.imonCurrent n code
    let s := if s.get (PH_IMON n) PH_IMON_GAIN = 0 then { s with freeCtr := s.freeCtr + 1 } else s
    let heeded := s.phState n != phFenced
    let beyond := heeded && decide (s.phOcl (s.loopOf n) < i)
    let full := code == 1023
    let stg := s.flag PE_STAT PE_STAT_STG_FLT
    let p := s.phases[n]
    let rng := (code == 0 || full) && !stg
    let s := s.updPhase n (fun p =>
      { p with code := code, cur := i, sum := p.sum + code, num := p.num + 1,
               peak := if p.num = 0 || p.peak < i then i else p.peak,
               ocRun := if beyond then p.ocRun + 1 else 0, fullRun := if full && heeded then p.fullRun + 1 else 0,
               ocHold := if beyond then 2 else p.ocHold, firing := p.firing && !beyond, cut := p.cut || p.firing && beyond,
               ocSaid := p.ocSaid || beyond, rngSaid := p.rngSaid || rng })
    let s := if rng then
        let t := s.putB (PH_STAT n) PH_STAT_IMON_RANGE true
        if p.rngSaid then t else t.raise (0x20 + n) 0x06
      else s
    let s := if beyond then
        let t := s.putB (PH_STAT n) PH_STAT_OC true
        if p.ocSaid then t else t.raise (0x20 + n) 0x02
      else s
    (if stg && full && p.fullRun ≥ 1 then s.attribute n else s).sumTaken n (s.loopOf n)

/-- PERSISTENT_PHASE_OVERCURRENT (R143): 8 consecutive samples above PH_OCL fence the phase. -/
def execPersistentPhaseOvercurrent (n : Fin 16) (s : State) : Host.Outcome State Fault Refusal :=
  done <| s.when (s.engines && decide (8 ≤ s.phases[n].ocRun)) fun s => s.fencePhase n

/-! ### Loop protections (R143, R144) -/

/-- LOOP_OVERCURRENT (R143): 4 consecutive sums above OCL stop the loop. -/
def execLoopOvercurrent (m : Fin 4) (s : State) : Host.Outcome State Fault Refusal :=
  done <| s.when (s.engines && s.loops[m].run != .off &&
      decide (4 ≤ s.loops[m].ocSums)) fun s =>
    (s.raise (0x30 + m) 0x03).loopStop m

/-- LOOP_OVERVOLTAGE (R143): the outputs are held low for 10 µs; EN reads 0 and PG is cleared. -/
def execLoopOvervoltage (m : Fin 4) (s : State) : Host.Outcome State Fault Refusal :=
  done <| s.when (s.analog && s.loops[m].run != .off && s.loops[m].ovArmed) fun s =>
    ((s.raise (0x30 + m) 0x01).loopStop m).updLoop m (fun l => { l with ovHold := true, stgEnFall := false })

/-- OVERVOLTAGE_HOLD_END (R143, R102): the outputs go to high impedance, and STG_EN falls 1 µs later. -/
def execOvervoltageHoldEnd (m : Fin 4) (s : State) : Host.Outcome State Fault Refusal :=
  done <| s.when (s.inRun && s.loops[m].ovHold) fun s =>
    s.updLoop m (fun l => { l with ovHold := false, stgEnFall := l.stgEn })

/-- LOOP_UNDERVOLTAGE (R143): PG is cleared and regulation continues. -/
def execLoopUndervoltage (m : Fin 4) (s : State) : Host.Outcome State Fault Refusal :=
  done <| s.when (s.analog && s.loops[m].run == .on && s.loops[m].pgOnce && !s.flag (LOOP_STAT m) LOOP_STAT_RAMP) fun s =>
    ((s.raise (0x30 + m) 0x02).losePG m).updLoop m (fun l => { l with pgRun := 0 })

/-! ### All-phases-fire (R134 to R138) -/

/-- Every eligible phase of some fires; a shedding one returns to active (R128, R134). -/
def State.fire (s : State) (armShed : Bool) : List (Fin 16) → State
  | [] => s
  | n :: r =>
    let st := s.phState n
    let s :=
      if st == phActive || st == phShedding then
        (s.setPh n phActive).updPhase n (fun p => { p with firing := true, cut := false, shedJ := 0 })
      else if st == phShed && armShed then s.updPhase n (fun p => { p with firing := true, cut := false })
      else s
    State.fire s armShed r

/-- UNDERSHOOT_TRIP (R134, R138, R151): every eligible phase fires; a brake ends; shed phases are to join. The
comparator stays armed while MAIN is stopped (R54). -/
def execUndershootTrip (m : Fin 4) (s : State) : Host.Outcome State Fault Refusal :=
  done <| s.when (s.power == .run && !s.clk.bothLost && s.clk.inForce && s.loops[m].run == .on && s.loops[m].pgOnce &&
      s.flag (LOOP_CTL m) LOOP_CTL_APF_EN && !s.flag (LOOP_STAT m) LOOP_STAT_APF && !s.loops[m].rearmWait) fun s =>
    let l := s.phasesOf m
    let braking := s.flag (LOOP_STAT m) LOOP_STAT_BRAKE
    let shed := l.any (fun n => s.phState n == phShed)
    let s := (s.putB (LOOP_STAT m) LOOP_STAT_BRAKE false).putB (LOOP_STAT m) LOOP_STAT_APF true
    let s := s.updLoop m (fun x =>
      let x := if braking then { x with e1 := 0, e2 := 0, e3 := 0 } else x
      { x with fires := x.fires + 1, join := x.join || shed, disturbed := true, shedRun := 0 })
    (s.fire (s.flag (LOOP_APF m) LOOP_APF_ARM_SHED) l).reslot m

/-- The fire of each phase of some ends: a fired phase in the interleave, cut short or not, and a spare that came in during
the fire hold low until their own edge (R136, R151). -/
def State.fireOver (s : State) : List (Fin 16) → State
  | [] => s
  | n :: r =>
    let act := s.phState n == phActive
    State.fireOver (s.updPhase n (fun p => { p with postFire := (p.fired || p.postFire) && act, firing := false, cut := false })) r

/-- FIRE_END (R132, R136): the history is preset, the re-shed hold-off starts and control returns. -/
def execFireEnd (m : Fin 4) (s : State) : Host.Outcome State Fault Refusal :=
  done <| s.when (s.power == .run && !s.clk.bothLost && s.flag (LOOP_STAT m) LOOP_STAT_APF) fun s =>
    let y := s.clampY m (s.loops[m].y1 + (s.get (LOOP_APF m) LOOP_APF_IPRE * 2 ^ s.dsh m * 16 : Nat))
    let hold := s.clk.frames + 500 * (s.get (LOOP_SHED m) LOOP_SHED_HOLD + 1)
    let s := s.updLoop m (fun l =>
      { l with e1 := 0, e2 := 0, e3 := 0, y1 := y, y2 := y, y3 := y, rearmWait := true, holdoff := some hold })
    (s.putB (LOOP_STAT m) LOOP_STAT_APF false).fireOver (s.phasesOf m)

/-- UNDERSHOOT_REARM (R137): the sense voltage has stood above the reference less UTH / 2 for `above` steps, and the fire
ended `since` steps ago; both are a switching period or more. -/
def execUndershootRearm (m : Fin 4) (above since : BitVec 20) (s : State) : Host.Outcome State Fault Refusal :=
  done <| s.when (s.inRun && s.loops[m].rearmWait && !s.flag (LOOP_STAT m) LOOP_STAT_APF &&
      decide (s.loops[m].per ≤ above.toNat ∧ s.loops[m].per ≤ since.toNat)) fun s =>
    s.updLoop m (fun l => { l with rearmWait := false })

/-- Each shed phase of some joins the interleave (R128, R138). -/
def State.unshed (s : State) : List (Fin 16) → State
  | [] => s
  | n :: r => State.unshed (if s.phState n == phShed then s.setPh n phActive else s) r

/-- SHED_PHASES_JOIN (R128, R138): at the first tick after a fire every shed phase joins and the phases are
re-spaced. -/
def execShedPhasesJoin (m : Fin 4) (s : State) : Host.Outcome State Fault Refusal :=
  done <| s.atTick (s.engines && s.loops[m].join && !s.flag (LOOP_STAT m) LOOP_STAT_APF) fun s =>
    (((s.updLoop m (fun l => { l with join := false })).unshed (s.phasesOf m)).disturb m).reslot m

/-- RESHED_HOLDOFF_END (R132). -/
def execReshedHoldoffEnd (m : Fin 4) (s : State) : Host.Outcome State Fault Refusal :=
  done <| s.when (s.inRun && (match s.loops[m].holdoff with | some f => decide (f ≤ s.clk.frames) | none => false)) fun s =>
    s.updLoop m (fun l => { l with holdoff := none })

/-! ### Braking (R139, R140) -/

/-- BRAKE_START (R139): a loop ADC code at or above OTH releases the loop's switches, armed as the undershoot comparator
is; no brake during a fire (R151), nor within one switching period of the last one's end, `since` steps ago (R140). -/
def execBrakeStart (m : Fin 4) (code : BitVec 9) (since : BitVec 20) (s : State) : Host.Outcome State Fault Refusal :=
  done <| s.when (s.engines && s.loops[m].run == .on && s.loops[m].pgOnce && s.flag (LOOP_CTL m) LOOP_CTL_BRAKE_EN &&
      s.flag (LOOP_CTL m) LOOP_CTL_APF_EN && !s.flag (LOOP_STAT m) LOOP_STAT_APF && !s.flag (LOOP_STAT m) LOOP_STAT_BRAKE &&
      (!s.loops[m].braked || decide (s.loops[m].per ≤ since.toNat)) &&
      decide ((s.get (LOOP_BRAKE m) LOOP_BRAKE_OTH : Nat) ≤ code.toInt)) fun s =>
    ((s.putB (LOOP_STAT m) LOOP_STAT_BRAKE true).updLoop m (fun l => { l with disturbed := true, shedRun := 0 })).updEst
      (fun e => { e with braked := true })

/-- The ramp count of each shedding phase of some runs on through the periods of a brake (R131, R140). -/
def State.shedOn (s : State) (periods : Nat) : List (Fin 16) → State
  | [] => s
  | n :: r =>
    State.shedOn (if s.phState n == phShedding then s.updPhase n (fun p => { p with shedJ := p.shedJ + periods }) else s)
      periods r

/-- The brake ends after some switching periods: the error history is 0 and the y history is kept (R140). -/
def State.brakeOver (s : State) (m : Fin 4) (periods : Nat) : State :=
  ((s.putB (LOOP_STAT m) LOOP_STAT_BRAKE false).updLoop m (fun l => { l with e1 := 0, e2 := 0, e3 := 0, braked := true })).shedOn
    periods (s.phasesOf m)

/-- BRAKE_END (R140): a code at or below OTH / 2 ends the brake, in which `periods` switching periods began. -/
def execBrakeEnd (m : Fin 4) (code : BitVec 9) (periods : Fin 64) (s : State) : Host.Outcome State Fault Refusal :=
  done <| s.when (s.inRun && s.flag (LOOP_STAT m) LOOP_STAT_BRAKE &&
      decide (2 * code.toInt ≤ (s.get (LOOP_BRAKE m) LOOP_BRAKE_OTH : Nat))) fun s => s.brakeOver m periods

/-- BRAKE_TMAX (R140): the longest brake ends it, with ESN 0x30 + m code 0x05. -/
def execBrakeTmax (m : Fin 4) (periods : Fin 64) (s : State) : Host.Outcome State Fault Refusal :=
  done <| s.when (s.inRun && s.flag (LOOP_STAT m) LOOP_STAT_BRAKE) fun s => (s.brakeOver m periods).raise (0x30 + m) 0x05

/-! ### Shedding (R130, R131) -/

/-- PHASE_SHED (R128, R131): at the first tick after the ramp's last period the phase reads shed and N decreases. -/
def execPhaseShed (n : Fin 16) (s : State) : Host.Outcome State Fault Refusal :=
  let m := s.loopOf n
  done <| s.atTick (s.engines && s.phState n == phShedding &&
      decide (max 1 (s.get (LOOP_SHED m) LOOP_SHED_RAMP) ≤ s.phases[n].shedJ)) fun s =>
    let s := (s.setPh n phShed).updPhase n (fun p => { p with shedJ := 0, ton := 0 })
    (((s.raise (0x20 + n) 0x07).disturb m).updLoop m (fun l => { l with shedRun := 0 })).reslot m

/-! ### Imbalance (R141, R142) -/

/-- The phase's run has reached FILT. -/
def State.imbReached (s : State) (m : Fin 4) (n : Fin 16) : Bool :=
  decide (max 1 (s.get (LOOP_IMB m) LOOP_IMB_FILT) ≤ s.phases[n].imbRun)

/-- No other phase of the loop that has reached FILT deviates more (R142; of equals the lower number). -/
def State.imbWorst (s : State) (m : Fin 4) (n : Fin 16) : Bool :=
  (s.phasesOf m).all (fun k => k == n || !s.imbReached m k || s.phases[k].imbDev < s.phases[n].imbDev ||
    (s.phases[k].imbDev == s.phases[n].imbDev && n.val < k.val))

/-- The runs that have reached FILT are held, but for the phase acted on (R142). -/
def State.imbHold (s : State) (m : Fin 4) (n : Fin 16) : List (Fin 16) → State
  | [] => s
  | k :: r =>
    State.imbHold (if k != n && s.phState k == phActive && s.imbReached m k then
      s.updPhase k (fun p => { p with imbHeld := true }) else s) m n r

/-- IMBALANCE (R141, R142): IMB is set and raised once per run; with ACT and an unfenced spare the phase with the
largest deviation is fenced, one of a loop at a tick, and the runs of the others are held. -/
def execImbalance (n : Fin 16) (s : State) : Host.Outcome State Fault Refusal :=
  let m := s.loopOf n
  done <| s.atTick (s.engines && s.phState n == phActive && s.imbReached m n) fun s =>
    let s := if s.phases[n].imbSaid then s else
      ((s.putB (PH_STAT n) PH_STAT_IMB true).raise (0x20 + n) 0x03).updPhase n (fun p => { p with imbSaid := true })
    if !s.flag (LOOP_IMB m) LOOP_IMB_ACT || (s.sparesOf m).isEmpty then s.updPhase n (fun p => { p with imbHeld := false })
    else if s.loops[m].imbAt == some s.clk.frames || !s.imbWorst m n then s
    else ((s.updLoop m (fun l => { l with imbAt := some s.clk.frames })).imbHold m n (s.phasesOf m)).fencePhase n

/-! ### Fencing and substitution (R147 to R150) -/

/-- A write of 1 to PH_CTL.FENCE (R147). -/
def State.fenceWrite (s : State) (n : Fin 16) : State := (s.putB (PH_CTL n) PH_CTL_FENCE true).fencePhase n

/-- FENCE (R147). -/
def execFence (n : Fin 16) (s : State) : Host.Outcome State Fault Refusal :=
  done <| s.when s.inRun fun s => s.fenceWrite n

/-- SUBST_REQ (R150): a spare is asked for, to take the slot at the next tick. -/
def execSubstReq (n : Fin 16) (s : State) : Host.Outcome State Fault Refusal :=
  done <| s.when s.inRun fun s =>
    s.updPhase n (fun p => { p with substReq := true, askAt := s.clk.frames, substIgn := false })

/-- A spare takes the position of a phase, in a state (R128, R148, R151): the one the phase held when it was fenced, also
where the loop has stopped since (DESIGN CHOICE, log 15). -/
def State.bringIn (s : State) (m : Fin 4) (spare : Fin 16) (pos st : Nat) : State :=
  let apf := s.flag (LOOP_STAT m) LOOP_STAT_APF
  let s := (s.setPh spare (if st == phShedding then phActive else st)).updPhase spare (fun p =>
    { p with pos := pos, postFire := apf, shedJ := 0, imbRun := 0, imbSaid := false })
  (s.putB (PH_STAT spare) PH_STAT_SUBST true).raise (0x20 + spare) 0x05

/-- Each fenced phase of some, in slot order, gets the lowest spare; with none its slot is closed (R148, R149). -/
def State.substClaims (s : State) (m : Fin 4) : List (Fin 16) → State
  | [] => s
  | n :: r =>
    match s.phases[n].claim with
    | none => State.substClaims s m r
    | some st =>
      let s := s.updPhase n (fun p => { p with claim := none })
      let s := match s.sparesOf m with
        | k :: _ => s.bringIn m k s.phases[n].pos st
        | [] => s.raise (0x30 + m) 0x06
      State.substClaims s m r

/-- A requested substitution is ignored (R150). -/
def State.substIgnored (s : State) (n : Fin 16) : State :=
  (s.updPhase n (fun p => { p with substIgn := true })).raise 0x37 0x03 n

/-- Each requested substitution of some is honoured, or ignored with ESN 0x37 code 0x03 (R150). Two requests of one tick
are served in order of POS, and the phase that the first made a spare may serve the second (DESIGN CHOICE, log 15). -/
def State.substReqs (s : State) (m : Fin 4) : List (Fin 16) → State
  | [] => s
  | n :: r =>
    if !s.phases[n].substReq then State.substReqs s m r
    else
      let s := s.updPhase n (fun p => { p with substReq := false })
      let s := match s.sparesOf m with
        | k :: _ =>
          if s.phState n == phActive then
            let s := s.bringIn m k s.phases[n].pos phActive
            let s := (s.setPh n phSpare).putB (PH_STAT n) PH_STAT_SUBST false
            s.updPhase n (fun p => { p with pos := s.get (PH_CFG n) PH_CFG_POS, firing := false, cut := false, postFire := false })
          else s.substIgnored n
        | [] => s.substIgnored n
      State.substReqs s m r

/-- The phases of a loop, the one of lower POS first. -/
def State.byPos (s : State) (m : Fin 4) : List (Fin 16) := (s.phasesOf m).foldl (fun l n => insertPos s n l) []

/-- The phases fenced, or for which a spare was asked, before the present tick (R148, R150); a request may name a phase
that is not in use. -/
def State.askers (s : State) (m : Fin 4) : List (Fin 16) :=
  (allFin 16).filter (fun n => s.phLoop n == m.val && (s.phases[n].claim != none || s.phases[n].substReq) &&
    decide (s.phases[n].askAt < s.clk.frames))

/-- SUBSTITUTION (R148 to R150): at the tick after a fence or request the lowest unfenced spare takes the slot, or the
slot is closed, the phase of lower POS first (R149); a fence is served before a request. -/
def execSubstitution (m : Fin 4) (s : State) : Host.Outcome State Fault Refusal :=
  done <| s.atTick (s.engines && !(s.askers m).isEmpty) fun s =>
    let l := (s.askers m).foldl (fun l n => insertPos s n l) []
    ((((s.substClaims m l).substReqs m l).disturb m).updLoop m (fun x => { x with shedRun := 0 })).reslot m

/-! ### DLL (R117) -/

/-- DLL_CAL_FAIL (R117): the 50th consecutive failure, once per run of failures. -/
def execDllCalFail (s : State) : Host.Outcome State Fault Refusal :=
  done <| s.when (s.engines && decide (50 ≤ s.get DLL_STAT DLL_STAT_FAIL_CNT) && !s.pe.dllSaid) fun s =>
    ({ s with pe := { s.pe with dllSaid := true } }.putB DLL_STAT DLL_STAT_CAL_FAIL true).raise 0x36 0

end Sys2Proof.Machine
end

