-- ==== Sys2Proof/Machine/Faults.lean ====
section
/-! DEFINITION. The fault collector: clearing and forcing sticky bits, the reaction window, fences by monitor event and
writes of its registers (spec 13 R310 to R326). Raises themselves are in Ops. -/
namespace Sys2Proof.Machine
open Sys2Proof

/-! ### Clearing and forcing (R312, R313) -/

/-- A write of 1 to the sticky bit of an ESN is ignored: the fault is fatal, or its monitor event stands. -/
def State.clearIgnored (s : State) (n : Nat) : Bool :=
  decide (2 ≤ s.get (FLT_INFO n) FLT_INFO_CLS) ||
  (decide (0xA0 ≤ n) && s.flag (MEV_STAT ((n - 0xA0) / 32)) (bitF ((n - 0xA0) % 32)))

/-- The sticky bit of an ESN is cleared (R312), and with it its acknowledge bit (R405). -/
def State.clearOne (s : State) (n : Nat) : State :=
  if s.clearIgnored n then s
  else
    let s := s.putB (FLT_STICKY (n / 32)) (bitF (n % 32)) false
    let s := s.wr (FLT_INFO n) (setF (setF (setF (s.rd (FLT_INFO n)) FLT_INFO_COUNT 0) FLT_INFO_CLS 0) FLT_INFO_FORCED 0)
    { s with acks := s.acks.filter (fun k => k ≠ n) }

/-- A write of a mask to FLT_STICKY[w] (R312). -/
def State.stickyClear (s : State) (w : Fin 8) (mask : Word) : State :=
  (List.range 32).foldl (fun s b => if mask.getLsbD b then s.clearOne (32 * w + b) else s) s

/-- STICKY_CLEAR (R312). -/
def execStickyClear (w : Fin 8) (mask : Word) (s : State) : Host.Outcome State Fault Refusal :=
  done <| s.when s.inRun fun s => s.stickyClear w mask

/-- The clock mark of a forced raise of ESN 0x94 (R357); what its cause byte holds is open (log 2). -/
def State.forceMark (s : State) (n : Nat) : State :=
  if n = 0x94 then s.free.2.addMark (s.clockMark 0x94 0xFF (s.free.1.toNat % 256) (s.calendar / 256)) else s

/-- A forced raise of an ESN; of a reserved one it is ignored (R313). -/
def State.forceRaise (s : State) (n : Nat) : State :=
  if esnReserved n then s else (s.raiseWith n 0xFF 0 [] true).forceMark n

/-- A write of a mask to FLT_FORCE[w] (R313). -/
def State.forceAll (s : State) (w : Fin 8) (mask : Word) : State :=
  (List.range 32).foldl (fun s b => if mask.getLsbD b then s.forceRaise (32 * w + b) else s) s

/-! ### The reaction window (R315, R316) -/

/-- A raise of the window carries a code that FCODES selects. -/
def State.selected (s : State) (r : WinRaise) : Bool :=
  let f := s.get (FLT_CFG r.esn) FLT_CFG_FCODES
  r.forced || f = 0 || r.codes.any (fun c => decide (1 ≤ c ∧ c ≤ 12) && f.testBit (c - 1))

/-- FAULT is requested where the configuration or a fatal class asks for it (R315). -/
def State.reactFault (s : State) (r : WinRaise) : State :=
  if (s.flag (FLT_CFG r.esn) FLT_CFG_FAULT_EN && s.selected r) || 2 ≤ r.cls then
    s.startFault (s.get (FLT_CFG r.esn) FLT_CFG_LABEL) 0 r.esn
  else s

/-- The unit that MEV_FENCE names is fenced (R316): a rail at the tick that ends the frame, a phase at once. -/
def State.reactFence (s : State) (r : WinRaise) : State :=
  if 0xA0 ≤ r.esn && (r.forced || r.codes.any (fun c => decide (1 ≤ c ∧ c ≤ 4))) then
    let m := r.esn - 0xA0
    let t := s.get (MEV_FENCE m) MEV_FENCE_TARGET
    match s.get (MEV_FENCE m) MEV_FENCE_KIND with
    | 1 => { s with flt := { s.flt with fenced := s.flt.fenced ++ [t] } }
    | 2 => if h : t < 16 then s.fenceWrite ⟨t, h⟩ else s
    | _ => s
  else s

/-- One notice to each port that NOTE names (R315); the raise of a collapse queues none to its own port (R395). -/
def State.reactNote (s : State) (r : WinRaise) : State :=
  allPorts.foldl (fun s p =>
    if (s.get (FLT_CFG r.esn) FLT_CFG_NOTE).testBit p.idx then
      let cs := if r.esn = portEsn p then r.codes.filter (fun c => c ≠ 4) else r.codes
      match cs with
      | [] => s
      | c :: _ => s.notify p r.esn c cs.length
    else s) s

/-- The actions on one ESN (R315). -/
def State.react (s : State) (r : WinRaise) : State := ((s.reactFault r).reactFence r).reactNote r

/-- FAULT_REACTION (R58, R315): at the end of a frame's contexts, once for each ESN raised since the last window; a raise
made meanwhile waits for the next. The starts of the frame are settled with it. -/
def execFaultReaction (s : State) : Host.Outcome State Fault Refusal :=
  done <| s.when (s.engines && s.clk.stage == .contexts) fun s =>
    (s.flt.window.foldl State.react
      { s with flt := { s.flt with window := [] }, clk := { s.clk with stage := .reacted } }).tellFault

/-! ### VREG supervision (R323) -/

/-- VREG_OUT_OF_RANGE: VREG3 (false) or the enabled VREG5 (true) outside its window for 10 µs. -/
def execVregOutOfRange (vreg5 : Bool) (s : State) : Host.Outcome State Fault Refusal :=
  done <| s.when (s.inRun && s.clk.inForce) fun s => s.raise (if vreg5 then 0x06 else 0x05) 0

/-! ### Writes (R326) -/

/-- A word that MEV_FENCE or FLT_CFG ignores. -/
def fenceWordBad (w : Word) : Bool :=
  let t := getF w MEV_FENCE_TARGET
  match getF w MEV_FENCE_KIND with
  | 1 => (match railOf t with
    | none => true
    | some (.ext k) => decide (16 ≤ k.val)
    | some _ => false)
  | 2 => decide (15 < t)
  | 3 => true
  | _ => false

def isMevFence (a : Nat) : Bool := decide (MEV_FENCE 0 ≤ a ∧ a < MEV_FENCE 96)
def isFltCfg (a : Nat) : Bool := decide (FLT_CFG 0 ≤ a ∧ a < FLT_CFG 256)

/-- A word that the collector ignores at an address (R326). -/
def fltWordBad (a : Nat) (w : Word) : Bool := (isMevFence a && fenceWordBad w) || (isFltCfg a && getF w FLT_CFG_CLASS = 3)

/-- A protected write of a collector register, given the word it would hold (R326). -/
def State.faultWrite (s : State) (a : Nat) (w : Word) : State := if fltWordBad a w then s.raise 0x86 6 else s.wr a w

end Sys2Proof.Machine
end

