-- ==== Sys2Proof/Machine/Feeds.lean ====
section
/-! DEFINITION. Feeds, the power path and brown-out (spec 08 R175 to R184). -/
namespace Sys2Proof.Machine
open Sys2Proof

def State.feedState (s : State) (x : Nat) : Nat := s.get (FEED_STAT x) FEED_STAT_STATE
def State.feedIsQual (s : State) (x : Nat) : Bool := s.feedState x == feedQualified
def State.anyQualified (s : State) : Bool := s.feedIsQual 0 || s.feedIsQual 1

/-! ### Thresholds, as the last tick put them in force (R60, R176, R179, R183) -/

/-- FEED_UV and FEED_OV in mV, and the UV deglitch in µs (R176). -/
def State.feedUv (s : State) (x : Fin 2) : Nat := 14000 + 500 * min 12 (s.latchedF (FEED_CFG x) FEED_CFG_UV)
def State.feedOv (s : State) (x : Fin 2) : Nat := 33000 + 500 * min 24 (s.latchedF (FEED_CFG x) FEED_CFG_OV)
def State.deglitch (s : State) (x : Fin 2) : Nat := 5 + min 20 (s.latchedF (FEED_CFG x) FEED_CFG_UV_T)

/-- The feed stands in the window in which it is taken up (R176). -/
def State.feedInWindow (s : State) (x : Fin 2) : Bool :=
  let v := s.get (FEED_V x) FEED_V_V
  decide (s.feedUv x + 1000 ≤ v ∧ v + 1000 ≤ s.feedOv x)

/-- The current, in µA, at which a gate that turns on is raised (R179). -/
def State.gateCurrent (s : State) (x : Fin 2) : Nat := 10 * min 20 (max 1 (s.latchedF (FEED_CFG x) FEED_CFG_INRUSH))

/-- The BOW threshold in mV (R183). -/
def State.bowLevel (s : State) : Nat := 12000 + 500 * min 16 (s.latchedF PATH_CFG PATH_CFG_BOW_TH)

/-- The gate is off and the feed has a state. -/
def State.feedOff (s : State) (x : Fin 2) (st : Nat) : State :=
  (s.put (FEED_STAT x) FEED_STAT_STATE st).putB (FEED_STAT x) FEED_STAT_GATE_ON false

/-- With no feed qualified the hand-over begins: gates off, BOW armed; from RETURNING the arming goes on (R180, R183). -/
def State.handOver (s : State) : State :=
  if (s.path == pathOnFeed || s.path == pathReturning) && !s.anyQualified then
    (((s.put PATH_STAT PATH_STAT_PATH pathHandover).putB PATH_STAT PATH_STAT_BOW_ARMED true).updChg (fun c =>
      { c with bowDone := c.bowDone && s.flag PATH_STAT PATH_STAT_BOW_ARMED, handAt := s.clk.frames })).updEst (fun e =>
      { e with braked := true })
  else s

/-- Milliseconds of a count of seconds that acts as at least 1. -/
def secMs (n : Nat) : Nat := 1000 * max 1 n

/-- Operating times of a feed's disqualifications within DISQ_WIN, the present one last (R178). -/
def State.disqTimes (s : State) (x : Fin 2) : List Nat :=
  s.feeds[x].disqs.filter (fun t => decide (s.opt.ms ≤ t + secMs (s.latchedF PATH_CFG PATH_CFG_DISQ_WIN))) ++ [s.opt.ms]

/-- A disqualification now is the DISQ_MAXth in the window (R177, R178). -/
def State.quarantines (s : State) (x : Fin 2) : Bool :=
  decide (max 2 (s.latchedF PATH_CFG PATH_CFG_DISQ_MAX) ≤ (s.disqTimes x).length)

/-- A disqualification with its flag and code; the DISQ_MAXth in the window quarantines (R177, R178). -/
def State.disqualify (s : State) (x : Fin 2) (flag : Fld) (code : Nat) : State :=
  let l := s.disqTimes x
  let quar := s.quarantines x
  let s := s.updFeed x (fun f => { f with disqs := l })
  let s := ((s.feedOff x (if quar then feedQuarantined else feedAbsent)).put (FEED_STAT x) FEED_STAT_DISQ
    (min 15 l.length)).putB (FEED_STAT x) flag true
  let s := s.raise (0x48 + x) code
  let s := if quar then
      let q := secMs (s.latchedF PATH_CFG PATH_CFG_QUAR_T)
      (((s.updFeed x (fun f => { f with quarEnd := s.opt.ms + q })).putB (FEED_STAT x) FEED_STAT_QUAR true).put
        (FEED_STAT x) FEED_STAT_QUAR_LEFT (q / 1000)).raise (0x48 + x) 5
    else s
  s.handOver

/-- FEED_WINDOW_ENTRY (R176, R177): a feed in its window at a tick starts qualifying. -/
def execFeedWindowEntry (x : Fin 2) (s : State) : Host.Outcome State Fault Refusal :=
  done <| s.atTick (s.engines && s.feedState x == feedAbsent && s.flag (FEED_CFG x) FEED_CFG_EN &&
      s.feedInWindow x) fun s =>
    (s.put (FEED_STAT x) FEED_STAT_STATE feedQualifying).updFeed x (fun f => { f with qualAt := s.clk.frames })

/-- FEED_QUALIFIED (R177, R180, R260): FEED_QUAL ms in its window. -/
def execFeedQualified (x : Fin 2) (s : State) : Host.Outcome State Fault Refusal :=
  done <| s.atTick (s.engines && s.feedState x == feedQualifying &&
      decide (s.feeds[x].qualAt + 50 * max 1 (s.latchedF PATH_CFG PATH_CFG_FEED_QUAL) ≤ s.clk.frames)) fun s =>
    let s := (s.put (FEED_STAT x) FEED_STAT_STATE feedQualified).putB (FEED_STAT x) FEED_STAT_GATE_ON true
    let s := (s.updFeed x (fun f => { f with lagRun := 0 })).raise (0x48 + x) 1
    let s := if s.path = pathOnBattery then s.put PATH_STAT PATH_STAT_PATH pathReturning else s
    s.downAbort

/-- The feed qualifies or is qualified. -/
def State.feedIn (s : State) (x : Fin 2) : Bool := s.feedState x == feedQualifying || s.feedIsQual x

/-- A feed leaves its window: it is disqualified at once; while MAIN is stopped its gate goes off in analogue and the
disqualification is taken at the first tick after MAIN runs (R177, R197). -/
def State.feedLeaves (s : State) (x : Fin 2) (flag : Fld) (code : Nat) : State :=
  if s.clk.stopped then
    (s.putB (FEED_STAT x) FEED_STAT_GATE_ON false).updFeed x (fun f => { f with gone := f.gone.or (some code) })
  else s.disqualify x flag code

/-- FEED_UV_DISQUALIFICATION (R176, R177): the feed has stood at `v` mV, below FEED_UV, for `t` µs. -/
def execFeedUvDisqualification (x : Fin 2) (v : BitVec 16) (t : BitVec 8) (s : State) : Host.Outcome State Fault Refusal :=
  done <| s.when (s.analog && s.feedIn x && decide (v.toNat < s.feedUv x ∧ s.deglitch x ≤ t.toNat)) fun s =>
    s.feedLeaves x FEED_STAT_UV 2

/-- FEED_OV_CUTOFF (R46, R176, R177): the feed rises to `v` mV, above FEED_OV. -/
def execFeedOvCutoff (x : Fin 2) (v : BitVec 16) (s : State) : Host.Outcome State Fault Refusal :=
  done <| s.when (s.analog && s.feedIn x && decide (s.feedOv x < v.toNat)) fun s => s.feedLeaves x FEED_STAT_OV 3

/-- INRUSH_FAILED (R179): FEEDBUS has stayed more than 1 V below the feed for 100 ms (5,000 ticks) with the gate on. -/
def execInrushFailed (x : Fin 2) (s : State) : Host.Outcome State Fault Refusal :=
  done <| s.when (s.engines && s.feedIsQual x && decide (5000 ≤ s.feeds[x].lagRun)) fun s =>
    s.disqualify x FEED_STAT_INRUSH 4

/-- QUARANTINE_END (R177). -/
def execQuarantineEnd (x : Fin 2) (s : State) : Host.Outcome State Fault Refusal :=
  done <| s.when (s.engines && s.feedState x == feedQuarantined && decide (s.feeds[x].quarEnd ≤ s.opt.ms)) fun s =>
    let s := ((s.feedOff x feedAbsent).put (FEED_STAT x) FEED_STAT_DISQ 0).put (FEED_STAT x) FEED_STAT_QUAR_LEFT 0
    (s.updFeed x (fun f => { f with disqs := [] })).raise (0x48 + x) 6

/-- EN of a feed written 0: gate off, ABSENT, not counted (R177). -/
def State.feedDisable (s : State) (x : Fin 2) : State :=
  ((s.feedOff x feedAbsent).put (FEED_STAT x) FEED_STAT_QUAR_LEFT 0).handOver

/-- FEED_DISABLE (R177): the write has reached FEED_CFG. -/
def execFeedDisable (x : Fin 2) (s : State) : Host.Outcome State Fault Refusal :=
  done <| s.when s.inRun fun s => (s.putB (FEED_CFG x) FEED_CFG_EN false).feedDisable x

/-- REVERSE_BLOCKING (R175): no feed state changes; REV shows it for the frame. -/
def execReverseBlocking (x : Fin 2) (s : State) : Host.Outcome State Fault Refusal :=
  done <| s.when (s.power == .run && s.feedIsQual x) fun s => s.updFeed x (fun f => { f with revSeen := true })

/-- ON_BATTERY_DECLARED (R180, R182). -/
def execOnBatteryDeclared (s : State) : Host.Outcome State Fault Refusal :=
  done <| s.atTick (s.engines && s.path == pathHandover && decide (s.chg.handAt < s.clk.frames)) fun s =>
    let s := (s.put PATH_STAT PATH_STAT_PATH pathOnBattery).bump PATH_STAT PATH_STAT_HANDOVERS
    (s.putB CHG_STAT CHG_STAT_SUSP true).raise 0x4A 0 (s.get PATH_STAT PATH_STAT_HANDOVERS)

/-- FEEDBUS lies within 1 V of the highest qualified feed, as latched (R180). -/
def State.busUp (s : State) : Bool :=
  let v (x : Fin 2) : Nat := if s.feedIsQual x then s.get (FEED_V x) FEED_V_V else 0
  let top := max (v 0) (v 1)
  let bus := s.get PATH_V PATH_V_FEEDBUS
  decide (top ≤ bus + 1000 ∧ bus ≤ top + 1000)

/-- RETURN_TO_FEED (R180, R182, R231, R346): FEEDBUS stands within 1 V of the highest qualified feed. -/
def execReturnToFeed (s : State) : Host.Outcome State Fault Refusal :=
  done <| s.atTick (s.engines && s.path == pathReturning && s.busUp) fun s =>
    let s := (s.put PATH_STAT PATH_STAT_PATH pathOnFeed).putB PATH_STAT PATH_STAT_BOW_ARMED false
    let s := (s.chgResume.nvUnblock).raise 0x4B 0
    s.gaugeRetry s.gg.refused

/-- BOW_TRIP (R183, R346): the first crossing of an arming, with VSYS at `vsys` mV, below the threshold. -/
def execBowTrip (vsys : BitVec 16) (s : State) : Host.Outcome State Fault Refusal :=
  done <| s.when (s.power == .run && s.flag PATH_STAT PATH_STAT_BOW_ARMED && !s.chg.bowDone &&
      decide (vsys.toNat < s.bowLevel)) fun s =>
    (((s.updChg (fun c => { c with bowDone := true })).putB PATH_STAT PATH_STAT_BOW true).raise 0x4C 0).nvBlock

/-- Seconds left of a quarantine, rounded up. -/
def secLeft (until_ now : Nat) : Nat := (until_ - now + 999) / 1000

/-- The feeds that left their window while MAIN was stopped are disqualified (R197). -/
def State.feedsGone (s : State) : State :=
  (allFin 2).foldl (fun s x =>
    match s.feeds[x].gone with
    | some c =>
      let s := s.updFeed x (fun f => { f with gone := none })
      if s.feedIn x then s.disqualify x (if c = 2 then FEED_STAT_UV else FEED_STAT_OV) c else s
    | none => s) s

/-- The gate of a qualified feed that stands off, as after STANDBY, is turned on (R30, R175, R179). -/
def State.feedGates (s : State) : State :=
  (allFin 2).foldl (fun s (x : Fin 2) =>
    s.when (s.feedIsQual x && !s.flag (FEED_STAT x) FEED_STAT_GATE_ON) fun s =>
      (s.putB (FEED_STAT x) FEED_STAT_GATE_ON true).updFeed x (fun f => { f with lagRun := 0 })) s

/-- The path at a tick: its voltages, reverse blocking of the ended frame, quarantines, and the return that follows a
hand-over during which a feed qualified (R181). -/
def State.feedTick (s : State) (x : FrameIn) : State :=
  let s := s.wr PATH_V (setF (setF 0 PATH_V_VSYS x.vsys.toNat) PATH_V_FEEDBUS x.feedbus.toNat)
  let s := (s.put (FEED_V 0) FEED_V_V x.feedA.toNat).put (FEED_V 1) FEED_V_V x.feedB.toNat
  let s := (allFin 2).foldl (fun s k =>
    let s := s.putB (FEED_STAT k) FEED_STAT_REV s.feeds[k].revSeen
    let lags := s.flag (FEED_STAT k) FEED_STAT_GATE_ON && decide (x.feedbus.toNat + 1000 < s.get (FEED_V k) FEED_V_V)
    let s := s.updFeed k (fun f => { f with revSeen := false, lagRun := if lags then f.lagRun + 1 else 0 })
    if s.feedState k = feedQuarantined then s.put (FEED_STAT k) FEED_STAT_QUAR_LEFT (secLeft s.feeds[k].quarEnd s.opt.ms)
    else s) s
  let s := s.feedsGone.feedGates
  if s.path = pathOnBattery && s.anyQualified then s.put PATH_STAT PATH_STAT_PATH pathReturning else s

end Sys2Proof.Machine
end

