-- ==== Sys2Proof/Machine/Boot.lean ====
section
/-! DEFINITION. Burin's start: firmware images, the choice of the slot, the configuration image and its load, the cold
start and the restart (spec 04 R69 to R79; spec 18 R451 to R453; spec 03 R63, R64; spec 15 R372 to R377; spec 17 R409,
R411). -/
namespace Sys2Proof.Machine
open Sys2Proof

/-- SHA-256 of 32 zero bytes, which stands for what is absent (R75, R79). -/
def zeroDigest : List Byte := sha256 (List.replicate 32 0)

/-! ### Firmware images (R70) -/

/-- Offset of a firmware slot (R69). -/
def slotBase (slot : Nat) : Nat := 0x00100000 * slot

/-- A word of a slot's header. -/
def State.imgWord (s : State) (slot off : Nat) : Nat := memWord s.mram.cells (slotBase slot + off)

/-- Fields of the header (R70). -/
def State.imgVersion (s : State) (slot : Nat) : Nat := s.imgWord slot 0x08
def State.itcmLen (s : State) (slot : Nat) : Nat := s.imgWord slot 0x0C
def State.totalLen (s : State) (slot : Nat) : Nat := s.imgWord slot 0x10
def State.imgDigest (s : State) (slot : Nat) : List Byte := memRead s.mram.cells (slotBase slot + 0x20) 32

/-- The body of an image. -/
def State.imgBody (s : State) (slot : Nat) : List Byte := memRead s.mram.cells (slotBase slot + 0x40) (s.totalLen slot)

/-- The header's lengths and entries pass (R70). -/
def State.imgHeaderOk (s : State) (slot : Nat) : Bool :=
  s.imgWord slot 0 == 0xB0416416 && s.imgWord slot 4 == 1 && s.itcmLen slot % 64 == 0 &&
  decide (s.itcmLen slot ≤ 262144) && decide (s.itcmLen slot ≤ s.totalLen slot) && decide (s.totalLen slot ≤ 1048512) &&
  decide (s.imgWord slot 0x14 < s.itcmLen slot) && decide (s.imgWord slot 0x18 < s.itcmLen slot)

/-- The image of a slot is valid (R70). -/
def State.imageValid (s : State) (slot : Nat) : Bool :=
  s.imgHeaderOk slot && s.imgDigest slot == sha256 (s.imgBody slot)

/-! ### The slot (R77) -/

/-- The ROM has a boot-select record written; while the engine is blocked it waits (R341, R346). -/
def State.writeBoot (s : State) (slot : Nat) (trial : Bool) (attempts : Nat) : State :=
  (s.queueBoot .rom slot trial attempts).nvFirst

def otherSlot (slot : Nat) : Nat := 1 - slot

/-- What the choice of a slot ends in: the slot, its trial attempt (0: none), and whether the start rolled back. -/
structure Choice where
  slot    : Nat
  attempt : Nat
  back    : Bool
  deriving DecidableEq, Repr

/-- The first part of R77: a trial counts an attempt, or is rolled back after its third. Records that wait for the NV
engine are written before the ring is searched. -/
def State.trialChoice (s : State) : Choice × State :=
  let s := s.nvFirst
  let r := s.bootRec
  if !r.trial then (⟨r.slot, 0, false⟩, s)
  else if r.attempts = 3 then
    (⟨otherSlot r.slot, 0, true⟩, (s.writeBoot (otherSlot r.slot) false 0).raise 0x14 2)
  else (⟨r.slot, r.attempts + 1, false⟩, s.writeBoot r.slot true (r.attempts + 1))

/-- The second part: an invalid image gives way to the other slot. -/
def State.validChoice (s : State) (c : Choice) : Choice × State :=
  if s.imageValid c.slot then (c, s)
  else
    let s := s.raise 0x14 1 c.slot
    (⟨otherSlot c.slot, 0, c.back⟩, s.writeBoot (otherSlot c.slot) false 0)

/-- The ROM's choice of a slot and what BOOT_STAT shows of it (R77, R89). -/
def State.chooseSlotBoot (s : State) : Choice × State :=
  let a := s.trialChoice
  let b := a.2.validChoice a.1
  let c := b.1
  let s := ((((b.2.put BOOT_STAT BOOT_STAT_SLOT c.slot).putB BOOT_STAT BOOT_STAT_TRIAL (c.attempt != 0)).put
    BOOT_STAT BOOT_STAT_ATTEMPT c.attempt).putB BOOT_STAT BOOT_STAT_ROLLBACK c.back)
  let s := { s with proc := { s.proc with trialOpen := c.attempt != 0 } }
  (c, if c.attempt = 0 then s else s.raise 0x15 1 c.attempt)

/-! ### What the standard firmware and the ROM admit (R409, R411, R437) -/

/-- Codes of the commands that Burin handles, with their least classes (R416 to R436). -/
def admClasses : List (List Nat × Nat × Nat × Nat) :=
  [([0x00, 0x01, 0x11, 0x12, 0x13, 0x20, 0x21, 0x22, 0x23, 0x30, 0x31, 0x32, 0x33], 1, 2, 2),
   ([0x38, 0x39, 0x40, 0x41, 0x42, 0x48, 0x4A, 0x50, 0x53, 0x61, 0x62, 0x78, 0x79], 1, 2, 2),
   ([0x02, 0x03, 0x24, 0x52, 0x73], 2, 2, 3), ([0x04, 0x51, 0x60, 0x6A, 0x6B, 0x72], 3, 3, 3),
   ([0x68, 0x70, 0x80], 4, 4, 4), ([0x49, 0x69, 0x71], 2, 3, 3)]

/-- Codes that the ROM answers in recovery (R437). -/
def recoveryCodes : List Nat := [0x00, 0x60, 0x61, 0x62, 0x70, 0x71, 0x72, 0x73]

/-- The word of ADM_TAB for least classes. -/
def admWord (m0 m2 m3 : Nat) : Word :=
  setF (setF (setF (setF 0 ADM_TAB_MIN0 m0) ADM_TAB_MIN2 m2) ADM_TAB_MIN3 m3) ADM_TAB_VALID 1

/-- Entries of ADM_TAB written for some codes. -/
def State.admCodes (s : State) (w : Word) : List Nat → State
  | [] => s
  | c :: r => State.admCodes (s.wr (ADM_TAB c) w) w r

/-- ADM_TAB for the codes that `keep` allows. -/
def State.admRows (s : State) (keep : Nat → Bool) : List (List Nat × Nat × Nat × Nat) → State
  | [] => s
  | x :: r => State.admRows (s.admCodes (admWord x.2.1 x.2.2.1 x.2.2.2) (x.1.filter keep)) keep r

/-- What the firmware, or in recovery the ROM, loads before READY is written (R409, R411, R437). -/
def State.admLoad (s : State) (recovery : Bool) : State :=
  let s := s.admRows (fun c => !recovery || recoveryCodes.contains c) admClasses
  (s.wr ADM_CAP0 (setF (setF (setF (setF 0 ADM_CAP0_CAP0 96) ADM_CAP0_CAP1 12) ADM_CAP0_CAP2 16) ADM_CAP0_CAP3 8)).put
    ADM_CAP1 ADM_CAP1_CAP4 8

/-- A write of 1 to BOOT_STAT.READY (R81, R89). -/
def State.readyWrite (s : State) : State :=
  ((s.putB BOOT_STAT BOOT_STAT_READY true).putB PWR_STATE PWR_STATE_AUTON false).raise 0x15 3

/-! ### Steps 7 and 8 (R71, R79) -/

/-- Step 7: the image is measured and its ITCM part copied; with no valid image the ROM enters recovery. Answers whether
it does. -/
def State.loadImage (s : State) (slot : Nat) : Bool × State :=
  if s.imageValid slot then
    let s := s.extend 1 (sha256 (memRead s.mram.cells (slotBase slot) (0x40 + s.totalLen slot)))
    (false, { s with itcm := memWrite [] 0 ((s.imgBody slot).take (s.itcmLen slot)),
                     proc := { s.proc with fwVersion := s.imgVersion slot } })
  else
    let s := (s.extend 1 zeroDigest).raise 0x14 3
    (true, { s.putB BOOT_STAT BOOT_STAT_RECOVERY true with proc := { s.proc with fwVersion := 0, trialOpen := false } })

/-- Step 8: the watchdog's first period begins and Burin runs. In recovery the ROM writes READY itself (R79, R389). -/
def State.enterFirmware (s : State) (recovery : Bool) : State :=
  let s := { s with proc := { s.proc with mode := if recovery then .recovery else .firmware } }
  let s := s.wdStart.admLoad recovery
  if recovery then s.readyWrite else s

/-- The ROM begins, and the watchdog counts against its limit (R71, R73). -/
def State.enterRom (s : State) : State :=
  { s.updWd (fun w => { w with clocks := -s.clk.now }) with proc := { s.proc with mode := .rom } }

/-- Steps 4 and 7, and 8 where the ROM reaches it; where it does not, the ROM limit runs (R73). -/
def State.startBurin (s : State) (step8 : Bool) : State :=
  let s := s.enterRom
  let c := s.chooseSlotBoot
  let l := c.2.loadImage c.1.slot
  if step8 then l.2.enterFirmware l.1 else l.2

/-- What BOOT_STAT shows of the configuration in use. -/
def State.showCfg (s : State) : State :=
  (s.put BOOT_STAT BOOT_STAT_CFG_COPY (s.clk.cfgCopy.getD 0)).putB BOOT_STAT BOOT_STAT_CFG_NONE s.clk.cfgCopy.isNone

/-- D_PROC_RELEASE (R63, R72, R87): the 64 clocks of a D_PROC reset end. The command layers place the answers that tags
are owed and, unless Burin is fenced, the ROM runs steps 2, 4, 7 and 8. -/
def execDProcRelease (step8 : Bool) (ecc : List EccRead) (s : State) : Host.Outcome State Fault Refusal :=
  done <| s.when (s.inRun && !s.layers && (s.proc.mode == .held || s.proc.mode == .fenced)) fun s =>
    let s := { s with layers := true }.placeOwed
    if s.proc.mode == .fenced then s else (((s.eccFlip ecc).showCfg).startBurin step8).eccReads ecc

/-! ### The configuration image (R74, R75) -/

/-- Offset of a configuration copy (R69). -/
def cfgBase (copy : Nat) : Nat := 0x00200000 + 0x00040000 * copy

def State.cfgWord (s : State) (copy i : Nat) : Word := BitVec.ofNat 32 (memWord s.mram.cells (cfgBase copy + 4 * i))
def State.cfgSeq (s : State) (copy : Nat) : Nat := (s.cfgWord copy 1).toNat
def State.cfgLength (s : State) (copy : Nat) : Nat := (s.cfgWord copy 2).toNat

/-- A copy passes MAGIC, LENGTH and CRC (R74, R75). -/
def State.cfgHeaderOk (s : State) (copy : Nat) : Bool :=
  let n := s.cfgLength copy
  s.cfgWord copy 0 == 0xC0F16416 && decide (20 ≤ n) && decide (n ≤ 262144) &&
  (s.cfgWord copy 4).toNat == crc32 (memRead s.mram.cells (cfgBase copy + 20) (n - 20))

/-- The copies in the order in which the ROM takes them (R75). -/
def State.cfgOrder (s : State) : List Nat :=
  let l := [0, 1].filter s.cfgHeaderOk
  if l.length = 2 && serialGt (s.cfgSeq 1) (s.cfgSeq 0) then [1, 0] else l

/-- The digest of a copy. -/
def State.cfgDigest (s : State) (copy : Nat) : List Byte := sha256 (memRead s.mram.cells (cfgBase copy) (s.cfgLength copy))

/-! ### Entries (R451, R452) -/

/-- A word that one register must not be given by an image (R452): a reserved encoding, or a word that a write in service
would leave without effect. -/
def State.loadBad (s : State) (a : Nat) (d : RegDef) (ix : List Nat) (w : Word) : Bool :=
  let b := d.base
  if b = CLK_CFG then getF w CLK_CFG_SRC == 3 || getF w CLK_CFG_FRM_ROLE == 3
  else if b = PH_CFG 0 then getF w PH_CFG_ROLE == 3
  else if b = LOOP_CTL 0 then getF w LOOP_CTL_EN == 1
  else if b = LOOP_DSH 0 0 then decide (20 < getF w LOOP_DSH_DSH)
  else if b = REG_CTL 0 then getF w REG_CTL_EN == 1 || divBad (ix.getD 0 0) (getF w REG_CTL_DIV)
  else if b = CHG_CFG || b = CHG_SENSE then s.chgWriteBad a w
  else if b = ADC_SEQLEN then decide (64 < getF w ADC_SEQLEN_LEN0 ∨ 64 < getF w ADC_SEQLEN_LEN1)
  else if b = ADC_SEQ 0 0 then adcReserved (getF w ADC_SEQ_INPUT)
  else if b = TH_STG_VIN 0 then getF w TH_STG_VIN_SRC == 3
  else if b = TH_CHG_SPLIT then decide (100 < getF w TH_CHG_SPLIT_N34 + getF w TH_CHG_SPLIT_N35)
  else if b = STEP 0 then stepHeld w != w
  else if b = SEQ_LABEL 0 then decide (6143 < w.toNat)
  else if b = FLT_CFG 0 || b = MEV_FENCE 0 then fltWordBad a w
  else if b = WD_OWN 0 then ownBad w || (ix.getD 0 0 == 0 && getF w ⟨0, 3⟩ != 0)
  else if b = PLATE_CURSOR then decide (plateSlots ≤ getF w PLATE_CURSOR_SLOT)
  else if b = DL_CFG then
    getF w DL_CFG_ADDR == 0 || decide (247 < getF w DL_CFG_ADDR) || decide (5 ≤ getF w DL_CFG_BAUD) || getF w DL_CFG_PARITY == 3
  else if b = AUX_CFG then getF w AUX_CFG_SPEED == 3
  else false

/-- A register takes the word of an image: clamped where a write in service is clamped (R105, R154, R187, R328). -/
def State.loadStore (s : State) (a : Nat) (d : RegDef) (ix : List Nat) (w : Word) : State :=
  let b := d.base
  if b = LOOP_VSET 0 then (s.wr a w).loopCodeWrite (finOf 4 (ix.getD 0 0)) (getF w LOOP_VSET_CODE)
  else if b = REG_VSET 0 then
    let r := finOf 14 (ix.getD 0 0)
    s.wr a (setF w REG_VSET_CODE (if regKind r == .sw then 0 else min (getF w REG_VSET_CODE) (regKind r).top))
  else if b = REG_CTL 0 && decide (6 ≤ ix.getD 0 0) then s.wr a (setF w REG_CTL_DIV 0)
  else if blockOf a = some 7 then s.chgWrite a w
  else if b = WD_CFG then s.wdWrite a w
  else s.wr a w

/-- The load writes one register, or rejects the copy (R452). -/
def State.loadWrite (s : State) (a : Nat) (v : Word) : Option State :=
  match regAt a with
  | none => none
  | some (d, ix) =>
    let m := d.bits .rw ||| d.bits .rwl
    if d.dom != .dPwr || d.guard == .burin || a = SYS_UNLOCK || m == 0 || v &&& ~~~m != 0 then none
    else if d.bits .rwl != 0 && s.locked.contains a then none
    else
      let w := (s.rd a &&& ~~~m) ||| v
      if s.loadBad a d ix w then none else some ((s.loadStore a d ix w).lock a d)

/-- `n` values written to consecutive registers: those from word `i` of the copy on, or one value throughout. -/
def loadRun (w : Nat → Word) (fill : Bool) : Nat → Nat → Nat → State → Option State
  | 0, _, _, s => some s
  | n + 1, i, a, s =>
    match s.loadWrite a (w i) with
    | some s => loadRun w fill n (if fill then i else i + 1) (a + 4) s
    | none => none

/-- The chemistry data of a DATA item (R219, R453). -/
def dataWords (w : Nat → Word) : Nat → Nat → List Word
  | 0, _ => []
  | n + 1, i => w i :: dataWords w n (i + 1)

/-- The entries from word `i` to the END at word `last` (R451); the fuel is the number of words. -/
def loadEntries (w : Nat → Word) (last : Nat) : Nat → Nat → State → Option State
  | 0, _, _ => none
  | f + 1, i, s =>
    let h := w i
    let n := getF h ⟨0, 16⟩
    match getF h ⟨28, 4⟩ with
    | 0 => if h == 0 && i == last then some s else none
    | 1 =>
      if n = 0 || getF h ⟨16, 12⟩ ≠ 0 || last ≤ i + 1 + n then none
      else match loadRun w false n (i + 2) (w (i + 1)).toNat s with
        | some s => loadEntries w last f (i + 2 + n) s
        | none => none
    | 2 =>
      if getF h ⟨16, 12⟩ ≠ 0 || last ≤ i + 2 then none
      else match loadRun w true n (i + 2) (w (i + 1)).toNat s with
        | some s => loadEntries w last f (i + 3) s
        | none => none
    | 3 =>
      if last ≤ i + n then none
      else
        let s := if getF h ⟨16, 12⟩ = 1 then s.updEst (fun e => { e with chem := dataWords w n (i + 1) }) else s
        loadEntries w last f (i + 1 + n) s
    | _ => none

/-! ### What is tested on the final values (R96, R247, R275, R282, R388) -/

/-- The five words of a context. -/
def State.ctxOk (s : State) (i : Nat) : Bool :=
  ctxWordsOk (s.rd (CTX_SRC i)) (s.rd (CTX_THR i)) (s.rd (CTX_ROR i)) (s.rd (CTX_GATE i))

/-- First tag and number of tags of a port. -/
def State.tagBase (s : State) (p : Port) : Nat := s.get (PORT_CFG p) PORT_CFG_TAG_BASE
def State.tagCnt (s : State) (p : Port) : Nat := s.get (PORT_CFG p) PORT_CFG_TAG_CNT

/-- No range of tags passes 95, and no two overlap (R388). -/
def State.tagsOk (s : State) : Bool :=
  allPorts.all (fun p => s.tagCnt p == 0 || decide (s.tagBase p + s.tagCnt p ≤ 96)) &&
  (List.range 96).all (fun t => decide ((allPorts.filter (fun p => s.owns p t)).length ≤ 1))

/-- The final values pass. -/
def State.loadOk (s : State) : Bool :=
  (allFin 4).all s.assignOk && (List.range 6144).all (fun i => stepOk (s.rd (STEP i))) && (List.range 160).all s.ctxOk &&
  (unstableNode s.rd).isNone && s.tagsOk

/-! ### The load (R75, R301, R374, R452) -/

/-- Words of calibration records go to ADC_CALTAB (R301). -/
def State.loadCalib (s : State) : List (Nat × Word) → State
  | [] => s
  | (k, w) :: r => State.loadCalib (s.wr (ADC_CALTAB (k / 64) (k % 64)) w) r

/-- Each phase takes its role, and each loop its period. -/
def State.loadPhases (s : State) : State :=
  let s := (allFin 16).foldl (fun s n => s.takeRole n) s
  (allFin 4).foldl (fun s m =>
    (s.updLoop m (fun l =>
      let p := s.get (LOOP_FSW m) LOOP_FSW_PER
      { l with per := p, perTo := p, perOld := p, pendCode := false })).reslot m) s

/-- The end of a load that passed: what follows from the loaded values. -/
def State.loadEnd (s : State) (copy : Nat) : State :=
  let s := s.loadPhases.loadCalib s.mram.calib
  let s := if s.bak.trimFresh then
      (s.put RTC_TRIM RTC_TRIM_TRIM (s.get RTC_CFG RTC_CFG_TRIM_DEF)).updBak (fun b => { b with trimFresh := false })
    else s
  let s := s.updClk (fun c => { c with cfgCopy := some copy })
  { s with seq := { s.seq with upAtStart := (s.cfgWord copy 3).getLsbD 0 } }

/-- One copy: MR2 is extended with it, and it is loaded or rejected (R75). -/
def State.loadCopy (s : State) (copy : Nat) : State × Option State :=
  let s := s.extend 2 (s.cfgDigest copy)
  let last := s.cfgLength copy / 4 - 1
  match loadEntries (s.cfgWord copy) last (last + 1) 5 s with
  | some t => if t.loadOk then (s, some (t.loadEnd copy)) else (s, none)
  | none => (s, none)

/-- A rejected copy raises ESN 0x16 (R75). -/
def State.cfgRejected (s : State) (copy : Nat) (inLoad : Bool) : State := s.raise 0x16 0 (copy + if inLoad then 2 else 0)

/-- The copies in order, until one is loaded; with none, no configuration (R75). -/
def State.loadCopies (s : State) : List Nat → State
  | [] => (s.extend 2 zeroDigest).raise 0x17 0
  | c :: r =>
    match s.loadCopy c with
    | (_, some t) => t
    | (s, none) => State.loadCopies (s.cfgRejected c true) r

/-- Step 5: the configuration is chosen and loaded (R75). -/
def State.configLoad (s : State) : State :=
  let s := ([0, 1].filter (fun c => !s.cfgHeaderOk c)).foldl (fun s c => s.cfgRejected c false) s
  s.loadCopies s.cfgOrder

/-! ### The cold start (R63, R64, R71, R76, R372 to R377) -/

/-- The address that a strap's voltage in mV fixes (R34): the thresholds lie midway between the typical voltages. The
short's typical voltage is a range of 0 V to 0.02 V; the model takes midway from 0 V, 100 mV (DESIGN CHOICE, log 43). -/
def strapAddr (mv : Nat) : Nat :=
  if mv < 100 then 0x40 else if mv < 300 then 0x41 else if mv < 500 then 0x42 else if mv < 700 then 0x43
  else if mv < 900 then 0x44 else if mv < 1105 then 0x45 else if mv < 1855 then 0x46 else 0x47

/-- The watchdog fuses as their registers show them (R327). -/
def State.readFuses (s : State) : State :=
  let f := s.fuse
  let w0 := s.rd WD_FUSE0
  let w1 := s.rd WD_FUSE1
  (s.wr WD_FUSE0 (setF (setF w0 WD_FUSE0_PMIN (f.pmin.getD (getF w0 WD_FUSE0_PMIN))) WD_FUSE0_PMAX
    (f.pmax.getD (getF w0 WD_FUSE0_PMAX)))).wr WD_FUSE1
    (setF (setF w1 WD_FUSE1_WIN (f.win.getD (getF w1 WD_FUSE1_WIN))) WD_FUSE1_OUT_W (f.outw.getD (getF w1 WD_FUSE1_OUT_W)))

/-- Operating time and power-cycle count are formed, and recorded (R64, R376). -/
def State.formCounters (s : State) : State :=
  let r := s.mram.counters.getD (0, 0)
  let ms := max s.bak.shadowOpt r.1
  let cyc := (max s.bak.shadowCyc r.2 + 1) % 2 ^ 32
  let h := ms / 3600000
  let s := { s.updOpt (fun o => { o with ms := ms, hourMark := h, hourRec := h }) with
    seg := { s.seg with hour := h }, est := { s.est with msPrev := ms } }.optShow
  let s := (s.updBak (fun b => { b with shadowCyc := cyc })).wr PWR_CYCLES (BitVec.ofNat 32 cyc)
  s.counterRecord

/-- The stamp of both oscillators lost goes into a Plate record of ESN 0x02, and LOSS clears (R55, R377). -/
def State.lossRecord (s : State) : State :=
  if s.flag RTC_STAT RTC_STAT_LOSS then
    let cal := (s.rd RTC_LOSS_CAL_LO).toNat + 2 ^ 32 * s.get RTC_LOSS_CAL_HI RTC_LOSS_CAL_HI_SEC
    let opt := (s.rd RTC_LOSS_OPT_LO).toNat + 2 ^ 32 * s.get RTC_LOSS_OPT_HI RTC_LOSS_OPT_HI_OPT
    let s := s.toPlate (s.eventRec 0x02 0 (s.plateSev 0x02 0 2) 0 (bytesLE 6 cal ++ bytesLE 6 opt))
    s.putB RTC_STAT RTC_STAT_LOSS false
  else s

/-- What is raised at the first tick after the load: cold start completed, the switch-over, a low VBAK and a fresh backup
domain (R372 to R374). -/
def State.bakEvents (s : State) : State :=
  let s := s.raiseLater 0x09 0 0
  let s := match s.bak.swoMark with
    | some c => s.raiseLater 0x95 c (s.get RTC_SWO_CNT RTC_SWO_CNT_COUNT % 256)
    | none => s
  let s := if s.bak.lowMark then s.raiseLater 0x96 2 0 else s
  let s := s.updBak (fun b => { b with swoMark := none, lowMark := false })
  if s.flag RTC_STAT RTC_STAT_BAK_FRESH && !s.flag RTC_CFG RTC_CFG_NO_VBAK then s.raiseLater 0x97 0 0 else s

/-- Steps 1 to 3 of R71: D_PWR is released, with its counters, fuses, straps and MR0. MAIN starts on the primary
oscillator, ACTIVE 0, also after a clock recovery, whichever oscillator passed its detector: the spec does not say which
drives MAIN then (DESIGN CHOICE, log 32). -/
def State.coldRelease (s : State) (clkrec : Bool) (strapA strapB : Nat) (packId : Bool) : State :=
  let s := { s.pwrReset with power := .run, layers := true }
  let s := s.putB RTC_STAT RTC_STAT_SUBST false
  let s := if clkrec then (s.putB RST_CAUSE RST_CAUSE_COLD false).putB RST_CAUSE RST_CAUSE_CLKREC true else s
  let s := s.formCounters.readFuses
  let s := (s.put (PORT_ADDR .a) PORT_ADDR_ADDR (strapAddr strapA)).put (PORT_ADDR .b) PORT_ADDR_ADDR (strapAddr strapB)
  let s := (s.setClk CLK_STAT_XTAL_OK s.bak.crystal).put NV_STAT NV_STAT_SPARES (255 - s.mram.remap.length)
  let s := (s.updChg (fun c => { c with packId := packId })).updGg (fun g => { g with restedAt := s.opt.ms })
  let cal := if s.flag RTC_STAT RTC_STAT_VALID then some (s.calendar / 256) else none
  let s := (s.updPlate (fun p => { p with coldMark := true })).updEst (fun e => { e with cold := true, coldCal := cal })
  (s.extend 0 (sha256 Config.romBytes)).extend 0
    (sha256 (Config.fuseImage s.fuse.pmin s.fuse.pmax s.fuse.win s.fuse.outw))

/-- The stencil store's bytes (R71 step 6). -/
def State.storeBytes (s : State) : List Byte :=
  ((List.range 6144).map (fun i => bytesLE 4 (s.rd (STEP i)).toNat)).flatten

/-- Steps 4 to 8 of R71. -/
def State.coldBoot (s : State) (step8 : Bool) : State :=
  let s := s.enterRom
  let c := s.chooseSlotBoot
  let s := c.2.configLoad.showCfg
  let s := ((s.extend 3 (sha256 s.storeBytes)).storeScan.lossRecord).bakEvents
  let l := s.loadImage c.1.slot
  if step8 then l.2.enterFirmware l.1 else l.2

/-- COLD_START (R71): VSYS rises above the POR rising threshold. Operands: the voltages of ADDR_A and ADDR_B in mV, the
crystal cycles since the part was last in RUN or STANDBY, whether PACK_ID is closed, and whether the ROM reaches step 8
within its limit. -/
def execColdStart (strapA strapB : BitVec 12) (xtal : BitVec 48) (packId step8 : Bool) (ecc : List EccRead) (s : State) :
    Host.Outcome State Fault Refusal :=
  done <| s.when (s.power == .unpowered || s.power == .frost) fun s =>
    let s := if s.power == .unpowered then s.bakReset
      else if s.bak.crystal then s.xtalCycles xtal.toNat false else s
    (((s.eccFlip ecc).coldRelease false strapA.toNat strapB.toNat packId).coldBoot step8).eccReads ecc

/-- OSCILLATOR_RESTART_ATTEMPT (R55): with both oscillators lost, one that passes the frequency detector for 1 s performs
a cold start of D_PWR; an attempt that does not pass changes nothing. -/
def execOscillatorRestartAttempt (passed : Bool) (strapA strapB : BitVec 12) (xtal : BitVec 48) (packId step8 : Bool)
    (ecc : List EccRead) (s : State) : Host.Outcome State Fault Refusal :=
  done <| s.when (s.power == .run && s.clk.bothLost && passed) fun s =>
    let s := if s.bak.crystal then s.xtalCycles xtal.toNat false else s
    (((s.eccFlip ecc).coldRelease true strapA.toNat strapB.toNat packId).coldBoot step8).eccReads ecc

end Sys2Proof.Machine
end

