-- ==== Sys2Proof/Machine/Burin.lean ====
section
/-! DEFINITION. What Burin's own writes do in block 16: READY, an extension of MR1, and proofs (spec 04 R81 to R86). -/
namespace Sys2Proof.Machine
open Sys2Proof

/-- READY (R81). -/
def execReady (s : State) : Host.Outcome State Fault Refusal := done <| s.when s.burinReaches fun s => s.readyWrite

/-! ### Extension (R82) -/

/-- The 32 bytes of some consecutive registers. -/
def State.regBytes (s : State) (at_ : Nat → Nat) (n : Nat) : List Byte :=
  ((List.range n).map (fun i => bytesLE 4 (s.rd (at_ i)).toNat)).flatten

/-- A write of GO with a target: outside the ROM only MR1 is accepted (MR_CTL). -/
def State.extendGo (s : State) (target : Nat) : State := if target = 1 then s.extend 1 (s.regBytes MR_DATA 8) else s

/-- EXTEND (R82). -/
def execExtend (target : BitVec 2) (s : State) : Host.Outcome State Fault Refusal :=
  done <| s.when s.burinReaches fun s => s.extendGo target.toNat

/-! ### Proof (R84, R85) -/

/-- Byte 0x15 of the body. -/
def State.proofFlags (s : State) : Nat :=
  s.get BOOT_STAT BOOT_STAT_TRIAL + 2 * s.get BOOT_STAT BOOT_STAT_ROLLBACK + 4 * s.get BOOT_STAT BOOT_STAT_RECOVERY +
  8 * s.get BOOT_STAT BOOT_STAT_CFG_COPY + 16 * s.get BOOT_STAT BOOT_STAT_CFG_NONE

/-- The body of R84 with a proof counter. -/
def State.proofBody (s : State) (ctr : Nat) : List Byte :=
  bytesLE 2 1 ++ bytesLE 2 192 ++ bytesLE 4 Config.romVersion ++ bytesLE 8 Config.deviceId ++
  bytesLE 4 (if s.proc.mode == .recovery then 0 else s.proc.fwVersion) ++
  bytesLE 1 (s.get BOOT_STAT BOOT_STAT_SLOT) ++ bytesLE 1 s.proofFlags ++ bytesLE 2 0 ++ s.regBytes PRF_NONCE 4 ++
  bytesLE 4 (s.rd PWR_CYCLES).toNat ++ bytesLE 6 s.opt.ms ++ bytesLE 2 0 ++ bytesLE 4 ctr ++
  ((List.range 4).map (fun n => bytesLE 2 (min 65535 (s.rd (mrCnt n)).toNat))).flatten ++
  (s.mr.toList.map (fun m => bytesLE 32 m.toNat)).flatten

/-- Bytes written to consecutive registers, four to a word. -/
def State.putBytes (s : State) (at_ : Nat → Nat) : Nat → List Byte → State
  | 0, _ => s
  | n + 1, l => State.putBytes (s.wr (at_ 0) (BitVec.ofNat 32 (ofBytesLE (l.take 4)))) (fun i => at_ (i + 1)) n (l.drop 4)

/-- The proof counter as the increments that wait for the NV engine will leave it. -/
def State.proofCount (s : State) : Nat :=
  s.nv.q1.foldl (fun n j => match j.what with
    | .proof c => c
    | .boot _ _ => n | .remap _ _ => n | .counter _ _ => n | .calib _ => n | .record => n | .words => n | .fix => n)
    s.mram.proofCtr

/-- A write of PRF_CTL.GO: the body is assembled, and the NV engine is to write the incremented counter; ignored while BUSY,
and while READY is 0 (R17, R84, R85). -/
def State.proofGo (s : State) : State :=
  if s.flag PRF_STAT PRF_STAT_BUSY || !s.flag BOOT_STAT BOOT_STAT_READY then s
  else
    let ctr := (s.proofCount + 1) % 2 ^ 32
    let b := s.proofBody ctr
    let s := { s with proof := ⟨digestBV (sha256 b), ctr⟩ }
    ((s.nvQueue1 ⟨.proof ctr, [(proofPlace, BitVec.ofNat 64 ctr)], 1, 1⟩).putBytes PRF_BODY 48 b).putB PRF_STAT
      PRF_STAT_BUSY true

/-- The word of the incremented counter is complete, and the signing may begin (R84). -/
def State.proofCounted (s : State) : Bool := s.proofCount == s.mram.proofCtr && s.mram.proofCtr == s.proof.counter

/-- PROOF_GO (R84). -/
def execProofGo (s : State) : Host.Outcome State Fault Refusal := done <| s.when s.burinReaches fun s => s.proofGo

/-- PROOF_SIGNED (R85). -/
def execProofSigned (s : State) : Host.Outcome State Fault Refusal :=
  done <| s.when (s.inRun && s.flag PRF_STAT PRF_STAT_BUSY && s.flag BOOT_STAT BOOT_STAT_READY && s.proofCounted) fun s =>
    let s := s.putBytes PRF_SIG 16 (proofSig (bytesLE 32 s.proof.digest.toNat) s.proof.counter)
    (s.putB PRF_STAT PRF_STAT_BUSY false).putB PRF_STAT PRF_STAT_DONE true

end Sys2Proof.Machine
end

