-- ==== Sys2Proof/Machine/Ports.lean ====
section
/-! DEFINITION. What arrives from outside through the ports: packets and their admission (spec 16 R384 to R390), the
transactions of Ports A, B and C (R397 to R402), the alarm link of Port D (R403 to R405), the cells of the sibling link
(R406) and the transfers of AUX (R401). -/
namespace Sys2Proof.Machine
open Sys2Proof

/-! ### Admission (R387 to R390) -/

/-- Frames of a deadline class (R387). -/
def classFrames : Nat → Nat
  | 0 => 1
  | 1 => 5
  | 2 => 50
  | 3 => 2500
  | _ => 100000

/-- The codes that the port hardware itself executes (R390). -/
def codeTelemRead : Nat := 0x10
def codeWdCheckin : Nat := 0x58

/-- The tag is the port's and FREE (R389 check 3). -/
def State.tagOpen (s : State) (p : Port) (n : Nat) : Bool :=
  match tagOf n with
  | some t => s.owns p n && s.tags[t].st == .free
  | none => false

/-- The least class that a code's entry admits at the level latched (R389 check 5). -/
def State.leastClass (s : State) (code : Nat) : Nat :=
  match s.latchedF TH_STAT TH_STAT_THR_LVL with
  | 0 | 1 => s.get (ADM_TAB code) ADM_TAB_MIN0
  | 2 => s.get (ADM_TAB code) ADM_TAB_MIN2
  | _ => s.get (ADM_TAB code) ADM_TAB_MIN3

/-- Commands of a class in flight over all ports: tags that are not FREE (R389 check 6). -/
def State.inFlight (s : State) (cls : Nat) : Nat :=
  ((allFin 96).filter (fun t => s.tags[t].st != .free && s.tags[t].cls == cls)).length

/-- What ADM_CAP allows of a class in flight (R389 check 6). -/
def State.classCap (s : State) (cls : Nat) : Nat :=
  if cls < 4 then s.get ADM_CAP0 ⟨8 * cls, 8⟩ else s.get ADM_CAP1 ADM_CAP1_CAP4

/-- The status of the first check that a command fails, or none; `ok`: its words and CRC arrived right (R389). -/
def State.admission (s : State) (p : Port) (h : Word) (ok : Bool) : Option Nat :=
  if headCode h = 0xFF || decide (4 < headClass h) || decide (62 < headLen h) || !ok then some 0xE5
  else if !s.flag BOOT_STAT BOOT_STAT_READY && headCode h != codeTelemRead then some 0xE1
  else if !s.tagOpen p (headTag h) then some 0xE3
  else if !s.flag (ADM_TAB (headCode h)) ADM_TAB_VALID then some 0xE4
  else if headClass h < s.leastClass (headCode h) then some 0xE0
  else if s.classCap (headClass h) ≤ s.inFlight (headClass h) then some 0xE0
  else none

/-- A refusal: a response of the port hardware without payload, that takes no tag (R389). -/
def State.refuse (s : State) (p : Port) (h : Word) (status : Nat) : State :=
  s.place p [header status (headTag h) (headClass h) 0] none

/-- What TELEM_READ returns for an address: a register of D_PWR or D_BAK as latched, or all ones (R420). -/
def State.telemWord (s : State) (a : Word) : Option Word :=
  match domainOf a.toNat with
  | some .dPwr => some (s.latched a.toNat)
  | some .dBak => some (s.latched a.toNat)
  | _ => none

/-- TELEM_READ, executed by the port hardware (R390, R419, R420). -/
def State.telemRead (s : State) (t : Fin 96) (addrs : List Word) : State :=
  if addrs.isEmpty then s.answer t 0x01 []
  else
    let l := addrs.map s.telemWord
    s.answer t (if l.all Option.isSome then 0 else 0x0B) (l.map (fun o => o.getD idleItem))

/-- The response of WD_CHECKIN (R429). -/
def State.checkinWord (s : State) : Word :=
  setF (setF (setF (0 : Word) ⟨0, 16⟩ (s.get WD_STAT WD_STAT_DONE)) ⟨16, 8⟩ ((s.rd WD_SEQ).toNat % 256)) ⟨24, 1⟩
    (s.get WD_STAT WD_STAT_IGN)

/-- WD_CHECKIN, executed by the port hardware (R329, R390, R429): one that resets D_PROC leaves its tag OWED (R393). -/
def State.hostCheckin (s : State) (t : Fin 96) (p : Port) (ws : List Word) : State :=
  match ws with
  | [w] =>
    let s := s.wdCheckin w (p.idx + 1)
    if s.tags[t].st == .queued then s.answer t 0 [s.checkinWord] else s
  | _ => s.answer t 0x01 []

/-- A whole packet of a host, header and payload, is admitted or refused (R389, R390). -/
def State.arrive (s : State) (p : Port) (ws : List Word) (ok : Bool) : State :=
  let h := ws.getD 0 0
  match s.admission p h ok, tagOf (headTag h) with
  | some st, _ => s.refuse p h st
  | none, none => s
  | none, some t =>
    let s := s.setTag t ⟨.queued, p, headClass h, s.clk.frames + classFrames (headClass h) + 1, s.fw.admitted⟩
    let s := { s with fw := { s.fw with admitted := s.fw.admitted + 1 } }
    if headCode h = codeTelemRead then s.telemRead t (ws.drop 1)
    else if headCode h = codeWdCheckin then s.hostCheckin t p (ws.drop 1)
    else s.updPort p (fun x => { x with inq := x.inq ++ [ws] })

/-! ### Words of a packet (R384, R385) -/

/-- FRAME_ERR and the port's ESN with code 0x02 (R323, R385). -/
def State.frameError (s : State) (p : Port) : State :=
  (s.putB (PORT_STAT p) PORT_STAT_FRAME_ERR true).raise (portEsn p) 2

/-- The packet being collected is gone. -/
def PortSt.cleared (x : PortSt) : PortSt := { x with collect := [], bad := false, missed := 0 }

/-- The packet being collected, once its last word and its CRC word have come (R384). -/
def State.packetIn (s : State) (p : Port) : State :=
  let x := s.port p
  match x.collect with
  | [] => s
  | h :: _ =>
    if x.collect.length + x.missed < headLen h + 1 + (if s.crcPort p then 1 else 0) then s
    else
      let body := x.collect.take (headLen h + 1)
      let good := !s.crcPort p || x.collect.getD (headLen h + 1) 0 == crcWord body
      let s := s.updPort p PortSt.cleared
      (if x.bad || good then s else s.frameError p).arrive p body (!x.bad && good)

/-- A word that finds the FIFO full: Ports A and B refuse it and the rest of the transaction (R398); elsewhere it is
discarded, and its packet is answered BAD_FRAME at its last word (R402). True: the rest is ignored. -/
def State.wordFull (s : State) (p : Port) (w : Word) : State × Bool :=
  if p == .a || p == .b then (s, true)
  else if (s.port p).collect.isEmpty then (s.updPort p (fun x => { x with collect := [w], bad := true }), false)
  else ((s.updPort p (fun x => { x with bad := true, missed := x.missed + 1 })).packetIn p, false)

/-- A word that a transport offers (R383 to R385). True: the rest of the transaction is ignored. -/
def State.inWord (s : State) (p : Port) (w : Word) : State × Bool :=
  let x := s.port p
  let full := decide (64 ≤ x.inUsed)
  let isCrc := s.crcPort p && !x.collect.isEmpty && x.collect.length + x.missed == headLen (x.collect.getD 0 0) + 1
  if full && (p == .a || p == .b) && !isCrc then (s, true)
  else if x.collect.isEmpty && decide (62 < headLen w) then ((s.frameError p).refuse p w 0xE5, true)
  else if full && !isCrc then s.wordFull p w
  else ((s.updPort p (fun x => { x with collect := x.collect ++ [w] })).packetIn p, false)

/-- The words of one transaction. -/
def State.inWords (s : State) (p : Port) : List Word → State
  | [] => s
  | w :: r =>
    let a := s.inWord p w
    if a.2 then a.1 else State.inWords a.1 p r

/-- Words of a transaction in the SMBus Block Write form: appended whole or not at all (R398). -/
def State.inBlock (s : State) (p : Port) (ws : List Word) (pecOk : Bool) : State :=
  if !pecOk then s.raise (portEsn p) 2
  else if decide (16 < ws.length) || decide (64 < (s.port p).inUsed + ws.length) then s
  else s.inWords p ws

/-- MBX_IN (R4, R397, R398, R402): the data bytes of a transaction, which may end within a word. One of Ports A and B has at
most 64 data bytes (R381). Its last word comes at a clock of the present frame. -/
def execMbxIn (p : Port) (bytes : List Byte) (pecOk : Bool) (clock : BitVec 12) (s : State) :
    Host.Outcome State Fault Refusal :=
  done <| s.when (s.transacts p) fun s =>
    let s := s.clockAt clock.toNat
    let l := if p == .c then bytes else bytes.take 64
    let ws := wordsOf l
    let cut := l.length % 4 != 0
    let s1 :=
      if p == .c || s.crcPort p then s.inWords p ws
      else if cut then s
      else s.inBlock p ws pecOk
    if cut then s1.putB (PORT_STAT p) PORT_STAT_FRAME_ERR true else s1

/-! ### The sibling link (R406) -/

/-- A cell with a wrong CRC is discarded: counted, and ESN 0x84 raised once per frame. -/
def State.cellBad (s : State) : State :=
  let s := s.bump LINK_STAT LINK_STAT_CRC_ERR
  if s.link.crcSaid then s else { s with link := { s.link with crcSaid := true } }.raise 0x84 2

/-- The packet of a channel that is being collected is discarded; a command whose header has arrived is answered
BAD_FRAME. -/
def State.cellLost (s : State) (rsp : Bool) : State :=
  if rsp then { s with link := { s.link with hpart := [] } }
  else
    match (s.port .e).collect with
    | [] => s
    | h :: _ => (s.updPort .e PortSt.cleared).refuse .e h 0xE5

/-- The next sequence number that a channel expects. -/
def State.setCellSeq (s : State) (rsp : Bool) (n : Nat) : State :=
  if rsp then { s with link := { s.link with rspSeq := n % 16 } } else { s with link := { s.link with cmdSeq := n % 16 } }

/-- A response word on channel H: a whole response joins what MBX_HRX reads. -/
def State.hostWord (s : State) (w : Word) : State :=
  let l := s.link.hpart ++ [w]
  if l.length < headLen (l.getD 0 0) + 1 then { s with link := { s.link with hpart := l } }
  else { s with link := { s.link with hpart := [], hrx := (s.link.hrx ++ l).take 64 } }

/-- A mailbox cell with a wrong CRC: its packet is discarded, and its place in the count has gone by. -/
def State.mailboxBad (s : State) (rsp : Bool) : State :=
  let n := if rsp then s.link.rspSeq else s.link.cmdSeq
  ((s.cellBad).cellLost rsp).setCellSeq rsp (n + 1)

/-- MAILBOX_CELL: a CMD or RSP cell is received (R406). -/
def execMailboxCell (rsp : Bool) (seq : BitVec 4) (w : Word) (crcOk : Bool) (clock : BitVec 12) (s : State) :
    Host.Outcome State Fault Refusal :=
  done <| s.when (s.inRun && s.layers) fun s =>
    let s := s.clockAt clock.toNat
    if !crcOk then s.mailboxBad rsp
    else if seq.toNat ≠ (if rsp then s.link.rspSeq else s.link.cmdSeq) then (s.cellLost rsp).setCellSeq rsp (seq.toNat + 1)
    else
      let s := s.setCellSeq rsp (seq.toNat + 1)
      if rsp then s.hostWord w else (s.inWord .e w).1

/-- CELL_CRC_ERROR: a cell with a wrong CRC-8 (R406). A discarded MARK or STATUS cell is one that was not received. -/
def execCellCrcError (kind : CellKind) (s : State) : Host.Outcome State Fault Refusal :=
  done <| s.when s.inRun fun s =>
    match kind with
    | .cmd => if s.layers then s.mailboxBad false else s.cellBad
    | .rsp => if s.layers then s.mailboxBad true else s.cellBad
    | .idle => s.cellBad
    | .mark => s.cellBad
    | .echo => s.cellBad
    | .status0 => s.cellBad
    | .status1 => s.cellBad

/-- SIBLING_STATUS: the status cells of a frame (R262, R406). -/
def execSiblingStatus (ids : Word) (arrived passed : BitVec 4) (alert : Bool) (inFree hostFree : BitVec 7) (s : State) :
    Host.Outcome State Fault Refusal :=
  done <| s.when s.inRun fun s =>
    let s := s.siblingStatus ids arrived passed
    { s with link := { s.link with alert := alert, farIn := inFree.toNat, farHost := hostFree.toNat } }

/-- One mailbox cell of a frame: a response word while the far host FIFO has space, else a command word of channel H
while the far inbound FIFO has space (R406). -/
def State.linkCell (s : State) : State :=
  if 0 < s.link.farHost && !(s.port .e).out.isEmpty then
    let r := s.outWord .e
    let k := r.2.link
    { r.2 with link := { k with farHost := k.farHost - 1, rspTx := (k.rspTx + 1) % 16, sent := k.sent ++ [(true, k.rspTx, r.1)] } }
  else
    match s.link.htx with
    | [] => s
    | w :: rest =>
      if s.link.farIn = 0 then s
      else
        let k := s.link
        { s with link := { k with farIn := k.farIn - 1, cmdTx := (k.cmdTx + 1) % 16, htx := rest,
                                  sent := k.sent ++ [(false, k.cmdTx, w)] } }

def linkCells : Nat → State → State
  | 0, s => s
  | n + 1, s => linkCells n s.linkCell

/-- Cells 3 to 9 of a frame (R406). -/
def State.linkTick (s : State) : State :=
  let s := { s with link := { s.link with crcSaid := false, sent := [] } }
  if s.layers && s.flag LINK_STAT LINK_STAT_UP && s.flag (PORT_CFG .e) PORT_CFG_EN then linkCells 7 s else s

/-- A command word to the sibling; a full channel refuses it (R382, R406). -/
def State.htxWrite (s : State) (w : Word) : State :=
  if 64 ≤ s.link.htx.length then s else { s with link := { s.link with htx := s.link.htx ++ [w] } }

/-- MBX_HTX_WRITE. -/
def execMbxHtxWrite (w : Word) (s : State) : Host.Outcome State Fault Refusal :=
  done <| s.when s.burinReaches fun s => s.htxWrite w

/-- What a read of MBX_HRX returns and removes (R382, R406). -/
def State.hrxWord (s : State) : Word × State :=
  match s.link.hrx with
  | [] => (idleItem, s)
  | w :: r => (w, { s with link := { s.link with hrx := r } })

/-! ### The alarm link (R403 to R405) -/

/-- Bits of a 16-bit register from the truth of each. -/
def bits16 (f : Nat → Bool) : Nat := (List.range 16).foldl (fun n b => if f b then n + 2 ^ b else n) 0

/-- An ESN's sticky bit as latched. -/
def State.latchedSticky (s : State) (n : Nat) : Bool := (s.latched (FLT_STICKY (n / 32))).getLsbD (n % 32)

/-- Register 0x0002 of the alarm link (R404). -/
def State.dlState (s : State) : Nat :=
  bits16 (fun b =>
    match b with
    | 0 => s.latchedF PWR_STATE PWR_STATE_AUTON != 0
    | 1 => s.latchedF PWR_STATE PWR_STATE_WARM != 0
    | 2 => s.latchedF FLT_STAT FLT_STAT_ERR != 0
    | 3 => s.latchedF FLT_STAT FLT_STAT_FATAL != 0
    | 4 => (s.latchedF TH_STAT TH_STAT_THR_LVL).testBit 0
    | 5 => (s.latchedF TH_STAT TH_STAT_THR_LVL).testBit 1
    | 6 => s.latchedF SEQ_STAT SEQ_STAT_FN_IN != 0
    | 7 => s.latchedF WD_STAT WD_STAT_OUT != 0
    | 8 => s.latchedF PLATE_STAT PLATE_STAT_FLOOD != 0
    | 9 => s.latchedF BOOT_STAT BOOT_STAT_READY != 0
    | 10 => s.latchedF BOOT_STAT BOOT_STAT_RECOVERY != 0
    | 11 => s.latchedF RTC_STAT RTC_STAT_VALID != 0
    | 12 => s.latchedF LS_STAT LS_STAT_FENCED != 0
    | _ => false)

/-- Register 0x0003 of the alarm link (R404). -/
def State.dlPath (s : State) : Nat :=
  s.latchedF PATH_STAT PATH_STAT_PATH + 4 * s.latchedF (FEED_STAT 0) FEED_STAT_STATE +
    16 * s.latchedF (FEED_STAT 1) FEED_STAT_STATE + 64 * s.latchedF CHG_STAT CHG_STAT_STATE +
    1024 * s.latchedF GG_STAT GG_STAT_REST + 2048 * s.latchedF GG_STAT GG_STAT_DRIFT +
    4096 * s.latchedF GG_EFLAGS GG_EFLAGS_SOC_STALE

/-- The hottest enabled model node; with none enabled the spec gives no value, and it is free (R404, log 2). -/
def State.dlHottest (s : State) : Nat :=
  let l := ((List.range 40).filter (fun i => s.latchedF (TH_LIM_C i) TH_LIM_C_EN != 0 && s.nodeUsed i)).map
    (fun i => toI 16 (s.latchedF (TH_T i) TH_T_T))
  match l with
  | [] => (Config.freeWord s.freeCtr).toNat % 65536
  | x :: r => wrapI 16 (r.foldl max x)

/-- PG of loops, of bucks and LDOs (R404). -/
def State.dlPG (s : State) (b : Nat) : Bool :=
  if b < 4 then s.latchedF (LOOP_STAT b) LOOP_STAT_PG != 0 else b < 14 && s.latchedF (REG_STAT (b - 4)) REG_STAT_PG != 0

/-- INWIN of the context of external rail k (R274, R404). -/
def State.dlExternal (s : State) (k : Nat) : Bool :=
  match s.railContext k with
  | some c => s.latchedF (CTX_STAT c) CTX_STAT_INWIN != 0
  | none => false

/-- LOOP_STAT.SPARES, ADC2 and the spare oscillator (R404). -/
def State.dlSpares (s : State) : Nat :=
  s.latchedF (LOOP_STAT 0) LOOP_STAT_SPARES + 4 * s.latchedF (LOOP_STAT 1) LOOP_STAT_SPARES +
    16 * s.latchedF (LOOP_STAT 2) LOOP_STAT_SPARES + 64 * s.latchedF (LOOP_STAT 3) LOOP_STAT_SPARES +
    (if s.latchedF ADC_STAT ADC_STAT_TAKEN != 0 then 256 else 0) + 512 * s.latchedF CLK_STAT CLK_STAT_ACTIVE

/-- A 16-bit part of a wide value, the most significant register first (R404). -/
def wide (v n k : Nat) : Nat := v / 2 ^ (16 * (n - 1 - k)) % 65536

/-- A sticky bit that no acknowledge covers, as latched (R404). -/
def State.dlUnacked (s : State) (n : Nat) : Bool := s.latchedSticky n && !s.snap.acks.contains n

/-- The registers of the alarm link from 0x0000 to 0x001F (R404). -/
def State.dlLow (s : State) : Nat → Option Nat
  | 0x00 => some 0x6416
  | 0x01 => some 1
  | 0x02 => some s.dlState
  | 0x03 => some s.dlPath
  | 0x04 => some (s.latchedF PATH_V PATH_V_VSYS)
  | 0x05 => some (s.latchedF (FEED_V 0) FEED_V_V)
  | 0x06 => some (s.latchedF (FEED_V 1) FEED_V_V)
  | 0x07 => some (s.latchedF GG_I GG_I_I_1S)
  | 0x08 => some (s.latchedF GG_SOC GG_SOC_SOC)
  | 0x09 => some (s.latchedF GG_SOC GG_SOC_BAND)
  | 0x0A => some (s.latchedF GG_TIME GG_TIME_TTE)
  | 0x0B => some (s.latchedF GG_VPACK GG_VPACK_TPACK)
  | 0x0C => some s.dlHottest
  | 0x0D => some (wide s.snap.ms 3 0)
  | 0x0E => some (wide s.snap.ms 3 1)
  | 0x0F => some (wide s.snap.ms 3 2)
  | 0x10 => some (wide (s.snap.cal / 256) 3 0)
  | 0x11 => some (wide (s.snap.cal / 256) 3 1)
  | 0x12 => some (wide (s.snap.cal / 256) 3 2)
  | 0x13 => some (wide (s.latched PWR_CYCLES).toNat 2 0)
  | 0x14 => some (wide (s.latched PWR_CYCLES).toNat 2 1)
  | 0x18 => some (bits16 s.dlPG)
  | 0x19 => some (bits16 (fun b => b < 4 && s.latchedF (REG_STAT (b + 10)) REG_STAT_PG != 0))
  | 0x1A => some (bits16 (fun b => s.dlExternal (b + 16)))
  | 0x1B => some (bits16 s.dlExternal)
  | 0x1C => some s.dlSpares
  | _ => none

/-- A register of the alarm link; none for an unlisted address (R404). -/
def State.dlReg (s : State) (a : Nat) : Option Nat :=
  if a < 0x20 then s.dlLow a
  else if a < 0x30 then some (bits16 (fun b => s.latchedSticky (16 * (a - 0x20) + b)))
  else if a < 0x36 then some (bits16 (fun b => (s.latched (MEV_STAT ((a - 0x30) / 2))).getLsbD (16 * (a % 2) + b)))
  else if a < 0x40 then none
  else if a < 0x50 then some (bits16 (fun b => s.snap.acks.contains (16 * (a - 0x40) + b)))
  else if a < 0x60 then some (bits16 (fun b => s.dlUnacked (16 * (a - 0x50) + b)))
  else if a = 0x60 then some ((List.range 256).filter s.dlUnacked).length
  else none

/-- Port D answers (R31, R403). -/
def State.dlAnswers (s : State) : Bool := s.inRun && s.layers && s.flag DL_CFG DL_CFG_EN

/-- The bytes of a register on the alarm link, most significant first (R4). -/
def dlBytes (v : Nat) : List Byte := (bytesLE 2 v).reverse

/-- A frame of Modbus RTU from this part: its address, what it carries, and the CRC, low byte first (R403). -/
def State.dlFrame (s : State) (l : List Byte) : List Byte :=
  let b := bytesLE 1 (s.get DL_CFG DL_CFG_ADDR) ++ l
  b ++ bytesLE 2 (crcModbus b)

/-- A reply of the alarm link is counted; `out` are the numbers it carries, and `wire` its bytes. -/
def State.dlReply (s : State) (ws : List Word) (l : List Byte) : State :=
  { s.bump DL_STAT DL_STAT_REQS with out := ws, wire := s.dlFrame l }

/-- The exception reply to a function code (R403). -/
def State.dlException (s : State) (fc code : Nat) : State :=
  s.dlReply [BitVec.ofNat 32 (0x80000000 + code)] [BitVec.ofNat 8 (fc + 0x80), BitVec.ofNat 8 code]

/-- MODBUS_READ_REGISTERS: function code 0x03, or 0x04 for `input` (R403, R404). -/
def execModbusReadRegisters (input : Bool) (addr count : BitVec 16) (s : State) : Host.Outcome State Fault Refusal :=
  done <| s.when s.dlAnswers fun s =>
    let fc := if input then 4 else 3
    let l := (List.range count.toNat).map (fun k => s.dlReg (addr.toNat + k))
    if count = 0 || decide (125 < count.toNat) then s.dlException fc 3
    else if l.any Option.isNone then s.dlException fc 2
    else
      let v := l.map (fun o => o.getD 0)
      { s.dlReply (v.map (BitVec.ofNat 32)) (bytesLE 1 fc ++ bytesLE 1 (2 * v.length) ++ v.flatMap dlBytes) with
          freeCtr := s.freeCtr + 1 }

/-- An ESN joins those acknowledged, in ascending order. -/
def ackAdd (n : Nat) : List Nat → List Nat
  | [] => [n]
  | m :: r => if n < m then n :: m :: r else if n = m then m :: r else m :: ackAdd n r

/-- MODBUS_WRITE_ACKNOWLEDGE: function code 0x06 (R403, R405). -/
def execModbusWriteAcknowledge (addr v : BitVec 16) (s : State) : Host.Outcome State Fault Refusal :=
  done <| s.when s.dlAnswers fun s =>
    if addr.toNat < 0x40 || decide (0x4F < addr.toNat) then s.dlException 6 2
    else
      let l := (List.range 16).filter (fun b => v.getLsbD b)
      let s := { s with acks := l.foldl (fun l b => ackAdd (16 * (addr.toNat - 0x40) + b) l) s.acks }
      s.dlReply [BitVec.ofNat 32 addr.toNat, BitVec.ofNat 32 v.toNat] (bytesLE 1 6 ++ dlBytes addr.toNat ++ dlBytes v.toNat)

/-- MODBUS_BAD_REQUEST (R403). -/
def execModbusBadRequest (kind : BadRequest) (s : State) : Host.Outcome State Fault Refusal :=
  done <| s.when s.dlAnswers fun s =>
    match kind with
    | .damaged =>
      let s := s.bump DL_STAT DL_STAT_ERRS
      if s.aux.dlSaid then s else { s with aux := { s.aux with dlSaid := true } }.raise 0x83 2
    | .otherCode fc => s.dlException fc.toNat 1
    | .otherAddr => s

/-! ### AUX (R401) -/

/-- GO of AUX_CMD: a transfer starts unless one runs, and writes the first WLEN bytes of AUX_DATA, least significant first
(R4); a length above 32 acts as 32. -/
def State.auxGo (s : State) (addr wlen rlen : Nat) : State :=
  if s.flag AUX_STAT AUX_STAT_BUSY then s
  else
    let w := setF (setF (setF (setF (s.rd AUX_STAT) AUX_STAT_BUSY 1) AUX_STAT_NACK 0) AUX_STAT_ARB 0) AUX_STAT_TIMEOUT 0
    let l := ((List.range 8).flatMap (fun k => bytesLE 4 (s.rd (AUX_DATA k)).toNat)).take (min 32 wlen)
    { s.wr AUX_STAT w with aux := { s.aux with addr := addr, wlen := min 32 wlen, rlen := min 32 rlen }, wire := l }

/-- AUX_GO. -/
def execAuxGo (addr : BitVec 7) (wlen rlen : BitVec 8) (s : State) : Host.Outcome State Fault Refusal :=
  done <| s.when s.burinReaches fun s => s.auxGo addr.toNat wlen.toNat rlen.toNat

/-- Bytes read go to AUX_DATA from its first byte on, least significant first. -/
def State.auxBytes (s : State) : Nat → List Byte → State
  | _, [] => s
  | k, b :: r => State.auxBytes (s.put (AUX_DATA (k / 4)) ⟨8 * (k % 4), 8⟩ b.toNat) (k + 1) r

/-- A transfer may end so: by arbitration when TRIES attempts have lost it (0 acts as 1), by a timeout when a line has been
held for STO (R401). -/
def State.auxEnds (s : State) : AuxEnd → Bool
  | .arbitration lost => lost.toNat == max 1 (s.get AUX_CFG AUX_CFG_TRIES)
  | .timeout ms => decide (stoMs (s.get AUX_CFG AUX_CFG_STO) ≤ ms.toNat)
  | .completed => true
  | .nack => true

/-- AUX_TRANSFER_END: the transfer ends, with the bytes read (all of RLEN where it completes). -/
def execAuxTransferEnd (result : AuxEnd) (got : Fin 33) (bytes : Vector (BitVec 8) 32) (s : State) :
    Host.Outcome State Fault Refusal :=
  done <| s.when (s.inRun && s.flag AUX_STAT AUX_STAT_BUSY && s.auxEnds result) fun s =>
    let n := if result == .completed then s.aux.rlen else min s.aux.rlen got
    let s := s.auxBytes 0 (bytes.toList.take n)
    let s := (s.putB AUX_STAT AUX_STAT_BUSY false).putB AUX_STAT AUX_STAT_DONE true
    match result with
    | .completed => s
    | .nack => s.putB AUX_STAT AUX_STAT_NACK true
    | .arbitration _ => (s.putB AUX_STAT AUX_STAT_ARB true).raise 0x85 1
    | .timeout _ => (s.putB AUX_STAT AUX_STAT_TIMEOUT true).raise 0x85 2

end Sys2Proof.Machine
end

