-- ==== Sys2Proof/Machine/Write.lean ====
section
/-! DEFINITION. Accesses of Burin to the address space: the unlock rule (spec 18 R444 to R450), what a write does at its
target (the chapters' own conditions), and reads with their side effects (R436, R441 to R443). -/
namespace Sys2Proof.Machine
open Sys2Proof

/-! ### The source of an access (R442) -/

/-- A write of SYS_ACT: while the source is not 0, only one that sets it to 0 is made. -/
def State.actWrite (s : State) (v : Nat) : State :=
  if s.actSrc ≠ 0 ∧ v % 8 ≠ 0 then s else s.put SYS_ACT SYS_ACT_SRC (v % 8)

/-- SYS_ACT_WRITE. -/
def execSysActWrite (v : BitVec 3) (s : State) : Host.Outcome State Fault Refusal :=
  done <| s.when s.burinReaches fun s => s.actWrite v.toNat

/-! ### Unlock windows (R444 to R447) -/

/-- A protected write or an unlock is refused (R447). -/
def State.protRefuse (s : State) (code : Nat) : State := (s.putB SYS_UNL_STAT SYS_UNL_STAT_REFUSED true).raise 0x86 code

/-- The operating time at which a window opened or renewed now closes (R446, R450). -/
def State.windowEnd (s : State) : Nat := s.opt.ms + 10 * max 1 (s.get SYS_PROT SYS_PROT_UNL_T)

/-- A window opens, or is timed anew. -/
def State.windowSet (s : State) (src block : Nat) : State :=
  let s := { s with sys := { s.sys with window := some ⟨src, block, s.windowEnd⟩ } }
  s.wr SYS_UNL_STAT (setF (setF (setF (setF (s.rd SYS_UNL_STAT) SYS_UNL_STAT_OPEN 1) SYS_UNL_STAT_SRC src)
    SYS_UNL_STAT_BLOCK block) SYS_UNL_STAT_LEFT (max 1 (s.get SYS_PROT SYS_PROT_UNL_T)))

/-- A source's first key is gone: a second key, or another write of its to block 0 (R445). -/
def State.keyGone (s : State) (src : Nat) : State :=
  { s with sys := { s.sys with keys := s.sys.keys.filter (fun k => k.1 ≠ src) } }

/-- The window stands at the present operating time. -/
def State.windowNow (s : State) : Option Window :=
  match s.sys.window with
  | some w => if s.opt.ms < w.until_ then some w else none
  | none => none

/-- A window that another source owns is open. -/
def State.windowOther (s : State) (src : Nat) : Bool :=
  match s.windowNow with
  | some w => w.src != src
  | none => false

/-- A source's first key for the block waits. -/
def State.keyWaits (s : State) (src block : Nat) : Bool := s.sys.keys.any (fun k => k.1 = src && k.2 = block)

/-- Why a write of SYS_UNLOCK is refused, by R447's codes; none where it is not (R445). -/
def State.keyCode (s : State) (src key block : Nat) : Option Nat :=
  if key = 0x00 then none
  else if (key ≠ 0x4B ∧ key ≠ 0xB4) ∨ 16 < block then some 5
  else if key = 0x4B then none
  else if !s.keyWaits src block then some 5
  else if s.flag SYS_PROT SYS_PROT_LOCK then some 3
  else if !(s.get SYS_PROT SYS_PROT_SRC_EN).testBit src || s.windowOther src then some 4
  else none

/-- KEY 0x00 closes the window of its owner; by another source it changes nothing (R445, R446). -/
def State.closeKey (s : State) (src : Nat) : State :=
  match s.sys.window with
  | some w => if w.src = src then s.closeWindow else s
  | none => s

/-- A write of SYS_UNLOCK by a source: a first key waits for its second, which opens a window for the block (R445). -/
def State.keyWrite (s : State) (src key block : Nat) : State :=
  let t := s.keyGone src
  match s.keyCode src key block with
  | some code => t.protRefuse code
  | none =>
    if key = 0x00 then t.closeKey src
    else if key = 0x4B then { t with sys := { t.sys with keys := t.sys.keys ++ [(src, block)] } }
    else t.windowSet src block

/-- FIRST_KEY: SYS_UNLOCK with KEY 0x4B (R445). -/
def execFirstKey (block : BitVec 5) (s : State) : Host.Outcome State Fault Refusal :=
  done <| s.when s.burinReaches fun s => s.keyWrite s.actSrc 0x4B block.toNat

/-- UNLOCK: SYS_UNLOCK with KEY 0xB4 (R445). -/
def execUnlock (block : BitVec 5) (s : State) : Host.Outcome State Fault Refusal :=
  done <| s.when s.burinReaches fun s => s.keyWrite s.actSrc 0xB4 block.toNat

/-- CLOSE: SYS_UNLOCK with KEY 0x00 (R446). -/
def execClose (s : State) : Host.Outcome State Fault Refusal :=
  done <| s.when s.burinReaches fun s => s.keyWrite s.actSrc 0x00 0

/-- UNLOCK_WINDOW_EXPIRY (R446). -/
def execUnlockWindowExpiry (s : State) : Host.Outcome State Fault Refusal :=
  done <| s.when (s.inRun && (match s.sys.window with | some w => decide (w.until_ ≤ s.opt.ms) | none => false)) fun s =>
    s.closeWindow

/-- The remaining time as SYS_UNL_STAT.LEFT shows it (R450). -/
def State.leftTick (s : State) : State :=
  match s.sys.window with
  | some w => s.put SYS_UNL_STAT SYS_UNL_STAT_LEFT ((w.until_ - s.opt.ms + 9) / 10)
  | none => s

/-- Why a protected write to a block is refused, by R447's codes (R444). -/
def State.protBlocked (s : State) (src block : Nat) : Option Nat :=
  if s.flag SYS_PROT SYS_PROT_LOCK then some 3
  else
    match s.windowNow with
    | none => some 1
    | some w => if w.src = src ∧ w.block = block then none else some 2

/-- The 8-byte record of an extension (R83): the address, or for the stencil store the step index, and the value. -/
def measRecord (a : Nat) (v : Word) : List Byte :=
  bytesLE 4 (if a < STEP 6144 ∧ STEP 0 ≤ a then (a - STEP 0) / 4 else a) ++ bytesLE 4 v.toNat

/-- The extension that precedes an accepted protected write (R83, R448). -/
def State.measure (s : State) (a : Nat) (v : Word) : State :=
  let r := measRecord a v
  (s.extend (if a < STEP 6144 ∧ STEP 0 ≤ a then 3 else 2) (sha256 r)).raise 0x15 4 0 r

/-! ### Writes at their target, block by block -/

/-- Block 0: the clock source, and system protection. LOCK written to 1 closes the window (R449). -/
def State.writeSys (s : State) (a : Nat) (src : Nat) (v w : Word) : State :=
  if a = SYS_UNLOCK then s.keyWrite src (getF v SYS_UNLOCK_KEY) (getF v SYS_UNLOCK_BLOCK)
  else if a = SYS_ACT then s.actWrite (getF v SYS_ACT_SRC)
  else
    let s := s.wr a w
    if a = SYS_PROT && s.flag SYS_PROT SYS_PROT_LOCK then s.closeWindow
    else if a = CLK_CFG && s.clk.inForce && s.srcCfg != s.clk.source && !s.clkBit CLK_STAT_HOLDOVER &&
        (s.srcCfg != .xtal || s.clkBit CLK_STAT_XTAL_OK) && (s.srcCfg != .ref || s.clkBit CLK_STAT_PLL_LOCK) then
      s.toSource s.srcCfg
    else s

/-- Block 2: the fault collector. -/
def State.writeFlt (s : State) (a i : Nat) (v w : Word) : State :=
  if a = FLT_STICKY i then s.stickyClear (finOf 8 i) v
  else if a = FLT_FORCE i then s.forceAll (finOf 8 i) v
  else s.faultWrite a w

/-- Block 4: the interrupt controller; OVF of IC_OVF clears its count (R93). -/
def State.writeIc (s : State) (a i : Nat) (v w : Word) : State :=
  if a = IC_SWDB then s.doorbell v
  else if a = IC_OVF i && getF v IC_OVF_OVF != 0 then s.wr a (setF w IC_OVF_COUNT 0)
  else s.wr a w

/-- PH_CTL of a phase (R147, R150). -/
def State.phCtlWrite (s : State) (n : Fin 16) (v : Word) : State :=
  let s := if getF v PH_CTL_FENCE != 0 then s.fenceWrite n else s
  if getF v PH_CTL_SUBST_REQ != 0 then s.updPhase n (fun p => { p with substReq := true, askAt := s.clk.frames, substIgn := false }) else s

/-- LOOP_CTL of a loop: EN as a rail's enable, the other fields as written (R109, R110, R316). -/
def State.loopCtlWrite (s : State) (m : Fin 4) (w : Word) : State :=
  (s.wr (LOOP_CTL m) (setF w LOOP_CTL_EN (s.get (LOOP_CTL m) LOOP_CTL_EN))).railWrite (.loop m) (getF w LOOP_CTL_EN != 0)

/-- A coefficient word of a bank: the active bank ignores it, and a DSH above 20 is ignored (R113). -/
def State.bankWrite (s : State) (m : Fin 4) (bank : Nat) (a : Nat) (w : Word) (dsh : Bool) : State :=
  if s.get (LOOP_BANK m) LOOP_BANK_ACTIVE = bank then s.putB (LOOP_STAT m) LOOP_STAT_WR_IGN true
  else if dsh && decide (20 < getF w LOOP_DSH_DSH) then s
  else s.wr a w

/-- Block 5: the phase engine; `ix` are the register's indices. -/
def State.writePe (s : State) (a : Nat) (ix : List Nat) (v w : Word) : State :=
  let i := ix.getD 0 0
  if a = PH_CFG i then s.phCfgWrite (finOf 16 i) v
  else if a = PH_CTL i then s.phCtlWrite (finOf 16 i) v
  else if a = LOOP_CTL i then s.loopCtlWrite (finOf 4 i) w
  else if a = LOOP_VSET i then
    (s.put a LOOP_VSET_SLEW (getF w LOOP_VSET_SLEW)).loopCodeWrite (finOf 4 i) (getF w LOOP_VSET_CODE)
  else if a = LOOP_FSW i then
    let per := s.get a LOOP_FSW_PER
    let s := (s.wr a w).updLoop (finOf 4 i) (fun l =>
      if getF w LOOP_FSW_PER = per then l
      else { l with askAt := s.clk.frames, pendPer := true, perAtOnce := l.run == .off })
    if getF w LOOP_FSW_SYNC_EN = 0 then s.syncOff (finOf 4 i) else s
  else if a = LOOP_DSH i (ix.getD 1 0) then s.bankWrite (finOf 4 i) (ix.getD 1 0) a w true
  else if a = LOOP_COEF i (ix.getD 1 0) (ix.getD 2 0) then s.bankWrite (finOf 4 i) (ix.getD 1 0) a w false
  else s.wr a w

/-- REG_CTL of a regulator: DIV of a buck is written only while it is disabled and within its range (R159, R172), and is
ignored for LDOs and load switches; EN as a rail's enable. -/
def State.regCtlWrite (s : State) (r : Fin 14) (w : Word) : State :=
  let old := s.get (REG_CTL r) REG_CTL_DIV
  let new := getF w REG_CTL_DIV
  let buck := decide (r.val < 6)
  let bad := buck && new != old && (s.regOn r || s.flag (REG_CTL r) REG_CTL_EN || divBad r new)
  let keep := setF (setF w REG_CTL_EN (s.get (REG_CTL r) REG_CTL_EN)) REG_CTL_DIV (if buck && !bad then new else old)
  let s := s.wr (REG_CTL r) keep
  (if bad then s.raise 0x46 r else s).railWrite (.reg r) (getF w REG_CTL_EN != 0)

/-- Block 6: the integrated regulators; a load switch has no setpoint code (R154). -/
def State.writeReg (s : State) (a i : Nat) (w : Word) : State :=
  if a = REG_CTL i then s.regCtlWrite (finOf 14 i) w
  else if a = REG_VSET i then
    if regKind (finOf 14 i) == .sw then s else s.regCodeWrite (finOf 14 i) (getF w REG_VSET_CODE)
  else s.wr a w

/-- Block 7: feeds, path and charger; a command waits for the next tick, the later of two governing (R188, R197). -/
def State.writePath (s : State) (a i : Nat) (v w : Word) : State :=
  if a = FEED_CFG i then
    let was := s.flag a FEED_CFG_EN
    let s := s.wr a w
    if was && getF w FEED_CFG_EN = 0 then s.feedDisable (finOf 2 i) else s
  else if a = CHG_CTL then
    let c := getF v CHG_CTL_CMD
    if 1 ≤ c && c ≤ 5 then s.updChg (fun x => { x with cmd := some c, askAt := s.clk.frames }) else s
  else s.chgWrite a w

/-- An urgent request by a register write: what the slot holds in which it reaches its core is open (log 2). -/
def State.urgentOpen (s : State) (q : Fin 2) (j : Fin 8) (v : Word) : State :=
  let f := s.free
  let e := f.1.toNat % 65
  let slot : UrgSlot := if h : e < 64 then .entry ⟨e, h⟩ else .none
  f.2.urgentWrite q j (getF v ADC_URG_INPUT) (getF v ADC_URG_CAL_EN != 0) slot

/-- Block 9: the housekeeping converters. -/
def State.writeAdc (s : State) (a : Nat) (ix : List Nat) (v w : Word) : State :=
  if a = ADC_URG (ix.getD 0 0) (ix.getD 1 0) then
    if getF v ADC_URG_GO != 0 then s.urgentOpen (finOf 2 (ix.getD 0 0)) (finOf 8 (ix.getD 1 0)) v else s.wr a w
  else s.adcWrite a (if a = ADC_CAL then v else w)

/-- Block 10: the contexts' words, in the order SRC, THR, FILT, ROR, GATE (R275). -/
def State.writeCtx (s : State) (a i : Nat) (v w : Word) : State :=
  let k := (a - CTX_SRC i) / 4
  if h : k < 5 ∧ CTX_SRC i ≤ a ∧ a < CTX_SRC 160 then s.contextWrite (finOf 160 i) ⟨k, h.1⟩ v else s.wr a w

/-- SEQ_CMD of a thread: a command waits for the next tick (R254). -/
def State.seqCmdWrite (s : State) (t : Fin 4) (v : Word) : State :=
  let label := if getF v SEQ_CMD_USE_LABEL != 0 then some (getF v SEQ_CMD_LABEL) else none
  match getF v SEQ_CMD_CMD with
  | 1 => s.updThr t (fun x => { x with cmd := some (1, label), askAt := s.clk.frames })
  | 2 => s.updThr t (fun x => { x with cmd := some (2, none), askAt := s.clk.frames })
  | _ => s

/-- Block 12: the sequencer. -/
def State.writeSeq (s : State) (a i : Nat) (v w : Word) : State :=
  if a = STEP i ∧ i < 6144 then s.storeWrite (finOf 6144 i) v
  else if a = SEQ_LABEL i then s.labelWrite (finOf 64 i) v
  else if a = SEQ_FLAG_SET then s.flagsSet v
  else if a = SEQ_FLAG_CLR then s.flagsClear v
  else if a = SEQ_CMD i then s.seqCmdWrite (finOf 4 i) v
  else s.wr a w

/-- NV_CMD (R344, R345). -/
def State.nvCmd (s : State) (c : Nat) : State :=
  match c with
  | 1 => s.burinWrite
  | 2 => s.burinErase
  | 3 => s.burinResume
  | _ => s

/-- Block 13: the Plate and the NV engine. -/
def State.writePlate (s : State) (a : Nat) (v w : Word) : State :=
  if a = PLATE_CTL then if getF v PLATE_CTL_SNAP != 0 then s.snapAsk (getF v PLATE_CTL_TAG) else s
  else if a = PLATE_CURSOR then s.cursorWrite (getF v PLATE_CURSOR_SLOT)
  else if a = NV_CMD then s.nvCmd (getF v NV_CMD_CMD)
  else s.wr a w

/-- Block 14: the clock. -/
def State.writeRtc (s : State) (a : Nat) (v w : Word) : State :=
  if a = RTC_CTL then s.rtcCmd (getF v RTC_CTL_CMD)
  else if a = RTC_TRIM then s.trimWrite (getF v RTC_TRIM_TRIM)
  else if a = RTC_WAKE then s.wakeWrite (getF v RTC_WAKE_PERIOD)
  else s.wr a w

/-- The port whose register an address is, among those at an offset of each port's block. -/
def portAt (at_ : Port → Nat) (a : Nat) : Option Port := allPorts.find? (fun p => at_ p = a)

/-- Block 15: the ports; no write changes the entries of the two hardware commands (R390). -/
def State.writePort (s : State) (a i : Nat) (v w : Word) : State :=
  match portAt MBX_TX a, portAt MBX_CTL a with
  | some p, _ => s.txWord p v
  | none, some p => if getF v MBX_CTL_DROP != 0 then s.rxDrop p else s
  | none, none =>
    if a = MBX_HTX then s.htxWrite v
    else if a = AUX_CMD then
      if getF v AUX_CMD_GO != 0 then s.auxGo (getF v AUX_CMD_ADDR) (getF v AUX_CMD_WLEN) (getF v AUX_CMD_RLEN) else s
    else if a = ADM_TAB i && s.flag a ADM_TAB_HW then s
    else s.wr a w

/-- Block 16: measurement, the start and the proof engine. -/
def State.writeBurin (s : State) (a : Nat) (v w : Word) : State :=
  if a = MR_CTL then
    let s := s.wr a w
    if getF v MR_CTL_GO != 0 then s.extendGo (getF v MR_CTL_TARGET) else s
  else if a = BOOT_STAT then if getF v BOOT_STAT_READY != 0 then s.readyWrite else s
  else if a = PRF_CTL then if getF v PRF_CTL_GO != 0 then s.proofGo else s
  else s.wr a w

/-- What a write does at its target: `v` is the word written, `w` the word its access codes would leave (R5). -/
def State.writeTo (s : State) (blk a : Nat) (ix : List Nat) (src : Nat) (v w : Word) : State :=
  let i := ix.getD 0 0
  match blk with
  | 0 => s.writeSys a src v w
  | 1 => if a = PWR_CTL then if getF v PWR_CTL_STANDBY_REQ != 0 then s.standbyReq else s else s.wr a w
  | 2 => s.writeFlt a i v w
  | 3 => if a = WD_CHECKIN then s.wdCheckin v s.checkinSource else s.wdWrite a w
  | 4 => s.writeIc a i v w
  | 5 => s.writePe a ix v w
  | 6 => s.writeReg a i w
  | 7 => s.writePath a i v w
  | 8 => if a = GG_SOC then s.socWrite v else s.wr a w
  | 9 => s.writeAdc a ix v w
  | 10 => s.writeCtx a i v w
  | 11 => s.thermalWrite a w
  | 12 => s.writeSeq a i v w
  | 13 => s.writePlate a v w
  | 14 => s.writeRtc a v w
  | 15 => s.writePort a i v w
  | _ => s.writeBurin a v w

/-! ### The whole of a write (R436, R441, R443, R448) -/

/-- How a write ended, as REG_WRITE tells them apart (R436). -/
inductive Written
  | made | refused | unmapped
  deriving DecidableEq, Repr

/-- A window write to a register that accepts writes from Burin alone is not made (R236, R344, R408, R443). -/
def State.burinOnly (s : State) (blk : Nat) : State := if blk = 8 then s.raise 0x66 0 else s.raise 0x86 0

/-- A write to a register of a peripheral block, whose own conditions decide what it does. -/
def State.regWrite (s : State) (blk a : Nat) (d : RegDef) (ix : List Nat) (v : Word) : State :=
  (s.writeTo blk a ix s.actSrc v (s.written a d v)).lock a d

/-- A protected write passes the unlock rule, extends its measurement register and crosses to its target, or is refused
(R444, R447, R448). -/
def State.protWrite (s : State) (blk a : Nat) (d : RegDef) (ix : List Nat) (v : Word) : State × Written :=
  match s.protBlocked s.actSrc blk with
  | some code => (s.protRefuse code, .refused)
  | none => (((s.windowSet s.actSrc blk).measure a v).regWrite blk a d ix v, .made)

/-- An access that Burin itself makes to nothing raises a precise bus-error exception in it (R441); the window's raises
none (R443). -/
def State.busError (s : State) : State :=
  if s.actSrc = 0 then { s with proc := { s.proc with busErrors := s.proc.busErrors + 1 } } else s

/-- A write to block 0, made or refused, cancels its source's first key; those of SYS_UNLOCK have rules of their own, and
SYS_ACT is Burin's (R445, log 37). -/
def State.keyCancel (s : State) (blk a : Nat) : State :=
  if blk = 0 ∧ a ≠ SYS_UNLOCK ∧ a ≠ SYS_ACT then s.keyGone s.actSrc else s

/-- A write by Burin of a word, on behalf of the source that SYS_ACT names. -/
def State.busWrite (s : State) (a : Nat) (v : Word) : State × Written :=
  match blockOf a with
  | some blk =>
    let s := s.keyCancel blk a
    match regAt a with
    | none => (s, .made)
    | some (d, ix) =>
      if d.guard == .burin && s.actSrc != 0 then (s.burinOnly blk, .refused)
      else if d.guard == .prot then s.protWrite blk a d ix v
      else
        let refused := a = SYS_UNLOCK && (s.keyCode s.actSrc (getF v SYS_UNLOCK_KEY) (getF v SYS_UNLOCK_BLOCK)).isSome
        (s.regWrite blk a d ix v, if refused then .refused else .made)
  | none =>
    if s.actSrc ≠ 0 then (s, .unmapped)
    else if a < 0x40000 then ({ s with itcm := memWrite s.itcm a (bytesLE 4 v.toNat) }, .made)
    else if 0x20000000 ≤ a ∧ a < 0x20020000 then
      ({ s with dtcm := memWrite s.dtcm (a - 0x20000000) (bytesLE 4 v.toNat) }, .made)
    else (s.busError, .unmapped)

/-- REGISTER_WRITE: a write of Burin to an address (R5, R60). -/
def execRegisterWrite (a v : BitVec 32) (s : State) : Host.Outcome State Fault Refusal :=
  done <| s.when s.burinReaches fun s => (s.busWrite a.toNat v).1

/-- The register an address names is protected (R444). -/
def isProtected (a : Nat) : Bool :=
  match regAt a with
  | some (d, _) => d.guard == .prot
  | none => false

/-- PROTECTED_WRITE (R448). -/
def execProtectedWrite (a v : BitVec 32) (s : State) : Host.Outcome State Fault Refusal :=
  done <| s.when (s.burinReaches && isProtected a.toNat) fun s => (s.busWrite a.toNat v).1

/-- PH_CFG_WRITE (R97, R127, R448): a protected write, judged at its target. -/
def execPhCfgWrite (n : Fin 16) (v : Word) (s : State) : Host.Outcome State Fault Refusal :=
  done <| s.when s.burinReaches fun s => (s.busWrite (PH_CFG n) v).1

/-- LABEL_WRITE, CONTEXT_WRITE, RTC_TRIM_WRITE and FORCE_RAISE (R242, R275, R370, R313, R448): protected writes, judged at
their targets. -/
def execLabelWrite (i : Fin 64) (v : Word) (s : State) : Host.Outcome State Fault Refusal :=
  done <| s.when s.burinReaches fun s => (s.busWrite (SEQ_LABEL i) v).1
def execContextWrite (i : Fin 160) (k : Fin 5) (v : Word) (s : State) : Host.Outcome State Fault Refusal :=
  done <| s.when s.burinReaches fun s => (s.busWrite (CTX_SRC i + 4 * k) v).1
def execRtcTrimWrite (v : BitVec 8) (s : State) : Host.Outcome State Fault Refusal :=
  done <| s.when s.burinReaches fun s => (s.busWrite RTC_TRIM (BitVec.ofNat 32 v.toNat)).1
def execForceRaise (n : BitVec 8) (s : State) : Host.Outcome State Fault Refusal :=
  done <| s.when s.burinReaches fun s => (s.busWrite (FLT_FORCE (n.toNat / 32)) (1 <<< (n.toNat % 32))).1

/-- GG_SOC_WRITE (R218, R236): Burin publishes; a write through the register window is not made. -/
def execGgSocWrite (v : Word) (s : State) : Host.Outcome State Fault Refusal :=
  done <| s.when s.burinReaches fun s => (s.busWrite GG_SOC v).1

/-- NV_WRITE, ERASE and RESUME (R344, R345): commands that Burin writes to NV_CMD; the register window makes none. -/
def execNvWrite (s : State) : Host.Outcome State Fault Refusal := done <| s.when s.burinReaches fun s => (s.busWrite NV_CMD 1).1
def execErase (s : State) : Host.Outcome State Fault Refusal := done <| s.when s.burinReaches fun s => (s.busWrite NV_CMD 2).1
def execResume (s : State) : Host.Outcome State Fault Refusal := done <| s.when s.burinReaches fun s => (s.busWrite NV_CMD 3).1

/-- STENCIL_STORE_WRITE (R264, R448): the unlock rule, the extension of MR3, and the store's own judgement. -/
def execStencilStoreWrite (i : Fin 6144) (v : BitVec 32) (s : State) : Host.Outcome State Fault Refusal :=
  done <| s.when s.burinReaches fun s => (s.busWrite (STEP i) v).1

/-! ### Reads (R205, R361, R369, R375, R382, R436, R441, R443) -/

/-- A read of a register of a block, with its side effects. -/
def State.regRead (s : State) (a : Nat) : Word × State :=
  if a = IC_CLAIM then if s.actSrc = 0 then s.claim else (0xFFFFFFFF, s)
  else if a = PLATE_WIN 4 then (s.live a, s.updPlate (fun p => { p with winLatch := some (s.live (PLATE_WIN 5)) }))
  else if a = PLATE_WIN 5 then (s.plate.winLatch.getD (s.live a), s.updPlate (fun p => { p with winLatch := none }))
  else if a = GG_QRAW_LO then (s.live a, s.updGg (fun g => { g with qrawHi := some (s.rd GG_QRAW_HI) }))
  else if a = GG_QRAW_HI then (s.gg.qrawHi.getD (s.live a), s.updGg (fun g => { g with qrawHi := none }))
  else if a = GG_QREF_LO then (s.live a, s.updGg (fun g => { g with qrefHi := some (s.rd GG_QREF_HI) }))
  else if a = GG_QREF_HI then (s.gg.qrefHi.getD (s.live a), s.updGg (fun g => { g with qrefHi := none }))
  else if a = RTC_SEC_LO then s.secLoRead
  else if a = RTC_SEC_HI then (rtcSecHi (s.opt.calLatch.getD s.calendar), s)
  else if a = RTC_DATE then (rtcDate (s.opt.calLatch.getD s.calendar), s)
  else if a = RTC_TIME then (rtcTime (s.opt.calLatch.getD s.calendar), s)
  else if a = RTC_OPT_LO then s.optLoRead
  else if a = RTC_OPT_HI then (BitVec.ofNat 32 (s.opt.optLatch.getD s.opt.ms / 2 ^ 32), s)
  else if a = MBX_HRX then s.hrxWord
  else
    match portAt MBX_RX a with
    | some p => s.rxWord p
    | none => (s.live a, s)

/-- A read by Burin of a word, on behalf of the source that SYS_ACT names; false: unmapped. -/
def State.busRead (s : State) (a : Nat) : Word × Bool × State :=
  match blockOf a with
  | some _ =>
    let r := s.regRead a
    (r.1, true, r.2)
  | none =>
    if 0x60000000 ≤ a ∧ a < 0x64000000 then (BitVec.ofNat 32 (memWord s.mram.cells (a - 0x60000000)), true, s)
    else if s.actSrc ≠ 0 then (0xFFFFFFFF, false, s)
    else if a < 0x40000 then (BitVec.ofNat 32 (memWord s.itcm a), true, s)
    else if 0x1FFF0000 ≤ a ∧ a < 0x1FFF8000 then
      (BitVec.ofNat 32 (ofBytesLE ((Config.romBytes.drop (a - 0x1FFF0000)).take 4)), true, s)
    else if 0x20000000 ≤ a ∧ a < 0x20020000 then (BitVec.ofNat 32 (memWord s.dtcm (a - 0x20000000)), true, s)
    else (0xFFFFFFFF, false, s.busError)

end Sys2Proof.Machine
end

