-- ==== Sys2Proof/Machine/Firmware.lean ====
section
/-! DEFINITION. How the standard firmware executes host commands: arrival, order of deadline, privileges, answers given at
once and answers that wait for hardware, and responses written to MBX_TX (spec 16 R391; spec 17 R409 to R417, R432). -/
namespace Sys2Proof.Machine
open Sys2Proof

/-! ### Packets that wait for firmware (R412) -/

/-- The words of a command (R383). -/
def cmdPacket (code : Nat) (c : HostCmd) : List Word :=
  header code c.tag.toNat c.cls.toNat c.payload.length :: c.payload

/-- Admitted packets by port: those read whole, then those that wait in the FIFOs. -/
def State.waiting (s : State) : List (Port × List Word) :=
  s.fw.taken ++ allPorts.flatMap (fun p => (s.port p).inq.map (fun ws => (p, ws)))

/-- A packet carries a tag. -/
def hasTag (t : Fin 96) (ws : List Word) : Bool := headTag (ws.getD 0 0) == t.val

/-- The packet of a QUEUED tag that waits. -/
def State.waitingFor (s : State) (t : Fin 96) : Option (List Word) :=
  if s.tags[t].st == .queued then
    ((s.waiting.filter (fun k => k.1 == s.tags[t].port && hasTag t k.2)).getLast?).map Prod.snd
  else none

/-- The packet is taken out of the FIFO. -/
def State.takePacket (s : State) (t : Fin 96) : State :=
  let p := s.tags[t].port
  let s := { s with fw := { s.fw with taken := s.fw.taken.filter (fun k => !(k.1 == p && hasTag t k.2)) } }
  s.updPort p (fun x => { x with inq := x.inq.filter (fun ws => !hasTag t ws) })

/-- A proof is being made for a command (R431). -/
def State.proofBusy (s : State) : Bool := s.flag PRF_STAT PRF_STAT_BUSY || s.fw.deferred.any (fun d => d.ans == .proof)

/-- A tag's deadline comes before another's, or equals it with an earlier admission (R412). -/
def State.earlier (s : State) (u t : Fin 96) : Bool :=
  decide (s.tags[u].due < s.tags[t].due) || (s.tags[u].due == s.tags[t].due && decide (s.tags[u].order < s.tags[t].order))

/-- A waiting packet that holds others up: a PROOF that waits for the proof before it does not (R431). -/
def State.holdsUp (s : State) (u : Fin 96) : Bool :=
  match s.waitingFor u with
  | none => false
  | some ws => !(headCode (ws.getD 0 0) == 0x60 && s.proofBusy)

/-- The packet is the one that firmware executes next. -/
def State.isNext (s : State) (t : Fin 96) (p : Port) (ws : List Word) : Bool :=
  s.burinReaches && s.layers && s.tags[t].port == p && s.waitingFor t == some ws &&
  (allFin 96).all (fun u => u == t || !s.holdsUp u || !s.earlier u t)

/-! ### Arrival -/

/-- A whole command of a host comes through its transport, between packets and with space for it (R384, R385, R389). -/
def State.deliver (s : State) (p : Port) (ws : List Word) : State :=
  let x := s.port p
  if !s.hostReaches p || !x.collect.isEmpty || x.missed != 0 || decide (64 < x.inUsed + ws.length) then s
  else if 63 < ws.length then (s.frameError p).refuse p (ws.getD 0 0) 0xE5
  else s.arrive p ws true

/-! ### Execution (R409, R410, R413, R437) -/

/-- What the execution of a command ends in: a response, an answer that waits for hardware, or nothing yet. -/
inductive Reply
  | now (status : Nat) (pay : List Word)
  | later (ans : Answer)
  | wait

/-- Ports that may issue a command; in recovery Ports A, B and C may issue each one that the ROM answers (R413, R437). -/
def State.permitted (s : State) (ports : List Port) (p : Port) : Bool :=
  if s.proc.mode == .recovery then p != .e else ports.contains p

/-- A response of firmware that the port accepts; otherwise it is discarded and counted (R391). -/
def State.reply (s : State) (t : Fin 96) (p : Port) (status : Nat) (pay : List Word) : State :=
  if s.accepts t p then s.answer t status pay
  else if s.layers then s.bump (PORT_STAT p) PORT_STAT_LATE else s

/-- An answer that waits. -/
def State.defer (s : State) (t : Fin 96) (a : Answer) : State :=
  { s with fw := { s.fw with deferred := s.fw.deferred ++ [⟨t, s.clk.frames, a⟩] } }

/-- The command of a tag is executed: privilege, then length and fields, then its effect. -/
def State.perform (s : State) (t : Fin 96) (ports : List Port) (pay : List Word) (ok : List Word → Bool)
    (run : State → Port → List Word → State × Reply) : State :=
  let p := s.tags[t].port
  let u := s.takePacket t
  if !s.permitted ports p then u.reply t p 0x03 []
  else if !ok pay then u.reply t p 0x01 []
  else
    match run u p pay with
    | (w, .now status l) => w.reply t p status l
    | (w, .later a) => w.defer t a
    | (_, .wait) => s

/-- A host command: it waits already, or it arrives now; the firmware executes it once it is the next in order. -/
def State.hostCommand (s : State) (code : Nat) (ports : List Port) (c : HostCmd) (ok : List Word → Bool)
    (run : State → Port → List Word → State × Reply) : State :=
  let ws := cmdPacket code c
  match tagOf c.tag.toNat with
  | none => s.deliver c.port ws
  | some t =>
    let s := if s.tags[t].port == c.port && s.waitingFor t == some ws then s else s.deliver c.port ws
    if s.isNext t c.port ws then s.perform t ports c.payload ok run else s

/-- The sets of ports in the command tables. -/
def portsABCE : List Port := [.a, .b, .c, .e]
def portsABC : List Port := [.a, .b, .c]
def portsC : List Port := [.c]

/-- A payload of `n` words. -/
def words (n : Nat) (pay : List Word) : Bool := pay.length == n

/-- One word whose bits outside a mask are reserved and 0. -/
def oneWord (mask : Word) (pay : List Word) : Bool :=
  match pay with
  | [w] => w &&& ~~~mask == 0
  | _ => false

/-- The registers of some addresses as they stand. -/
def State.lives (s : State) (l : List Nat) : List Word := l.map s.live

/-! ### Answers that wait (R414) -/

/-- The enable of a rail awaits its tick. -/
def State.enPending (s : State) : Rail → Bool
  | .loop m => s.loops[m].pendEn.isSome
  | .reg r => s.regul[r].pendEn.isSome
  | .ext _ => false

/-- EN, or EXT_EN, of a rail as latched. -/
def State.enLatched (s : State) : Rail → Bool
  | .loop m => s.latchedF (LOOP_CTL m) LOOP_CTL_EN != 0
  | .reg r => s.latchedF (REG_CTL r) REG_CTL_EN != 0
  | .ext k => s.seq.extEn.getLsbD k

/-- The setpoint of a rail awaits its tick. -/
def State.codePending (s : State) : Rail → Bool
  | .loop m => s.loops[m].pendCode
  | .reg r => s.regul[r].pendCode
  | .ext _ => false

/-- CODE of a rail as latched. -/
def State.codeLatched (s : State) : Rail → Nat
  | .loop m => s.latchedF (LOOP_VSET m) LOOP_VSET_CODE
  | .reg r => s.latchedF (REG_VSET r) REG_VSET_CODE
  | .ext _ => 0

/-- The job list holds no words of firmware. -/
def State.wordsWritten (s : State) : Bool := s.nv.q4.all (fun j => j.what != .words)

/-- No boot-select record waits to be written. -/
def State.bootWritten (s : State) : Bool :=
  s.bootWaits == 0

/-- What the answer reports stands: the first tick with the write in effect has passed (R414), or the hardware is done. -/
def State.answerReady (s : State) (d : Deferred) : Bool :=
  let ticked := decide (d.frm < s.clk.frames)
  match d.ans with
  | .rail id _ => ticked && (match railOf id with | some r => !s.enPending r | none => true)
  | .setV id _ => ticked && (match railOf id with | some r => !s.codePending r | none => true)
  | .subst n => ticked && !s.phases[n].substReq
  | .thread t => ticked && s.seq.thr[t].cmd.isNone
  | .flags => ticked
  | .charge => ticked && s.chg.cmd.isNone
  | .gaugeMode => ticked
  | .snapshot => ticked && s.plate.snapCmd.isNone
  | .rtcSet => ticked && s.opt.setCross.isNone
  | .rtcWake => ticked
  | .urgent q j => s.flag ADC_URG_DONE (bitF (8 * q + j)) && !s.flag (ADC_URG q j) ADC_URG_PEND
  | .begun _ => !s.flag NV_JRNL_STAT NV_JRNL_STAT_ACTIVE
  | .written => s.wordsWritten
  | .aux => !s.flag AUX_STAT AUX_STAT_BUSY
  | .proof => !s.flag PRF_STAT PRF_STAT_BUSY
  | .activated => s.bootWritten

/-- One bit as a word. -/
def bitWord (b : Bool) : Word := if b then 1 else 0

/-- The NV engine refused a write of the command (R343, R344). -/
def State.nvRefused (s : State) : Bool := s.flag NV_STAT NV_STAT_REFUSED

/-- Status and payload of an answer that waited. -/
def State.answerOf (s : State) (a : Answer) : Nat × List Word :=
  match a with
  | .rail id on =>
    match railOf id with
    | some r => (if on && !s.enLatched r then 0x07 else 0, [bitWord (s.enLatched r)])
    | none => (0, [0])
  | .setV id clamped =>
    match railOf id with
    | some r => (if clamped then 0x07 else 0, [BitVec.ofNat 32 (s.codeLatched r)])
    | none => (0, [0])
  | .subst n => (if s.phases[n].substIgn then 0x07 else 0, [s.latched (PH_STAT n)])
  | .thread t => (if s.seq.thr[t].refused then 0x05 else 0, [s.latched (SEQ_THR_STAT t)])
  | .flags => (0, [s.latched SEQ_FLAGS])
  | .charge => (if s.chg.ignored then 0x07 else 0, [s.latched CHG_STAT])
  | .gaugeMode => (0, [s.latched GG_CTL])
  | .snapshot => if s.plate.snapSkip then (0x04, []) else (0, [s.live PLATE_CHAIN])
  | .rtcSet => (0, [s.live RTC_STAT])
  | .rtcWake => (0, [s.latched RTC_WAKE])
  | .urgent q j => (0, [s.live (ADC_URG_RES q j)])
  | .begun copy => if s.nvRefused then (0x08, []) else (0, match copy with | some k => [BitVec.ofNat 32 k] | none => [])
  | .written => (if s.nvRefused then 0x08 else 0, [])
  | .aux =>
    let w := s.live AUX_STAT
    let bad := getF w AUX_STAT_NACK + getF w AUX_STAT_ARB + getF w AUX_STAT_TIMEOUT != 0
    (if bad then 0x0C else 0, w :: (List.range ((s.aux.rlen + 3) / 4)).map (fun k => s.live (AUX_DATA k)))
  | .proof => (0, (List.range 48).map (fun k => s.live (PRF_BODY k)))
  | .activated => (0, [])

/-- RESTART and STANDBY are answered first and acted on afterwards (R417). -/
def State.actLater (s : State) (standby : Bool) (t : Nat) : State :=
  { s with fw := { s.fw with acts := s.fw.acts ++ [(standby, t, s.clk.frames + 50)] } }

/-- What the firmware does besides: it clears the DONE bit of an urgent request (R421), and the ROM restarts D_PROC after an
activation (R437). -/
def State.answerDone (s : State) (t : Fin 96) (a : Answer) : State :=
  match a with
  | .urgent q j => s.putB ADC_URG_DONE (bitF (8 * q + j)) false
  | .activated => if s.proc.mode == .recovery then s.actLater false t.val else s
  | _ => s

/-- An answer that waits is written, once what it reports stands. -/
def State.answerWrite (s : State) (p : Port) (t : Fin 96) : State :=
  match s.fw.deferred.find? (fun d => d.tag == t.val) with
  | none => s
  | some d =>
    if !s.answerReady d || s.tags[t].port != p then s
    else
      let r := s.answerOf d.ans
      let s := { s with fw := { s.fw with deferred := s.fw.deferred.filter (fun x => x.tag != t.val) } }
      (s.answerDone t d.ans).reply t p r.1 r.2

/-- RESPONSE_WRITE (R391, R414). -/
def execResponseWrite (p : Port) (r : Response) (s : State) : Host.Outcome State Fault Refusal :=
  done <| s.when (s.burinReaches && s.layers) fun s =>
    match r with
    | .owed t => s.answerWrite p t
    | .words ws => ws.foldl (fun s w => s.txWord p w) s

/-! ### RESTART and STANDBY act after their answer (R417) -/

/-- It is due: its tag is FREE, or 50 frames have passed. -/
def State.actDue (s : State) (a : Bool × Nat × Nat) : Bool :=
  decide (a.2.2 ≤ s.clk.frames) || (match tagOf a.2.1 with | some t => s.tags[t].st == .free | none => true)

/-- STANDBY writes an ESTIMATE record and, once it is written, STANDBY_REQ (R417). -/
def State.standbyAct (s : State) : State := s.estStandby.nvFlush.standbyReq

/-- What a tick makes of those that are due. -/
def State.actAll (s : State) : List (Bool × Nat × Nat) → State
  | [] => s
  | a :: r =>
    if !s.burinReaches then s
    else if !s.actDue a then State.actAll s r
    else
      let s := { s with fw := { s.fw with acts := s.fw.acts.filter (fun b => b != a) } }
      State.actAll (if a.1 then s.standbyAct else s.procReset RST_CAUSE_CMD) r
def State.actTick (s : State) : State := s.actAll s.fw.acts

/-! ### Sessions (R432) -/

/-- The status of a command of a session from a port: none where the session is its own. -/
def sessionCheck (o : Option Session) (p : Port) : Option Nat :=
  match o with
  | none => some 0x05
  | some x => if x.port == p then none else some 0x04

/-- A session has had no command for 60 s of operating time. -/
def State.sessionOver (s : State) (o : Option Session) : Bool :=
  match o with
  | some x => decide (x.last + 60000 ≤ s.opt.ms)
  | none => false

/-- The session that stands: one that is over no longer exists (R432). -/
def State.openSession (s : State) (o : Option Session) : Option Session := if s.sessionOver o then none else o

/-- SESSION_TIMEOUT (R432). -/
def execSessionTimeout (s : State) : Host.Outcome State Fault Refusal :=
  done <| s.when (s.burinReaches && (s.sessionOver s.fw.cfg || s.sessionOver s.fw.img)) fun s =>
    { s with fw := { s.fw with cfg := if s.sessionOver s.fw.cfg then none else s.fw.cfg,
                               img := if s.sessionOver s.fw.img then none else s.fw.img } }

end Sys2Proof.Machine
end

