-- ==== Sys2Proof/Machine/Commands.lean ====
section
/-! DEFINITION. The host commands of the command reference: system, telemetry, rails, stencils, charger and gauge, the
Plate, the clock (spec 17 R416 to R429). -/
namespace Sys2Proof.Machine
open Sys2Proof

/-! ### System (R416 to R418) -/

/-- IDENTIFY. -/
def execIdentify (c : HostCmd) (s : State) : Host.Outcome State Fault Refusal :=
  done <| s.hostCommand 0x00 portsABCE c (words 0) fun s _ _ =>
    (s, .now 0 [0x6416, s.live BOOT_STAT, BitVec.ofNat 32 s.proc.fwVersion, BitVec.ofNat 32 Config.deviceId,
      BitVec.ofNat 32 (Config.deviceId / 2 ^ 32), s.live PWR_CYCLES])

/-- STATUS. -/
def execStatus (c : HostCmd) (s : State) : Host.Outcome State Fault Refusal :=
  done <| s.hostCommand 0x01 portsABCE c (words 0) fun s _ _ =>
    (s, .now 0 (s.lives [PWR_STATE, FLT_STAT, TH_STAT, PATH_STAT, CHG_STAT, SEQ_STAT, GG_SOC, RTC_STAT]))

/-- RESTART (R417). -/
def execRestart (c : HostCmd) (s : State) : Host.Outcome State Fault Refusal :=
  done <| s.hostCommand 0x02 portsABC c (fun pay => pay == [0x0000A55A]) fun s _ _ => (s.actLater false c.tag.toNat, .now 0 [])

/-- STANDBY (R417): refused while a condition of R67 is unmet. -/
def execStandby (c : HostCmd) (s : State) : Host.Outcome State Fault Refusal :=
  done <| s.hostCommand 0x03 portsABC c (words 0) fun s _ _ =>
    if s.standbyReady then (s.actLater true c.tag.toNat, .now 0 []) else (s, .now 0x05 [])

/-- The fuse field of a number: 0 PMIN, 1 PMAX, 2 WIN, 3 OUT_W (R416). -/
def WdFuse.field (f : WdFuse) : Nat → Option Nat
  | 0 => f.pmin
  | 1 => f.pmax
  | 2 => f.win
  | _ => f.outw

/-- The fuses with one field programmed (R327). -/
def WdFuse.program (f : WdFuse) (v : Nat) : Nat → WdFuse
  | 0 => { f with pmin := some v }
  | 1 => { f with pmax := some v }
  | 2 => { f with win := some v }
  | _ => { f with outw := some v }

/-- A value lies in its field's range (R327, R418). -/
def WdFuse.fits (f : WdFuse) (v : Nat) : Nat → Bool
  | 0 => decide (1 ≤ v ∧ v ≤ 1000 ∧ v ≤ f.pmax.getD 1000)
  | 1 => decide (f.pmin.getD 1 ≤ v ∧ v ≤ 1000)
  | 2 => decide (v ≤ 3)
  | _ => decide (1 ≤ v ∧ v ≤ 255)

/-- FUSE_WD (R418): the new value governs from the next cold start. -/
def execFuseWd (c : HostCmd) (s : State) : Host.Outcome State Fault Refusal :=
  done <| s.hostCommand 0x04 portsC c (fun pay => oneWord 0xFF0303FF pay && getF (pay.getD 0 0) ⟨24, 8⟩ == 0xF5) fun s _ pay =>
    let v := getF (pay.getD 0 0) ⟨0, 10⟩
    let f := getF (pay.getD 0 0) ⟨16, 2⟩
    if !s.fuse.fits v f then (s, .now 0x01 [])
    else if (s.fuse.field f).isSome then (s, .now 0x0D [])
    else
      let s := { s with fuse := s.fuse.program v f }
      (s, .now 0 [s.live (if f < 2 then WD_FUSE0 else WD_FUSE1)])

/-! ### Telemetry and faults (R419 to R422) -/

/-- An address of the Plate's window. -/
def isPlateWin (w : Word) : Bool := decide (PLATE_WIN 0 ≤ w.toNat ∧ w.toNat ≤ PLATE_WIN 15)

/-- TELEM_READ: the port hardware executes it as it arrives (R390, R420); `ecc` are the errors that its reads of PLATE_WIN
meet (R342). -/
def execTelemRead (c : HostCmd) (ecc : List EccRead) (s : State) : Host.Outcome State Fault Refusal :=
  let ecc := if s.hostReaches c.port && c.payload.any isPlateWin then ecc else []
  done <| ((s.eccFlip ecc).deliver c.port (cmdPacket codeTelemRead c)).eccReads ecc

/-- WD_CHECKIN: the port hardware executes it as it arrives (R390, R429). -/
def execWdCheckin (c : HostCmd) (clock : BitVec 12) (s : State) : Host.Outcome State Fault Refusal :=
  done <| s.when s.inRun fun s => (s.clockAt clock.toNat).deliver c.port (cmdPacket codeWdCheckin c)

/-- The first request register of a sequence that is not pending (R421). -/
def State.urgentFree (s : State) (q : Fin 2) : Option (Fin 8) := (allFin 8).find? (fun j => !s.flag (ADC_URG q j) ADC_URG_PEND)

/-- ADC_URGENT (R421). -/
def execAdcUrgent (c : HostCmd) (s : State) : Host.Outcome State Fault Refusal :=
  done <| s.hostCommand 0x11 portsABC c
    (fun pay => oneWord 0x00013F01 pay && !adcReserved (getF (pay.getD 0 0) ⟨8, 6⟩)) fun s _ pay =>
    let w := pay.getD 0 0
    let q : Fin 2 := finOf 2 (getF w ⟨0, 1⟩)
    match s.urgentFree q with
    | none => (s, .now 0x04 [])
    | some j =>
      if !s.adcRuns || !s.seqServed q then (s, .now 0x05 [])
      else
        let v := setF (setF (setF (0 : Word) ADC_URG_INPUT (getF w ⟨8, 6⟩)) ADC_URG_CAL_EN (getF w ⟨16, 1⟩)) ADC_URG_GO 1
        ((s.putB ADC_URG_DONE (bitF (8 * q + j)) false).urgentOpen q j v, .later (.urgent q j))

/-- FAULT_READ: `n` is the first ESN and `k` the number of FLT_INFO words. -/
def execFaultRead (c : HostCmd) (s : State) : Host.Outcome State Fault Refusal :=
  let n (pay : List Word) := getF (pay.getD 0 0) ⟨0, 8⟩
  let k (pay : List Word) := getF (pay.getD 0 0) ⟨8, 8⟩
  done <| s.hostCommand 0x12 portsABCE c
    (fun pay => oneWord 0xFFFF pay && decide (1 ≤ k pay ∧ k pay ≤ 54 ∧ n pay + k pay ≤ 256)) fun s _ pay =>
    (s, .now 0 (s.lives ((List.range 8).map FLT_STICKY ++ (List.range (k pay)).map (fun i => FLT_INFO (n pay + i)))))

/-- Masks written to FLT_STICKY in ascending order (R422). -/
def State.clearAll (s : State) (pay : List Word) : State :=
  (allFin 8).foldl (fun s w => s.stickyClear w (pay.getD w 0)) s

/-- FAULT_CLEAR (R422). -/
def execFaultClear (c : HostCmd) (s : State) : Host.Outcome State Fault Refusal :=
  done <| s.hostCommand 0x13 portsABC c (words 8) fun s _ pay =>
    let s := s.clearAll pay
    (s, .now 0 (s.lives ((List.range 8).map FLT_STICKY)))

/-! ### Rails (R423, R424) -/

/-- A shutdown runs: DOWN or FAULT is RUNNING or WAITING (R424). -/
def State.shuttingDown (s : State) : Bool := s.thRuns thDown || s.thRuns thFault

/-- RAIL_ENABLE and RAIL_DISABLE: external rails 16 to 31 have no enable (R424). -/
def State.railCommand (s : State) (on : Bool) (pay : List Word) : State × Reply :=
  match railOf (pay.getD 0 0).toNat with
  | none => (s, .now 0x02 [])
  | some r =>
    if 0x30 ≤ r.id then (s, .now 0x01 [])
    else if s.shuttingDown then (s, .now 0x05 [])
    else (s.railWrite r on, .later (.rail r.id on))

/-- RAIL_ENABLE. -/
def execRailEnable (c : HostCmd) (s : State) : Host.Outcome State Fault Refusal :=
  done <| s.hostCommand 0x20 portsABC c (oneWord 0xFF) fun s _ pay => s.railCommand true pay

/-- RAIL_DISABLE. -/
def execRailDisable (c : HostCmd) (s : State) : Host.Outcome State Fault Refusal :=
  done <| s.hostCommand 0x21 portsABC c (oneWord 0xFF) fun s _ pay => s.railCommand false pay

/-- The largest setpoint code of a rail's kind; none for load switches and external rails (R154, R424). -/
def railTop : Rail → Option Nat
  | .loop _ => some 4095
  | .reg r => if regKind r == .sw then none else some (regKind r).top
  | .ext _ => none

/-- The setpoint code a rail's register holds. -/
def State.railCode (s : State) : Rail → Nat
  | .loop m => s.get (LOOP_VSET m) LOOP_VSET_CODE
  | .reg r => s.get (REG_VSET r) REG_VSET_CODE
  | .ext _ => 0

/-- RAIL_SET_V. -/
def execRailSetV (c : HostCmd) (s : State) : Host.Outcome State Fault Refusal :=
  done <| s.hostCommand 0x22 portsABC c (oneWord 0x0FFF00FF) fun s _ pay =>
    let code := getF (pay.getD 0 0) ⟨16, 12⟩
    match railOf (getF (pay.getD 0 0) ⟨0, 8⟩) with
    | none => (s, .now 0x02 [])
    | some r =>
      match railTop r with
      | none => (s, .now 0x01 [])
      | some top =>
        if top < code then (s, .now 0x01 [])
        else if s.shuttingDown then (s, .now 0x05 [])
        else
          let s := s.railSetV r code
          (s, .later (.setV r.id (s.railCode r != code)))

/-- The four words of RAIL_STATUS. -/
def State.railWords (s : State) : Rail → List Word
  | .loop m => s.lives [LOOP_STAT m, LOOP_VSET m, LOOP_V m, LOOP_IW m]
  | .reg r => s.lives [REG_STAT r, REG_VSET r, REG_V r, REG_I r]
  | .ext k =>
    match s.railContext k with
    | some i => s.lives [CTX_STAT i, CTX_VAL i, CTX_THR i] ++ [0]
    | none => [0, 0, 0, 0]

/-- RAIL_STATUS. -/
def execRailStatus (c : HostCmd) (s : State) : Host.Outcome State Fault Refusal :=
  done <| s.hostCommand 0x23 portsABCE c (oneWord 0xFF) fun s _ pay =>
    match railOf (pay.getD 0 0).toNat with
    | none => (s, .now 0x02 [])
    | some r => (s, .now 0 (s.railWords r))

/-- PHASE_SUBST. -/
def execPhaseSubst (c : HostCmd) (s : State) : Host.Outcome State Fault Refusal :=
  done <| s.hostCommand 0x24 portsC c (oneWord 0xF) fun s _ pay =>
    let n : Fin 16 := finOf 16 (pay.getD 0 0).toNat
    (s.phCtlWrite n (setF 0 PH_CTL_SUBST_REQ 1), .later (.subst n))

/-! ### Stencils (R425) -/

/-- THREAD_START. -/
def execThreadStart (c : HostCmd) (s : State) : Host.Outcome State Fault Refusal :=
  done <| s.hostCommand 0x30 portsABC c (oneWord 0xBF03) fun s _ pay =>
    let w := pay.getD 0 0
    let t : Fin 4 := finOf 4 (getF w ⟨0, 2⟩)
    let v := setF (setF (setF (0 : Word) SEQ_CMD_CMD 1) SEQ_CMD_LABEL (getF w ⟨8, 6⟩)) SEQ_CMD_USE_LABEL (getF w ⟨15, 1⟩)
    (s.seqCmdWrite t v, .later (.thread t))

/-- THREAD_STOP. -/
def execThreadStop (c : HostCmd) (s : State) : Host.Outcome State Fault Refusal :=
  done <| s.hostCommand 0x31 portsABC c (oneWord 3) fun s _ pay =>
    let t : Fin 4 := finOf 4 (pay.getD 0 0).toNat
    (s.seqCmdWrite t (setF 0 SEQ_CMD_CMD 2), .later (.thread t))

/-- SEQ_FLAGS: a flag named in both masks is left set. -/
def execSeqFlags (c : HostCmd) (s : State) : Host.Outcome State Fault Refusal :=
  done <| s.hostCommand 0x32 portsABC c (words 2) fun s _ pay =>
    ((s.flagsClear (pay.getD 1 0)).flagsSet (pay.getD 0 0), .later .flags)

/-- THREAD_STATUS. -/
def execThreadStatus (c : HostCmd) (s : State) : Host.Outcome State Fault Refusal :=
  done <| s.hostCommand 0x33 portsABCE c (words 0) fun s _ _ =>
    (s, .now 0 (s.lives (SEQ_STAT :: (List.range 4).map SEQ_THR_STAT)))

/-! ### Charger and gauge (R426) -/

/-- The present state of the charger accepts a command (R188, R426). -/
def State.chgAccepts (s : State) (cmd : Nat) : Bool :=
  let st := s.chgState
  match cmd with
  | 1 => (st == chgIdle || st == chgZch || st == chgSafeHold) && s.chg.packId
  | 2 => charging st
  | 3 => charging st
  | 4 => st == chgZch && s.flag CHG_STAT CHG_STAT_HOLD_REL
  | _ => st != chgNoPack && st != chgPackQual

/-- A command that is written and answered WRITE_IGNORED though R188 does not take it: others than START and STOP in
SAFE_HOLD, and a RELEASE without HOLD_REL (R426; DEDUCED, log 35). -/
def State.chgForced (s : State) (cmd : Nat) : Bool :=
  (s.chgState == chgSafeHold && cmd != 1 && cmd != 5) || (cmd == 4 && !s.flag CHG_STAT CHG_STAT_HOLD_REL)

/-- CHARGE (R426). -/
def execCharge (c : HostCmd) (s : State) : Host.Outcome State Fault Refusal :=
  done <| s.hostCommand 0x38 portsABC c
    (fun pay => oneWord 7 pay && decide (1 ≤ (pay.getD 0 0).toNat ∧ (pay.getD 0 0).toNat ≤ 5)) fun s _ pay =>
    let cmd := (pay.getD 0 0).toNat
    if !s.chgAccepts cmd && !s.chgForced cmd then (s, .now 0x05 [])
    else (s.updChg (fun x => { x with cmd := some cmd, askAt := s.clk.frames, ignored := false }), .later .charge)

/-- CHARGE_STATUS. -/
def execChargeStatus (c : HostCmd) (s : State) : Host.Outcome State Fault Refusal :=
  done <| s.hostCommand 0x39 portsABCE c (words 0) fun s _ _ =>
    (s, .now 0 (s.lives [CHG_STAT, CHG_TIME, CHG_IIN, PATH_STAT, PATH_V, GG_I]))

/-- GAUGE_READ. -/
def execGaugeRead (c : HostCmd) (s : State) : Host.Outcome State Fault Refusal :=
  done <| s.hostCommand 0x40 portsABCE c (words 0) fun s _ _ =>
    (s, .now 0 (s.lives [GG_SOC, GG_FCC, GG_HEALTH, GG_TIME, GG_EFLAGS, GG_STAT, GG_Q, GG_VPACK, GG_REST_AGE]))

/-- GAUGE_MODE. -/
def execGaugeMode (c : HostCmd) (s : State) : Host.Outcome State Fault Refusal :=
  done <| s.hostCommand 0x41 portsC c (oneWord 1) fun s _ pay =>
    (s.put GG_CTL GG_CTL_COMMISSION (pay.getD 0 0).toNat, .later .gaugeMode)

/-- GAUGE_CELLS. -/
def execGaugeCells (c : HostCmd) (s : State) : Host.Outcome State Fault Refusal :=
  done <| s.hostCommand 0x42 portsABCE c (words 0) fun s _ _ =>
    (s, .now 0 (s.lives ((List.range 8).map GG_CELL ++ [GG_CELL_EXT, GG_CELL_STAT])))

/-! ### The Plate (R427, R428) -/

/-- PLATE_INFO. -/
def execPlateInfo (c : HostCmd) (s : State) : Host.Outcome State Fault Refusal :=
  done <| s.hostCommand 0x48 portsABCE c (words 0) fun s _ _ =>
    (s, .now 0 (s.lives ([PLATE_STAT, PLATE_SEQ, PLATE_WPTR, PLATE_CHAIN] ++ (List.range 5).map PLATE_SEVCNT ++
      (List.range 5).map PLATE_DROP)))

/-- The slots that a PLATE_READ names. -/
def readSlots (w : Word) : List Nat :=
  (List.range (getF w ⟨24, 2⟩)).map (fun r => (getF w ⟨0, 20⟩ + r) % plateSlots)

/-- The response of PLATE_READ (R428). -/
def State.plateWords (s : State) (w : Word) : List Word :=
  let l := readSlots w
  let ok := (List.range l.length).foldl (fun n r => if slotValid (s.slotBytes (l.getD r 0)) then n + 2 ^ (29 + r) else n) 0
  BitVec.ofNat 32 (s.get PLATE_WPTR PLATE_WPTR_SLOT + ok) ::
    l.flatMap (fun i => (List.range 16).map (fun k => BitVec.ofNat 32 (memWord s.mram.cells (slotAt i + 4 * k))))

/-- PLATE_READ (R428, R342): `ecc` are the errors its reads meet. -/
def execPlateRead (c : HostCmd) (ecc : List EccRead) (s : State) : Host.Outcome State Fault Refusal :=
  done <| s.hostCommand 0x49 portsABCE c
    (fun pay => oneWord 0x030FFFFF pay && getF (pay.getD 0 0) ⟨24, 2⟩ != 0 && decide (getF (pay.getD 0 0) ⟨0, 20⟩ < plateSlots))
    fun s _ pay =>
      let s := s.eccFlip ecc
      (s.eccReads ecc, .now 0 (s.plateWords (pay.getD 0 0)))

/-- PLATE_SNAPSHOT (R428). -/
def execPlateSnapshot (c : HostCmd) (s : State) : Host.Outcome State Fault Refusal :=
  done <| s.hostCommand 0x4A portsABC c (oneWord 0xFFFF) fun s _ pay =>
    if s.flag PLATE_STAT PLATE_STAT_SNAP_BUSY then (s, .now 0x04 [])
    else (s.snapAsk (pay.getD 0 0).toNat, .later .snapshot)

/-! ### The clock (R429) -/

/-- RTC_READ: the calendar and the operating time are read low half first (R369, R375). -/
def execRtcRead (c : HostCmd) (s : State) : Host.Outcome State Fault Refusal :=
  done <| s.hostCommand 0x50 portsABCE c (words 0) fun s _ _ =>
    let stat := s.live RTC_STAT
    let a := s.secLoRead
    let b := a.2.optLoRead
    (b.2, .now 0 [stat, a.1, rtcSecHi s.calendar, b.1, BitVec.ofNat 32 (s.opt.ms / 2 ^ 32), s.live RTC_SWO_CNT])

/-- Seconds of a RTC_SET. -/
def setSeconds (pay : List Word) : Nat := (pay.getD 0 0).toNat + 2 ^ 32 * getF (pay.getD 1 0) ⟨0, 16⟩

/-- RTC_SET (R370, R429). -/
def execRtcSet (c : HostCmd) (s : State) : Host.Outcome State Fault Refusal :=
  done <| s.hostCommand 0x51 portsABC c
    (fun pay => words 2 pay && pay.getD 1 0 &&& 0xFF000000 == 0 && decide (setSeconds pay ≤ 6311433599)) fun s _ pay =>
    (((s.wr RTC_SET_LO (pay.getD 0 0)).wr RTC_SET_HI (pay.getD 1 0)).rtcCmd 1, .later .rtcSet)

/-- RTC_CLEAR_SWO. -/
def execRtcClearSwo (c : HostCmd) (s : State) : Host.Outcome State Fault Refusal :=
  done <| s.hostCommand 0x52 portsC c (words 0) fun s _ _ => (s.rtcCmd 2, .now 0 [])

/-- RTC_WAKE. -/
def execRtcWake (c : HostCmd) (s : State) : Host.Outcome State Fault Refusal :=
  done <| s.hostCommand 0x53 portsABC c (oneWord 0x01FFFFFF) fun s _ pay => (s.wakeWrite (pay.getD 0 0).toNat, .later .rtcWake)

end Sys2Proof.Machine
end

