-- ==== Sys2Proof/Machine/PhaseTick.lean ====
section
/-! DEFINITION. The tick's work of the phase engine and of the regulators: bank swap, telemetry, DLL, reference and period
slews, runs towards PG, shedding and adding (spec 05 R106, R108, R113, R117, R119, R125; spec 06 R130 to R141; spec 07
R156, R158, R160 to R162). -/
namespace Sys2Proof.Machine
open Sys2Proof

/-- A value moved towards another by at most a step. -/
def moveTo (v t step : Nat) : Nat := if v ≤ t then min t (v + step) else max t (v - step)

/-! ### Phase telemetry (R125) -/

/-- The mean current of `num` codes of a sum, in 10 mA, rounded once (R9, R104, R125); a GAIN of 0 leaves it open (log 2). -/
def State.imonMean (s : State) (n : Fin 16) (sum num : Nat) : Int :=
  let gain := s.get (PH_IMON n) PH_IMON_GAIN
  let ofs := s.get (PH_IMON n) PH_IMON_OFS
  if gain = 0 then (Config.freeWord s.freeCtr).toInt
  else roundDiv (((num : Int) * (128000 - 64 * (ofs : Int)) + 1250 * (sum : Int)) * 625) (4 * gain * num)

/-- PH_TEL and PH_DUTY of a phase; the frame's sums begin anew. A frame without a sample keeps the last telemetry. -/
def State.phTelemetry (s : State) (n : Fin 16) : State :=
  let p := s.phases[n]
  let i := s.imonMean n p.sum p.num
  let s := if p.num != 0 && s.get (PH_IMON n) PH_IMON_GAIN = 0 then { s with freeCtr := s.freeCtr + 1 } else s
  let s := if p.num = 0 then s else
    s.wr (PH_TEL n) (setF (setF 0 PH_TEL_I_AVG (satI 16 i)) PH_TEL_I_PK (satI 16 p.peak))
  let m := s.loopOf n
  let ofs := if s.inInterleave n then s.offsetOf n m else 0
  let s := s.wr (PH_DUTY n) (setF (setF 0 PH_DUTY_TON (min 65535 p.ton)) PH_DUTY_OFS (min 65535 ofs))
  s.updPhase n (fun p => { p with sum := 0, num := 0, peak := 0, ocSaid := false })

/-! ### Loop telemetry (R125) -/

/-- Sum of I_AVG of the loop's phases that are not fenced, 10 mA (R125, R129). -/
def State.loopCurrent (s : State) (m : Fin 4) : Int :=
  ((s.phasesOf m).filter (fun n => s.phState n != phFenced)).foldl (fun (t : Int) (n : Fin 16) => t + s.getI (PH_TEL n) PH_TEL_I_AVG) 0

/-- 40 SLEW times the mean of the reference over the ended frame (R106, R125): it stood at `v0` until the ramp began, moved
to `v1` at SLEW codes per µs, and stood there. A stopped loop's reference counts as 0 V through its last frame (DESIGN
CHOICE, log 15). -/
def State.refArea (s : State) (m : Fin 4) (v0 v1 : Nat) : Nat :=
  let d := if v0 ≤ v1 then v1 - v0 else v0 - v1
  let slew := max 1 (s.get (LOOP_VSET m) LOOP_VSET_SLEW)
  20 * slew * v0 * s.loops[m].late + (v0 + v1) * d + 2 * v1 * (s.rampStep m - d)

/-- LOOP_V in 125 µV, from the mean of the reference and the sum of the frame's 500 codes, or at an edge of the window where
it saturated; at both edges the value is open (log 2). -/
def State.loopVolts (s : State) (m : Fin 4) (v0 v1 : Nat) (lo hi sum : Int) : Nat :=
  let k : Int := (s.get (LOOP_SCALE m) LOOP_SCALE_KDIV : Nat)
  let slew := max 1 (s.get (LOOP_VSET m) LOOP_VSET_SLEW)
  let at_ (c : Int) : Nat := satN 16
    (roundDiv ((((25 * s.refArea m v0 v1 : Nat) : Int) + 2 * (slew : Int) * c) * 5 * k) (8192000 * slew))
  if lo ≤ -256 && 255 ≤ hi then (Config.freeWord s.freeCtr).toNat % 65536
  else if lo ≤ -256 then at_ (-128000)
  else if 255 ≤ hi then at_ (500 * 255)
  else at_ sum

/-- The reference's move within a frame (R106). -/
def State.vrefNext (s : State) (m : Fin 4) : Nat :=
  let l := s.loops[m]
  if l.run == .on || l.run == .softStop then
    moveTo l.vref l.target (s.rampStep m)
  else l.vref

/-- The telemetry registers of a loop. -/
def State.loopTelemetry (s : State) (x : FrameIn) (m : Fin 4) : State :=
  let lo := x.loopMin[m].toInt
  let hi := x.loopMax[m].toInt
  let v0 := s.loops[m].v0
  let v1 := s.vrefNext m
  let v := s.loopVolts m v0 v1 lo hi x.loopSum[m].toInt
  let i := s.loopCurrent m
  let both := lo ≤ -256 && 255 ≤ hi
  let s := if both then { s with freeCtr := s.freeCtr + 1 } else s
  let s := (s.put (LOOP_V m) LOOP_V_V v).put (LOOP_I m) LOOP_I_I (satI 16 i)
  let s := (s.put (LOOP_IW m) LOOP_IW_I (satI 32 i)).put (LOOP_P m) LOOP_P_P (satN 32 (roundDiv ((v : Int) * i) 800))
  let s := s.wr (LOOP_ERR m) (setF (setF 0 LOOP_ERR_EMIN (wrapI 9 lo)) LOOP_ERR_EMAX (wrapI 9 hi))
  let s := s.put (LOOP_DUTY m) LOOP_DUTY_D s.loops[m].duty
  (s.putB (LOOP_STAT m) LOOP_STAT_OOW (lo ≤ -256 || 255 ≤ hi)).updLoop m (fun l =>
    { l with vref := v1, v0 := v1, late := 0, delay := l.delay - 2 })

/-! ### Runs of the tick (R108, R113, R119, R137) -/

/-- Requested banks swap (R113). -/
def State.bankSwap (s : State) (m : Fin 4) : State :=
  if s.flag (LOOP_BANK m) LOOP_BANK_SWAP_REQ then
    (s.putB (LOOP_BANK m) LOOP_BANK_SWAP_REQ false).put (LOOP_BANK m) LOOP_BANK_ACTIVE
      (1 - s.get (LOOP_BANK m) LOOP_BANK_ACTIVE)
  else s

/-- The period slews at 1 % of the old value per ms (R119, R121). -/
def slewPer (l : LoopSt) : LoopSt :=
  if l.per = l.perTo then { l with perAcc := 0 }
  else
    let a := l.perAcc + l.perOld
    { l with per := moveTo l.per l.perTo (a / 5000), perAcc := a % 5000 }

/-- The phase of a loop that acquires SYNC_IN is pulled in by at most 1 % of PER in each period (R121). -/
def pullIn (l : LoopSt) : LoopSt :=
  if l.syncOn then
    let d : Int := (l.pullStep : Nat)
    { l with phErr := if l.phErr < -d then l.phErr + d else if d < l.phErr then l.phErr - d else 0 }
  else l

/-- The frame's error stayed within PG_WIN and the reference stands (R108). -/
def State.pgTick (s : State) (m : Fin 4) : Bool :=
  let w : Int := (s.get (LOOP_CTL m) LOOP_CTL_PG_WIN : Nat)
  s.loops[m].run == .on && !s.flag (LOOP_STAT m) LOOP_STAT_RAMP &&
  decide (-w ≤ s.getI (LOOP_ERR m) LOOP_ERR_EMIN) && decide (s.getI (LOOP_ERR m) LOOP_ERR_EMAX ≤ w)

/-- ESN 0x30 + m code 0x04 for the fires of the ended frame (R137). -/
def State.fireEvent (s : State) (m : Fin 4) : State :=
  let n := s.loops[m].fires
  if n = 0 then s else (s.raise (0x30 + m) 0x04 (min 255 n)).updLoop m (fun l => { l with fires := 0 })

/-! ### Imbalance runs (R141) -/

/-- The loop's frames that neither count nor reset the run. -/
def State.imbPaused (s : State) (m : Fin 4) : Bool :=
  s.loops[m].disturbed || (s.phasesOf m).any (fun n => s.phState n == phShedding)

/-- A phase's deviation from the loop's mean, both times NACT, in 10 mA; and whether it deviates. -/
def State.imbDeviates (s : State) (m : Fin 4) (n : Fin 16) : Nat × Bool :=
  let k := s.get (LOOP_STAT m) LOOP_STAT_NACT
  let iw := s.getI (LOOP_IW m) LOOP_IW_I
  let d := ((k : Int) * s.getI (PH_TEL n) PH_TEL_I_AVG - iw).natAbs
  (d, decide (s.get (LOOP_IMB m) LOOP_IMB_ITH * max iw.natAbs (500 * k) < 100 * d))

/-- The run of one phase (R141). -/
def State.imbRun (s : State) (m : Fin 4) (n : Fin 16) : State :=
  if s.get (LOOP_STAT m) LOOP_STAT_NACT < 3 || s.imbPaused m || s.phases[n].rngSaid || s.phases[n].imbHeld ||
    s.phState n != phActive then s
  else
    let d := s.imbDeviates m n
    s.updPhase n (fun p =>
      if d.2 then { p with imbRun := p.imbRun + 1, imbDev := d.1 } else { p with imbRun := 0, imbDev := 0, imbSaid := false })

/-! ### Shedding and adding (R130, R133) -/

/-- The run towards a shed (R130). -/
def State.shedRun (s : State) (m : Fin 4) : State :=
  let n := s.get (LOOP_STAT m) LOOP_STAT_NACT
  let low := decide (s.getI (LOOP_IW m) LOOP_IW_I < ((n * s.get (LOOP_SHED m) LOOP_SHED_DROP_I * 25 : Nat) : Int))
  s.updLoop m (fun l => { l with shedRun := if low && !l.disturbed && l.run == .on then l.shedRun + 1 else 0 })

/-- A re-shed hold-off runs (R132). -/
def State.holdoffRuns (s : State) (m : Fin 4) : Bool :=
  match s.loops[m].holdoff with | some f => decide (s.clk.frames < f) | none => false

/-- A shed is decided (R130). -/
def State.shedDecided (s : State) (m : Fin 4) (thr : Nat) : Bool :=
  let n := s.get (LOOP_STAT m) LOOP_STAT_NACT
  s.loops[m].run == .on && s.flag (LOOP_CTL m) LOOP_CTL_SHED_EN && decide (16 ≤ s.loops[m].shedRun) &&
  decide (s.getI (LOOP_IW m) LOOP_IW_I < (((n - 1) * s.get (LOOP_SHED m) LOOP_SHED_ADD_I * 25 : Nat) : Int)) &&
  decide (max 1 (s.get (LOOP_SHED m) LOOP_SHED_NMIN) < n) && (s.phasesOf m).all (fun k => s.phState k != phShedding) &&
  !s.holdoffRuns m && decide (thr < 2)

/-- The highest slot's phase begins its ramp (R131). -/
def State.beginShed (s : State) (m : Fin 4) : State :=
  match (s.interleave m).reverse with
  | n :: _ => if s.phState n == phActive then (s.setPh n phShedding).updPhase n (fun p => { p with shedJ := 0 }) else s
  | [] => s

/-- The shed phase with the lowest POS joins where load or throttling asks for it (R133). -/
def State.addPhase (s : State) (m : Fin 4) (thr : Nat) : State :=
  let n := s.get (LOOP_STAT m) LOOP_STAT_NACT
  let asked := decide (2 ≤ thr) ||
    decide (((n * s.get (LOOP_SHED m) LOOP_SHED_ADD_I * 25 : Nat) : Int) < s.getI (LOOP_IW m) LOOP_IW_I)
  if s.loops[m].run != .on || s.loops[m].join || !asked then s
  else match (s.byPos m).find? (fun k => s.phState k == phShed) with
    | some k => (((s.setPh k phActive).raise (0x20 + k) 0x08).disturb m).reslot m
    | none => s

/-! ### The loops' share of a tick -/

/-- Telemetry and runs of one loop. -/
def State.loopFrame (s : State) (x : FrameIn) (m : Fin 4) : State :=
  let s := (((s.bankSwap m).loopTelemetry x m).updLoop m (fun l => pullIn (slewPer l))).fireEvent m
  let s := s.updLoop m (fun l => { l with pgRun := if s.pgTick m then l.pgRun + 1 else 0 })
  (s.phasesOf m).foldl (fun s n => s.imbRun m n) s

/-- Decisions of one loop at a throttle level; the new frame is undisturbed unless a fire or a brake runs on. -/
def State.loopDecide (s : State) (thr : Nat) (m : Fin 4) : State :=
  let s := s.shedRun m
  let on := s.flag (LOOP_STAT m) LOOP_STAT_APF || s.flag (LOOP_STAT m) LOOP_STAT_BRAKE
  let s := s.updLoop m (fun l => { l with disturbed := on })
  if s.shedDecided m thr then s.beginShed m else s.addPhase m thr

/-- The DLL's calibration of the frame (R117). -/
def State.dllTick (s : State) (pass : Bool) : State :=
  if pass then
    let s := { s with pe := { s.pe with dllSaid := false } }
    (s.put DLL_STAT DLL_STAT_AGE 0).put DLL_STAT DLL_STAT_FAIL_CNT 0
  else (s.bump DLL_STAT DLL_STAT_AGE).bump DLL_STAT DLL_STAT_FAIL_CNT

/-- What SYNC_IN shows at a tick (R121, R123): PRESENT from its first edge on, and its newest measured period. -/
def State.syncTick (s : State) (x : FrameIn) : State :=
  (s.putB SYNC_STAT SYNC_STAT_PRESENT x.syncEdge).put SYNC_STAT SYNC_STAT_PER (if x.syncEdge then x.syncPer.toNat else 0)

/-- The phase engine's telemetry and runs at a tick. -/
def State.phaseTick (s : State) (x : FrameIn) : State :=
  let s := s.syncTick x
  let s := (allFin 16).foldl (fun s n => s.phTelemetry n) s
  let s := (allFin 4).foldl (fun s m => s.loopFrame x m) s
  let s := (allFin 16).foldl (fun s n => s.updPhase n (fun p => { p with rngSaid := false })) s
  let s := if x.stgFlt then s else s.putB PE_STAT PE_STAT_STG_FLT false
  s.dllTick x.dllPass

/-- The phase engine's decisions at a tick, with the throttle level that the tick latches. -/
def State.phaseDecide (s : State) : State :=
  let thr := s.get TH_STAT TH_STAT_THR_LVL
  (allFin 4).foldl (fun s m => s.loopDecide thr m) s

/-! ### Regulators (R156, R158, R160 to R162) -/

/-- Cycles are skipped in a buck (R161): by the throttle level in force, unless its output stands 1 % low. -/
def State.skips (s : State) (r : Fin 14) (v thr : Nat) : Bool :=
  decide (r.val < 6) && s.regOn r && decide (1 ≤ thr) && getF (s.rd (REG_THR r)) ⟨2 * (thr - 1), 2⟩ != 0 &&
  !below v s.regul[r].vref 990

/-- One regulator's telemetry, ramp and runs; `thr`: the throttle level of the ended frame. A tick counts towards PG only
while no move of the reference is under way, a later one included (R156; DESIGN CHOICE, log 18). -/
def State.regFrame (s : State) (x : FrameIn) (thr : Nat) (r : Fin 14) : State :=
  let v := x.regV[r].toNat
  let s := ((s.put (REG_V r) REG_V_V (min 65535 v)).put (REG_I r) REG_I_I x.regI[r].toNat).wr (REG_LOSS r) x.regLoss[r]
  let g := s.regul[r]
  let on := s.regOn r
  let n := s.rampFrames r
  let fine := if on then s.refNext r else s.refNow r
  let ref := fine / n
  let s := s.putB (REG_STAT r) REG_STAT_SKIP (s.skips r v thr)
  let s := s.putB (REG_STAT r) REG_STAT_LIMIT g.limSeen
  let uv := g.uvNow && below v (if regKind r == .sw then x.swVin[(r.val + 2) % 4].toNat else ref) (s.uvPermille r)
  let good := g.run == .running && !s.flag (REG_STAT r) REG_STAT_SS && !g.cmpSeen && !uv
  let ld := regKind r == .ld
  s.updReg r (fun g =>
    { g with vref := ref, vfrac := fine % n, ovArmed := g.ovArmed || (g.run == .starting && regKind r != .sw && decide (v < 8 * ref)),
             sink := g.sink && decide (8 * s.regSetpoint r < v), uvNow := uv, cmpSeen := uv, pgRun := if good then g.pgRun + 1 else 0,
             limRun := if g.limSeen then (if ld then g.limRun + 1 else g.limRun) else 0, limSeen := false })

/-- The regulators' share of a tick. -/
def State.regTick (s : State) (x : FrameIn) : State :=
  let thr := s.get TH_STAT TH_STAT_THR_LVL
  ((allFin 14).foldl (fun s r => s.regFrame x thr r) s).sweepTick

end Sys2Proof.Machine
end

