-- ==== Sys2Proof/Machine/Sessions.lean ====
section
/-! DEFINITION. The host commands of proofs and the certificate, configuration and firmware update, the register window and
AUX (spec 17 R430 to R437). -/
namespace Sys2Proof.Machine
open Sys2Proof

/-! ### Proof and certificate (R430, R431) -/

/-- Words of a list of bytes, least significant byte first. -/
def wordsLE : Nat → List Byte → List Word
  | 0, _ => []
  | n + 1, l => BitVec.ofNat 32 (ofBytesLE (l.take 4)) :: wordsLE n (l.drop 4)

/-- Words written to consecutive registers. -/
def State.putWords (s : State) (at_ : Nat → Nat) : Nat → List Word → State
  | _, [] => s
  | k, w :: r => State.putWords (s.wr (at_ k) w) at_ (k + 1) r

/-- PROOF (R431): one at a time. -/
def execProof (c : HostCmd) (s : State) : Host.Outcome State Fault Refusal :=
  done <| s.hostCommand 0x60 portsABCE c (words 4) fun s _ pay =>
    if s.proofBusy then (s, .wait) else ((s.putWords PRF_NONCE 0 pay).proofGo, .later .proof)

/-- PROOF_SIG (R431): the counter at offset 0x34 of the body held, whose signature is complete. -/
def execProofSig (c : HostCmd) (s : State) : Host.Outcome State Fault Refusal :=
  done <| s.hostCommand 0x61 portsABCE c (words 1) fun s _ pay =>
    if s.rd (PRF_BODY 13) == pay.getD 0 0 && !s.flag PRF_STAT PRF_STAT_BUSY then
      (s, .now 0 ((List.range 16).map (fun k => s.live (PRF_SIG k))))
    else (s, .now 0x0A [])

/-- CERT_READ (R86, R430). -/
def execCertRead (c : HostCmd) (s : State) : Host.Outcome State Fault Refusal :=
  done <| s.hostCommand 0x62 portsABCE c (words 0) fun s _ _ =>
    (s, .now 0 (wordsLE 34 (memRead s.mram.cells certPlace 136)))

/-! ### The configuration session (R432 to R434) -/

/-- The copy that a configuration session writes: the one not in use, or copy 0 with none in use (R434). -/
def State.cfgTarget (s : State) : Nat :=
  if s.flag BOOT_STAT BOOT_STAT_CFG_NONE then 0 else 1 - s.get BOOT_STAT BOOT_STAT_CFG_COPY

/-- A BEGIN erases its target through the journal (R345, R434). -/
def State.beginErase (s : State) (sector len : Nat) : State :=
  (((s.putB NV_STAT NV_STAT_REFUSED false).put NV_JRNL_BASE NV_JRNL_BASE_SECTOR sector).put NV_JRNL_LEN NV_JRNL_LEN_LEN
    len).burinErase

/-- CFG_BEGIN. -/
def execCfgBegin (c : HostCmd) (s : State) : Host.Outcome State Fault Refusal :=
  done <| s.hostCommand 0x68 portsC c (words 0) fun s p _ =>
    if sessionCheck (s.openSession s.fw.cfg) p == some 0x04 || s.flag NV_JRNL_STAT NV_JRNL_STAT_ACTIVE then (s, .now 0x04 [])
    else
      let k := s.cfgTarget
      let s := s.beginErase (cfgBase k / 4096) 64
      ({ s with fw := { s.fw with cfg := some ⟨p, k, s.opt.ms, none⟩ } }, .later (.begun (some k)))

/-- The 64-bit words of data words, at ascending offsets, the least significant word first (R434). -/
def dataJob (off : Nat) : List Word → List (Nat × BitVec 64)
  | lo :: hi :: r => (off, BitVec.ofNat 64 (lo.toNat + 2 ^ 32 * hi.toNat)) :: dataJob (off + 8) r
  | _ => []

/-- The payload of a WRITE: an offset that is a multiple of 8, and 2 to 60 data words, an even number, within the
target's size (R433, R434). -/
def writeOk (size : Nat) (pay : List Word) : Bool :=
  let n := pay.length - 1
  decide (2 ≤ n ∧ n ≤ 60) && n % 2 == 0 && (pay.getD 0 0).toNat % 8 == 0 && decide ((pay.getD 0 0).toNat + 4 * n ≤ size)

/-- The data of a WRITE go to the NV engine at priority 4 (R341). -/
def State.sessionWrite (s : State) (base : Nat) (pay : List Word) : State :=
  let l := dataJob (base + (pay.getD 0 0).toNat) (pay.drop 1)
  ((s.putB NV_STAT NV_STAT_REFUSED false).nvQueue4 ⟨.words, l, l.length, l.length⟩).nvBusy

/-- A session after a command of its own. -/
def Session.touch (x : Session) (ms : Nat) (ok : Option Nat) : Session := { x with last := ms, ok := ok }

/-- CFG_WRITE. -/
def execCfgWrite (c : HostCmd) (s : State) : Host.Outcome State Fault Refusal :=
  done <| s.hostCommand 0x69 portsC c (writeOk 262144) fun s p pay =>
    match sessionCheck (s.openSession s.fw.cfg) p, s.openSession s.fw.cfg with
    | none, some x =>
      let s := s.sessionWrite (cfgBase x.target) pay
      ({ s with fw := { s.fw with cfg := some (x.touch s.opt.ms none) } }, .later .written)
    | some st, _ => (s, .now st [])
    | none, none => (s, .now 0x05 [])

/-- A written copy passes CFG_VERIFY: header, CRC, and a SEQ greater than that of the copy in use (R434). -/
def State.cfgPasses (s : State) (k : Nat) : Bool :=
  s.cfgHeaderOk k && (s.flag BOOT_STAT BOOT_STAT_CFG_NONE ||
    serialGt (s.cfgSeq k) (s.cfgSeq (s.get BOOT_STAT BOOT_STAT_CFG_COPY)))

/-- CFG_VERIFY (R434, R342): `ecc` are the errors its reads meet. -/
def execCfgVerify (c : HostCmd) (ecc : List EccRead) (s : State) : Host.Outcome State Fault Refusal :=
  done <| s.hostCommand 0x6A portsC c (words 0) fun s p _ =>
    let s := s.eccFlip ecc
    match sessionCheck (s.openSession s.fw.cfg) p, s.openSession s.fw.cfg with
    | none, some x =>
      let good := s.cfgPasses x.target
      let u := { s with fw := { s.fw with cfg := some (x.touch s.opt.ms (if good then some (s.cfgSeq x.target) else none)) } }
      (u.eccReads ecc, if good then .now 0 [s.cfgWord x.target 1, s.cfgWord x.target 2] else .now 0x09 [])
    | some st, _ => (s, .now st [])
    | none, none => (s, .now 0x05 [])

/-- CFG_INFO. -/
def execCfgInfo (c : HostCmd) (s : State) : Host.Outcome State Fault Refusal :=
  done <| s.hostCommand 0x6B portsABC c (words 0) fun s _ _ =>
    let seq (k : Nat) : Word := if s.cfgHeaderOk k then s.cfgWord k 1 else 0
    (s, .now 0 [s.live BOOT_STAT, seq 0, seq 1])

/-! ### The image session (R432 to R434, R437) -/

/-- IMG_BEGIN: outside recovery the running slot is refused. -/
def execImgBegin (c : HostCmd) (s : State) : Host.Outcome State Fault Refusal :=
  done <| s.hostCommand 0x70 portsC c (oneWord 1) fun s p pay =>
    let k := (pay.getD 0 0).toNat
    if sessionCheck (s.openSession s.fw.img) p == some 0x04 || s.flag NV_JRNL_STAT NV_JRNL_STAT_ACTIVE then (s, .now 0x04 [])
    else if s.proc.mode != .recovery && s.get BOOT_STAT BOOT_STAT_SLOT == k then (s, .now 0x05 [])
    else
      let s := s.beginErase (slotBase k / 4096) 256
      ({ s with fw := { s.fw with img := some ⟨p, k, s.opt.ms, none⟩ } }, .later (.begun none))

/-- IMG_WRITE. -/
def execImgWrite (c : HostCmd) (s : State) : Host.Outcome State Fault Refusal :=
  done <| s.hostCommand 0x71 portsC c (writeOk 1048576) fun s p pay =>
    match sessionCheck (s.openSession s.fw.img) p, s.openSession s.fw.img with
    | none, some x =>
      let s := s.sessionWrite (slotBase x.target) pay
      ({ s with fw := { s.fw with img := some (x.touch s.opt.ms none) } }, .later .written)
    | some st, _ => (s, .now st [])
    | none, none => (s, .now 0x05 [])

/-- IMG_VERIFY (R70, R434, R342): `ecc` are the errors its reads meet. -/
def execImgVerify (c : HostCmd) (ecc : List EccRead) (s : State) : Host.Outcome State Fault Refusal :=
  done <| s.hostCommand 0x72 portsC c (words 0) fun s p _ =>
    let s := s.eccFlip ecc
    match sessionCheck (s.openSession s.fw.img) p, s.openSession s.fw.img with
    | none, some x =>
      let good := s.imageValid x.target
      let v := s.imgVersion x.target
      let u := { s with fw := { s.fw with img := some (x.touch s.opt.ms (if good then some v else none)) } }
      (u.eccReads ecc,
        if good then .now 0 (BitVec.ofNat 32 v :: wordsLE 8 (s.imgDigest x.target)) else .now 0x09 [])
    | some st, _ => (s, .now st [])
    | none, none => (s, .now 0x05 [])

/-- IMG_ACTIVATE: the activation record is written and the session ends; in recovery the ROM then restarts D_PROC (R77,
R434, R437). -/
def execImgActivate (c : HostCmd) (s : State) : Host.Outcome State Fault Refusal :=
  done <| s.hostCommand 0x73 portsC c (words 1) fun s p pay =>
    match sessionCheck (s.openSession s.fw.img) p, s.openSession s.fw.img with
    | none, some x =>
      if x.ok == some (pay.getD 0 0).toNat then
        let s := s.queueBoot (if s.proc.mode == .recovery then .rom else .firmware) x.target true 0
        let s := { s with fw := { s.fw with img := none } }
        (s, .later .activated)
      else ({ s with fw := { s.fw with img := some { x with last := s.opt.ms } } }, .now 0x05 [])
    | some st, _ => (s, .now st [])
    | none, none => (s, .now 0x05 [])

/-! ### The register window (R435, R436, R442, R443) -/

/-- The number of a port as the source of an access (R442). -/
def portSrc (p : Port) : Nat := p.idx + 1

/-- Firmware names a source for the accesses that follow. -/
def State.setSrc (s : State) (n : Nat) : State := s.put SYS_ACT SYS_ACT_SRC n

/-- Reads of addresses in order: the words, and whether one was unmapped. -/
def State.windowReads (s : State) : List Word → List Word × Bool × State
  | [] => ([], false, s)
  | a :: r =>
    let x := s.busRead a.toNat
    let y := State.windowReads x.2.2 r
    (x.1 :: y.1, !x.2.1 || y.2.1, y.2.2)

/-- REG_READ (R436, R342): `ecc` are the errors its reads of MRAM meet. -/
def execRegRead (c : HostCmd) (ecc : List EccRead) (s : State) : Host.Outcome State Fault Refusal :=
  done <| s.hostCommand 0x78 portsABCE c (fun pay => decide (1 ≤ pay.length ∧ pay.length ≤ 62)) fun s p pay =>
    let r := ((s.eccFlip ecc).setSrc (portSrc p)).windowReads pay
    ((r.2.2.setSrc 0).eccReads ecc, .now (if r.2.1 then 0x0B else 0) r.1)

/-- Writes of address and value pairs in order: how many were made, and the status of the first that was not. A write of
SYS_ACT is not made (R443). -/
def State.windowWrites (s : State) (n : Nat) : List Word → Nat × Nat × State
  | a :: v :: r =>
    if a.toNat = SYS_ACT then (n, 0x06, s)
    else
      let x := s.busWrite a.toNat v
      match x.2 with
      | .made => State.windowWrites x.1 (n + 1) r
      | .refused => (n, 0x06, x.1)
      | .unmapped => (n, 0x0B, x.1)
  | _ => (n, 0, s)

/-- REG_WRITE (R436). -/
def execRegWrite (c : HostCmd) (s : State) : Host.Outcome State Fault Refusal :=
  done <| s.hostCommand 0x79 portsABC c (fun pay => decide (2 ≤ pay.length ∧ pay.length ≤ 62) && pay.length % 2 == 0) fun s p pay =>
    let r := (s.setSrc (portSrc p)).windowWrites 0 pay
    (r.2.2.setSrc 0, .now r.2.1 [BitVec.ofNat 32 r.1])

/-! ### AUX (R435, R436) -/

/-- The payload of AUX_XFER: lengths of 0 to 32 and the words of the bytes to write. -/
def auxOk (pay : List Word) : Bool :=
  let w := pay.getD 0 0
  !pay.isEmpty && w &&& 0xFF000080 == 0 && decide (getF w ⟨8, 8⟩ ≤ 32 ∧ getF w ⟨16, 8⟩ ≤ 32) &&
  pay.length == 1 + (getF w ⟨8, 8⟩ + 3) / 4

/-- AUX_XFER (R401, R436). -/
def execAuxXfer (c : HostCmd) (s : State) : Host.Outcome State Fault Refusal :=
  done <| s.hostCommand 0x80 portsABC c auxOk fun s _ pay =>
    let w := pay.getD 0 0
    if s.flag AUX_STAT AUX_STAT_BUSY then (s, .now 0x04 [])
    else
      let s := (s.putB AUX_STAT AUX_STAT_DONE false).putWords AUX_DATA 0 (pay.drop 1)
      (s.auxGo (getF w ⟨0, 7⟩) (getF w ⟨8, 8⟩) (getF w ⟨16, 8⟩), .later .aux)

end Sys2Proof.Machine
end

