-- ==== Sys2Proof/Machine/Frame.lean ====
section
/-! DEFINITION. The tick of FRAME and the frame's scheduled work, in the order of R58 (spec 03 R57 to R61; spec 95
FRAME_TICK). -/
namespace Sys2Proof.Machine
open Sys2Proof

/-- FRM_NUM increments, time passes with the ended frame, the period generators have counted it (R115), and its
lengthening is over (R57, R61, R365). -/
def State.frameCount (s : State) (x : FrameIn) : State :=
  let n := 2000 + s.clk.lengthen
  let s := { s.updClk (fun c => { c with frames := c.frames + 1 }) with
    pe := { s.pe with steps := s.pe.steps + 128 * n } }
  ((s.wr FRM_NUM (BitVec.ofNat 32 s.frmNum)).timeTick x.xtal.toNat n).alignTick

/-- The source that CLK_CFG puts in force: XTAL stands back for FREE while the crystal fault stands (R50, R56). -/
def State.sourceAtStart (s : State) : ClkSrc := if s.srcCfg == .xtal then s.xtalOrFree else s.srcCfg

/-- The first tick after the configuration load: R321 governs ERR_N from here, and CLK_CFG is in force (R322). -/
def State.comeInForce (s : State) : State :=
  if s.clk.inForce then s else s.updClk (fun c => { c with inForce := true, source := s.sourceAtStart })

/-- What was left to be raised at this tick (R371 to R374). -/
def State.raiseAll (s : State) : List (Nat × Nat × Nat) → State
  | [] => s
  | e :: r => State.raiseAll (s.raise e.1 e.2.1 e.2.2) r
def State.firstRaises (s : State) : State := (s.updOpt (fun o => { o with firstTick := [] })).raiseAll s.opt.firstTick

/-- What is counted or said once in a frame begins anew (R302, R354, R355, R403). -/
def State.frameFresh (s : State) : State :=
  { s with clk := { s.clk with stage := .contexts }, aux := { s.aux with dlSaid := false }, plate := { s.plate with dropped := false }, nv := { s.nv with used := 0 } }

/-- What a tick does with or without a loaded configuration. -/
def State.tickAlways (s : State) (x : FrameIn) : State :=
  let s := ((s.seqSettle.wdTick.frameCount x).comeInForce.frameFresh).firstRaises
  let s := (s.mismatchTick.leftTick.linkTick).railTick
  if s.layers then s.placeOwed else s

/-- What the engines latch at a tick (R58): converters, loops, regulators, temperatures, path, gauge and charger. `dms`:
the operating time of the ended frame. -/
def State.tickInputs (s : State) (x : FrameIn) (dms : Nat) : State :=
  let s := ((s.adcTick x).phaseTick x).regTick x
  let s := { s.ntcTick.thermalTick with gpio := x.gpio }
  let s := (((s.gaugeTick x).feedTick x).chargerTick x dms).powerTick
  (s.sibTick.fnSample x.faultN).budgets

/-- UP starts at the first tick after the load where the configuration asks for it (R76). -/
def State.upAtStart (s : State) : State :=
  if s.seq.upAtStart then
    (s.updSeq (fun q => { q with upAtStart := false })).startUp (s.get (SEQ_THR_CFG thUp) SEQ_THR_CFG_ENTRY)
  else s

/-- The work of the frame that begins (R58): the phase engine's decisions, the latch, the check of the converters, the
start of UP, and the contexts. -/
def State.tickWork (s : State) (x : FrameIn) : State :=
  let s := (s.phaseDecide).latch
  let s := (s.adcChecks x.chk).atTick true State.upAtStart
  s.contextsTick

/-- FRAME_TICK (R57, R58). -/
def execFrameTick (x : FrameIn) (s : State) : Host.Outcome State Fault Refusal :=
  done <| s.when s.inRun fun s =>
    let before := s.opt.ms
    let s := s.tickAlways x
    let s := if s.engines then (s.tickInputs x (s.opt.ms - before)).tickWork x else s.latch
    s.actTick

end Sys2Proof.Machine
end

