-- ==== Sys2Proof/Machine/Dispatch.lean ====
section
/-! DEFINITION. Which meaning each command has: one arm per constructor of `Instr`. -/
namespace Sys2Proof.Machine
open Sys2Proof

def exec (i : Instr) (s : State) : Host.Outcome State Fault Refusal :=
  match i with
  | .coldStart strapA strapB xtal packId step8 ecc => Sys2Proof.Machine.execColdStart strapA strapB xtal packId step8 ecc s
  | .vsysFall vbak => Sys2Proof.Machine.execVsysFall vbak s
  | .wakeRequest src => Sys2Proof.Machine.execWakeRequest src s
  | .resetNPulse e => Sys2Proof.Machine.execResetNPulse e s
  | .lockstepMismatch e => Sys2Proof.Machine.execLockstepMismatch e s
  | .tcmErrorUncorrectable instr => Sys2Proof.Machine.execTcmErrorUncorrectable instr s
  | .dProcRelease step8 ecc => Sys2Proof.Machine.execDProcRelease step8 ecc s
  | .activeOscillatorLost stopped counts e0 e1 => Sys2Proof.Machine.execActiveOscillatorLost stopped counts e0 e1 s
  | .spareOscillatorLost stopped counts => Sys2Proof.Machine.execSpareOscillatorLost stopped counts s
  | .oscillatorRestartAttempt passed strapA strapB xtal packId step8 ecc => Sys2Proof.Machine.execOscillatorRestartAttempt passed strapA strapB xtal packId step8 ecc s
  | .mainResume above vout => Sys2Proof.Machine.execMainResume above vout s
  | .frameTick x => Sys2Proof.Machine.execFrameTick x s
  | .frameMark leader ofs => Sys2Proof.Machine.execFrameMark leader ofs s
  | .echoReceipt round_ delay => Sys2Proof.Machine.execEchoReceipt round_ delay s
  | .siblingStatus ids arrived passed alert inFree hostFree => Sys2Proof.Machine.execSiblingStatus ids arrived passed alert inFree hostFree s
  | .mailboxCell rsp seq w crcOk clock => Sys2Proof.Machine.execMailboxCell rsp seq w crcOk clock s
  | .extend target => Sys2Proof.Machine.execExtend target s
  | .softwareDoorbell w => Sys2Proof.Machine.execSoftwareDoorbell w s
  | .loopEnable m => Sys2Proof.Machine.execLoopEnable m s
  | .stageEnableDelayEnd m => Sys2Proof.Machine.execStageEnableDelayEnd m s
  | .compensatorUpdate m c1 c2 c3 c4 => Sys2Proof.Machine.execCompensatorUpdate m c1 c2 c3 c4 s
  | .referenceRampEnd m => Sys2Proof.Machine.execReferenceRampEnd m s
  | .loopPgSet m => Sys2Proof.Machine.execLoopPgSet m s
  | .loopDisable m => Sys2Proof.Machine.execLoopDisable m s
  | .softStopEnd m => Sys2Proof.Machine.execSoftStopEnd m s
  | .stgEnDeassert m => Sys2Proof.Machine.execStgEnDeassert m s
  | .loopSetpointChange m => Sys2Proof.Machine.execLoopSetpointChange m s
  | .periodChange m => Sys2Proof.Machine.execPeriodChange m s
  | .swapReq m => Sys2Proof.Machine.execSwapReq m s
  | .phCfgWrite n v => Sys2Proof.Machine.execPhCfgWrite n v s
  | .syncQualified p1 p2 p3 p4 errs => Sys2Proof.Machine.execSyncQualified p1 p2 p3 p4 errs s
  | .synced m errs => Sys2Proof.Machine.execSynced m errs s
  | .stgFltNAsserted full => Sys2Proof.Machine.execStgFltNAsserted full s
  | .imonSample n c => Sys2Proof.Machine.execImonSample n c s
  | .persistentPhaseOvercurrent n => Sys2Proof.Machine.execPersistentPhaseOvercurrent n s
  | .loopOvercurrent m => Sys2Proof.Machine.execLoopOvercurrent m s
  | .loopOvervoltage m => Sys2Proof.Machine.execLoopOvervoltage m s
  | .overvoltageHoldEnd m => Sys2Proof.Machine.execOvervoltageHoldEnd m s
  | .loopUndervoltage m => Sys2Proof.Machine.execLoopUndervoltage m s
  | .undershootTrip m => Sys2Proof.Machine.execUndershootTrip m s
  | .fireEnd m => Sys2Proof.Machine.execFireEnd m s
  | .undershootRearm m above since => Sys2Proof.Machine.execUndershootRearm m above since s
  | .brakeStart m code since => Sys2Proof.Machine.execBrakeStart m code since s
  | .brakeEnd m code periods => Sys2Proof.Machine.execBrakeEnd m code periods s
  | .brakeTmax m periods => Sys2Proof.Machine.execBrakeTmax m periods s
  | .phaseShed n => Sys2Proof.Machine.execPhaseShed n s
  | .shedPhasesJoin m => Sys2Proof.Machine.execShedPhasesJoin m s
  | .reshedHoldoffEnd m => Sys2Proof.Machine.execReshedHoldoffEnd m s
  | .imbalance n => Sys2Proof.Machine.execImbalance n s
  | .fence n => Sys2Proof.Machine.execFence n s
  | .substReq n => Sys2Proof.Machine.execSubstReq n s
  | .substitution m => Sys2Proof.Machine.execSubstitution m s
  | .regEnable r vin => Sys2Proof.Machine.execRegEnable r vin s
  | .regRampEnd r => Sys2Proof.Machine.execRegRampEnd r s
  | .regPgSet r => Sys2Proof.Machine.execRegPgSet r s
  | .regDisable r => Sys2Proof.Machine.execRegDisable r s
  | .regSetpointChange r => Sys2Proof.Machine.execRegSetpointChange r s
  | .regOvervoltage r v => Sys2Proof.Machine.execRegOvervoltage r v s
  | .swReverseCurrent k v vin => Sys2Proof.Machine.execSwReverseCurrent k v vin s
  | .regUndervoltage r v vin => Sys2Proof.Machine.execRegUndervoltage r v vin s
  | .peakCurrentLimit b x again => Sys2Proof.Machine.execPeakCurrentLimit b x again s
  | .ldCurrentLimit k x => Sys2Proof.Machine.execLdCurrentLimit k x s
  | .regPersistentOvercurrent r x => Sys2Proof.Machine.execRegPersistentOvercurrent r x s
  | .regOverTemperature r => Sys2Proof.Machine.execRegOverTemperature r s
  | .retryWaitEnd r vin => Sys2Proof.Machine.execRetryWaitEnd r vin s
  | .retriesReset r => Sys2Proof.Machine.execRetriesReset r s
  | .segmentMeasurement x => Sys2Proof.Machine.execSegmentMeasurement x s
  | .segmentRetry sw k x => Sys2Proof.Machine.execSegmentRetry sw k x s
  | .segmentPostponed2h sw k => Sys2Proof.Machine.execSegmentPostponed2h sw k s
  | .segmentFenceApplied sw => Sys2Proof.Machine.execSegmentFenceApplied sw s
  | .feedWindowEntry x => Sys2Proof.Machine.execFeedWindowEntry x s
  | .feedQualified x => Sys2Proof.Machine.execFeedQualified x s
  | .feedUvDisqualification x v t => Sys2Proof.Machine.execFeedUvDisqualification x v t s
  | .feedOvCutoff x v => Sys2Proof.Machine.execFeedOvCutoff x v s
  | .inrushFailed x => Sys2Proof.Machine.execInrushFailed x s
  | .quarantineEnd x => Sys2Proof.Machine.execQuarantineEnd x s
  | .feedDisable x => Sys2Proof.Machine.execFeedDisable x s
  | .reverseBlocking x => Sys2Proof.Machine.execReverseBlocking x s
  | .bowTrip vsys => Sys2Proof.Machine.execBowTrip vsys s
  | .stopCause cause => Sys2Proof.Machine.execStopCause cause s
  | .packRemoved how => Sys2Proof.Machine.execPackRemoved how s
  | .hibernationResult code packId => Sys2Proof.Machine.execHibernationResult code packId s
  | .cellUv k => Sys2Proof.Machine.execCellUv k s
  | .ggSocWrite v => Sys2Proof.Machine.execGgSocWrite v s
  | .halt t => Sys2Proof.Machine.execHalt t s
  | .enable t => Sys2Proof.Machine.execEnable t s
  | .disable t => Sys2Proof.Machine.execDisable t s
  | .setV t => Sys2Proof.Machine.execSetV t s
  | .wait t => Sys2Proof.Machine.execWait t s
  | .waitExpiry t => Sys2Proof.Machine.execWaitExpiry t s
  | .waitUntil t => Sys2Proof.Machine.execWaitUntil t s
  | .waitUntilSatisfied t => Sys2Proof.Machine.execWaitUntilSatisfied t s
  | .waitTimeout t => Sys2Proof.Machine.execWaitTimeout t s
  | .check t => Sys2Proof.Machine.execCheck t s
  | .jump t => Sys2Proof.Machine.execJump t s
  | .call t => Sys2Proof.Machine.execCall t s
  | .returnStep t => Sys2Proof.Machine.execReturn t s
  | .commit t => Sys2Proof.Machine.execCommit t s
  | .mark t => Sys2Proof.Machine.execMark t s
  | .snapshot t => Sys2Proof.Machine.execSnapshot t s
  | .barrier t => Sys2Proof.Machine.execBarrier t s
  | .barrierPass t => Sys2Proof.Machine.execBarrierPass t s
  | .seqStart t useLabel label => Sys2Proof.Machine.execSeqStart t useLabel label s
  | .seqStop t => Sys2Proof.Machine.execSeqStop t s
  | .seqFlagSet w => Sys2Proof.Machine.execSeqFlagSet w s
  | .seqFlagClr w => Sys2Proof.Machine.execSeqFlagClr w s
  | .stencilStoreWrite x v => Sys2Proof.Machine.execStencilStoreWrite x v s
  | .labelWrite x v => Sys2Proof.Machine.execLabelWrite x v s
  | .downStartByEvent esn => Sys2Proof.Machine.execDownStartByEvent esn s
  | .contextWrite x k v => Sys2Proof.Machine.execContextWrite x k v s
  | .urgentRequest q j input cal slot => Sys2Proof.Machine.execUrgentRequest q j input cal slot s
  | .urgentResult q j raw => Sys2Proof.Machine.execUrgentResult q j raw s
  | .refReadySet chk => Sys2Proof.Machine.execRefReadySet chk s
  | .referenceFault n0 n1 => Sys2Proof.Machine.execReferenceFault n0 n1 s
  | .calZero input target => Sys2Proof.Machine.execCalZero input target s
  | .calFull input target => Sys2Proof.Machine.execCalFull input target s
  | .calibrationCaptureDone sums => Sys2Proof.Machine.execCalibrationCaptureDone sums s
  | .adc2Takeover q => Sys2Proof.Machine.execAdc2Takeover q s
  | .stickyClear w mask => Sys2Proof.Machine.execStickyClear w mask s
  | .forceRaise n => Sys2Proof.Machine.execForceRaise n s
  | .wdCheckinWrite w clock => Sys2Proof.Machine.execWdCheckinWrite w clock s
  | .nvWordWrite fails => Sys2Proof.Machine.execNvWordWrite fails s
  | .plateRebuildDone ecc => Sys2Proof.Machine.execPlateRebuildDone ecc s
  | .snap tag => Sys2Proof.Machine.execSnap tag s
  | .plateCursorWrite v => Sys2Proof.Machine.execPlateCursorWrite v s
  | .plateWin4Read ecc => Sys2Proof.Machine.execPlateWin4Read ecc s
  | .ggQrawLoRead ref => Sys2Proof.Machine.execGgQrawLoRead ref s
  | .rtcTrimWrite v => Sys2Proof.Machine.execRtcTrimWrite v s
  | .identify c => Sys2Proof.Machine.execIdentify c s
  | .status c => Sys2Proof.Machine.execStatus c s
  | .restart c => Sys2Proof.Machine.execRestart c s
  | .standby c => Sys2Proof.Machine.execStandby c s
  | .fuseWd c => Sys2Proof.Machine.execFuseWd c s
  | .telemRead c ecc => Sys2Proof.Machine.execTelemRead c ecc s
  | .adcUrgent c => Sys2Proof.Machine.execAdcUrgent c s
  | .faultRead c => Sys2Proof.Machine.execFaultRead c s
  | .faultClear c => Sys2Proof.Machine.execFaultClear c s
  | .railEnable c => Sys2Proof.Machine.execRailEnable c s
  | .railDisable c => Sys2Proof.Machine.execRailDisable c s
  | .railSetV c => Sys2Proof.Machine.execRailSetV c s
  | .railStatus c => Sys2Proof.Machine.execRailStatus c s
  | .phaseSubst c => Sys2Proof.Machine.execPhaseSubst c s
  | .threadStart c => Sys2Proof.Machine.execThreadStart c s
  | .threadStop c => Sys2Proof.Machine.execThreadStop c s
  | .seqFlags c => Sys2Proof.Machine.execSeqFlags c s
  | .threadStatus c => Sys2Proof.Machine.execThreadStatus c s
  | .charge c => Sys2Proof.Machine.execCharge c s
  | .chargeStatus c => Sys2Proof.Machine.execChargeStatus c s
  | .gaugeRead c => Sys2Proof.Machine.execGaugeRead c s
  | .gaugeMode c => Sys2Proof.Machine.execGaugeMode c s
  | .gaugeCells c => Sys2Proof.Machine.execGaugeCells c s
  | .plateInfo c => Sys2Proof.Machine.execPlateInfo c s
  | .plateRead c ecc => Sys2Proof.Machine.execPlateRead c ecc s
  | .plateSnapshot c => Sys2Proof.Machine.execPlateSnapshot c s
  | .rtcRead c => Sys2Proof.Machine.execRtcRead c s
  | .rtcSet c => Sys2Proof.Machine.execRtcSet c s
  | .rtcClearSwo c => Sys2Proof.Machine.execRtcClearSwo c s
  | .rtcWake c => Sys2Proof.Machine.execRtcWake c s
  | .wdCheckin c clock => Sys2Proof.Machine.execWdCheckin c clock s
  | .proof c => Sys2Proof.Machine.execProof c s
  | .proofSig c => Sys2Proof.Machine.execProofSig c s
  | .certRead c => Sys2Proof.Machine.execCertRead c s
  | .cfgBegin c => Sys2Proof.Machine.execCfgBegin c s
  | .cfgWrite c => Sys2Proof.Machine.execCfgWrite c s
  | .cfgVerify c ecc => Sys2Proof.Machine.execCfgVerify c ecc s
  | .cfgInfo c => Sys2Proof.Machine.execCfgInfo c s
  | .imgBegin c => Sys2Proof.Machine.execImgBegin c s
  | .imgWrite c => Sys2Proof.Machine.execImgWrite c s
  | .imgVerify c ecc => Sys2Proof.Machine.execImgVerify c ecc s
  | .imgActivate c => Sys2Proof.Machine.execImgActivate c s
  | .regRead c ecc => Sys2Proof.Machine.execRegRead c ecc s
  | .regWrite c => Sys2Proof.Machine.execRegWrite c s
  | .auxXfer c => Sys2Proof.Machine.execAuxXfer c s
  | .deadlineExpiry t => Sys2Proof.Machine.execDeadlineExpiry t s
  | .responseWrite p r => Sys2Proof.Machine.execResponseWrite p r s
  | .responseRetrieved p => Sys2Proof.Machine.execResponseRetrieved p s
  | .mbxRxRead p => Sys2Proof.Machine.execMbxRxRead p s
  | .drop p => Sys2Proof.Machine.execDrop p s
  | .mbxIn p bytes pecOk clock => Sys2Proof.Machine.execMbxIn p bytes pecOk clock s
  | .mbxOut p n => Sys2Proof.Machine.execMbxOut p n s
  | .portStatusRead p => Sys2Proof.Machine.execPortStatusRead p s
  | .hostDrop p => Sys2Proof.Machine.execHostDrop p s
  | .abortIn p => Sys2Proof.Machine.execAbortIn p s
  | .mbxAgain p => Sys2Proof.Machine.execMbxAgain p s
  | .alertResponse p => Sys2Proof.Machine.execAlertResponse p s
  | .addressMatchWake p runs => Sys2Proof.Machine.execAddressMatchWake p runs s
  | .busTimeout p ms => Sys2Proof.Machine.execBusTimeout p ms s
  | .mbxHtxWrite w => Sys2Proof.Machine.execMbxHtxWrite w s
  | .modbusReadRegisters input addr count => Sys2Proof.Machine.execModbusReadRegisters input addr count s
  | .modbusWriteAcknowledge addr v => Sys2Proof.Machine.execModbusWriteAcknowledge addr v s
  | .modbusBadRequest kind => Sys2Proof.Machine.execModbusBadRequest kind s
  | .auxGo addr wlen rlen => Sys2Proof.Machine.execAuxGo addr wlen rlen s
  | .auxTransferEnd result got bytes => Sys2Proof.Machine.execAuxTransferEnd result got bytes s
  | .firstKey block => Sys2Proof.Machine.execFirstKey block s
  | .unlock block => Sys2Proof.Machine.execUnlock block s
  | .protectedWrite a v => Sys2Proof.Machine.execProtectedWrite a v s
  | .sysActWrite v => Sys2Proof.Machine.execSysActWrite v s
  | .registerWrite a v => Sys2Proof.Machine.execRegisterWrite a v s
  | .vregOutOfRange vreg5 => Sys2Proof.Machine.execVregOutOfRange vreg5 s
  | .cellCrcError kind => Sys2Proof.Machine.execCellCrcError kind s
  | .vbakRise => Sys2Proof.Machine.execVbakRise s
  | .vbakFall => Sys2Proof.Machine.execVbakFall s
  | .standbyReq => Sys2Proof.Machine.execStandbyReq s
  | .tcmErrorCorrected => Sys2Proof.Machine.execTcmErrorCorrected s
  | .romLimitExpiry => Sys2Proof.Machine.execRomLimitExpiry s
  | .bothOscillatorsLost => Sys2Proof.Machine.execBothOscillatorsLost s
  | .refInLoss => Sys2Proof.Machine.execRefInLoss s
  | .holdoverExpiry => Sys2Proof.Machine.execHoldoverExpiry s
  | .refReturn => Sys2Proof.Machine.execRefReturn s
  | .pllLock => Sys2Proof.Machine.execPllLock s
  | .discLock => Sys2Proof.Machine.execDiscLock s
  | .crystalFault => Sys2Proof.Machine.execCrystalFault s
  | .crystalReturn => Sys2Proof.Machine.execCrystalReturn s
  | .crystalStop => Sys2Proof.Machine.execCrystalStop s
  | .dllCalFail => Sys2Proof.Machine.execDllCalFail s
  | .frameMarkAtLeader => Sys2Proof.Machine.execFrameMarkAtLeader s
  | .frmAlignedSet => Sys2Proof.Machine.execFrmAlignedSet s
  | .frameMarksMissing => Sys2Proof.Machine.execFrameMarksMissing s
  | .linkUp good => Sys2Proof.Machine.execLinkUp good s
  | .siblingStatusLost => Sys2Proof.Machine.execSiblingStatusLost s
  | .ready => Sys2Proof.Machine.execReady s
  | .proofGo => Sys2Proof.Machine.execProofGo s
  | .proofSigned => Sys2Proof.Machine.execProofSigned s
  | .doorbellAppend => Sys2Proof.Machine.execDoorbellAppend s
  | .icClaim => Sys2Proof.Machine.execIcClaim s
  | .syncLost => Sys2Proof.Machine.execSyncLost s
  | .sweepStart => Sys2Proof.Machine.execSweepStart s
  | .onBatteryDeclared => Sys2Proof.Machine.execOnBatteryDeclared s
  | .returnToFeed => Sys2Proof.Machine.execReturnToFeed s
  | .upInhibitRelease => Sys2Proof.Machine.execUpInhibitRelease s
  | .chgStart => Sys2Proof.Machine.execChgStart s
  | .chgTerminate => Sys2Proof.Machine.execChgTerminate s
  | .chgHold => Sys2Proof.Machine.execChgHold s
  | .chgRelease => Sys2Proof.Machine.execChgRelease s
  | .chgStop => Sys2Proof.Machine.execChgStop s
  | .trickleExit => Sys2Proof.Machine.execTrickleExit s
  | .preExit => Sys2Proof.Machine.execPreExit s
  | .ccToCv => Sys2Proof.Machine.execCcToCv s
  | .safetyTimerExpiry => Sys2Proof.Machine.execSafetyTimerExpiry s
  | .prechargeTimerExpiry => Sys2Proof.Machine.execPrechargeTimerExpiry s
  | .packIdClosed => Sys2Proof.Machine.execPackIdClosed s
  | .packQualElapsed => Sys2Proof.Machine.execPackQualElapsed s
  | .zchShort => Sys2Proof.Machine.execZchShort s
  | .gaugeWake => Sys2Proof.Machine.execGaugeWake s
  | .restReached => Sys2Proof.Machine.execRestReached s
  | .estDrift => Sys2Proof.Machine.execEstDrift s
  | .estimatorUpdate => Sys2Proof.Machine.execEstimatorUpdate s
  | .countRecordHourly => Sys2Proof.Machine.execCountRecordHourly s
  | .minOffEnd => Sys2Proof.Machine.execMinOffEnd s
  | .autoUpStart => Sys2Proof.Machine.execAutoUpStart s
  | .faultNEdge => Sys2Proof.Machine.execFaultNEdge s
  | .faultNRelease => Sys2Proof.Machine.execFaultNRelease s
  | .upHeldRelease => Sys2Proof.Machine.execUpHeldRelease s
  | .thermalStep => Sys2Proof.Machine.execThermalStep s
  | .throttleFall => Sys2Proof.Machine.execThrottleFall s
  | .calAbort => Sys2Proof.Machine.execCalAbort s
  | .faultReaction => Sys2Proof.Machine.execFaultReaction s
  | .watchdogPeriodEnd => Sys2Proof.Machine.execWatchdogPeriodEnd s
  | .wdOutPulseEnd => Sys2Proof.Machine.execWdOutPulseEnd s
  | .plateIngest => Sys2Proof.Machine.execPlateIngest s
  | .floodEnd => Sys2Proof.Machine.execFloodEnd s
  | .clockMarkHourly => Sys2Proof.Machine.execClockMarkHourly s
  | .rtcSecLoRead => Sys2Proof.Machine.execRtcSecLoRead s
  | .rtcOptLoRead => Sys2Proof.Machine.execRtcOptLoRead s
  | .nvWrite => Sys2Proof.Machine.execNvWrite s
  | .erase => Sys2Proof.Machine.execErase s
  | .resume => Sys2Proof.Machine.execResume s
  | .set => Sys2Proof.Machine.execSet s
  | .calendarLoad => Sys2Proof.Machine.execCalendarLoad s
  | .clearSwo => Sys2Proof.Machine.execClearSwo s
  | .periodicWake => Sys2Proof.Machine.execPeriodicWake s
  | .calendarWrap => Sys2Proof.Machine.execCalendarWrap s
  | .vbakLow vbak => Sys2Proof.Machine.execVbakLow vbak s
  | .counterRecordHourly => Sys2Proof.Machine.execCounterRecordHourly s
  | .sessionTimeout => Sys2Proof.Machine.execSessionTimeout s
  | .close => Sys2Proof.Machine.execClose s
  | .unlockWindowExpiry => Sys2Proof.Machine.execUnlockWindowExpiry s

end Sys2Proof.Machine
end

