-- ==== Sys2Proof/Safety.lean ====
section
/-! DEFINITION. What counts as a safe run of the block, in the terms the statements use: no step stops, the stores keep
their one form, and a measurement register holds nothing but a chain of extensions. -/
namespace Sys2Proof.Machine
open Sys2Proof

/-- A command goes on: it answers a next state. -/
def Goes (o : Host.Outcome State Fault Refusal) : Prop := ∃ t, o = .next t

/-- A command answers a next state of which something holds. -/
def Answers (c : Instr) (s : State) (P : State → Prop) : Prop := ∃ t, exec c s = .next t ∧ P t

/-- The register file, the latched file, MRAM and the two memories of Burin are in their canonical form, so that equal
contents are equal data. -/
def State.Wf (s : State) : Prop :=
  (canonD resetVal s.regs = true ∧ canonD resetVal s.snap.regs = true) ∧
  (Memory.wf s.mram.cells = true ∧ Memory.wf s.itcm = true ∧ Memory.wf s.dtcm = true)

/-- A value that a measurement register reaches from 0 by extensions alone (R82). -/
inductive Measured : BitVec 256 → Prop
  | start : Measured 0
  | extend (m : BitVec 256) (d : List Byte) : Measured m → Measured (digestBV (sha256 (bytesLE 32 m.toNat ++ d)))

/-- MR0 to MR3 hold chains of extensions (R82). -/
def State.Chained (s : State) : Prop := ∀ n : Fin 4, Measured s.mr[n]

/-! ### What a command leaves alone -/

/-- The parts of the state beside the register file. -/
inductive Part
  | snap | mr | mram | itcm | dtcm | power | clk | proc | ic
  | proof | loops | phases | pe | regul | seg | seq | gpio | ctx
  | th | adc | feeds | chg | gg | est | flt | fuse | wd
  | plate | nv | bak | opt | ports | layers | tags | link | aux
  | fw | sys | out | wire | freeCtr | acks | locked | pending
  deriving DecidableEq, Repr

/-- A part holds in one state what it holds in another. -/
def Part.Same (s t : State) : Part → Prop
  | .snap => t.snap = s.snap
  | .mr => t.mr = s.mr
  | .mram => t.mram = s.mram
  | .itcm => t.itcm = s.itcm
  | .dtcm => t.dtcm = s.dtcm
  | .power => t.power = s.power
  | .clk => t.clk = s.clk
  | .proc => t.proc = s.proc
  | .ic => t.ic = s.ic
  | .proof => t.proof = s.proof
  | .loops => t.loops = s.loops
  | .phases => t.phases = s.phases
  | .pe => t.pe = s.pe
  | .regul => t.regul = s.regul
  | .seg => t.seg = s.seg
  | .seq => t.seq = s.seq
  | .gpio => t.gpio = s.gpio
  | .ctx => t.ctx = s.ctx
  | .th => t.th = s.th
  | .adc => t.adc = s.adc
  | .feeds => t.feeds = s.feeds
  | .chg => t.chg = s.chg
  | .gg => t.gg = s.gg
  | .est => t.est = s.est
  | .flt => t.flt = s.flt
  | .fuse => t.fuse = s.fuse
  | .wd => t.wd = s.wd
  | .plate => t.plate = s.plate
  | .nv => t.nv = s.nv
  | .bak => t.bak = s.bak
  | .opt => t.opt = s.opt
  | .ports => t.ports = s.ports
  | .layers => t.layers = s.layers
  | .tags => t.tags = s.tags
  | .link => t.link = s.link
  | .aux => t.aux = s.aux
  | .fw => t.fw = s.fw
  | .sys => t.sys = s.sys
  | .out => t.out = s.out
  | .wire => t.wire = s.wire
  | .freeCtr => t.freeCtr = s.freeCtr
  | .acks => t.acks = s.acks
  | .locked => t.locked = s.locked
  | .pending => t.pending = s.pending

/-- From `s` to `t` no register changes but those at the addresses `regs`, and no part but those in `parts`. -/
structure Frame (regs : List Nat) (parts : List Part) (s t : State) : Prop where
  rd : ∀ a, a ∉ regs → t.rd a = s.rd a
  same : ∀ p, p ∉ parts → Part.Same s t p

/-- What a raise of an event source writes beside registers: the collector, the interrupt controller, the Plate's ingest
and the acknowledges of the alarm link. -/
def eventParts : List Part := [.flt, .ic, .plate, .acks]

/-- An address outside the two blocks that a raise writes: the fault collector at 0x40002000 and the interrupt controller
at 0x40004000 (R440). -/
def offEvents (a : Nat) : Prop := (a < 0x40002000 ∨ 0x40003000 ≤ a) ∧ (a < 0x40004000 ∨ 0x40005000 ≤ a)

/-- As Frame, of a command that also raises: those two blocks and the parts of a raise may change too. -/
structure EventFrame (regs : List Nat) (parts : List Part) (s t : State) : Prop where
  rd : ∀ a, a ∉ regs → offEvents a → t.rd a = s.rd a
  same : ∀ p, p ∉ parts → p ∉ eventParts → Part.Same s t p

/-- The status registers of the contexts. -/
def ctxStats : List Nat := (allFin 160).map (fun i : Fin 160 => CTX_STAT i)

/-- The path after a change of the feeds: HANDOVER where it was ON_FEED or RETURNING and no feed is qualified (R180). -/
def State.HandsOver (s t : State) : Prop :=
  t.path = if (s.path = pathOnFeed ∨ s.path = pathReturning) ∧ t.anyQualified = false then pathHandover else s.path

/-- A state has raised an ESN with a code: since its last fault window, or into a latch that waits for MAIN (R310, R320). -/
def State.raisedCode (s : State) (esn code : Nat) : Prop :=
  (∃ w ∈ s.flt.window, w.esn = esn ∧ code ∈ w.codes) ∨ ∃ h ∈ s.flt.held, h.esn = esn ∧ h.code = code

/-- The status registers of the phases. -/
def phStats : List Nat := (allFin 16).map (fun n : Fin 16 => PH_STAT n)
/-- The status registers of the loops. -/
def loopStats : List Nat := (allFin 4).map (fun m : Fin 4 => LOOP_STAT m)
/-- The result registers of the converters' entries. -/
def adcResults : List Nat := (List.range 3).flatMap (fun c => (List.range 64).map (fun e => ADC_RES c e))
/-- What a reset of D_PROC leaves, with the cause that it records (R15, R22, R63): Burin's memories, MR1 and the command
layers are reset, READY reads 0, the watchdog stops, and the rails, phases, feeds and threads are as they were. -/
def State.ProcReset (s t : State) (cause : Fld) : Prop :=
  (t.get RST_CAUSE cause = 1 ∧ t.raisedCode 0x08 0 ∧ t.get BOOT_STAT BOOT_STAT_READY = 0 ∧
    t.get PWR_STATE PWR_STATE_AUTON = 1) ∧
  (t.mr[1] = 0 ∧ t.itcm = [] ∧ t.dtcm = [] ∧ t.layers = false ∧ t.wd.running = false) ∧
  (t.mr[0] = s.mr[0] ∧ t.mr[2] = s.mr[2] ∧ t.mr[3] = s.mr[3]) ∧
  (t.loops = s.loops ∧ t.phases = s.phases ∧ t.regul = s.regul ∧ t.feeds = s.feeds ∧ t.seq = s.seq ∧
    ∀ a, 0x40010000 ≤ a → a < 0x40016000 → t.rd a = s.rd a)

/-- The words of a context's configuration with one of them written (R275). -/
def State.ctxAfter (s : State) (i : Fin 160) (k : Fin 5) (v : Word) (j : Nat) : Word :=
  if j = k.val then v &&& ctxWordMask k else s.rd (CTX_SRC i + 4 * j)

/-- A protected write to a block is taken: Burin reaches the bus, and the open unlock window is its source's and the
block's (R445, R447). -/
def State.Unlocked (s : State) (block : Nat) : Prop := s.burinReaches = true ∧ s.protBlocked s.actSrc block = none

/-! ### Host commands -/

/-- A host command is the one that the firmware executes next: its packet waits under its tag (R391, R412). -/
def State.Front (s : State) (code : Nat) (c : HostCmd) (k : Fin 96) : Prop :=
  c.tag.toNat = k.val ∧ s.isNext k c.port (cmdPacket code c) = true

/-- A tag is ANSWERED, and the response waits in its port's outbound FIFO with the CRC word of the port (R383, R384, R391). -/
def State.Answered (t : State) (k : Fin 96) (p : Port) (cls status : Nat) (pay : List Word) : Prop :=
  t.tags[k].st = .answered ∧ ∃ i ∈ (t.port p).out, i.tag = some k.val ∧ i.notice = false ∧
    i.words = (if t.crcPort p then (header status k cls pay.length :: pay) ++ [crcWord (header status k cls pay.length :: pay)]
      else header status k cls pay.length :: pay)

/-- A command was executed, and its answer waits for hardware (R414): its tag stays QUEUED and its packet is gone. -/
def State.Defers (s t : State) (k : Fin 96) (a : Answer) : Prop :=
  t.tags[k].st = .queued ∧ t.waitingFor k = none ∧ t.fw.deferred = s.fw.deferred ++ [⟨k, s.clk.frames, a⟩]

/-- The registers and parts that the execution of a host command writes for its packet and its answer. -/
def answerRegs (p : Port) (k : Fin 96) : List Nat := [TAG_BUSY (k.val / 32), PORT_STAT p, NOTE_STAT p]
def answerParts : List Part := [.ports, .tags, .fw]

end Sys2Proof.Machine
end

