-- ==== Sys2Proof/WellFormed.lean ====
section
/-! DEFINITION. What a well-formed command is: the bounds that the spec sets on operands and that their types do not
already hold. A command outside them is one that no sender can make; its meaning is total all the same. -/
namespace Sys2Proof

/-- A packet has at most 62 payload words (R385). -/
def cmdOk (c : HostCmd) : Bool := decide (c.payload.length ≤ 62)

/-- MRAM is read in 64-bit words (R342). -/
def eccOk (l : List EccRead) : Bool :=
  l.all (fun e => decide (e.off.toNat % 8 = 0) && (match e.bits with | some (i, j) => i != j | none => true))

/-- The function codes that the alarm link serves are no bad request (R403). -/
def badOk : BadRequest → Bool
  | .otherCode fc => fc != 3 && fc != 4 && fc != 6
  | .damaged => true
  | .otherAddr => true

/-- A response is a header with at most 62 words (R385). -/
def responseOk : Response → Bool
  | .owed _ => true
  | .words ws => decide (ws.length ≤ 63)

/-- The operands of a command lie within what the spec allows: Port E has no transactions of a host and Port C no
alert (R396, R402, R406), a transaction of Ports A and B has at most 64 data bytes (R381), a tick has the conversions of
128 entries (R294), and an echo's delay is part of its round trip (R406). -/
def Instr.wellFormed : Instr → Bool
  | .vbakRise => true
  | .coldStart _ _ _ _ _ ecc => eccOk ecc
  | .vsysFall _ => true
  | .vbakFall => true
  | .standbyReq => true
  | .wakeRequest _ => true
  | .resetNPulse _ => true
  | .lockstepMismatch _ => true
  | .tcmErrorCorrected => true
  | .tcmErrorUncorrectable _ => true
  | .dProcRelease _ ecc => eccOk ecc
  | .romLimitExpiry => true
  | .activeOscillatorLost _ _ _ _ => true
  | .spareOscillatorLost _ _ => true
  | .bothOscillatorsLost => true
  | .oscillatorRestartAttempt _ _ _ _ _ _ ecc => eccOk ecc
  | .mainResume _ _ => true
  | .refInLoss => true
  | .holdoverExpiry => true
  | .refReturn => true
  | .pllLock => true
  | .discLock => true
  | .crystalFault => true
  | .crystalReturn => true
  | .crystalStop => true
  | .frameTick x => decide (x.conv.length ≤ 128)
  | .dllCalFail => true
  | .frameMark _ _ => true
  | .frameMarkAtLeader => true
  | .frmAlignedSet => true
  | .frameMarksMissing => true
  | .linkUp _ => true
  | .echoReceipt round_ delay => decide (delay.toNat ≤ round_.toNat)
  | .siblingStatus _ _ _ _ _ _ => true
  | .siblingStatusLost => true
  | .mailboxCell _ _ _ _ _ => true
  | .ready => true
  | .extend _ => true
  | .proofGo => true
  | .proofSigned => true
  | .softwareDoorbell _ => true
  | .doorbellAppend => true
  | .icClaim => true
  | .loopEnable _ => true
  | .stageEnableDelayEnd _ => true
  | .compensatorUpdate _ _ _ _ _ => true
  | .referenceRampEnd _ => true
  | .loopPgSet _ => true
  | .loopDisable _ => true
  | .softStopEnd _ => true
  | .stgEnDeassert _ => true
  | .loopSetpointChange _ => true
  | .periodChange _ => true
  | .swapReq _ => true
  | .phCfgWrite _ _ => true
  | .syncQualified _ _ _ _ _ => true
  | .synced _ _ => true
  | .syncLost => true
  | .stgFltNAsserted _ => true
  | .imonSample _ _ => true
  | .persistentPhaseOvercurrent _ => true
  | .loopOvercurrent _ => true
  | .loopOvervoltage _ => true
  | .overvoltageHoldEnd _ => true
  | .loopUndervoltage _ => true
  | .undershootTrip _ => true
  | .fireEnd _ => true
  | .undershootRearm _ _ _ => true
  | .brakeStart _ _ _ => true
  | .brakeEnd _ _ _ => true
  | .brakeTmax _ _ => true
  | .phaseShed _ => true
  | .shedPhasesJoin _ => true
  | .reshedHoldoffEnd _ => true
  | .imbalance _ => true
  | .fence _ => true
  | .substReq _ => true
  | .substitution _ => true
  | .regEnable _ _ => true
  | .regRampEnd _ => true
  | .regPgSet _ => true
  | .regDisable _ => true
  | .regSetpointChange _ => true
  | .regOvervoltage _ _ => true
  | .swReverseCurrent _ _ _ => true
  | .regUndervoltage _ _ _ => true
  | .peakCurrentLimit _ _ _ => true
  | .ldCurrentLimit _ _ => true
  | .regPersistentOvercurrent _ _ => true
  | .regOverTemperature _ => true
  | .retryWaitEnd _ _ => true
  | .retriesReset _ => true
  | .sweepStart => true
  | .segmentMeasurement _ => true
  | .segmentRetry _ _ _ => true
  | .segmentPostponed2h _ _ => true
  | .segmentFenceApplied _ => true
  | .feedWindowEntry _ => true
  | .feedQualified _ => true
  | .feedUvDisqualification _ _ _ => true
  | .feedOvCutoff _ _ => true
  | .inrushFailed _ => true
  | .quarantineEnd _ => true
  | .feedDisable _ => true
  | .reverseBlocking _ => true
  | .onBatteryDeclared => true
  | .returnToFeed => true
  | .bowTrip _ => true
  | .upInhibitRelease => true
  | .chgStart => true
  | .chgTerminate => true
  | .chgHold => true
  | .chgRelease => true
  | .chgStop => true
  | .trickleExit => true
  | .preExit => true
  | .ccToCv => true
  | .safetyTimerExpiry => true
  | .prechargeTimerExpiry => true
  | .stopCause _ => true
  | .packRemoved _ => true
  | .packIdClosed => true
  | .packQualElapsed => true
  | .zchShort => true
  | .hibernationResult _ _ => true
  | .gaugeWake => true
  | .cellUv _ => true
  | .restReached => true
  | .estDrift => true
  | .estimatorUpdate => true
  | .ggSocWrite _ => true
  | .countRecordHourly => true
  | .halt _ => true
  | .enable _ => true
  | .disable _ => true
  | .setV _ => true
  | .wait _ => true
  | .waitExpiry _ => true
  | .waitUntil _ => true
  | .waitUntilSatisfied _ => true
  | .waitTimeout _ => true
  | .check _ => true
  | .jump _ => true
  | .call _ => true
  | .returnStep _ => true
  | .commit _ => true
  | .mark _ => true
  | .snapshot _ => true
  | .barrier _ => true
  | .barrierPass _ => true
  | .seqStart _ _ _ => true
  | .seqStop _ => true
  | .seqFlagSet _ => true
  | .seqFlagClr _ => true
  | .stencilStoreWrite _ _ => true
  | .labelWrite _ _ => true
  | .downStartByEvent _ => true
  | .minOffEnd => true
  | .autoUpStart => true
  | .faultNEdge => true
  | .faultNRelease => true
  | .upHeldRelease => true
  | .contextWrite _ _ _ => true
  | .thermalStep => true
  | .throttleFall => true
  | .urgentRequest _ _ _ _ _ => true
  | .urgentResult _ _ _ => true
  | .refReadySet _ => true
  | .referenceFault _ _ => true
  | .calZero _ _ => true
  | .calFull _ _ => true
  | .calAbort => true
  | .calibrationCaptureDone _ => true
  | .adc2Takeover _ => true
  | .stickyClear _ _ => true
  | .forceRaise _ => true
  | .faultReaction => true
  | .wdCheckinWrite _ _ => true
  | .watchdogPeriodEnd => true
  | .wdOutPulseEnd => true
  | .plateIngest => true
  | .nvWordWrite _ => true
  | .floodEnd => true
  | .clockMarkHourly => true
  | .plateRebuildDone ecc => eccOk ecc
  | .snap _ => true
  | .plateCursorWrite _ => true
  | .plateWin4Read ecc => eccOk ecc
  | .ggQrawLoRead _ => true
  | .rtcSecLoRead => true
  | .rtcOptLoRead => true
  | .nvWrite => true
  | .erase => true
  | .resume => true
  | .set => true
  | .calendarLoad => true
  | .clearSwo => true
  | .rtcTrimWrite _ => true
  | .periodicWake => true
  | .calendarWrap => true
  | .vbakLow _ => true
  | .counterRecordHourly => true
  | .identify c => cmdOk c
  | .status c => cmdOk c
  | .restart c => cmdOk c
  | .standby c => cmdOk c
  | .fuseWd c => cmdOk c
  | .telemRead c ecc => cmdOk c && eccOk ecc
  | .adcUrgent c => cmdOk c
  | .faultRead c => cmdOk c
  | .faultClear c => cmdOk c
  | .railEnable c => cmdOk c
  | .railDisable c => cmdOk c
  | .railSetV c => cmdOk c
  | .railStatus c => cmdOk c
  | .phaseSubst c => cmdOk c
  | .threadStart c => cmdOk c
  | .threadStop c => cmdOk c
  | .seqFlags c => cmdOk c
  | .threadStatus c => cmdOk c
  | .charge c => cmdOk c
  | .chargeStatus c => cmdOk c
  | .gaugeRead c => cmdOk c
  | .gaugeMode c => cmdOk c
  | .gaugeCells c => cmdOk c
  | .plateInfo c => cmdOk c
  | .plateRead c ecc => cmdOk c && eccOk ecc
  | .plateSnapshot c => cmdOk c
  | .rtcRead c => cmdOk c
  | .rtcSet c => cmdOk c
  | .rtcClearSwo c => cmdOk c
  | .rtcWake c => cmdOk c
  | .wdCheckin c _ => cmdOk c
  | .proof c => cmdOk c
  | .proofSig c => cmdOk c
  | .certRead c => cmdOk c
  | .cfgBegin c => cmdOk c
  | .cfgWrite c => cmdOk c
  | .cfgVerify c ecc => cmdOk c && eccOk ecc
  | .cfgInfo c => cmdOk c
  | .imgBegin c => cmdOk c
  | .imgWrite c => cmdOk c
  | .imgVerify c ecc => cmdOk c && eccOk ecc
  | .imgActivate c => cmdOk c
  | .sessionTimeout => true
  | .regRead c ecc => cmdOk c && eccOk ecc
  | .regWrite c => cmdOk c
  | .auxXfer c => cmdOk c
  | .deadlineExpiry _ => true
  | .responseWrite _ r => responseOk r
  | .responseRetrieved _ => true
  | .mbxRxRead _ => true
  | .drop _ => true
  | .mbxIn p bytes _ _ => p != .e && (p == .c || decide (bytes.length ≤ 64))
  | .mbxOut p _ => p != .e
  | .portStatusRead p => p != .e
  | .hostDrop p => p != .e
  | .abortIn p => p != .e
  | .mbxAgain p => (p == .a || p == .b)
  | .alertResponse p => (p == .a || p == .b)
  | .addressMatchWake _ _ => true
  | .busTimeout p _ => (p == .a || p == .b)
  | .mbxHtxWrite _ => true
  | .modbusReadRegisters _ _ _ => true
  | .modbusWriteAcknowledge _ _ => true
  | .modbusBadRequest kind => badOk kind
  | .auxGo _ _ _ => true
  | .auxTransferEnd _ _ _ => true
  | .firstKey _ => true
  | .unlock _ => true
  | .close => true
  | .unlockWindowExpiry => true
  | .protectedWrite _ _ => true
  | .sysActWrite _ => true
  | .registerWrite _ _ => true
  | .vregOutOfRange _ => true
  | .cellCrcError _ => true

end Sys2Proof
end

