-- ==== Sys2Proof/Certificates/Slice0/Obligations.lean ====
section
/-! DEFINITION. The statements for the provers. A statement about a command says where it completes, what it leaves in
the registers and parts it writes, what it raises, and, as a Frame or an EventFrame, that it changes nothing else. -/
open Sys2Proof Sys2Proof.Machine

/-- A step takes the command at the front of the queue and answers what its meaning answers on the state with the queue's
rest. The queue is the model's own (log 1). -/
def Obligations.StepRunsFront : Prop := ∀ (s : State) (c : Instr) (r : List Instr),
  s.pending = c :: r → step s = exec c { s with pending := r }

/-- With no command waiting the block idles: a choice of the model (log 1). -/
def Obligations.StepIdles : Prop := ∀ (s : State), s.pending = [] → step s = .next s

/-- A step that goes on takes exactly the front command off the queue, whatever the command does (log 1). -/
def Obligations.StepTakesOneCommand : Prop := ∀ (s t : State) (c : Instr) (r : List Instr),
  s.pending = c :: r → step s = .next t → t.pending = r

/-- Every command goes on, from every state: no meaning faults and none refuses, since a command that cannot occur in a
state keeps it (log 3). -/
def Obligations.EveryCommandGoesOn : Prop := ∀ (c : Instr) (s : State), Answers c s fun t => t.pending = s.pending

/-- The machine right after reset: without power (R67), every register at the reset value of the register map, the
measurement registers zero (R82), and no command waiting. -/
def Obligations.ResetState : Prop :=
  (∀ a, State.reset.rd a = resetVal a) ∧ State.reset.power = .unpowered ∧ (∀ n : Fin 4, State.reset.mr[n] = 0) ∧
  State.reset.pending = [] ∧ State.reset.Wf ∧ State.reset.Chained

/-- Every step keeps the one form of the register file, the latched file, MRAM and Burin's memories, so that equal
contents stay equal data. -/
def Obligations.StepKeepsForm : Prop := ∀ (s t : State), step s = .next t → s.Wf → t.Wf

/-- R82: MR0 to MR3 read as zero after reset; an extension of MR1 by the 32 bytes D of MR_DATA sets MR1 to
SHA-256(MR1 ‖ D) and increments MR_CNT[1], one of another target does nothing; and no command sets a measurement register to anything but zero or an
extension of what it reached before. -/
def Obligations.MeasurementRegisters : Prop :=
  (∀ n : Fin 4, State.reset.mr[n] = 0) ∧
  (∀ s : State, s.burinReaches = true →
    Answers (.extend 1) s fun t =>
      t.mr[1] = digestBV (sha256 (bytesLE 32 s.mr[1].toNat ++ s.regBytes MR_DATA 8)) ∧
      (t.rd (mrCnt 1)).toNat = min ((s.rd (mrCnt 1)).toNat + 1) 0xFFFFFFFF ∧ (∀ n : Fin 4, n ≠ 1 → t.mr[n] = s.mr[n]) ∧ Frame [mrCnt 1] [.mr] s t) ∧
  (∀ (s : State) (k : BitVec 2), s.burinReaches = true → k ≠ 1 → Answers (.extend k) s fun t => t = s) ∧
  ∀ s t : State, step s = .next t → s.Chained → t.Chained

/-- R82 (spec 04): EXTEND. Of target 1 it sets MR1 to SHA-256 of MR1 followed by the 32 bytes of MR_DATA, counts the
extension in MR_CNT[1], which stays at its highest value, and changes no other measurement register; of another target, and
while Burin does not run, it changes nothing. -/
def Obligations.ExtendMeasurement : Prop := ∀ (s : State),
  (s.burinReaches = true → Answers (.extend 1) s fun t =>
    t.mr = s.mr.set 1 (digestBV (sha256 (bytesLE 32 s.mr[1].toNat ++ s.regBytes MR_DATA 8))) ∧
    (t.rd (mrCnt 1)).toNat = min ((s.rd (mrCnt 1)).toNat + 1) 0xFFFFFFFF ∧ Frame [mrCnt 1] [.mr] s t) ∧
  (∀ k : BitVec 2, s.burinReaches = false ∨ k ≠ 1 → Answers (.extend k) s fun t => t = s)

/-- R175, R177, R178, R179 (spec 08): each transition of a feed's state machine, from the state and condition that the
table gives it. A disqualification leaves the feed ABSENT, or QUARANTINED with the DISQ_MAXth inside DISQ_WIN; the gate
is off in both. -/
def Obligations.FeedStates : Prop := ∀ (s : State) (x : Fin 2), s.engines = true →
  (s.feedState x = feedAbsent → s.flag (FEED_CFG x) FEED_CFG_EN = true → s.feedInWindow x = true →
    Answers (.feedWindowEntry x) s fun t => t.feedState x = feedQualifying ∧ t.feeds[x].qualAt = s.clk.frames ∧
      Frame [FEED_STAT x] [.snap, .feeds] s t) ∧
  (s.feedState x = feedQualifying → s.feeds[x].qualAt + 50 * max 1 (s.latchedF PATH_CFG PATH_CFG_FEED_QUAL) ≤ s.clk.frames →
    Answers (.feedQualified x) s fun t => t.feedState x = feedQualified ∧ t.get (FEED_STAT x) FEED_STAT_GATE_ON = 1 ∧
      t.path = (if s.path = pathOnBattery then pathReturning else s.path) ∧
      EventFrame [FEED_STAT x, PATH_STAT, SEQ_THR_STAT thDown] [.snap, .feeds, .seq] s t) ∧
  (s.feedIn x = true → ∀ (v : BitVec 16) (d : BitVec 8), ∀ c ∈ [(Instr.feedUvDisqualification x v d, FEED_STAT_UV),
      (Instr.feedOvCutoff x v, FEED_STAT_OV)],
    (c.2 = FEED_STAT_UV → v.toNat < s.feedUv x ∧ s.deglitch x ≤ d.toNat) → (c.2 = FEED_STAT_OV → s.feedOv x < v.toNat) →
    Answers c.1 s fun t => t.get (FEED_STAT x) c.2 = 1 ∧ t.get (FEED_STAT x) FEED_STAT_GATE_ON = 0 ∧
      t.feedState x = (if s.quarantines x then feedQuarantined else feedAbsent) ∧ s.HandsOver t ∧
      EventFrame [FEED_STAT x, PATH_STAT] [.feeds, .chg, .est] s t) ∧
  (s.feedIsQual x = true → 5000 ≤ s.feeds[x].lagRun →
    Answers (.inrushFailed x) s fun t => t.get (FEED_STAT x) FEED_STAT_INRUSH = 1 ∧
      t.get (FEED_STAT x) FEED_STAT_GATE_ON = 0 ∧
      t.feedState x = (if s.quarantines x then feedQuarantined else feedAbsent) ∧ s.HandsOver t ∧
      EventFrame [FEED_STAT x, PATH_STAT] [.feeds, .chg, .est] s t) ∧
  (s.feedState x = feedQuarantined → s.feeds[x].quarEnd ≤ s.opt.ms →
    Answers (.quarantineEnd x) s fun t => t.feedState x = feedAbsent ∧ t.get (FEED_STAT x) FEED_STAT_GATE_ON = 0 ∧
      t.get (FEED_STAT x) FEED_STAT_DISQ = 0 ∧ t.feeds[x].disqs = [] ∧ EventFrame [FEED_STAT x] [.feeds] s t) ∧
  Answers (.feedDisable x) s (fun t => t.get (FEED_CFG x) FEED_CFG_EN = 0 ∧ t.feedState x = feedAbsent ∧
      t.get (FEED_STAT x) FEED_STAT_GATE_ON = 0 ∧ s.HandsOver t ∧
      Frame [FEED_CFG x, FEED_STAT x, PATH_STAT] [.chg, .est] s t) ∧
  (s.feedIsQual x = true → Answers (.reverseBlocking x) s fun t =>
      t = { s with feeds := s.feeds.set x { s.feeds[x] with revSeen := true } })

/-- R180 to R184, R346 (spec 08): the path's transitions and the trip of BOW, and the end of UP's start inhibit. -/
def Obligations.PathStates : Prop := ∀ (s : State),
  (s.engines = true → s.path = pathHandover → s.chg.handAt < s.clk.frames →
    Answers .onBatteryDeclared s fun t => t.path = pathOnBattery ∧ t.get CHG_STAT CHG_STAT_SUSP = 1 ∧
      t.get PATH_STAT PATH_STAT_HANDOVERS = min (s.get PATH_STAT PATH_STAT_HANDOVERS + 1) 255 ∧
      t.raisedCode 0x4A 0 ∧ EventFrame [PATH_STAT, CHG_STAT] [.snap] s t) ∧
  (s.engines = true → s.path = pathReturning → s.busUp = true →
    Answers .returnToFeed s fun t => t.path = pathOnFeed ∧ t.get PATH_STAT PATH_STAT_BOW_ARMED = 0 ∧
      t.get CHG_STAT CHG_STAT_SUSP = 0 ∧ t.get PLATE_STAT PLATE_STAT_BLOCKED = 0 ∧ t.raisedCode 0x4B 0 ∧
      EventFrame [PATH_STAT, CHG_STAT, PLATE_STAT] [.snap, .chg, .gg, .nv] s t) ∧
  (s.power = .run → s.flag PATH_STAT PATH_STAT_BOW_ARMED = true → s.chg.bowDone = false →
    ∀ v : BitVec 16, v.toNat < s.bowLevel → Answers (.bowTrip v) s fun t => t.get PATH_STAT PATH_STAT_BOW = 1 ∧ t.get PLATE_STAT PLATE_STAT_BLOCKED = 1 ∧
      t.chg.bowDone = true ∧ t.raisedCode 0x4C 0 ∧ EventFrame [PATH_STAT, PLATE_STAT] [.chg, .nv] s t) ∧
  (s.engines = true → s.thState thUp = thHeld → s.seq.heldVsys = true → s.vsysStarts = true →
    Answers .upInhibitRelease s fun t => t.get PATH_STAT PATH_STAT_UP_INHIB = 0 ∧ t.seq.heldVsys = false ∧
      t.thState thUp = (if s.seq.heldFn then thHeld else thRunning) ∧
      Frame [PATH_STAT, SEQ_THR_STAT thUp] [.snap, .seq] s t)

/-- R188, R197 (spec 08): what each command of the charger does from a state that accepts it, and that it is ignored
with ESN 0x56 from one that does not. -/
def Obligations.ChargerCommands : Prop := ∀ (s : State),
  (s.chgDue 1 = true → s.chgState ∈ [chgIdle, chgZch, chgSafeHold] → s.chg.packId = true → s.cellCause = false → s.mevCause = false →
    Answers .chgStart s fun t => t.chgState = s.chgEval ∧ t.chg.safeOn = true ∧ t.chg.safeMs = 0 ∧ t.chg.preMs = 0 ∧
      (s.path ≠ pathOnFeed → t.get CHG_STAT CHG_STAT_SUSP = 1) ∧ EventFrame [CHG_STAT, CHG_TIME] [.snap, .chg] s t) ∧
  (s.chgDue 2 = true → charging s.chgState = true → s.safeDone = false →
    Answers .chgTerminate s fun t => t.chgState = chgZch ∧ t.chg.safeOn = false ∧
      t.get CHG_STAT CHG_STAT_HOLD_REL = 0 ∧ t.raisedCode 0x4E (chgZch + 16 * s.chgState) ∧
      EventFrame [CHG_STAT] [.snap, .chg] s t) ∧
  (s.chgDue 3 = true → charging s.chgState = true →
    Answers .chgHold s fun t => t.chgState = chgZch ∧ t.get CHG_STAT CHG_STAT_HOLD_REL = 1 ∧
      t.chg.safeMs = s.chg.safeMs ∧ t.chg.preMs = s.chg.preMs ∧ t.chg.safeOn = s.chg.safeOn ∧
      EventFrame [CHG_STAT] [.snap, .chg] s t) ∧
  (s.chgDue 4 = true → s.chgState = chgZch → s.flag CHG_STAT CHG_STAT_HOLD_REL = true →
    Answers .chgRelease s fun t => t.chgState = s.chgEval ∧ t.get CHG_STAT CHG_STAT_HOLD_REL = 0 ∧
      t.chg.safeMs = s.chg.safeMs ∧ EventFrame [CHG_STAT] [.snap, .chg] s t) ∧
  (s.chgDue 5 = true → s.chgState ≠ chgNoPack → s.chgState ≠ chgPackQual →
    Answers .chgStop s fun t => t.chgState = chgIdle ∧ t.chg.safeOn = false ∧ t.chg.preOn = false ∧
      EventFrame [CHG_STAT] [.snap, .chg] s t) ∧
  (charging s.chgState = false →
    ∀ c ∈ [(Instr.chgTerminate, 2), (.chgHold, 3)], s.chgDue c.2 = true → Answers c.1 s fun t => t.chgState = s.chgState ∧ t.raisedCode 0x56 0 ∧
      EventFrame [] [.snap, .chg] s t)

/-- R188, R190 to R192, R195 (spec 08): the charger's transitions, each from its state and condition, and what it raises.
A removed pack by PACK_ID and its return, the exits of the phases, the timers and the stop causes. -/
def Obligations.ChargerTransitions : Prop := ∀ (s : State), s.engines = true →
  (50 ≤ s.chg.exitRun → ∀ c ∈ [(Instr.trickleExit, chgTrickle, chgPre), (.preExit, chgPre, chgCC), (.ccToCv, chgCC, chgCV)],
    s.chgState = c.2.1 → Answers c.1 s fun t => t.chgState = c.2.2 ∧ t.raisedCode 0x4E (c.2.2 + 16 * c.2.1) ∧
      EventFrame [CHG_STAT] [.snap, .chg] s t) ∧
  (s.safeDone = true → charging s.chgState = true →
    Answers .safetyTimerExpiry s fun t => t.chgState = chgZch ∧ t.get CHG_STAT CHG_STAT_TMR_EXP = 1 ∧
      t.chg.safeOn = false ∧ t.raisedCode 0x4F 0x01 ∧ EventFrame [CHG_STAT] [.snap, .chg] s t) ∧
  (s.safeDone = true → s.chgState = chgSafeHold →
    Answers .safetyTimerExpiry s fun t => t.chgState = chgSafeHold ∧ t.chg.zeroHold = true ∧
      t.raisedCode 0x4F 0x01 ∧ EventFrame [CHG_STAT] [.snap, .chg] s t) ∧
  (s.preDone = true → s.chgState ∈ [chgTrickle, chgPre] →
    Answers .prechargeTimerExpiry s fun t => t.chgState = chgZch ∧ t.get CHG_STAT CHG_STAT_PRE_EXP = 1 ∧
      t.chg.preOn = false ∧ t.raisedCode 0x4F 0x02 ∧ EventFrame [CHG_STAT] [.snap, .chg] s t) ∧
  (∀ k : Fin 8, 5 ≤ s.chg.ovRun[k] → charging s.chgState = true →
    Answers (.stopCause (.cell k)) s fun t => t.chgState = chgZch ∧ t.get CHG_STAT CHG_STAT_CELL_OV = 1 ∧
      (s.chg.ovSaid = false → t.raisedCode 0x52 0) ∧ EventFrame [CHG_STAT] [.snap, .chg] s t) ∧
  (∀ n : Fin 96, s.mevStands n = true → s.stopNamed n = true → charging s.chgState = true →
    Answers (.stopCause (.mev n)) s fun t => t.chgState = chgZch ∧ t.get CHG_STAT CHG_STAT_STOPEV = 1 ∧
      (n.val ∉ s.chg.mevSaid → t.raisedCode 0x53 0) ∧ EventFrame [CHG_STAT] [.snap, .chg] s t) ∧
  (s.chgState ∈ [chgIdle, chgTrickle, chgPre, chgCC, chgCV, chgZch, chgPackQual] → s.path = pathOnFeed →
    ∀ how : Removal, s.removalFound how = true → Answers (.packRemoved how) s fun t => t.chgState = chgNoPack ∧
      (how = .byId → t.chg.packId = false) ∧ t.get CHG_STAT CHG_STAT_NOPACK = 1 ∧
      t.raisedCode 0x50 (if how = .byId then 1 else 2) ∧
      EventFrame [CHG_STAT, GG_EFLAGS] [.chg, .est, .gg, .nv] s t) ∧
  (s.chgState = chgNoPack →
    Answers .packIdClosed s fun t => t.chgState = chgPackQual ∧ t.chg.packId = true ∧
      t.chg.qualEnd = s.clk.frames + 500 * max 1 (s.latchedF CHG_NOPACK CHG_NOPACK_PACK_QUAL) ∧
      t.raisedCode 0x4E (chgPackQual + 16 * chgNoPack) ∧ EventFrame [CHG_STAT] [.chg] s t) ∧
  (s.chgState = chgPackQual → s.chg.qualEnd ≤ s.clk.frames → s.est.running = false → s.firstHigh 8 = none →
    Answers .packQualElapsed s fun t => t.chgState = (if s.lowBelow (s.latchedF CHG_VTH CHG_VTH_V_TRK) then chgTrickle else chgPre) ∧
      t.chg.safeMs = 0 ∧ t.chg.preMs = 0 ∧ t.est.reinsert = some s.seedVoltage ∧ t.raisedCode 0x51 0 ∧
      EventFrame [CHG_STAT, CHG_TIME] [.snap, .chg, .est] s t) ∧
  (s.chgState = chgPackQual → s.chg.qualEnd ≤ s.clk.frames → ∀ k, s.firstHigh 8 = some k →
    Answers .packQualElapsed s fun t => t.chgState = chgZch ∧ t.get CHG_STAT CHG_STAT_CELL_OV = 1 ∧
      t.raisedCode 0x52 0 ∧ EventFrame [CHG_STAT] [.snap, .chg] s t) ∧
  (s.chgState = chgZch → 50 ≤ s.chg.shortRun → s.chg.shortSaid = false →
    Answers .zchShort s fun t => t.get CHG_STAT CHG_STAT_ZCH_SHORT = 1 ∧ t.chgState = chgZch ∧ t.chg.shortSaid = true ∧
      t.raisedCode 0x54 0 ∧ EventFrame [CHG_STAT] [.snap, .chg] s t)

/-- R205, R208, R211, R212, R216 to R218, R231 (spec 09): the gauge's events. -/
def Obligations.GaugeEvents : Prop := ∀ (s : State),
  (s.gaugeRuns = true → s.packPresent = true → s.get GG_STAT GG_STAT_REST = 0 →
    50000 * max 1 (s.latchedF GG_REST GG_REST_REST_T) ≤ s.gg.restRun →
    Answers .restReached s fun t => t.get GG_STAT GG_STAT_REST = 1 ∧ t.get GG_STAT GG_STAT_DRIFT = 0 ∧
      t.get GG_REST_AGE GG_REST_AGE_AGE = 0 ∧ t.gg.restedAt = s.opt.ms ∧ t.raisedCode 0x58 0 ∧
      EventFrame [GG_STAT, GG_REST_AGE] [.snap, .gg] s t) ∧
  (s.gaugeRuns = true → s.get GG_STAT GG_STAT_REST = 0 → s.get GG_STAT GG_STAT_DRIFT = 0 →
    3600 * max 1 (s.latchedF GG_CFG GG_CFG_DRIFT_H) ≤ s.get GG_REST_AGE GG_REST_AGE_AGE →
    Answers .estDrift s fun t => t.get GG_STAT GG_STAT_DRIFT = 1 ∧ t.raisedCode 0x5A 0 ∧
      EventFrame [GG_STAT] [.snap] s t) ∧
  (∀ k : Fin 8, s.engines = true → 5 ≤ s.gg.uvRun[k] → k.val ∉ s.gg.uvSaid →
    Answers (.cellUv k) s fun t => t.get GG_STAT GG_STAT_CELL_UV = 1 ∧ t.raisedCode 0x5F 0 ∧
      EventFrame [GG_STAT] [.snap, .gg] s t) ∧
  (s.engines = true → s.flag GG_EFLAGS GG_EFLAGS_FROZEN = true → s.gg.frozenAt + 3600000 ≤ s.opt.ms → s.nvBlocked = false →
    Answers .countRecordHourly s fun t => t.gg.frozenAt = s.gg.frozenAt + 3600000 ∧ t.gg.seq = (s.gg.seq + 1) % 2 ^ 32 ∧
      t.gg.slot = (s.gg.slot + 1) % 1024 ∧ t.nv.q2.length = s.nv.q2.length + 1 ∧ Frame [] [.gg, .nv] s t) ∧
  (s.engines = true → s.flag GG_EFLAGS GG_EFLAGS_FROZEN = true → s.gg.frozenAt + 3600000 ≤ s.opt.ms → s.nvBlocked = true →
    Answers .countRecordHourly s fun t => t.gg.frozenAt = s.gg.frozenAt + 3600000 ∧ t.raisedCode 0x5C 3 ∧
      EventFrame [] [.gg] s t) ∧
  (∀ v : Word, s.burinReaches = true → s.actSrc = 0 →
    Answers (.ggSocWrite v) s fun t => t.rd GG_SOC = v ∧ t.gg.qref = s.gg.qraw ∧
      t.rd GG_QREF_LO = BitVec.ofNat 32 (wrapI 64 s.gg.qraw) ∧
      t.rd GG_QREF_HI = BitVec.ofNat 32 (wrapI 64 s.gg.qraw / 2 ^ 32) ∧ t.get GG_EFLAGS GG_EFLAGS_FROZEN = 0 ∧
      Frame [GG_SOC, GG_QREF_LO, GG_QREF_HI, GG_EFLAGS] [.gg] s t) ∧
  (∀ v : Word, s.burinReaches = true → s.actSrc ≠ 0 →
    Answers (.ggSocWrite v) s fun t => t.raisedCode 0x66 0 ∧ EventFrame [] [] s t) ∧
  (s.inRun = true →
    Answers (.ggQrawLoRead false) s (fun t => t = { s with gg := { s.gg with qrawHi := some (s.rd GG_QRAW_HI) }, out := [s.rd GG_QRAW_LO] }) ∧
    Answers (.ggQrawLoRead true) s (fun t => t = { s with gg := { s.gg with qrefHi := some (s.rd GG_QREF_HI) }, out := [s.rd GG_QREF_LO] })) ∧
  (s.power = .standby → 2 ≤ s.gg.wakeRun → s.flag PWR_WAKE_EN PWR_WAKE_EN_GAUGE = true →
    Answers .gaugeWake s fun t => t.power = .run ∧ t.get PWR_WAKE_SRC (bitF 5) = 1 ∧ t.get PWR_STATE PWR_STATE_WARM = 1 ∧
      (0x63, 0, 0) ∈ t.opt.firstTick ∧
      EventFrame (PWR_WAKE_SRC :: PWR_STATE :: WD_SEQ :: WD_STAT :: ctxStats) [.power, .ctx, .th, .adc, .wd, .opt] s t) ∧
  (∀ (code : BitVec 20) (packId : Bool), s.power = .standby → s.flag GG_STAT GG_STAT_HIB = true → s.bak.crystal = true →
    Answers (.hibernationResult code packId) s fun t => t.gg.hibN = s.gg.hibN + 1 ∧ t.gg.hibCycles = 0 ∧
      t.chg.packId = packId ∧
      t.gg.wakeRun = (if s.get GG_LIM GG_LIM_WAKE_I < (t.getI GG_I GG_I_I).natAbs then s.gg.wakeRun + 1 else 0))

/-- R218, R220, R222 (spec 09): an update of the estimator publishes, with a state of charge of at most 100 % and a band
of at most 50 %; GG_QREF takes GG_QRAW and FROZEN clears. It writes nothing but the estimator's outputs, its records, the
charger's request for a manufactured rest (R223) and what a raise writes. -/
def Obligations.EstimatorUpdate : Prop := ∀ (s : State),
  s.engines = true → s.proc.mode = .firmware → s.flag BOOT_STAT BOOT_STAT_READY = true → s.estDue = true →
  Answers .estimatorUpdate s fun t => t.get GG_SOC GG_SOC_SOC ≤ 10000 ∧ t.get GG_SOC GG_SOC_BAND ≤ 5000 ∧
    t.gg.qref = t.gg.qraw ∧ t.get GG_EFLAGS GG_EFLAGS_FROZEN = 0 ∧
    EventFrame [GG_SOC, GG_QREF_LO, GG_QREF_HI, GG_EFLAGS, GG_FCC, GG_HEALTH, GG_TIME]
      [.gg, .est, .nv, .chg, .freeCtr] s t

/-- R351, R356 to R360 (spec 14): the ingest of a record of high severity, the end of a flood, the hourly clock mark, a
commanded snapshot, and the rebuild of an empty Plate. -/
def Obligations.PlateEvents : Prop := ∀ (s : State), s.inRun = true →
  (∀ r : PlateRec, s.ingestDue = true → s.plate.raised = [r] → 3 ≤ r.sev → s.fifoHigh + s.fifoLow < 512 →
    s.plate.newest.find? (fun n => n.esn == r.esn) = none → s.plate.coldMark = false →
    Answers .plateIngest s fun t => t.plate.raised = [] ∧ t.plate.fifo = s.plate.fifo ++ [⟨s.plate.nextId, r, none⟩] ∧
      t.plate.quiet = s.plate.quiet + 1 ∧
      t.plate.calm = (s.flag PLATE_STAT PLATE_STAT_FLOOD && s.fifoLow == 0 &&
        decide (max 1 (s.get PLATE_CFG PLATE_CFG_QUIET) ≤ s.plate.quiet + 1)) ∧
      t.clk.stage = .reserve ∧ Frame [PLATE_STAT] [.plate, .clk] s t) ∧
  (∀ x : Supp, s.get PLATE_STAT PLATE_STAT_FLOOD = 1 → s.clk.stage = .reserve →
    s.plate.calm = true → s.plate.supp = [x] → x.esn < 256 →
    Answers .floodEnd s fun t => t.get PLATE_STAT PLATE_STAT_FLOOD = 0 ∧ t.plate.supp = [] ∧
      t.plate.fifo = s.plate.fifo ++ [⟨s.plate.nextId, s.suppRec x, none⟩] ∧ t.rd (PLATE_SUPP x.esn) = 0 ∧
      t.raisedCode 0x91 0 ∧ EventFrame [PLATE_STAT, PLATE_SUPP x.esn] [] s t) ∧
  (s.opt.hourMark < s.opt.ms / 3600000 → s.plate.marks.length < 4 →
    Answers .clockMarkHourly s fun t => t.plate.marks = s.plate.marks ++ [s.clockMark 0x93 0 0 0] ∧
      t.opt.hourMark = s.opt.ms / 3600000 ∧ t.opt.ms = s.opt.ms ∧ Frame [] [.plate, .opt] s t) ∧
  (∀ tag : BitVec 16, s.plate.snapCmd = none → s.plate.snap = [] →
    Answers (.snap tag) s fun t => t.plate.snap ≠ [] ∧ t.get PLATE_STAT PLATE_STAT_SNAP_BUSY = 1 ∧
      t.get PLATE_CHAIN PLATE_CHAIN_ID = (s.get PLATE_CHAIN PLATE_CHAIN_ID + 1) % 65536 ∧ t.plate.snapSkip = false ∧
      Frame [PLATE_CHAIN, PLATE_STAT] [.plate] s t) ∧
  (∀ tag : BitVec 16, s.plate.snapCmd = none → s.plate.snap ≠ [] →
    Answers (.snap tag) s fun t => t.plate.snap = s.plate.snap ∧ t.plate.snapSkip = true ∧ t.raisedCode 0x15 0x0C ∧
      EventFrame [] [] s t) ∧
  (s.get PLATE_STAT PLATE_STAT_READY = 0 → markedPlate s.mram.cells = [] →
    Answers (.plateRebuildDone []) s fun t => t.get PLATE_STAT PLATE_STAT_READY = 1 ∧
      t.get PLATE_WPTR PLATE_WPTR_SLOT = 0 ∧ t.get PLATE_STAT PLATE_STAT_FULL = 0 ∧
      ∀ v : Fin 5, t.get (PLATE_SEVCNT v) PLATE_SEVCNT_COUNT = 0)

/-- R361 (spec 14): a write of PLATE_CURSOR selects a slot, one above 983,039 is ignored; PLATE_WIN[k] reads bytes 4k to
4k + 3 of that slot as they stand in MRAM; a read of PLATE_WIN[4] latches PLATE_WIN[5], and the next read of
PLATE_WIN[5] returns the latched half. -/
def Obligations.PlateWindow : Prop := ∀ (s : State), s.inRun = true →
  (∀ v : BitVec 20, v.toNat ≤ 983039 → Answers (.plateCursorWrite v) s fun t =>
    t.get PLATE_CURSOR PLATE_CURSOR_SLOT = v.toNat ∧ Frame [PLATE_CURSOR] [] s t) ∧
  (∀ v : BitVec 20, 983039 < v.toNat → Answers (.plateCursorWrite v) s fun t => t = s) ∧
  (∀ k : Fin 16, s.live (PLATE_WIN k) =
    BitVec.ofNat 32 (memWord s.mram.cells (plateBase + 64 * s.get PLATE_CURSOR PLATE_CURSOR_SLOT + 4 * k))) ∧
  Answers (.plateWin4Read []) s (fun t => t.out = [s.live (PLATE_WIN 4)] ∧
    (t.regRead (PLATE_WIN 5)).1 = s.live (PLATE_WIN 5) ∧ (t.regRead (PLATE_WIN 5)).2.plate.winLatch = none ∧
    Frame [] [.plate, .out] s t) ∧
  ∀ ecc : List EccRead, Answers (.plateWin4Read ecc) s (fun t => t.out = [(s.eccFlip ecc).live (PLATE_WIN 4)] ∧
    (t.regRead (PLATE_WIN 5)).1 = (s.eccFlip ecc).live (PLATE_WIN 5) ∧
    (t.regRead (PLATE_WIN 5)).2.plate.winLatch = none ∧ EventFrame [NV_STAT] [.plate, .mram, .nv, .out] s t)

/-- R15, R22, R63, R64, R73, R87, R88 (spec 01, 03, 04): the causes of a D_PROC reset. Each records its cause, and every rail,
phase, feed and thread goes on as it was; the fourth lockstep mismatch in 10 s fences Burin; a corrected TCM error only
raises; RESET_N is ignored unless enabled. -/
def Obligations.ProcessorResets : Prop := ∀ (s : State),
  (s.inRun = true → s.get RST_CFG RST_CFG_PIN_EN = 1 → s.proc.mode ∈ [.firmware, .recovery, .fenced] →
    ∀ e : WdEvent, Answers (.resetNPulse e) s fun t => t.proc.mode = .held ∧ s.ProcReset t RST_CAUSE_PIN) ∧
  (s.get RST_CFG RST_CFG_PIN_EN = 0 → ∀ e : WdEvent, Answers (.resetNPulse e) s fun t => t = s) ∧
  (s.coresRun = true → s.recentMismatches.length < 3 →
    ∀ e : WdEvent, Answers (.lockstepMismatch e) s fun t => t.proc.mode = .held ∧ t.raisedCode 0x10 0 ∧
      t.proc.mismatches = s.recentMismatches ++ [s.opt.ms] ∧ s.ProcReset t RST_CAUSE_LOCKSTEP) ∧
  (s.coresRun = true → 3 ≤ s.recentMismatches.length →
    ∀ e : WdEvent, Answers (.lockstepMismatch e) s fun t => t.proc.mode = .fenced ∧ t.get LS_STAT LS_STAT_FENCED = 1 ∧
      t.raisedCode 0x10 0 ∧ t.raisedCode 0x11 0 ∧ s.ProcReset t RST_CAUSE_LOCKSTEP) ∧
  (s.coresRun = true → Answers .tcmErrorCorrected s fun t => t.raisedCode 0x12 0 ∧ EventFrame [] [] s t) ∧
  (∀ b : Bool, s.coresRun = true →
    Answers (.tcmErrorUncorrectable b) s fun t => t.proc.mode = .held ∧ t.raisedCode 0x13 (if b then 2 else 1) ∧
      s.ProcReset t RST_CAUSE_TCM) ∧
  (s.inRun = true → s.proc.mode = .rom → s.wdEndsNow = true →
    Answers .romLimitExpiry s fun t => t.proc.mode = .held ∧ t.get WD_LAST WD_LAST_CODE = 5 ∧
      t.get WD_STAT WD_STAT_OUT = 1 ∧ t.raisedCode 0x18 5 ∧ s.ProcReset t RST_CAUSE_WDOG)

/-- R328 to R334 (spec 13): the watchdog. A period in which every required slot has checked in begins the next; one in which
a slot is missing expires, as does a double check-in; a check-in with a wrong key is ignored; the pulse of WD_OUT ends. -/
def Obligations.Watchdog : Prop := ∀ (s : State), s.inRun = true →
  (s.wd.running = true → s.proc.mode ≠ .rom → s.wdEndsNow = true → s.wd.first = false →
    s.wd.required &&& s.get WD_STAT WD_STAT_DONE = s.wd.required →
    Answers .watchdogPeriodEnd s fun t => t.rd WD_SEQ = s.rd WD_SEQ + 1 ∧ t.wd.running = true ∧ t.wd.clocks = s.wd.clocks - 100000 * s.wd.period ∧
      t.wd.first = false ∧ t.wd.period = s.wdClamp (s.get WD_CFG WD_CFG_PERIOD) ∧ t.get WD_STAT WD_STAT_DONE = 0 ∧
      t.get WD_STAT WD_STAT_OPEN = 0 ∧ Frame [WD_SEQ, WD_STAT] [.wd, .clk] s t) ∧
  (s.wd.running = true → s.proc.mode ≠ .rom → s.wdEndsNow = true →
    s.wd.required &&& s.get WD_STAT WD_STAT_DONE ≠ s.wd.required →
    Answers .watchdogPeriodEnd s fun t => t.proc.mode = .held ∧ t.get WD_LAST WD_LAST_CODE = 1 ∧
      t.get WD_STAT WD_STAT_OUT = 1 ∧ t.raisedCode 0x18 1 ∧ s.ProcReset t RST_CAUSE_WDOG) ∧
  (∀ (w : Word) (k : BitVec 12), s.proc.mode = .firmware → s.actSrc = 0 → s.wd.running = true →
    (s.clockAt k.toNat).wdElapsed < s.wdLimit →
    (getF w ⟨16, 16⟩ ≠ 0x5A3C → Answers (.wdCheckinWrite w k) s fun t => t.get WD_STAT WD_STAT_IGN = 1 ∧
      t.get WD_STAT WD_STAT_DONE = s.get WD_STAT WD_STAT_DONE ∧ t.raisedCode 0x19 1 ∧ EventFrame [WD_STAT] [.clk] s t) ∧
    (getF w ⟨16, 16⟩ = 0x5A3C → getF w ⟨0, 8⟩ < 16 → s.wd.enabled.testBit (getF w ⟨0, 8⟩) = true →
      ownerIn s.wd.own0 s.wd.own1 (getF w ⟨0, 8⟩) = 0 →
      ((s.get WD_STAT WD_STAT_DONE).testBit (getF w ⟨0, 8⟩) = false →
        getF w ⟨8, 8⟩ = (s.rd WD_SEQ).toNat % 256 →
        (windowAt s.wd.period (s.get WD_FUSE1 WD_FUSE1_WIN) : Int) ≤ (s.clockAt k.toNat).wdElapsed →
        Answers (.wdCheckinWrite w k) s fun t =>
          t.get WD_STAT WD_STAT_DONE = s.get WD_STAT WD_STAT_DONE + 2 ^ getF w ⟨0, 8⟩ ∧ Frame [WD_STAT] [.clk] s t) ∧
      ((s.get WD_STAT WD_STAT_DONE).testBit (getF w ⟨0, 8⟩) = true →
        Answers (.wdCheckinWrite w k) s fun t => t.proc.mode = .held ∧ t.get WD_LAST WD_LAST_CODE = 3 ∧
          t.raisedCode 0x18 3 ∧ s.ProcReset t RST_CAUSE_WDOG))) ∧
  (s.get WD_STAT WD_STAT_OUT = 1 → s.wd.outLeft = 0 →
    Answers .wdOutPulseEnd s fun t => t.get WD_STAT WD_STAT_OUT = 0 ∧ Frame [WD_STAT] [] s t)

/-- R90, R91, R93 (spec 04): a software doorbell takes its source's latch, or is counted as lost where the latch is
occupied; the lowest latched doorbell is appended to its ring in data TCM, or counted as lost where the ring is full. -/
def Obligations.Doorbells : Prop := ∀ (s : State), s.layers = true →
  (∀ w : Word, s.coresRun = true → w ≠ 0xFFFFFFFF → s.icEnabled (w >>> 24).toNat = true →
    (∀ p ∈ s.ic.latch, p.1 ≠ (w >>> 24).toNat) →
    Answers (.softwareDoorbell w) s fun t => ((w >>> 24).toNat, w) ∈ t.ic.latch ∧
      t.ic.latch.length = s.ic.latch.length + 1 ∧ Frame [] [.ic] s t) ∧
  (∀ w : Word, s.coresRun = true → w ≠ 0xFFFFFFFF → s.icEnabled (w >>> 24).toNat = true →
    (∃ p ∈ s.ic.latch, p.1 = (w >>> 24).toNat) →
    Answers (.softwareDoorbell w) s fun t =>
      t.get (IC_OVF (w >>> 24).toNat) IC_OVF_COUNT = min (s.get (IC_OVF (w >>> 24).toNat) IC_OVF_COUNT + 1) 255 ∧
      t.get (IC_OVF (w >>> 24).toNat) IC_OVF_OVF = 1 ∧ Frame [IC_OVF (w >>> 24).toNat] [] s t) ∧
  (s.coresRun = true →
    Answers (.softwareDoorbell 0xFFFFFFFF) s fun t => t.get IC_STAT IC_STAT_BAD_DB = 1 ∧ Frame [IC_STAT] [] s t) ∧
  (∀ (esn : Nat) (w : Word) (r : List (Nat × Word)), s.inRun = true → s.ic.latch = (esn, w) :: r →
    s.ic.count[s.ringOf esn] < 32 →
    Answers .doorbellAppend s fun t => t.ic.latch = r ∧ t.ic.count[s.ringOf esn] = s.ic.count[s.ringOf esn] + 1 ∧
      memWord t.dtcm (s.ringAt (s.ringOf esn) (s.ic.head[s.ringOf esn] + s.ic.count[s.ringOf esn])) = w.toNat ∧
      (∀ a, (a < s.ringAt (s.ringOf esn) (s.ic.head[s.ringOf esn] + s.ic.count[s.ringOf esn]) ∨
          s.ringAt (s.ringOf esn) (s.ic.head[s.ringOf esn] + s.ic.count[s.ringOf esn]) + 4 ≤ a) →
        memByte t.dtcm a = memByte s.dtcm a) ∧
      t.get IC_STAT (bitF (s.ringOf esn)) = 1 ∧ Frame [IC_STAT] [.ic, .dtcm] s t) ∧
  (∀ (esn : Nat) (w : Word) (r : List (Nat × Word)), s.inRun = true → s.ic.latch = (esn, w) :: r →
    32 ≤ s.ic.count[s.ringOf esn] →
    Answers .doorbellAppend s fun t => t.ic.latch = r ∧ t.dtcm = s.dtcm ∧
      t.get (IC_OVF esn) IC_OVF_COUNT = min (s.get (IC_OVF esn) IC_OVF_COUNT + 1) 255 ∧
      t.get (IC_OVF esn) IC_OVF_OVF = 1 ∧ Frame [IC_OVF esn] [.ic] s t)

/-- R92 (spec 04): a read of IC_CLAIM by Burin returns the head word of the highest non-empty ring and removes that word
from the ring, and returns 0xFFFF_FFFF when every ring is empty; a read through the register window returns 0xFFFF_FFFF
and removes nothing. -/
def Obligations.InterruptClaim : Prop := ∀ (s : State),
  (∀ p : Fin 8, s.coresRun = true → s.actSrc = 0 → 0 < s.ic.count[p] → (∀ q : Fin 8, p < q → s.ic.count[q] = 0) →
    Answers .icClaim s fun t => t.out = [BitVec.ofNat 32 (memWord s.dtcm (s.ringAt p s.ic.head[p]))] ∧
      t.ic.count[p] = s.ic.count[p] - 1 ∧ t.ic.head[p] = (s.ic.head[p] + 1) % 32 ∧
      (∀ q : Fin 8, q ≠ p → t.ic.count[q] = s.ic.count[q] ∧ t.ic.head[q] = s.ic.head[q]) ∧
      (s.ic.count[p] = 1 → t.get IC_STAT (bitF p) = 0) ∧ Frame [IC_STAT] [.ic, .out] s t) ∧
  (s.coresRun = true → s.actSrc = 0 → (∀ q : Fin 8, s.ic.count[q] = 0) →
    Answers .icClaim s fun t => t = { s with out := [0xFFFFFFFF] }) ∧
  (s.coresRun = true → s.actSrc ≠ 0 →
    Answers .icClaim s fun t => t = { s with out := [0xFFFFFFFF] }) ∧
  (s.actSrc ≠ 0 → s.regRead IC_CLAIM = (0xFFFFFFFF, s))

/-- R102, R106, R108 to R110 (spec 05): a loop's enable, judged at its tick, the steps of its start, its disable and the
steps of its stop. -/
def Obligations.LoopStartStop : Prop := ∀ (s : State) (m : Fin 4), s.engines = true →
  (s.loops[m].pendEn = some true → s.loops[m].askAt < s.clk.frames → s.loops[m].run = .off → s.enableRefused m = true →
    Answers (.loopEnable m) s fun t => t.get (LOOP_CTL m) LOOP_CTL_EN = 0 ∧ t.loops[m].run = .off ∧
      t.loops[m].pendEn = none ∧ t.raisedCode 0x37 0x02 ∧ EventFrame [LOOP_CTL m] [.snap, .loops] s t) ∧
  (s.loops[m].pendEn = some true → s.loops[m].askAt < s.clk.frames → s.loops[m].run = .off → s.enableRefused m = false →
    Answers (.loopEnable m) s fun t => t.loops[m].run = .stageDelay ∧ t.loops[m].vref = 0 ∧
      t.loops[m].target = 800 + s.get (LOOP_VSET m) LOOP_VSET_CODE ∧ t.loops[m].stgEn = true ∧
      t.loops[m].delay = s.get (LOOP_CTL m) LOOP_CTL_TSTG ∧
      t.loops[m].started = false ∧ t.get (LOOP_STAT m) LOOP_STAT_ON = 1 ∧ t.get (LOOP_STAT m) LOOP_STAT_RAMP = 1 ∧
      Frame (LOOP_STAT m :: phStats) [.snap, .loops, .phases] s t) ∧
  (s.loops[m].run = .stageDelay → s.loops[m].delay ≤ 1 →
    Answers (.stageEnableDelayEnd m) s fun t => t.loops[m].run = .on ∧ t.loops[m].vref = s.loops[m].vref ∧
      Frame [] [.loops] s t) ∧
  (s.loops[m].run = .on → s.get (LOOP_STAT m) LOOP_STAT_RAMP = 1 →
    s.rampNear m = true →
    Answers (.referenceRampEnd m) s fun t => t.loops[m].vref = s.loops[m].target ∧ t.loops[m].ovArmed = true ∧
      t.get (LOOP_STAT m) LOOP_STAT_RAMP = 0 ∧ Frame [LOOP_STAT m] [.loops] s t) ∧
  (s.loops[m].run = .on → s.get (LOOP_STAT m) LOOP_STAT_PG = 0 →
    max 1 (s.get (LOOP_CTL m) LOOP_CTL_PG_FILT) ≤ s.loops[m].pgRun →
    Answers (.loopPgSet m) s fun t => t.get (LOOP_STAT m) LOOP_STAT_PG = 1 ∧ t.loops[m].pgOnce = true ∧
      t.raisedCode (0x30 + m) 0x08 ∧ EventFrame [LOOP_STAT m] [.snap, .loops] s t) ∧
  (s.loops[m].pendEn = some false → s.loops[m].askAt < s.clk.frames → s.loops[m].run = .on →
    s.get (LOOP_CTL m) LOOP_CTL_SOFT_STOP = 1 →
    Answers (.loopDisable m) s fun t => t.loops[m].run = .softStop ∧ t.loops[m].target = 0 ∧
      t.loops[m].vref = s.loops[m].vref ∧ t.get (LOOP_CTL m) LOOP_CTL_EN = 0 ∧ t.get (LOOP_STAT m) LOOP_STAT_PG = 0 ∧
      t.get (LOOP_STAT m) LOOP_STAT_ON = 1 ∧ t.get (LOOP_STAT m) LOOP_STAT_RAMP = 1 ∧
      Frame (LOOP_CTL m :: LOOP_STAT m :: phStats) [.snap, .loops, .phases] s t) ∧
  (s.loops[m].pendEn = some false → s.loops[m].askAt < s.clk.frames → s.loops[m].run = .on →
    s.get (LOOP_CTL m) LOOP_CTL_SOFT_STOP = 0 →
    Answers (.loopDisable m) s fun t => t.loops[m].run = .off ∧ t.loops[m].stgEnFall = s.loops[m].stgEn ∧
      t.get (LOOP_CTL m) LOOP_CTL_EN = 0 ∧ t.get (LOOP_STAT m) LOOP_STAT_PG = 0 ∧ t.get (LOOP_STAT m) LOOP_STAT_ON = 0 ∧
      t.get (LOOP_STAT m) LOOP_STAT_RAMP = 0 ∧
      Frame (LOOP_CTL m :: LOOP_STAT m :: phStats) [.snap, .loops, .phases] s t) ∧
  (s.loops[m].run = .softStop → s.rampNear m = true →
    Answers (.softStopEnd m) s fun t => t.loops[m].run = .off ∧ t.loops[m].vref = 0 ∧
      t.loops[m].stgEnFall = s.loops[m].stgEn ∧ t.get (LOOP_STAT m) LOOP_STAT_ON = 0 ∧
      t.get (LOOP_STAT m) LOOP_STAT_RAMP = 0 ∧ Frame (LOOP_CTL m :: LOOP_STAT m :: phStats) [.loops, .phases] s t) ∧
  (s.loops[m].stgEnFall = true →
    Answers (.stgEnDeassert m) s fun t => t.loops[m].stgEn = false ∧ t.loops[m].stgEnFall = false ∧ Frame [] [.loops] s t)

/-- R106, R111 to R113, R119, R121, R122 (spec 05): a new setpoint, the compensator's update with its clamp, a request to
swap banks, a new period, and a loop's synchronisation to SYNC_IN and its loss. -/
def Obligations.LoopControl : Prop := ∀ (s : State) (m : Fin 4), s.engines = true →
  (s.loops[m].pendCode = true → s.loops[m].askAt < s.clk.frames → s.loops[m].run = .on →
    Answers (.loopSetpointChange m) s fun t => t.loops[m].target = 800 + s.get (LOOP_VSET m) LOOP_VSET_CODE ∧
      t.loops[m].vref = s.loops[m].vref ∧ t.loops[m].pendCode = false ∧
      t.get (LOOP_STAT m) LOOP_STAT_RAMP = (if s.loops[m].vref = 800 + s.get (LOOP_VSET m) LOOP_VSET_CODE then 0 else 1) ∧
      Frame [LOOP_STAT m] [.snap, .loops] s t) ∧
  (∀ c1 c2 c3 c4 : BitVec 9, s.loops[m].run = .on → s.loops[m].started = true → s.get (LOOP_STAT m) LOOP_STAT_APF = 0 →
    s.get (LOOP_STAT m) LOOP_STAT_BRAKE = 0 →
    Answers (.compensatorUpdate m c1 c2 c3 c4) s fun t =>
      t.loops[m].e1 = -(c1.toInt + c2.toInt + c3.toInt + c4.toInt) ∧ t.loops[m].e2 = s.loops[m].e1 ∧
      t.loops[m].e3 = s.loops[m].e2 ∧ t.loops[m].y1 = s.compY m s.loops[m] (errorOf c1 c2 c3 c4) ∧
      0 ≤ t.loops[m].y1 ∧ t.loops[m].y1 ≤ (s.get (LOOP_PWM m) LOOP_PWM_DMAX * 2 ^ s.dsh m * 256 : Nat) ∧
      t.loops[m].y2 = s.loops[m].y1 ∧ t.loops[m].y3 = s.loops[m].y2 ∧ t.loops[m].ton = s.onTime m t.loops[m].y1 ∧
      Frame [] [.loops, .phases] s t) ∧
  (∀ c1 c2 c3 c4 : BitVec 9, s.loops[m].run = .on → s.loops[m].started = false →
    (errorOf c1 c2 c3 c4 ≤ 0 ∨ s.get (LOOP_STAT m) LOOP_STAT_APF = 1 ∨ s.get (LOOP_STAT m) LOOP_STAT_BRAKE = 1) →
    Answers (.compensatorUpdate m c1 c2 c3 c4) s fun t => t = s) ∧
  Answers (.swapReq m) s (fun t => t.get (LOOP_BANK m) LOOP_BANK_SWAP_REQ = 1 ∧
    t.get (LOOP_BANK m) LOOP_BANK_ACTIVE = s.get (LOOP_BANK m) LOOP_BANK_ACTIVE ∧ Frame [LOOP_BANK m] [] s t) ∧
  (s.loops[m].pendPer = true → s.loops[m].askAt < s.clk.frames → s.loops[m].syncOn = false →
    s.loops[m].held = false →
    Answers (.periodChange m) s fun t => t.loops[m].perTo = s.get (LOOP_FSW m) LOOP_FSW_PER ∧ t.loops[m].pendPer = false ∧
      t.loops[m].per = (if s.loops[m].perAtOnce then s.get (LOOP_FSW m) LOOP_FSW_PER else s.loops[m].per) ∧
      Frame [] [.snap, .loops] s t) ∧
  (∀ errs : Vector (BitVec 17) 16, s.loops[m].syncOn = true → s.loops[m].per = s.loops[m].perTo →
    s.get (LOOP_STAT m) LOOP_STAT_SYNCED = 0 → (∀ k : Fin 16, errs[k].toInt.natAbs ≤ 64) →
    s.loops[m].phErr.natAbs ≤ 64 + s.loops[m].pullStep →
    Answers (.synced m errs) s fun t => t.get (LOOP_STAT m) LOOP_STAT_SYNCED = 1 ∧ t.raisedCode 0x35 0x01 ∧
      t.loops[m].phErr = errs[15].toInt ∧ EventFrame [LOOP_STAT m] [.loops] s t) ∧
  (∀ (p1 p2 p3 p4 : BitVec 16) (errs : Vector (BitVec 17) 4), s.get (LOOP_FSW m) LOOP_FSW_SYNC_EN = 1 →
    periodsAgree [p1.toNat, p2.toNat, p3.toNat, p4.toNat] = true →
    (∀ k : Fin 4, [p1.toNat, p2.toNat, p3.toNat, p4.toNat].all (s.syncFits k) = true) →
    Answers (.syncQualified p1 p2 p3 p4 errs) s fun t => t.loops[m].syncOn = true ∧ t.loops[m].perTo = p4.toNat ∧
      t.loops[m].phErr = errs[m].toInt ∧
      t.loops[m].per = s.loops[m].per ∧ t.get SYNC_STAT SYNC_STAT_QUAL = 1 ∧ t.get SYNC_STAT SYNC_STAT_PRESENT = 1 ∧
      t.get SYNC_STAT SYNC_STAT_PER = p4.toNat ∧ Frame [SYNC_STAT] [.loops] s t) ∧
  (∀ (p1 p2 p3 p4 : BitVec 16) (errs : Vector (BitVec 17) 4), s.get (LOOP_FSW m) LOOP_FSW_SYNC_EN = 1 →
    periodsAgree [p1.toNat, p2.toNat, p3.toNat, p4.toNat] = false →
    Answers (.syncQualified p1 p2 p3 p4 errs) s fun t => t.loops[m] = s.loops[m] ∧ t.get SYNC_STAT SYNC_STAT_RANGE_ERR = 1 ∧
      t.raisedCode 0x35 0x02 ∧ EventFrame [SYNC_STAT] [.loops] s t) ∧
  (s.get SYNC_STAT SYNC_STAT_QUAL = 1 →
    Answers .syncLost s fun t => t.get SYNC_STAT SYNC_STAT_LOST = 1 ∧ t.get SYNC_STAT SYNC_STAT_QUAL = 0 ∧
      t.get SYNC_STAT SYNC_STAT_PRESENT = 0 ∧ t.get (LOOP_STAT m) LOOP_STAT_SYNCED = 0 ∧
      t.loops[m].syncOn = false ∧ t.loops[m].per = s.loops[m].per ∧
      (s.loops[m].syncOn = true → t.loops[m].perTo =
        (if s.get SYNC_CFG SYNC_CFG_LOSS_MODE = 0 then s.loops[m].per else s.get (LOOP_FSW m) LOOP_FSW_PER)) ∧
      t.raisedCode 0x34 0 ∧ EventFrame (SYNC_STAT :: loopStats) [.loops] s t)

/-- R97, R128, R129, R445, R447 (spec 05, 18): a write of PH_CFG, in an open window of the phase engine's block. With ROLE
3, or where the phase's loop is enabled before or after the write, it is ignored with CFG_IGN and ESN 0x37; with every loop
disabled it is taken, and an unfenced phase becomes unused, off or spare. Outside a window it is refused with ESN 0x86. -/
def Obligations.PhaseConfiguration : Prop := ∀ (s : State) (n : Fin 16) (v : Word), s.burinReaches = true →
  (∀ k : Nat, s.protBlocked s.actSrc 5 = some k →
    Answers (.phCfgWrite n v) s fun t => t.get SYS_UNL_STAT SYS_UNL_STAT_REFUSED = 1 ∧ t.raisedCode 0x86 k ∧
      t.mr = s.mr ∧ EventFrame [SYS_UNL_STAT] [] s t) ∧
  (s.protBlocked s.actSrc 5 = none →
    (getF v PH_CFG_ROLE = 3 ∨ s.loopOn (s.loopOf n) = true ∨
        (∃ m : Fin 4, m.val = getF v PH_CFG_LOOP ∧ s.loopOn m = true) →
      Answers (.phCfgWrite n v) s fun t => t.get PE_STAT PE_STAT_CFG_IGN = 1 ∧ t.raisedCode 0x37 0x01 ∧
        EventFrame [PE_STAT, SYS_UNL_STAT, mrCnt 2] [.sys, .mr] s t) ∧
    (getF v PH_CFG_ROLE ≠ 3 → (∀ m : Fin 4, s.loopOn m = false) →
      Answers (.phCfgWrite n v) s fun t => t.get (PH_CFG n) PH_CFG_ROLE = getF v PH_CFG_ROLE ∧
        t.get (PH_CFG n) PH_CFG_LOOP = getF v PH_CFG_LOOP ∧ t.get (PH_CFG n) PH_CFG_POS = getF v PH_CFG_POS ∧
        t.phState n = (if s.phState n = phFenced then phFenced else if getF v PH_CFG_ROLE = 1 then phOff
          else if getF v PH_CFG_ROLE = 2 then phSpare else phUnused) ∧
        t.phases[n].pos = getF v PH_CFG_POS ∧
        EventFrame (PH_CFG n :: SYS_UNL_STAT :: mrCnt 2 :: phStats ++ loopStats) [.phases, .sys, .mr] s t))

/-- R103, R104, R117, R143, R145, R147 (spec 05, 06): stage faults, IMON samples, overcurrent of a phase and of a loop, the
loop's voltage protections, a fence, and the DLL's failure. A fenced phase reads fenced and raises code 0x04. -/
def Obligations.LoopProtections : Prop := ∀ (s : State) (m : Fin 4) (n : Fin 16),
  (∀ full : BitVec 16, s.engines = true →
    (∀ k : Fin 16, full.getLsbD k = true → s.phRole k = 0 ∨ s.phState k = phFenced) →
    Answers (.stgFltNAsserted full) s fun t => t.get PE_STAT PE_STAT_STG_FLT = 1 ∧
      t.get PE_STAT PE_STAT_FLT_UNATTR = 1 ∧ (s.loopOn m = true → t.raisedCode (0x30 + m) 0x0A) ∧
      EventFrame [PE_STAT] [] s t) ∧
  (∀ full : BitVec 16, s.engines = true → full.getLsbD n = true → s.phRole n ≠ 0 → s.phState n ≠ phFenced →
    s.phState n ≠ phUnused →
    Answers (.stgFltNAsserted full) s fun t => t.get PE_STAT PE_STAT_STG_FLT = 1 ∧
      t.get (PH_STAT n) PH_STAT_STG_FAULT = 1 ∧ t.phState n = phFenced ∧ t.raisedCode (0x20 + n) 0x01 ∧
      t.raisedCode (0x20 + n) 0x04) ∧
  (∀ c : BitVec 10, s.engines = true → s.phRole n ≠ 0 → s.phState n ≠ phFenced → s.get (PH_IMON n) PH_IMON_GAIN ≠ 0 →
    c.toNat ≠ 0 → c.toNat ≠ 1023 → s.imonCurrent n c.toNat ≤ s.phOcl (s.loopOf n) →
    Answers (.imonSample n c) s fun t => t.phases[n].code = c.toNat ∧ t.phases[n].cur = s.imonCurrent n c.toNat ∧
      t.phases[n].ocRun = 0 ∧ t.phases[n].num = s.phases[n].num + 1 ∧ Frame [] [.phases, .loops] s t) ∧
  (∀ c : BitVec 10, s.engines = true → s.phRole n ≠ 0 → s.phState n ≠ phFenced → s.get (PH_IMON n) PH_IMON_GAIN ≠ 0 →
    c.toNat ≠ 0 → c.toNat ≠ 1023 → s.phOcl (s.loopOf n) < s.imonCurrent n c.toNat →
    Answers (.imonSample n c) s fun t => t.phases[n].ocRun = s.phases[n].ocRun + 1 ∧ t.phases[n].ocHold = 2 ∧
      t.phases[n].firing = false ∧ t.get (PH_STAT n) PH_STAT_OC = 1 ∧
      (s.phases[n].ocSaid = false → t.raisedCode (0x20 + n) 0x02) ∧ EventFrame [PH_STAT n] [.phases, .loops] s t) ∧
  (∀ c : BitVec 10, s.engines = true → s.phRole n ≠ 0 → s.phState n = phFenced → s.get (PH_IMON n) PH_IMON_GAIN ≠ 0 →
    c.toNat ≠ 0 → c.toNat ≠ 1023 →
    Answers (.imonSample n c) s fun t => t.phases[n].code = c.toNat ∧ t.phases[n].cur = s.imonCurrent n c.toNat ∧
      t.phases[n].ocRun = 0 ∧ Frame [] [.phases, .loops] s t) ∧
  (s.phState n ≠ phFenced → s.phState n ≠ phUnused →
    (s.engines = true → 8 ≤ s.phases[n].ocRun → Answers (.persistentPhaseOvercurrent n) s fun t =>
      t.phState n = phFenced ∧ t.get (PH_STAT n) PH_STAT_SUBST = 0 ∧ t.raisedCode (0x20 + n) 0x04 ∧
      EventFrame (LOOP_CTL (s.loopOf n) :: LOOP_STAT (s.loopOf n) :: phStats) [.phases, .loops] s t) ∧
    (s.inRun = true → Answers (.fence n) s fun t =>
      t.phState n = phFenced ∧ t.get (PH_CTL n) PH_CTL_FENCE = 1 ∧ t.raisedCode (0x20 + n) 0x04 ∧
      EventFrame (PH_CTL n :: LOOP_CTL (s.loopOf n) :: LOOP_STAT (s.loopOf n) :: phStats) [.phases, .loops] s t)) ∧
  (s.engines = true → s.loops[m].run ≠ .off → 4 ≤ s.loops[m].ocSums →
    Answers (.loopOvercurrent m) s fun t => t.loops[m].run = .off ∧ t.get (LOOP_CTL m) LOOP_CTL_EN = 0 ∧
      t.get (LOOP_STAT m) LOOP_STAT_PG = 0 ∧ t.get (LOOP_STAT m) LOOP_STAT_ON = 0 ∧ t.raisedCode (0x30 + m) 0x03 ∧
      (s.get (LOOP_STAT m) LOOP_STAT_PG = 1 → t.raisedCode (0x30 + m) 0x07) ∧
      EventFrame (LOOP_CTL m :: LOOP_STAT m :: phStats) [.phases, .loops] s t) ∧
  (s.engines = true → s.loops[m].run ≠ .off → s.loops[m].ovArmed = true →
    Answers (.loopOvervoltage m) s fun t => t.loops[m].run = .off ∧ t.loops[m].ovHold = true ∧
      t.loops[m].stgEnFall = false ∧ t.get (LOOP_CTL m) LOOP_CTL_EN = 0 ∧ t.get (LOOP_STAT m) LOOP_STAT_PG = 0 ∧
      t.raisedCode (0x30 + m) 0x01 ∧ EventFrame (LOOP_CTL m :: LOOP_STAT m :: phStats) [.phases, .loops] s t) ∧
  (s.inRun = true → s.loops[m].ovHold = true →
    Answers (.overvoltageHoldEnd m) s fun t => t.loops[m].ovHold = false ∧ t.loops[m].stgEnFall = s.loops[m].stgEn ∧
      Frame [] [.loops] s t) ∧
  (s.engines = true → s.loops[m].run = .on → s.loops[m].pgOnce = true → s.get (LOOP_STAT m) LOOP_STAT_RAMP = 0 →
    Answers (.loopUndervoltage m) s fun t => t.loops[m].run = .on ∧ t.get (LOOP_STAT m) LOOP_STAT_PG = 0 ∧
      t.raisedCode (0x30 + m) 0x02 ∧ (s.get (LOOP_STAT m) LOOP_STAT_PG = 1 → t.raisedCode (0x30 + m) 0x07) ∧
      EventFrame [LOOP_STAT m] [.loops] s t) ∧
  (s.engines = true → 50 ≤ s.get DLL_STAT DLL_STAT_FAIL_CNT → s.pe.dllSaid = false →
    Answers .dllCalFail s fun t => t.get DLL_STAT DLL_STAT_CAL_FAIL = 1 ∧ t.pe.dllSaid = true ∧ t.raisedCode 0x36 0 ∧
      EventFrame [DLL_STAT] [.pe] s t)

/-- R128, R130 to R142, R147 to R150 (spec 06): all-phases-fire, braking, shedding and joining, imbalance, and the
substitution of a phase. -/
def Obligations.LoopTransients : Prop := ∀ (s : State) (m : Fin 4) (n : Fin 16),
  (s.engines = true → s.loops[m].run = .on → s.loops[m].pgOnce = true → s.get (LOOP_CTL m) LOOP_CTL_APF_EN = 1 →
    s.get (LOOP_STAT m) LOOP_STAT_APF = 0 → s.loops[m].rearmWait = false →
    Answers (.undershootTrip m) s fun t => t.get (LOOP_STAT m) LOOP_STAT_APF = 1 ∧ t.get (LOOP_STAT m) LOOP_STAT_BRAKE = 0 ∧
      t.loops[m].fires = s.loops[m].fires + 1 ∧
      (n ∈ s.phasesOf m → s.phState n = phActive ∨ s.phState n = phShedding →
        t.phState n = phActive ∧ t.phases[n].firing = true) ∧
      Frame (LOOP_STAT m :: phStats) [.loops, .phases] s t) ∧
  (s.inRun = true → s.get (LOOP_STAT m) LOOP_STAT_APF = 1 →
    Answers (.fireEnd m) s fun t => t.get (LOOP_STAT m) LOOP_STAT_APF = 0 ∧ t.loops[m].rearmWait = true ∧
      t.loops[m].e1 = 0 ∧ t.loops[m].e2 = 0 ∧ t.loops[m].e3 = 0 ∧
      t.loops[m].y1 = s.clampY m (s.loops[m].y1 + (s.get (LOOP_APF m) LOOP_APF_IPRE * 2 ^ s.dsh m * 16 : Nat)) ∧
      t.loops[m].y2 = t.loops[m].y1 ∧ t.loops[m].y3 = t.loops[m].y1 ∧
      t.loops[m].holdoff = some (s.clk.frames + 500 * (s.get (LOOP_SHED m) LOOP_SHED_HOLD + 1)) ∧
      Frame [LOOP_STAT m] [.loops, .phases] s t) ∧
  (∀ above since : BitVec 20, s.inRun = true → s.loops[m].rearmWait = true → s.get (LOOP_STAT m) LOOP_STAT_APF = 0 →
    s.loops[m].per ≤ above.toNat → s.loops[m].per ≤ since.toNat →
    Answers (.undershootRearm m above since) s fun t => t.loops[m].rearmWait = false ∧ Frame [] [.loops] s t) ∧
  (s.engines = true → s.loops[m].join = true → s.get (LOOP_STAT m) LOOP_STAT_APF = 0 →
    Answers (.shedPhasesJoin m) s fun t => t.loops[m].join = false ∧
      (n ∈ s.phasesOf m → s.phState n = phShed → t.phState n = phActive) ∧
      Frame (LOOP_STAT m :: phStats) [.snap, .loops, .phases] s t) ∧
  (∀ f, s.inRun = true → s.loops[m].holdoff = some f → f ≤ s.clk.frames →
    Answers (.reshedHoldoffEnd m) s fun t => t.loops[m].holdoff = none ∧ Frame [] [.loops] s t) ∧
  (∀ (code : BitVec 9) (since : BitVec 20), s.engines = true → s.loops[m].run = .on → s.loops[m].pgOnce = true →
    s.get (LOOP_CTL m) LOOP_CTL_BRAKE_EN = 1 → s.get (LOOP_CTL m) LOOP_CTL_APF_EN = 1 →
    (s.loops[m].braked = true → s.loops[m].per ≤ since.toNat) → s.get (LOOP_STAT m) LOOP_STAT_APF = 0 →
    s.get (LOOP_STAT m) LOOP_STAT_BRAKE = 0 → (s.get (LOOP_BRAKE m) LOOP_BRAKE_OTH : Nat) ≤ code.toInt →
    Answers (.brakeStart m code since) s fun t => t.get (LOOP_STAT m) LOOP_STAT_BRAKE = 1 ∧ t.est.braked = true ∧
      Frame [LOOP_STAT m] [.loops, .est] s t) ∧
  (∀ (code : BitVec 9) (periods : Fin 64), s.inRun = true → s.get (LOOP_STAT m) LOOP_STAT_BRAKE = 1 →
    2 * code.toInt ≤ (s.get (LOOP_BRAKE m) LOOP_BRAKE_OTH : Nat) →
    Answers (.brakeEnd m code periods) s fun t => t.get (LOOP_STAT m) LOOP_STAT_BRAKE = 0 ∧ t.loops[m].e1 = 0 ∧
      t.loops[m].e2 = 0 ∧ t.loops[m].e3 = 0 ∧ t.loops[m].y1 = s.loops[m].y1 ∧
      t.loops[m].braked = true ∧ Frame [LOOP_STAT m] [.loops, .phases] s t) ∧
  (∀ periods : Fin 64, s.inRun = true → s.get (LOOP_STAT m) LOOP_STAT_BRAKE = 1 →
    Answers (.brakeTmax m periods) s fun t => t.get (LOOP_STAT m) LOOP_STAT_BRAKE = 0 ∧ t.loops[m].e1 = 0 ∧
      t.raisedCode (0x30 + m) 0x05 ∧ EventFrame [LOOP_STAT m] [.loops, .phases] s t) ∧
  (s.engines = true → s.phState n = phShedding →
    max 1 (s.get (LOOP_SHED (s.loopOf n)) LOOP_SHED_RAMP) ≤ s.phases[n].shedJ →
    Answers (.phaseShed n) s fun t => t.phState n = phShed ∧ t.phases[n].ton = 0 ∧ t.loops[s.loopOf n].shedRun = 0 ∧
      t.raisedCode (0x20 + n) 0x07 ∧
      EventFrame (LOOP_STAT (s.loopOf n) :: phStats) [.snap, .loops, .phases] s t) ∧
  (s.engines = true → s.phState n = phActive → s.imbReached (s.loopOf n) n = true → s.phases[n].imbSaid = false →
    s.get (LOOP_IMB (s.loopOf n)) LOOP_IMB_ACT = 0 →
    Answers (.imbalance n) s fun t => t.phState n = phActive ∧ t.get (PH_STAT n) PH_STAT_IMB = 1 ∧
      t.phases[n].imbSaid = true ∧ t.raisedCode (0x20 + n) 0x03 ∧ EventFrame [PH_STAT n] [.snap, .phases] s t) ∧
  (s.inRun = true →
    Answers (.substReq n) s fun t => t.phases[n].substReq = true ∧ t.phases[n].askAt = s.clk.frames ∧
      Frame [] [.phases] s t) ∧
  (∀ (st : Nat) (k : Fin 16) (r : List (Fin 16)), s.engines = true → s.askers m = [n] → s.phases[n].claim = some st →
    s.phases[n].substReq = false → st < 8 → s.sparesOf m = k :: r → k ≠ n →
    Answers (.substitution m) s fun t => t.phState k = (if st = phShedding then phActive else st) ∧
      t.get (PH_STAT k) PH_STAT_SUBST = 1 ∧ t.phases[k].pos = s.phases[n].pos ∧ t.phases[n].claim = none ∧
      t.raisedCode (0x20 + k) 0x05 ∧ EventFrame (LOOP_STAT m :: phStats) [.snap, .loops, .phases] s t) ∧
  (∀ st : Nat, s.engines = true → s.askers m = [n] → s.phases[n].claim = some st → s.phases[n].substReq = false →
    s.sparesOf m = [] →
    Answers (.substitution m) s fun t => t.phases[n].claim = none ∧ t.raisedCode (0x30 + m) 0x06 ∧
      EventFrame (LOOP_STAT m :: phStats) [.snap, .loops, .phases] s t)

/-- R155 to R158, R163, R164, R170 (spec 07): the start check at the tick of an enable, the start ramp and its end, power
good, a disable, a new setpoint, and the retries. -/
def Obligations.RegulatorStartStop : Prop := ∀ (s : State) (r : Fin 14), s.engines = true →
  (∀ vin : BitVec 16, s.regul[r].pendEn = some true → s.regul[r].askAt < s.clk.frames → s.regul[r].run = .off →
    s.otLatched r = false → s.startMin r ≤ vin.toNat →
    Answers (.regEnable r vin) s fun t => t.regul[r].run = .starting ∧ t.regul[r].target = s.regSetpoint r ∧
      t.regul[r].vref = 0 ∧ t.get (REG_STAT r) REG_STAT_ON = 1 ∧ t.get (REG_STAT r) REG_STAT_SS = 1 ∧
      Frame [REG_STAT r] [.snap, .regul] s t) ∧
  (∀ vin : BitVec 16, s.regul[r].pendEn = some true → s.regul[r].askAt < s.clk.frames → s.regul[r].run = .off →
    s.otLatched r = false → vin.toNat < s.startMin r →
    Answers (.regEnable r vin) s fun t => t.regul[r].run = .off ∧ t.get (REG_CTL r) REG_CTL_EN = 0 ∧
      t.get (REG_STAT r) REG_STAT_UV = 1 ∧ t.get (REG_STAT r) REG_STAT_INUV = 1 ∧ t.raisedCode (regEsn r) 0x02 ∧
      EventFrame [REG_STAT r, REG_CTL r] [.snap, .regul] s t) ∧
  (s.regOn r = true → s.get (REG_STAT r) REG_STAT_SS = 1 → s.refNear r = true →
    Answers (.regRampEnd r) s fun t => t.regul[r].run = .running ∧ t.regul[r].vref = s.regul[r].target ∧
      t.regul[r].ovArmed = (regKind r != .sw) ∧ t.get (REG_STAT r) REG_STAT_SS = 0 ∧ Frame [REG_STAT r] [.regul] s t) ∧
  (s.regul[r].run = .running → s.get (REG_STAT r) REG_STAT_PG = 0 → 5 ≤ s.regul[r].pgRun →
    Answers (.regPgSet r) s fun t => t.get (REG_STAT r) REG_STAT_PG = 1 ∧ t.regul[r].uvArmed = true ∧
      t.regul[r].pgSince = s.clk.frames ∧ t.raisedCode (regEsn r) 0x06 ∧ EventFrame [REG_STAT r] [.snap, .regul] s t) ∧
  (s.regul[r].pendEn = some false → s.regul[r].askAt < s.clk.frames →
    Answers (.regDisable r) s fun t => t.regul[r].run = .off ∧ t.get (REG_CTL r) REG_CTL_EN = 0 ∧
      t.get (REG_STAT r) REG_STAT_ON = 0 ∧ t.get (REG_STAT r) REG_STAT_PG = 0 ∧ t.get (REG_STAT r) REG_STAT_SS = 0 ∧
      Frame [REG_STAT r, REG_CTL r] [.snap, .regul] s t) ∧
  (s.regul[r].pendCode = true → s.regul[r].askAt < s.clk.frames → s.regOn r = true → regKind r ≠ .sw →
    Answers (.regSetpointChange r) s fun t => t.regul[r].target = s.regSetpoint r ∧ t.regul[r].vref = s.regul[r].vref ∧
      t.get (REG_STAT r) REG_STAT_SS =
        (if s.regul[r].vref = s.regSetpoint r ∧ s.regul[r].run ≠ .starting then 0 else 1) ∧
      Frame [REG_STAT r] [.snap, .regul] s t) ∧
  (∀ vin : BitVec 16, s.regul[r].run = .retryWait → s.regul[r].retryAt ≤ s.clk.frames →
    s.get (REG_CTL r) REG_CTL_EN = 1 → s.startMin r ≤ vin.toNat →
    Answers (.retryWaitEnd r vin) s fun t => t.regul[r].run = .starting ∧
      t.get (REG_STAT r) REG_STAT_RETRIES = min (s.get (REG_STAT r) REG_STAT_RETRIES + 1) (2 ^ REG_STAT_RETRIES.w - 1) ∧
      Frame [REG_STAT r] [.snap, .regul] s t) ∧
  (∀ vin : BitVec 16, s.regul[r].run = .retryWait → s.regul[r].retryAt ≤ s.clk.frames →
    s.get (REG_CTL r) REG_CTL_EN = 1 → vin.toNat < s.startMin r →
    Answers (.retryWaitEnd r vin) s fun t => t.regul[r].run = .off ∧
      t.get (REG_STAT r) REG_STAT_RETRIES = s.get (REG_STAT r) REG_STAT_RETRIES ∧
      t.get (REG_STAT r) REG_STAT_INUV = 1 ∧ t.raisedCode (regEsn r) 0x02 ∧
      EventFrame [REG_STAT r, REG_CTL r] [.snap, .regul] s t) ∧
  (∀ vin : BitVec 16, s.regul[r].run = .retryWait → s.regul[r].retryAt ≤ s.clk.frames → s.get (REG_CTL r) REG_CTL_EN = 0 →
    Answers (.retryWaitEnd r vin) s fun t => t.regul[r].run = .off ∧ t.get (REG_CTL r) REG_CTL_EN = 0 ∧
      Frame [REG_STAT r, REG_CTL r] [.snap, .regul] s t) ∧
  (s.get (REG_STAT r) REG_STAT_PG = 1 → s.regul[r].pgSince + 50000 ≤ s.clk.frames →
    Answers (.retriesReset r) s fun t => t.get (REG_STAT r) REG_STAT_RETRIES = 0 ∧ Frame [REG_STAT r] [.snap] s t)

/-- R162 to R164, R170 (spec 07): the protections of a regulator. Overvoltage, a reversed switch, persistent overcurrent
without retries and over-temperature turn it off with EN reading 0 and PG lost; undervoltage only clears PG; a limit only
sets LIMIT. -/
def Obligations.RegulatorProtections : Prop := ∀ (s : State) (r : Fin 14), s.engines = true →
  (∀ v : BitVec 20, s.regOn r = true → s.regul[r].ovArmed = true → above v.toNat (s.refLow r) (s.ovPermille r) = true →
    Answers (.regOvervoltage r v) s fun t => t.regul[r].run = .off ∧ t.get (REG_CTL r) REG_CTL_EN = 0 ∧
      t.get (REG_STAT r) REG_STAT_OV = 1 ∧ t.get (REG_STAT r) REG_STAT_PG = 0 ∧ t.raisedCode (regEsn r) 0x01 ∧
      (s.get (REG_STAT r) REG_STAT_PG = 1 → t.raisedCode (regEsn r) 0x05) ∧
      EventFrame [REG_STAT r, REG_CTL r] [.regul] s t) ∧
  (∀ (k : Fin 4) (v : BitVec 20) (vin : BitVec 16), r.val = 10 + k.val → s.regul[r].run ≠ .off →
    8 * (vin.toNat + 50) < v.toNat →
    Answers (.swReverseCurrent k v vin) s fun t => t.regul[r].run = .off ∧ t.get (REG_CTL r) REG_CTL_EN = 0 ∧
      t.get (REG_STAT r) REG_STAT_OV = 1 ∧ t.get (REG_STAT r) REG_STAT_PG = 0 ∧ t.raisedCode (regEsn r) 0x01 ∧
      EventFrame [REG_STAT r, REG_CTL r] [.regul] s t) ∧
  (∀ (v : BitVec 20) (vin : BitVec 16), s.regOn r = true → s.regul[r].uvArmed = true →
    below v.toNat (if regKind r = .sw then vin.toNat else s.refHigh r) (s.uvPermille r) = true →
    Answers (.regUndervoltage r v vin) s fun t => t.regul[r].run = s.regul[r].run ∧ t.get (REG_STAT r) REG_STAT_UV = 1 ∧
      t.get (REG_STAT r) REG_STAT_PG = 0 ∧ t.raisedCode (regEsn r) 0x02 ∧
      (s.get (REG_STAT r) REG_STAT_PG = 1 → t.raisedCode (regEsn r) 0x05) ∧ EventFrame [REG_STAT r] [.regul] s t) ∧
  (∀ (v : BitVec 20) (vin : BitVec 16), s.regOn r = true → s.regul[r].uvArmed = false →
    below v.toNat (if regKind r = .sw then vin.toNat else s.refHigh r) (s.uvPermille r) = true →
    Answers (.regUndervoltage r v vin) s fun t => t.regul[r].uvNow = true ∧ t.regul[r].pgRun = 0 ∧ Frame [] [.regul] s t) ∧
  (s.regOn r = true → ∀ (c : Instr) (i : BitVec 16), s.ilim r ≤ i.toNat →
    ((∃ (b : Fin 6) (again : Bool), b.val = r.val ∧ c = .peakCurrentLimit b i again) ∨
      ∃ k : Fin 4, 6 + k.val = r.val ∧ c = .ldCurrentLimit k i) →
    Answers c s fun t => t.get (REG_STAT r) REG_STAT_LIMIT = 1 ∧ t.regul[r].limSeen = true ∧
      t.regul[r].run = s.regul[r].run ∧ Frame [REG_STAT r] [.regul] s t) ∧
  (∀ i : BitVec 16, s.regOn r = true → s.limPersists r i.toNat = true → s.get (REG_PROT r) REG_PROT_OC_MODE = 0 →
    Answers (.regPersistentOvercurrent r i) s fun t => t.regul[r].run = .off ∧ t.get (REG_CTL r) REG_CTL_EN = 0 ∧
      t.get (REG_STAT r) REG_STAT_OC = 1 ∧ t.raisedCode (regEsn r) 0x03 ∧
      EventFrame [REG_STAT r, REG_CTL r] [.regul] s t) ∧
  (∀ i : BitVec 16, s.regOn r = true → s.limPersists r i.toNat = true → s.get (REG_PROT r) REG_PROT_OC_MODE = 1 →
    s.get (REG_STAT r) REG_STAT_RETRIES ≠ s.get (REG_PROT r) REG_PROT_RETRY_MAX →
    Answers (.regPersistentOvercurrent r i) s fun t => t.regul[r].run = .retryWait ∧
      t.regul[r].retryAt = s.clk.frames + 500 ∧ t.get (REG_STAT r) REG_STAT_OC = 1 ∧
      t.get (REG_STAT r) REG_STAT_ON = 0 ∧ t.raisedCode (regEsn r) 0x03 ∧ EventFrame [REG_STAT r] [.regul] s t) ∧
  (∀ i : BitVec 16, s.regOn r = true → s.limPersists r i.toNat = true → s.get (REG_PROT r) REG_PROT_OC_MODE = 1 →
    s.get (REG_STAT r) REG_STAT_RETRIES = s.get (REG_PROT r) REG_PROT_RETRY_MAX →
    Answers (.regPersistentOvercurrent r i) s fun t => t.regul[r].run = .off ∧ t.get (REG_CTL r) REG_CTL_EN = 0 ∧
      t.raisedCode (regEsn r) 0x07 ∧ EventFrame [REG_STAT r, REG_CTL r] [.regul] s t) ∧
  Answers (.regOverTemperature r) s (fun t => t.regul[r].run = .off ∧ t.get (REG_CTL r) REG_CTL_EN = 0 ∧
    t.get (REG_STAT r) REG_STAT_OT = 1 ∧ t.regul[r].otAt = some s.clk.frames ∧ t.raisedCode (regEsn r) 0x04 ∧
    EventFrame [REG_STAT r, REG_CTL r] [.regul] s t)

/-- R166 to R169 (spec 07): the sweep of the bucks' segments. It starts each hour of operating time; a segment that cannot
be measured is postponed, a stuck one stops its buck, a healthy one leaves its drift; a postponed one is retried, and is
reported once after two hours; a decided fence takes the segment out of use and the spare in. -/
def Obligations.SegmentSweep : Prop := ∀ (s : State) (sw : Fin 12) (k : Fin 9), s.engines = true →
  (s.get IR_CFG IR_CFG_SWEEP_EN = 1 → s.seg.hour < s.opt.ms / 3600000 →
    Answers .sweepStart s fun t => t.get IR_SWEEP IR_SWEEP_RUNNING = 1 ∧ t.seg.s = 0 ∧ t.seg.k = 0 ∧
      t.seg.hour = s.opt.ms / 3600000 ∧ Frame [IR_SWEEP] [.seg] s t) ∧
  (∀ x : SegMeas, s.get IR_SWEEP IR_SWEEP_RUNNING = 1 → s.seg.s = sw.val → s.seg.k = k.val → k.val < 8 →
    s.seg.turnAt + 50 ≤ s.clk.frames → s.seg.turnOn = false →
    Answers (.segmentMeasurement x) s fun t => t.seg.s = sw.val ∧ t.seg.k = k.val + 1 ∧
      t.seg.turnAt = s.clk.frames ∧ t.seg.turnOn = s.regOn (segReg sw) ∧ t.seg.postponed = s.seg.postponed ∧
      Frame [] [.snap, .seg] s t) ∧
  (∀ x : SegMeas, s.get IR_SWEEP IR_SWEEP_RUNNING = 1 → s.seg.s = 11 → s.seg.k = 8 →
    s.seg.turnAt + 50 ≤ s.clk.frames → s.seg.turnOn = false →
    Answers (.segmentMeasurement x) s fun t => t.seg.k = 0 ∧ t.seg.s = 0 ∧ t.get IR_SWEEP IR_SWEEP_RUNNING = 0 ∧
      t.get IR_SWEEP IR_SWEEP_COUNT = (s.get IR_SWEEP IR_SWEEP_COUNT + 1) % 2 ^ IR_SWEEP_COUNT.w ∧
      Frame [IR_SWEEP] [.snap, .seg] s t) ∧
  (∀ x : SegMeas, s.get IR_SWEEP IR_SWEEP_RUNNING = 1 → s.seg.s = sw.val → s.seg.k = k.val → k.val < 8 →
    s.seg.turnAt + 50 ≤ s.clk.frames → s.seg.turnOn = true → s.segGone sw k = false →
    (x.skipped = true ∨ x.acted = true ∨ x.load < (if regKind (segReg sw) = .hb then 300 else 200)) →
    (∀ p ∈ s.seg.postponed, ¬(p.s = sw.val ∧ p.k = k.val)) →
    Answers (.segmentMeasurement x) s fun t => t.get IR_SWEEP IR_SWEEP_POSTPONED = 1 ∧ t.seg.k = k.val + 1 ∧
      t.seg.postponed = s.seg.postponed ++ [⟨sw.val, k.val, s.opt.ms, s.clk.frames, false⟩] ∧ Frame [IR_SWEEP] [.snap, .seg] s t) ∧
  (∀ x : SegMeas, s.get IR_SWEEP IR_SWEEP_RUNNING = 1 → s.seg.s = sw.val → s.seg.k = k.val → k.val < 8 →
    s.seg.turnAt + 50 ≤ s.clk.frames → s.seg.turnOn = true → s.segGone sw k = false →
    segUnfit (segReg sw) x = false → 20 < x.offCur →
    Answers (.segmentMeasurement x) s fun t => t.get (SEG_STAT sw) SEG_STAT_STUCK = 1 ∧
      t.regul[segReg sw].run = .off ∧ t.get (REG_CTL (segReg sw)) REG_CTL_EN = 0 ∧ t.seg.k = k.val + 1 ∧
      t.get (SEG_DRIFT sw k) SEG_DRIFT_RON = x.ron.toNat ∧ t.raisedCode (regEsn (segReg sw)) 0x0A ∧
      EventFrame [SEG_STAT sw, SEG_DRIFT sw k, REG_STAT (segReg sw), REG_CTL (segReg sw)] [.snap, .seg, .regul, .freeCtr] s t) ∧
  (∀ x : SegMeas, (∃ p ∈ s.seg.postponed, p.s = sw.val ∧ p.k = k.val ∧ p.tried + 50000 ≤ s.clk.frames) → s.regOn (segReg sw) = true →
    segUnfit (segReg sw) x = false → x.offCur ≤ 20 → 5 ≤ x.share → s.driftOver sw k x.ron.toNat 30 ≤ 0 →
    s.driftOver sw k x.ron.toNat (s.get IR_CFG IR_CFG_WEAR_WARN) < 0 →
    Answers (.segmentRetry sw k x) s fun t =>
      t.seg = { s.seg with postponed := s.seg.postponed.filter (fun p => !(p.s == sw.val && p.k == k.val)) } ∧
      t.get (SEG_DRIFT sw k) SEG_DRIFT_RON = x.ron.toNat ∧ Frame [SEG_DRIFT sw k] [.snap, .seg, .freeCtr] s t) ∧
  (∀ since tried : Nat, s.seg.postponed = [⟨sw.val, k.val, since, tried, false⟩] → since + 7200000 ≤ s.opt.ms →
    Answers (.segmentPostponed2h sw k) s fun t => t.seg.postponed = [⟨sw.val, k.val, since, tried, true⟩] ∧ t.raisedCode 0x47 0 ∧
      EventFrame [] [.seg] s t) ∧
  (∀ rest : List (Nat × Nat), s.seg.waiting = (sw.val, k.val) :: rest →
    s.get (SEG_STAT sw) SEG_STAT_IN_USE = 255 → s.get (SEG_STAT sw) SEG_STAT_FENCED = 0 → k.val < 8 →
    (sw.val, 8) ∉ s.seg.waiting →
    Answers (.segmentFenceApplied sw) s fun t => t.get (SEG_STAT sw) SEG_STAT_FENCED = 2 ^ k.val ∧
      t.get (SEG_STAT sw) SEG_STAT_IN_USE = 511 - 2 ^ k.val ∧ (sw.val, k.val) ∉ t.seg.waiting ∧
      Frame [SEG_STAT sw] [.seg] s t)

/-- R243, R246, R250 to R253, R260 (spec 10): the steps that do not wait. A RUNNING thread with steps left in its frame
that stands at a step of the opcode takes it: HALT ends it with code 2; rail steps act and continue; CHECK continues where
its condition holds and branches where not; JUMP, CALL and RETURN move; CALL at depth 4 and RETURN at depth 0 end with code
7; COMMIT, MARK and SNAPSHOT act and continue. What a step leaves
alone is said against the state in which the starts of its frame are settled (raised, and FAULT_N driven), which the
frame's first step does before it. -/
def Obligations.StencilSteps : Prop := ∀ (s : State) (t : Fin 4),
  (s.seq.tellFault = none → s.seq.tellDown = none → s.seqSettle = s) ∧ EventFrame [SEQ_STAT] [.seq] s s.seqSettle ∧
  (s.stepDue t 0 = true →
    Answers (.halt t) s fun u => u.thState t = thIdle ∧ u.get (SEQ_THR_STAT t) SEQ_THR_STAT_END = 2 ∧
      u.get (SEQ_THR_STAT t) SEQ_THR_STAT_DEPTH = 0 ∧ u.seq.thr[t].stack = [] ∧ u.raisedCode (0x78 + t) 2 ∧
      (t = thDown → s.get (SEQ_THR_STAT t) SEQ_THR_STAT_COMMITTED = 1 → s.seq.aborted = false →
        u.get SEQ_STAT SEQ_STAT_MIN_OFF = 1 ∧ u.seq.minOffEnd = s.clk.frames + s.minOff) ∧
      EventFrame [SEQ_THR_STAT t, PATH_STAT, SEQ_STAT] [.seq, .clk] s.seqSettle u) ∧
  (s.thPc t + 1 < 6144 → s.seq.thr[t].steps < 4 →
    (∀ m : Fin 4, s.stepDue t 1 = true → railOf (stepRail (s.stepWord t)) = some (.loop m) →
      s.get (LOOP_CTL m) LOOP_CTL_EN = 0 → s.flt.fenced = [] →
      Answers (.enable t) s fun u => u.thPc t = s.thPc t + 1 ∧ u.get (LOOP_CTL m) LOOP_CTL_EN = 1 ∧
        u.loops[m].pendEn = some true ∧ u.loops[m].askAt = s.clk.frames ∧
        Frame [SEQ_THR_STAT t, LOOP_CTL m] [.seq, .clk, .loops] s.seqSettle u) ∧
    (∀ r : Fin 14, s.stepDue t 2 = true → railOf (stepRail (s.stepWord t)) = some (.reg r) →
      s.get (REG_CTL r) REG_CTL_EN = 1 →
      Answers (.disable t) s fun u => u.thPc t = s.thPc t + 1 ∧ u.get (REG_CTL r) REG_CTL_EN = 0 ∧
        u.regul[r].pendEn = some false ∧ u.regul[r].askAt = s.clk.frames ∧
        Frame [SEQ_THR_STAT t, REG_CTL r] [.seq, .clk, .regul] s.seqSettle u) ∧
    (∀ m : Fin 4, s.stepDue t 3 = true → railOf (stepRail (s.stepWord t)) = some (.loop m) →
      s.get (LOOP_VLIM m) LOOP_VLIM_VMIN ≤ stepBits (s.stepWord t) 0 12 →
      stepBits (s.stepWord t) 0 12 ≤ s.get (LOOP_VLIM m) LOOP_VLIM_VMAX →
      Answers (.setV t) s fun u => u.thPc t = s.thPc t + 1 ∧
        u.get (LOOP_VSET m) LOOP_VSET_CODE = stepBits (s.stepWord t) 0 12 ∧ u.loops[m].askAt = s.clk.frames ∧
        Frame [SEQ_THR_STAT t, LOOP_VSET m] [.seq, .clk, .loops] s.seqSettle u) ∧
    (s.stepDue t 6 = true → (s.stepSpent t).cond t (stepCond (s.stepWord t)) = true →
      Answers (.check t) s fun u => u.thPc t = s.thPc t + 1 ∧ u.thState t = thRunning ∧
        u.seq.thr[t].steps = s.seq.thr[t].steps + 1 ∧ Frame [SEQ_THR_STAT t] [.seq, .clk] s.seqSettle u) ∧
    (s.stepDue t 10 = true → t ≠ thDown →
      Answers (.commit t) s fun u => u.thPc t = s.thPc t + 1 ∧
        u.get (SEQ_THR_STAT t) SEQ_THR_STAT_COMMITTED = s.get (SEQ_THR_STAT t) SEQ_THR_STAT_COMMITTED ∧
        Frame [SEQ_THR_STAT t] [.seq, .clk] s.seqSettle u) ∧
    (s.stepDue t 10 = true → t = thDown →
      Answers (.commit t) s fun u => u.thPc t = s.thPc t + 1 ∧ u.get (SEQ_THR_STAT t) SEQ_THR_STAT_COMMITTED = 1 ∧
        u.raisedCode 0x79 9 ∧ EventFrame [SEQ_THR_STAT t] [.seq, .clk] s.seqSettle u) ∧
    (s.stepDue t 11 = true →
      Answers (.mark t) s fun u => u.thPc t = s.thPc t + 1 ∧ Frame [SEQ_THR_STAT t] [.seq, .clk, .plate] s.seqSettle u) ∧
    (s.stepDue t 12 = true → s.plate.snap = [] →
      Answers (.snapshot t) s fun u => u.thPc t = s.thPc t + 1 ∧ u.get PLATE_STAT PLATE_STAT_SNAP_BUSY = 1 ∧
        u.get PLATE_CHAIN PLATE_CHAIN_ID = (s.get PLATE_CHAIN PLATE_CHAIN_ID + 1) % 65536 ∧ u.plate.snap ≠ [] ∧
        Frame [SEQ_THR_STAT t, PLATE_CHAIN, PLATE_STAT] [.seq, .clk, .plate] s.seqSettle u) ∧
    (s.stepDue t 12 = true → s.plate.snap ≠ [] →
      Answers (.snapshot t) s fun u => u.thPc t = s.thPc t + 1 ∧ u.plate.snap = s.plate.snap ∧
        u.raisedCode (0x78 + t) 0x0C ∧ EventFrame [SEQ_THR_STAT t] [.seq, .clk] s.seqSettle u)) ∧
  (stepTarget (s.stepWord t) < 6144 →
    (s.stepDue t 6 = true → (s.stepSpent t).cond t (stepCond (s.stepWord t)) = false →
      Answers (.check t) s fun u => u.thPc t = stepTarget (s.stepWord t) ∧ Frame [SEQ_THR_STAT t] [.seq, .clk] s.seqSettle u) ∧
    (s.stepDue t 7 = true →
      Answers (.jump t) s fun u => u.thPc t = stepTarget (s.stepWord t) ∧ u.thState t = thRunning ∧
        Frame [SEQ_THR_STAT t] [.seq, .clk] s.seqSettle u) ∧
    (s.stepDue t 8 = true → s.seq.thr[t].stack.length < 4 →
      Answers (.call t) s fun u => u.thPc t = stepTarget (s.stepWord t) ∧
        u.seq.thr[t].stack = (s.thPc t + 1) :: s.seq.thr[t].stack ∧
        u.get (SEQ_THR_STAT t) SEQ_THR_STAT_DEPTH = s.seq.thr[t].stack.length + 1 ∧
        Frame [SEQ_THR_STAT t] [.seq, .clk] s.seqSettle u)) ∧
  (s.stepDue t 8 = true → 4 ≤ s.seq.thr[t].stack.length →
    Answers (.call t) s fun u => u.thState t = thIdle ∧ u.get (SEQ_THR_STAT t) SEQ_THR_STAT_END = 7 ∧
      u.raisedCode (0x78 + t) 7 ∧ EventFrame [SEQ_THR_STAT t, PATH_STAT] [.seq, .clk] s.seqSettle u) ∧
  (∀ (k : Nat) (r : List Nat), s.stepDue t 9 = true → s.seq.thr[t].stack = k :: r → k < 6144 → r.length < 4 →
    Answers (.returnStep t) s fun u => u.thPc t = k ∧ u.seq.thr[t].stack = r ∧
      u.get (SEQ_THR_STAT t) SEQ_THR_STAT_DEPTH = r.length ∧ Frame [SEQ_THR_STAT t] [.seq, .clk] s.seqSettle u) ∧
  (s.stepDue t 9 = true → s.seq.thr[t].stack = [] →
    Answers (.returnStep t) s fun u => u.thState t = thIdle ∧ u.get (SEQ_THR_STAT t) SEQ_THR_STAT_END = 7 ∧
      u.raisedCode (0x78 + t) 7 ∧ EventFrame [SEQ_THR_STAT t, PATH_STAT] [.seq, .clk] s.seqSettle u)

/-- R248, R249, R262 (spec 10): the steps that wait. WAIT holds the thread for its frames; WAIT_UNTIL continues where its
condition holds and waits where not; BARRIER continues where it is open. A held thread continues when its wait ends, with
TO telling a timeout; on a timeout DOWN and FAULT continue with a snapshot, the others continue or end as the step says. -/
def Obligations.StencilWaits : Prop := ∀ (s : State) (t : Fin 4), s.thPc t + 1 < 6144 →
  (s.stepDue t 4 = true → stepFrames (s.stepWord t) ≠ 0 →
    Answers (.wait t) s fun u => u.thState t = thWaiting ∧ u.thPc t = s.thPc t ∧ u.seq.thr[t].wait = .time ∧
      u.seq.thr[t].waitAt = s.clk.frames ∧ u.seq.thr[t].waitFor = stepFrames (s.stepWord t) ∧
      Frame [SEQ_THR_STAT t] [.seq, .clk] s.seqSettle u) ∧
  (s.stepDue t 4 = true → stepFrames (s.stepWord t) = 0 →
    Answers (.wait t) s fun u => u.thState t = thRunning ∧ u.thPc t = s.thPc t + 1 ∧ Frame [SEQ_THR_STAT t] [.seq, .clk] s.seqSettle u) ∧
  (s.seqTurn t = true → s.thState t = thWaiting → s.seq.thr[t].wait = .time →
    s.seq.thr[t].waitAt + s.seq.thr[t].waitFor ≤ s.clk.frames →
    Answers (.waitExpiry t) s fun u => u.thState t = thRunning ∧ u.thPc t = s.thPc t + 1 ∧
      Frame [SEQ_THR_STAT t] [.seq, .clk] s.seqSettle u) ∧
  (s.stepDue t 5 = true → (s.stepSpent t).cond t (stepCond (s.stepWord t)) = true →
    Answers (.waitUntil t) s fun u => u.thState t = thRunning ∧ u.thPc t = s.thPc t + 1 ∧
      u.get (SEQ_THR_STAT t) SEQ_THR_STAT_TO = 0 ∧ Frame [SEQ_THR_STAT t] [.seq, .clk] s.seqSettle u) ∧
  (s.stepDue t 5 = true → (s.stepSpent t).cond t (stepCond (s.stepWord t)) = false →
    Answers (.waitUntil t) s fun u => u.thState t = thWaiting ∧ u.thPc t = s.thPc t ∧ u.seq.thr[t].wait = .until ∧
      u.seq.thr[t].waitAt = s.clk.frames ∧ Frame [SEQ_THR_STAT t] [.seq, .clk] s.seqSettle u) ∧
  (s.waitDue t .until = true → s.cond t (stepCond (s.stepWord t)) = true →
    Answers (.waitUntilSatisfied t) s fun u => u.thState t = thRunning ∧ u.thPc t = s.thPc t + 1 ∧
      u.get (SEQ_THR_STAT t) SEQ_THR_STAT_TO = 0 ∧ Frame [SEQ_THR_STAT t] [.seq, .clk] s.seqSettle u) ∧
  (s.stepDue t 13 = true → (s.stepSpent t).barrierOpen (stepBits (s.stepWord t) 16 8) = true →
    Answers (.barrier t) s fun u => u.thState t = thRunning ∧ u.thPc t = s.thPc t + 1 ∧
      u.seq.thr[t].passed = some (stepBits (s.stepWord t) 16 8, s.clk.frames) ∧ Frame [SEQ_THR_STAT t] [.seq, .clk] s.seqSettle u) ∧
  (s.stepDue t 13 = true → (s.stepSpent t).barrierOpen (stepBits (s.stepWord t) 16 8) = false →
    Answers (.barrier t) s fun u => u.thState t = thWaiting ∧ u.thPc t = s.thPc t ∧ u.seq.thr[t].wait = .barrier ∧
      Frame [SEQ_THR_STAT t] [.seq, .clk] s.seqSettle u) ∧
  (s.waitDue t .barrier = true → s.barrierOpen (stepBits (s.stepWord t) 16 8) = true →
    Answers (.barrierPass t) s fun u => u.thState t = thRunning ∧ u.thPc t = s.thPc t + 1 ∧
      u.seq.thr[t].passed = some (stepBits (s.stepWord t) 16 8, s.clk.frames) ∧ Frame [SEQ_THR_STAT t] [.seq, .clk] s.seqSettle u) ∧
  (s.waitDue t .until = true → s.seq.thr[t].waitFor ≠ 0 → s.seq.thr[t].waitAt + s.seq.thr[t].waitFor ≤ s.clk.frames →
    s.cond t (stepCond (s.stepWord t)) = false →
    (stepToAct (s.stepWord t) = true → t ≠ thDown → t ≠ thFault →
      Answers (.waitTimeout t) s fun u => u.thState t = thIdle ∧ u.get (SEQ_THR_STAT t) SEQ_THR_STAT_END = 6 ∧
        u.raisedCode (0x78 + t) 6 ∧ EventFrame [SEQ_THR_STAT t, PATH_STAT] [.seq, .clk] s.seqSettle u) ∧
    (stepToAct (s.stepWord t) = false ∨ t = thDown ∨ t = thFault →
      Answers (.waitTimeout t) s fun u => u.thState t = thRunning ∧ u.thPc t = s.thPc t + 1 ∧
        u.get (SEQ_THR_STAT t) SEQ_THR_STAT_TO = 1 ∧ u.raisedCode (0x78 + t) 5 ∧
        EventFrame [SEQ_THR_STAT t, PLATE_CHAIN, PLATE_STAT] [.seq, .clk] s.seqSettle u))

/-- R242, R254, R255, R257, R260, R261 (spec 10): starts and stops of the threads. A start begins at its label as
latched at the tick and raises code 1 (of DOWN and FAULT when the frame's starts are settled); DOWN's start ends UP and USER with code 4; a start or a stop that the thread's state does not allow changes
nothing and raises code 8; UP is held while VSYS is too low to start. -/
def Obligations.ThreadStarts : Prop := ∀ (s : State) (l : Fin 64), s.engines = true → s.startsNow = true → s.labelStep l < 6144 →
  (s.seq.thr[thUser].cmd = none → s.thState thUser = thIdle →
    Answers (.seqStart thUser true l) s fun u => u.thState thUser = thRunning ∧
      u.thPc thUser = s.labelStep l ∧ u.seq.thr[thUser].stack = [] ∧ u.raisedCode 0x7B 1 ∧
      EventFrame [SEQ_THR_STAT thUser] [.snap, .seq] s u) ∧
  (s.seq.thr[thUser].cmd = none → s.thState thUser ≠ thIdle →
    Answers (.seqStart thUser true l) s fun u => u.thState thUser = s.thState thUser ∧ u.raisedCode 0x7B 8 ∧
      u.seq.thr[thUser].refused = true ∧ EventFrame [] [.snap, .seq] s u) ∧
  (s.seq.thr[thUp].cmd = none → s.upRefused = false → s.vsysStarts = true → s.fnHolds = false →
    Answers (.seqStart thUp true l) s fun u => u.thState thUp = thRunning ∧
      u.thPc thUp = s.labelStep l ∧ u.raisedCode 0x78 1 ∧
      EventFrame [SEQ_THR_STAT thUp] [.snap, .seq] s u) ∧
  (s.seq.thr[thUp].cmd = none → s.upRefused = false → s.vsysStarts = false →
    Answers (.seqStart thUp true l) s fun u => u.thState thUp = thHeld ∧ u.get PATH_STAT PATH_STAT_UP_INHIB = 1 ∧
      u.seq.heldVsys = true ∧ u.raisedCode 0x78 1 ∧ u.raisedCode 0x4D 0 ∧
      EventFrame [SEQ_THR_STAT thUp, PATH_STAT] [.snap, .seq] s u) ∧
  (s.seq.thr[thDown].cmd = none → s.thState thDown = thIdle → s.thRuns thFault = false →
    Answers (.seqStart thDown true l) s fun u => u.thState thDown = thRunning ∧
      u.thPc thDown = s.labelStep l ∧ u.thState thUp = thIdle ∧ u.thState thUser = thIdle ∧
      u.seq.downAt = some s.clk.frames ∧ u.seq.tellDown = some l.val ∧ (s.thState thUp ≠ thIdle → u.raisedCode 0x78 4) ∧
      EventFrame [SEQ_THR_STAT thUp, SEQ_THR_STAT thDown, SEQ_THR_STAT thUser, PATH_STAT] [.snap, .seq] s u) ∧
  (s.seq.thr[thFault].cmd = none → s.faultFresh = false → s.thState thFault = thIdle → s.thRuns thDown = false →
    Answers (.seqStart thFault true l) s fun u => u.thState thFault = thRunning ∧
      u.thPc thFault = s.labelStep l ∧ u.thState thUp = thIdle ∧ u.thState thUser = thIdle ∧
      u.seq.tellFault = some l.val ∧ u.seq.faultBy = 1 ∧ u.get SEQ_STAT SEQ_STAT_UP_PEND = 0 ∧
      EventFrame [SEQ_THR_STAT thUp, SEQ_THR_STAT thFault, SEQ_THR_STAT thUser, PATH_STAT, SEQ_STAT] [.snap, .seq] s u) ∧
  (s.seq.tellDown = some l.val → s.seq.tellFault = none → s.seqSettle.raisedCode 0x79 1 ∧ s.seqSettle.seq.tellDown = none) ∧
  (s.seq.tellFault = some l.val → s.seqSettle.raisedCode 0x7A 1 ∧ s.seqSettle.seq.tellFault = none ∧
    (s.seq.faultBy < 2 → s.get SEQ_FN SEQ_FN_DRIVE = 1 → s.get SEQ_STAT SEQ_STAT_FN_DRIVE = 0 →
      s.seqSettle.get SEQ_STAT SEQ_STAT_FN_DRIVE = 1 ∧ s.seqSettle.seq.fnAt = s.clk.frames ∧
      s.seqSettle.raisedCode 0x7C 1)) ∧
  (∀ t : Fin 4, s.seq.thr[t].cmd = none → s.thState t ≠ thIdle → t ≠ thFault →
    (t = thDown → s.get (SEQ_THR_STAT t) SEQ_THR_STAT_COMMITTED = 0) →
    Answers (.seqStop t) s fun u => u.thState t = thIdle ∧ u.get (SEQ_THR_STAT t) SEQ_THR_STAT_END = 3 ∧
      u.raisedCode (0x78 + t) 3 ∧ EventFrame [SEQ_THR_STAT t, SEQ_STAT, PATH_STAT] [.snap, .seq] s u) ∧
  (s.seq.thr[thFault].cmd = none → s.thState thFault ≠ thIdle →
    Answers (.seqStop thFault) s fun u => u.thState thFault = s.thState thFault ∧ u.raisedCode 0x7A 8 ∧
      u.seq.thr[thFault].refused = true ∧ EventFrame [] [.snap, .seq] s u) ∧
  (∀ esn : BitVec 8, esn.toNat ∈ s.flt.downDue → s.thState thDown = thIdle → s.thRuns thFault = false →
    s.entryLabel thDown = l.val →
    Answers (.downStartByEvent esn) s fun u => u.thState thDown = thRunning ∧
      u.thPc thDown = s.labelStep l ∧ u.thState thUp = thIdle ∧ u.seq.tellDown = some l.val ∧
      EventFrame [SEQ_THR_STAT thUp, SEQ_THR_STAT thDown, SEQ_THR_STAT thUser, PATH_STAT] [.seq] s u) ∧
  (s.get SEQ_STAT SEQ_STAT_UP_PEND = 1 → s.upRefused = false → s.latchedQualified 0 = true → s.vsysStarts = true →
    s.fnHolds = false → s.entryLabel thUp = l.val →
    Answers .autoUpStart s fun u => u.thState thUp = thRunning ∧ u.thPc thUp = s.labelStep l ∧
      u.get SEQ_STAT SEQ_STAT_UP_PEND = 0 ∧ u.raisedCode 0x78 1 ∧ u.raisedCode 0x78 0x0D ∧
      EventFrame [SEQ_STAT, SEQ_THR_STAT thUp] [.snap, .seq] s u)

/-- R242, R245, R256, R258 to R260, R263, R264 (spec 10): FAULT_N's edge and release, UP's release, the end of the minimum
off time, a lost sibling status, the flags, and writes of the store and the labels. -/
def Obligations.SequencerService : Prop := ∀ (s : State),
  (s.engines = true → s.startsNow = true → s.seq.fnEdge = true → s.faultFresh = false → s.thState thFault = thIdle →
    s.thRuns thDown = false → ∀ l : Fin 64, s.latchedF SEQ_FN SEQ_FN_LABEL = l.val → s.labelStep l < 6144 →
    Answers .faultNEdge s fun u => u.thState thFault = thRunning ∧ u.thPc thFault = s.labelStep l ∧
      u.seq.fnEdge = false ∧ u.thState thUp = thIdle ∧
      u.get SEQ_STAT SEQ_STAT_FN_DRIVE = s.get SEQ_STAT SEQ_STAT_FN_DRIVE ∧ u.raisedCode 0x7C 2 ∧ u.seq.tellFault = some l.val ∧ u.seq.faultBy = 2) ∧
  (s.engines = true → s.get SEQ_STAT SEQ_STAT_FN_DRIVE = 1 → s.thState thFault = thIdle →
    s.seq.fnAt + max 2 (s.get SEQ_FN SEQ_FN_HOLD) ≤ s.clk.frames →
    Answers .faultNRelease s fun u => u.get SEQ_STAT SEQ_STAT_FN_DRIVE = 0 ∧ u.raisedCode 0x7C 3 ∧
      EventFrame [SEQ_STAT] [] s u) ∧
  (s.engines = true → s.thState thUp = thHeld → s.seq.heldFn = true → s.seq.heldVsys = false →
    s.latchedF SEQ_STAT SEQ_STAT_FN_IN = 0 →
    Answers .upHeldRelease s fun u => u.thState thUp = thRunning ∧ u.seq.heldFn = false ∧
      Frame [SEQ_THR_STAT thUp] [.snap, .seq] s u) ∧
  (s.engines = true → s.get SEQ_STAT SEQ_STAT_MIN_OFF = 1 → s.seq.minOffEnd ≤ s.clk.frames →
    Answers .minOffEnd s fun u => u.get SEQ_STAT SEQ_STAT_MIN_OFF = 0 ∧
      u.get SEQ_STAT SEQ_STAT_UP_PEND = (if s.get SEQ_DOWN SEQ_DOWN_AUTO_UP = 1 then 1 else s.get SEQ_STAT SEQ_STAT_UP_PEND) ∧
      Frame [SEQ_STAT] [.snap] s u) ∧
  (s.inRun = true → s.get SEQ_STAT SEQ_STAT_SIB_OK = 1 → 8 ≤ s.seq.sibAge →
    Answers .siblingStatusLost s fun u => u.get SEQ_STAT SEQ_STAT_SIB_OK = 0 ∧ u.raisedCode 0x7F 1 ∧
      EventFrame [SEQ_STAT] [] s u) ∧
  (∀ w : Word, s.inRun = true →
    Answers (.seqFlagSet w) s (fun u => u.rd SEQ_FLAGS = s.rd SEQ_FLAGS ||| w ∧ Frame [SEQ_FLAGS] [] s u) ∧
    Answers (.seqFlagClr w) s (fun u => u.rd SEQ_FLAGS = s.rd SEQ_FLAGS &&& ~~~w ∧ Frame [SEQ_FLAGS] [] s u)) ∧
  (∀ (k : Fin 64) (v : Word), s.Unlocked 12 → getF v SEQ_LABEL_STEP < 6144 →
    Answers (.labelWrite k v) s fun u => u.get (SEQ_LABEL k) SEQ_LABEL_STEP = getF v SEQ_LABEL_STEP ∧
      EventFrame [SEQ_LABEL k, SYS_UNL_STAT, mrCnt 2] [.sys, .mr] s u) ∧
  (∀ (k : Fin 64) (v : Word), s.Unlocked 12 → 6144 ≤ getF v SEQ_LABEL_STEP →
    Answers (.labelWrite k v) s fun u => u.get SEQ_STAT SEQ_STAT_WR_IGN = 1 ∧ u.raisedCode 0x7F 3 ∧
      EventFrame [SEQ_STAT, SYS_UNL_STAT, mrCnt 2] [.sys, .mr] s u)

/-- R296 to R300, R303 (spec 12): the spare core's takeover, urgent requests and their results, the reference, and the
system calibration: its captures, an abort, and a full level without the zero of its input. -/
def Obligations.Converters : Prop := ∀ (s : State) (q : Fin 2) (j : Fin 8),
  (∀ f : Nat, s.engines = true → s.adc.takeDue = some (q.val, f) → f < s.clk.frames →
    s.coreFenced 2 = false →
    Answers (.adc2Takeover q) s fun t => t.get ADC_STAT ADC_STAT_TAKEN = q.val + 1 ∧ t.adc.takeDue = none ∧
      t.raisedCode 0x6B 0 ∧ EventFrame [ADC_STAT] [.snap, .adc] s t) ∧
  (∀ f : Nat, s.engines = true → s.adc.takeDue = some (q.val, f) → f < s.clk.frames → s.coreFenced 2 = true →
    Answers (.adc2Takeover q) s fun t => (t.get ADC_STAT ADC_STAT_LOST).testBit q = true ∧ t.adc.takeDue = none ∧
      t.raisedCode 0x6C 0) ∧
  (∀ (input : BitVec 6) (cal : Bool) (slot : UrgSlot), s.inRun = true →
    (s.get (ADC_URG q j) ADC_URG_PEND = 1 ∨ s.seqServed q = false →
      Answers (.urgentRequest q j input cal slot) s fun t => t.raisedCode 0x6F 0 ∧ EventFrame [] [] s t) ∧
    (s.get (ADC_URG q j) ADC_URG_PEND = 0 → s.seqServed q = true → s.adcRuns = true → s.adc.seqs[q].urgent < 8 →
      Answers (.urgentRequest q j input cal slot) s fun t => t.get (ADC_URG q j) ADC_URG_PEND = 1 ∧
        t.get (ADC_URG q j) ADC_URG_INPUT = input.toNat ∧ t.adc.seqs[q].urgent = s.adc.seqs[q].urgent + 1 ∧
        t.adc.queue[q] = s.adc.queue[q] ++ [j.val] ∧
        Frame [ADC_URG q j] [.adc] s t)) ∧
  (∀ (raw : BitVec 16) (r : List Nat), s.engines = true → s.get (ADC_URG q j) ADC_URG_PEND = 1 → s.adcRuns = true →
    s.coreFenced (s.coreOf q) = false → s.seqLost q = false → s.adc.queue[q] = j.val :: r → j.val ∉ s.adc.seqs[q].later →
    s.get (ADC_URG q j) ADC_URG_CAL_EN = 0 →
    Answers (.urgentResult q j raw) s fun t => t.get (ADC_URG q j) ADC_URG_PEND = 0 ∧
      t.get ADC_URG_DONE (bitF (8 * q + j)) = 1 ∧ t.get (ADC_URG_RES q j) ⟨0, 16⟩ = raw.toNat ∧
      t.get (ADC_URG_RES q j) fldUnsettled = 0 ∧ t.adc.queue[q] = r ∧
      Frame [ADC_URG q j, ADC_URG_RES q j, ADC_URG_DONE] [.adc] s t) ∧
  (∀ (f : Nat) (chk : Vector (BitVec 16) 3), s.engines = true → s.get ADC_CFG ADC_CFG_REF_EN = 1 → s.adcReady = false → s.adc.refAt = some f →
    f + 100 ≤ s.clk.frames →
    Answers (.refReadySet chk) s fun t => t.adcReady = true ∧ t.adc.ready = true ∧ t.raisedCode 0x6D 1 ∧
      (∀ c : Fin 3, s.coreFenced c = false → t.get (ADC_CHK c) ADC_CHK_LAST = chk[c].toNat)) ∧
  (∀ n0 n1 : Fin 65, s.engines = true → s.adcReady = true →
    Answers (.referenceFault n0 n1) s fun t => t.adcReady = false ∧ t.get ADC_STAT ADC_STAT_REF_FLT = 1 ∧
      t.raisedCode 0x6D 2 ∧ (s.calRuns = true → t.get ADC_CAL_STAT ADC_CAL_STAT_STATE = 0 ∧
        t.get ADC_CAL_STAT ADC_CAL_STAT_RESULT = 2 ∧ t.raisedCode 0x6E 3) ∧
      EventFrame (ADC_STAT :: ADC_CAL_STAT :: adcResults) [.adc] s t) ∧
  (∀ (input : BitVec 6) (target : BitVec 16), s.inRun = true →
    (s.calRuns = false →
      Answers (.calZero input target) s fun t => t.get ADC_CAL_STAT ADC_CAL_STAT_STATE = 1 ∧
        t.get ADC_CAL_STAT ADC_CAL_STAT_INPUT = input.toNat ∧ t.adc.zero = none ∧ t.adc.target = target.toNat ∧
        Frame [ADC_CAL_STAT] [.adc] s t) ∧
    (s.calRuns = true →
      Answers (.calZero input target) s fun t => t.raisedCode 0x6F 0 ∧ EventFrame [] [] s t) ∧
    (s.get ADC_CAL_STAT ADC_CAL_STAT_STATE = 2 → s.get ADC_CAL_STAT ADC_CAL_STAT_INPUT = input.toNat →
      Answers (.calFull input target) s fun t => t.get ADC_CAL_STAT ADC_CAL_STAT_STATE = 3 ∧
        t.adc.target = target.toNat ∧ t.adc.zero = s.adc.zero ∧ Frame [ADC_CAL_STAT] [.adc] s t) ∧
    (s.get ADC_CAL_STAT ADC_CAL_STAT_STATE ≠ 2 ∨ s.get ADC_CAL_STAT ADC_CAL_STAT_INPUT ≠ input.toNat →
      Answers (.calFull input target) s fun t => t.raisedCode 0x6F 0 ∧ EventFrame [] [] s t)) ∧
  (s.inRun = true → s.get ADC_CAL_STAT ADC_CAL_STAT_STATE ≠ 0 →
    Answers .calAbort s fun t => t.get ADC_CAL_STAT ADC_CAL_STAT_STATE = 0 ∧
      t.get ADC_CAL_STAT ADC_CAL_STAT_RESULT = 3 ∧ t.adc.zero = none ∧ Frame [ADC_CAL_STAT] [.adc] s t) ∧
  (∀ sums : Vector (BitVec 24) 3, s.engines = true → s.get ADC_CAL_STAT ADC_CAL_STAT_STATE = 1 → 32 ≤ s.adc.calN →
    Answers (.calibrationCaptureDone sums) s fun t => t.get ADC_CAL_STAT ADC_CAL_STAT_STATE = 2 ∧
      t.adc.zero = some (s.adc.target, sums.toList.map (·.toNat)) ∧ t.raisedCode 0x6E 1 ∧
      EventFrame [ADC_CAL_STAT] [.adc] s t) ∧
  (∀ (sums : Vector (BitVec 24) 3) (z : Nat × List Nat) (tab : List (Nat × Word)), s.engines = true →
    s.get ADC_CAL_STAT ADC_CAL_STAT_STATE = 3 → 32 ≤ s.adc.calN → s.adc.zero = some z →
    s.calTables (s.get ADC_CAL_STAT ADC_CAL_STAT_INPUT) z.2 (sums.toList.map (·.toNat)) z.1 s.adc.target [0, 1, 2] = some tab →
    Answers (.calibrationCaptureDone sums) s fun t => t.get ADC_CAL_STAT ADC_CAL_STAT_STATE = 0 ∧
      t.get ADC_CAL_STAT ADC_CAL_STAT_RESULT = 1 ∧ t.adc.store = tab ∧ t.nv.q4.length = s.nv.q4.length + 1 ∧
      t.raisedCode 0x6E 2 ∧ EventFrame [ADC_CAL_STAT] [.adc, .nv] s t)

/-- R281 to R286 (spec 11): a step of the thermal model, without a cross-check: each node moves by its power and the heat
its links carry away, divided by its capacity; a node without capacity follows the boundary; the level never falls in a
step, and a second step in the same frame changes nothing. A fall takes one level. -/
def Obligations.ThermalModel : Prop := ∀ (s : State),
  (s.engines = true → s.th.on = true → s.latchedF TH_CFG TH_CFG_EN ≠ 0 → s.frmNum % 16 = 0 →
    s.th.last ≠ some s.clk.frames → s.latchedF TH_CFG TH_CFG_XCHK_EN = 0 →
    Answers .thermalStep s fun t => t.th.last = some s.clk.frames ∧ t.th.steps = s.th.steps + 1 ∧
      (∀ k : Fin 40, t.th.nodes[k].t =
        (if k.val = 39 ∨ s.latchedF (TH_NODE k) TH_NODE_CAP = 0 then
            (getFI (s.latched TH_AMB) TH_AMB_AMB + s.th.ofs) * (2 ^ 17 : Nat)
          else s.th.nodes[k].t + roundDiv (s.th.nodes[k].sum * (2 ^ 20 : Nat) -
            100 * nodeFlow ((s.th.nodes.toList.map (·.t)).set 39
              ((getFI (s.latched TH_AMB) TH_AMB_AMB + s.th.ofs) * (2 ^ 17 : Nat))) k s.links) (3125000 * s.latchedF (TH_NODE k) TH_NODE_CAP)) ∧
        t.th.nodes[k].p = roundDiv s.th.nodes[k].sum 16000) ∧
      s.th.level ≤ t.th.level ∧ EventFrame [TH_STAT] [.th] s t) ∧
  (s.th.last = some s.clk.frames → Answers .thermalStep s fun t => t = s) ∧
  (s.engines = true → s.th.on = true → 0 < s.th.level →
    125 * max 1 (s.latchedF TH_CFG TH_CFG_DWELL) ≤ s.th.dwell →
    Answers .throttleFall s fun t => t.th.level + 1 = s.th.level ∧ t.th.dwell = 0 ∧ Frame [] [.th] s t)

/-- R272, R275 (spec 11): a write of a context's configuration word. One that leaves a valid context is taken, and a
write of the source or the gate returns the context to NORMAL; one that does not is ignored with WR_IGN and ESN 0x77. -/
def Obligations.ContextWrites : Prop := ∀ (s : State) (i : Fin 160) (k : Fin 5) (v : Word), s.Unlocked 10 →
  (ctxWordsOk (s.ctxAfter i k v 0) (s.ctxAfter i k v 1) (s.ctxAfter i k v 3) (s.ctxAfter i k v 4) = true →
    Answers (.contextWrite i k v) s fun t => t.rd (CTX_SRC i + 4 * k) = v &&& ctxWordMask k ∧
      (k = 0 ∨ k = 4 → t.get (CTX_STAT i) CTX_STAT_STATE = 0 ∧ t.get (CTX_STAT i) CTX_STAT_FCNT = 0 ∧
        t.get (CTX_STAT i) CTX_STAT_RATE = 0) ∧
      (k ≠ 0 → k ≠ 4 → t.rd (CTX_STAT i) = s.rd (CTX_STAT i)) ∧
      EventFrame [CTX_SRC i + 4 * k, CTX_STAT i, SYS_UNL_STAT, mrCnt 2] [.ctx, .sys, .mr] s t) ∧
  (ctxWordsOk (s.ctxAfter i k v 0) (s.ctxAfter i k v 1) (s.ctxAfter i k v 3) (s.ctxAfter i k v 4) = false →
    Answers (.contextWrite i k v) s fun t => t.get MON_STAT MON_STAT_WR_IGN = 1 ∧ t.raisedCode 0x77 1 ∧
      EventFrame [MON_STAT, SYS_UNL_STAT, mrCnt 2] [.sys, .mr] s t)

/-- R312, R313, R315, R316, R323 (spec 13): clearing a sticky bit, forcing a raise, VREG supervision and the reaction to
one raise: a start of FAULT at its label, or the fence of a rail noted for the tick. -/
def Obligations.FaultCollector : Prop := ∀ (s : State),
  (∀ (w : Fin 8) (b : Fin 32), s.inRun = true → s.clearIgnored (32 * w + b) = false →
    Answers (.stickyClear w (1#32 <<< b.val)) s fun t => t.get (FLT_STICKY w) (bitF b) = 0 ∧
      t.get (FLT_INFO (32 * w + b)) FLT_INFO_COUNT = 0 ∧ t.get (FLT_INFO (32 * w + b)) FLT_INFO_CLS = 0 ∧
      (32 * w + b : Nat) ∉ t.acks ∧ Frame [FLT_STICKY w, FLT_INFO (32 * w + b)] [.acks] s t) ∧
  (∀ (w : Fin 8) (b : Fin 32), s.inRun = true → s.clearIgnored (32 * w + b) = true →
    Answers (.stickyClear w (1#32 <<< b.val)) s fun t => t = s) ∧
  (∀ n : BitVec 8, s.Unlocked 2 → esnReserved n.toNat = false →
    Answers (.forceRaise n) s fun t => t.raisedCode n.toNat 0xFF ∧
      EventFrame [SYS_UNL_STAT, mrCnt 2] [.freeCtr, .sys, .mr] s t) ∧
  (∀ n : BitVec 8, s.Unlocked 2 → esnReserved n.toNat = true → Answers (.forceRaise n) s fun t =>
    EventFrame [SYS_UNL_STAT, mrCnt 2] [.sys, .mr] s t) ∧
  (∀ b : Bool, s.inRun = true → s.clk.inForce = true →
    Answers (.vregOutOfRange b) s fun t => t.raisedCode (if b then 0x06 else 0x05) 0 ∧ EventFrame [] [] s t) ∧
  (∀ (r : WinRaise) (l : Fin 64), s.engines = true → s.clk.stage = .contexts → s.faultFresh = false → s.flt.window = [r] → r.esn < 0xA0 →
    s.get (FLT_CFG r.esn) FLT_CFG_NOTE = 0 →
    ((s.get (FLT_CFG r.esn) FLT_CFG_FAULT_EN = 1 ∧ s.selected r = true) ∨ 2 ≤ r.cls) → s.thState thFault = thIdle →
    s.thRuns thDown = false → s.get (FLT_CFG r.esn) FLT_CFG_LABEL = l.val → s.labelStep l < 6144 →
    Answers .faultReaction s fun t => t.thState thFault = thRunning ∧ t.thPc thFault = s.labelStep l ∧
      t.thState thUp = thIdle ∧ t.seq.faultBy = 0 ∧ t.seq.faultEsn = r.esn ∧ t.clk.stage = .reacted ∧ t.raisedCode 0x7A 1) ∧
  (∀ r : WinRaise, s.engines = true → s.clk.stage = .contexts → s.seq.tellFault = none → s.flt.window = [r] → 0xA0 ≤ r.esn →
    s.get (FLT_CFG r.esn) FLT_CFG_NOTE = 0 → s.get (FLT_CFG r.esn) FLT_CFG_FAULT_EN = 0 → r.cls < 2 →
    s.get (MEV_FENCE (r.esn - 0xA0)) MEV_FENCE_KIND = 1 → (r.forced = true ∨ ∃ c ∈ r.codes, 1 ≤ c ∧ c ≤ 4) →
    Answers .faultReaction s fun t => t.flt.window = [] ∧
      t.flt.fenced = s.flt.fenced ++ [s.get (MEV_FENCE (r.esn - 0xA0)) MEV_FENCE_TARGET] ∧ Frame [] [.flt, .clk] s t)

/-- R340, R341, R343 to R345 (spec 14): the NV engine writes one word of the first job and changes no other byte of MRAM;
Burin's write and erase are taken, or refused where they would reach a protected partition; an erase cut short resumes. -/
def Obligations.NvEngine : Prop := ∀ (s : State), s.inRun = true →
  (∀ (off : Nat) (v : BitVec 64) (r : List NvJob) (fails : Fin 4), s.nvBlocked = false → s.nv.used < 125 →
    s.nv.q1 = ⟨.words, [(off, v)], 1, 1⟩ :: r → fails.val < 3 → off % 8 = 0 →
    s.physSector (off / 4096) ∉ s.mram.failed →
    Answers (.nvWordWrite fails) s fun t => t.nv.q1 = r ∧ memRead t.mram.cells off 8 = bytesLE 8 v.toNat ∧
      (∀ a, a / 4096 ∉ s.namesOf (off / 4096) ∨ a % 4096 < off % 4096 ∨ off % 4096 + 8 ≤ a % 4096 →
        memByte t.mram.cells a = memByte s.mram.cells a) ∧
      t.nv.used = s.nv.used + (fails.val + 1) ∧ Frame [] [.nv, .mram] s t) ∧
  (s.burinReaches = true → s.actSrc = 0 →
    (s.nvForbidden (8 * s.get NV_ADDR NV_ADDR_WORD) = true →
      Answers .nvWrite s fun t => t.get NV_STAT NV_STAT_REFUSED = 1 ∧ Frame [NV_STAT] [] s t) ∧
    (s.nvForbidden (8 * s.get NV_ADDR NV_ADDR_WORD) = false →
      Answers .nvWrite s fun t => t.get NV_STAT NV_STAT_BUSY = 1 ∧
        t.nv.q4 = s.nv.q4 ++ [⟨.words, [(8 * s.get NV_ADDR NV_ADDR_WORD,
          BitVec.ofNat 64 ((s.rd NV_DATA_LO).toNat + 2 ^ 32 * (s.rd NV_DATA_HI).toNat))], 1, 1⟩] ∧
        Frame [NV_STAT] [.nv] s t) ∧
    (s.eraseForbidden = true →
      Answers .erase s fun t => t.get NV_STAT NV_STAT_REFUSED = 1 ∧ Frame [NV_STAT] [] s t) ∧
    (s.eraseForbidden = false → s.get NV_JRNL_LEN NV_JRNL_LEN_LEN ≠ 0 →
      Answers .erase s fun t => t.get NV_JRNL_STAT NV_JRNL_STAT_ACTIVE = 1 ∧ t.get NV_JRNL_DONE NV_JRNL_DONE_DONE = 0 ∧
        t.nv.eraseWord = 0 ∧ t.get NV_STAT NV_STAT_BUSY = 1 ∧ Frame [NV_JRNL_DONE, NV_JRNL_STAT, NV_STAT] [.nv] s t) ∧
    (s.get NV_JRNL_STAT NV_JRNL_STAT_INTERRUPTED = 1 → s.eraseForbidden = true →
      Answers .resume s fun t => t.get NV_STAT NV_STAT_REFUSED = 1 ∧ Frame [NV_STAT] [] s t) ∧
    (s.get NV_JRNL_STAT NV_JRNL_STAT_INTERRUPTED = 1 → s.eraseForbidden = false →
      Answers .resume s fun t => t.get NV_JRNL_STAT NV_JRNL_STAT_INTERRUPTED = 0 ∧
        t.get NV_JRNL_STAT NV_JRNL_STAT_ACTIVE = 1 ∧
        t.get NV_JRNL_DONE NV_JRNL_DONE_DONE = s.get NV_JRNL_DONE NV_JRNL_DONE_DONE ∧ t.raisedCode 0x1E 0 ∧
        EventFrame [NV_JRNL_STAT, NV_STAT] [.nv] s t))

/-- R366, R368 to R370, R372, R373, R375, R376 (spec 15): setting and loading the calendar, the trim, the stamp's
clear and a clear that crosses, the reads that latch, a crystal stop, the calendar's wrap, a low VBAK, and the hourly
counter record. -/
def Obligations.BackupDomain : Prop := ∀ (s : State),
  (s.inRun = true → (s.rd RTC_SET_LO).toNat + 2 ^ 32 * s.get RTC_SET_HI RTC_SET_HI_SEC ≤ 6311433599 →
    Answers .set s fun t => t.opt.setCross = some (256 * ((s.rd RTC_SET_LO).toNat + 2 ^ 32 * s.get RTC_SET_HI RTC_SET_HI_SEC) +
      s.get RTC_SET_HI RTC_SET_HI_SUB) ∧ t.bak = s.bak ∧ Frame [] [.opt] s t) ∧
  (s.inRun = true → 6311433599 < (s.rd RTC_SET_LO).toNat + 2 ^ 32 * s.get RTC_SET_HI RTC_SET_HI_SEC →
    Answers .set s fun t => t.get RTC_STAT RTC_STAT_SET_IGN = 1 ∧ Frame [RTC_STAT] [] s t) ∧
  (∀ v : Nat, s.inRun = true → s.opt.setCross = some v → s.opt.setDue = true → s.get RTC_STAT RTC_STAT_SUBST = 0 →
    Answers .calendarLoad s fun t => t.bak.cal = v ∧ t.opt.setCross = none ∧ t.opt.setDue = false ∧
      t.get RTC_STAT RTC_STAT_VALID = 1 ∧ t.raisedCode 0x94 1 ∧ EventFrame [RTC_STAT] [.bak, .opt] s t) ∧
  (∀ v : BitVec 8, s.Unlocked 14 →
    Answers (.rtcTrimWrite v) s fun t => t.get RTC_TRIM RTC_TRIM_TRIM = v.toNat ∧ t.raisedCode 0x94 2 ∧
      EventFrame [RTC_TRIM, SYS_UNL_STAT, mrCnt 2] [.sys, .mr] s t) ∧
  (s.inRun = true →
    Answers .clearSwo s fun t => t.rd RTC_SWO_CNT = 0 ∧ t.rd RTC_SWO_CAL_LO = 0 ∧ t.rd RTC_SWO_CAL_HI = 0 ∧
      t.rd RTC_SWO_OPT_LO = 0 ∧ t.rd RTC_SWO_OPT_HI = 0 ∧ t.get RTC_STAT RTC_STAT_SWO_STAMPED = 0 ∧
      t.opt.swoCross = false ∧ Frame [RTC_SWO_CNT, RTC_SWO_CAL_LO, RTC_SWO_CAL_HI, RTC_SWO_OPT_LO, RTC_SWO_OPT_HI, RTC_STAT] [.opt] s t) ∧
  (∀ (n : Nat) (live : Bool), s.opt.swoCross = true → n ≠ 0 →
    (s.xtalCycles n live).rd RTC_SWO_CNT = 0 ∧ (s.xtalCycles n live).get RTC_STAT RTC_STAT_SWO_STAMPED = 0 ∧
      (s.xtalCycles n live).opt.swoCross = false) ∧
  (s.inRun = true →
    Answers .rtcSecLoRead s fun t => t.out = [BitVec.ofNat 32 (s.calendar / 256)] ∧ t.opt.calLatch = some s.calendar ∧
      t.opt.ms = s.opt.ms ∧ Frame [] [.opt, .out] s t) ∧
  (s.inRun = true →
    Answers .rtcOptLoRead s fun t => t.out = [BitVec.ofNat 32 s.opt.ms] ∧ t.opt.optLatch = some s.opt.ms ∧
      t.opt.ms = s.opt.ms ∧ Frame [] [.opt, .out] s t) ∧
  (s.power ≠ .unpowered →
    Answers .crystalStop s fun t => t.get RTC_STAT RTC_STAT_XSTOP = 1 ∧ t.get RTC_STAT RTC_STAT_VALID = 0 ∧
      t.bak.crystal = false ∧ Frame [RTC_STAT] [.bak] s t) ∧
  (s.power ≠ .unpowered → s.bak.cal = 256 * 6311433600 - 1 →
    Answers .calendarWrap s fun t => t.bak.cal = 0 ∧ t.get RTC_STAT RTC_STAT_VALID = 0 ∧ Frame [RTC_STAT] [.bak] s t) ∧
  (∀ v : BitVec 12, v.toNat < 2000 → s.power = .run →
    Answers (.vbakLow v) s fun t => t.raisedCode 0x96 1 ∧ EventFrame [] [] s t) ∧
  (∀ v : BitVec 12, v.toNat < 2000 → s.power = .standby →
    Answers (.vbakLow v) s fun t => t.opt.firstTick = s.opt.firstTick ++ [(0x96, 1, 0)] ∧
    Frame [] [.opt] s t) ∧
  (∀ v : BitVec 12, v.toNat < 2000 → s.power = .frost →
    Answers (.vbakLow v) s fun t => t.get RTC_STAT RTC_STAT_BAK_LOW = 1 ∧ t.bak.lowMark = true ∧
    Frame [RTC_STAT] [.bak] s t) ∧
  (s.inRun = true → s.opt.hourRec < s.opt.ms / 3600000 →
    Answers .counterRecordHourly s fun t => t.opt.hourRec = s.opt.ms / 3600000 ∧
      t.nv.q1 = s.nv.q1 ++ [counterJob s.opt.ms (s.rd PWR_CYCLES).toNat] ∧ Frame [] [.opt, .nv] s t)

/-- R63, R66 to R68, R371, R372, R374 (spec 03, 15): the power states. VBAK brings FROST with D_BAK reset; VBAK lost loses
all but MRAM; VSYS lost leads to FROST with the switch-over stamped and D_PWR and D_PROC in reset, or to unpowered; STANDBY
is entered or rejected; a wake source that is enabled brings RUN back. -/
def Obligations.PowerStates : Prop := ∀ (s : State),
  (s.power = .unpowered →
    Answers .vbakRise s fun t => t.power = .frost ∧ t.bak.crystal = true ∧ t.bak.cal = 0 ∧
      (∀ a, domainOf a = some Domain.dBak → t.rd a = resetVal a) ∧
      (∀ a, domainOf a ≠ some Domain.dBak → t.rd a = s.rd a) ∧ t.mram = s.mram) ∧
  (s.power = .frost →
    Answers .vbakFall s fun t => t.power = .unpowered ∧ (∀ a, t.rd a = resetVal a) ∧ t.mram = s.mram ∧ t.fuse = s.fuse) ∧
  (∀ v : BitVec 12, s.power = .run ∨ s.power = .standby → v.toNat < 1800 →
    Answers (.vsysFall v) s fun t => t.power = .unpowered ∧ (∀ a, t.rd a = resetVal a) ∧ t.mram = s.mram) ∧
  (∀ v : BitVec 12, s.power = .run ∨ s.power = .standby → 1800 ≤ v.toNat →
    Answers (.vsysFall v) s fun t => t.power = .frost ∧ (∀ a, domainOf a ≠ some Domain.dBak → t.rd a = resetVal a) ∧
      t.get RTC_STAT RTC_STAT_SWO_STAMPED = 1 ∧
      (s.get RTC_STAT RTC_STAT_SWO_STAMPED = 0 → t.rd RTC_SWO_CAL_LO = BitVec.ofNat 32 (s.bak.cal / 256) ∧
        t.rd RTC_SWO_OPT_LO = BitVec.ofNat 32 s.bak.shadowOpt) ∧
      (v.toNat < 2000 → t.get RTC_STAT RTC_STAT_BAK_LOW = 1) ∧ t.bak.cal = s.bak.cal ∧ t.mram = s.mram) ∧
  (s.inRun = true → s.standbyReady = true →
    Answers .standbyReq s fun t => t.power = .standby ∧ t.get BOOT_STAT BOOT_STAT_READY = 0 ∧
      t.get PWR_STATE PWR_STATE_AUTON = 1 ∧ t.get GG_STAT GG_STAT_HIB = 1 ∧ t.gg.hibN = 0 ∧ t.wd.running = false ∧
      t.nv.q2 = [] ∧ t.fw.acts = [] ∧ t.bak = s.bak ∧
      ((∀ x : Fin 2, t.get (FEED_STAT x) FEED_STAT_GATE_ON = 0) ∧ t.get GG_CELL_STAT GG_CELL_STAT_BAL_ON = 0 ∧
        t.get SEQ_STAT SEQ_STAT_FN_DRIVE = 0 ∧ t.get WD_STAT WD_STAT_OUT = 0 ∧ ∀ m : Fin 4, t.loops[m].stgEn = false)) ∧
  (s.inRun = true → s.standbyReady = false →
    Answers .standbyReq s fun t => t.power = s.power ∧ t.get PWR_STATE PWR_STATE_STBY_REJ = 1 ∧ Frame [PWR_STATE] [] s t) ∧
  (∀ src : Fin 7, s.power = .standby → s.get PWR_WAKE_EN (bitF src) = 1 →
    Answers (.wakeRequest src) s fun t => t.power = .run ∧ t.get PWR_WAKE_SRC (bitF src) = 1 ∧
      t.get PWR_STATE PWR_STATE_WARM = 1 ∧
      EventFrame (PWR_WAKE_SRC :: PWR_STATE :: WD_SEQ :: WD_STAT :: ctxStats) [.power, .ctx, .th, .adc, .wd] s t) ∧
  (∀ src : Fin 7, s.get PWR_WAKE_EN (bitF src) = 0 → Answers (.wakeRequest src) s fun t => t = s) ∧
  (∀ p : Port, s.power = .standby → s.get (PORT_CFG p) PORT_CFG_EN = 1 → s.get PWR_WAKE_EN (bitF p.idx) = 1 →
    Answers (.addressMatchWake p true) s (fun t => t.power = .run ∧ t.get PWR_WAKE_SRC (bitF p.idx) = 1 ∧
      EventFrame (PWR_WAKE_SRC :: PWR_STATE :: WD_SEQ :: WD_STAT :: ctxStats) [.power, .ctx, .th, .adc, .wd] s t) ∧
    (p = .a ∨ p = .b → Answers (.addressMatchWake p false) s fun t => t.power = .standby ∧
      t.get (PORT_STAT p) PORT_STAT_BUS_TO = 1 ∧ t.opt.firstTick = s.opt.firstTick ++ [(portEsn p, 3, 0)] ∧
      Frame [PORT_STAT p] [.opt] s t)) ∧
  (s.bak.wakeDue = true → s.inRun = true →
    Answers .periodicWake s fun t => t.bak.wakeDue = false ∧ t.raisedCode 0x98 0 ∧ EventFrame [] [.bak] s t) ∧
  (s.bak.wakeDue = true → s.power = .standby → s.get PWR_WAKE_EN (bitF 4) = 1 →
    Answers .periodicWake s fun t => t.bak.wakeDue = false ∧ t.power = .run ∧ t.get PWR_WAKE_SRC (bitF 4) = 1 ∧
      t.opt.firstTick = s.opt.firstTick ++ [(0x98, 0, 0)] ∧
      EventFrame (PWR_WAKE_SRC :: PWR_STATE :: WD_SEQ :: WD_STAT :: ctxStats) [.power, .ctx, .th, .adc, .wd, .bak, .opt] s t) ∧
  (s.bak.wakeDue = true → s.power = .frost →
    Answers .periodicWake s fun t => t.bak.wakeDue = false ∧ t.power = .frost ∧ Frame [] [.bak] s t)

/-- R52 to R55, R165 (spec 03, 07): the clock monitor. The loss of the active oscillator fences it and switches MAIN to
the other; the loss of the spare only fences it; an oscillator is lost when it stops, or with the crystal when four
consecutive counts are 343 or less or 420 or more; with the other one fenced already the loss is that of both, which stamps the
loss, stops the watchdog and turns every output off; MAIN resumes with the synchronisations lost; an attempt to restart
that does not pass changes nothing, and one that passes is a cold start that extends MR0 by the ROM and the fuses. -/
def Obligations.ClockMonitor : Prop := ∀ (s : State),
  (∀ (stopped : Bool) (counts : Vector (BitVec 10) 4) (e0 e1 : Option (Fin 64)), s.inRun = true →
    (s.oscFails stopped counts = true ↔ stopped = true ∨ (s.get CLK_STAT CLK_STAT_XTAL_OK = 1 ∧
      ∀ k : Fin 4, counts[k].toNat ≤ 343 ∨ 420 ≤ counts[k].toNat)) ∧
    (s.oscFails stopped counts = true →
      (s.get CLK_STAT CLK_STAT_ACTIVE = 0 → s.get CLK_STAT CLK_STAT_SPR_FENCED = 0 →
        Answers (.activeOscillatorLost stopped counts e0 e1) s (fun t => t.get CLK_STAT CLK_STAT_PRI_FENCED = 1 ∧
          t.get CLK_STAT CLK_STAT_ACTIVE = 1 ∧ t.clk.stopped = (stopped || s.clk.stopped) ∧ t.raisedCode 0x00 0 ∧
          EventFrame [CLK_STAT] [.clk, .adc] s t) ∧
        Answers (.spareOscillatorLost stopped counts) s (fun t => t.get CLK_STAT CLK_STAT_SPR_FENCED = 1 ∧
          t.get CLK_STAT CLK_STAT_ACTIVE = 0 ∧ t.raisedCode 0x01 0 ∧ EventFrame [CLK_STAT] [] s t)) ∧
      (s.get CLK_STAT CLK_STAT_ACTIVE = 1 → s.get CLK_STAT CLK_STAT_PRI_FENCED = 0 →
        Answers (.activeOscillatorLost stopped counts e0 e1) s (fun t => t.get CLK_STAT CLK_STAT_SPR_FENCED = 1 ∧
          t.get CLK_STAT CLK_STAT_ACTIVE = 0 ∧ t.clk.stopped = (stopped || s.clk.stopped) ∧ t.raisedCode 0x00 0 ∧
          EventFrame [CLK_STAT] [.clk, .adc] s t) ∧
        Answers (.spareOscillatorLost stopped counts) s (fun t => t.get CLK_STAT CLK_STAT_PRI_FENCED = 1 ∧
          t.get CLK_STAT CLK_STAT_ACTIVE = 1 ∧ t.raisedCode 0x01 0 ∧ EventFrame [CLK_STAT] [] s t)) ∧
      (s.otherFenced = true → Answers (.activeOscillatorLost stopped counts e0 e1) s (fun t => t.clk.bothLost = true ∧
          t.get RTC_STAT RTC_STAT_LOSS = 1 ∧ t.wd.running = false ∧ t.raisedCode 0x02 0) ∧
        Answers (.spareOscillatorLost stopped counts) s (fun t => t = s))) ∧
    (s.oscFails stopped counts = false → Answers (.activeOscillatorLost stopped counts e0 e1) s (fun t => t = s) ∧
      Answers (.spareOscillatorLost stopped counts) s (fun t => t = s))) ∧
  (s.power = .run → s.clk.bothLost = false →
    Answers .bothOscillatorsLost s fun t => t.clk = { s.clk with bothLost := true } ∧
      t.get RTC_STAT RTC_STAT_LOSS = 1 ∧ t.rd RTC_LOSS_CAL_LO = BitVec.ofNat 32 (s.bak.cal / 256) ∧
      t.rd RTC_LOSS_OPT_LO = BitVec.ofNat 32 s.bak.shadowOpt ∧ t.wd.rtcPulse = true ∧ t.wd.running = false ∧
      (∀ r : Fin 14, t.regul[r].run = .off) ∧ (∀ m : Fin 4, t.loops[m].stgEn = false ∧ t.loops[m].stgEnFall = false) ∧
      t.seq.extEn = 0 ∧ t.seq.extNext = 0 ∧ t.chgState = chgIdle ∧ t.raisedCode 0x02 0) ∧
  (∀ (above : BitVec 14) (vout : Vector (BitVec 16) 14), s.power = .run → s.clk.stopped = true → s.clk.bothLost = false →
    Answers (.mainResume above vout) s fun t => t.clk = { s.clk with stopped := false } ∧
      (∀ m : Fin 4, t.get (LOOP_STAT m) LOOP_STAT_SYNCED = 0 ∧ t.loops[m].syncOn = false) ∧
      t.get SYNC_STAT SYNC_STAT_QUAL = 0 ∧ t.flt.held = [] ∧
      (∀ r : Fin 14, s.regOn r = false → t.regul[r] = s.regul[r] ∧ t.rd (REG_STAT r) = s.rd (REG_STAT r)) ∧
      (∀ r : Fin 14, s.regOn r = true → above.getLsbD r = false → regKind r ≠ .sw →
        t.regul[r].run = .starting ∧ t.regul[r].vref = vout[r].toNat ∧ t.regul[r].target = s.regSetpoint r ∧
        (s.regul[r].uvArmed = true → t.get (REG_STAT r) REG_STAT_UV = 1 ∧ t.get (REG_STAT r) REG_STAT_PG = 0)) ∧
      EventFrame (SYNC_STAT :: loopStats ++ (allFin 14).map fun r : Fin 14 => REG_STAT r) [.clk, .regul, .loops] s t) ∧
  (∀ (a b : BitVec 12) (x : BitVec 48) (p b8 : Bool) (l : List EccRead),
    Answers (.oscillatorRestartAttempt false a b x p b8 l) s fun t => t = s) ∧
  (∀ (a b : BitVec 12) (x : BitVec 48) (p b8 : Bool), s.power = .run → s.clk.bothLost = true →
    Answers (.oscillatorRestartAttempt true a b x p b8 []) s fun t => t.power = .run ∧ t.clk.bothLost = false ∧
      t.layers = true ∧ t.mr[0] = digestBV (sha256 (bytesLE 32 (digestBV (sha256 (bytesLE 32 0 ++ sha256 Config.romBytes))).toNat ++
        sha256 (Config.fuseImage s.fuse.pmin s.fuse.pmax s.fuse.win s.fuse.outw))))

/-- R50, R51, R56, R367 (spec 03, 15): the source of MAIN. REF lost goes into holdover, and from it to XTAL or FREE; REF
is taken up again on its return; a crystal fault sends XTAL back to FREE and begins the substitute calendar, which the
crystal's return loads. -/
def Obligations.ClockSource : Prop := ∀ (s : State), s.inRun = true →
  (s.clk.source = .ref → s.get CLK_STAT CLK_STAT_HOLDOVER = 0 →
    Answers .refInLoss s fun t => t.get CLK_STAT CLK_STAT_REF_PRESENT = 0 ∧ t.get CLK_STAT CLK_STAT_PLL_LOCK = 0 ∧
      t.get CLK_STAT CLK_STAT_HOLDOVER = 1 ∧ t.clk.source = .ref ∧ t.raisedCode 0x03 0 ∧ EventFrame [CLK_STAT] [] s t) ∧
  (s.clk.source ≠ .ref →
    Answers .refInLoss s fun t => t.get CLK_STAT CLK_STAT_REF_PRESENT = 0 ∧ t.get CLK_STAT CLK_STAT_PLL_LOCK = 0 ∧
      t.clk.source = s.clk.source ∧ Frame [CLK_STAT] [] s t) ∧
  (s.clk.source = .ref → s.get CLK_STAT CLK_STAT_HOLDOVER = 1 →
    Answers .holdoverExpiry s fun t => t.get CLK_STAT CLK_STAT_HOLDOVER = 0 ∧
      t.clk.source = (if s.get CLK_STAT CLK_STAT_XTAL_OK = 1 then .xtal else .free) ∧ t.raisedCode 0x03 0 ∧
      EventFrame [CLK_STAT] [.clk] s t) ∧
  (s.clk.inForce = true → s.get CLK_CFG CLK_CFG_SRC = 2 → s.clk.source ≠ .ref →
    Answers .refReturn s fun t => t.clk.source = .ref ∧ t.get CLK_STAT CLK_STAT_REF_PRESENT = 1 ∧
      t.get CLK_STAT CLK_STAT_PLL_LOCK = 1 ∧ t.get CLK_STAT CLK_STAT_HOLDOVER = 0 ∧ t.raisedCode 0x03 0 ∧
      EventFrame [CLK_STAT] [.clk] s t) ∧
  Answers .pllLock s (fun t => t.get CLK_STAT CLK_STAT_REF_PRESENT = 1 ∧ t.get CLK_STAT CLK_STAT_PLL_LOCK = 1 ∧
    Frame [CLK_STAT] [] s t) ∧
  (s.clk.source = .xtal → s.get CLK_STAT CLK_STAT_XTAL_OK = 1 →
    Answers .discLock s fun t => t.get CLK_STAT CLK_STAT_DISC_LOCK = 1 ∧ Frame [CLK_STAT] [] s t) ∧
  (s.get RTC_STAT RTC_STAT_SUBST = 0 →
    Answers .crystalFault s fun t => t.get CLK_STAT CLK_STAT_XTAL_OK = 0 ∧ t.get CLK_STAT CLK_STAT_DISC_LOCK = 0 ∧
      t.get RTC_STAT RTC_STAT_SUBST = 1 ∧ t.opt.substCal = s.bak.cal ∧
      t.clk.source = (if s.clk.source = .xtal then .free else s.clk.source) ∧ t.raisedCode 0x04 0 ∧
      (s.clk.source = .xtal → t.raisedCode 0x03 0) ∧ EventFrame [CLK_STAT, RTC_STAT] [.clk, .opt] s t) ∧
  (s.get RTC_STAT RTC_STAT_SUBST = 1 →
    Answers .crystalReturn s fun t => t.bak.cal = s.opt.substCal ∧ t.bak.crystal = true ∧
      t.get RTC_STAT RTC_STAT_SUBST = 0 ∧ t.get RTC_STAT RTC_STAT_VALID = 1 ∧ t.get CLK_STAT CLK_STAT_XTAL_OK = 1 ∧
      t.clk.source = (if s.clk.inForce = true ∧ s.srcCfg ≠ .free ∧ s.clk.source = .free then .xtal
        else s.clk.source) ∧ EventFrame [CLK_STAT, RTC_STAT] [.clk, .bak] s t)

/-- R61, R62, R406 (spec 03, 16): the alignment of FRAME with the sibling and the link's cells. A follower's mark shows
its offset and lengthens the frame where it is far; 8 good marks align and 8 missing ones do not; the link comes up; a
mailbox cell out of sequence or with a wrong CRC discards its packet; a full channel H refuses a word. -/
def Obligations.SiblingLink : Prop := ∀ (s : State),
  (∀ (leader : BitVec 32) (ofs : BitVec 16), s.engines = true → s.frmRole = 2 → s.get LINK_STAT LINK_STAT_UP = 1 →
    Answers (.frameMark leader ofs) s fun t => t.get FRM_SIB FRM_SIB_OFS = ofs.toNat ∧
      t.rd FRM_SIB_DELTA = leader - BitVec.ofNat 32 s.frmNum ∧ t.clk.markSeen = true ∧ t.clk.missed = 0 ∧
      t.clk.goodMarks = (if ofs.toInt.natAbs ≤ 2 then s.clk.goodMarks + 1 else 0) ∧
      (16 < ofs.toInt.natAbs → t.clk.lengthen = (ofs.toInt % 2000).toNat ∧ t.clk.steering = false) ∧
      (ofs.toInt.natAbs ≤ 16 → s.clk.marked = true → s.clk.source ≠ .ref →
        t.clk.lengthen = s.clk.lengthen ∧ t.clk.steering = true) ∧ Frame [FRM_SIB, FRM_SIB_DELTA] [.clk] s t) ∧
  (s.engines = true → s.frmRole = 1 →
    Answers .frameMarkAtLeader s fun t => t.raisedCode 0x7E 0 ∧ EventFrame [] [] s t) ∧
  (s.engines = true → s.frmRole = 2 → 8 ≤ s.clk.goodMarks → s.get CLK_STAT CLK_STAT_FRM_ALIGNED = 0 →
    Answers .frmAlignedSet s fun t => t.get CLK_STAT CLK_STAT_FRM_ALIGNED = 1 ∧ Frame [CLK_STAT] [] s t) ∧
  (s.engines = true → s.frmRole = 2 → 8 ≤ s.clk.missed → s.clk.marksLost = false →
    Answers .frameMarksMissing s fun t => t.get CLK_STAT CLK_STAT_FRM_ALIGNED = 0 ∧ t.clk.marksLost = true ∧
      t.clk.goodMarks = 0 ∧ t.clk.steering = false ∧ t.raisedCode 0x7D 0 ∧ EventFrame [CLK_STAT] [.clk] s t) ∧
  (s.engines = true → s.get LINK_STAT LINK_STAT_UP = 0 →
    Answers (.linkUp 0xFFFF) s fun t => t.get LINK_STAT LINK_STAT_UP = 1 ∧ t.clk.marked = false ∧ t.clk.missed = 0 ∧
      Frame [LINK_STAT] [.clk] s t) ∧
  (∀ round delay : BitVec 16, s.engines = true → s.frmRole = 1 → s.get LINK_STAT LINK_STAT_UP = 1 →
    Answers (.echoReceipt round delay) s fun t =>
      t.get LINK_STAT LINK_STAT_LAT = min 255 ((round.toNat - delay.toNat) / 2) ∧ Frame [LINK_STAT] [] s t) ∧
  (∀ (ids : Word) (ar pa : BitVec 4) (al : Bool) (fi fh : BitVec 7), s.inRun = true →
    Answers (.siblingStatus ids ar pa al fi fh) s fun t => t.rd SEQ_SIB_ID = ids ∧ t.seq.sibAge = 0 ∧
      (∀ h : Fin 4, getF (t.rd SEQ_SIB_FLG) (bitF (2 * h.val)) = (if ar.getLsbD h then 1 else 0) ∧
        getF (t.rd SEQ_SIB_FLG) (bitF (2 * h.val + 1)) = (if pa.getLsbD h then 1 else 0)) ∧
      t.link = { s.link with alert := al, farIn := fi.toNat, farHost := fh.toNat } ∧
      Frame [SEQ_SIB_ID, SEQ_SIB_FLG] [.seq, .link] s t) ∧
  (∀ (seq : BitVec 4) (w : Word) (k : BitVec 12), s.inRun = true → s.layers = true →
    (seq.toNat = s.link.rspSeq → (s.link.hpart ++ [w]).length = headLen ((s.link.hpart ++ [w]).getD 0 0) + 1 →
      s.link.hrx.length + s.link.hpart.length < 64 →
      Answers (.mailboxCell true seq w true k) s fun t => t.link.hrx = s.link.hrx ++ s.link.hpart ++ [w] ∧
        t.link.hpart = [] ∧ t.link.rspSeq = (seq.toNat + 1) % 16 ∧ Frame [] [.link, .clk] s t) ∧
    (seq.toNat ≠ s.link.rspSeq →
      Answers (.mailboxCell true seq w true k) s fun t => t.link.hpart = [] ∧ t.link.hrx = s.link.hrx ∧
        t.link.rspSeq = (seq.toNat + 1) % 16 ∧ Frame [] [.link, .clk] s t) ∧
    (s.link.crcSaid = false →
      Answers (.mailboxCell true seq w false k) s fun t => t.link.hpart = [] ∧ t.link.hrx = s.link.hrx ∧
        t.link.rspSeq = (s.link.rspSeq + 1) % 16 ∧
        t.get LINK_STAT LINK_STAT_CRC_ERR = min (s.get LINK_STAT LINK_STAT_CRC_ERR + 1) (2 ^ LINK_STAT_CRC_ERR.w - 1) ∧
        t.raisedCode 0x84 2 ∧ EventFrame [LINK_STAT] [.link, .clk] s t)) ∧
  (s.inRun = true → s.link.crcSaid = false → ∀ x ∈ [CellKind.idle, .mark, .echo, .status0, .status1],
    Answers (.cellCrcError x) s fun t =>
      t.get LINK_STAT LINK_STAT_CRC_ERR = min (s.get LINK_STAT LINK_STAT_CRC_ERR + 1) (2 ^ LINK_STAT_CRC_ERR.w - 1) ∧
      t.link = { s.link with crcSaid := true } ∧ t.raisedCode 0x84 2 ∧ EventFrame [LINK_STAT] [.link] s t) ∧
  (∀ w : Word, s.burinReaches = true →
    (s.link.htx.length < 64 → Answers (.mbxHtxWrite w) s fun t => t = { s with link := { s.link with htx := s.link.htx ++ [w] } }) ∧
    (64 ≤ s.link.htx.length → Answers (.mbxHtxWrite w) s fun t => t = s))

/-- R63, R64, R70 to R73, R77, R79 (spec 03, 04): the starts. A cold start from unpowered or FROST brings RUN with the
command layers released and MR0 extended by the ROM and the fuses; the end of a D_PROC reset answers the tags that are
owed and, unless Burin is fenced, measures and runs a valid image of the slot. -/
def Obligations.Starts : Prop := ∀ (s : State),
  (∀ (a b : BitVec 12) (x : BitVec 48) (p b8 : Bool) (l : List EccRead), s.power = .unpowered ∨ s.power = .frost →
    Answers (.coldStart a b x p b8 l) s fun t => t.power = .run ∧ t.layers = true ∧ t.clk.frames = 0 ∧
      t.fuse = s.fuse ∧ (b8 = false → t.proc.mode = .rom) ∧
      (b8 = true → t.proc.mode = .firmware ∨ t.proc.mode = .recovery) ∧
      t.mr[0] = digestBV (sha256 (bytesLE 32 (digestBV (sha256 (bytesLE 32 0 ++ sha256 Config.romBytes))).toNat ++
        sha256 (Config.fuseImage s.fuse.pmin s.fuse.pmax s.fuse.win s.fuse.outw)))) ∧
  (∀ (a b : BitVec 12) (x : BitVec 48) (p b8 : Bool) (l : List EccRead), s.power = .run ∨ s.power = .standby →
    Answers (.coldStart a b x p b8 l) s fun t => t = s) ∧
  (s.inRun = true → s.layers = false →
    (∀ (b8 : Bool) (l : List EccRead), s.proc.mode = .held → Answers (.dProcRelease b8 l) s fun t => t.layers = true ∧
      (b8 = false → t.proc.mode = .rom) ∧ (b8 = true → t.proc.mode = .firmware ∨ t.proc.mode = .recovery) ∧
      t.mr[0] = s.mr[0] ∧ t.mr[2] = s.mr[2] ∧ t.mr[3] = s.mr[3]) ∧
    (∀ (b8 : Bool) (l : List EccRead), s.proc.mode = .fenced → Answers (.dProcRelease b8 l) s fun t => t.layers = true ∧
      t.proc = s.proc ∧ t.mr = s.mr ∧
      ∀ k : Fin 96, s.tags[k].st = .owed → t.tags[k].st = .answered ∧ t.raisedCode (portEsn s.tags[k].port) 1) ∧
    (s.proc.mode = .held → s.bootRec.trial = false → s.bootRec.slot < 2 → s.imageValid s.bootRec.slot = true →
      Answers (.dProcRelease true []) s fun t => t.layers = true ∧ t.proc.mode = .firmware ∧
        t.proc.fwVersion = s.imgVersion s.bootRec.slot ∧ t.get BOOT_STAT BOOT_STAT_SLOT = s.bootRec.slot ∧
        t.get BOOT_STAT BOOT_STAT_TRIAL = 0 ∧ t.get BOOT_STAT BOOT_STAT_READY = s.get BOOT_STAT BOOT_STAT_READY ∧
        t.mr[1] = digestBV (sha256 (bytesLE 32 s.mr[1].toNat ++
          sha256 (memRead s.mram.cells (slotBase s.bootRec.slot) (0x40 + s.totalLen s.bootRec.slot)))) ∧
        t.itcm = memWrite [] 0 ((s.imgBody s.bootRec.slot).take (s.itcmLen s.bootRec.slot)) ∧ t.wd.running = true ∧
        t.rd WD_SEQ = 0))

/-- R81, R84, R85 (spec 04): READY ends autonomous mode; a proof takes the next value of its counter, which the NV engine
writes to MRAM before the proof is signed, holds the body with that counter at offset 0x34 and is BUSY until it is signed; a
GO while READY is 0 and a second GO meanwhile are ignored. -/
def Obligations.ReadyAndProof : Prop := ∀ (s : State),
  (s.burinReaches = true →
    Answers .ready s (fun t => t.get BOOT_STAT BOOT_STAT_READY = 1 ∧ t.get PWR_STATE PWR_STATE_AUTON = 0 ∧
      t.raisedCode 0x15 3 ∧ EventFrame [BOOT_STAT, PWR_STATE] [] s t) ∧
    (s.get PRF_STAT PRF_STAT_BUSY = 0 → s.get BOOT_STAT BOOT_STAT_READY = 1 →
      Answers .proofGo s fun t => t.proof.counter = (s.proofCount + 1) % 2 ^ 32 ∧
        t.nv.q1 = s.nv.q1 ++ [⟨.proof t.proof.counter, [(proofPlace, BitVec.ofNat 64 t.proof.counter)], 1, 1⟩] ∧
        t.rd (PRF_BODY 13) = BitVec.ofNat 32 t.proof.counter ∧
        t.proof.digest = digestBV (sha256 (s.proofBody t.proof.counter)) ∧
        t.get PRF_STAT PRF_STAT_BUSY = 1 ∧
        Frame (PRF_STAT :: (List.range 48).map PRF_BODY) [.nv, .proof] s t) ∧
    (s.get PRF_STAT PRF_STAT_BUSY = 1 ∨ s.get BOOT_STAT BOOT_STAT_READY = 0 → Answers .proofGo s fun t => t = s)) ∧
  (s.inRun = true → s.get PRF_STAT PRF_STAT_BUSY = 1 → s.get BOOT_STAT BOOT_STAT_READY = 1 →
    s.proofCount = s.mram.proofCtr → s.mram.proofCtr = s.proof.counter →
    Answers .proofSigned s fun t => t.get PRF_STAT PRF_STAT_BUSY = 0 ∧ t.get PRF_STAT PRF_STAT_DONE = 1 ∧
      (∀ j : Fin 16, t.rd (PRF_SIG j) =
        BitVec.ofNat 32 (ofBytesLE (((proofSig (bytesLE 32 s.proof.digest.toNat) s.proof.counter).drop (4 * j.val)).take 4))) ∧
      Frame (PRF_STAT :: (List.range 16).map PRF_SIG) [] s t)

/-- R382 to R386, R391, R392, R396 to R399 (spec 16): the mailboxes. What the host and Burin read and drop, an expired
deadline, a response of Burin, the status word, the alert, and a bus timeout. -/
def Obligations.PortMailboxes : Prop := ∀ (s : State) (p : Port),
  (∀ k : Fin 96, s.inRun = true → s.layers = true → s.tags[k].st = .queued → s.tags[k].due ≤ s.clk.frames →
    s.tags[k].port = p →
    Answers (.deadlineExpiry k) s fun t => t.Answered k p s.tags[k].cls 0xE2 [] ∧ t.raisedCode (portEsn p) 1 ∧
      EventFrame (answerRegs p k) [.ports, .tags] s t) ∧
  (∀ (k : Fin 96) (w : Word), s.burinReaches = true → s.layers = true → (s.port p).tx = [] → headTag w = k.val →
    headLen w = 0 → s.tags[k].st = .queued → s.tags[k].port = p → s.clk.frames < s.tags[k].due →
    Answers (.responseWrite p (.words [w])) s fun t => t.tags[k].st = .answered ∧
      (∃ i ∈ (t.port p).out, i.tag = some k.val ∧ i.notice = false ∧ i.words.getD 0 0 = w) ∧
      Frame (answerRegs p k) [.ports, .tags] s t) ∧
  (∀ (k : Fin 96) (w : Word), s.burinReaches = true → s.layers = true → (s.port p).tx = [] → headTag w = k.val →
    headLen w = 0 → (s.tags[k].st ≠ .queued ∨ s.tags[k].port ≠ p ∨ s.tags[k].due ≤ s.clk.frames) →
    Answers (.responseWrite p (.words [w])) s fun t => t.tags = s.tags ∧ (t.port p).out = (s.port p).out ∧
      t.get (PORT_STAT p) PORT_STAT_LATE = min (s.get (PORT_STAT p) PORT_STAT_LATE + 1) (2 ^ PORT_STAT_LATE.w - 1) ∧
      Frame [PORT_STAT p, NOTE_STAT p] [.ports] s t) ∧
  (∀ (w : Word) (r : List Word), s.burinReaches = true → (s.port p).rx = w :: r →
    Answers (.mbxRxRead p) s (fun t => t.out = [w] ∧ (t.port p).rx = r ∧
      Frame [PORT_STAT p, NOTE_STAT p] [.ports, .fw, .out] s t)) ∧
  (s.burinReaches = true → (s.port p).rx = [] → (s.port p).inq = [] →
    Answers (.mbxRxRead p) s fun t => t = { s with out := [0xFFFFFFFF] }) ∧
  (s.burinReaches = true →
    Answers (.drop p) s fun t => (t.port p).rx = [] ∧ (t.port p).inq = (s.port p).inq ∧ (t.port p).out = (s.port p).out ∧
      Frame [PORT_STAT p, NOTE_STAT p] [.ports] s t) ∧
  (∀ (i : Item) (r : List Item) (k : Fin 96), s.hostReaches p = true → (s.port p).out = i :: r → i.notice = false →
    i.tag = some k.val → i.words ≠ [] →
    Answers (.responseRetrieved p) s fun t => t.out = i.words ∧ t.tags[k].st = .free ∧
      Frame (answerRegs p k) [.ports, .tags, .out, .wire] s t) ∧
  (s.transacts p = true →
    (∀ n : Fin 65, p = .c → (s.port p).out = [] → (s.port p).notes = [] →
      Answers (.mbxOut p n) s fun t => t.out = List.replicate n.val 0xFFFFFFFF ∧ t.tags = s.tags ∧
        Frame [PORT_STAT p, NOTE_STAT p] [.ports, .out, .wire] s t) ∧
    (∀ (i : Item) (r : List Item) (w v : Word) (l : List Word), s.crcPort p = true → (s.port p).out = i :: r → i.words = w :: v :: l →
      Answers (.mbxOut p 1) s fun t => t.out = [w] ∧ (t.port p).out = { i with words := v :: l, begun := true } :: r ∧
        t.tags = s.tags ∧ Frame [PORT_STAT p, NOTE_STAT p] [.ports, .out, .wire] s t) ∧
    (∀ (i : Item) (r : List Item) (k : Fin 96), (s.port p).out = i :: r → i.begun = true → i.tag = some k.val →
      (s.port p).notes = [] →
      Answers (.hostDrop p) s fun t => (t.port p).out = r ∧ t.tags[k].st = .free ∧
        Frame (answerRegs p k) [.ports, .tags] s t) ∧
    (∀ (i : Item) (r : List Item), (s.port p).out = i :: r → i.begun = false → Answers (.hostDrop p) s fun t => t = s) ∧
    Answers (.abortIn p) s (fun t => (t.port p).collect = [] ∧ (t.port p).inq = (s.port p).inq ∧
      (t.port p).out = (s.port p).out ∧ Frame [PORT_STAT p, NOTE_STAT p] [.ports] s t) ∧
    Answers (.portStatusRead p) s (fun t => ∃ w, t.out = [w] ∧
      getF w ⟨0, 7⟩ = (64 - (s.port p).inUsed) ∧ getF w ⟨8, 7⟩ = (s.port p).outUsed ∧
      getF w ⟨16, 1⟩ = s.get BOOT_STAT BOOT_STAT_READY ∧ getF w ⟨17, 1⟩ = s.get PWR_STATE PWR_STATE_AUTON ∧
      t.wire = bytesLE 4 w.toNat ∧ Frame [] [.out, .wire] s t) ∧
    (∀ (bs : List Byte) (k : BitVec 12), p = .a ∨ p = .b → s.crcPort p = false → bs.length % 4 = 0 →
      Answers (.mbxIn p bs false k) s fun t =>
        t.ports = s.ports ∧ t.raisedCode (portEsn p) 2 ∧ EventFrame [] [.clk] s t) ∧
    (∀ (w : Word) (ok : Bool) (k : BitVec 12), (s.port p).inUsed < 64 → (s.port p).collect = [] → (s.port p).missed = 0 → (s.port p).bad = false →
      0 < headLen w → headLen w ≤ 62 → p = .c → Answers (.mbxIn p (bytesLE 4 w.toNat) ok k) s fun t =>
        (t.port p).collect = [w] ∧ (t.port p).inq = (s.port p).inq ∧ t.tags = s.tags ∧
        Frame [PORT_STAT p, NOTE_STAT p] [.ports, .clk] s t) ∧
    (p = .a ∨ p = .b →
      Answers (.mbxAgain p) s (fun t => t.out = (s.port p).again ∧ Frame [] [.out, .wire] s t) ∧
      ((s.port p).out ≠ [] → Answers (.alertResponse p) s fun t =>
        t.out = [BitVec.ofNat 32 (2 * s.get (PORT_ADDR p) PORT_ADDR_ADDR)] ∧ Frame [] [.out, .wire] s t) ∧
      ∀ ms : BitVec 8, min 35 (max 1 (s.get (PORT_TIM p) PORT_TIM_STO)) ≤ ms.toNat →
        Answers (.busTimeout p ms) s (fun t => (t.port p).collect = [] ∧ t.get (PORT_STAT p) PORT_STAT_BUS_TO = 1 ∧
          t.raisedCode (portEsn p) 3 ∧ EventFrame [PORT_STAT p, NOTE_STAT p] [.ports] s t)))

/-- R403 to R405 (spec 16): the alarm link. A read of 1 to 125 listed registers answers their words, high byte first; of
none or more than 125 it answers exception 3, and where it reaches an unlisted register exception 2; a write of an
acknowledge register acknowledges its ESNs, and of any other register answers exception 2; a damaged request is counted and
raised once in its frame; another code answers exception 1; a request for another address is ignored. -/
def Obligations.AlarmLink : Prop := ∀ (s : State), s.dlAnswers = true →
  (s.dlReg 0 = some 0x6416 ∧ (∀ a : Nat, 0x36 ≤ a → a < 0x40 → s.dlReg a = none) ∧ ∀ a : Nat, 0x61 ≤ a → s.dlReg a = none) ∧
  (∀ (input : Bool) (a n : BitVec 16),
    (1 ≤ n.toNat → n.toNat ≤ 125 → (∀ k : Nat, k < n.toNat → s.dlReg (a.toNat + k) ≠ none) →
      Answers (.modbusReadRegisters input a n) s fun t =>
        (∀ k : Nat, k < n.toNat → t.out[k]? = (s.dlReg (a.toNat + k)).map (BitVec.ofNat 32)) ∧ t.out.length = n.toNat ∧
        t.get DL_STAT DL_STAT_REQS = min (s.get DL_STAT DL_STAT_REQS + 1) (2 ^ DL_STAT_REQS.w - 1) ∧
        t.wire.length = 2 * n.toNat + 5 ∧ Frame [DL_STAT] [.out, .wire, .freeCtr] s t) ∧
    (n.toNat = 0 ∨ 125 < n.toNat → Answers (.modbusReadRegisters input a n) s fun t =>
      t.out = [0x80000003] ∧ Frame [DL_STAT] [.out, .wire] s t) ∧
    (1 ≤ n.toNat → n.toNat ≤ 125 → (∃ k : Nat, k < n.toNat ∧ s.dlReg (a.toNat + k) = none) →
      Answers (.modbusReadRegisters input a n) s fun t =>
        t.out = [0x80000002] ∧ Frame [DL_STAT] [.out, .wire] s t)) ∧
  (∀ a v : BitVec 16,
    (0x40 ≤ a.toNat → a.toNat ≤ 0x4F → Answers (.modbusWriteAcknowledge a v) s fun t =>
      (∀ n : Nat, n ∈ t.acks ↔ n ∈ s.acks ∨ ∃ b : Fin 16, v.getLsbD b = true ∧ n = 16 * (a.toNat - 0x40) + b.val) ∧
      t.out = [BitVec.ofNat 32 a.toNat, BitVec.ofNat 32 v.toNat] ∧ Frame [DL_STAT] [.out, .wire, .acks] s t) ∧
    (a.toNat < 0x40 ∨ 0x4F < a.toNat → Answers (.modbusWriteAcknowledge a v) s fun t =>
      t.out = [0x80000002] ∧ Frame [DL_STAT] [.out, .wire] s t)) ∧
  Answers (.modbusBadRequest .damaged) s (fun t =>
    t.get DL_STAT DL_STAT_ERRS = min (s.get DL_STAT DL_STAT_ERRS + 1) (2 ^ DL_STAT_ERRS.w - 1) ∧ t.aux.dlSaid = true ∧
    t.out = s.out ∧ (s.aux.dlSaid = false → t.raisedCode 0x83 2) ∧ EventFrame [DL_STAT] [.aux] s t) ∧
  (∀ fc : BitVec 8, Answers (.modbusBadRequest (.otherCode fc)) s (fun t =>
    t.out = [0x80000001] ∧ Frame [DL_STAT] [.out, .wire] s t)) ∧
  Answers (.modbusBadRequest .otherAddr) s (fun t => t = s)

/-- R401 (spec 16): AUX. GO, while no transfer runs, starts one of at most 32 bytes each way, with the bytes of AUX_DATA in
order; during a transfer it changes nothing. A transfer ends completed, with no acknowledge, after TRIES lost
arbitrations, or with a line held low for STO; the bytes it read lie in AUX_DATA, and the end says how. -/
def Obligations.AuxBus : Prop := ∀ (s : State),
  (∀ (a : BitVec 7) (w r : BitVec 8), s.burinReaches = true →
    (s.get AUX_STAT AUX_STAT_BUSY = 0 → Answers (.auxGo a w r) s fun t => t.get AUX_STAT AUX_STAT_BUSY = 1 ∧
      t.get AUX_STAT AUX_STAT_NACK = 0 ∧ t.get AUX_STAT AUX_STAT_ARB = 0 ∧ t.get AUX_STAT AUX_STAT_TIMEOUT = 0 ∧
      t.aux = { s.aux with addr := a.toNat, wlen := min 32 w.toNat, rlen := min 32 r.toNat } ∧
      t.wire.length = min 32 w.toNat ∧ Frame [AUX_STAT] [.aux, .wire] s t) ∧
    (s.get AUX_STAT AUX_STAT_BUSY = 1 → Answers (.auxGo a w r) s fun t => t = s)) ∧
  (∀ (n : Fin 33) (bs : Vector (BitVec 8) 32), s.inRun = true → s.get AUX_STAT AUX_STAT_BUSY = 1 →
    (s.aux.rlen ≤ 32 → Answers (.auxTransferEnd .completed n bs) s fun t => t.get AUX_STAT AUX_STAT_BUSY = 0 ∧
      t.get AUX_STAT AUX_STAT_DONE = 1 ∧
      (∀ j : Fin 32, getF (t.rd (AUX_DATA (j.val / 4))) ⟨8 * (j.val % 4), 8⟩ =
        (if j.val < s.aux.rlen then bs[j].toNat else getF (s.rd (AUX_DATA (j.val / 4))) ⟨8 * (j.val % 4), 8⟩)) ∧
      Frame (AUX_STAT :: (List.range 8).map AUX_DATA) [] s t) ∧
    (Answers (.auxTransferEnd .nack n bs) s fun t => t.get AUX_STAT AUX_STAT_BUSY = 0 ∧
      t.get AUX_STAT AUX_STAT_DONE = 1 ∧ t.get AUX_STAT AUX_STAT_NACK = 1 ∧
      Frame (AUX_STAT :: (List.range 8).map AUX_DATA) [] s t) ∧
    (∀ lost : BitVec 4, lost.toNat = max 1 (s.get AUX_CFG AUX_CFG_TRIES) →
      Answers (.auxTransferEnd (.arbitration lost) n bs) s fun t => t.get AUX_STAT AUX_STAT_BUSY = 0 ∧
        t.get AUX_STAT AUX_STAT_DONE = 1 ∧ t.get AUX_STAT AUX_STAT_ARB = 1 ∧ t.raisedCode 0x85 1 ∧
        EventFrame (AUX_STAT :: (List.range 8).map AUX_DATA) [] s t) ∧
    (∀ ms : BitVec 8, min 35 (max 1 (s.get AUX_CFG AUX_CFG_STO)) ≤ ms.toNat →
      Answers (.auxTransferEnd (.timeout ms) n bs) s fun t => t.get AUX_STAT AUX_STAT_BUSY = 0 ∧
        t.get AUX_STAT AUX_STAT_DONE = 1 ∧ t.get AUX_STAT AUX_STAT_TIMEOUT = 1 ∧ t.raisedCode 0x85 2 ∧
        EventFrame (AUX_STAT :: (List.range 8).map AUX_DATA) [] s t))

/-- R83, R442 to R449 (spec 04, 18): keys, unlock windows and protected writes. A first key waits for its
second, which opens a window of UNL_T; a second one without a first, a locked part, and a write outside an open window are
refused with R447's code; an accepted write extends MR2 with its address and value. -/
def Obligations.UnlockWindows : Prop := ∀ (s : State), s.burinReaches = true →
  (∀ b : BitVec 5, b.toNat ≤ 16 →
    Answers (.firstKey b) s (fun t => (s.actSrc, b.toNat) ∈ t.sys.keys ∧ t.sys.window = s.sys.window ∧
      (∀ k ∈ t.sys.keys, k.1 = s.actSrc → k.2 = b.toNat) ∧ (∀ k ∈ s.sys.keys, k.1 ≠ s.actSrc → k ∈ t.sys.keys) ∧
      Frame [] [.sys] s t) ∧
    (s.keyWaits s.actSrc b.toNat = true → s.get SYS_PROT SYS_PROT_LOCK = 0 →
      (s.get SYS_PROT SYS_PROT_SRC_EN).testBit s.actSrc = true → s.windowOther s.actSrc = false →
      Answers (.unlock b) s fun t =>
        t.sys.window = some ⟨s.actSrc, b.toNat, s.opt.ms + 10 * max 1 (s.get SYS_PROT SYS_PROT_UNL_T)⟩ ∧
        t.get SYS_UNL_STAT SYS_UNL_STAT_OPEN = 1 ∧ t.get SYS_UNL_STAT SYS_UNL_STAT_SRC = s.actSrc ∧
        t.get SYS_UNL_STAT SYS_UNL_STAT_BLOCK = b.toNat ∧ (∀ k ∈ t.sys.keys, k.1 ≠ s.actSrc) ∧
        Frame [SYS_UNL_STAT] [.sys] s t) ∧
    (s.keyWaits s.actSrc b.toNat = true → s.get SYS_PROT SYS_PROT_LOCK = 1 →
      Answers (.unlock b) s fun t => t.sys.window = s.sys.window ∧ t.get SYS_UNL_STAT SYS_UNL_STAT_REFUSED = 1 ∧
        t.raisedCode 0x86 3 ∧ EventFrame [SYS_UNL_STAT] [.sys] s t) ∧
    (s.keyWaits s.actSrc b.toNat = false →
      Answers (.unlock b) s fun t => t.sys.window = s.sys.window ∧ t.get SYS_UNL_STAT SYS_UNL_STAT_REFUSED = 1 ∧
        t.raisedCode 0x86 5 ∧ EventFrame [SYS_UNL_STAT] [.sys] s t)) ∧
  (∀ w : Window, s.sys.window = some w →
    (w.src = s.actSrc → Answers .close s fun t => t.sys.window = none ∧ t.get SYS_UNL_STAT SYS_UNL_STAT_OPEN = 0 ∧
      t.get SYS_UNL_STAT SYS_UNL_STAT_LEFT = 0 ∧ Frame [SYS_UNL_STAT] [.sys] s t) ∧
    (w.src ≠ s.actSrc → Answers .close s fun t => t.sys.window = some w ∧ Frame [] [.sys] s t) ∧
    (w.until_ ≤ s.opt.ms → Answers .unlockWindowExpiry s fun t => t.sys.window = none ∧
      t.get SYS_UNL_STAT SYS_UNL_STAT_OPEN = 0 ∧ t.sys.keys = s.sys.keys ∧ Frame [SYS_UNL_STAT] [.sys] s t)) ∧
  (∀ a v : Word, isProtected a.toNat = true →
    (s.get SYS_PROT SYS_PROT_LOCK = 1 → Answers (.protectedWrite a v) s fun t =>
      t.get SYS_UNL_STAT SYS_UNL_STAT_REFUSED = 1 ∧ t.raisedCode 0x86 3 ∧ EventFrame [SYS_UNL_STAT] [.sys] s t) ∧
    (s.get SYS_PROT SYS_PROT_LOCK = 0 → s.windowNow = none → Answers (.protectedWrite a v) s fun t =>
      t.get SYS_UNL_STAT SYS_UNL_STAT_REFUSED = 1 ∧ t.raisedCode 0x86 1 ∧ EventFrame [SYS_UNL_STAT] [.sys] s t) ∧
    (∀ w : Window, s.get SYS_PROT SYS_PROT_LOCK = 0 → s.windowNow = some w →
      (w.src ≠ s.actSrc ∨ blockOf a.toNat ≠ some w.block) → Answers (.protectedWrite a v) s fun t =>
      t.get SYS_UNL_STAT SYS_UNL_STAT_REFUSED = 1 ∧ t.raisedCode 0x86 2 ∧ EventFrame [SYS_UNL_STAT] [.sys] s t)) ∧
  (∀ (c : Instr) (block code : Nat),
    ((block = 12 ∧ ∃ (i : Fin 64) (v : Word), c = .labelWrite i v) ∨
      (block = 12 ∧ ∃ (i : Fin 6144) (v : Word), c = .stencilStoreWrite i v) ∨
      (block = 10 ∧ ∃ (i : Fin 160) (k : Fin 5) (v : Word), c = .contextWrite i k v) ∨
      (block = 14 ∧ ∃ v : BitVec 8, c = .rtcTrimWrite v) ∨ (block = 2 ∧ ∃ n : BitVec 8, c = .forceRaise n)) →
    s.protBlocked s.actSrc block = some code → Answers c s fun t =>
      t.get SYS_UNL_STAT SYS_UNL_STAT_REFUSED = 1 ∧ t.raisedCode 0x86 code ∧ EventFrame [SYS_UNL_STAT] [] s t) ∧
  (∀ (m : Fin 4) (v : Word) (u : Nat), s.get SYS_PROT SYS_PROT_LOCK = 0 → s.sys.window = some ⟨s.actSrc, 5, u⟩ →
    s.opt.ms < u → Answers (.protectedWrite (BitVec.ofNat 32 (LOOP_PROT m)) v) s fun t => t.rd (LOOP_PROT m) = v ∧
      t.mr[2] = digestBV (sha256 (bytesLE 32 s.mr[2].toNat ++ sha256 (bytesLE 4 (LOOP_PROT m) ++ bytesLE 4 v.toNat))) ∧
      t.sys.window = some ⟨s.actSrc, 5, s.opt.ms + 10 * max 1 (s.get SYS_PROT SYS_PROT_UNL_T)⟩ ∧ t.raisedCode 0x15 4 ∧
      EventFrame [LOOP_PROT m, SYS_UNL_STAT, mrCnt 2] [.mr, .sys] s t) ∧
  (∀ a v : Word,
    (s.actSrc = 0 → 0x20000000 ≤ a.toNat → a.toNat < 0x20020000 → Answers (.registerWrite a v) s fun t =>
      memWord t.dtcm (a.toNat - 0x20000000) = v.toNat ∧
      (∀ b, b < a.toNat - 0x20000000 ∨ a.toNat - 0x20000000 + 4 ≤ b → memByte t.dtcm b = memByte s.dtcm b) ∧
      Frame [] [.dtcm] s t) ∧
    (a.toNat = SEQ_FLAG_SET → Answers (.registerWrite a v) s fun t =>
      t.rd SEQ_FLAGS = s.rd SEQ_FLAGS ||| v ∧ Frame [SEQ_FLAGS] [] s t) ∧
    (s.actSrc ≠ 0 → blockOf a.toNat = none → Answers (.registerWrite a v) s fun t => t = s)) ∧
  (∀ v : BitVec 3,
    (s.actSrc = 0 → Answers (.sysActWrite v) s fun t => t.get SYS_ACT SYS_ACT_SRC = v.toNat ∧ Frame [SYS_ACT] [] s t) ∧
    (s.actSrc ≠ 0 → v = 0 → Answers (.sysActWrite v) s fun t => t.get SYS_ACT SYS_ACT_SRC = 0 ∧ Frame [SYS_ACT] [] s t) ∧
    (s.actSrc ≠ 0 → v ≠ 0 → Answers (.sysActWrite v) s fun t => t = s)) ∧
  (∀ x : Session, s.fw.cfg = some x → x.last + 60000 ≤ s.opt.ms → s.fw.img = none →
    Answers .sessionTimeout s fun t => t = { s with fw := { s.fw with cfg := none } })

/-- R264, with R83, R247, R444 and R448 (spec 10, 18): a write of the stencil store inside its open window extends MR3 by the
step and the word; the store takes the word while every thread is IDLE and the word passes R247, and otherwise leaves the
step, sets WR_IGN and raises ESN 0x7F with code 0x03. Without a window the write is refused. -/
def Obligations.StencilStore : Prop := ∀ (s : State) (i : Fin 6144) (v : Word), s.burinReaches = true →
  s.get SYS_PROT SYS_PROT_LOCK = 0 →
  (s.sys.window = none → Answers (.stencilStoreWrite i v) s fun t =>
    t.get SYS_UNL_STAT SYS_UNL_STAT_REFUSED = 1 ∧ t.raisedCode 0x86 1 ∧ EventFrame [SYS_UNL_STAT] [] s t) ∧
  (∀ u : Nat, s.sys.window = some ⟨s.actSrc, 12, u⟩ → s.opt.ms < u →
    ((∀ h : Fin 4, s.thState h = thIdle) → stepOk v = true → Answers (.stencilStoreWrite i v) s fun t =>
      t.rd (STEP i) = stepHeld v ∧ t.raisedCode 0x15 4 ∧
      t.mr[3] = digestBV (sha256 (bytesLE 32 s.mr[3].toNat ++ sha256 (bytesLE 4 i.val ++ bytesLE 4 v.toNat))) ∧
      EventFrame [STEP i, SYS_UNL_STAT, mrCnt 3] [.mr, .sys] s t) ∧
    ((∃ h : Fin 4, s.thState h ≠ thIdle) ∨ stepOk v = false → Answers (.stencilStoreWrite i v) s fun t =>
      t.rd (STEP i) = s.rd (STEP i) ∧ t.get SEQ_STAT SEQ_STAT_WR_IGN = 1 ∧ t.raisedCode 0x7F 3 ∧
      t.mr[3] = digestBV (sha256 (bytesLE 32 s.mr[3].toNat ++ sha256 (bytesLE 4 i.val ++ bytesLE 4 v.toNat))) ∧
      EventFrame [SEQ_STAT, SYS_UNL_STAT, mrCnt 3] [.mr, .sys] s t))

/-- R57, R58, R61 (spec 03): a tick of FRAME. The frame number advances and shows in FRM_NUM; without a loaded
configuration the engines stay at rest, and the registers are latched as they stand. -/
def Obligations.FrameTick : Prop := ∀ (s : State) (x : FrameIn),
  (s.inRun = true → s.clk.cfgCopy = none → s.fw.acts = [] → s.flt.fenced = [] →
    Answers (.frameTick x) s fun t => t.clk.frames = s.clk.frames + 1 ∧
      t.rd FRM_NUM = BitVec.ofNat 32 (s.clk.frames + 1) ∧ t.snap.regs = t.regs ∧ t.snap.mr = t.mr ∧
      t.clk.inForce = true ∧ t.clk.lengthen = 0 ∧ t.power = s.power ∧
      t.phases = s.phases ∧ t.feeds = s.feeds ∧ t.chg = s.chg ∧ t.mram = s.mram ∧ t.fuse = s.fuse) ∧
  (s.inRun = false → Answers (.frameTick x) s fun t => t = s)

/-- R416, R419, R422, R423, R425 to R431, R434, R436 (spec 17): the host commands that read. One that the firmware executes
next from a port that may issue it is answered with status 0 and the words its row names, and changes nothing but its
packet, its tag and its answer; a payload of the wrong form is answered 0x01. -/
def Obligations.HostQueries : Prop := ∀ (s : State) (c : HostCmd) (k : Fin 96),
  (s.permitted portsABCE c.port = true →
    (c.payload = [] → ∀ q ∈ [
      (Instr.identify c, 0x00, [(0x6416 : Word), s.live BOOT_STAT, BitVec.ofNat 32 s.proc.fwVersion,
        BitVec.ofNat 32 Config.deviceId, BitVec.ofNat 32 (Config.deviceId / 2 ^ 32), s.live PWR_CYCLES]),
      (.status c, 0x01, [PWR_STATE, FLT_STAT, TH_STAT, PATH_STAT, CHG_STAT, SEQ_STAT, GG_SOC, RTC_STAT].map s.live),
      (.threadStatus c, 0x33, [SEQ_STAT, SEQ_THR_STAT 0, SEQ_THR_STAT 1, SEQ_THR_STAT 2, SEQ_THR_STAT 3].map s.live),
      (.chargeStatus c, 0x39, [CHG_STAT, CHG_TIME, CHG_IIN, PATH_STAT, PATH_V, GG_I].map s.live),
      (.gaugeRead c, 0x40, [GG_SOC, GG_FCC, GG_HEALTH, GG_TIME, GG_EFLAGS, GG_STAT, GG_Q, GG_VPACK, GG_REST_AGE].map s.live),
      (.gaugeCells c, 0x42, ((List.range 8).map GG_CELL ++ [GG_CELL_EXT, GG_CELL_STAT]).map s.live),
      (.plateInfo c, 0x48, ([PLATE_STAT, PLATE_SEQ, PLATE_WPTR, PLATE_CHAIN] ++ (List.range 5).map PLATE_SEVCNT ++
        (List.range 5).map PLATE_DROP).map s.live),
      (.certRead c, 0x62, wordsLE 34 (memRead s.mram.cells certPlace 136))],
      s.Front q.2.1 c k → Answers q.1 s fun t => t.Answered k c.port s.tags[k].cls 0 q.2.2 ∧
        Frame (answerRegs c.port k) answerParts s t) ∧
    (c.payload ≠ [] → s.Front 0x00 c k → Answers (.identify c) s fun t => t.Answered k c.port s.tags[k].cls 0x01 [] ∧
      Frame (answerRegs c.port k) answerParts s t) ∧
    (c.payload = [] → s.Front 0x50 c k → Answers (.rtcRead c) s fun t =>
      t.Answered k c.port s.tags[k].cls 0 [s.live RTC_STAT, BitVec.ofNat 32 (s.calendar / 256), rtcSecHi s.calendar,
        BitVec.ofNat 32 s.opt.ms, BitVec.ofNat 32 (s.opt.ms / 2 ^ 32), s.live RTC_SWO_CNT] ∧
      t.opt.calLatch = some s.calendar ∧ t.opt.optLatch = some s.opt.ms ∧ t.opt.ms = s.opt.ms ∧
      Frame (answerRegs c.port k) (.opt :: answerParts) s t) ∧
    (∀ w : Word, c.payload = [w] →
      (w &&& ~~~0xFFFF = 0 → 1 ≤ getF w ⟨8, 8⟩ → getF w ⟨8, 8⟩ ≤ 54 → getF w ⟨0, 8⟩ + getF w ⟨8, 8⟩ ≤ 256 →
        s.Front 0x12 c k → Answers (.faultRead c) s fun t =>
        t.Answered k c.port s.tags[k].cls 0 ((List.range 8).map (fun i => s.live (FLT_STICKY i)) ++
          (List.range (getF w ⟨8, 8⟩)).map (fun i => s.live (FLT_INFO (getF w ⟨0, 8⟩ + i)))) ∧
        Frame (answerRegs c.port k) answerParts s t) ∧
      (256 < getF w ⟨0, 8⟩ + getF w ⟨8, 8⟩ → s.Front 0x12 c k → Answers (.faultRead c) s fun t =>
        t.Answered k c.port s.tags[k].cls 0x01 [] ∧ Frame (answerRegs c.port k) answerParts s t) ∧
      (∀ m : Fin 4, w.toNat = m.val → s.Front 0x23 c k → Answers (.railStatus c) s fun t =>
        t.Answered k c.port s.tags[k].cls 0 ([LOOP_STAT m, LOOP_VSET m, LOOP_V m, LOOP_IW m].map s.live) ∧
        Frame (answerRegs c.port k) answerParts s t) ∧
      (∀ r : Fin 14, w.toNat = 0x10 + r.val → s.Front 0x23 c k → Answers (.railStatus c) s fun t =>
        t.Answered k c.port s.tags[k].cls 0 ([REG_STAT r, REG_VSET r, REG_V r, REG_I r].map s.live) ∧
        Frame (answerRegs c.port k) answerParts s t) ∧
      (w &&& ~~~0xFF = 0 → railOf w.toNat = none → s.Front 0x23 c k → Answers (.railStatus c) s fun t =>
        t.Answered k c.port s.tags[k].cls 0x02 [] ∧ Frame (answerRegs c.port k) answerParts s t) ∧
      (∀ n : Fin 983040, w.toNat = 2 ^ 24 + n.val → s.Front 0x49 c k → Answers (.plateRead c []) s fun t =>
        t.Answered k c.port s.tags[k].cls 0
          (BitVec.ofNat 32 (s.get PLATE_WPTR PLATE_WPTR_SLOT + if slotValid (s.slotBytes n) then 2 ^ 29 else 0) ::
            (List.range 16).map (fun j => BitVec.ofNat 32 (memWord s.mram.cells (plateBase + 64 * n.val + 4 * j)))) ∧
        Frame (answerRegs c.port k) answerParts s t) ∧
      (∀ (n : Fin 983040) (l : List EccRead), w.toNat = 2 ^ 24 + n.val → s.Front 0x49 c k →
        Answers (.plateRead c l) s fun t => t.Answered k c.port s.tags[k].cls 0 ((s.eccFlip l).plateWords w) ∧
          EventFrame (NV_STAT :: answerRegs c.port k) (.mram :: .nv :: answerParts) s t) ∧
      (s.rd (PRF_BODY 13) = w → s.get PRF_STAT PRF_STAT_BUSY = 0 → s.Front 0x61 c k →
        Answers (.proofSig c) s fun t => t.Answered k c.port s.tags[k].cls 0 ((List.range 16).map fun j => s.live (PRF_SIG j)) ∧
          Frame (answerRegs c.port k) answerParts s t) ∧
      (s.rd (PRF_BODY 13) ≠ w → s.Front 0x61 c k →
        Answers (.proofSig c) s fun t => t.Answered k c.port s.tags[k].cls 0x0A [] ∧
          Frame (answerRegs c.port k) answerParts s t) ∧
      (0x60000000 ≤ w.toNat → w.toNat < 0x64000000 → s.Front 0x78 c k → Answers (.regRead c []) s fun t =>
        t.Answered k c.port s.tags[k].cls 0 [BitVec.ofNat 32 (memWord s.mram.cells (w.toNat - 0x60000000))] ∧
        Frame (SYS_ACT :: answerRegs c.port k) answerParts s t) ∧
      (∀ l : List EccRead, 0x60000000 ≤ w.toNat → w.toNat < 0x64000000 → s.Front 0x78 c k → Answers (.regRead c l) s fun t =>
        t.Answered k c.port s.tags[k].cls 0
          [BitVec.ofNat 32 (memWord (s.eccFlip l).mram.cells (w.toNat - 0x60000000))] ∧
        EventFrame (NV_STAT :: SYS_ACT :: answerRegs c.port k) (.mram :: .nv :: answerParts) s t) ∧
      (blockOf w.toNat = none → w.toNat < 0x60000000 ∨ 0x64000000 ≤ w.toNat → s.Front 0x78 c k →
        Answers (.regRead c []) s fun t => t.Answered k c.port s.tags[k].cls 0x0B [0xFFFFFFFF] ∧
          Frame (SYS_ACT :: answerRegs c.port k) answerParts s t))) ∧
  (s.permitted portsABC c.port = true → c.payload = [] → s.Front 0x6B c k → Answers (.cfgInfo c) s fun t =>
    t.Answered k c.port s.tags[k].cls 0 [s.live BOOT_STAT, if s.cfgHeaderOk 0 then s.cfgWord 0 1 else 0,
      if s.cfgHeaderOk 1 then s.cfgWord 1 1 else 0] ∧ Frame (answerRegs c.port k) answerParts s t)

/-- R423, R424 (spec 17): the commands of rails. An enable or a disable of a rail writes its enable, and a setpoint its
code, at once, and the answer waits for the tick; while a shutdown runs they are answered 0x05, and of a reserved rail
0x02; PHASE_SUBST asks for the substitution. -/
def Obligations.HostRails : Prop := ∀ (s : State) (c : HostCmd) (k : Fin 96) (w : Word), c.payload = [w] →
  (s.permitted portsABC c.port = true →
    (s.shuttingDown = false → s.flt.fenced = [] →
      (∀ r : Fin 14, w.toNat = 0x10 + r.val → s.get (REG_CTL r) REG_CTL_EN = 0 → s.Front 0x20 c k →
        Answers (.railEnable c) s fun t => t.get (REG_CTL r) REG_CTL_EN = 1 ∧ t.regul[r].pendEn = some true ∧
          t.regul[r].askAt = s.clk.frames ∧ s.Defers t k (.rail (0x10 + r.val) true) ∧
          Frame (REG_CTL r :: answerRegs c.port k) (.regul :: answerParts) s t) ∧
      (∀ m : Fin 4, w.toNat = m.val → s.get (LOOP_CTL m) LOOP_CTL_EN = 1 → s.Front 0x21 c k →
        Answers (.railDisable c) s fun t => t.loops[m].pendEn = some false ∧
          t.loops[m].askAt = s.clk.frames ∧ s.Defers t k (.rail m.val false) ∧
          Frame (answerRegs c.port k) (.loops :: answerParts) s t) ∧
      (∀ (m : Fin 4) (code : Nat), w.toNat = code * 2 ^ 16 + m.val → code < 4096 →
        s.get (LOOP_VLIM m) LOOP_VLIM_VMIN ≤ code → code ≤ s.get (LOOP_VLIM m) LOOP_VLIM_VMAX → s.Front 0x22 c k →
        Answers (.railSetV c) s fun t => t.get (LOOP_VSET m) LOOP_VSET_CODE = code ∧ t.loops[m].askAt = s.clk.frames ∧
          s.Defers t k (.setV m.val false) ∧ Frame (LOOP_VSET m :: answerRegs c.port k) (.loops :: answerParts) s t) ∧
      (∀ (r : Fin 14) (code : Nat), w.toNat = code * 2 ^ 16 + 0x10 + r.val → code < 4096 → regKind r ≠ .sw →
        code ≤ (regKind r).top → s.Front 0x22 c k →
        Answers (.railSetV c) s fun t => t.get (REG_VSET r) REG_VSET_CODE = code ∧ t.regul[r].askAt = s.clk.frames ∧
          s.Defers t k (.setV (0x10 + r.val) false) ∧
          Frame (REG_VSET r :: answerRegs c.port k) (.regul :: answerParts) s t)) ∧
    (s.shuttingDown = true → ∀ r : Fin 14, w.toNat = 0x10 + r.val →
      ∀ q ∈ [(Instr.railEnable c, 0x20), (.railDisable c, 0x21)], s.Front q.2 c k →
        Answers q.1 s fun t => t.Answered k c.port s.tags[k].cls 0x05 [] ∧ Frame (answerRegs c.port k) answerParts s t) ∧
    (w &&& ~~~0xFF = 0 → railOf w.toNat = none →
      ∀ q ∈ [(Instr.railEnable c, 0x20), (.railDisable c, 0x21), (.railSetV c, 0x22)], s.Front q.2 c k →
        Answers q.1 s fun t => t.Answered k c.port s.tags[k].cls 0x02 [] ∧ Frame (answerRegs c.port k) answerParts s t)) ∧
  (s.permitted portsABC c.port = false →
    ∀ q ∈ [(Instr.railEnable c, 0x20), (.railDisable c, 0x21), (.railSetV c, 0x22)], s.Front q.2 c k →
      Answers q.1 s fun t => t.Answered k c.port s.tags[k].cls 0x03 [] ∧ Frame (answerRegs c.port k) answerParts s t) ∧
  (∀ n : Fin 16, s.permitted portsC c.port = true → w.toNat = n.val → s.Front 0x24 c k →
    Answers (.phaseSubst c) s fun t => t.phases[n].substReq = true ∧ t.phases[n].askAt = s.clk.frames ∧
      t.phases[n].substIgn = false ∧ s.Defers t k (.subst n) ∧ Frame (answerRegs c.port k) (.phases :: answerParts) s t)

/-- R417, R418, R421, R422, R425, R426, R428, R429 (spec 17): the commands that act on the part. RESTART and STANDBY are
answered and act later; a command from a port that may not issue it is answered 0x03; FUSE_WD programs a fuse once; the
others write their register at once and are answered by what it shows later. -/
def Obligations.HostService : Prop := ∀ (s : State) (c : HostCmd) (k : Fin 96),
  (s.permitted portsABC c.port = true →
    (c.payload = [0x0000A55A] → s.Front 0x02 c k → Answers (.restart c) s fun t =>
      t.Answered k c.port s.tags[k].cls 0 [] ∧ t.fw.acts = s.fw.acts ++ [(false, k.val, s.clk.frames + 50)] ∧
      Frame (answerRegs c.port k) answerParts s t) ∧
    (c.payload = [] → s.standbyReady = true → s.Front 0x03 c k → Answers (.standby c) s fun t =>
      t.Answered k c.port s.tags[k].cls 0 [] ∧ t.fw.acts = s.fw.acts ++ [(true, k.val, s.clk.frames + 50)] ∧
      Frame (answerRegs c.port k) answerParts s t) ∧
    (c.payload = [] → s.standbyReady = false → s.Front 0x03 c k → Answers (.standby c) s fun t =>
      t.Answered k c.port s.tags[k].cls 0x05 [] ∧ t.fw.acts = s.fw.acts ∧ Frame (answerRegs c.port k) answerParts s t) ∧
    (∀ n : Fin 256, c.payload = (List.range 8).map (fun i => if i = n.val / 32 then 1#32 <<< (n.val % 32) else 0) →
      s.clearIgnored n = false → s.Front 0x13 c k → Answers (.faultClear c) s fun t =>
      t.get (FLT_STICKY (n.val / 32)) (bitF (n.val % 32)) = 0 ∧ t.get (FLT_INFO n) FLT_INFO_COUNT = 0 ∧
      t.Answered k c.port s.tags[k].cls 0 ((List.range 8).map fun i => t.live (FLT_STICKY i)) ∧
      Frame (FLT_STICKY (n.val / 32) :: FLT_INFO n :: answerRegs c.port k) (.acks :: answerParts) s t) ∧
    (∀ lo hi : Word, c.payload = [lo, hi] → hi &&& 0xFF000000 = 0 → setSeconds c.payload ≤ 6311433599 → s.Front 0x51 c k →
      Answers (.rtcSet c) s fun t => t.rd RTC_SET_LO = lo ∧ t.rd RTC_SET_HI = hi ∧
        t.opt.setCross = some (256 * setSeconds c.payload + getF hi RTC_SET_HI_SUB) ∧ s.Defers t k .rtcSet ∧
        Frame (RTC_SET_LO :: RTC_SET_HI :: answerRegs c.port k) (.opt :: answerParts) s t) ∧
    (∀ a b : Word, c.payload = [a, b] → s.Front 0x32 c k → Answers (.seqFlags c) s fun t =>
      t.rd SEQ_FLAGS = (s.rd SEQ_FLAGS &&& ~~~b) ||| a ∧ s.Defers t k .flags ∧
      Frame (SEQ_FLAGS :: answerRegs c.port k) answerParts s t) ∧
    (∀ w : Word, c.payload = [w] →
      (w &&& ~~~0x01FFFFFF = 0 → s.Front 0x53 c k → Answers (.rtcWake c) s fun t =>
        t.get RTC_WAKE RTC_WAKE_PERIOD = w.toNat ∧ s.Defers t k .rtcWake ∧
        Frame (RTC_WAKE :: answerRegs c.port k) (.bak :: answerParts) s t) ∧
      (w &&& ~~~0xFFFF = 0 → s.get PLATE_STAT PLATE_STAT_SNAP_BUSY = 0 → s.Front 0x4A c k →
        Answers (.plateSnapshot c) s fun t => t.plate.snapCmd = some w.toNat ∧ t.plate.snapAt = s.clk.frames ∧
          s.Defers t k .snapshot ∧ Frame (answerRegs c.port k) (.plate :: answerParts) s t) ∧
      (w &&& ~~~0xFFFF = 0 → s.get PLATE_STAT PLATE_STAT_SNAP_BUSY = 1 → s.Front 0x4A c k →
        Answers (.plateSnapshot c) s fun t => t.Answered k c.port s.tags[k].cls 0x04 [] ∧
          Frame (answerRegs c.port k) answerParts s t) ∧
      (1 ≤ w.toNat → w.toNat ≤ 5 → s.chgAccepts w.toNat = true ∨ s.chgForced w.toNat = true → s.Front 0x38 c k → Answers (.charge c) s fun t =>
        t.chg.cmd = some w.toNat ∧ t.chg.askAt = s.clk.frames ∧ s.Defers t k .charge ∧
        Frame (answerRegs c.port k) (.chg :: answerParts) s t) ∧
      (1 ≤ w.toNat → w.toNat ≤ 5 → s.chgAccepts w.toNat = false → s.chgForced w.toNat = false → s.Front 0x38 c k → Answers (.charge c) s fun t =>
        t.Answered k c.port s.tags[k].cls 0x05 [] ∧ Frame (answerRegs c.port k) answerParts s t) ∧
      (∀ (h : Fin 4) (l : Fin 64), w.toNat = h.val + 2 ^ 8 * l.val + 2 ^ 15 → s.Front 0x30 c k →
        Answers (.threadStart c) s fun t => t.seq.thr[h].cmd = some (1, some l.val) ∧ t.seq.thr[h].askAt = s.clk.frames ∧
          s.Defers t k (.thread h) ∧ Frame (answerRegs c.port k) (.seq :: answerParts) s t) ∧
      (∀ h : Fin 4, w.toNat = h.val → s.Front 0x31 c k →
        Answers (.threadStop c) s fun t => t.seq.thr[h].cmd = some (2, none) ∧ t.seq.thr[h].askAt = s.clk.frames ∧
          s.Defers t k (.thread h) ∧ Frame (answerRegs c.port k) (.seq :: answerParts) s t) ∧
      (∀ (q : Fin 2) (n : Fin 50), w.toNat = q.val + 2 ^ 8 * n.val → s.urgentFree q = none → s.Front 0x11 c k →
        Answers (.adcUrgent c) s fun t => t.Answered k c.port s.tags[k].cls 0x04 [] ∧
          Frame (answerRegs c.port k) answerParts s t) ∧
      (∀ (q : Fin 2) (n : Fin 50) (j : Fin 8), w.toNat = q.val + 2 ^ 8 * n.val → s.urgentFree q = some j →
        s.adcRuns = false ∨ s.seqServed q = false → s.Front 0x11 c k →
        Answers (.adcUrgent c) s fun t => t.Answered k c.port s.tags[k].cls 0x05 [] ∧
          Frame (answerRegs c.port k) answerParts s t) ∧
      (∀ (q : Fin 2) (n : Fin 50) (j : Fin 8), w.toNat = q.val + 2 ^ 8 * n.val → s.urgentFree q = some j →
        s.adcRuns = true → s.seqServed q = true → s.adc.seqs[q].urgent < 8 → s.Front 0x11 c k →
        Answers (.adcUrgent c) s fun t => t.get (ADC_URG q j) ADC_URG_PEND = 1 ∧
          t.get (ADC_URG q j) ADC_URG_INPUT = n.val ∧ t.get ADC_URG_DONE (bitF (8 * q.val + j.val)) = 0 ∧
          t.adc.seqs[q].urgent = s.adc.seqs[q].urgent + 1 ∧ s.Defers t k (.urgent q j) ∧
          Frame (ADC_URG q j :: ADC_URG_DONE :: answerRegs c.port k) (.adc :: .freeCtr :: answerParts) s t))) ∧
  (s.permitted portsC c.port = true →
    (c.payload = [] → s.Front 0x52 c k → Answers (.rtcClearSwo c) s fun t => t.opt.swoCross = true ∧
      t.Answered k c.port s.tags[k].cls 0 [] ∧ Frame (answerRegs c.port k) (.opt :: answerParts) s t) ∧
    (∀ w : Word, c.payload = [w] →
      (w.toNat ≤ 1 → s.Front 0x41 c k → Answers (.gaugeMode c) s fun t =>
        t.get GG_CTL GG_CTL_COMMISSION = w.toNat ∧ s.Defers t k .gaugeMode ∧
        Frame (GG_CTL :: answerRegs c.port k) answerParts s t) ∧
      (∀ (f : Fin 4) (v : Fin 1024), w.toNat = v.val + 2 ^ 16 * f.val + 2 ^ 24 * 0xF5 → s.Front 0x04 c k →
        (s.fuse.fits v f = true → s.fuse.field f = none → Answers (.fuseWd c) s fun t =>
          t.fuse = s.fuse.program v f ∧
          t.Answered k c.port s.tags[k].cls 0 [s.live (if f.val < 2 then WD_FUSE0 else WD_FUSE1)] ∧
          Frame (answerRegs c.port k) (.fuse :: answerParts) s t) ∧
        (s.fuse.fits v f = true → s.fuse.field f ≠ none → Answers (.fuseWd c) s fun t =>
          t.Answered k c.port s.tags[k].cls 0x0D [] ∧ Frame (answerRegs c.port k) answerParts s t) ∧
        (s.fuse.fits v f = false → Answers (.fuseWd c) s fun t =>
          t.Answered k c.port s.tags[k].cls 0x01 [] ∧ Frame (answerRegs c.port k) answerParts s t)))) ∧
  (s.permitted portsC c.port = false → ∀ q ∈ [(Instr.fuseWd c, 0x04), (.gaugeMode c, 0x41), (.rtcClearSwo c, 0x52)],
    s.Front q.2 c k → Answers q.1 s fun t => t.Answered k c.port s.tags[k].cls 0x03 [] ∧
      Frame (answerRegs c.port k) answerParts s t)

/-- R432 to R434, R437 (spec 17): configuration and image sessions. BEGIN opens the session of its port and starts the
erase of the target; WRITE queues its data for the NV engine; VERIFY answers whether the target passes; ACTIVATE writes the
boot-select record of a verified image and ends the session. Without a session a command is answered 0x05, and in a session
of another port 0x04. -/
def Obligations.HostSessions : Prop := ∀ (s : State) (c : HostCmd) (k : Fin 96), s.permitted portsC c.port = true →
  (c.payload = [] → s.get NV_JRNL_STAT NV_JRNL_STAT_ACTIVE = 0 → s.openSession s.fw.cfg = none → s.Front 0x68 c k →
    Answers (.cfgBegin c) s fun t => t.fw.cfg = some ⟨c.port, s.cfgTarget, s.opt.ms, none⟩ ∧
      t.get NV_JRNL_BASE NV_JRNL_BASE_SECTOR = cfgBase s.cfgTarget / 4096 ∧ t.get NV_JRNL_LEN NV_JRNL_LEN_LEN = 64 ∧
      t.get NV_JRNL_STAT NV_JRNL_STAT_ACTIVE = 1 ∧ s.Defers t k (.begun (some s.cfgTarget)) ∧
      Frame (NV_STAT :: NV_JRNL_BASE :: NV_JRNL_LEN :: NV_JRNL_DONE :: NV_JRNL_STAT :: answerRegs c.port k)
        (.nv :: answerParts) s t) ∧
  (∀ w : Word, c.payload = [w] → w.toNat ≤ 1 → s.get NV_JRNL_STAT NV_JRNL_STAT_ACTIVE = 0 → s.openSession s.fw.img = none →
    s.Front 0x70 c k →
    (s.proc.mode = .recovery ∨ s.get BOOT_STAT BOOT_STAT_SLOT ≠ w.toNat →
      Answers (.imgBegin c) s fun t => t.fw.img = some ⟨c.port, w.toNat, s.opt.ms, none⟩ ∧
        t.get NV_JRNL_BASE NV_JRNL_BASE_SECTOR = 256 * w.toNat ∧ t.get NV_JRNL_LEN NV_JRNL_LEN_LEN = 256 ∧
        t.get NV_JRNL_STAT NV_JRNL_STAT_ACTIVE = 1 ∧ s.Defers t k (.begun none) ∧
        Frame (NV_STAT :: NV_JRNL_BASE :: NV_JRNL_LEN :: NV_JRNL_DONE :: NV_JRNL_STAT :: answerRegs c.port k)
          (.nv :: answerParts) s t) ∧
    (s.proc.mode ≠ .recovery → s.get BOOT_STAT BOOT_STAT_SLOT = w.toNat →
      Answers (.imgBegin c) s fun t => t.Answered k c.port s.tags[k].cls 0x05 [] ∧ t.fw.img = s.fw.img ∧
        Frame (answerRegs c.port k) answerParts s t)) ∧
  (∀ off lo hi : Word, c.payload = [off, lo, hi] → off.toNat % 8 = 0 →
    (off.toNat + 8 ≤ 262144 → s.Front 0x69 c k → ∀ x : Session, s.openSession s.fw.cfg = some x → x.port = c.port →
      Answers (.cfgWrite c) s fun t =>
        t.nv.q4 = s.nv.q4 ++ [⟨.words, [(cfgBase x.target + off.toNat, BitVec.ofNat 64 (lo.toNat + 2 ^ 32 * hi.toNat))], 1, 1⟩] ∧
        t.fw.cfg = some { x with last := s.opt.ms, ok := none } ∧ s.Defers t k .written ∧
        Frame (NV_STAT :: answerRegs c.port k) (.nv :: answerParts) s t) ∧
    (off.toNat + 8 ≤ 1048576 → s.Front 0x71 c k → ∀ x : Session, s.openSession s.fw.img = some x → x.port = c.port →
      Answers (.imgWrite c) s fun t =>
        t.nv.q4 = s.nv.q4 ++ [⟨.words, [(slotBase x.target + off.toNat, BitVec.ofNat 64 (lo.toNat + 2 ^ 32 * hi.toNat))], 1, 1⟩] ∧
        t.fw.img = some { x with last := s.opt.ms, ok := none } ∧ s.Defers t k .written ∧
        Frame (NV_STAT :: answerRegs c.port k) (.nv :: answerParts) s t) ∧
    (off.toNat + 8 ≤ 262144 → s.openSession s.fw.cfg = none → s.Front 0x69 c k → Answers (.cfgWrite c) s fun t =>
      t.Answered k c.port s.tags[k].cls 0x05 [] ∧ Frame (answerRegs c.port k) answerParts s t)) ∧
  (c.payload = [] → s.Front 0x6A c k →
    (∀ x : Session, s.openSession s.fw.cfg = some x → x.port = c.port → s.cfgPasses x.target = true →
      Answers (.cfgVerify c []) s fun t =>
        t.Answered k c.port s.tags[k].cls 0 [s.cfgWord x.target 1, s.cfgWord x.target 2] ∧
        t.fw.cfg = some { x with last := s.opt.ms, ok := some (s.cfgSeq x.target) } ∧
        Frame (answerRegs c.port k) answerParts s t) ∧
    (∀ x : Session, s.openSession s.fw.cfg = some x → x.port = c.port → s.cfgPasses x.target = false →
      Answers (.cfgVerify c []) s fun t => t.Answered k c.port s.tags[k].cls 0x09 [] ∧
        t.fw.cfg = some { x with last := s.opt.ms, ok := none } ∧ Frame (answerRegs c.port k) answerParts s t) ∧
    (∀ x : Session, s.openSession s.fw.cfg = some x → x.port ≠ c.port →
      Answers (.cfgVerify c []) s fun t => t.Answered k c.port s.tags[k].cls 0x04 [] ∧ t.fw.cfg = some x ∧
        Frame (answerRegs c.port k) answerParts s t)) ∧
  (∀ (l : List EccRead) (x : Session), c.payload = [] → s.Front 0x6A c k → s.openSession s.fw.cfg = some x → x.port = c.port →
    Answers (.cfgVerify c l) s fun t => t.fw.cfg = some { x with
        last := s.opt.ms,
        ok := (if (s.eccFlip l).cfgPasses x.target = true then some ((s.eccFlip l).cfgSeq x.target) else none) } ∧
      EventFrame (NV_STAT :: answerRegs c.port k) (.mram :: .nv :: answerParts) s t) ∧
  (∀ (l : List EccRead) (x : Session), c.payload = [] → s.Front 0x72 c k → s.openSession s.fw.img = some x → x.port = c.port →
    Answers (.imgVerify c l) s fun t => t.fw.img = some { x with
        last := s.opt.ms,
        ok := (if (s.eccFlip l).imageValid x.target = true then some ((s.eccFlip l).imgVersion x.target) else none) } ∧
      EventFrame (NV_STAT :: answerRegs c.port k) (.mram :: .nv :: answerParts) s t) ∧
  (c.payload = [] → s.Front 0x72 c k →
    (∀ x : Session, s.openSession s.fw.img = some x → x.port = c.port → s.imageValid x.target = true →
      Answers (.imgVerify c []) s fun t =>
        t.Answered k c.port s.tags[k].cls 0 (BitVec.ofNat 32 (s.imgVersion x.target) :: wordsLE 8 (s.imgDigest x.target)) ∧
        t.fw.img = some { x with last := s.opt.ms, ok := some (s.imgVersion x.target) } ∧
        Frame (answerRegs c.port k) answerParts s t) ∧
    (∀ x : Session, s.openSession s.fw.img = some x → x.port = c.port → s.imageValid x.target = false →
      Answers (.imgVerify c []) s fun t => t.Answered k c.port s.tags[k].cls 0x09 [] ∧
        t.fw.img = some { x with last := s.opt.ms, ok := none } ∧ Frame (answerRegs c.port k) answerParts s t)) ∧
  (∀ (w : Word) (x : Session), c.payload = [w] → s.Front 0x73 c k → s.openSession s.fw.img = some x → x.port = c.port →
    (x.ok = some w.toNat →
      Answers (.imgActivate c) s fun t =>
        (∃ r : BootRec, r = ⟨(s.bootRec.seq + 1 + s.bootWaits) % 2 ^ 32, x.target, true, 0⟩ ∧
          t.nv.q1 = s.nv.q1 ++ [recordJob (.boot (if s.proc.mode = .recovery then .rom else .firmware) r)
            (bootRing + 64 * ((s.mram.bootAt + 1 + s.bootWaits) % 1024)) r.bytes]) ∧ t.fw.img = none ∧
        s.Defers t k .activated ∧ t.fw.acts = s.fw.acts ∧ Frame (answerRegs c.port k) (.nv :: answerParts) s t) ∧
    (x.ok ≠ some w.toNat →
      Answers (.imgActivate c) s fun t => t.Answered k c.port s.tags[k].cls 0x05 [] ∧
        t.fw.img = some { x with last := s.opt.ms } ∧ Frame (answerRegs c.port k) answerParts s t))

/-- R431 (spec 17): PROOF. With four words it writes the nonce and begins a proof, one at a time: a second one waits in
its FIFO; the answer waits for the signature. Another length is answered 0x01. -/
def Obligations.ProofCommand : Prop := ∀ (s : State) (c : HostCmd) (k : Fin 96), s.permitted portsABCE c.port = true →
  s.Front 0x60 c k →
  (∀ a b d e : Word, c.payload = [a, b, d, e] → s.proofBusy = false → s.get BOOT_STAT BOOT_STAT_READY = 1 →
    Answers (.proof c) s fun t => t.rd (PRF_NONCE 0) = a ∧ t.rd (PRF_NONCE 1) = b ∧
      t.rd (PRF_NONCE 2) = d ∧ t.rd (PRF_NONCE 3) = e ∧ t.get PRF_STAT PRF_STAT_BUSY = 1 ∧
      t.proof.counter = (s.proofCount + 1) % 2 ^ 32 ∧ t.rd (PRF_BODY 13) = BitVec.ofNat 32 t.proof.counter ∧
      t.nv.q1 = s.nv.q1 ++ [⟨.proof t.proof.counter, [(proofPlace, BitVec.ofNat 64 t.proof.counter)], 1, 1⟩] ∧
      s.Defers t k .proof ∧
      Frame (PRF_STAT :: (List.range 4).map PRF_NONCE ++ (List.range 48).map PRF_BODY ++ answerRegs c.port k)
        (.nv :: .proof :: answerParts) s t) ∧
  (c.payload.length = 4 → s.proofBusy = true → Answers (.proof c) s fun t => t = s) ∧
  (c.payload.length ≠ 4 → Answers (.proof c) s fun t => t.Answered k c.port s.tags[k].cls 0x01 [] ∧
    Frame (answerRegs c.port k) answerParts s t)

/-- R436, with R442 to R447 (spec 17, 18): REG_WRITE. Its pairs are written in order as accesses of its port's source, and
the answer counts them; a pair that names SYS_ACT or that the write protection refuses ends it with 0x06, one at an
unmapped address with 0x0B, with the pairs before it made. A payload that is no list of pairs is answered 0x01, a port that
may not write registers 0x03. -/
def Obligations.RegWriteCommand : Prop := ∀ (s : State) (c : HostCmd) (k : Fin 96), s.Front 0x79 c k →
  (s.permitted portsABC c.port = true →
    (∀ l rest : List Word, l.length ≤ 31 →
      (c.payload = l.flatMap (fun v => [BitVec.ofNat 32 SEQ_FLAG_SET, v]) → l ≠ [] → Answers (.regWrite c) s fun t =>
        t.rd SEQ_FLAGS = l.foldl (· ||| ·) (s.rd SEQ_FLAGS) ∧ t.get SYS_ACT SYS_ACT_SRC = 0 ∧
        t.Answered k c.port s.tags[k].cls 0 [BitVec.ofNat 32 l.length] ∧
        Frame (SEQ_FLAGS :: SYS_ACT :: answerRegs c.port k) answerParts s t) ∧
      (∀ a v : Word, c.payload = l.flatMap (fun v => [BitVec.ofNat 32 SEQ_FLAG_SET, v]) ++ a :: v :: rest →
        c.payload.length ≤ 62 → rest.length % 2 = 0 →
        (a.toNat = SYS_ACT → Answers (.regWrite c) s fun t =>
          t.rd SEQ_FLAGS = l.foldl (· ||| ·) (s.rd SEQ_FLAGS) ∧ t.get SYS_ACT SYS_ACT_SRC = 0 ∧
          t.Answered k c.port s.tags[k].cls 0x06 [BitVec.ofNat 32 l.length] ∧
          Frame (SEQ_FLAGS :: SYS_ACT :: answerRegs c.port k) answerParts s t) ∧
        (blockOf a.toNat = none → Answers (.regWrite c) s fun t =>
          t.rd SEQ_FLAGS = l.foldl (· ||| ·) (s.rd SEQ_FLAGS) ∧ t.get SYS_ACT SYS_ACT_SRC = 0 ∧
          t.Answered k c.port s.tags[k].cls 0x0B [BitVec.ofNat 32 l.length] ∧
          Frame (SEQ_FLAGS :: SYS_ACT :: answerRegs c.port k) answerParts s t) ∧
        (∀ (m : Fin 4) (code : Nat), a.toNat = LOOP_PROT m → s.protBlocked (portSrc c.port) 5 = some code →
          Answers (.regWrite c) s fun t => t.rd (LOOP_PROT m) = s.rd (LOOP_PROT m) ∧
            t.get SYS_UNL_STAT SYS_UNL_STAT_REFUSED = 1 ∧ t.raisedCode 0x86 code ∧
            t.Answered k c.port s.tags[k].cls 0x06 [BitVec.ofNat 32 l.length] ∧
            EventFrame (SEQ_FLAGS :: SYS_ACT :: SYS_UNL_STAT :: answerRegs c.port k) answerParts s t))) ∧
    (∀ (m : Fin 4) (v : Word), c.payload = [BitVec.ofNat 32 (LOOP_PROT m), v] →
      s.protBlocked (portSrc c.port) 5 = none → Answers (.regWrite c) s fun t => t.rd (LOOP_PROT m) = v ∧
        t.get SYS_ACT SYS_ACT_SRC = 0 ∧ t.Answered k c.port s.tags[k].cls 0 [1] ∧
        EventFrame (LOOP_PROT m :: SYS_ACT :: SYS_UNL_STAT :: mrCnt 2 :: answerRegs c.port k)
          (.sys :: .mr :: answerParts) s t) ∧
    (c.payload.length < 2 ∨ 62 < c.payload.length ∨ c.payload.length % 2 = 1 → Answers (.regWrite c) s fun t =>
      t.Answered k c.port s.tags[k].cls 0x01 [] ∧ Frame (answerRegs c.port k) answerParts s t)) ∧
  (s.permitted portsABC c.port = false → Answers (.regWrite c) s fun t =>
    t.Answered k c.port s.tags[k].cls 0x03 [] ∧ Frame (answerRegs c.port k) answerParts s t)

/-- R401, R435 (spec 16, 17): AUX_XFER starts one transfer at a time, with its address, its lengths and its bytes; while
one runs it is answered 0x04, a payload of the wrong form 0x01, and a port that may not use AUX 0x03. -/
def Obligations.AuxCommand : Prop := ∀ (s : State) (c : HostCmd) (k : Fin 96), s.Front 0x80 c k →
  (s.permitted portsABC c.port = true →
    (auxOk c.payload = true → s.get AUX_STAT AUX_STAT_BUSY = 0 → Answers (.auxXfer c) s fun t =>
      t.get AUX_STAT AUX_STAT_BUSY = 1 ∧ t.get AUX_STAT AUX_STAT_DONE = 0 ∧
      t.aux = { s.aux with addr := getF (c.payload.getD 0 0) ⟨0, 7⟩, wlen := getF (c.payload.getD 0 0) ⟨8, 8⟩,
                           rlen := getF (c.payload.getD 0 0) ⟨16, 8⟩ } ∧
      (∀ j : Fin 8, j.val + 1 < c.payload.length → t.rd (AUX_DATA j) = c.payload.getD (j.val + 1) 0) ∧
      s.Defers t k .aux ∧
      Frame (AUX_STAT :: (List.range 8).map AUX_DATA ++ answerRegs c.port k) (.aux :: .wire :: answerParts) s t) ∧
    (auxOk c.payload = true → s.get AUX_STAT AUX_STAT_BUSY = 1 → Answers (.auxXfer c) s fun t =>
      t.Answered k c.port s.tags[k].cls 0x04 [] ∧ Frame (answerRegs c.port k) answerParts s t) ∧
    (auxOk c.payload = false → Answers (.auxXfer c) s fun t =>
      t.Answered k c.port s.tags[k].cls 0x01 [] ∧ Frame (answerRegs c.port k) answerParts s t)) ∧
  (s.permitted portsABC c.port = false → Answers (.auxXfer c) s fun t =>
    t.Answered k c.port s.tags[k].cls 0x03 [] ∧ Frame (answerRegs c.port k) answerParts s t)

/-- R389, R390, R419 (spec 16, 17): TELEM_READ, which the port hardware executes as it arrives. It is answered with the
latched word of every address; with 0x0B and 0xFFFF_FFFF in the place of each address that telemetry does not reach; with
0x01 for no address. One that fails a check of admission takes no tag. -/
def Obligations.TelemRead : Prop := ∀ (s : State) (c : HostCmd) (k : Fin 96), s.hostReaches c.port = true →
  c.tag.toNat = k.val → (s.port c.port).collect = [] → (s.port c.port).missed = 0 →
  (s.port c.port).inUsed + c.payload.length < 64 → c.payload.length ≤ 62 →
  (s.admission c.port ((cmdPacket codeTelemRead c).getD 0 0) true = none →
    (∀ l : List EccRead, c.payload ≠ [] → Answers (.telemRead c l) s fun t =>
      t.Answered k c.port c.cls.toNat
        (if c.payload.all (fun a => domainOf a.toNat = some Domain.dPwr ∨ domainOf a.toNat = some Domain.dBak) then 0 else 0x0B)
        (c.payload.map fun a => if domainOf a.toNat = some Domain.dPwr ∨ domainOf a.toNat = some Domain.dBak
          then s.latched a.toNat else 0xFFFFFFFF) ∧
      t.tags[k].port = c.port ∧ t.fw = { s.fw with admitted := s.fw.admitted + 1 } ∧
      EventFrame (NV_STAT :: answerRegs c.port k) (.mram :: .nv :: answerParts) s t ∧
      (l = [] → Frame (answerRegs c.port k) answerParts s t)) ∧
    (∀ l : List EccRead, c.payload = [] → Answers (.telemRead c l) s fun t =>
      t.Answered k c.port c.cls.toNat 0x01 [] ∧ Frame (answerRegs c.port k) answerParts s t)) ∧
  (∀ (st : Nat) (l : List EccRead), s.admission c.port ((cmdPacket codeTelemRead c).getD 0 0) true = some st →
    Answers (.telemRead c l) s fun t => t.tags = s.tags ∧
      (∃ i ∈ (t.port c.port).out, i.tag = none ∧ i.words.getD 0 0 = header st k c.cls.toNat 0) ∧
      (l = [] → Frame [PORT_STAT c.port, NOTE_STAT c.port] [.ports] s t))

/-- R330, R389, R420 (spec 13, 16, 17): WD_CHECKIN, which the port hardware executes as it arrives. While the watchdog
stands, or with a wrong key, it checks no slot in; in a period it sets the bit of the slot that its port owns; either way it
is answered with DONE and the sequence. A payload that is not one word is answered 0x01. -/
def Obligations.WdCheckinCommand : Prop := ∀ (s : State) (c : HostCmd) (k : Fin 96) (at_ : BitVec 12),
  s.hostReaches c.port = true → c.tag.toNat = k.val → (s.port c.port).collect = [] → (s.port c.port).missed = 0 →
  (s.port c.port).inUsed + c.payload.length < 64 → c.payload.length ≤ 62 →
  (s.admission c.port ((cmdPacket codeWdCheckin c).getD 0 0) true = none →
    (∀ w : Word, c.payload = [w] → s.wd.running = false → Answers (.wdCheckin c at_) s fun t =>
      t.Answered k c.port c.cls.toNat 0 [s.checkinWord] ∧ Frame (answerRegs c.port k) (.clk :: answerParts) s t) ∧
    (∀ w : Word, c.payload = [w] → s.wd.running = true → (s.clockAt at_.toNat).wdElapsed < s.wdLimit →
      (getF w ⟨16, 16⟩ ≠ 0x5A3C → Answers (.wdCheckin c at_) s fun t => t.get WD_STAT WD_STAT_IGN = 1 ∧
        t.get WD_STAT WD_STAT_DONE = s.get WD_STAT WD_STAT_DONE ∧ t.raisedCode 0x19 1 ∧
        t.Answered k c.port c.cls.toNat 0 [t.checkinWord] ∧
        EventFrame (WD_STAT :: answerRegs c.port k) (.clk :: answerParts) s t) ∧
      (getF w ⟨16, 16⟩ = 0x5A3C → getF w ⟨0, 8⟩ < 16 → s.wd.enabled.testBit (getF w ⟨0, 8⟩) = true →
        ownerIn s.wd.own0 s.wd.own1 (getF w ⟨0, 8⟩) = c.port.idx + 1 →
        (s.get WD_STAT WD_STAT_DONE).testBit (getF w ⟨0, 8⟩) = false → getF w ⟨8, 8⟩ = (s.rd WD_SEQ).toNat % 256 →
        (windowAt s.wd.period (s.get WD_FUSE1 WD_FUSE1_WIN) : Int) ≤ (s.clockAt at_.toNat).wdElapsed →
        Answers (.wdCheckin c at_) s fun t =>
          t.get WD_STAT WD_STAT_DONE = s.get WD_STAT WD_STAT_DONE + 2 ^ getF w ⟨0, 8⟩ ∧
          t.Answered k c.port c.cls.toNat 0 [t.checkinWord] ∧
          Frame (WD_STAT :: answerRegs c.port k) (.clk :: answerParts) s t)) ∧
    (c.payload.length ≠ 1 → Answers (.wdCheckin c at_) s fun t =>
      t.Answered k c.port c.cls.toNat 0x01 [] ∧ Frame (answerRegs c.port k) (.clk :: answerParts) s t)) ∧
  (∀ st : Nat, s.admission c.port ((cmdPacket codeWdCheckin c).getD 0 0) true = some st →
    Answers (.wdCheckin c at_) s fun t => t.tags = s.tags ∧
      (∃ i ∈ (t.port c.port).out, i.tag = none ∧ i.words.getD 0 0 = header st k c.cls.toNat 0) ∧
      Frame [PORT_STAT c.port, NOTE_STAT c.port] [.ports, .clk] s t)
end

