-- ==== Sys2Proof/Laws/Canon.lean ====
section
/-! SUPPORT. Sparse storage: reading what was written, and the canonical form that every write keeps; the byte laws of
MRAM and of the code and data memories follow. -/
namespace Sys2Proof.Machine
-- the proofs of this file are elaborated one after another, not each in a thread of its own
set_option Elab.async false

variable {α : Type} [DecidableEq α] (d : Nat → α)

/-! ### Reading -/

omit [DecidableEq α] in
theorem lookupD_eraseAt (l : List (Nat × α)) (k j : Nat) :
    lookupD d (eraseAt k l) j = if j = k then d k else lookupD d l j := by
  induction l with
  | nil => by_cases h : j = k <;> simp [eraseAt, lookupD, h]
  | cons p r ih =>
    obtain ⟨a, w⟩ := p
    by_cases ha : a = k
    · subst ha
      by_cases hj : j = a
      · simpa [eraseAt, hj] using ih
      · simp [eraseAt, lookupD, ih, hj, Ne.symm hj]
    · by_cases hj : a = j
      · subst hj; simp [eraseAt, lookupD, ha]
      · simp [eraseAt, lookupD, ha, hj, ih]

omit [DecidableEq α] in
theorem lookupD_insertAt (l : List (Nat × α)) (k j : Nat) (v : α) (hk : ∀ p ∈ l, p.1 ≠ k) :
    lookupD d (insertAt k v l) j = if j = k then v else lookupD d l j := by
  induction l with
  | nil => by_cases h : j = k <;> simp [insertAt, lookupD, h, Ne.symm]
  | cons p r ih =>
    obtain ⟨a, w⟩ := p
    have hr := ih (fun q hq => hk q (List.mem_cons_of_mem _ hq))
    have ha : a ≠ k := hk (a, w) List.mem_cons_self
    by_cases hlt : k < a
    · by_cases hj : j = k
      · simp [insertAt, lookupD, hlt, hj]
      · simp [insertAt, lookupD, hlt, hj, Ne.symm hj]
    · by_cases hj : a = j
      · subst hj; simp [insertAt, lookupD, hlt, ha]
      · simp [insertAt, lookupD, hlt, hj, hr]

omit [DecidableEq α] in
theorem eraseAt_eq_filter (l : List (Nat × α)) (k : Nat) : eraseAt k l = l.filter (fun p => decide (p.1 ≠ k)) := by
  induction l with
  | nil => rfl
  | cons p r ih => obtain ⟨a, w⟩ := p; by_cases ha : a = k <;> simp [eraseAt, ha, ih]

omit [DecidableEq α] in
theorem eraseAt_ne (l : List (Nat × α)) (k : Nat) : ∀ p ∈ eraseAt k l, p.1 ≠ k := by
  intro p hp
  rw [eraseAt_eq_filter] at hp
  simpa using (List.mem_filter.mp hp).2

/-- A read gives what was last written to the key, and every other key reads as before. -/
theorem lookupD_writeD (l : List (Nat × α)) (k j : Nat) (v : α) :
    lookupD d (writeD d l k v) j = if j = k then v else lookupD d l j := by
  unfold writeD
  split
  · rename_i h; rw [lookupD_eraseAt, ← h]
  · rw [lookupD_insertAt d _ _ _ _ (eraseAt_ne l k), lookupD_eraseAt]
    by_cases hj : j = k <;> simp [hj]

/-! ### The canonical form -/

/-- The canonical form as two facts: keys strictly rise, and no entry equals what an unlisted key holds. -/
theorem canonD_iff (l : List (Nat × α)) :
    canonD d l = true ↔ l.Pairwise (fun p q => p.1 < q.1) ∧ ∀ p ∈ l, p.2 ≠ d p.1 := by
  induction l with
  | nil => simp [canonD]
  | cons p r ih =>
    obtain ⟨a, v⟩ := p
    cases r with
    | nil => simp [canonD]
    | cons q t =>
      obtain ⟨b, w⟩ := q
      have hc : canonD d ((a, v) :: (b, w) :: t) = (decide (a < b) && decide (v ≠ d a) && canonD d ((b, w) :: t)) := rfl
      rw [hc, Bool.and_eq_true, Bool.and_eq_true, decide_eq_true_eq, decide_eq_true_eq, ih]
      simp only [List.pairwise_cons, List.mem_cons, forall_eq_or_imp]
      constructor
      · rintro ⟨⟨hab, hv⟩, ⟨hb, ht⟩, hw, hn⟩
        exact ⟨⟨⟨hab, fun x hx => Nat.lt_trans hab (hb x hx)⟩, hb, ht⟩, hv, hw, hn⟩
      · rintro ⟨⟨⟨hab, _⟩, hb, ht⟩, hv, hw, hn⟩
        exact ⟨⟨hab, hv⟩, ⟨hb, ht⟩, hw, hn⟩

/-- A canonical form without some of its entries is canonical. -/
theorem canonD_filter (l : List (Nat × α)) (p : Nat × α → Bool) (h : canonD d l = true) : canonD d (l.filter p) = true := by
  rw [canonD_iff] at h ⊢
  exact ⟨h.1.filter _, fun q hq => h.2 q (List.mem_filter.mp hq).1⟩

omit [DecidableEq α] in
theorem mem_insertAt (l : List (Nat × α)) (k : Nat) (v : α) (q : Nat × α) :
    q ∈ insertAt k v l ↔ q = (k, v) ∨ q ∈ l := by
  induction l with
  | nil => simp [insertAt]
  | cons p r ih =>
    obtain ⟨a, w⟩ := p
    by_cases h : k < a
    · simp [insertAt, h]
    · simp only [insertAt, h, if_false, List.mem_cons, ih]; exact or_left_comm

theorem canonD_insertAt (l : List (Nat × α)) (k : Nat) (v : α) (h : canonD d l = true) (hk : ∀ p ∈ l, p.1 ≠ k)
    (hv : v ≠ d k) : canonD d (insertAt k v l) = true := by
  rw [canonD_iff] at h ⊢
  refine ⟨?_, fun q hq => ?_⟩
  · induction l with
    | nil => simp [insertAt]
    | cons p r ih =>
      obtain ⟨a, w⟩ := p
      have h1 := List.pairwise_cons.mp h.1
      by_cases hlt : k < a
      · simp only [insertAt, hlt, if_true, List.pairwise_cons]
        refine ⟨fun q hq => ?_, h1⟩
        rcases List.mem_cons.mp hq with rfl | hq
        · exact hlt
        · exact Nat.lt_trans hlt (h1.1 q hq)
      · have hak : a < k := by
          have := hk (a, w) List.mem_cons_self
          dsimp at this; omega
        simp only [insertAt, hlt, if_false, List.pairwise_cons]
        refine ⟨fun q hq => ?_, ih ⟨h1.2, fun q hq => h.2 q (List.mem_cons_of_mem _ hq)⟩
          (fun q hq => hk q (List.mem_cons_of_mem _ hq))⟩
        rcases (mem_insertAt r k v q).mp hq with rfl | hq
        · exact hak
        · exact h1.1 q hq
  · rcases (mem_insertAt l k v q).mp hq with rfl | hq
    · exact hv
    · exact h.2 q hq

/-- A write keeps the canonical form. -/
theorem canonD_writeD (l : List (Nat × α)) (k : Nat) (v : α) (h : canonD d l = true) : canonD d (writeD d l k v) = true := by
  unfold writeD
  split
  · rw [eraseAt_eq_filter]; exact canonD_filter d l _ h
  · refine canonD_insertAt d _ k v ?_ (eraseAt_ne l k) ‹_›
    rw [eraseAt_eq_filter]; exact canonD_filter d l _ h

/-! ### Bytes of a memory -/

/-- A byte reads as it was last written, and every other byte as before. -/
theorem memByte_memSet (m : List Host.Cell) (a k : Nat) (b : Byte) :
    memByte (memSet m a b) k = if k = a then b else memByte m k := lookupD_writeD blankByte m a k b

/-- A write of bytes keeps the canonical form. -/
theorem memWrite_wf (m : List Host.Cell) (a : Nat) (l : List Byte) (h : Memory.wf m = true) :
    Memory.wf (memWrite m a l) = true := by
  induction l generalizing m a with
  | nil => exact h
  | cons b r ih => exact ih _ _ (canonD_writeD blankByte m a b h)

/-- A write of bytes leaves every byte outside its span as it was. -/
theorem memByte_memWrite_outside (m : List Host.Cell) (a k : Nat) (l : List Byte) (h : k < a ∨ a + l.length ≤ k) :
    memByte (memWrite m a l) k = memByte m k := by
  induction l generalizing m a with
  | nil => rfl
  | cons b r ih =>
    simp only [List.length_cons] at h
    have hk : k ≠ a := by omega
    rw [memWrite, ih _ _ (by omega), memByte_memSet, if_neg hk]

/-- A byte within the span of a write reads as written. -/
theorem memByte_memWrite_inside (m : List Host.Cell) (a i : Nat) (l : List Byte) (h : i < l.length) :
    memByte (memWrite m a l) (a + i) = l[i] := by
  induction l generalizing m a i with
  | nil => simp at h
  | cons b r ih =>
    cases i with
    | zero => rw [memWrite, memByte_memWrite_outside _ _ _ _ (by omega), memByte_memSet]; simp
    | succ i =>
      have := ih (memSet m a b) (a + 1) i (by simpa using h)
      rw [memWrite, show a + (i + 1) = a + 1 + i by omega, this]; rfl

end Sys2Proof.Machine
end

