-- ==== Sys2Proof/Laws/State.lean ====
section
/-! SUPPORT. What each update of the state does to each of its fields: one lemma per field per update, true by
unfolding, so that no later proof opens a record update. -/
namespace Sys2Proof.Machine
open Sys2Proof
-- the proofs of this file are elaborated one after another, not each in a thread of its own
set_option Elab.async false

/-! ### State.wr -/

section
variable (s : State) (a : Nat) (v : Word)

@[simp] theorem State.wr_snap : (s.wr a v).snap = s.snap := rfl
@[simp] theorem State.wr_mr : (s.wr a v).mr = s.mr := rfl
@[simp] theorem State.wr_mram : (s.wr a v).mram = s.mram := rfl
@[simp] theorem State.wr_itcm : (s.wr a v).itcm = s.itcm := rfl
@[simp] theorem State.wr_dtcm : (s.wr a v).dtcm = s.dtcm := rfl
@[simp] theorem State.wr_power : (s.wr a v).power = s.power := rfl
@[simp] theorem State.wr_clk : (s.wr a v).clk = s.clk := rfl
@[simp] theorem State.wr_proc : (s.wr a v).proc = s.proc := rfl
@[simp] theorem State.wr_ic : (s.wr a v).ic = s.ic := rfl
@[simp] theorem State.wr_proof : (s.wr a v).proof = s.proof := rfl
@[simp] theorem State.wr_loops : (s.wr a v).loops = s.loops := rfl
@[simp] theorem State.wr_phases : (s.wr a v).phases = s.phases := rfl
@[simp] theorem State.wr_pe : (s.wr a v).pe = s.pe := rfl
@[simp] theorem State.wr_regul : (s.wr a v).regul = s.regul := rfl
@[simp] theorem State.wr_seg : (s.wr a v).seg = s.seg := rfl
@[simp] theorem State.wr_seq : (s.wr a v).seq = s.seq := rfl
@[simp] theorem State.wr_gpio : (s.wr a v).gpio = s.gpio := rfl
@[simp] theorem State.wr_ctx : (s.wr a v).ctx = s.ctx := rfl
@[simp] theorem State.wr_th : (s.wr a v).th = s.th := rfl
@[simp] theorem State.wr_adc : (s.wr a v).adc = s.adc := rfl
@[simp] theorem State.wr_feeds : (s.wr a v).feeds = s.feeds := rfl
@[simp] theorem State.wr_chg : (s.wr a v).chg = s.chg := rfl
@[simp] theorem State.wr_gg : (s.wr a v).gg = s.gg := rfl
@[simp] theorem State.wr_est : (s.wr a v).est = s.est := rfl
@[simp] theorem State.wr_flt : (s.wr a v).flt = s.flt := rfl
@[simp] theorem State.wr_fuse : (s.wr a v).fuse = s.fuse := rfl
@[simp] theorem State.wr_wd : (s.wr a v).wd = s.wd := rfl
@[simp] theorem State.wr_plate : (s.wr a v).plate = s.plate := rfl
@[simp] theorem State.wr_nv : (s.wr a v).nv = s.nv := rfl
@[simp] theorem State.wr_bak : (s.wr a v).bak = s.bak := rfl
@[simp] theorem State.wr_opt : (s.wr a v).opt = s.opt := rfl
@[simp] theorem State.wr_ports : (s.wr a v).ports = s.ports := rfl
@[simp] theorem State.wr_layers : (s.wr a v).layers = s.layers := rfl
@[simp] theorem State.wr_tags : (s.wr a v).tags = s.tags := rfl
@[simp] theorem State.wr_link : (s.wr a v).link = s.link := rfl
@[simp] theorem State.wr_aux : (s.wr a v).aux = s.aux := rfl
@[simp] theorem State.wr_fw : (s.wr a v).fw = s.fw := rfl
@[simp] theorem State.wr_sys : (s.wr a v).sys = s.sys := rfl
@[simp] theorem State.wr_out : (s.wr a v).out = s.out := rfl
@[simp] theorem State.wr_wire : (s.wr a v).wire = s.wire := rfl
@[simp] theorem State.wr_freeCtr : (s.wr a v).freeCtr = s.freeCtr := rfl
@[simp] theorem State.wr_acks : (s.wr a v).acks = s.acks := rfl
@[simp] theorem State.wr_locked : (s.wr a v).locked = s.locked := rfl
@[simp] theorem State.wr_pending : (s.wr a v).pending = s.pending := rfl

end

/-! ### State.put -/

section
variable (s : State) (a : Nat) (f : Fld) (v : Nat)

@[simp] theorem State.put_snap : (s.put a f v).snap = s.snap := rfl
@[simp] theorem State.put_mr : (s.put a f v).mr = s.mr := rfl
@[simp] theorem State.put_mram : (s.put a f v).mram = s.mram := rfl
@[simp] theorem State.put_itcm : (s.put a f v).itcm = s.itcm := rfl
@[simp] theorem State.put_dtcm : (s.put a f v).dtcm = s.dtcm := rfl
@[simp] theorem State.put_power : (s.put a f v).power = s.power := rfl
@[simp] theorem State.put_clk : (s.put a f v).clk = s.clk := rfl
@[simp] theorem State.put_proc : (s.put a f v).proc = s.proc := rfl
@[simp] theorem State.put_ic : (s.put a f v).ic = s.ic := rfl
@[simp] theorem State.put_proof : (s.put a f v).proof = s.proof := rfl
@[simp] theorem State.put_loops : (s.put a f v).loops = s.loops := rfl
@[simp] theorem State.put_phases : (s.put a f v).phases = s.phases := rfl
@[simp] theorem State.put_pe : (s.put a f v).pe = s.pe := rfl
@[simp] theorem State.put_regul : (s.put a f v).regul = s.regul := rfl
@[simp] theorem State.put_seg : (s.put a f v).seg = s.seg := rfl
@[simp] theorem State.put_seq : (s.put a f v).seq = s.seq := rfl
@[simp] theorem State.put_gpio : (s.put a f v).gpio = s.gpio := rfl
@[simp] theorem State.put_ctx : (s.put a f v).ctx = s.ctx := rfl
@[simp] theorem State.put_th : (s.put a f v).th = s.th := rfl
@[simp] theorem State.put_adc : (s.put a f v).adc = s.adc := rfl
@[simp] theorem State.put_feeds : (s.put a f v).feeds = s.feeds := rfl
@[simp] theorem State.put_chg : (s.put a f v).chg = s.chg := rfl
@[simp] theorem State.put_gg : (s.put a f v).gg = s.gg := rfl
@[simp] theorem State.put_est : (s.put a f v).est = s.est := rfl
@[simp] theorem State.put_flt : (s.put a f v).flt = s.flt := rfl
@[simp] theorem State.put_fuse : (s.put a f v).fuse = s.fuse := rfl
@[simp] theorem State.put_wd : (s.put a f v).wd = s.wd := rfl
@[simp] theorem State.put_plate : (s.put a f v).plate = s.plate := rfl
@[simp] theorem State.put_nv : (s.put a f v).nv = s.nv := rfl
@[simp] theorem State.put_bak : (s.put a f v).bak = s.bak := rfl
@[simp] theorem State.put_opt : (s.put a f v).opt = s.opt := rfl
@[simp] theorem State.put_ports : (s.put a f v).ports = s.ports := rfl
@[simp] theorem State.put_layers : (s.put a f v).layers = s.layers := rfl
@[simp] theorem State.put_tags : (s.put a f v).tags = s.tags := rfl
@[simp] theorem State.put_link : (s.put a f v).link = s.link := rfl
@[simp] theorem State.put_aux : (s.put a f v).aux = s.aux := rfl
@[simp] theorem State.put_fw : (s.put a f v).fw = s.fw := rfl
@[simp] theorem State.put_sys : (s.put a f v).sys = s.sys := rfl
@[simp] theorem State.put_out : (s.put a f v).out = s.out := rfl
@[simp] theorem State.put_wire : (s.put a f v).wire = s.wire := rfl
@[simp] theorem State.put_freeCtr : (s.put a f v).freeCtr = s.freeCtr := rfl
@[simp] theorem State.put_acks : (s.put a f v).acks = s.acks := rfl
@[simp] theorem State.put_locked : (s.put a f v).locked = s.locked := rfl
@[simp] theorem State.put_pending : (s.put a f v).pending = s.pending := rfl

end

/-! ### State.putB -/

section
variable (s : State) (a : Nat) (f : Fld) (b : Bool)

@[simp] theorem State.putB_snap : (s.putB a f b).snap = s.snap := rfl
@[simp] theorem State.putB_mr : (s.putB a f b).mr = s.mr := rfl
@[simp] theorem State.putB_mram : (s.putB a f b).mram = s.mram := rfl
@[simp] theorem State.putB_itcm : (s.putB a f b).itcm = s.itcm := rfl
@[simp] theorem State.putB_dtcm : (s.putB a f b).dtcm = s.dtcm := rfl
@[simp] theorem State.putB_power : (s.putB a f b).power = s.power := rfl
@[simp] theorem State.putB_clk : (s.putB a f b).clk = s.clk := rfl
@[simp] theorem State.putB_proc : (s.putB a f b).proc = s.proc := rfl
@[simp] theorem State.putB_ic : (s.putB a f b).ic = s.ic := rfl
@[simp] theorem State.putB_proof : (s.putB a f b).proof = s.proof := rfl
@[simp] theorem State.putB_loops : (s.putB a f b).loops = s.loops := rfl
@[simp] theorem State.putB_phases : (s.putB a f b).phases = s.phases := rfl
@[simp] theorem State.putB_pe : (s.putB a f b).pe = s.pe := rfl
@[simp] theorem State.putB_regul : (s.putB a f b).regul = s.regul := rfl
@[simp] theorem State.putB_seg : (s.putB a f b).seg = s.seg := rfl
@[simp] theorem State.putB_seq : (s.putB a f b).seq = s.seq := rfl
@[simp] theorem State.putB_gpio : (s.putB a f b).gpio = s.gpio := rfl
@[simp] theorem State.putB_ctx : (s.putB a f b).ctx = s.ctx := rfl
@[simp] theorem State.putB_th : (s.putB a f b).th = s.th := rfl
@[simp] theorem State.putB_adc : (s.putB a f b).adc = s.adc := rfl
@[simp] theorem State.putB_feeds : (s.putB a f b).feeds = s.feeds := rfl
@[simp] theorem State.putB_chg : (s.putB a f b).chg = s.chg := rfl
@[simp] theorem State.putB_gg : (s.putB a f b).gg = s.gg := rfl
@[simp] theorem State.putB_est : (s.putB a f b).est = s.est := rfl
@[simp] theorem State.putB_flt : (s.putB a f b).flt = s.flt := rfl
@[simp] theorem State.putB_fuse : (s.putB a f b).fuse = s.fuse := rfl
@[simp] theorem State.putB_wd : (s.putB a f b).wd = s.wd := rfl
@[simp] theorem State.putB_plate : (s.putB a f b).plate = s.plate := rfl
@[simp] theorem State.putB_nv : (s.putB a f b).nv = s.nv := rfl
@[simp] theorem State.putB_bak : (s.putB a f b).bak = s.bak := rfl
@[simp] theorem State.putB_opt : (s.putB a f b).opt = s.opt := rfl
@[simp] theorem State.putB_ports : (s.putB a f b).ports = s.ports := rfl
@[simp] theorem State.putB_layers : (s.putB a f b).layers = s.layers := rfl
@[simp] theorem State.putB_tags : (s.putB a f b).tags = s.tags := rfl
@[simp] theorem State.putB_link : (s.putB a f b).link = s.link := rfl
@[simp] theorem State.putB_aux : (s.putB a f b).aux = s.aux := rfl
@[simp] theorem State.putB_fw : (s.putB a f b).fw = s.fw := rfl
@[simp] theorem State.putB_sys : (s.putB a f b).sys = s.sys := rfl
@[simp] theorem State.putB_out : (s.putB a f b).out = s.out := rfl
@[simp] theorem State.putB_wire : (s.putB a f b).wire = s.wire := rfl
@[simp] theorem State.putB_freeCtr : (s.putB a f b).freeCtr = s.freeCtr := rfl
@[simp] theorem State.putB_acks : (s.putB a f b).acks = s.acks := rfl
@[simp] theorem State.putB_locked : (s.putB a f b).locked = s.locked := rfl
@[simp] theorem State.putB_pending : (s.putB a f b).pending = s.pending := rfl

end

/-! ### State.bump -/

section
variable (s : State) (a : Nat) (f : Fld)

@[simp] theorem State.bump_snap : (s.bump a f).snap = s.snap := rfl
@[simp] theorem State.bump_mr : (s.bump a f).mr = s.mr := rfl
@[simp] theorem State.bump_mram : (s.bump a f).mram = s.mram := rfl
@[simp] theorem State.bump_itcm : (s.bump a f).itcm = s.itcm := rfl
@[simp] theorem State.bump_dtcm : (s.bump a f).dtcm = s.dtcm := rfl
@[simp] theorem State.bump_power : (s.bump a f).power = s.power := rfl
@[simp] theorem State.bump_clk : (s.bump a f).clk = s.clk := rfl
@[simp] theorem State.bump_proc : (s.bump a f).proc = s.proc := rfl
@[simp] theorem State.bump_ic : (s.bump a f).ic = s.ic := rfl
@[simp] theorem State.bump_proof : (s.bump a f).proof = s.proof := rfl
@[simp] theorem State.bump_loops : (s.bump a f).loops = s.loops := rfl
@[simp] theorem State.bump_phases : (s.bump a f).phases = s.phases := rfl
@[simp] theorem State.bump_pe : (s.bump a f).pe = s.pe := rfl
@[simp] theorem State.bump_regul : (s.bump a f).regul = s.regul := rfl
@[simp] theorem State.bump_seg : (s.bump a f).seg = s.seg := rfl
@[simp] theorem State.bump_seq : (s.bump a f).seq = s.seq := rfl
@[simp] theorem State.bump_gpio : (s.bump a f).gpio = s.gpio := rfl
@[simp] theorem State.bump_ctx : (s.bump a f).ctx = s.ctx := rfl
@[simp] theorem State.bump_th : (s.bump a f).th = s.th := rfl
@[simp] theorem State.bump_adc : (s.bump a f).adc = s.adc := rfl
@[simp] theorem State.bump_feeds : (s.bump a f).feeds = s.feeds := rfl
@[simp] theorem State.bump_chg : (s.bump a f).chg = s.chg := rfl
@[simp] theorem State.bump_gg : (s.bump a f).gg = s.gg := rfl
@[simp] theorem State.bump_est : (s.bump a f).est = s.est := rfl
@[simp] theorem State.bump_flt : (s.bump a f).flt = s.flt := rfl
@[simp] theorem State.bump_fuse : (s.bump a f).fuse = s.fuse := rfl
@[simp] theorem State.bump_wd : (s.bump a f).wd = s.wd := rfl
@[simp] theorem State.bump_plate : (s.bump a f).plate = s.plate := rfl
@[simp] theorem State.bump_nv : (s.bump a f).nv = s.nv := rfl
@[simp] theorem State.bump_bak : (s.bump a f).bak = s.bak := rfl
@[simp] theorem State.bump_opt : (s.bump a f).opt = s.opt := rfl
@[simp] theorem State.bump_ports : (s.bump a f).ports = s.ports := rfl
@[simp] theorem State.bump_layers : (s.bump a f).layers = s.layers := rfl
@[simp] theorem State.bump_tags : (s.bump a f).tags = s.tags := rfl
@[simp] theorem State.bump_link : (s.bump a f).link = s.link := rfl
@[simp] theorem State.bump_aux : (s.bump a f).aux = s.aux := rfl
@[simp] theorem State.bump_fw : (s.bump a f).fw = s.fw := rfl
@[simp] theorem State.bump_sys : (s.bump a f).sys = s.sys := rfl
@[simp] theorem State.bump_out : (s.bump a f).out = s.out := rfl
@[simp] theorem State.bump_wire : (s.bump a f).wire = s.wire := rfl
@[simp] theorem State.bump_freeCtr : (s.bump a f).freeCtr = s.freeCtr := rfl
@[simp] theorem State.bump_acks : (s.bump a f).acks = s.acks := rfl
@[simp] theorem State.bump_locked : (s.bump a f).locked = s.locked := rfl
@[simp] theorem State.bump_pending : (s.bump a f).pending = s.pending := rfl

end

/-! ### State.put64 -/

section
variable (s : State) (a b : Nat) (v : Int)

@[simp] theorem State.put64_snap : (s.put64 a b v).snap = s.snap := rfl
@[simp] theorem State.put64_mr : (s.put64 a b v).mr = s.mr := rfl
@[simp] theorem State.put64_mram : (s.put64 a b v).mram = s.mram := rfl
@[simp] theorem State.put64_itcm : (s.put64 a b v).itcm = s.itcm := rfl
@[simp] theorem State.put64_dtcm : (s.put64 a b v).dtcm = s.dtcm := rfl
@[simp] theorem State.put64_power : (s.put64 a b v).power = s.power := rfl
@[simp] theorem State.put64_clk : (s.put64 a b v).clk = s.clk := rfl
@[simp] theorem State.put64_proc : (s.put64 a b v).proc = s.proc := rfl
@[simp] theorem State.put64_ic : (s.put64 a b v).ic = s.ic := rfl
@[simp] theorem State.put64_proof : (s.put64 a b v).proof = s.proof := rfl
@[simp] theorem State.put64_loops : (s.put64 a b v).loops = s.loops := rfl
@[simp] theorem State.put64_phases : (s.put64 a b v).phases = s.phases := rfl
@[simp] theorem State.put64_pe : (s.put64 a b v).pe = s.pe := rfl
@[simp] theorem State.put64_regul : (s.put64 a b v).regul = s.regul := rfl
@[simp] theorem State.put64_seg : (s.put64 a b v).seg = s.seg := rfl
@[simp] theorem State.put64_seq : (s.put64 a b v).seq = s.seq := rfl
@[simp] theorem State.put64_gpio : (s.put64 a b v).gpio = s.gpio := rfl
@[simp] theorem State.put64_ctx : (s.put64 a b v).ctx = s.ctx := rfl
@[simp] theorem State.put64_th : (s.put64 a b v).th = s.th := rfl
@[simp] theorem State.put64_adc : (s.put64 a b v).adc = s.adc := rfl
@[simp] theorem State.put64_feeds : (s.put64 a b v).feeds = s.feeds := rfl
@[simp] theorem State.put64_chg : (s.put64 a b v).chg = s.chg := rfl
@[simp] theorem State.put64_gg : (s.put64 a b v).gg = s.gg := rfl
@[simp] theorem State.put64_est : (s.put64 a b v).est = s.est := rfl
@[simp] theorem State.put64_flt : (s.put64 a b v).flt = s.flt := rfl
@[simp] theorem State.put64_fuse : (s.put64 a b v).fuse = s.fuse := rfl
@[simp] theorem State.put64_wd : (s.put64 a b v).wd = s.wd := rfl
@[simp] theorem State.put64_plate : (s.put64 a b v).plate = s.plate := rfl
@[simp] theorem State.put64_nv : (s.put64 a b v).nv = s.nv := rfl
@[simp] theorem State.put64_bak : (s.put64 a b v).bak = s.bak := rfl
@[simp] theorem State.put64_opt : (s.put64 a b v).opt = s.opt := rfl
@[simp] theorem State.put64_ports : (s.put64 a b v).ports = s.ports := rfl
@[simp] theorem State.put64_layers : (s.put64 a b v).layers = s.layers := rfl
@[simp] theorem State.put64_tags : (s.put64 a b v).tags = s.tags := rfl
@[simp] theorem State.put64_link : (s.put64 a b v).link = s.link := rfl
@[simp] theorem State.put64_aux : (s.put64 a b v).aux = s.aux := rfl
@[simp] theorem State.put64_fw : (s.put64 a b v).fw = s.fw := rfl
@[simp] theorem State.put64_sys : (s.put64 a b v).sys = s.sys := rfl
@[simp] theorem State.put64_out : (s.put64 a b v).out = s.out := rfl
@[simp] theorem State.put64_wire : (s.put64 a b v).wire = s.wire := rfl
@[simp] theorem State.put64_freeCtr : (s.put64 a b v).freeCtr = s.freeCtr := rfl
@[simp] theorem State.put64_acks : (s.put64 a b v).acks = s.acks := rfl
@[simp] theorem State.put64_locked : (s.put64 a b v).locked = s.locked := rfl
@[simp] theorem State.put64_pending : (s.put64 a b v).pending = s.pending := rfl

end

/-! ### State.mramWrite -/

section
variable (s : State) (o : Nat) (l : List Byte)

@[simp] theorem State.mramWrite_regs : (s.mramWrite o l).regs = s.regs := rfl
@[simp] theorem State.mramWrite_snap : (s.mramWrite o l).snap = s.snap := rfl
@[simp] theorem State.mramWrite_mr : (s.mramWrite o l).mr = s.mr := rfl
@[simp] theorem State.mramWrite_mram :
    (s.mramWrite o l).mram = { s.mram with
      cells := (s.namesOf (o / 4096)).foldl (fun m b => memWrite m (4096 * b + o % 4096) l) s.mram.cells,
      bad := s.mram.bad.filter (fun a => a != s.physWord o) } := rfl
@[simp] theorem State.mramWrite_itcm : (s.mramWrite o l).itcm = s.itcm := rfl
@[simp] theorem State.mramWrite_dtcm : (s.mramWrite o l).dtcm = s.dtcm := rfl
@[simp] theorem State.mramWrite_power : (s.mramWrite o l).power = s.power := rfl
@[simp] theorem State.mramWrite_clk : (s.mramWrite o l).clk = s.clk := rfl
@[simp] theorem State.mramWrite_proc : (s.mramWrite o l).proc = s.proc := rfl
@[simp] theorem State.mramWrite_ic : (s.mramWrite o l).ic = s.ic := rfl
@[simp] theorem State.mramWrite_proof : (s.mramWrite o l).proof = s.proof := rfl
@[simp] theorem State.mramWrite_loops : (s.mramWrite o l).loops = s.loops := rfl
@[simp] theorem State.mramWrite_phases : (s.mramWrite o l).phases = s.phases := rfl
@[simp] theorem State.mramWrite_pe : (s.mramWrite o l).pe = s.pe := rfl
@[simp] theorem State.mramWrite_regul : (s.mramWrite o l).regul = s.regul := rfl
@[simp] theorem State.mramWrite_seg : (s.mramWrite o l).seg = s.seg := rfl
@[simp] theorem State.mramWrite_seq : (s.mramWrite o l).seq = s.seq := rfl
@[simp] theorem State.mramWrite_gpio : (s.mramWrite o l).gpio = s.gpio := rfl
@[simp] theorem State.mramWrite_ctx : (s.mramWrite o l).ctx = s.ctx := rfl
@[simp] theorem State.mramWrite_th : (s.mramWrite o l).th = s.th := rfl
@[simp] theorem State.mramWrite_adc : (s.mramWrite o l).adc = s.adc := rfl
@[simp] theorem State.mramWrite_feeds : (s.mramWrite o l).feeds = s.feeds := rfl
@[simp] theorem State.mramWrite_chg : (s.mramWrite o l).chg = s.chg := rfl
@[simp] theorem State.mramWrite_gg : (s.mramWrite o l).gg = s.gg := rfl
@[simp] theorem State.mramWrite_est : (s.mramWrite o l).est = s.est := rfl
@[simp] theorem State.mramWrite_flt : (s.mramWrite o l).flt = s.flt := rfl
@[simp] theorem State.mramWrite_fuse : (s.mramWrite o l).fuse = s.fuse := rfl
@[simp] theorem State.mramWrite_wd : (s.mramWrite o l).wd = s.wd := rfl
@[simp] theorem State.mramWrite_plate : (s.mramWrite o l).plate = s.plate := rfl
@[simp] theorem State.mramWrite_nv : (s.mramWrite o l).nv = s.nv := rfl
@[simp] theorem State.mramWrite_bak : (s.mramWrite o l).bak = s.bak := rfl
@[simp] theorem State.mramWrite_opt : (s.mramWrite o l).opt = s.opt := rfl
@[simp] theorem State.mramWrite_ports : (s.mramWrite o l).ports = s.ports := rfl
@[simp] theorem State.mramWrite_layers : (s.mramWrite o l).layers = s.layers := rfl
@[simp] theorem State.mramWrite_tags : (s.mramWrite o l).tags = s.tags := rfl
@[simp] theorem State.mramWrite_link : (s.mramWrite o l).link = s.link := rfl
@[simp] theorem State.mramWrite_aux : (s.mramWrite o l).aux = s.aux := rfl
@[simp] theorem State.mramWrite_fw : (s.mramWrite o l).fw = s.fw := rfl
@[simp] theorem State.mramWrite_sys : (s.mramWrite o l).sys = s.sys := rfl
@[simp] theorem State.mramWrite_out : (s.mramWrite o l).out = s.out := rfl
@[simp] theorem State.mramWrite_wire : (s.mramWrite o l).wire = s.wire := rfl
@[simp] theorem State.mramWrite_freeCtr : (s.mramWrite o l).freeCtr = s.freeCtr := rfl
@[simp] theorem State.mramWrite_acks : (s.mramWrite o l).acks = s.acks := rfl
@[simp] theorem State.mramWrite_locked : (s.mramWrite o l).locked = s.locked := rfl
@[simp] theorem State.mramWrite_pending : (s.mramWrite o l).pending = s.pending := rfl
@[simp] theorem State.mramWrite_rd (x : Nat) : (s.mramWrite o l).rd x = s.rd x := rfl
@[simp] theorem State.mramWrite_get (x : Nat) (g : Fld) : (s.mramWrite o l).get x g = s.get x g := rfl
@[simp] theorem State.mramWrite_getI (x : Nat) (g : Fld) : (s.mramWrite o l).getI x g = s.getI x g := rfl
@[simp] theorem State.mramWrite_flag (x : Nat) (g : Fld) : (s.mramWrite o l).flag x g = s.flag x g := rfl

end

/-! ### State.updLoop -/

section
variable (s : State) (k : Fin 4) (f : LoopSt → LoopSt)

@[simp] theorem State.updLoop_regs : (s.updLoop k f).regs = s.regs := rfl
@[simp] theorem State.updLoop_snap : (s.updLoop k f).snap = s.snap := rfl
@[simp] theorem State.updLoop_mr : (s.updLoop k f).mr = s.mr := rfl
@[simp] theorem State.updLoop_mram : (s.updLoop k f).mram = s.mram := rfl
@[simp] theorem State.updLoop_itcm : (s.updLoop k f).itcm = s.itcm := rfl
@[simp] theorem State.updLoop_dtcm : (s.updLoop k f).dtcm = s.dtcm := rfl
@[simp] theorem State.updLoop_power : (s.updLoop k f).power = s.power := rfl
@[simp] theorem State.updLoop_clk : (s.updLoop k f).clk = s.clk := rfl
@[simp] theorem State.updLoop_proc : (s.updLoop k f).proc = s.proc := rfl
@[simp] theorem State.updLoop_ic : (s.updLoop k f).ic = s.ic := rfl
@[simp] theorem State.updLoop_proof : (s.updLoop k f).proof = s.proof := rfl
@[simp] theorem State.updLoop_loops : (s.updLoop k f).loops = s.loops.set k (f s.loops[k]) := rfl
@[simp] theorem State.updLoop_phases : (s.updLoop k f).phases = s.phases := rfl
@[simp] theorem State.updLoop_pe : (s.updLoop k f).pe = s.pe := rfl
@[simp] theorem State.updLoop_regul : (s.updLoop k f).regul = s.regul := rfl
@[simp] theorem State.updLoop_seg : (s.updLoop k f).seg = s.seg := rfl
@[simp] theorem State.updLoop_seq : (s.updLoop k f).seq = s.seq := rfl
@[simp] theorem State.updLoop_gpio : (s.updLoop k f).gpio = s.gpio := rfl
@[simp] theorem State.updLoop_ctx : (s.updLoop k f).ctx = s.ctx := rfl
@[simp] theorem State.updLoop_th : (s.updLoop k f).th = s.th := rfl
@[simp] theorem State.updLoop_adc : (s.updLoop k f).adc = s.adc := rfl
@[simp] theorem State.updLoop_feeds : (s.updLoop k f).feeds = s.feeds := rfl
@[simp] theorem State.updLoop_chg : (s.updLoop k f).chg = s.chg := rfl
@[simp] theorem State.updLoop_gg : (s.updLoop k f).gg = s.gg := rfl
@[simp] theorem State.updLoop_est : (s.updLoop k f).est = s.est := rfl
@[simp] theorem State.updLoop_flt : (s.updLoop k f).flt = s.flt := rfl
@[simp] theorem State.updLoop_fuse : (s.updLoop k f).fuse = s.fuse := rfl
@[simp] theorem State.updLoop_wd : (s.updLoop k f).wd = s.wd := rfl
@[simp] theorem State.updLoop_plate : (s.updLoop k f).plate = s.plate := rfl
@[simp] theorem State.updLoop_nv : (s.updLoop k f).nv = s.nv := rfl
@[simp] theorem State.updLoop_bak : (s.updLoop k f).bak = s.bak := rfl
@[simp] theorem State.updLoop_opt : (s.updLoop k f).opt = s.opt := rfl
@[simp] theorem State.updLoop_ports : (s.updLoop k f).ports = s.ports := rfl
@[simp] theorem State.updLoop_layers : (s.updLoop k f).layers = s.layers := rfl
@[simp] theorem State.updLoop_tags : (s.updLoop k f).tags = s.tags := rfl
@[simp] theorem State.updLoop_link : (s.updLoop k f).link = s.link := rfl
@[simp] theorem State.updLoop_aux : (s.updLoop k f).aux = s.aux := rfl
@[simp] theorem State.updLoop_fw : (s.updLoop k f).fw = s.fw := rfl
@[simp] theorem State.updLoop_sys : (s.updLoop k f).sys = s.sys := rfl
@[simp] theorem State.updLoop_out : (s.updLoop k f).out = s.out := rfl
@[simp] theorem State.updLoop_wire : (s.updLoop k f).wire = s.wire := rfl
@[simp] theorem State.updLoop_freeCtr : (s.updLoop k f).freeCtr = s.freeCtr := rfl
@[simp] theorem State.updLoop_acks : (s.updLoop k f).acks = s.acks := rfl
@[simp] theorem State.updLoop_locked : (s.updLoop k f).locked = s.locked := rfl
@[simp] theorem State.updLoop_pending : (s.updLoop k f).pending = s.pending := rfl
@[simp] theorem State.updLoop_rd (x : Nat) : (s.updLoop k f).rd x = s.rd x := rfl
@[simp] theorem State.updLoop_get (x : Nat) (g : Fld) : (s.updLoop k f).get x g = s.get x g := rfl
@[simp] theorem State.updLoop_getI (x : Nat) (g : Fld) : (s.updLoop k f).getI x g = s.getI x g := rfl
@[simp] theorem State.updLoop_flag (x : Nat) (g : Fld) : (s.updLoop k f).flag x g = s.flag x g := rfl

end

/-! ### State.updPhase -/

section
variable (s : State) (k : Fin 16) (f : PhaseSt → PhaseSt)

@[simp] theorem State.updPhase_regs : (s.updPhase k f).regs = s.regs := rfl
@[simp] theorem State.updPhase_snap : (s.updPhase k f).snap = s.snap := rfl
@[simp] theorem State.updPhase_mr : (s.updPhase k f).mr = s.mr := rfl
@[simp] theorem State.updPhase_mram : (s.updPhase k f).mram = s.mram := rfl
@[simp] theorem State.updPhase_itcm : (s.updPhase k f).itcm = s.itcm := rfl
@[simp] theorem State.updPhase_dtcm : (s.updPhase k f).dtcm = s.dtcm := rfl
@[simp] theorem State.updPhase_power : (s.updPhase k f).power = s.power := rfl
@[simp] theorem State.updPhase_clk : (s.updPhase k f).clk = s.clk := rfl
@[simp] theorem State.updPhase_proc : (s.updPhase k f).proc = s.proc := rfl
@[simp] theorem State.updPhase_ic : (s.updPhase k f).ic = s.ic := rfl
@[simp] theorem State.updPhase_proof : (s.updPhase k f).proof = s.proof := rfl
@[simp] theorem State.updPhase_loops : (s.updPhase k f).loops = s.loops := rfl
@[simp] theorem State.updPhase_phases : (s.updPhase k f).phases = s.phases.set k (f s.phases[k]) := rfl
@[simp] theorem State.updPhase_pe : (s.updPhase k f).pe = s.pe := rfl
@[simp] theorem State.updPhase_regul : (s.updPhase k f).regul = s.regul := rfl
@[simp] theorem State.updPhase_seg : (s.updPhase k f).seg = s.seg := rfl
@[simp] theorem State.updPhase_seq : (s.updPhase k f).seq = s.seq := rfl
@[simp] theorem State.updPhase_gpio : (s.updPhase k f).gpio = s.gpio := rfl
@[simp] theorem State.updPhase_ctx : (s.updPhase k f).ctx = s.ctx := rfl
@[simp] theorem State.updPhase_th : (s.updPhase k f).th = s.th := rfl
@[simp] theorem State.updPhase_adc : (s.updPhase k f).adc = s.adc := rfl
@[simp] theorem State.updPhase_feeds : (s.updPhase k f).feeds = s.feeds := rfl
@[simp] theorem State.updPhase_chg : (s.updPhase k f).chg = s.chg := rfl
@[simp] theorem State.updPhase_gg : (s.updPhase k f).gg = s.gg := rfl
@[simp] theorem State.updPhase_est : (s.updPhase k f).est = s.est := rfl
@[simp] theorem State.updPhase_flt : (s.updPhase k f).flt = s.flt := rfl
@[simp] theorem State.updPhase_fuse : (s.updPhase k f).fuse = s.fuse := rfl
@[simp] theorem State.updPhase_wd : (s.updPhase k f).wd = s.wd := rfl
@[simp] theorem State.updPhase_plate : (s.updPhase k f).plate = s.plate := rfl
@[simp] theorem State.updPhase_nv : (s.updPhase k f).nv = s.nv := rfl
@[simp] theorem State.updPhase_bak : (s.updPhase k f).bak = s.bak := rfl
@[simp] theorem State.updPhase_opt : (s.updPhase k f).opt = s.opt := rfl
@[simp] theorem State.updPhase_ports : (s.updPhase k f).ports = s.ports := rfl
@[simp] theorem State.updPhase_layers : (s.updPhase k f).layers = s.layers := rfl
@[simp] theorem State.updPhase_tags : (s.updPhase k f).tags = s.tags := rfl
@[simp] theorem State.updPhase_link : (s.updPhase k f).link = s.link := rfl
@[simp] theorem State.updPhase_aux : (s.updPhase k f).aux = s.aux := rfl
@[simp] theorem State.updPhase_fw : (s.updPhase k f).fw = s.fw := rfl
@[simp] theorem State.updPhase_sys : (s.updPhase k f).sys = s.sys := rfl
@[simp] theorem State.updPhase_out : (s.updPhase k f).out = s.out := rfl
@[simp] theorem State.updPhase_wire : (s.updPhase k f).wire = s.wire := rfl
@[simp] theorem State.updPhase_freeCtr : (s.updPhase k f).freeCtr = s.freeCtr := rfl
@[simp] theorem State.updPhase_acks : (s.updPhase k f).acks = s.acks := rfl
@[simp] theorem State.updPhase_locked : (s.updPhase k f).locked = s.locked := rfl
@[simp] theorem State.updPhase_pending : (s.updPhase k f).pending = s.pending := rfl
@[simp] theorem State.updPhase_rd (x : Nat) : (s.updPhase k f).rd x = s.rd x := rfl
@[simp] theorem State.updPhase_get (x : Nat) (g : Fld) : (s.updPhase k f).get x g = s.get x g := rfl
@[simp] theorem State.updPhase_getI (x : Nat) (g : Fld) : (s.updPhase k f).getI x g = s.getI x g := rfl
@[simp] theorem State.updPhase_flag (x : Nat) (g : Fld) : (s.updPhase k f).flag x g = s.flag x g := rfl

end

/-! ### State.updReg -/

section
variable (s : State) (k : Fin 14) (f : RegSt → RegSt)

@[simp] theorem State.updReg_regs : (s.updReg k f).regs = s.regs := rfl
@[simp] theorem State.updReg_snap : (s.updReg k f).snap = s.snap := rfl
@[simp] theorem State.updReg_mr : (s.updReg k f).mr = s.mr := rfl
@[simp] theorem State.updReg_mram : (s.updReg k f).mram = s.mram := rfl
@[simp] theorem State.updReg_itcm : (s.updReg k f).itcm = s.itcm := rfl
@[simp] theorem State.updReg_dtcm : (s.updReg k f).dtcm = s.dtcm := rfl
@[simp] theorem State.updReg_power : (s.updReg k f).power = s.power := rfl
@[simp] theorem State.updReg_clk : (s.updReg k f).clk = s.clk := rfl
@[simp] theorem State.updReg_proc : (s.updReg k f).proc = s.proc := rfl
@[simp] theorem State.updReg_ic : (s.updReg k f).ic = s.ic := rfl
@[simp] theorem State.updReg_proof : (s.updReg k f).proof = s.proof := rfl
@[simp] theorem State.updReg_loops : (s.updReg k f).loops = s.loops := rfl
@[simp] theorem State.updReg_phases : (s.updReg k f).phases = s.phases := rfl
@[simp] theorem State.updReg_pe : (s.updReg k f).pe = s.pe := rfl
@[simp] theorem State.updReg_regul : (s.updReg k f).regul = s.regul.set k (f s.regul[k]) := rfl
@[simp] theorem State.updReg_seg : (s.updReg k f).seg = s.seg := rfl
@[simp] theorem State.updReg_seq : (s.updReg k f).seq = s.seq := rfl
@[simp] theorem State.updReg_gpio : (s.updReg k f).gpio = s.gpio := rfl
@[simp] theorem State.updReg_ctx : (s.updReg k f).ctx = s.ctx := rfl
@[simp] theorem State.updReg_th : (s.updReg k f).th = s.th := rfl
@[simp] theorem State.updReg_adc : (s.updReg k f).adc = s.adc := rfl
@[simp] theorem State.updReg_feeds : (s.updReg k f).feeds = s.feeds := rfl
@[simp] theorem State.updReg_chg : (s.updReg k f).chg = s.chg := rfl
@[simp] theorem State.updReg_gg : (s.updReg k f).gg = s.gg := rfl
@[simp] theorem State.updReg_est : (s.updReg k f).est = s.est := rfl
@[simp] theorem State.updReg_flt : (s.updReg k f).flt = s.flt := rfl
@[simp] theorem State.updReg_fuse : (s.updReg k f).fuse = s.fuse := rfl
@[simp] theorem State.updReg_wd : (s.updReg k f).wd = s.wd := rfl
@[simp] theorem State.updReg_plate : (s.updReg k f).plate = s.plate := rfl
@[simp] theorem State.updReg_nv : (s.updReg k f).nv = s.nv := rfl
@[simp] theorem State.updReg_bak : (s.updReg k f).bak = s.bak := rfl
@[simp] theorem State.updReg_opt : (s.updReg k f).opt = s.opt := rfl
@[simp] theorem State.updReg_ports : (s.updReg k f).ports = s.ports := rfl
@[simp] theorem State.updReg_layers : (s.updReg k f).layers = s.layers := rfl
@[simp] theorem State.updReg_tags : (s.updReg k f).tags = s.tags := rfl
@[simp] theorem State.updReg_link : (s.updReg k f).link = s.link := rfl
@[simp] theorem State.updReg_aux : (s.updReg k f).aux = s.aux := rfl
@[simp] theorem State.updReg_fw : (s.updReg k f).fw = s.fw := rfl
@[simp] theorem State.updReg_sys : (s.updReg k f).sys = s.sys := rfl
@[simp] theorem State.updReg_out : (s.updReg k f).out = s.out := rfl
@[simp] theorem State.updReg_wire : (s.updReg k f).wire = s.wire := rfl
@[simp] theorem State.updReg_freeCtr : (s.updReg k f).freeCtr = s.freeCtr := rfl
@[simp] theorem State.updReg_acks : (s.updReg k f).acks = s.acks := rfl
@[simp] theorem State.updReg_locked : (s.updReg k f).locked = s.locked := rfl
@[simp] theorem State.updReg_pending : (s.updReg k f).pending = s.pending := rfl
@[simp] theorem State.updReg_rd (x : Nat) : (s.updReg k f).rd x = s.rd x := rfl
@[simp] theorem State.updReg_get (x : Nat) (g : Fld) : (s.updReg k f).get x g = s.get x g := rfl
@[simp] theorem State.updReg_getI (x : Nat) (g : Fld) : (s.updReg k f).getI x g = s.getI x g := rfl
@[simp] theorem State.updReg_flag (x : Nat) (g : Fld) : (s.updReg k f).flag x g = s.flag x g := rfl

end

/-! ### State.updFeed -/

section
variable (s : State) (k : Fin 2) (f : FeedSt → FeedSt)

@[simp] theorem State.updFeed_regs : (s.updFeed k f).regs = s.regs := rfl
@[simp] theorem State.updFeed_snap : (s.updFeed k f).snap = s.snap := rfl
@[simp] theorem State.updFeed_mr : (s.updFeed k f).mr = s.mr := rfl
@[simp] theorem State.updFeed_mram : (s.updFeed k f).mram = s.mram := rfl
@[simp] theorem State.updFeed_itcm : (s.updFeed k f).itcm = s.itcm := rfl
@[simp] theorem State.updFeed_dtcm : (s.updFeed k f).dtcm = s.dtcm := rfl
@[simp] theorem State.updFeed_power : (s.updFeed k f).power = s.power := rfl
@[simp] theorem State.updFeed_clk : (s.updFeed k f).clk = s.clk := rfl
@[simp] theorem State.updFeed_proc : (s.updFeed k f).proc = s.proc := rfl
@[simp] theorem State.updFeed_ic : (s.updFeed k f).ic = s.ic := rfl
@[simp] theorem State.updFeed_proof : (s.updFeed k f).proof = s.proof := rfl
@[simp] theorem State.updFeed_loops : (s.updFeed k f).loops = s.loops := rfl
@[simp] theorem State.updFeed_phases : (s.updFeed k f).phases = s.phases := rfl
@[simp] theorem State.updFeed_pe : (s.updFeed k f).pe = s.pe := rfl
@[simp] theorem State.updFeed_regul : (s.updFeed k f).regul = s.regul := rfl
@[simp] theorem State.updFeed_seg : (s.updFeed k f).seg = s.seg := rfl
@[simp] theorem State.updFeed_seq : (s.updFeed k f).seq = s.seq := rfl
@[simp] theorem State.updFeed_gpio : (s.updFeed k f).gpio = s.gpio := rfl
@[simp] theorem State.updFeed_ctx : (s.updFeed k f).ctx = s.ctx := rfl
@[simp] theorem State.updFeed_th : (s.updFeed k f).th = s.th := rfl
@[simp] theorem State.updFeed_adc : (s.updFeed k f).adc = s.adc := rfl
@[simp] theorem State.updFeed_feeds : (s.updFeed k f).feeds = s.feeds.set k (f s.feeds[k]) := rfl
@[simp] theorem State.updFeed_chg : (s.updFeed k f).chg = s.chg := rfl
@[simp] theorem State.updFeed_gg : (s.updFeed k f).gg = s.gg := rfl
@[simp] theorem State.updFeed_est : (s.updFeed k f).est = s.est := rfl
@[simp] theorem State.updFeed_flt : (s.updFeed k f).flt = s.flt := rfl
@[simp] theorem State.updFeed_fuse : (s.updFeed k f).fuse = s.fuse := rfl
@[simp] theorem State.updFeed_wd : (s.updFeed k f).wd = s.wd := rfl
@[simp] theorem State.updFeed_plate : (s.updFeed k f).plate = s.plate := rfl
@[simp] theorem State.updFeed_nv : (s.updFeed k f).nv = s.nv := rfl
@[simp] theorem State.updFeed_bak : (s.updFeed k f).bak = s.bak := rfl
@[simp] theorem State.updFeed_opt : (s.updFeed k f).opt = s.opt := rfl
@[simp] theorem State.updFeed_ports : (s.updFeed k f).ports = s.ports := rfl
@[simp] theorem State.updFeed_layers : (s.updFeed k f).layers = s.layers := rfl
@[simp] theorem State.updFeed_tags : (s.updFeed k f).tags = s.tags := rfl
@[simp] theorem State.updFeed_link : (s.updFeed k f).link = s.link := rfl
@[simp] theorem State.updFeed_aux : (s.updFeed k f).aux = s.aux := rfl
@[simp] theorem State.updFeed_fw : (s.updFeed k f).fw = s.fw := rfl
@[simp] theorem State.updFeed_sys : (s.updFeed k f).sys = s.sys := rfl
@[simp] theorem State.updFeed_out : (s.updFeed k f).out = s.out := rfl
@[simp] theorem State.updFeed_wire : (s.updFeed k f).wire = s.wire := rfl
@[simp] theorem State.updFeed_freeCtr : (s.updFeed k f).freeCtr = s.freeCtr := rfl
@[simp] theorem State.updFeed_acks : (s.updFeed k f).acks = s.acks := rfl
@[simp] theorem State.updFeed_locked : (s.updFeed k f).locked = s.locked := rfl
@[simp] theorem State.updFeed_pending : (s.updFeed k f).pending = s.pending := rfl
@[simp] theorem State.updFeed_rd (x : Nat) : (s.updFeed k f).rd x = s.rd x := rfl
@[simp] theorem State.updFeed_get (x : Nat) (g : Fld) : (s.updFeed k f).get x g = s.get x g := rfl
@[simp] theorem State.updFeed_getI (x : Nat) (g : Fld) : (s.updFeed k f).getI x g = s.getI x g := rfl
@[simp] theorem State.updFeed_flag (x : Nat) (g : Fld) : (s.updFeed k f).flag x g = s.flag x g := rfl

end

/-! ### State.updChg -/

section
variable (s : State) (f : ChgSt → ChgSt)

@[simp] theorem State.updChg_regs : (s.updChg f).regs = s.regs := rfl
@[simp] theorem State.updChg_snap : (s.updChg f).snap = s.snap := rfl
@[simp] theorem State.updChg_mr : (s.updChg f).mr = s.mr := rfl
@[simp] theorem State.updChg_mram : (s.updChg f).mram = s.mram := rfl
@[simp] theorem State.updChg_itcm : (s.updChg f).itcm = s.itcm := rfl
@[simp] theorem State.updChg_dtcm : (s.updChg f).dtcm = s.dtcm := rfl
@[simp] theorem State.updChg_power : (s.updChg f).power = s.power := rfl
@[simp] theorem State.updChg_clk : (s.updChg f).clk = s.clk := rfl
@[simp] theorem State.updChg_proc : (s.updChg f).proc = s.proc := rfl
@[simp] theorem State.updChg_ic : (s.updChg f).ic = s.ic := rfl
@[simp] theorem State.updChg_proof : (s.updChg f).proof = s.proof := rfl
@[simp] theorem State.updChg_loops : (s.updChg f).loops = s.loops := rfl
@[simp] theorem State.updChg_phases : (s.updChg f).phases = s.phases := rfl
@[simp] theorem State.updChg_pe : (s.updChg f).pe = s.pe := rfl
@[simp] theorem State.updChg_regul : (s.updChg f).regul = s.regul := rfl
@[simp] theorem State.updChg_seg : (s.updChg f).seg = s.seg := rfl
@[simp] theorem State.updChg_seq : (s.updChg f).seq = s.seq := rfl
@[simp] theorem State.updChg_gpio : (s.updChg f).gpio = s.gpio := rfl
@[simp] theorem State.updChg_ctx : (s.updChg f).ctx = s.ctx := rfl
@[simp] theorem State.updChg_th : (s.updChg f).th = s.th := rfl
@[simp] theorem State.updChg_adc : (s.updChg f).adc = s.adc := rfl
@[simp] theorem State.updChg_feeds : (s.updChg f).feeds = s.feeds := rfl
@[simp] theorem State.updChg_chg : (s.updChg f).chg = f s.chg := rfl
@[simp] theorem State.updChg_gg : (s.updChg f).gg = s.gg := rfl
@[simp] theorem State.updChg_est : (s.updChg f).est = s.est := rfl
@[simp] theorem State.updChg_flt : (s.updChg f).flt = s.flt := rfl
@[simp] theorem State.updChg_fuse : (s.updChg f).fuse = s.fuse := rfl
@[simp] theorem State.updChg_wd : (s.updChg f).wd = s.wd := rfl
@[simp] theorem State.updChg_plate : (s.updChg f).plate = s.plate := rfl
@[simp] theorem State.updChg_nv : (s.updChg f).nv = s.nv := rfl
@[simp] theorem State.updChg_bak : (s.updChg f).bak = s.bak := rfl
@[simp] theorem State.updChg_opt : (s.updChg f).opt = s.opt := rfl
@[simp] theorem State.updChg_ports : (s.updChg f).ports = s.ports := rfl
@[simp] theorem State.updChg_layers : (s.updChg f).layers = s.layers := rfl
@[simp] theorem State.updChg_tags : (s.updChg f).tags = s.tags := rfl
@[simp] theorem State.updChg_link : (s.updChg f).link = s.link := rfl
@[simp] theorem State.updChg_aux : (s.updChg f).aux = s.aux := rfl
@[simp] theorem State.updChg_fw : (s.updChg f).fw = s.fw := rfl
@[simp] theorem State.updChg_sys : (s.updChg f).sys = s.sys := rfl
@[simp] theorem State.updChg_out : (s.updChg f).out = s.out := rfl
@[simp] theorem State.updChg_wire : (s.updChg f).wire = s.wire := rfl
@[simp] theorem State.updChg_freeCtr : (s.updChg f).freeCtr = s.freeCtr := rfl
@[simp] theorem State.updChg_acks : (s.updChg f).acks = s.acks := rfl
@[simp] theorem State.updChg_locked : (s.updChg f).locked = s.locked := rfl
@[simp] theorem State.updChg_pending : (s.updChg f).pending = s.pending := rfl
@[simp] theorem State.updChg_rd (x : Nat) : (s.updChg f).rd x = s.rd x := rfl
@[simp] theorem State.updChg_get (x : Nat) (g : Fld) : (s.updChg f).get x g = s.get x g := rfl
@[simp] theorem State.updChg_getI (x : Nat) (g : Fld) : (s.updChg f).getI x g = s.getI x g := rfl
@[simp] theorem State.updChg_flag (x : Nat) (g : Fld) : (s.updChg f).flag x g = s.flag x g := rfl

end

/-! ### State.updGg -/

section
variable (s : State) (f : GgSt → GgSt)

@[simp] theorem State.updGg_regs : (s.updGg f).regs = s.regs := rfl
@[simp] theorem State.updGg_snap : (s.updGg f).snap = s.snap := rfl
@[simp] theorem State.updGg_mr : (s.updGg f).mr = s.mr := rfl
@[simp] theorem State.updGg_mram : (s.updGg f).mram = s.mram := rfl
@[simp] theorem State.updGg_itcm : (s.updGg f).itcm = s.itcm := rfl
@[simp] theorem State.updGg_dtcm : (s.updGg f).dtcm = s.dtcm := rfl
@[simp] theorem State.updGg_power : (s.updGg f).power = s.power := rfl
@[simp] theorem State.updGg_clk : (s.updGg f).clk = s.clk := rfl
@[simp] theorem State.updGg_proc : (s.updGg f).proc = s.proc := rfl
@[simp] theorem State.updGg_ic : (s.updGg f).ic = s.ic := rfl
@[simp] theorem State.updGg_proof : (s.updGg f).proof = s.proof := rfl
@[simp] theorem State.updGg_loops : (s.updGg f).loops = s.loops := rfl
@[simp] theorem State.updGg_phases : (s.updGg f).phases = s.phases := rfl
@[simp] theorem State.updGg_pe : (s.updGg f).pe = s.pe := rfl
@[simp] theorem State.updGg_regul : (s.updGg f).regul = s.regul := rfl
@[simp] theorem State.updGg_seg : (s.updGg f).seg = s.seg := rfl
@[simp] theorem State.updGg_seq : (s.updGg f).seq = s.seq := rfl
@[simp] theorem State.updGg_gpio : (s.updGg f).gpio = s.gpio := rfl
@[simp] theorem State.updGg_ctx : (s.updGg f).ctx = s.ctx := rfl
@[simp] theorem State.updGg_th : (s.updGg f).th = s.th := rfl
@[simp] theorem State.updGg_adc : (s.updGg f).adc = s.adc := rfl
@[simp] theorem State.updGg_feeds : (s.updGg f).feeds = s.feeds := rfl
@[simp] theorem State.updGg_chg : (s.updGg f).chg = s.chg := rfl
@[simp] theorem State.updGg_gg : (s.updGg f).gg = f s.gg := rfl
@[simp] theorem State.updGg_est : (s.updGg f).est = s.est := rfl
@[simp] theorem State.updGg_flt : (s.updGg f).flt = s.flt := rfl
@[simp] theorem State.updGg_fuse : (s.updGg f).fuse = s.fuse := rfl
@[simp] theorem State.updGg_wd : (s.updGg f).wd = s.wd := rfl
@[simp] theorem State.updGg_plate : (s.updGg f).plate = s.plate := rfl
@[simp] theorem State.updGg_nv : (s.updGg f).nv = s.nv := rfl
@[simp] theorem State.updGg_bak : (s.updGg f).bak = s.bak := rfl
@[simp] theorem State.updGg_opt : (s.updGg f).opt = s.opt := rfl
@[simp] theorem State.updGg_ports : (s.updGg f).ports = s.ports := rfl
@[simp] theorem State.updGg_layers : (s.updGg f).layers = s.layers := rfl
@[simp] theorem State.updGg_tags : (s.updGg f).tags = s.tags := rfl
@[simp] theorem State.updGg_link : (s.updGg f).link = s.link := rfl
@[simp] theorem State.updGg_aux : (s.updGg f).aux = s.aux := rfl
@[simp] theorem State.updGg_fw : (s.updGg f).fw = s.fw := rfl
@[simp] theorem State.updGg_sys : (s.updGg f).sys = s.sys := rfl
@[simp] theorem State.updGg_out : (s.updGg f).out = s.out := rfl
@[simp] theorem State.updGg_wire : (s.updGg f).wire = s.wire := rfl
@[simp] theorem State.updGg_freeCtr : (s.updGg f).freeCtr = s.freeCtr := rfl
@[simp] theorem State.updGg_acks : (s.updGg f).acks = s.acks := rfl
@[simp] theorem State.updGg_locked : (s.updGg f).locked = s.locked := rfl
@[simp] theorem State.updGg_pending : (s.updGg f).pending = s.pending := rfl
@[simp] theorem State.updGg_rd (x : Nat) : (s.updGg f).rd x = s.rd x := rfl
@[simp] theorem State.updGg_get (x : Nat) (g : Fld) : (s.updGg f).get x g = s.get x g := rfl
@[simp] theorem State.updGg_getI (x : Nat) (g : Fld) : (s.updGg f).getI x g = s.getI x g := rfl
@[simp] theorem State.updGg_flag (x : Nat) (g : Fld) : (s.updGg f).flag x g = s.flag x g := rfl

end

/-! ### State.updEst -/

section
variable (s : State) (f : EstSt → EstSt)

@[simp] theorem State.updEst_regs : (s.updEst f).regs = s.regs := rfl
@[simp] theorem State.updEst_snap : (s.updEst f).snap = s.snap := rfl
@[simp] theorem State.updEst_mr : (s.updEst f).mr = s.mr := rfl
@[simp] theorem State.updEst_mram : (s.updEst f).mram = s.mram := rfl
@[simp] theorem State.updEst_itcm : (s.updEst f).itcm = s.itcm := rfl
@[simp] theorem State.updEst_dtcm : (s.updEst f).dtcm = s.dtcm := rfl
@[simp] theorem State.updEst_power : (s.updEst f).power = s.power := rfl
@[simp] theorem State.updEst_clk : (s.updEst f).clk = s.clk := rfl
@[simp] theorem State.updEst_proc : (s.updEst f).proc = s.proc := rfl
@[simp] theorem State.updEst_ic : (s.updEst f).ic = s.ic := rfl
@[simp] theorem State.updEst_proof : (s.updEst f).proof = s.proof := rfl
@[simp] theorem State.updEst_loops : (s.updEst f).loops = s.loops := rfl
@[simp] theorem State.updEst_phases : (s.updEst f).phases = s.phases := rfl
@[simp] theorem State.updEst_pe : (s.updEst f).pe = s.pe := rfl
@[simp] theorem State.updEst_regul : (s.updEst f).regul = s.regul := rfl
@[simp] theorem State.updEst_seg : (s.updEst f).seg = s.seg := rfl
@[simp] theorem State.updEst_seq : (s.updEst f).seq = s.seq := rfl
@[simp] theorem State.updEst_gpio : (s.updEst f).gpio = s.gpio := rfl
@[simp] theorem State.updEst_ctx : (s.updEst f).ctx = s.ctx := rfl
@[simp] theorem State.updEst_th : (s.updEst f).th = s.th := rfl
@[simp] theorem State.updEst_adc : (s.updEst f).adc = s.adc := rfl
@[simp] theorem State.updEst_feeds : (s.updEst f).feeds = s.feeds := rfl
@[simp] theorem State.updEst_chg : (s.updEst f).chg = s.chg := rfl
@[simp] theorem State.updEst_gg : (s.updEst f).gg = s.gg := rfl
@[simp] theorem State.updEst_est : (s.updEst f).est = f s.est := rfl
@[simp] theorem State.updEst_flt : (s.updEst f).flt = s.flt := rfl
@[simp] theorem State.updEst_fuse : (s.updEst f).fuse = s.fuse := rfl
@[simp] theorem State.updEst_wd : (s.updEst f).wd = s.wd := rfl
@[simp] theorem State.updEst_plate : (s.updEst f).plate = s.plate := rfl
@[simp] theorem State.updEst_nv : (s.updEst f).nv = s.nv := rfl
@[simp] theorem State.updEst_bak : (s.updEst f).bak = s.bak := rfl
@[simp] theorem State.updEst_opt : (s.updEst f).opt = s.opt := rfl
@[simp] theorem State.updEst_ports : (s.updEst f).ports = s.ports := rfl
@[simp] theorem State.updEst_layers : (s.updEst f).layers = s.layers := rfl
@[simp] theorem State.updEst_tags : (s.updEst f).tags = s.tags := rfl
@[simp] theorem State.updEst_link : (s.updEst f).link = s.link := rfl
@[simp] theorem State.updEst_aux : (s.updEst f).aux = s.aux := rfl
@[simp] theorem State.updEst_fw : (s.updEst f).fw = s.fw := rfl
@[simp] theorem State.updEst_sys : (s.updEst f).sys = s.sys := rfl
@[simp] theorem State.updEst_out : (s.updEst f).out = s.out := rfl
@[simp] theorem State.updEst_wire : (s.updEst f).wire = s.wire := rfl
@[simp] theorem State.updEst_freeCtr : (s.updEst f).freeCtr = s.freeCtr := rfl
@[simp] theorem State.updEst_acks : (s.updEst f).acks = s.acks := rfl
@[simp] theorem State.updEst_locked : (s.updEst f).locked = s.locked := rfl
@[simp] theorem State.updEst_pending : (s.updEst f).pending = s.pending := rfl
@[simp] theorem State.updEst_rd (x : Nat) : (s.updEst f).rd x = s.rd x := rfl
@[simp] theorem State.updEst_get (x : Nat) (g : Fld) : (s.updEst f).get x g = s.get x g := rfl
@[simp] theorem State.updEst_getI (x : Nat) (g : Fld) : (s.updEst f).getI x g = s.getI x g := rfl
@[simp] theorem State.updEst_flag (x : Nat) (g : Fld) : (s.updEst f).flag x g = s.flag x g := rfl

end

/-! ### State.updAdc -/

section
variable (s : State) (f : AdcSt → AdcSt)

@[simp] theorem State.updAdc_regs : (s.updAdc f).regs = s.regs := rfl
@[simp] theorem State.updAdc_snap : (s.updAdc f).snap = s.snap := rfl
@[simp] theorem State.updAdc_mr : (s.updAdc f).mr = s.mr := rfl
@[simp] theorem State.updAdc_mram : (s.updAdc f).mram = s.mram := rfl
@[simp] theorem State.updAdc_itcm : (s.updAdc f).itcm = s.itcm := rfl
@[simp] theorem State.updAdc_dtcm : (s.updAdc f).dtcm = s.dtcm := rfl
@[simp] theorem State.updAdc_power : (s.updAdc f).power = s.power := rfl
@[simp] theorem State.updAdc_clk : (s.updAdc f).clk = s.clk := rfl
@[simp] theorem State.updAdc_proc : (s.updAdc f).proc = s.proc := rfl
@[simp] theorem State.updAdc_ic : (s.updAdc f).ic = s.ic := rfl
@[simp] theorem State.updAdc_proof : (s.updAdc f).proof = s.proof := rfl
@[simp] theorem State.updAdc_loops : (s.updAdc f).loops = s.loops := rfl
@[simp] theorem State.updAdc_phases : (s.updAdc f).phases = s.phases := rfl
@[simp] theorem State.updAdc_pe : (s.updAdc f).pe = s.pe := rfl
@[simp] theorem State.updAdc_regul : (s.updAdc f).regul = s.regul := rfl
@[simp] theorem State.updAdc_seg : (s.updAdc f).seg = s.seg := rfl
@[simp] theorem State.updAdc_seq : (s.updAdc f).seq = s.seq := rfl
@[simp] theorem State.updAdc_gpio : (s.updAdc f).gpio = s.gpio := rfl
@[simp] theorem State.updAdc_ctx : (s.updAdc f).ctx = s.ctx := rfl
@[simp] theorem State.updAdc_th : (s.updAdc f).th = s.th := rfl
@[simp] theorem State.updAdc_adc : (s.updAdc f).adc = f s.adc := rfl
@[simp] theorem State.updAdc_feeds : (s.updAdc f).feeds = s.feeds := rfl
@[simp] theorem State.updAdc_chg : (s.updAdc f).chg = s.chg := rfl
@[simp] theorem State.updAdc_gg : (s.updAdc f).gg = s.gg := rfl
@[simp] theorem State.updAdc_est : (s.updAdc f).est = s.est := rfl
@[simp] theorem State.updAdc_flt : (s.updAdc f).flt = s.flt := rfl
@[simp] theorem State.updAdc_fuse : (s.updAdc f).fuse = s.fuse := rfl
@[simp] theorem State.updAdc_wd : (s.updAdc f).wd = s.wd := rfl
@[simp] theorem State.updAdc_plate : (s.updAdc f).plate = s.plate := rfl
@[simp] theorem State.updAdc_nv : (s.updAdc f).nv = s.nv := rfl
@[simp] theorem State.updAdc_bak : (s.updAdc f).bak = s.bak := rfl
@[simp] theorem State.updAdc_opt : (s.updAdc f).opt = s.opt := rfl
@[simp] theorem State.updAdc_ports : (s.updAdc f).ports = s.ports := rfl
@[simp] theorem State.updAdc_layers : (s.updAdc f).layers = s.layers := rfl
@[simp] theorem State.updAdc_tags : (s.updAdc f).tags = s.tags := rfl
@[simp] theorem State.updAdc_link : (s.updAdc f).link = s.link := rfl
@[simp] theorem State.updAdc_aux : (s.updAdc f).aux = s.aux := rfl
@[simp] theorem State.updAdc_fw : (s.updAdc f).fw = s.fw := rfl
@[simp] theorem State.updAdc_sys : (s.updAdc f).sys = s.sys := rfl
@[simp] theorem State.updAdc_out : (s.updAdc f).out = s.out := rfl
@[simp] theorem State.updAdc_wire : (s.updAdc f).wire = s.wire := rfl
@[simp] theorem State.updAdc_freeCtr : (s.updAdc f).freeCtr = s.freeCtr := rfl
@[simp] theorem State.updAdc_acks : (s.updAdc f).acks = s.acks := rfl
@[simp] theorem State.updAdc_locked : (s.updAdc f).locked = s.locked := rfl
@[simp] theorem State.updAdc_pending : (s.updAdc f).pending = s.pending := rfl
@[simp] theorem State.updAdc_rd (x : Nat) : (s.updAdc f).rd x = s.rd x := rfl
@[simp] theorem State.updAdc_get (x : Nat) (g : Fld) : (s.updAdc f).get x g = s.get x g := rfl
@[simp] theorem State.updAdc_getI (x : Nat) (g : Fld) : (s.updAdc f).getI x g = s.getI x g := rfl
@[simp] theorem State.updAdc_flag (x : Nat) (g : Fld) : (s.updAdc f).flag x g = s.flag x g := rfl

end

/-! ### State.updClk -/

section
variable (s : State) (f : ClkSt → ClkSt)

@[simp] theorem State.updClk_regs : (s.updClk f).regs = s.regs := rfl
@[simp] theorem State.updClk_snap : (s.updClk f).snap = s.snap := rfl
@[simp] theorem State.updClk_mr : (s.updClk f).mr = s.mr := rfl
@[simp] theorem State.updClk_mram : (s.updClk f).mram = s.mram := rfl
@[simp] theorem State.updClk_itcm : (s.updClk f).itcm = s.itcm := rfl
@[simp] theorem State.updClk_dtcm : (s.updClk f).dtcm = s.dtcm := rfl
@[simp] theorem State.updClk_power : (s.updClk f).power = s.power := rfl
@[simp] theorem State.updClk_clk : (s.updClk f).clk = f s.clk := rfl
@[simp] theorem State.updClk_proc : (s.updClk f).proc = s.proc := rfl
@[simp] theorem State.updClk_ic : (s.updClk f).ic = s.ic := rfl
@[simp] theorem State.updClk_proof : (s.updClk f).proof = s.proof := rfl
@[simp] theorem State.updClk_loops : (s.updClk f).loops = s.loops := rfl
@[simp] theorem State.updClk_phases : (s.updClk f).phases = s.phases := rfl
@[simp] theorem State.updClk_pe : (s.updClk f).pe = s.pe := rfl
@[simp] theorem State.updClk_regul : (s.updClk f).regul = s.regul := rfl
@[simp] theorem State.updClk_seg : (s.updClk f).seg = s.seg := rfl
@[simp] theorem State.updClk_seq : (s.updClk f).seq = s.seq := rfl
@[simp] theorem State.updClk_gpio : (s.updClk f).gpio = s.gpio := rfl
@[simp] theorem State.updClk_ctx : (s.updClk f).ctx = s.ctx := rfl
@[simp] theorem State.updClk_th : (s.updClk f).th = s.th := rfl
@[simp] theorem State.updClk_adc : (s.updClk f).adc = s.adc := rfl
@[simp] theorem State.updClk_feeds : (s.updClk f).feeds = s.feeds := rfl
@[simp] theorem State.updClk_chg : (s.updClk f).chg = s.chg := rfl
@[simp] theorem State.updClk_gg : (s.updClk f).gg = s.gg := rfl
@[simp] theorem State.updClk_est : (s.updClk f).est = s.est := rfl
@[simp] theorem State.updClk_flt : (s.updClk f).flt = s.flt := rfl
@[simp] theorem State.updClk_fuse : (s.updClk f).fuse = s.fuse := rfl
@[simp] theorem State.updClk_wd : (s.updClk f).wd = s.wd := rfl
@[simp] theorem State.updClk_plate : (s.updClk f).plate = s.plate := rfl
@[simp] theorem State.updClk_nv : (s.updClk f).nv = s.nv := rfl
@[simp] theorem State.updClk_bak : (s.updClk f).bak = s.bak := rfl
@[simp] theorem State.updClk_opt : (s.updClk f).opt = s.opt := rfl
@[simp] theorem State.updClk_ports : (s.updClk f).ports = s.ports := rfl
@[simp] theorem State.updClk_layers : (s.updClk f).layers = s.layers := rfl
@[simp] theorem State.updClk_tags : (s.updClk f).tags = s.tags := rfl
@[simp] theorem State.updClk_link : (s.updClk f).link = s.link := rfl
@[simp] theorem State.updClk_aux : (s.updClk f).aux = s.aux := rfl
@[simp] theorem State.updClk_fw : (s.updClk f).fw = s.fw := rfl
@[simp] theorem State.updClk_sys : (s.updClk f).sys = s.sys := rfl
@[simp] theorem State.updClk_out : (s.updClk f).out = s.out := rfl
@[simp] theorem State.updClk_wire : (s.updClk f).wire = s.wire := rfl
@[simp] theorem State.updClk_freeCtr : (s.updClk f).freeCtr = s.freeCtr := rfl
@[simp] theorem State.updClk_acks : (s.updClk f).acks = s.acks := rfl
@[simp] theorem State.updClk_locked : (s.updClk f).locked = s.locked := rfl
@[simp] theorem State.updClk_pending : (s.updClk f).pending = s.pending := rfl
@[simp] theorem State.updClk_rd (x : Nat) : (s.updClk f).rd x = s.rd x := rfl
@[simp] theorem State.updClk_get (x : Nat) (g : Fld) : (s.updClk f).get x g = s.get x g := rfl
@[simp] theorem State.updClk_getI (x : Nat) (g : Fld) : (s.updClk f).getI x g = s.getI x g := rfl
@[simp] theorem State.updClk_flag (x : Nat) (g : Fld) : (s.updClk f).flag x g = s.flag x g := rfl

end

/-! ### State.updNv -/

section
variable (s : State) (f : NvSt → NvSt)

@[simp] theorem State.updNv_regs : (s.updNv f).regs = s.regs := rfl
@[simp] theorem State.updNv_snap : (s.updNv f).snap = s.snap := rfl
@[simp] theorem State.updNv_mr : (s.updNv f).mr = s.mr := rfl
@[simp] theorem State.updNv_mram : (s.updNv f).mram = s.mram := rfl
@[simp] theorem State.updNv_itcm : (s.updNv f).itcm = s.itcm := rfl
@[simp] theorem State.updNv_dtcm : (s.updNv f).dtcm = s.dtcm := rfl
@[simp] theorem State.updNv_power : (s.updNv f).power = s.power := rfl
@[simp] theorem State.updNv_clk : (s.updNv f).clk = s.clk := rfl
@[simp] theorem State.updNv_proc : (s.updNv f).proc = s.proc := rfl
@[simp] theorem State.updNv_ic : (s.updNv f).ic = s.ic := rfl
@[simp] theorem State.updNv_proof : (s.updNv f).proof = s.proof := rfl
@[simp] theorem State.updNv_loops : (s.updNv f).loops = s.loops := rfl
@[simp] theorem State.updNv_phases : (s.updNv f).phases = s.phases := rfl
@[simp] theorem State.updNv_pe : (s.updNv f).pe = s.pe := rfl
@[simp] theorem State.updNv_regul : (s.updNv f).regul = s.regul := rfl
@[simp] theorem State.updNv_seg : (s.updNv f).seg = s.seg := rfl
@[simp] theorem State.updNv_seq : (s.updNv f).seq = s.seq := rfl
@[simp] theorem State.updNv_gpio : (s.updNv f).gpio = s.gpio := rfl
@[simp] theorem State.updNv_ctx : (s.updNv f).ctx = s.ctx := rfl
@[simp] theorem State.updNv_th : (s.updNv f).th = s.th := rfl
@[simp] theorem State.updNv_adc : (s.updNv f).adc = s.adc := rfl
@[simp] theorem State.updNv_feeds : (s.updNv f).feeds = s.feeds := rfl
@[simp] theorem State.updNv_chg : (s.updNv f).chg = s.chg := rfl
@[simp] theorem State.updNv_gg : (s.updNv f).gg = s.gg := rfl
@[simp] theorem State.updNv_est : (s.updNv f).est = s.est := rfl
@[simp] theorem State.updNv_flt : (s.updNv f).flt = s.flt := rfl
@[simp] theorem State.updNv_fuse : (s.updNv f).fuse = s.fuse := rfl
@[simp] theorem State.updNv_wd : (s.updNv f).wd = s.wd := rfl
@[simp] theorem State.updNv_plate : (s.updNv f).plate = s.plate := rfl
@[simp] theorem State.updNv_nv : (s.updNv f).nv = f s.nv := rfl
@[simp] theorem State.updNv_bak : (s.updNv f).bak = s.bak := rfl
@[simp] theorem State.updNv_opt : (s.updNv f).opt = s.opt := rfl
@[simp] theorem State.updNv_ports : (s.updNv f).ports = s.ports := rfl
@[simp] theorem State.updNv_layers : (s.updNv f).layers = s.layers := rfl
@[simp] theorem State.updNv_tags : (s.updNv f).tags = s.tags := rfl
@[simp] theorem State.updNv_link : (s.updNv f).link = s.link := rfl
@[simp] theorem State.updNv_aux : (s.updNv f).aux = s.aux := rfl
@[simp] theorem State.updNv_fw : (s.updNv f).fw = s.fw := rfl
@[simp] theorem State.updNv_sys : (s.updNv f).sys = s.sys := rfl
@[simp] theorem State.updNv_out : (s.updNv f).out = s.out := rfl
@[simp] theorem State.updNv_wire : (s.updNv f).wire = s.wire := rfl
@[simp] theorem State.updNv_freeCtr : (s.updNv f).freeCtr = s.freeCtr := rfl
@[simp] theorem State.updNv_acks : (s.updNv f).acks = s.acks := rfl
@[simp] theorem State.updNv_locked : (s.updNv f).locked = s.locked := rfl
@[simp] theorem State.updNv_pending : (s.updNv f).pending = s.pending := rfl
@[simp] theorem State.updNv_rd (x : Nat) : (s.updNv f).rd x = s.rd x := rfl
@[simp] theorem State.updNv_get (x : Nat) (g : Fld) : (s.updNv f).get x g = s.get x g := rfl
@[simp] theorem State.updNv_getI (x : Nat) (g : Fld) : (s.updNv f).getI x g = s.getI x g := rfl
@[simp] theorem State.updNv_flag (x : Nat) (g : Fld) : (s.updNv f).flag x g = s.flag x g := rfl

end

/-! ### State.updPlate -/

section
variable (s : State) (f : PlateSt → PlateSt)

@[simp] theorem State.updPlate_regs : (s.updPlate f).regs = s.regs := rfl
@[simp] theorem State.updPlate_snap : (s.updPlate f).snap = s.snap := rfl
@[simp] theorem State.updPlate_mr : (s.updPlate f).mr = s.mr := rfl
@[simp] theorem State.updPlate_mram : (s.updPlate f).mram = s.mram := rfl
@[simp] theorem State.updPlate_itcm : (s.updPlate f).itcm = s.itcm := rfl
@[simp] theorem State.updPlate_dtcm : (s.updPlate f).dtcm = s.dtcm := rfl
@[simp] theorem State.updPlate_power : (s.updPlate f).power = s.power := rfl
@[simp] theorem State.updPlate_clk : (s.updPlate f).clk = s.clk := rfl
@[simp] theorem State.updPlate_proc : (s.updPlate f).proc = s.proc := rfl
@[simp] theorem State.updPlate_ic : (s.updPlate f).ic = s.ic := rfl
@[simp] theorem State.updPlate_proof : (s.updPlate f).proof = s.proof := rfl
@[simp] theorem State.updPlate_loops : (s.updPlate f).loops = s.loops := rfl
@[simp] theorem State.updPlate_phases : (s.updPlate f).phases = s.phases := rfl
@[simp] theorem State.updPlate_pe : (s.updPlate f).pe = s.pe := rfl
@[simp] theorem State.updPlate_regul : (s.updPlate f).regul = s.regul := rfl
@[simp] theorem State.updPlate_seg : (s.updPlate f).seg = s.seg := rfl
@[simp] theorem State.updPlate_seq : (s.updPlate f).seq = s.seq := rfl
@[simp] theorem State.updPlate_gpio : (s.updPlate f).gpio = s.gpio := rfl
@[simp] theorem State.updPlate_ctx : (s.updPlate f).ctx = s.ctx := rfl
@[simp] theorem State.updPlate_th : (s.updPlate f).th = s.th := rfl
@[simp] theorem State.updPlate_adc : (s.updPlate f).adc = s.adc := rfl
@[simp] theorem State.updPlate_feeds : (s.updPlate f).feeds = s.feeds := rfl
@[simp] theorem State.updPlate_chg : (s.updPlate f).chg = s.chg := rfl
@[simp] theorem State.updPlate_gg : (s.updPlate f).gg = s.gg := rfl
@[simp] theorem State.updPlate_est : (s.updPlate f).est = s.est := rfl
@[simp] theorem State.updPlate_flt : (s.updPlate f).flt = s.flt := rfl
@[simp] theorem State.updPlate_fuse : (s.updPlate f).fuse = s.fuse := rfl
@[simp] theorem State.updPlate_wd : (s.updPlate f).wd = s.wd := rfl
@[simp] theorem State.updPlate_plate : (s.updPlate f).plate = f s.plate := rfl
@[simp] theorem State.updPlate_nv : (s.updPlate f).nv = s.nv := rfl
@[simp] theorem State.updPlate_bak : (s.updPlate f).bak = s.bak := rfl
@[simp] theorem State.updPlate_opt : (s.updPlate f).opt = s.opt := rfl
@[simp] theorem State.updPlate_ports : (s.updPlate f).ports = s.ports := rfl
@[simp] theorem State.updPlate_layers : (s.updPlate f).layers = s.layers := rfl
@[simp] theorem State.updPlate_tags : (s.updPlate f).tags = s.tags := rfl
@[simp] theorem State.updPlate_link : (s.updPlate f).link = s.link := rfl
@[simp] theorem State.updPlate_aux : (s.updPlate f).aux = s.aux := rfl
@[simp] theorem State.updPlate_fw : (s.updPlate f).fw = s.fw := rfl
@[simp] theorem State.updPlate_sys : (s.updPlate f).sys = s.sys := rfl
@[simp] theorem State.updPlate_out : (s.updPlate f).out = s.out := rfl
@[simp] theorem State.updPlate_wire : (s.updPlate f).wire = s.wire := rfl
@[simp] theorem State.updPlate_freeCtr : (s.updPlate f).freeCtr = s.freeCtr := rfl
@[simp] theorem State.updPlate_acks : (s.updPlate f).acks = s.acks := rfl
@[simp] theorem State.updPlate_locked : (s.updPlate f).locked = s.locked := rfl
@[simp] theorem State.updPlate_pending : (s.updPlate f).pending = s.pending := rfl
@[simp] theorem State.updPlate_rd (x : Nat) : (s.updPlate f).rd x = s.rd x := rfl
@[simp] theorem State.updPlate_get (x : Nat) (g : Fld) : (s.updPlate f).get x g = s.get x g := rfl
@[simp] theorem State.updPlate_getI (x : Nat) (g : Fld) : (s.updPlate f).getI x g = s.getI x g := rfl
@[simp] theorem State.updPlate_flag (x : Nat) (g : Fld) : (s.updPlate f).flag x g = s.flag x g := rfl

end

/-! ### State.updBak -/

section
variable (s : State) (f : BakSt → BakSt)

@[simp] theorem State.updBak_regs : (s.updBak f).regs = s.regs := rfl
@[simp] theorem State.updBak_snap : (s.updBak f).snap = s.snap := rfl
@[simp] theorem State.updBak_mr : (s.updBak f).mr = s.mr := rfl
@[simp] theorem State.updBak_mram : (s.updBak f).mram = s.mram := rfl
@[simp] theorem State.updBak_itcm : (s.updBak f).itcm = s.itcm := rfl
@[simp] theorem State.updBak_dtcm : (s.updBak f).dtcm = s.dtcm := rfl
@[simp] theorem State.updBak_power : (s.updBak f).power = s.power := rfl
@[simp] theorem State.updBak_clk : (s.updBak f).clk = s.clk := rfl
@[simp] theorem State.updBak_proc : (s.updBak f).proc = s.proc := rfl
@[simp] theorem State.updBak_ic : (s.updBak f).ic = s.ic := rfl
@[simp] theorem State.updBak_proof : (s.updBak f).proof = s.proof := rfl
@[simp] theorem State.updBak_loops : (s.updBak f).loops = s.loops := rfl
@[simp] theorem State.updBak_phases : (s.updBak f).phases = s.phases := rfl
@[simp] theorem State.updBak_pe : (s.updBak f).pe = s.pe := rfl
@[simp] theorem State.updBak_regul : (s.updBak f).regul = s.regul := rfl
@[simp] theorem State.updBak_seg : (s.updBak f).seg = s.seg := rfl
@[simp] theorem State.updBak_seq : (s.updBak f).seq = s.seq := rfl
@[simp] theorem State.updBak_gpio : (s.updBak f).gpio = s.gpio := rfl
@[simp] theorem State.updBak_ctx : (s.updBak f).ctx = s.ctx := rfl
@[simp] theorem State.updBak_th : (s.updBak f).th = s.th := rfl
@[simp] theorem State.updBak_adc : (s.updBak f).adc = s.adc := rfl
@[simp] theorem State.updBak_feeds : (s.updBak f).feeds = s.feeds := rfl
@[simp] theorem State.updBak_chg : (s.updBak f).chg = s.chg := rfl
@[simp] theorem State.updBak_gg : (s.updBak f).gg = s.gg := rfl
@[simp] theorem State.updBak_est : (s.updBak f).est = s.est := rfl
@[simp] theorem State.updBak_flt : (s.updBak f).flt = s.flt := rfl
@[simp] theorem State.updBak_fuse : (s.updBak f).fuse = s.fuse := rfl
@[simp] theorem State.updBak_wd : (s.updBak f).wd = s.wd := rfl
@[simp] theorem State.updBak_plate : (s.updBak f).plate = s.plate := rfl
@[simp] theorem State.updBak_nv : (s.updBak f).nv = s.nv := rfl
@[simp] theorem State.updBak_bak : (s.updBak f).bak = f s.bak := rfl
@[simp] theorem State.updBak_opt : (s.updBak f).opt = s.opt := rfl
@[simp] theorem State.updBak_ports : (s.updBak f).ports = s.ports := rfl
@[simp] theorem State.updBak_layers : (s.updBak f).layers = s.layers := rfl
@[simp] theorem State.updBak_tags : (s.updBak f).tags = s.tags := rfl
@[simp] theorem State.updBak_link : (s.updBak f).link = s.link := rfl
@[simp] theorem State.updBak_aux : (s.updBak f).aux = s.aux := rfl
@[simp] theorem State.updBak_fw : (s.updBak f).fw = s.fw := rfl
@[simp] theorem State.updBak_sys : (s.updBak f).sys = s.sys := rfl
@[simp] theorem State.updBak_out : (s.updBak f).out = s.out := rfl
@[simp] theorem State.updBak_wire : (s.updBak f).wire = s.wire := rfl
@[simp] theorem State.updBak_freeCtr : (s.updBak f).freeCtr = s.freeCtr := rfl
@[simp] theorem State.updBak_acks : (s.updBak f).acks = s.acks := rfl
@[simp] theorem State.updBak_locked : (s.updBak f).locked = s.locked := rfl
@[simp] theorem State.updBak_pending : (s.updBak f).pending = s.pending := rfl
@[simp] theorem State.updBak_rd (x : Nat) : (s.updBak f).rd x = s.rd x := rfl
@[simp] theorem State.updBak_get (x : Nat) (g : Fld) : (s.updBak f).get x g = s.get x g := rfl
@[simp] theorem State.updBak_getI (x : Nat) (g : Fld) : (s.updBak f).getI x g = s.getI x g := rfl
@[simp] theorem State.updBak_flag (x : Nat) (g : Fld) : (s.updBak f).flag x g = s.flag x g := rfl

end

/-! ### State.updOpt -/

section
variable (s : State) (f : OptSt → OptSt)

@[simp] theorem State.updOpt_regs : (s.updOpt f).regs = s.regs := rfl
@[simp] theorem State.updOpt_snap : (s.updOpt f).snap = s.snap := rfl
@[simp] theorem State.updOpt_mr : (s.updOpt f).mr = s.mr := rfl
@[simp] theorem State.updOpt_mram : (s.updOpt f).mram = s.mram := rfl
@[simp] theorem State.updOpt_itcm : (s.updOpt f).itcm = s.itcm := rfl
@[simp] theorem State.updOpt_dtcm : (s.updOpt f).dtcm = s.dtcm := rfl
@[simp] theorem State.updOpt_power : (s.updOpt f).power = s.power := rfl
@[simp] theorem State.updOpt_clk : (s.updOpt f).clk = s.clk := rfl
@[simp] theorem State.updOpt_proc : (s.updOpt f).proc = s.proc := rfl
@[simp] theorem State.updOpt_ic : (s.updOpt f).ic = s.ic := rfl
@[simp] theorem State.updOpt_proof : (s.updOpt f).proof = s.proof := rfl
@[simp] theorem State.updOpt_loops : (s.updOpt f).loops = s.loops := rfl
@[simp] theorem State.updOpt_phases : (s.updOpt f).phases = s.phases := rfl
@[simp] theorem State.updOpt_pe : (s.updOpt f).pe = s.pe := rfl
@[simp] theorem State.updOpt_regul : (s.updOpt f).regul = s.regul := rfl
@[simp] theorem State.updOpt_seg : (s.updOpt f).seg = s.seg := rfl
@[simp] theorem State.updOpt_seq : (s.updOpt f).seq = s.seq := rfl
@[simp] theorem State.updOpt_gpio : (s.updOpt f).gpio = s.gpio := rfl
@[simp] theorem State.updOpt_ctx : (s.updOpt f).ctx = s.ctx := rfl
@[simp] theorem State.updOpt_th : (s.updOpt f).th = s.th := rfl
@[simp] theorem State.updOpt_adc : (s.updOpt f).adc = s.adc := rfl
@[simp] theorem State.updOpt_feeds : (s.updOpt f).feeds = s.feeds := rfl
@[simp] theorem State.updOpt_chg : (s.updOpt f).chg = s.chg := rfl
@[simp] theorem State.updOpt_gg : (s.updOpt f).gg = s.gg := rfl
@[simp] theorem State.updOpt_est : (s.updOpt f).est = s.est := rfl
@[simp] theorem State.updOpt_flt : (s.updOpt f).flt = s.flt := rfl
@[simp] theorem State.updOpt_fuse : (s.updOpt f).fuse = s.fuse := rfl
@[simp] theorem State.updOpt_wd : (s.updOpt f).wd = s.wd := rfl
@[simp] theorem State.updOpt_plate : (s.updOpt f).plate = s.plate := rfl
@[simp] theorem State.updOpt_nv : (s.updOpt f).nv = s.nv := rfl
@[simp] theorem State.updOpt_bak : (s.updOpt f).bak = s.bak := rfl
@[simp] theorem State.updOpt_opt : (s.updOpt f).opt = f s.opt := rfl
@[simp] theorem State.updOpt_ports : (s.updOpt f).ports = s.ports := rfl
@[simp] theorem State.updOpt_layers : (s.updOpt f).layers = s.layers := rfl
@[simp] theorem State.updOpt_tags : (s.updOpt f).tags = s.tags := rfl
@[simp] theorem State.updOpt_link : (s.updOpt f).link = s.link := rfl
@[simp] theorem State.updOpt_aux : (s.updOpt f).aux = s.aux := rfl
@[simp] theorem State.updOpt_fw : (s.updOpt f).fw = s.fw := rfl
@[simp] theorem State.updOpt_sys : (s.updOpt f).sys = s.sys := rfl
@[simp] theorem State.updOpt_out : (s.updOpt f).out = s.out := rfl
@[simp] theorem State.updOpt_wire : (s.updOpt f).wire = s.wire := rfl
@[simp] theorem State.updOpt_freeCtr : (s.updOpt f).freeCtr = s.freeCtr := rfl
@[simp] theorem State.updOpt_acks : (s.updOpt f).acks = s.acks := rfl
@[simp] theorem State.updOpt_locked : (s.updOpt f).locked = s.locked := rfl
@[simp] theorem State.updOpt_pending : (s.updOpt f).pending = s.pending := rfl
@[simp] theorem State.updOpt_rd (x : Nat) : (s.updOpt f).rd x = s.rd x := rfl
@[simp] theorem State.updOpt_get (x : Nat) (g : Fld) : (s.updOpt f).get x g = s.get x g := rfl
@[simp] theorem State.updOpt_getI (x : Nat) (g : Fld) : (s.updOpt f).getI x g = s.getI x g := rfl
@[simp] theorem State.updOpt_flag (x : Nat) (g : Fld) : (s.updOpt f).flag x g = s.flag x g := rfl

end

/-! ### State.updSeq -/

section
variable (s : State) (f : SeqSt → SeqSt)

@[simp] theorem State.updSeq_regs : (s.updSeq f).regs = s.regs := rfl
@[simp] theorem State.updSeq_snap : (s.updSeq f).snap = s.snap := rfl
@[simp] theorem State.updSeq_mr : (s.updSeq f).mr = s.mr := rfl
@[simp] theorem State.updSeq_mram : (s.updSeq f).mram = s.mram := rfl
@[simp] theorem State.updSeq_itcm : (s.updSeq f).itcm = s.itcm := rfl
@[simp] theorem State.updSeq_dtcm : (s.updSeq f).dtcm = s.dtcm := rfl
@[simp] theorem State.updSeq_power : (s.updSeq f).power = s.power := rfl
@[simp] theorem State.updSeq_clk : (s.updSeq f).clk = s.clk := rfl
@[simp] theorem State.updSeq_proc : (s.updSeq f).proc = s.proc := rfl
@[simp] theorem State.updSeq_ic : (s.updSeq f).ic = s.ic := rfl
@[simp] theorem State.updSeq_proof : (s.updSeq f).proof = s.proof := rfl
@[simp] theorem State.updSeq_loops : (s.updSeq f).loops = s.loops := rfl
@[simp] theorem State.updSeq_phases : (s.updSeq f).phases = s.phases := rfl
@[simp] theorem State.updSeq_pe : (s.updSeq f).pe = s.pe := rfl
@[simp] theorem State.updSeq_regul : (s.updSeq f).regul = s.regul := rfl
@[simp] theorem State.updSeq_seg : (s.updSeq f).seg = s.seg := rfl
@[simp] theorem State.updSeq_seq : (s.updSeq f).seq = f s.seq := rfl
@[simp] theorem State.updSeq_gpio : (s.updSeq f).gpio = s.gpio := rfl
@[simp] theorem State.updSeq_ctx : (s.updSeq f).ctx = s.ctx := rfl
@[simp] theorem State.updSeq_th : (s.updSeq f).th = s.th := rfl
@[simp] theorem State.updSeq_adc : (s.updSeq f).adc = s.adc := rfl
@[simp] theorem State.updSeq_feeds : (s.updSeq f).feeds = s.feeds := rfl
@[simp] theorem State.updSeq_chg : (s.updSeq f).chg = s.chg := rfl
@[simp] theorem State.updSeq_gg : (s.updSeq f).gg = s.gg := rfl
@[simp] theorem State.updSeq_est : (s.updSeq f).est = s.est := rfl
@[simp] theorem State.updSeq_flt : (s.updSeq f).flt = s.flt := rfl
@[simp] theorem State.updSeq_fuse : (s.updSeq f).fuse = s.fuse := rfl
@[simp] theorem State.updSeq_wd : (s.updSeq f).wd = s.wd := rfl
@[simp] theorem State.updSeq_plate : (s.updSeq f).plate = s.plate := rfl
@[simp] theorem State.updSeq_nv : (s.updSeq f).nv = s.nv := rfl
@[simp] theorem State.updSeq_bak : (s.updSeq f).bak = s.bak := rfl
@[simp] theorem State.updSeq_opt : (s.updSeq f).opt = s.opt := rfl
@[simp] theorem State.updSeq_ports : (s.updSeq f).ports = s.ports := rfl
@[simp] theorem State.updSeq_layers : (s.updSeq f).layers = s.layers := rfl
@[simp] theorem State.updSeq_tags : (s.updSeq f).tags = s.tags := rfl
@[simp] theorem State.updSeq_link : (s.updSeq f).link = s.link := rfl
@[simp] theorem State.updSeq_aux : (s.updSeq f).aux = s.aux := rfl
@[simp] theorem State.updSeq_fw : (s.updSeq f).fw = s.fw := rfl
@[simp] theorem State.updSeq_sys : (s.updSeq f).sys = s.sys := rfl
@[simp] theorem State.updSeq_out : (s.updSeq f).out = s.out := rfl
@[simp] theorem State.updSeq_wire : (s.updSeq f).wire = s.wire := rfl
@[simp] theorem State.updSeq_freeCtr : (s.updSeq f).freeCtr = s.freeCtr := rfl
@[simp] theorem State.updSeq_acks : (s.updSeq f).acks = s.acks := rfl
@[simp] theorem State.updSeq_locked : (s.updSeq f).locked = s.locked := rfl
@[simp] theorem State.updSeq_pending : (s.updSeq f).pending = s.pending := rfl
@[simp] theorem State.updSeq_rd (x : Nat) : (s.updSeq f).rd x = s.rd x := rfl
@[simp] theorem State.updSeq_get (x : Nat) (g : Fld) : (s.updSeq f).get x g = s.get x g := rfl
@[simp] theorem State.updSeq_getI (x : Nat) (g : Fld) : (s.updSeq f).getI x g = s.getI x g := rfl
@[simp] theorem State.updSeq_flag (x : Nat) (g : Fld) : (s.updSeq f).flag x g = s.flag x g := rfl

end

/-! ### State.updTh -/

section
variable (s : State) (f : ThSt → ThSt)

@[simp] theorem State.updTh_regs : (s.updTh f).regs = s.regs := rfl
@[simp] theorem State.updTh_snap : (s.updTh f).snap = s.snap := rfl
@[simp] theorem State.updTh_mr : (s.updTh f).mr = s.mr := rfl
@[simp] theorem State.updTh_mram : (s.updTh f).mram = s.mram := rfl
@[simp] theorem State.updTh_itcm : (s.updTh f).itcm = s.itcm := rfl
@[simp] theorem State.updTh_dtcm : (s.updTh f).dtcm = s.dtcm := rfl
@[simp] theorem State.updTh_power : (s.updTh f).power = s.power := rfl
@[simp] theorem State.updTh_clk : (s.updTh f).clk = s.clk := rfl
@[simp] theorem State.updTh_proc : (s.updTh f).proc = s.proc := rfl
@[simp] theorem State.updTh_ic : (s.updTh f).ic = s.ic := rfl
@[simp] theorem State.updTh_proof : (s.updTh f).proof = s.proof := rfl
@[simp] theorem State.updTh_loops : (s.updTh f).loops = s.loops := rfl
@[simp] theorem State.updTh_phases : (s.updTh f).phases = s.phases := rfl
@[simp] theorem State.updTh_pe : (s.updTh f).pe = s.pe := rfl
@[simp] theorem State.updTh_regul : (s.updTh f).regul = s.regul := rfl
@[simp] theorem State.updTh_seg : (s.updTh f).seg = s.seg := rfl
@[simp] theorem State.updTh_seq : (s.updTh f).seq = s.seq := rfl
@[simp] theorem State.updTh_gpio : (s.updTh f).gpio = s.gpio := rfl
@[simp] theorem State.updTh_ctx : (s.updTh f).ctx = s.ctx := rfl
@[simp] theorem State.updTh_th : (s.updTh f).th = f s.th := rfl
@[simp] theorem State.updTh_adc : (s.updTh f).adc = s.adc := rfl
@[simp] theorem State.updTh_feeds : (s.updTh f).feeds = s.feeds := rfl
@[simp] theorem State.updTh_chg : (s.updTh f).chg = s.chg := rfl
@[simp] theorem State.updTh_gg : (s.updTh f).gg = s.gg := rfl
@[simp] theorem State.updTh_est : (s.updTh f).est = s.est := rfl
@[simp] theorem State.updTh_flt : (s.updTh f).flt = s.flt := rfl
@[simp] theorem State.updTh_fuse : (s.updTh f).fuse = s.fuse := rfl
@[simp] theorem State.updTh_wd : (s.updTh f).wd = s.wd := rfl
@[simp] theorem State.updTh_plate : (s.updTh f).plate = s.plate := rfl
@[simp] theorem State.updTh_nv : (s.updTh f).nv = s.nv := rfl
@[simp] theorem State.updTh_bak : (s.updTh f).bak = s.bak := rfl
@[simp] theorem State.updTh_opt : (s.updTh f).opt = s.opt := rfl
@[simp] theorem State.updTh_ports : (s.updTh f).ports = s.ports := rfl
@[simp] theorem State.updTh_layers : (s.updTh f).layers = s.layers := rfl
@[simp] theorem State.updTh_tags : (s.updTh f).tags = s.tags := rfl
@[simp] theorem State.updTh_link : (s.updTh f).link = s.link := rfl
@[simp] theorem State.updTh_aux : (s.updTh f).aux = s.aux := rfl
@[simp] theorem State.updTh_fw : (s.updTh f).fw = s.fw := rfl
@[simp] theorem State.updTh_sys : (s.updTh f).sys = s.sys := rfl
@[simp] theorem State.updTh_out : (s.updTh f).out = s.out := rfl
@[simp] theorem State.updTh_wire : (s.updTh f).wire = s.wire := rfl
@[simp] theorem State.updTh_freeCtr : (s.updTh f).freeCtr = s.freeCtr := rfl
@[simp] theorem State.updTh_acks : (s.updTh f).acks = s.acks := rfl
@[simp] theorem State.updTh_locked : (s.updTh f).locked = s.locked := rfl
@[simp] theorem State.updTh_pending : (s.updTh f).pending = s.pending := rfl
@[simp] theorem State.updTh_rd (x : Nat) : (s.updTh f).rd x = s.rd x := rfl
@[simp] theorem State.updTh_get (x : Nat) (g : Fld) : (s.updTh f).get x g = s.get x g := rfl
@[simp] theorem State.updTh_getI (x : Nat) (g : Fld) : (s.updTh f).getI x g = s.getI x g := rfl
@[simp] theorem State.updTh_flag (x : Nat) (g : Fld) : (s.updTh f).flag x g = s.flag x g := rfl

end

/-! ### State.updWd -/

section
variable (s : State) (f : WdSt → WdSt)

@[simp] theorem State.updWd_regs : (s.updWd f).regs = s.regs := rfl
@[simp] theorem State.updWd_snap : (s.updWd f).snap = s.snap := rfl
@[simp] theorem State.updWd_mr : (s.updWd f).mr = s.mr := rfl
@[simp] theorem State.updWd_mram : (s.updWd f).mram = s.mram := rfl
@[simp] theorem State.updWd_itcm : (s.updWd f).itcm = s.itcm := rfl
@[simp] theorem State.updWd_dtcm : (s.updWd f).dtcm = s.dtcm := rfl
@[simp] theorem State.updWd_power : (s.updWd f).power = s.power := rfl
@[simp] theorem State.updWd_clk : (s.updWd f).clk = s.clk := rfl
@[simp] theorem State.updWd_proc : (s.updWd f).proc = s.proc := rfl
@[simp] theorem State.updWd_ic : (s.updWd f).ic = s.ic := rfl
@[simp] theorem State.updWd_proof : (s.updWd f).proof = s.proof := rfl
@[simp] theorem State.updWd_loops : (s.updWd f).loops = s.loops := rfl
@[simp] theorem State.updWd_phases : (s.updWd f).phases = s.phases := rfl
@[simp] theorem State.updWd_pe : (s.updWd f).pe = s.pe := rfl
@[simp] theorem State.updWd_regul : (s.updWd f).regul = s.regul := rfl
@[simp] theorem State.updWd_seg : (s.updWd f).seg = s.seg := rfl
@[simp] theorem State.updWd_seq : (s.updWd f).seq = s.seq := rfl
@[simp] theorem State.updWd_gpio : (s.updWd f).gpio = s.gpio := rfl
@[simp] theorem State.updWd_ctx : (s.updWd f).ctx = s.ctx := rfl
@[simp] theorem State.updWd_th : (s.updWd f).th = s.th := rfl
@[simp] theorem State.updWd_adc : (s.updWd f).adc = s.adc := rfl
@[simp] theorem State.updWd_feeds : (s.updWd f).feeds = s.feeds := rfl
@[simp] theorem State.updWd_chg : (s.updWd f).chg = s.chg := rfl
@[simp] theorem State.updWd_gg : (s.updWd f).gg = s.gg := rfl
@[simp] theorem State.updWd_est : (s.updWd f).est = s.est := rfl
@[simp] theorem State.updWd_flt : (s.updWd f).flt = s.flt := rfl
@[simp] theorem State.updWd_fuse : (s.updWd f).fuse = s.fuse := rfl
@[simp] theorem State.updWd_wd : (s.updWd f).wd = f s.wd := rfl
@[simp] theorem State.updWd_plate : (s.updWd f).plate = s.plate := rfl
@[simp] theorem State.updWd_nv : (s.updWd f).nv = s.nv := rfl
@[simp] theorem State.updWd_bak : (s.updWd f).bak = s.bak := rfl
@[simp] theorem State.updWd_opt : (s.updWd f).opt = s.opt := rfl
@[simp] theorem State.updWd_ports : (s.updWd f).ports = s.ports := rfl
@[simp] theorem State.updWd_layers : (s.updWd f).layers = s.layers := rfl
@[simp] theorem State.updWd_tags : (s.updWd f).tags = s.tags := rfl
@[simp] theorem State.updWd_link : (s.updWd f).link = s.link := rfl
@[simp] theorem State.updWd_aux : (s.updWd f).aux = s.aux := rfl
@[simp] theorem State.updWd_fw : (s.updWd f).fw = s.fw := rfl
@[simp] theorem State.updWd_sys : (s.updWd f).sys = s.sys := rfl
@[simp] theorem State.updWd_out : (s.updWd f).out = s.out := rfl
@[simp] theorem State.updWd_wire : (s.updWd f).wire = s.wire := rfl
@[simp] theorem State.updWd_freeCtr : (s.updWd f).freeCtr = s.freeCtr := rfl
@[simp] theorem State.updWd_acks : (s.updWd f).acks = s.acks := rfl
@[simp] theorem State.updWd_locked : (s.updWd f).locked = s.locked := rfl
@[simp] theorem State.updWd_pending : (s.updWd f).pending = s.pending := rfl
@[simp] theorem State.updWd_rd (x : Nat) : (s.updWd f).rd x = s.rd x := rfl
@[simp] theorem State.updWd_get (x : Nat) (g : Fld) : (s.updWd f).get x g = s.get x g := rfl
@[simp] theorem State.updWd_getI (x : Nat) (g : Fld) : (s.updWd f).getI x g = s.getI x g := rfl
@[simp] theorem State.updWd_flag (x : Nat) (g : Fld) : (s.updWd f).flag x g = s.flag x g := rfl

end

/-! ### State.updAdcSeq -/

section
variable (s : State) (k : Fin 2) (f : AdcSeqSt → AdcSeqSt)

@[simp] theorem State.updAdcSeq_regs : (s.updAdcSeq k f).regs = s.regs := rfl
@[simp] theorem State.updAdcSeq_snap : (s.updAdcSeq k f).snap = s.snap := rfl
@[simp] theorem State.updAdcSeq_mr : (s.updAdcSeq k f).mr = s.mr := rfl
@[simp] theorem State.updAdcSeq_mram : (s.updAdcSeq k f).mram = s.mram := rfl
@[simp] theorem State.updAdcSeq_itcm : (s.updAdcSeq k f).itcm = s.itcm := rfl
@[simp] theorem State.updAdcSeq_dtcm : (s.updAdcSeq k f).dtcm = s.dtcm := rfl
@[simp] theorem State.updAdcSeq_power : (s.updAdcSeq k f).power = s.power := rfl
@[simp] theorem State.updAdcSeq_clk : (s.updAdcSeq k f).clk = s.clk := rfl
@[simp] theorem State.updAdcSeq_proc : (s.updAdcSeq k f).proc = s.proc := rfl
@[simp] theorem State.updAdcSeq_ic : (s.updAdcSeq k f).ic = s.ic := rfl
@[simp] theorem State.updAdcSeq_proof : (s.updAdcSeq k f).proof = s.proof := rfl
@[simp] theorem State.updAdcSeq_loops : (s.updAdcSeq k f).loops = s.loops := rfl
@[simp] theorem State.updAdcSeq_phases : (s.updAdcSeq k f).phases = s.phases := rfl
@[simp] theorem State.updAdcSeq_pe : (s.updAdcSeq k f).pe = s.pe := rfl
@[simp] theorem State.updAdcSeq_regul : (s.updAdcSeq k f).regul = s.regul := rfl
@[simp] theorem State.updAdcSeq_seg : (s.updAdcSeq k f).seg = s.seg := rfl
@[simp] theorem State.updAdcSeq_seq : (s.updAdcSeq k f).seq = s.seq := rfl
@[simp] theorem State.updAdcSeq_gpio : (s.updAdcSeq k f).gpio = s.gpio := rfl
@[simp] theorem State.updAdcSeq_ctx : (s.updAdcSeq k f).ctx = s.ctx := rfl
@[simp] theorem State.updAdcSeq_th : (s.updAdcSeq k f).th = s.th := rfl
@[simp] theorem State.updAdcSeq_adc :
    (s.updAdcSeq k f).adc = { s.adc with seqs := s.adc.seqs.set k (f s.adc.seqs[k]) } := rfl
@[simp] theorem State.updAdcSeq_feeds : (s.updAdcSeq k f).feeds = s.feeds := rfl
@[simp] theorem State.updAdcSeq_chg : (s.updAdcSeq k f).chg = s.chg := rfl
@[simp] theorem State.updAdcSeq_gg : (s.updAdcSeq k f).gg = s.gg := rfl
@[simp] theorem State.updAdcSeq_est : (s.updAdcSeq k f).est = s.est := rfl
@[simp] theorem State.updAdcSeq_flt : (s.updAdcSeq k f).flt = s.flt := rfl
@[simp] theorem State.updAdcSeq_fuse : (s.updAdcSeq k f).fuse = s.fuse := rfl
@[simp] theorem State.updAdcSeq_wd : (s.updAdcSeq k f).wd = s.wd := rfl
@[simp] theorem State.updAdcSeq_plate : (s.updAdcSeq k f).plate = s.plate := rfl
@[simp] theorem State.updAdcSeq_nv : (s.updAdcSeq k f).nv = s.nv := rfl
@[simp] theorem State.updAdcSeq_bak : (s.updAdcSeq k f).bak = s.bak := rfl
@[simp] theorem State.updAdcSeq_opt : (s.updAdcSeq k f).opt = s.opt := rfl
@[simp] theorem State.updAdcSeq_ports : (s.updAdcSeq k f).ports = s.ports := rfl
@[simp] theorem State.updAdcSeq_layers : (s.updAdcSeq k f).layers = s.layers := rfl
@[simp] theorem State.updAdcSeq_tags : (s.updAdcSeq k f).tags = s.tags := rfl
@[simp] theorem State.updAdcSeq_link : (s.updAdcSeq k f).link = s.link := rfl
@[simp] theorem State.updAdcSeq_aux : (s.updAdcSeq k f).aux = s.aux := rfl
@[simp] theorem State.updAdcSeq_fw : (s.updAdcSeq k f).fw = s.fw := rfl
@[simp] theorem State.updAdcSeq_sys : (s.updAdcSeq k f).sys = s.sys := rfl
@[simp] theorem State.updAdcSeq_out : (s.updAdcSeq k f).out = s.out := rfl
@[simp] theorem State.updAdcSeq_wire : (s.updAdcSeq k f).wire = s.wire := rfl
@[simp] theorem State.updAdcSeq_freeCtr : (s.updAdcSeq k f).freeCtr = s.freeCtr := rfl
@[simp] theorem State.updAdcSeq_acks : (s.updAdcSeq k f).acks = s.acks := rfl
@[simp] theorem State.updAdcSeq_locked : (s.updAdcSeq k f).locked = s.locked := rfl
@[simp] theorem State.updAdcSeq_pending : (s.updAdcSeq k f).pending = s.pending := rfl
@[simp] theorem State.updAdcSeq_rd (x : Nat) : (s.updAdcSeq k f).rd x = s.rd x := rfl
@[simp] theorem State.updAdcSeq_get (x : Nat) (g : Fld) : (s.updAdcSeq k f).get x g = s.get x g := rfl
@[simp] theorem State.updAdcSeq_getI (x : Nat) (g : Fld) : (s.updAdcSeq k f).getI x g = s.getI x g := rfl
@[simp] theorem State.updAdcSeq_flag (x : Nat) (g : Fld) : (s.updAdcSeq k f).flag x g = s.flag x g := rfl

end

/-! ### State.updThr -/

section
variable (s : State) (k : Fin 4) (f : ThrSt → ThrSt)

@[simp] theorem State.updThr_regs : (s.updThr k f).regs = s.regs := rfl
@[simp] theorem State.updThr_snap : (s.updThr k f).snap = s.snap := rfl
@[simp] theorem State.updThr_mr : (s.updThr k f).mr = s.mr := rfl
@[simp] theorem State.updThr_mram : (s.updThr k f).mram = s.mram := rfl
@[simp] theorem State.updThr_itcm : (s.updThr k f).itcm = s.itcm := rfl
@[simp] theorem State.updThr_dtcm : (s.updThr k f).dtcm = s.dtcm := rfl
@[simp] theorem State.updThr_power : (s.updThr k f).power = s.power := rfl
@[simp] theorem State.updThr_clk : (s.updThr k f).clk = s.clk := rfl
@[simp] theorem State.updThr_proc : (s.updThr k f).proc = s.proc := rfl
@[simp] theorem State.updThr_ic : (s.updThr k f).ic = s.ic := rfl
@[simp] theorem State.updThr_proof : (s.updThr k f).proof = s.proof := rfl
@[simp] theorem State.updThr_loops : (s.updThr k f).loops = s.loops := rfl
@[simp] theorem State.updThr_phases : (s.updThr k f).phases = s.phases := rfl
@[simp] theorem State.updThr_pe : (s.updThr k f).pe = s.pe := rfl
@[simp] theorem State.updThr_regul : (s.updThr k f).regul = s.regul := rfl
@[simp] theorem State.updThr_seg : (s.updThr k f).seg = s.seg := rfl
@[simp] theorem State.updThr_seq : (s.updThr k f).seq = { s.seq with thr := s.seq.thr.set k (f s.seq.thr[k]) } := rfl
@[simp] theorem State.updThr_gpio : (s.updThr k f).gpio = s.gpio := rfl
@[simp] theorem State.updThr_ctx : (s.updThr k f).ctx = s.ctx := rfl
@[simp] theorem State.updThr_th : (s.updThr k f).th = s.th := rfl
@[simp] theorem State.updThr_adc : (s.updThr k f).adc = s.adc := rfl
@[simp] theorem State.updThr_feeds : (s.updThr k f).feeds = s.feeds := rfl
@[simp] theorem State.updThr_chg : (s.updThr k f).chg = s.chg := rfl
@[simp] theorem State.updThr_gg : (s.updThr k f).gg = s.gg := rfl
@[simp] theorem State.updThr_est : (s.updThr k f).est = s.est := rfl
@[simp] theorem State.updThr_flt : (s.updThr k f).flt = s.flt := rfl
@[simp] theorem State.updThr_fuse : (s.updThr k f).fuse = s.fuse := rfl
@[simp] theorem State.updThr_wd : (s.updThr k f).wd = s.wd := rfl
@[simp] theorem State.updThr_plate : (s.updThr k f).plate = s.plate := rfl
@[simp] theorem State.updThr_nv : (s.updThr k f).nv = s.nv := rfl
@[simp] theorem State.updThr_bak : (s.updThr k f).bak = s.bak := rfl
@[simp] theorem State.updThr_opt : (s.updThr k f).opt = s.opt := rfl
@[simp] theorem State.updThr_ports : (s.updThr k f).ports = s.ports := rfl
@[simp] theorem State.updThr_layers : (s.updThr k f).layers = s.layers := rfl
@[simp] theorem State.updThr_tags : (s.updThr k f).tags = s.tags := rfl
@[simp] theorem State.updThr_link : (s.updThr k f).link = s.link := rfl
@[simp] theorem State.updThr_aux : (s.updThr k f).aux = s.aux := rfl
@[simp] theorem State.updThr_fw : (s.updThr k f).fw = s.fw := rfl
@[simp] theorem State.updThr_sys : (s.updThr k f).sys = s.sys := rfl
@[simp] theorem State.updThr_out : (s.updThr k f).out = s.out := rfl
@[simp] theorem State.updThr_wire : (s.updThr k f).wire = s.wire := rfl
@[simp] theorem State.updThr_freeCtr : (s.updThr k f).freeCtr = s.freeCtr := rfl
@[simp] theorem State.updThr_acks : (s.updThr k f).acks = s.acks := rfl
@[simp] theorem State.updThr_locked : (s.updThr k f).locked = s.locked := rfl
@[simp] theorem State.updThr_pending : (s.updThr k f).pending = s.pending := rfl
@[simp] theorem State.updThr_rd (x : Nat) : (s.updThr k f).rd x = s.rd x := rfl
@[simp] theorem State.updThr_get (x : Nat) (g : Fld) : (s.updThr k f).get x g = s.get x g := rfl
@[simp] theorem State.updThr_getI (x : Nat) (g : Fld) : (s.updThr k f).getI x g = s.getI x g := rfl
@[simp] theorem State.updThr_flag (x : Nat) (g : Fld) : (s.updThr k f).flag x g = s.flag x g := rfl

end

/-! ### State.updCtx -/

section
variable (s : State) (k : Fin 160) (f : CtxSt → CtxSt)

@[simp] theorem State.updCtx_regs : (s.updCtx k f).regs = s.regs := rfl
@[simp] theorem State.updCtx_snap : (s.updCtx k f).snap = s.snap := rfl
@[simp] theorem State.updCtx_mr : (s.updCtx k f).mr = s.mr := rfl
@[simp] theorem State.updCtx_mram : (s.updCtx k f).mram = s.mram := rfl
@[simp] theorem State.updCtx_itcm : (s.updCtx k f).itcm = s.itcm := rfl
@[simp] theorem State.updCtx_dtcm : (s.updCtx k f).dtcm = s.dtcm := rfl
@[simp] theorem State.updCtx_power : (s.updCtx k f).power = s.power := rfl
@[simp] theorem State.updCtx_clk : (s.updCtx k f).clk = s.clk := rfl
@[simp] theorem State.updCtx_proc : (s.updCtx k f).proc = s.proc := rfl
@[simp] theorem State.updCtx_ic : (s.updCtx k f).ic = s.ic := rfl
@[simp] theorem State.updCtx_proof : (s.updCtx k f).proof = s.proof := rfl
@[simp] theorem State.updCtx_loops : (s.updCtx k f).loops = s.loops := rfl
@[simp] theorem State.updCtx_phases : (s.updCtx k f).phases = s.phases := rfl
@[simp] theorem State.updCtx_pe : (s.updCtx k f).pe = s.pe := rfl
@[simp] theorem State.updCtx_regul : (s.updCtx k f).regul = s.regul := rfl
@[simp] theorem State.updCtx_seg : (s.updCtx k f).seg = s.seg := rfl
@[simp] theorem State.updCtx_seq : (s.updCtx k f).seq = s.seq := rfl
@[simp] theorem State.updCtx_gpio : (s.updCtx k f).gpio = s.gpio := rfl
@[simp] theorem State.updCtx_ctx : (s.updCtx k f).ctx = s.ctx.set k (f s.ctx[k]) := rfl
@[simp] theorem State.updCtx_th : (s.updCtx k f).th = s.th := rfl
@[simp] theorem State.updCtx_adc : (s.updCtx k f).adc = s.adc := rfl
@[simp] theorem State.updCtx_feeds : (s.updCtx k f).feeds = s.feeds := rfl
@[simp] theorem State.updCtx_chg : (s.updCtx k f).chg = s.chg := rfl
@[simp] theorem State.updCtx_gg : (s.updCtx k f).gg = s.gg := rfl
@[simp] theorem State.updCtx_est : (s.updCtx k f).est = s.est := rfl
@[simp] theorem State.updCtx_flt : (s.updCtx k f).flt = s.flt := rfl
@[simp] theorem State.updCtx_fuse : (s.updCtx k f).fuse = s.fuse := rfl
@[simp] theorem State.updCtx_wd : (s.updCtx k f).wd = s.wd := rfl
@[simp] theorem State.updCtx_plate : (s.updCtx k f).plate = s.plate := rfl
@[simp] theorem State.updCtx_nv : (s.updCtx k f).nv = s.nv := rfl
@[simp] theorem State.updCtx_bak : (s.updCtx k f).bak = s.bak := rfl
@[simp] theorem State.updCtx_opt : (s.updCtx k f).opt = s.opt := rfl
@[simp] theorem State.updCtx_ports : (s.updCtx k f).ports = s.ports := rfl
@[simp] theorem State.updCtx_layers : (s.updCtx k f).layers = s.layers := rfl
@[simp] theorem State.updCtx_tags : (s.updCtx k f).tags = s.tags := rfl
@[simp] theorem State.updCtx_link : (s.updCtx k f).link = s.link := rfl
@[simp] theorem State.updCtx_aux : (s.updCtx k f).aux = s.aux := rfl
@[simp] theorem State.updCtx_fw : (s.updCtx k f).fw = s.fw := rfl
@[simp] theorem State.updCtx_sys : (s.updCtx k f).sys = s.sys := rfl
@[simp] theorem State.updCtx_out : (s.updCtx k f).out = s.out := rfl
@[simp] theorem State.updCtx_wire : (s.updCtx k f).wire = s.wire := rfl
@[simp] theorem State.updCtx_freeCtr : (s.updCtx k f).freeCtr = s.freeCtr := rfl
@[simp] theorem State.updCtx_acks : (s.updCtx k f).acks = s.acks := rfl
@[simp] theorem State.updCtx_locked : (s.updCtx k f).locked = s.locked := rfl
@[simp] theorem State.updCtx_pending : (s.updCtx k f).pending = s.pending := rfl
@[simp] theorem State.updCtx_rd (x : Nat) : (s.updCtx k f).rd x = s.rd x := rfl
@[simp] theorem State.updCtx_get (x : Nat) (g : Fld) : (s.updCtx k f).get x g = s.get x g := rfl
@[simp] theorem State.updCtx_getI (x : Nat) (g : Fld) : (s.updCtx k f).getI x g = s.getI x g := rfl
@[simp] theorem State.updCtx_flag (x : Nat) (g : Fld) : (s.updCtx k f).flag x g = s.flag x g := rfl

end

/-! ### State.nvQueue1 -/

section
variable (s : State) (j : NvJob)

@[simp] theorem State.nvQueue1_regs : (s.nvQueue1 j).regs = s.regs := rfl
@[simp] theorem State.nvQueue1_snap : (s.nvQueue1 j).snap = s.snap := rfl
@[simp] theorem State.nvQueue1_mr : (s.nvQueue1 j).mr = s.mr := rfl
@[simp] theorem State.nvQueue1_mram : (s.nvQueue1 j).mram = s.mram := rfl
@[simp] theorem State.nvQueue1_itcm : (s.nvQueue1 j).itcm = s.itcm := rfl
@[simp] theorem State.nvQueue1_dtcm : (s.nvQueue1 j).dtcm = s.dtcm := rfl
@[simp] theorem State.nvQueue1_power : (s.nvQueue1 j).power = s.power := rfl
@[simp] theorem State.nvQueue1_clk : (s.nvQueue1 j).clk = s.clk := rfl
@[simp] theorem State.nvQueue1_proc : (s.nvQueue1 j).proc = s.proc := rfl
@[simp] theorem State.nvQueue1_ic : (s.nvQueue1 j).ic = s.ic := rfl
@[simp] theorem State.nvQueue1_proof : (s.nvQueue1 j).proof = s.proof := rfl
@[simp] theorem State.nvQueue1_loops : (s.nvQueue1 j).loops = s.loops := rfl
@[simp] theorem State.nvQueue1_phases : (s.nvQueue1 j).phases = s.phases := rfl
@[simp] theorem State.nvQueue1_pe : (s.nvQueue1 j).pe = s.pe := rfl
@[simp] theorem State.nvQueue1_regul : (s.nvQueue1 j).regul = s.regul := rfl
@[simp] theorem State.nvQueue1_seg : (s.nvQueue1 j).seg = s.seg := rfl
@[simp] theorem State.nvQueue1_seq : (s.nvQueue1 j).seq = s.seq := rfl
@[simp] theorem State.nvQueue1_gpio : (s.nvQueue1 j).gpio = s.gpio := rfl
@[simp] theorem State.nvQueue1_ctx : (s.nvQueue1 j).ctx = s.ctx := rfl
@[simp] theorem State.nvQueue1_th : (s.nvQueue1 j).th = s.th := rfl
@[simp] theorem State.nvQueue1_adc : (s.nvQueue1 j).adc = s.adc := rfl
@[simp] theorem State.nvQueue1_feeds : (s.nvQueue1 j).feeds = s.feeds := rfl
@[simp] theorem State.nvQueue1_chg : (s.nvQueue1 j).chg = s.chg := rfl
@[simp] theorem State.nvQueue1_gg : (s.nvQueue1 j).gg = s.gg := rfl
@[simp] theorem State.nvQueue1_est : (s.nvQueue1 j).est = s.est := rfl
@[simp] theorem State.nvQueue1_flt : (s.nvQueue1 j).flt = s.flt := rfl
@[simp] theorem State.nvQueue1_fuse : (s.nvQueue1 j).fuse = s.fuse := rfl
@[simp] theorem State.nvQueue1_wd : (s.nvQueue1 j).wd = s.wd := rfl
@[simp] theorem State.nvQueue1_plate : (s.nvQueue1 j).plate = s.plate := rfl
@[simp] theorem State.nvQueue1_nv : (s.nvQueue1 j).nv = { s.nv with q1 := s.nv.q1 ++ [j] } := rfl
@[simp] theorem State.nvQueue1_bak : (s.nvQueue1 j).bak = s.bak := rfl
@[simp] theorem State.nvQueue1_opt : (s.nvQueue1 j).opt = s.opt := rfl
@[simp] theorem State.nvQueue1_ports : (s.nvQueue1 j).ports = s.ports := rfl
@[simp] theorem State.nvQueue1_layers : (s.nvQueue1 j).layers = s.layers := rfl
@[simp] theorem State.nvQueue1_tags : (s.nvQueue1 j).tags = s.tags := rfl
@[simp] theorem State.nvQueue1_link : (s.nvQueue1 j).link = s.link := rfl
@[simp] theorem State.nvQueue1_aux : (s.nvQueue1 j).aux = s.aux := rfl
@[simp] theorem State.nvQueue1_fw : (s.nvQueue1 j).fw = s.fw := rfl
@[simp] theorem State.nvQueue1_sys : (s.nvQueue1 j).sys = s.sys := rfl
@[simp] theorem State.nvQueue1_out : (s.nvQueue1 j).out = s.out := rfl
@[simp] theorem State.nvQueue1_wire : (s.nvQueue1 j).wire = s.wire := rfl
@[simp] theorem State.nvQueue1_freeCtr : (s.nvQueue1 j).freeCtr = s.freeCtr := rfl
@[simp] theorem State.nvQueue1_acks : (s.nvQueue1 j).acks = s.acks := rfl
@[simp] theorem State.nvQueue1_locked : (s.nvQueue1 j).locked = s.locked := rfl
@[simp] theorem State.nvQueue1_pending : (s.nvQueue1 j).pending = s.pending := rfl
@[simp] theorem State.nvQueue1_rd (x : Nat) : (s.nvQueue1 j).rd x = s.rd x := rfl
@[simp] theorem State.nvQueue1_get (x : Nat) (g : Fld) : (s.nvQueue1 j).get x g = s.get x g := rfl
@[simp] theorem State.nvQueue1_getI (x : Nat) (g : Fld) : (s.nvQueue1 j).getI x g = s.getI x g := rfl
@[simp] theorem State.nvQueue1_flag (x : Nat) (g : Fld) : (s.nvQueue1 j).flag x g = s.flag x g := rfl

end

/-! ### State.nvQueue2 -/

section
variable (s : State) (j : NvJob)

@[simp] theorem State.nvQueue2_regs : (s.nvQueue2 j).regs = s.regs := rfl
@[simp] theorem State.nvQueue2_snap : (s.nvQueue2 j).snap = s.snap := rfl
@[simp] theorem State.nvQueue2_mr : (s.nvQueue2 j).mr = s.mr := rfl
@[simp] theorem State.nvQueue2_mram : (s.nvQueue2 j).mram = s.mram := rfl
@[simp] theorem State.nvQueue2_itcm : (s.nvQueue2 j).itcm = s.itcm := rfl
@[simp] theorem State.nvQueue2_dtcm : (s.nvQueue2 j).dtcm = s.dtcm := rfl
@[simp] theorem State.nvQueue2_power : (s.nvQueue2 j).power = s.power := rfl
@[simp] theorem State.nvQueue2_clk : (s.nvQueue2 j).clk = s.clk := rfl
@[simp] theorem State.nvQueue2_proc : (s.nvQueue2 j).proc = s.proc := rfl
@[simp] theorem State.nvQueue2_ic : (s.nvQueue2 j).ic = s.ic := rfl
@[simp] theorem State.nvQueue2_proof : (s.nvQueue2 j).proof = s.proof := rfl
@[simp] theorem State.nvQueue2_loops : (s.nvQueue2 j).loops = s.loops := rfl
@[simp] theorem State.nvQueue2_phases : (s.nvQueue2 j).phases = s.phases := rfl
@[simp] theorem State.nvQueue2_pe : (s.nvQueue2 j).pe = s.pe := rfl
@[simp] theorem State.nvQueue2_regul : (s.nvQueue2 j).regul = s.regul := rfl
@[simp] theorem State.nvQueue2_seg : (s.nvQueue2 j).seg = s.seg := rfl
@[simp] theorem State.nvQueue2_seq : (s.nvQueue2 j).seq = s.seq := rfl
@[simp] theorem State.nvQueue2_gpio : (s.nvQueue2 j).gpio = s.gpio := rfl
@[simp] theorem State.nvQueue2_ctx : (s.nvQueue2 j).ctx = s.ctx := rfl
@[simp] theorem State.nvQueue2_th : (s.nvQueue2 j).th = s.th := rfl
@[simp] theorem State.nvQueue2_adc : (s.nvQueue2 j).adc = s.adc := rfl
@[simp] theorem State.nvQueue2_feeds : (s.nvQueue2 j).feeds = s.feeds := rfl
@[simp] theorem State.nvQueue2_chg : (s.nvQueue2 j).chg = s.chg := rfl
@[simp] theorem State.nvQueue2_gg : (s.nvQueue2 j).gg = s.gg := rfl
@[simp] theorem State.nvQueue2_est : (s.nvQueue2 j).est = s.est := rfl
@[simp] theorem State.nvQueue2_flt : (s.nvQueue2 j).flt = s.flt := rfl
@[simp] theorem State.nvQueue2_fuse : (s.nvQueue2 j).fuse = s.fuse := rfl
@[simp] theorem State.nvQueue2_wd : (s.nvQueue2 j).wd = s.wd := rfl
@[simp] theorem State.nvQueue2_plate : (s.nvQueue2 j).plate = s.plate := rfl
@[simp] theorem State.nvQueue2_nv : (s.nvQueue2 j).nv = { s.nv with q2 := s.nv.q2 ++ [j] } := rfl
@[simp] theorem State.nvQueue2_bak : (s.nvQueue2 j).bak = s.bak := rfl
@[simp] theorem State.nvQueue2_opt : (s.nvQueue2 j).opt = s.opt := rfl
@[simp] theorem State.nvQueue2_ports : (s.nvQueue2 j).ports = s.ports := rfl
@[simp] theorem State.nvQueue2_layers : (s.nvQueue2 j).layers = s.layers := rfl
@[simp] theorem State.nvQueue2_tags : (s.nvQueue2 j).tags = s.tags := rfl
@[simp] theorem State.nvQueue2_link : (s.nvQueue2 j).link = s.link := rfl
@[simp] theorem State.nvQueue2_aux : (s.nvQueue2 j).aux = s.aux := rfl
@[simp] theorem State.nvQueue2_fw : (s.nvQueue2 j).fw = s.fw := rfl
@[simp] theorem State.nvQueue2_sys : (s.nvQueue2 j).sys = s.sys := rfl
@[simp] theorem State.nvQueue2_out : (s.nvQueue2 j).out = s.out := rfl
@[simp] theorem State.nvQueue2_wire : (s.nvQueue2 j).wire = s.wire := rfl
@[simp] theorem State.nvQueue2_freeCtr : (s.nvQueue2 j).freeCtr = s.freeCtr := rfl
@[simp] theorem State.nvQueue2_acks : (s.nvQueue2 j).acks = s.acks := rfl
@[simp] theorem State.nvQueue2_locked : (s.nvQueue2 j).locked = s.locked := rfl
@[simp] theorem State.nvQueue2_pending : (s.nvQueue2 j).pending = s.pending := rfl
@[simp] theorem State.nvQueue2_rd (x : Nat) : (s.nvQueue2 j).rd x = s.rd x := rfl
@[simp] theorem State.nvQueue2_get (x : Nat) (g : Fld) : (s.nvQueue2 j).get x g = s.get x g := rfl
@[simp] theorem State.nvQueue2_getI (x : Nat) (g : Fld) : (s.nvQueue2 j).getI x g = s.getI x g := rfl
@[simp] theorem State.nvQueue2_flag (x : Nat) (g : Fld) : (s.nvQueue2 j).flag x g = s.flag x g := rfl

end

/-! ### State.nvQueue4 -/

section
variable (s : State) (j : NvJob)

@[simp] theorem State.nvQueue4_regs : (s.nvQueue4 j).regs = s.regs := rfl
@[simp] theorem State.nvQueue4_snap : (s.nvQueue4 j).snap = s.snap := rfl
@[simp] theorem State.nvQueue4_mr : (s.nvQueue4 j).mr = s.mr := rfl
@[simp] theorem State.nvQueue4_mram : (s.nvQueue4 j).mram = s.mram := rfl
@[simp] theorem State.nvQueue4_itcm : (s.nvQueue4 j).itcm = s.itcm := rfl
@[simp] theorem State.nvQueue4_dtcm : (s.nvQueue4 j).dtcm = s.dtcm := rfl
@[simp] theorem State.nvQueue4_power : (s.nvQueue4 j).power = s.power := rfl
@[simp] theorem State.nvQueue4_clk : (s.nvQueue4 j).clk = s.clk := rfl
@[simp] theorem State.nvQueue4_proc : (s.nvQueue4 j).proc = s.proc := rfl
@[simp] theorem State.nvQueue4_ic : (s.nvQueue4 j).ic = s.ic := rfl
@[simp] theorem State.nvQueue4_proof : (s.nvQueue4 j).proof = s.proof := rfl
@[simp] theorem State.nvQueue4_loops : (s.nvQueue4 j).loops = s.loops := rfl
@[simp] theorem State.nvQueue4_phases : (s.nvQueue4 j).phases = s.phases := rfl
@[simp] theorem State.nvQueue4_pe : (s.nvQueue4 j).pe = s.pe := rfl
@[simp] theorem State.nvQueue4_regul : (s.nvQueue4 j).regul = s.regul := rfl
@[simp] theorem State.nvQueue4_seg : (s.nvQueue4 j).seg = s.seg := rfl
@[simp] theorem State.nvQueue4_seq : (s.nvQueue4 j).seq = s.seq := rfl
@[simp] theorem State.nvQueue4_gpio : (s.nvQueue4 j).gpio = s.gpio := rfl
@[simp] theorem State.nvQueue4_ctx : (s.nvQueue4 j).ctx = s.ctx := rfl
@[simp] theorem State.nvQueue4_th : (s.nvQueue4 j).th = s.th := rfl
@[simp] theorem State.nvQueue4_adc : (s.nvQueue4 j).adc = s.adc := rfl
@[simp] theorem State.nvQueue4_feeds : (s.nvQueue4 j).feeds = s.feeds := rfl
@[simp] theorem State.nvQueue4_chg : (s.nvQueue4 j).chg = s.chg := rfl
@[simp] theorem State.nvQueue4_gg : (s.nvQueue4 j).gg = s.gg := rfl
@[simp] theorem State.nvQueue4_est : (s.nvQueue4 j).est = s.est := rfl
@[simp] theorem State.nvQueue4_flt : (s.nvQueue4 j).flt = s.flt := rfl
@[simp] theorem State.nvQueue4_fuse : (s.nvQueue4 j).fuse = s.fuse := rfl
@[simp] theorem State.nvQueue4_wd : (s.nvQueue4 j).wd = s.wd := rfl
@[simp] theorem State.nvQueue4_plate : (s.nvQueue4 j).plate = s.plate := rfl
@[simp] theorem State.nvQueue4_nv : (s.nvQueue4 j).nv = { s.nv with q4 := s.nv.q4 ++ [j] } := rfl
@[simp] theorem State.nvQueue4_bak : (s.nvQueue4 j).bak = s.bak := rfl
@[simp] theorem State.nvQueue4_opt : (s.nvQueue4 j).opt = s.opt := rfl
@[simp] theorem State.nvQueue4_ports : (s.nvQueue4 j).ports = s.ports := rfl
@[simp] theorem State.nvQueue4_layers : (s.nvQueue4 j).layers = s.layers := rfl
@[simp] theorem State.nvQueue4_tags : (s.nvQueue4 j).tags = s.tags := rfl
@[simp] theorem State.nvQueue4_link : (s.nvQueue4 j).link = s.link := rfl
@[simp] theorem State.nvQueue4_aux : (s.nvQueue4 j).aux = s.aux := rfl
@[simp] theorem State.nvQueue4_fw : (s.nvQueue4 j).fw = s.fw := rfl
@[simp] theorem State.nvQueue4_sys : (s.nvQueue4 j).sys = s.sys := rfl
@[simp] theorem State.nvQueue4_out : (s.nvQueue4 j).out = s.out := rfl
@[simp] theorem State.nvQueue4_wire : (s.nvQueue4 j).wire = s.wire := rfl
@[simp] theorem State.nvQueue4_freeCtr : (s.nvQueue4 j).freeCtr = s.freeCtr := rfl
@[simp] theorem State.nvQueue4_acks : (s.nvQueue4 j).acks = s.acks := rfl
@[simp] theorem State.nvQueue4_locked : (s.nvQueue4 j).locked = s.locked := rfl
@[simp] theorem State.nvQueue4_pending : (s.nvQueue4 j).pending = s.pending := rfl
@[simp] theorem State.nvQueue4_rd (x : Nat) : (s.nvQueue4 j).rd x = s.rd x := rfl
@[simp] theorem State.nvQueue4_get (x : Nat) (g : Fld) : (s.nvQueue4 j).get x g = s.get x g := rfl
@[simp] theorem State.nvQueue4_getI (x : Nat) (g : Fld) : (s.nvQueue4 j).getI x g = s.getI x g := rfl
@[simp] theorem State.nvQueue4_flag (x : Nat) (g : Fld) : (s.nvQueue4 j).flag x g = s.flag x g := rfl

end

/-! ### State.toPlate -/

section
variable (s : State) (r : PlateRec)

@[simp] theorem State.toPlate_regs : (s.toPlate r).regs = s.regs := rfl
@[simp] theorem State.toPlate_snap : (s.toPlate r).snap = s.snap := rfl
@[simp] theorem State.toPlate_mr : (s.toPlate r).mr = s.mr := rfl
@[simp] theorem State.toPlate_mram : (s.toPlate r).mram = s.mram := rfl
@[simp] theorem State.toPlate_itcm : (s.toPlate r).itcm = s.itcm := rfl
@[simp] theorem State.toPlate_dtcm : (s.toPlate r).dtcm = s.dtcm := rfl
@[simp] theorem State.toPlate_power : (s.toPlate r).power = s.power := rfl
@[simp] theorem State.toPlate_clk : (s.toPlate r).clk = s.clk := rfl
@[simp] theorem State.toPlate_proc : (s.toPlate r).proc = s.proc := rfl
@[simp] theorem State.toPlate_ic : (s.toPlate r).ic = s.ic := rfl
@[simp] theorem State.toPlate_proof : (s.toPlate r).proof = s.proof := rfl
@[simp] theorem State.toPlate_loops : (s.toPlate r).loops = s.loops := rfl
@[simp] theorem State.toPlate_phases : (s.toPlate r).phases = s.phases := rfl
@[simp] theorem State.toPlate_pe : (s.toPlate r).pe = s.pe := rfl
@[simp] theorem State.toPlate_regul : (s.toPlate r).regul = s.regul := rfl
@[simp] theorem State.toPlate_seg : (s.toPlate r).seg = s.seg := rfl
@[simp] theorem State.toPlate_seq : (s.toPlate r).seq = s.seq := rfl
@[simp] theorem State.toPlate_gpio : (s.toPlate r).gpio = s.gpio := rfl
@[simp] theorem State.toPlate_ctx : (s.toPlate r).ctx = s.ctx := rfl
@[simp] theorem State.toPlate_th : (s.toPlate r).th = s.th := rfl
@[simp] theorem State.toPlate_adc : (s.toPlate r).adc = s.adc := rfl
@[simp] theorem State.toPlate_feeds : (s.toPlate r).feeds = s.feeds := rfl
@[simp] theorem State.toPlate_chg : (s.toPlate r).chg = s.chg := rfl
@[simp] theorem State.toPlate_gg : (s.toPlate r).gg = s.gg := rfl
@[simp] theorem State.toPlate_est : (s.toPlate r).est = s.est := rfl
@[simp] theorem State.toPlate_flt : (s.toPlate r).flt = s.flt := rfl
@[simp] theorem State.toPlate_fuse : (s.toPlate r).fuse = s.fuse := rfl
@[simp] theorem State.toPlate_wd : (s.toPlate r).wd = s.wd := rfl
@[simp] theorem State.toPlate_plate : (s.toPlate r).plate = { s.plate with raised := s.plate.raised ++ [r] } := rfl
@[simp] theorem State.toPlate_nv : (s.toPlate r).nv = s.nv := rfl
@[simp] theorem State.toPlate_bak : (s.toPlate r).bak = s.bak := rfl
@[simp] theorem State.toPlate_opt : (s.toPlate r).opt = s.opt := rfl
@[simp] theorem State.toPlate_ports : (s.toPlate r).ports = s.ports := rfl
@[simp] theorem State.toPlate_layers : (s.toPlate r).layers = s.layers := rfl
@[simp] theorem State.toPlate_tags : (s.toPlate r).tags = s.tags := rfl
@[simp] theorem State.toPlate_link : (s.toPlate r).link = s.link := rfl
@[simp] theorem State.toPlate_aux : (s.toPlate r).aux = s.aux := rfl
@[simp] theorem State.toPlate_fw : (s.toPlate r).fw = s.fw := rfl
@[simp] theorem State.toPlate_sys : (s.toPlate r).sys = s.sys := rfl
@[simp] theorem State.toPlate_out : (s.toPlate r).out = s.out := rfl
@[simp] theorem State.toPlate_wire : (s.toPlate r).wire = s.wire := rfl
@[simp] theorem State.toPlate_freeCtr : (s.toPlate r).freeCtr = s.freeCtr := rfl
@[simp] theorem State.toPlate_acks : (s.toPlate r).acks = s.acks := rfl
@[simp] theorem State.toPlate_locked : (s.toPlate r).locked = s.locked := rfl
@[simp] theorem State.toPlate_pending : (s.toPlate r).pending = s.pending := rfl
@[simp] theorem State.toPlate_rd (x : Nat) : (s.toPlate r).rd x = s.rd x := rfl
@[simp] theorem State.toPlate_get (x : Nat) (g : Fld) : (s.toPlate r).get x g = s.get x g := rfl
@[simp] theorem State.toPlate_getI (x : Nat) (g : Fld) : (s.toPlate r).getI x g = s.getI x g := rfl
@[simp] theorem State.toPlate_flag (x : Nat) (g : Fld) : (s.toPlate r).flag x g = s.flag x g := rfl

end

/-! ### State.addMark -/

section
variable (s : State) (r : PlateRec)

@[simp] theorem State.addMark_regs : (s.addMark r).regs = s.regs := rfl
@[simp] theorem State.addMark_snap : (s.addMark r).snap = s.snap := rfl
@[simp] theorem State.addMark_mr : (s.addMark r).mr = s.mr := rfl
@[simp] theorem State.addMark_mram : (s.addMark r).mram = s.mram := rfl
@[simp] theorem State.addMark_itcm : (s.addMark r).itcm = s.itcm := rfl
@[simp] theorem State.addMark_dtcm : (s.addMark r).dtcm = s.dtcm := rfl
@[simp] theorem State.addMark_power : (s.addMark r).power = s.power := rfl
@[simp] theorem State.addMark_clk : (s.addMark r).clk = s.clk := rfl
@[simp] theorem State.addMark_proc : (s.addMark r).proc = s.proc := rfl
@[simp] theorem State.addMark_ic : (s.addMark r).ic = s.ic := rfl
@[simp] theorem State.addMark_proof : (s.addMark r).proof = s.proof := rfl
@[simp] theorem State.addMark_loops : (s.addMark r).loops = s.loops := rfl
@[simp] theorem State.addMark_phases : (s.addMark r).phases = s.phases := rfl
@[simp] theorem State.addMark_pe : (s.addMark r).pe = s.pe := rfl
@[simp] theorem State.addMark_regul : (s.addMark r).regul = s.regul := rfl
@[simp] theorem State.addMark_seg : (s.addMark r).seg = s.seg := rfl
@[simp] theorem State.addMark_seq : (s.addMark r).seq = s.seq := rfl
@[simp] theorem State.addMark_gpio : (s.addMark r).gpio = s.gpio := rfl
@[simp] theorem State.addMark_ctx : (s.addMark r).ctx = s.ctx := rfl
@[simp] theorem State.addMark_th : (s.addMark r).th = s.th := rfl
@[simp] theorem State.addMark_adc : (s.addMark r).adc = s.adc := rfl
@[simp] theorem State.addMark_feeds : (s.addMark r).feeds = s.feeds := rfl
@[simp] theorem State.addMark_chg : (s.addMark r).chg = s.chg := rfl
@[simp] theorem State.addMark_gg : (s.addMark r).gg = s.gg := rfl
@[simp] theorem State.addMark_est : (s.addMark r).est = s.est := rfl
@[simp] theorem State.addMark_flt : (s.addMark r).flt = s.flt := rfl
@[simp] theorem State.addMark_fuse : (s.addMark r).fuse = s.fuse := rfl
@[simp] theorem State.addMark_wd : (s.addMark r).wd = s.wd := rfl
@[simp] theorem State.addMark_plate :
    (s.addMark r).plate = { s.plate with marks := (if s.plate.marks.length ≥ 4 then s.plate.marks.drop 1 else s.plate.marks) ++ [r] } := rfl
@[simp] theorem State.addMark_nv : (s.addMark r).nv = s.nv := rfl
@[simp] theorem State.addMark_bak : (s.addMark r).bak = s.bak := rfl
@[simp] theorem State.addMark_opt : (s.addMark r).opt = s.opt := rfl
@[simp] theorem State.addMark_ports : (s.addMark r).ports = s.ports := rfl
@[simp] theorem State.addMark_layers : (s.addMark r).layers = s.layers := rfl
@[simp] theorem State.addMark_tags : (s.addMark r).tags = s.tags := rfl
@[simp] theorem State.addMark_link : (s.addMark r).link = s.link := rfl
@[simp] theorem State.addMark_aux : (s.addMark r).aux = s.aux := rfl
@[simp] theorem State.addMark_fw : (s.addMark r).fw = s.fw := rfl
@[simp] theorem State.addMark_sys : (s.addMark r).sys = s.sys := rfl
@[simp] theorem State.addMark_out : (s.addMark r).out = s.out := rfl
@[simp] theorem State.addMark_wire : (s.addMark r).wire = s.wire := rfl
@[simp] theorem State.addMark_freeCtr : (s.addMark r).freeCtr = s.freeCtr := rfl
@[simp] theorem State.addMark_acks : (s.addMark r).acks = s.acks := rfl
@[simp] theorem State.addMark_locked : (s.addMark r).locked = s.locked := rfl
@[simp] theorem State.addMark_pending : (s.addMark r).pending = s.pending := rfl
@[simp] theorem State.addMark_rd (x : Nat) : (s.addMark r).rd x = s.rd x := rfl
@[simp] theorem State.addMark_get (x : Nat) (g : Fld) : (s.addMark r).get x g = s.get x g := rfl
@[simp] theorem State.addMark_getI (x : Nat) (g : Fld) : (s.addMark r).getI x g = s.getI x g := rfl
@[simp] theorem State.addMark_flag (x : Nat) (g : Fld) : (s.addMark r).flag x g = s.flag x g := rfl

end

/-! ### State.setTag -/

section
variable (s : State) (k : Fin 96) (x : TagSt)

@[simp] theorem State.setTag_snap : (s.setTag k x).snap = s.snap := rfl
@[simp] theorem State.setTag_mr : (s.setTag k x).mr = s.mr := rfl
@[simp] theorem State.setTag_mram : (s.setTag k x).mram = s.mram := rfl
@[simp] theorem State.setTag_itcm : (s.setTag k x).itcm = s.itcm := rfl
@[simp] theorem State.setTag_dtcm : (s.setTag k x).dtcm = s.dtcm := rfl
@[simp] theorem State.setTag_power : (s.setTag k x).power = s.power := rfl
@[simp] theorem State.setTag_clk : (s.setTag k x).clk = s.clk := rfl
@[simp] theorem State.setTag_proc : (s.setTag k x).proc = s.proc := rfl
@[simp] theorem State.setTag_ic : (s.setTag k x).ic = s.ic := rfl
@[simp] theorem State.setTag_proof : (s.setTag k x).proof = s.proof := rfl
@[simp] theorem State.setTag_loops : (s.setTag k x).loops = s.loops := rfl
@[simp] theorem State.setTag_phases : (s.setTag k x).phases = s.phases := rfl
@[simp] theorem State.setTag_pe : (s.setTag k x).pe = s.pe := rfl
@[simp] theorem State.setTag_regul : (s.setTag k x).regul = s.regul := rfl
@[simp] theorem State.setTag_seg : (s.setTag k x).seg = s.seg := rfl
@[simp] theorem State.setTag_seq : (s.setTag k x).seq = s.seq := rfl
@[simp] theorem State.setTag_gpio : (s.setTag k x).gpio = s.gpio := rfl
@[simp] theorem State.setTag_ctx : (s.setTag k x).ctx = s.ctx := rfl
@[simp] theorem State.setTag_th : (s.setTag k x).th = s.th := rfl
@[simp] theorem State.setTag_adc : (s.setTag k x).adc = s.adc := rfl
@[simp] theorem State.setTag_feeds : (s.setTag k x).feeds = s.feeds := rfl
@[simp] theorem State.setTag_chg : (s.setTag k x).chg = s.chg := rfl
@[simp] theorem State.setTag_gg : (s.setTag k x).gg = s.gg := rfl
@[simp] theorem State.setTag_est : (s.setTag k x).est = s.est := rfl
@[simp] theorem State.setTag_flt : (s.setTag k x).flt = s.flt := rfl
@[simp] theorem State.setTag_fuse : (s.setTag k x).fuse = s.fuse := rfl
@[simp] theorem State.setTag_wd : (s.setTag k x).wd = s.wd := rfl
@[simp] theorem State.setTag_plate : (s.setTag k x).plate = s.plate := rfl
@[simp] theorem State.setTag_nv : (s.setTag k x).nv = s.nv := rfl
@[simp] theorem State.setTag_bak : (s.setTag k x).bak = s.bak := rfl
@[simp] theorem State.setTag_opt : (s.setTag k x).opt = s.opt := rfl
@[simp] theorem State.setTag_ports : (s.setTag k x).ports = s.ports := rfl
@[simp] theorem State.setTag_layers : (s.setTag k x).layers = s.layers := rfl
@[simp] theorem State.setTag_tags : (s.setTag k x).tags = s.tags.set k x := rfl
@[simp] theorem State.setTag_link : (s.setTag k x).link = s.link := rfl
@[simp] theorem State.setTag_aux : (s.setTag k x).aux = s.aux := rfl
@[simp] theorem State.setTag_fw : (s.setTag k x).fw = s.fw := rfl
@[simp] theorem State.setTag_sys : (s.setTag k x).sys = s.sys := rfl
@[simp] theorem State.setTag_out : (s.setTag k x).out = s.out := rfl
@[simp] theorem State.setTag_wire : (s.setTag k x).wire = s.wire := rfl
@[simp] theorem State.setTag_freeCtr : (s.setTag k x).freeCtr = s.freeCtr := rfl
@[simp] theorem State.setTag_acks : (s.setTag k x).acks = s.acks := rfl
@[simp] theorem State.setTag_locked : (s.setTag k x).locked = s.locked := rfl
@[simp] theorem State.setTag_pending : (s.setTag k x).pending = s.pending := rfl

end

/-! ### State.tagState -/

section
variable (s : State) (k : Fin 96) (v : TagState)

@[simp] theorem State.tagState_snap : (s.tagState k v).snap = s.snap := rfl
@[simp] theorem State.tagState_mr : (s.tagState k v).mr = s.mr := rfl
@[simp] theorem State.tagState_mram : (s.tagState k v).mram = s.mram := rfl
@[simp] theorem State.tagState_itcm : (s.tagState k v).itcm = s.itcm := rfl
@[simp] theorem State.tagState_dtcm : (s.tagState k v).dtcm = s.dtcm := rfl
@[simp] theorem State.tagState_power : (s.tagState k v).power = s.power := rfl
@[simp] theorem State.tagState_clk : (s.tagState k v).clk = s.clk := rfl
@[simp] theorem State.tagState_proc : (s.tagState k v).proc = s.proc := rfl
@[simp] theorem State.tagState_ic : (s.tagState k v).ic = s.ic := rfl
@[simp] theorem State.tagState_proof : (s.tagState k v).proof = s.proof := rfl
@[simp] theorem State.tagState_loops : (s.tagState k v).loops = s.loops := rfl
@[simp] theorem State.tagState_phases : (s.tagState k v).phases = s.phases := rfl
@[simp] theorem State.tagState_pe : (s.tagState k v).pe = s.pe := rfl
@[simp] theorem State.tagState_regul : (s.tagState k v).regul = s.regul := rfl
@[simp] theorem State.tagState_seg : (s.tagState k v).seg = s.seg := rfl
@[simp] theorem State.tagState_seq : (s.tagState k v).seq = s.seq := rfl
@[simp] theorem State.tagState_gpio : (s.tagState k v).gpio = s.gpio := rfl
@[simp] theorem State.tagState_ctx : (s.tagState k v).ctx = s.ctx := rfl
@[simp] theorem State.tagState_th : (s.tagState k v).th = s.th := rfl
@[simp] theorem State.tagState_adc : (s.tagState k v).adc = s.adc := rfl
@[simp] theorem State.tagState_feeds : (s.tagState k v).feeds = s.feeds := rfl
@[simp] theorem State.tagState_chg : (s.tagState k v).chg = s.chg := rfl
@[simp] theorem State.tagState_gg : (s.tagState k v).gg = s.gg := rfl
@[simp] theorem State.tagState_est : (s.tagState k v).est = s.est := rfl
@[simp] theorem State.tagState_flt : (s.tagState k v).flt = s.flt := rfl
@[simp] theorem State.tagState_fuse : (s.tagState k v).fuse = s.fuse := rfl
@[simp] theorem State.tagState_wd : (s.tagState k v).wd = s.wd := rfl
@[simp] theorem State.tagState_plate : (s.tagState k v).plate = s.plate := rfl
@[simp] theorem State.tagState_nv : (s.tagState k v).nv = s.nv := rfl
@[simp] theorem State.tagState_bak : (s.tagState k v).bak = s.bak := rfl
@[simp] theorem State.tagState_opt : (s.tagState k v).opt = s.opt := rfl
@[simp] theorem State.tagState_ports : (s.tagState k v).ports = s.ports := rfl
@[simp] theorem State.tagState_layers : (s.tagState k v).layers = s.layers := rfl
@[simp] theorem State.tagState_tags : (s.tagState k v).tags = s.tags.set k { s.tags[k] with st := v } := rfl
@[simp] theorem State.tagState_link : (s.tagState k v).link = s.link := rfl
@[simp] theorem State.tagState_aux : (s.tagState k v).aux = s.aux := rfl
@[simp] theorem State.tagState_fw : (s.tagState k v).fw = s.fw := rfl
@[simp] theorem State.tagState_sys : (s.tagState k v).sys = s.sys := rfl
@[simp] theorem State.tagState_out : (s.tagState k v).out = s.out := rfl
@[simp] theorem State.tagState_wire : (s.tagState k v).wire = s.wire := rfl
@[simp] theorem State.tagState_freeCtr : (s.tagState k v).freeCtr = s.freeCtr := rfl
@[simp] theorem State.tagState_acks : (s.tagState k v).acks = s.acks := rfl
@[simp] theorem State.tagState_locked : (s.tagState k v).locked = s.locked := rfl
@[simp] theorem State.tagState_pending : (s.tagState k v).pending = s.pending := rfl

end

/-! ### State.updPort -/

section
variable (s : State) (p : Port) (f : PortSt → PortSt)

@[simp] theorem State.updPort_snap : (s.updPort p f).snap = s.snap := rfl
@[simp] theorem State.updPort_mr : (s.updPort p f).mr = s.mr := rfl
@[simp] theorem State.updPort_mram : (s.updPort p f).mram = s.mram := rfl
@[simp] theorem State.updPort_itcm : (s.updPort p f).itcm = s.itcm := rfl
@[simp] theorem State.updPort_dtcm : (s.updPort p f).dtcm = s.dtcm := rfl
@[simp] theorem State.updPort_power : (s.updPort p f).power = s.power := rfl
@[simp] theorem State.updPort_clk : (s.updPort p f).clk = s.clk := rfl
@[simp] theorem State.updPort_proc : (s.updPort p f).proc = s.proc := rfl
@[simp] theorem State.updPort_ic : (s.updPort p f).ic = s.ic := rfl
@[simp] theorem State.updPort_proof : (s.updPort p f).proof = s.proof := rfl
@[simp] theorem State.updPort_loops : (s.updPort p f).loops = s.loops := rfl
@[simp] theorem State.updPort_phases : (s.updPort p f).phases = s.phases := rfl
@[simp] theorem State.updPort_pe : (s.updPort p f).pe = s.pe := rfl
@[simp] theorem State.updPort_regul : (s.updPort p f).regul = s.regul := rfl
@[simp] theorem State.updPort_seg : (s.updPort p f).seg = s.seg := rfl
@[simp] theorem State.updPort_seq : (s.updPort p f).seq = s.seq := rfl
@[simp] theorem State.updPort_gpio : (s.updPort p f).gpio = s.gpio := rfl
@[simp] theorem State.updPort_ctx : (s.updPort p f).ctx = s.ctx := rfl
@[simp] theorem State.updPort_th : (s.updPort p f).th = s.th := rfl
@[simp] theorem State.updPort_adc : (s.updPort p f).adc = s.adc := rfl
@[simp] theorem State.updPort_feeds : (s.updPort p f).feeds = s.feeds := rfl
@[simp] theorem State.updPort_chg : (s.updPort p f).chg = s.chg := rfl
@[simp] theorem State.updPort_gg : (s.updPort p f).gg = s.gg := rfl
@[simp] theorem State.updPort_est : (s.updPort p f).est = s.est := rfl
@[simp] theorem State.updPort_flt : (s.updPort p f).flt = s.flt := rfl
@[simp] theorem State.updPort_fuse : (s.updPort p f).fuse = s.fuse := rfl
@[simp] theorem State.updPort_wd : (s.updPort p f).wd = s.wd := rfl
@[simp] theorem State.updPort_plate : (s.updPort p f).plate = s.plate := rfl
@[simp] theorem State.updPort_nv : (s.updPort p f).nv = s.nv := rfl
@[simp] theorem State.updPort_bak : (s.updPort p f).bak = s.bak := rfl
@[simp] theorem State.updPort_opt : (s.updPort p f).opt = s.opt := rfl
@[simp] theorem State.updPort_ports : (s.updPort p f).ports = s.ports.set p.idx (f (s.port p)) := rfl
@[simp] theorem State.updPort_layers : (s.updPort p f).layers = s.layers := rfl
@[simp] theorem State.updPort_tags : (s.updPort p f).tags = s.tags := rfl
@[simp] theorem State.updPort_link : (s.updPort p f).link = s.link := rfl
@[simp] theorem State.updPort_aux : (s.updPort p f).aux = s.aux := rfl
@[simp] theorem State.updPort_fw : (s.updPort p f).fw = s.fw := rfl
@[simp] theorem State.updPort_sys : (s.updPort p f).sys = s.sys := rfl
@[simp] theorem State.updPort_out : (s.updPort p f).out = s.out := rfl
@[simp] theorem State.updPort_wire : (s.updPort p f).wire = s.wire := rfl
@[simp] theorem State.updPort_freeCtr : (s.updPort p f).freeCtr = s.freeCtr := rfl
@[simp] theorem State.updPort_acks : (s.updPort p f).acks = s.acks := rfl
@[simp] theorem State.updPort_locked : (s.updPort p f).locked = s.locked := rfl
@[simp] theorem State.updPort_pending : (s.updPort p f).pending = s.pending := rfl

end

/-! ### State.send -/

section
variable (s : State) (l : List Word)

@[simp] theorem State.send_regs : (s.send l).regs = s.regs := rfl
@[simp] theorem State.send_snap : (s.send l).snap = s.snap := rfl
@[simp] theorem State.send_mr : (s.send l).mr = s.mr := rfl
@[simp] theorem State.send_mram : (s.send l).mram = s.mram := rfl
@[simp] theorem State.send_itcm : (s.send l).itcm = s.itcm := rfl
@[simp] theorem State.send_dtcm : (s.send l).dtcm = s.dtcm := rfl
@[simp] theorem State.send_power : (s.send l).power = s.power := rfl
@[simp] theorem State.send_clk : (s.send l).clk = s.clk := rfl
@[simp] theorem State.send_proc : (s.send l).proc = s.proc := rfl
@[simp] theorem State.send_ic : (s.send l).ic = s.ic := rfl
@[simp] theorem State.send_proof : (s.send l).proof = s.proof := rfl
@[simp] theorem State.send_loops : (s.send l).loops = s.loops := rfl
@[simp] theorem State.send_phases : (s.send l).phases = s.phases := rfl
@[simp] theorem State.send_pe : (s.send l).pe = s.pe := rfl
@[simp] theorem State.send_regul : (s.send l).regul = s.regul := rfl
@[simp] theorem State.send_seg : (s.send l).seg = s.seg := rfl
@[simp] theorem State.send_seq : (s.send l).seq = s.seq := rfl
@[simp] theorem State.send_gpio : (s.send l).gpio = s.gpio := rfl
@[simp] theorem State.send_ctx : (s.send l).ctx = s.ctx := rfl
@[simp] theorem State.send_th : (s.send l).th = s.th := rfl
@[simp] theorem State.send_adc : (s.send l).adc = s.adc := rfl
@[simp] theorem State.send_feeds : (s.send l).feeds = s.feeds := rfl
@[simp] theorem State.send_chg : (s.send l).chg = s.chg := rfl
@[simp] theorem State.send_gg : (s.send l).gg = s.gg := rfl
@[simp] theorem State.send_est : (s.send l).est = s.est := rfl
@[simp] theorem State.send_flt : (s.send l).flt = s.flt := rfl
@[simp] theorem State.send_fuse : (s.send l).fuse = s.fuse := rfl
@[simp] theorem State.send_wd : (s.send l).wd = s.wd := rfl
@[simp] theorem State.send_plate : (s.send l).plate = s.plate := rfl
@[simp] theorem State.send_nv : (s.send l).nv = s.nv := rfl
@[simp] theorem State.send_bak : (s.send l).bak = s.bak := rfl
@[simp] theorem State.send_opt : (s.send l).opt = s.opt := rfl
@[simp] theorem State.send_ports : (s.send l).ports = s.ports := rfl
@[simp] theorem State.send_layers : (s.send l).layers = s.layers := rfl
@[simp] theorem State.send_tags : (s.send l).tags = s.tags := rfl
@[simp] theorem State.send_link : (s.send l).link = s.link := rfl
@[simp] theorem State.send_aux : (s.send l).aux = s.aux := rfl
@[simp] theorem State.send_fw : (s.send l).fw = s.fw := rfl
@[simp] theorem State.send_sys : (s.send l).sys = s.sys := rfl
@[simp] theorem State.send_out : (s.send l).out = l := rfl
@[simp] theorem State.send_wire : (s.send l).wire = l.flatMap (fun w => bytesLE 4 w.toNat) := rfl
@[simp] theorem State.send_freeCtr : (s.send l).freeCtr = s.freeCtr := rfl
@[simp] theorem State.send_acks : (s.send l).acks = s.acks := rfl
@[simp] theorem State.send_locked : (s.send l).locked = s.locked := rfl
@[simp] theorem State.send_pending : (s.send l).pending = s.pending := rfl
@[simp] theorem State.send_rd (x : Nat) : (s.send l).rd x = s.rd x := rfl
@[simp] theorem State.send_get (x : Nat) (g : Fld) : (s.send l).get x g = s.get x g := rfl
@[simp] theorem State.send_getI (x : Nat) (g : Fld) : (s.send l).getI x g = s.getI x g := rfl
@[simp] theorem State.send_flag (x : Nat) (g : Fld) : (s.send l).flag x g = s.flag x g := rfl

end

/-! ### State.latchChange -/

section
variable (s : State) (t : State)

@[simp] theorem State.latchChange_regs : (s.latchChange t).regs = t.regs := rfl
@[simp] theorem State.latchChange_mr : (s.latchChange t).mr = t.mr := rfl
@[simp] theorem State.latchChange_mram : (s.latchChange t).mram = t.mram := rfl
@[simp] theorem State.latchChange_itcm : (s.latchChange t).itcm = t.itcm := rfl
@[simp] theorem State.latchChange_dtcm : (s.latchChange t).dtcm = t.dtcm := rfl
@[simp] theorem State.latchChange_power : (s.latchChange t).power = t.power := rfl
@[simp] theorem State.latchChange_clk : (s.latchChange t).clk = t.clk := rfl
@[simp] theorem State.latchChange_proc : (s.latchChange t).proc = t.proc := rfl
@[simp] theorem State.latchChange_ic : (s.latchChange t).ic = t.ic := rfl
@[simp] theorem State.latchChange_proof : (s.latchChange t).proof = t.proof := rfl
@[simp] theorem State.latchChange_loops : (s.latchChange t).loops = t.loops := rfl
@[simp] theorem State.latchChange_phases : (s.latchChange t).phases = t.phases := rfl
@[simp] theorem State.latchChange_pe : (s.latchChange t).pe = t.pe := rfl
@[simp] theorem State.latchChange_regul : (s.latchChange t).regul = t.regul := rfl
@[simp] theorem State.latchChange_seg : (s.latchChange t).seg = t.seg := rfl
@[simp] theorem State.latchChange_seq : (s.latchChange t).seq = t.seq := rfl
@[simp] theorem State.latchChange_gpio : (s.latchChange t).gpio = t.gpio := rfl
@[simp] theorem State.latchChange_ctx : (s.latchChange t).ctx = t.ctx := rfl
@[simp] theorem State.latchChange_th : (s.latchChange t).th = t.th := rfl
@[simp] theorem State.latchChange_adc : (s.latchChange t).adc = t.adc := rfl
@[simp] theorem State.latchChange_feeds : (s.latchChange t).feeds = t.feeds := rfl
@[simp] theorem State.latchChange_chg : (s.latchChange t).chg = t.chg := rfl
@[simp] theorem State.latchChange_gg : (s.latchChange t).gg = t.gg := rfl
@[simp] theorem State.latchChange_est : (s.latchChange t).est = t.est := rfl
@[simp] theorem State.latchChange_flt : (s.latchChange t).flt = t.flt := rfl
@[simp] theorem State.latchChange_fuse : (s.latchChange t).fuse = t.fuse := rfl
@[simp] theorem State.latchChange_wd : (s.latchChange t).wd = t.wd := rfl
@[simp] theorem State.latchChange_plate : (s.latchChange t).plate = t.plate := rfl
@[simp] theorem State.latchChange_nv : (s.latchChange t).nv = t.nv := rfl
@[simp] theorem State.latchChange_bak : (s.latchChange t).bak = t.bak := rfl
@[simp] theorem State.latchChange_opt : (s.latchChange t).opt = t.opt := rfl
@[simp] theorem State.latchChange_ports : (s.latchChange t).ports = t.ports := rfl
@[simp] theorem State.latchChange_layers : (s.latchChange t).layers = t.layers := rfl
@[simp] theorem State.latchChange_tags : (s.latchChange t).tags = t.tags := rfl
@[simp] theorem State.latchChange_link : (s.latchChange t).link = t.link := rfl
@[simp] theorem State.latchChange_aux : (s.latchChange t).aux = t.aux := rfl
@[simp] theorem State.latchChange_fw : (s.latchChange t).fw = t.fw := rfl
@[simp] theorem State.latchChange_sys : (s.latchChange t).sys = t.sys := rfl
@[simp] theorem State.latchChange_out : (s.latchChange t).out = t.out := rfl
@[simp] theorem State.latchChange_wire : (s.latchChange t).wire = t.wire := rfl
@[simp] theorem State.latchChange_freeCtr : (s.latchChange t).freeCtr = t.freeCtr := rfl
@[simp] theorem State.latchChange_acks : (s.latchChange t).acks = t.acks := rfl
@[simp] theorem State.latchChange_locked : (s.latchChange t).locked = t.locked := rfl
@[simp] theorem State.latchChange_pending : (s.latchChange t).pending = t.pending := rfl
@[simp] theorem State.latchChange_rd (x : Nat) : (s.latchChange t).rd x = t.rd x := rfl
@[simp] theorem State.latchChange_get (x : Nat) (g : Fld) : (s.latchChange t).get x g = t.get x g := rfl
@[simp] theorem State.latchChange_getI (x : Nat) (g : Fld) : (s.latchChange t).getI x g = t.getI x g := rfl
@[simp] theorem State.latchChange_flag (x : Nat) (g : Fld) : (s.latchChange t).flag x g = t.flag x g := rfl

end

/-! ### A choice between two states -/

section
variable (c : Prop) {_ : Decidable c} (s t : State)

@[simp] theorem State.ite_regs : (if c then s else t).regs = if c then s.regs else t.regs := apply_ite ..
@[simp] theorem State.ite_snap : (if c then s else t).snap = if c then s.snap else t.snap := apply_ite ..
@[simp] theorem State.ite_mr : (if c then s else t).mr = if c then s.mr else t.mr := apply_ite ..
@[simp] theorem State.ite_mram : (if c then s else t).mram = if c then s.mram else t.mram := apply_ite ..
@[simp] theorem State.ite_itcm : (if c then s else t).itcm = if c then s.itcm else t.itcm := apply_ite ..
@[simp] theorem State.ite_dtcm : (if c then s else t).dtcm = if c then s.dtcm else t.dtcm := apply_ite ..
@[simp] theorem State.ite_power : (if c then s else t).power = if c then s.power else t.power := apply_ite ..
@[simp] theorem State.ite_clk : (if c then s else t).clk = if c then s.clk else t.clk := apply_ite ..
@[simp] theorem State.ite_proc : (if c then s else t).proc = if c then s.proc else t.proc := apply_ite ..
@[simp] theorem State.ite_ic : (if c then s else t).ic = if c then s.ic else t.ic := apply_ite ..
@[simp] theorem State.ite_proof : (if c then s else t).proof = if c then s.proof else t.proof := apply_ite ..
@[simp] theorem State.ite_loops : (if c then s else t).loops = if c then s.loops else t.loops := apply_ite ..
@[simp] theorem State.ite_phases : (if c then s else t).phases = if c then s.phases else t.phases := apply_ite ..
@[simp] theorem State.ite_pe : (if c then s else t).pe = if c then s.pe else t.pe := apply_ite ..
@[simp] theorem State.ite_regul : (if c then s else t).regul = if c then s.regul else t.regul := apply_ite ..
@[simp] theorem State.ite_seg : (if c then s else t).seg = if c then s.seg else t.seg := apply_ite ..
@[simp] theorem State.ite_seq : (if c then s else t).seq = if c then s.seq else t.seq := apply_ite ..
@[simp] theorem State.ite_gpio : (if c then s else t).gpio = if c then s.gpio else t.gpio := apply_ite ..
@[simp] theorem State.ite_ctx : (if c then s else t).ctx = if c then s.ctx else t.ctx := apply_ite ..
@[simp] theorem State.ite_th : (if c then s else t).th = if c then s.th else t.th := apply_ite ..
@[simp] theorem State.ite_adc : (if c then s else t).adc = if c then s.adc else t.adc := apply_ite ..
@[simp] theorem State.ite_feeds : (if c then s else t).feeds = if c then s.feeds else t.feeds := apply_ite ..
@[simp] theorem State.ite_chg : (if c then s else t).chg = if c then s.chg else t.chg := apply_ite ..
@[simp] theorem State.ite_gg : (if c then s else t).gg = if c then s.gg else t.gg := apply_ite ..
@[simp] theorem State.ite_est : (if c then s else t).est = if c then s.est else t.est := apply_ite ..
@[simp] theorem State.ite_flt : (if c then s else t).flt = if c then s.flt else t.flt := apply_ite ..
@[simp] theorem State.ite_fuse : (if c then s else t).fuse = if c then s.fuse else t.fuse := apply_ite ..
@[simp] theorem State.ite_wd : (if c then s else t).wd = if c then s.wd else t.wd := apply_ite ..
@[simp] theorem State.ite_plate : (if c then s else t).plate = if c then s.plate else t.plate := apply_ite ..
@[simp] theorem State.ite_nv : (if c then s else t).nv = if c then s.nv else t.nv := apply_ite ..
@[simp] theorem State.ite_bak : (if c then s else t).bak = if c then s.bak else t.bak := apply_ite ..
@[simp] theorem State.ite_opt : (if c then s else t).opt = if c then s.opt else t.opt := apply_ite ..
@[simp] theorem State.ite_ports : (if c then s else t).ports = if c then s.ports else t.ports := apply_ite ..
@[simp] theorem State.ite_layers : (if c then s else t).layers = if c then s.layers else t.layers := apply_ite ..
@[simp] theorem State.ite_tags : (if c then s else t).tags = if c then s.tags else t.tags := apply_ite ..
@[simp] theorem State.ite_link : (if c then s else t).link = if c then s.link else t.link := apply_ite ..
@[simp] theorem State.ite_aux : (if c then s else t).aux = if c then s.aux else t.aux := apply_ite ..
@[simp] theorem State.ite_fw : (if c then s else t).fw = if c then s.fw else t.fw := apply_ite ..
@[simp] theorem State.ite_sys : (if c then s else t).sys = if c then s.sys else t.sys := apply_ite ..
@[simp] theorem State.ite_out : (if c then s else t).out = if c then s.out else t.out := apply_ite ..
@[simp] theorem State.ite_wire : (if c then s else t).wire = if c then s.wire else t.wire := apply_ite ..
@[simp] theorem State.ite_freeCtr : (if c then s else t).freeCtr = if c then s.freeCtr else t.freeCtr := apply_ite ..
@[simp] theorem State.ite_acks : (if c then s else t).acks = if c then s.acks else t.acks := apply_ite ..
@[simp] theorem State.ite_locked : (if c then s else t).locked = if c then s.locked else t.locked := apply_ite ..
@[simp] theorem State.ite_pending : (if c then s else t).pending = if c then s.pending else t.pending := apply_ite ..
@[simp] theorem State.ite_rd (x : Nat) : (if c then s else t).rd x = if c then s.rd x else t.rd x := by
  split <;> rfl
@[simp] theorem State.ite_get (x : Nat) (g : Fld) : (if c then s else t).get x g = if c then s.get x g else t.get x g := by
  split <;> rfl
@[simp] theorem State.ite_getI (x : Nat) (g : Fld) : (if c then s else t).getI x g = if c then s.getI x g else t.getI x g := by
  split <;> rfl
@[simp] theorem State.ite_flag (x : Nat) (g : Fld) : (if c then s else t).flag x g = if c then s.flag x g else t.flag x g := by
  split <;> rfl

end

end Sys2Proof.Machine
end

