-- ==== Sys2Proof/Laws/Regs.lean ====
section
/-! SUPPORT. What reading a field of a word or a register answers after a field or a register was written. -/
namespace Sys2Proof.Machine
open Sys2Proof
-- the proofs of this file are elaborated one after another, not each in a thread of its own
set_option Elab.async false

/-! ### Fields of a word -/

theorem maskF_bit (f : Fld) (j : Nat) :
    (maskF f).getLsbD j = (decide (j < 32) && (decide (f.lo ≤ j) && decide (j - f.lo < f.w))) := by
  unfold maskF
  rw [BitVec.getLsbD_ofNat, ← Nat.shiftLeft_eq, Nat.testBit_shiftLeft, Nat.testBit_two_pow_sub_one]

theorem getF_bit (x : Word) (f : Fld) (i : Nat) : (getF x f).testBit i = (decide (i < f.w) && x.getLsbD (f.lo + i)) := by
  unfold getF
  rw [Nat.testBit_mod_two_pow, BitVec.testBit_toNat, BitVec.getLsbD_ushiftRight]

theorem setF_bit (x : Word) (f : Fld) (v j : Nat) (hj : j < 32) :
    (setF x f v).getLsbD j = if f.lo ≤ j ∧ j - f.lo < f.w then v.testBit (j - f.lo) else x.getLsbD j := by
  unfold setF
  simp only [BitVec.getLsbD_or, BitVec.getLsbD_and, BitVec.getLsbD_not, maskF_bit, BitVec.getLsbD_shiftLeft,
    BitVec.getLsbD_ofNat, hj, decide_true, Bool.true_and]
  by_cases h : f.lo ≤ j
  · have : ¬ j < f.lo := by omega
    have g : j - f.lo < 32 := by omega
    by_cases w : j - f.lo < f.w <;> simp [h, this, w, g]
  · simp [h]

/-- A field reads what was put into it. -/
theorem getF_setF (x : Word) (f : Fld) (v : Nat) (h : f.lo + f.w ≤ 32) : getF (setF x f v) f = v % 2 ^ f.w := by
  apply Nat.eq_of_testBit_eq
  intro i
  rw [getF_bit, Nat.testBit_mod_two_pow]
  by_cases hi : i < f.w
  · rw [setF_bit _ _ _ _ (by omega)]
    simp [hi]
  · simp [hi]

/-- A field keeps its value when another is written. -/
theorem getF_setF_ne (x : Word) (f g : Fld) (v : Nat) (h : f.lo + f.w ≤ g.lo ∨ g.lo + g.w ≤ f.lo) :
    getF (setF x f v) g = getF x g := by
  apply Nat.eq_of_testBit_eq
  intro i
  rw [getF_bit, getF_bit]
  by_cases hi : i < g.w
  · by_cases hl : g.lo + i < 32
    · rw [setF_bit _ _ _ _ hl]
      have : ¬ (f.lo ≤ g.lo + i ∧ g.lo + i - f.lo < f.w) := by omega
      simp [this]
    · rw [BitVec.getLsbD_of_ge _ _ (by omega), BitVec.getLsbD_of_ge _ _ (by omega)]
  · simp [hi]

/-! ### Registers -/

theorem State.rd_wr (s : State) (a x : Nat) (v : Word) : (s.wr a v).rd x = if x = a then v else s.rd x := by
  unfold State.rd State.wr
  rw [lookupD_writeD]

@[simp] theorem State.rd_wr_same (s : State) (a : Nat) (v : Word) : (s.wr a v).rd a = v := by simp [State.rd_wr]
theorem State.rd_wr_ne (s : State) (a x : Nat) (v : Word) (h : x ≠ a) : (s.wr a v).rd x = s.rd x := by
  simp [State.rd_wr, h]

theorem State.rd_put (s : State) (a x : Nat) (f : Fld) (v : Nat) :
    (s.put a f v).rd x = if x = a then setF (s.rd a) f v else s.rd x := State.rd_wr _ _ _ _
theorem State.rd_put_ne (s : State) (a x : Nat) (f : Fld) (v : Nat) (h : x ≠ a) : (s.put a f v).rd x = s.rd x :=
  State.rd_wr_ne _ _ _ _ h
theorem State.rd_putB_ne (s : State) (a x : Nat) (f : Fld) (b : Bool) (h : x ≠ a) : (s.putB a f b).rd x = s.rd x :=
  State.rd_wr_ne _ _ _ _ h
theorem State.rd_bump_ne (s : State) (a x : Nat) (f : Fld) (h : x ≠ a) : (s.bump a f).rd x = s.rd x :=
  State.rd_wr_ne _ _ _ _ h

/-- A field of a register reads what was put into it. -/
theorem State.get_put (s : State) (a : Nat) (f : Fld) (v : Nat) (h : f.lo + f.w ≤ 32) :
    (s.put a f v).get a f = v % 2 ^ f.w := by
  unfold State.get State.put
  rw [State.rd_wr_same, getF_setF _ _ _ h]
/-- Another field of the register keeps its value. -/
theorem State.get_put_field (s : State) (a : Nat) (f g : Fld) (v : Nat) (h : f.lo + f.w ≤ g.lo ∨ g.lo + g.w ≤ f.lo) :
    (s.put a f v).get a g = s.get a g := by
  unfold State.get State.put
  rw [State.rd_wr_same, getF_setF_ne _ _ _ _ h]
/-- Every field of another register keeps its value. -/
theorem State.get_put_ne (s : State) (a x : Nat) (f g : Fld) (v : Nat) (h : x ≠ a) : (s.put a f v).get x g = s.get x g := by
  unfold State.get
  rw [State.rd_put_ne _ _ _ _ _ h]

theorem State.get_putB (s : State) (a : Nat) (f : Fld) (b : Bool) (h : f.lo + f.w ≤ 32) (w : f.w = 1) :
    (s.putB a f b).get a f = if b then 1 else 0 := by
  unfold State.putB
  rw [State.get_put _ _ _ _ h, w]
  cases b <;> rfl
theorem State.get_putB_field (s : State) (a : Nat) (f g : Fld) (b : Bool)
    (h : f.lo + f.w ≤ g.lo ∨ g.lo + g.w ≤ f.lo) : (s.putB a f b).get a g = s.get a g := State.get_put_field _ _ _ _ _ h
theorem State.get_putB_ne (s : State) (a x : Nat) (f g : Fld) (b : Bool) (h : x ≠ a) :
    (s.putB a f b).get x g = s.get x g := State.get_put_ne _ _ _ _ _ _ h

theorem State.get_wr_ne (s : State) (a x : Nat) (v : Word) (g : Fld) (h : x ≠ a) : (s.wr a v).get x g = s.get x g := by
  unfold State.get
  rw [State.rd_wr_ne _ _ _ _ h]
@[simp] theorem State.get_wr_same (s : State) (a : Nat) (v : Word) (g : Fld) : (s.wr a v).get a g = getF v g := by
  unfold State.get
  rw [State.rd_wr_same]

theorem State.get_bump_ne (s : State) (a x : Nat) (f g : Fld) (h : x ≠ a) : (s.bump a f).get x g = s.get x g :=
  State.get_put_ne _ _ _ _ _ _ h
theorem State.get_bump (s : State) (a : Nat) (f : Fld) (h : f.lo + f.w ≤ 32) :
    (s.bump a f).get a f = min (s.get a f + 1) (2 ^ f.w - 1) := by
  unfold State.bump
  rw [State.get_put _ _ _ _ h]
  apply Nat.mod_eq_of_lt
  have : 0 < 2 ^ f.w := Nat.two_pow_pos _
  omega

theorem State.get_bump_field (s : State) (a : Nat) (f g : Fld) (h : f.lo + f.w ≤ g.lo ∨ g.lo + g.w ≤ f.lo) :
    (s.bump a f).get a g = s.get a g := State.get_put_field _ _ _ _ _ h

theorem State.flag_eq (s : State) (a : Nat) (f : Fld) : s.flag a f = (s.get a f != 0) := rfl

/-! ### Conditional changes -/

@[simp] theorem State.when_true (s : State) (f : State → State) : s.when true f = f s := rfl
@[simp] theorem State.when_false (s : State) (f : State → State) : s.when false f = s := rfl

end Sys2Proof.Machine
end

