-- ==== Sys2Proof/Laws/Raise.lean ====
section
/-! SUPPORT. What a raise of an event source may change: registers of the interrupt controller and of the collector, and
the parts of the state that eventParts names; nothing else. -/
namespace Sys2Proof.Machine
open Sys2Proof
-- the proofs of this file are elaborated one after another, not each in a thread of its own
set_option Elab.async false

/-- A state with the parts that a raise writes taken from another. -/
def State.withEvents (s t : State) : State := { s with flt := t.flt, ic := t.ic, plate := t.plate, acks := t.acks }

theorem State.icOverflow_eq (s : State) (e : Nat) : s.icOverflow e = { s.withEvents (s.icOverflow e) with
    regs := (s.icOverflow e).regs } := rfl

/-- Two states that differ in registers and event parts alone. -/
def EventsOnly (s t : State) : Prop := t = { s.withEvents t with regs := t.regs }

theorem EventsOnly.refl (s : State) : EventsOnly s s := rfl
theorem EventsOnly.trans {s t u : State} (h : EventsOnly s t) (g : EventsOnly t u) : EventsOnly s u := by
  unfold EventsOnly at *
  rw [g, h]
  rfl
theorem EventsOnly.ite {s t u : State} {c : Prop} [Decidable c] (h : EventsOnly s t) (g : EventsOnly s u) :
    EventsOnly s (if c then t else u) := by split <;> assumption
theorem EventsOnly.put (s : State) (a : Nat) (f : Fld) (v : Nat) : EventsOnly s (s.put a f v) := rfl
theorem EventsOnly.putB (s : State) (a : Nat) (f : Fld) (b : Bool) : EventsOnly s (s.putB a f b) := rfl
theorem EventsOnly.wr (s : State) (a : Nat) (v : Word) : EventsOnly s (s.wr a v) := rfl

theorem State.doorbell_only (s : State) (w : Word) : EventsOnly s (s.doorbell w) := by
  unfold State.doorbell
  exact .ite (.refl s) (.ite (.putB _ _ _ _) (.ite (.refl s) (.ite (.trans (.put _ _ _ _) (.putB _ _ _ _)) rfl)))
theorem State.ackClear_only (s : State) (esn cls : Nat) : EventsOnly s (s.ackClear esn cls) := by
  unfold State.ackClear
  exact .ite rfl (.refl s)
theorem State.noteDown_only (s : State) (esn : Nat) : EventsOnly s (s.noteDown esn) := by
  unfold State.noteDown
  exact .ite rfl (.refl s)
theorem State.raiseNow_only (s : State) (esn code hi : Nat) (d : List Byte) (forced : Bool) :
    EventsOnly s (s.raiseNow esn code hi d forced) := by
  have h := State.doorbell_only s (BitVec.ofNat 32 (esn * 2 ^ 24 + (code % 256 + 256 * hi) % 2 ^ 24))
  unfold State.raiseNow
  dsimp only
  generalize s.doorbell (BitVec.ofNat 32 (esn * 2 ^ 24 + (code % 256 + 256 * hi) % 2 ^ 24)) = t at h ⊢
  refine .ite (h.trans (by rfl)) ?_
  have m := ((h.trans (EventsOnly.putB t (FLT_STICKY (esn / 32)) (bitF (esn % 32)) true)).trans (.wr _ (FLT_INFO esn)
    ((t.putB (FLT_STICKY (esn / 32)) (bitF (esn % 32)) true).infoWord esn code (t.effClass esn code forced) forced))).trans
    ((State.ackClear_only _ esn (t.effClass esn code forced)).trans (State.noteDown_only _ esn))
  exact .ite (m.trans (by rfl)) (m.trans (by rfl))
theorem State.raiseWith_only (s : State) (esn code hi : Nat) (d : List Byte) (forced : Bool) :
    EventsOnly s (s.raiseWith esn code hi d forced) := by
  unfold State.raiseWith
  exact .ite rfl (State.raiseNow_only ..)
theorem State.raise_only (s : State) (esn code hi : Nat) (d : List Byte) : EventsOnly s (s.raise esn code hi d) :=
  State.raiseWith_only _ _ _ _ _ _

/-! ### The fields a raise keeps -/

section
variable {s t : State}

theorem EventsOnly.snap (h : EventsOnly s t) : t.snap = s.snap := by rw [show t = _ from h]; rfl
theorem EventsOnly.mr (h : EventsOnly s t) : t.mr = s.mr := by rw [show t = _ from h]; rfl
theorem EventsOnly.mram (h : EventsOnly s t) : t.mram = s.mram := by rw [show t = _ from h]; rfl
theorem EventsOnly.itcm (h : EventsOnly s t) : t.itcm = s.itcm := by rw [show t = _ from h]; rfl
theorem EventsOnly.dtcm (h : EventsOnly s t) : t.dtcm = s.dtcm := by rw [show t = _ from h]; rfl
theorem EventsOnly.power (h : EventsOnly s t) : t.power = s.power := by rw [show t = _ from h]; rfl
theorem EventsOnly.clk (h : EventsOnly s t) : t.clk = s.clk := by rw [show t = _ from h]; rfl
theorem EventsOnly.proc (h : EventsOnly s t) : t.proc = s.proc := by rw [show t = _ from h]; rfl
theorem EventsOnly.proof (h : EventsOnly s t) : t.proof = s.proof := by rw [show t = _ from h]; rfl
theorem EventsOnly.loops (h : EventsOnly s t) : t.loops = s.loops := by rw [show t = _ from h]; rfl
theorem EventsOnly.phases (h : EventsOnly s t) : t.phases = s.phases := by rw [show t = _ from h]; rfl
theorem EventsOnly.pe (h : EventsOnly s t) : t.pe = s.pe := by rw [show t = _ from h]; rfl
theorem EventsOnly.regul (h : EventsOnly s t) : t.regul = s.regul := by rw [show t = _ from h]; rfl
theorem EventsOnly.seg (h : EventsOnly s t) : t.seg = s.seg := by rw [show t = _ from h]; rfl
theorem EventsOnly.seq (h : EventsOnly s t) : t.seq = s.seq := by rw [show t = _ from h]; rfl
theorem EventsOnly.gpio (h : EventsOnly s t) : t.gpio = s.gpio := by rw [show t = _ from h]; rfl
theorem EventsOnly.ctx (h : EventsOnly s t) : t.ctx = s.ctx := by rw [show t = _ from h]; rfl
theorem EventsOnly.th (h : EventsOnly s t) : t.th = s.th := by rw [show t = _ from h]; rfl
theorem EventsOnly.adc (h : EventsOnly s t) : t.adc = s.adc := by rw [show t = _ from h]; rfl
theorem EventsOnly.feeds (h : EventsOnly s t) : t.feeds = s.feeds := by rw [show t = _ from h]; rfl
theorem EventsOnly.chg (h : EventsOnly s t) : t.chg = s.chg := by rw [show t = _ from h]; rfl
theorem EventsOnly.gg (h : EventsOnly s t) : t.gg = s.gg := by rw [show t = _ from h]; rfl
theorem EventsOnly.est (h : EventsOnly s t) : t.est = s.est := by rw [show t = _ from h]; rfl
theorem EventsOnly.fuse (h : EventsOnly s t) : t.fuse = s.fuse := by rw [show t = _ from h]; rfl
theorem EventsOnly.wd (h : EventsOnly s t) : t.wd = s.wd := by rw [show t = _ from h]; rfl
theorem EventsOnly.nv (h : EventsOnly s t) : t.nv = s.nv := by rw [show t = _ from h]; rfl
theorem EventsOnly.bak (h : EventsOnly s t) : t.bak = s.bak := by rw [show t = _ from h]; rfl
theorem EventsOnly.opt (h : EventsOnly s t) : t.opt = s.opt := by rw [show t = _ from h]; rfl
theorem EventsOnly.ports (h : EventsOnly s t) : t.ports = s.ports := by rw [show t = _ from h]; rfl
theorem EventsOnly.layers (h : EventsOnly s t) : t.layers = s.layers := by rw [show t = _ from h]; rfl
theorem EventsOnly.tags (h : EventsOnly s t) : t.tags = s.tags := by rw [show t = _ from h]; rfl
theorem EventsOnly.link (h : EventsOnly s t) : t.link = s.link := by rw [show t = _ from h]; rfl
theorem EventsOnly.aux (h : EventsOnly s t) : t.aux = s.aux := by rw [show t = _ from h]; rfl
theorem EventsOnly.fw (h : EventsOnly s t) : t.fw = s.fw := by rw [show t = _ from h]; rfl
theorem EventsOnly.sys (h : EventsOnly s t) : t.sys = s.sys := by rw [show t = _ from h]; rfl
theorem EventsOnly.out (h : EventsOnly s t) : t.out = s.out := by rw [show t = _ from h]; rfl
theorem EventsOnly.wire (h : EventsOnly s t) : t.wire = s.wire := by rw [show t = _ from h]; rfl
theorem EventsOnly.freeCtr (h : EventsOnly s t) : t.freeCtr = s.freeCtr := by rw [show t = _ from h]; rfl
theorem EventsOnly.locked (h : EventsOnly s t) : t.locked = s.locked := by rw [show t = _ from h]; rfl
theorem EventsOnly.pending (h : EventsOnly s t) : t.pending = s.pending := by rw [show t = _ from h]; rfl

end

section
variable (s : State) (e c h : Nat) (d : List Byte) (b : Bool)

@[simp] theorem State.raiseWith_snap : (s.raiseWith e c h d b).snap = s.snap := (State.raiseWith_only ..).snap
@[simp] theorem State.raise_snap : (s.raise e c h d).snap = s.snap := (State.raise_only ..).snap
@[simp] theorem State.raiseWith_mr : (s.raiseWith e c h d b).mr = s.mr := (State.raiseWith_only ..).mr
@[simp] theorem State.raise_mr : (s.raise e c h d).mr = s.mr := (State.raise_only ..).mr
@[simp] theorem State.raiseWith_mram : (s.raiseWith e c h d b).mram = s.mram := (State.raiseWith_only ..).mram
@[simp] theorem State.raise_mram : (s.raise e c h d).mram = s.mram := (State.raise_only ..).mram
@[simp] theorem State.raiseWith_itcm : (s.raiseWith e c h d b).itcm = s.itcm := (State.raiseWith_only ..).itcm
@[simp] theorem State.raise_itcm : (s.raise e c h d).itcm = s.itcm := (State.raise_only ..).itcm
@[simp] theorem State.raiseWith_dtcm : (s.raiseWith e c h d b).dtcm = s.dtcm := (State.raiseWith_only ..).dtcm
@[simp] theorem State.raise_dtcm : (s.raise e c h d).dtcm = s.dtcm := (State.raise_only ..).dtcm
@[simp] theorem State.raiseWith_power : (s.raiseWith e c h d b).power = s.power := (State.raiseWith_only ..).power
@[simp] theorem State.raise_power : (s.raise e c h d).power = s.power := (State.raise_only ..).power
@[simp] theorem State.raiseWith_clk : (s.raiseWith e c h d b).clk = s.clk := (State.raiseWith_only ..).clk
@[simp] theorem State.raise_clk : (s.raise e c h d).clk = s.clk := (State.raise_only ..).clk
@[simp] theorem State.raiseWith_proc : (s.raiseWith e c h d b).proc = s.proc := (State.raiseWith_only ..).proc
@[simp] theorem State.raise_proc : (s.raise e c h d).proc = s.proc := (State.raise_only ..).proc
@[simp] theorem State.raiseWith_proof : (s.raiseWith e c h d b).proof = s.proof := (State.raiseWith_only ..).proof
@[simp] theorem State.raise_proof : (s.raise e c h d).proof = s.proof := (State.raise_only ..).proof
@[simp] theorem State.raiseWith_loops : (s.raiseWith e c h d b).loops = s.loops := (State.raiseWith_only ..).loops
@[simp] theorem State.raise_loops : (s.raise e c h d).loops = s.loops := (State.raise_only ..).loops
@[simp] theorem State.raiseWith_phases : (s.raiseWith e c h d b).phases = s.phases := (State.raiseWith_only ..).phases
@[simp] theorem State.raise_phases : (s.raise e c h d).phases = s.phases := (State.raise_only ..).phases
@[simp] theorem State.raiseWith_pe : (s.raiseWith e c h d b).pe = s.pe := (State.raiseWith_only ..).pe
@[simp] theorem State.raise_pe : (s.raise e c h d).pe = s.pe := (State.raise_only ..).pe
@[simp] theorem State.raiseWith_regul : (s.raiseWith e c h d b).regul = s.regul := (State.raiseWith_only ..).regul
@[simp] theorem State.raise_regul : (s.raise e c h d).regul = s.regul := (State.raise_only ..).regul
@[simp] theorem State.raiseWith_seg : (s.raiseWith e c h d b).seg = s.seg := (State.raiseWith_only ..).seg
@[simp] theorem State.raise_seg : (s.raise e c h d).seg = s.seg := (State.raise_only ..).seg
@[simp] theorem State.raiseWith_seq : (s.raiseWith e c h d b).seq = s.seq := (State.raiseWith_only ..).seq
@[simp] theorem State.raise_seq : (s.raise e c h d).seq = s.seq := (State.raise_only ..).seq
@[simp] theorem State.raiseWith_gpio : (s.raiseWith e c h d b).gpio = s.gpio := (State.raiseWith_only ..).gpio
@[simp] theorem State.raise_gpio : (s.raise e c h d).gpio = s.gpio := (State.raise_only ..).gpio
@[simp] theorem State.raiseWith_ctx : (s.raiseWith e c h d b).ctx = s.ctx := (State.raiseWith_only ..).ctx
@[simp] theorem State.raise_ctx : (s.raise e c h d).ctx = s.ctx := (State.raise_only ..).ctx
@[simp] theorem State.raiseWith_th : (s.raiseWith e c h d b).th = s.th := (State.raiseWith_only ..).th
@[simp] theorem State.raise_th : (s.raise e c h d).th = s.th := (State.raise_only ..).th
@[simp] theorem State.raiseWith_adc : (s.raiseWith e c h d b).adc = s.adc := (State.raiseWith_only ..).adc
@[simp] theorem State.raise_adc : (s.raise e c h d).adc = s.adc := (State.raise_only ..).adc
@[simp] theorem State.raiseWith_feeds : (s.raiseWith e c h d b).feeds = s.feeds := (State.raiseWith_only ..).feeds
@[simp] theorem State.raise_feeds : (s.raise e c h d).feeds = s.feeds := (State.raise_only ..).feeds
@[simp] theorem State.raiseWith_chg : (s.raiseWith e c h d b).chg = s.chg := (State.raiseWith_only ..).chg
@[simp] theorem State.raise_chg : (s.raise e c h d).chg = s.chg := (State.raise_only ..).chg
@[simp] theorem State.raiseWith_gg : (s.raiseWith e c h d b).gg = s.gg := (State.raiseWith_only ..).gg
@[simp] theorem State.raise_gg : (s.raise e c h d).gg = s.gg := (State.raise_only ..).gg
@[simp] theorem State.raiseWith_est : (s.raiseWith e c h d b).est = s.est := (State.raiseWith_only ..).est
@[simp] theorem State.raise_est : (s.raise e c h d).est = s.est := (State.raise_only ..).est
@[simp] theorem State.raiseWith_fuse : (s.raiseWith e c h d b).fuse = s.fuse := (State.raiseWith_only ..).fuse
@[simp] theorem State.raise_fuse : (s.raise e c h d).fuse = s.fuse := (State.raise_only ..).fuse
@[simp] theorem State.raiseWith_wd : (s.raiseWith e c h d b).wd = s.wd := (State.raiseWith_only ..).wd
@[simp] theorem State.raise_wd : (s.raise e c h d).wd = s.wd := (State.raise_only ..).wd
@[simp] theorem State.raiseWith_nv : (s.raiseWith e c h d b).nv = s.nv := (State.raiseWith_only ..).nv
@[simp] theorem State.raise_nv : (s.raise e c h d).nv = s.nv := (State.raise_only ..).nv
@[simp] theorem State.raiseWith_bak : (s.raiseWith e c h d b).bak = s.bak := (State.raiseWith_only ..).bak
@[simp] theorem State.raise_bak : (s.raise e c h d).bak = s.bak := (State.raise_only ..).bak
@[simp] theorem State.raiseWith_opt : (s.raiseWith e c h d b).opt = s.opt := (State.raiseWith_only ..).opt
@[simp] theorem State.raise_opt : (s.raise e c h d).opt = s.opt := (State.raise_only ..).opt
@[simp] theorem State.raiseWith_ports : (s.raiseWith e c h d b).ports = s.ports := (State.raiseWith_only ..).ports
@[simp] theorem State.raise_ports : (s.raise e c h d).ports = s.ports := (State.raise_only ..).ports
@[simp] theorem State.raiseWith_layers : (s.raiseWith e c h d b).layers = s.layers := (State.raiseWith_only ..).layers
@[simp] theorem State.raise_layers : (s.raise e c h d).layers = s.layers := (State.raise_only ..).layers
@[simp] theorem State.raiseWith_tags : (s.raiseWith e c h d b).tags = s.tags := (State.raiseWith_only ..).tags
@[simp] theorem State.raise_tags : (s.raise e c h d).tags = s.tags := (State.raise_only ..).tags
@[simp] theorem State.raiseWith_link : (s.raiseWith e c h d b).link = s.link := (State.raiseWith_only ..).link
@[simp] theorem State.raise_link : (s.raise e c h d).link = s.link := (State.raise_only ..).link
@[simp] theorem State.raiseWith_aux : (s.raiseWith e c h d b).aux = s.aux := (State.raiseWith_only ..).aux
@[simp] theorem State.raise_aux : (s.raise e c h d).aux = s.aux := (State.raise_only ..).aux
@[simp] theorem State.raiseWith_fw : (s.raiseWith e c h d b).fw = s.fw := (State.raiseWith_only ..).fw
@[simp] theorem State.raise_fw : (s.raise e c h d).fw = s.fw := (State.raise_only ..).fw
@[simp] theorem State.raiseWith_sys : (s.raiseWith e c h d b).sys = s.sys := (State.raiseWith_only ..).sys
@[simp] theorem State.raise_sys : (s.raise e c h d).sys = s.sys := (State.raise_only ..).sys
@[simp] theorem State.raiseWith_out : (s.raiseWith e c h d b).out = s.out := (State.raiseWith_only ..).out
@[simp] theorem State.raise_out : (s.raise e c h d).out = s.out := (State.raise_only ..).out
@[simp] theorem State.raiseWith_wire : (s.raiseWith e c h d b).wire = s.wire := (State.raiseWith_only ..).wire
@[simp] theorem State.raise_wire : (s.raise e c h d).wire = s.wire := (State.raise_only ..).wire
@[simp] theorem State.raiseWith_freeCtr : (s.raiseWith e c h d b).freeCtr = s.freeCtr := (State.raiseWith_only ..).freeCtr
@[simp] theorem State.raise_freeCtr : (s.raise e c h d).freeCtr = s.freeCtr := (State.raise_only ..).freeCtr
@[simp] theorem State.raiseWith_locked : (s.raiseWith e c h d b).locked = s.locked := (State.raiseWith_only ..).locked
@[simp] theorem State.raise_locked : (s.raise e c h d).locked = s.locked := (State.raise_only ..).locked
@[simp] theorem State.raiseWith_pending : (s.raiseWith e c h d b).pending = s.pending := (State.raiseWith_only ..).pending
@[simp] theorem State.raise_pending : (s.raise e c h d).pending = s.pending := (State.raise_only ..).pending

end

/-! ### The registers a raise keeps -/

theorem State.icOverflow_rd (s : State) (e a : Nat) (he : e < 256) (h : offEvents a) : (s.icOverflow e).rd a = s.rd a := by
  unfold State.icOverflow
  have : a ≠ IC_OVF e := by unfold IC_OVF; unfold offEvents at h; omega
  rw [State.rd_putB_ne _ _ _ _ _ this, State.rd_bump_ne _ _ _ _ this]

theorem State.doorbell_rd (s : State) (w : Word) (a : Nat) (h : offEvents a) : (s.doorbell w).rd a = s.rd a := by
  unfold State.doorbell
  have k : a ≠ IC_STAT := by unfold IC_STAT; unfold offEvents at h; omega
  have e : (w >>> 24).toNat < 256 := by
    rw [BitVec.toNat_ushiftRight, Nat.shiftRight_eq_div_pow]
    have := w.isLt
    omega
  dsimp only
  split
  · rfl
  · split
    · exact State.rd_putB_ne _ _ _ _ _ k
    · split
      · rfl
      · split
        · exact State.icOverflow_rd _ _ _ e h
        · rfl

@[simp] theorem State.ackClear_rd (s : State) (esn cls a : Nat) : (s.ackClear esn cls).rd a = s.rd a := by
  unfold State.ackClear; split <;> rfl
@[simp] theorem State.noteDown_rd (s : State) (esn a : Nat) : (s.noteDown esn).rd a = s.rd a := by
  unfold State.noteDown; split <;> rfl

theorem State.raiseNow_rd (s : State) (e c h : Nat) (d : List Byte) (b : Bool) (a : Nat) (he : e < 256) (k : offEvents a) :
    (s.raiseNow e c h d b).rd a = s.rd a := by
  have g := State.doorbell_rd s (BitVec.ofNat 32 (e * 2 ^ 24 + (c % 256 + 256 * h) % 2 ^ 24)) a k
  have k1 : a ≠ FLT_STICKY (e / 32) := by unfold FLT_STICKY; unfold offEvents at k; omega
  have k2 : a ≠ FLT_INFO e := by unfold FLT_INFO; unfold offEvents at k; omega
  unfold State.raiseNow
  dsimp only
  generalize s.doorbell (BitVec.ofNat 32 (e * 2 ^ 24 + (c % 256 + 256 * h) % 2 ^ 24)) = t at g ⊢
  split
  · exact g
  · split
    · change (((((t.putB _ _ true).wr (FLT_INFO e) _).ackClear _ _).noteDown _).rd a) = _
      rw [State.noteDown_rd, State.ackClear_rd, State.rd_wr_ne _ _ _ _ k2, State.rd_putB_ne _ _ _ _ _ k1, g]
    · change (((((t.putB _ _ true).wr (FLT_INFO e) _).ackClear _ _).noteDown _).rd a) = _
      rw [State.noteDown_rd, State.ackClear_rd, State.rd_wr_ne _ _ _ _ k2, State.rd_putB_ne _ _ _ _ _ k1, g]
theorem State.raiseWith_rd (s : State) (e c h : Nat) (d : List Byte) (b : Bool) (a : Nat) (he : e < 256) (k : offEvents a) :
    (s.raiseWith e c h d b).rd a = s.rd a := by
  unfold State.raiseWith
  split
  · rfl
  · exact State.raiseNow_rd _ _ _ _ _ _ _ he k
theorem State.raise_rd (s : State) (e c h : Nat) (d : List Byte) (a : Nat) (he : e < 256) (k : offEvents a) :
    (s.raise e c h d).rd a = s.rd a := State.raiseWith_rd _ _ _ _ _ _ _ he k
theorem State.raise_get (s : State) (e c h : Nat) (d : List Byte) (a : Nat) (f : Fld) (he : e < 256) (k : offEvents a) :
    (s.raise e c h d).get a f = s.get a f := by
  unfold State.get; rw [State.raise_rd _ _ _ _ _ _ he k]

/-! ### What is raised stays raised until the window is taken -/

theorem addWin_mem (e c k : Nat) (f : Bool) (l : List WinRaise) : ∃ w ∈ addWin e c k f l, w.esn = e ∧ c ∈ w.codes := by
  induction l with
  | nil => exact ⟨_, List.mem_singleton.mpr rfl, rfl, List.mem_singleton.mpr rfl⟩
  | cons w r ih =>
    unfold addWin
    split
    · exact ⟨_, List.mem_cons_self, by assumption, by simp⟩
    · obtain ⟨v, m, h⟩ := ih
      exact ⟨v, List.mem_cons_of_mem _ m, h⟩
theorem addWin_keep (e c k : Nat) (f : Bool) (l : List WinRaise) (x y : Nat) (h : ∃ w ∈ l, w.esn = x ∧ y ∈ w.codes) :
    ∃ w ∈ addWin e c k f l, w.esn = x ∧ y ∈ w.codes := by
  induction l with
  | nil => simp at h
  | cons w r ih =>
    obtain ⟨v, m, hv⟩ := h
    unfold addWin
    split
    · rcases List.mem_cons.mp m with rfl | m
      · exact ⟨_, List.mem_cons_self, hv.1, by simp [hv.2]⟩
      · exact ⟨v, List.mem_cons_of_mem _ m, hv⟩
    · rcases List.mem_cons.mp m with rfl | m
      · exact ⟨_, List.mem_cons_self, hv⟩
      · obtain ⟨u, n, hu⟩ := ih ⟨v, m, hv⟩
        exact ⟨u, List.mem_cons_of_mem _ n, hu⟩

@[simp] theorem State.doorbell_flt (s : State) (w : Word) : (s.doorbell w).flt = s.flt := by
  unfold State.doorbell; simp only []; split
  · rfl
  · split
    · rfl
    · split
      · rfl
      · split <;> rfl
theorem State.ackClear_flt (s : State) (e c : Nat) : (s.ackClear e c).flt = s.flt := by
  unfold State.ackClear; split <;> rfl
theorem State.noteDown_window (s : State) (e : Nat) : (s.noteDown e).flt.window = s.flt.window := by
  unfold State.noteDown; split <;> rfl

/-- The window after a raise that is taken (R315); a monitor event with code 0 adds nothing to it (R311). -/
theorem State.raiseNow_window (s : State) (e c h : Nat) (d : List Byte) (b : Bool) (k : ¬(0xA0 ≤ e ∧ c = 0 ∧ b = false)) :
    ∃ cls, (s.raiseNow e c h d b).flt.window = addWin e c cls b s.flt.window := by
  unfold State.raiseNow
  have f := State.doorbell_flt s (BitVec.ofNat 32 (e * 2 ^ 24 + (c % 256 + 256 * h) % 2 ^ 24))
  dsimp only
  generalize s.doorbell (BitVec.ofNat 32 (e * 2 ^ 24 + (c % 256 + 256 * h) % 2 ^ 24)) = t at f ⊢
  rw [if_neg (by simpa [and_assoc] using k)]
  refine ⟨t.effClass e c b, ?_⟩
  rw [← f]
  split
  all_goals
    simp only [State.toPlate_flt, State.noteDown_window, State.ackClear_flt]
    rfl
@[simp] theorem State.ackClear_held (s : State) (e c : Nat) : (s.ackClear e c).flt.held = s.flt.held := by
  unfold State.ackClear; split <;> rfl
@[simp] theorem State.noteDown_held (s : State) (e : Nat) : (s.noteDown e).flt.held = s.flt.held := by
  unfold State.noteDown; split <;> rfl
/-- A raise that is taken leaves the latches as they are. -/
theorem State.raiseNow_held (s : State) (e c h : Nat) (d : List Byte) (b : Bool) :
    (s.raiseNow e c h d b).flt.held = s.flt.held := by
  unfold State.raiseNow
  dsimp only
  have f := State.doorbell_flt s (BitVec.ofNat 32 (e * 2 ^ 24 + (c % 256 + 256 * h) % 2 ^ 24))
  generalize s.doorbell (BitVec.ofNat 32 (e * 2 ^ 24 + (c % 256 + 256 * h) % 2 ^ 24)) = t at f ⊢
  rw [← f]
  split
  · rfl
  · split
    all_goals
      simp only [State.toPlate_flt, State.noteDown_held, State.ackClear_held]
      rfl

theorem State.raise_raised (s : State) (e c h : Nat) (d : List Byte) (k : ¬(0xA0 ≤ e ∧ c = 0)) :
    (s.raise e c h d).raisedCode e c := by
  unfold State.raisedCode State.raise State.raiseWith
  split
  · exact .inr ⟨_, List.mem_append_right _ (List.mem_singleton.mpr rfl), rfl, rfl⟩
  · obtain ⟨cls, w⟩ := State.raiseNow_window s e c h d false (fun x => k ⟨x.1, x.2.1⟩)
    rw [w]
    exact .inl (addWin_mem _ _ _ _ _)
theorem State.raise_keeps_raised (s : State) (e c h : Nat) (d : List Byte) (x y : Nat) (g : s.raisedCode x y) :
    (s.raise e c h d).raisedCode x y := by
  unfold State.raise State.raiseWith
  split
  · exact g.imp id fun ⟨w, m, hw⟩ => ⟨w, List.mem_append_left _ m, hw⟩
  · refine g.imp (fun g => ?_) (fun g => by rwa [State.raiseNow_held])
    by_cases k : 0xA0 ≤ e ∧ c = 0
    · unfold State.raiseNow
      simp only [k, Bool.not_false, decide_true, Bool.and_self, if_true]
      simpa using g
    · obtain ⟨cls, w⟩ := State.raiseNow_window s e c h d false (fun x => k ⟨x.1, x.2.1⟩)
      rw [w]
      exact addWin_keep _ _ _ _ _ _ _ g

end Sys2Proof.Machine
end

