-- ==== Sys2Proof/Laws/Frame.lean ====
section
/-! SUPPORT. How a frame is put together, one operation at a time: what an operation writes is listed, all else is kept. -/
namespace Sys2Proof.Machine
open Sys2Proof
-- the proofs of this file are elaborated one after another, not each in a thread of its own
set_option Elab.async false

theorem Part.Same.refl (s : State) (p : Part) : Part.Same s s p := by cases p <;> rfl
theorem Part.Same.trans {s t u : State} {p : Part} (h : Part.Same s t p) (g : Part.Same t u p) : Part.Same s u p := by
  cases p <;> exact Eq.trans g h

namespace Frame
variable {R : List Nat} {P : List Part} {s t u : State}

theorem refl : Frame R P s s := ⟨fun _ _ => rfl, fun p _ => .refl s p⟩
theorem trans (h : Frame R P s t) (g : Frame R P t u) : Frame R P s u :=
  ⟨fun a m => (g.rd a m).trans (h.rd a m), fun p m => (h.same p m).trans (g.same p m)⟩
theorem ite {c : Prop} {_ : Decidable c} (h : Frame R P s t) (g : Frame R P s u) : Frame R P s (if c then t else u) := by
  split <;> assumption
theorem ite_of {c : Prop} {_ : Decidable c} (h : c → Frame R P s t) (g : ¬c → Frame R P s u) :
    Frame R P s (if c then t else u) := by
  split <;> simp_all
theorem when {c : Bool} {f : State → State} (h : Frame R P s t) (g : Frame R P s (f t)) : Frame R P s (t.when c f) := by
  unfold State.when; split <;> assumption
theorem foldl {α : Type} {f : State → α → State} {l : List α} (h : Frame R P s t) (g : ∀ x a, Frame R P x (f x a)) :
    Frame R P s (l.foldl f t) := by
  induction l generalizing t with
  | nil => exact h
  | cons a r ih => exact ih (h.trans (g t a))
theorem get (h : Frame R P s t) (a : Nat) (f : Fld) (m : a ∉ R) : t.get a f = s.get a f := by
  unfold State.get; rw [h.rd a m]
theorem flag (h : Frame R P s t) (a : Nat) (f : Fld) (m : a ∉ R) : t.flag a f = s.flag a f := by
  unfold State.flag; rw [h.get a f m]
/-- The lists may grow. -/
theorem mono {R' : List Nat} {P' : List Part} (h : Frame R P s t) (r : ∀ a, a ∈ R → a ∈ R') (p : ∀ q, q ∈ P → q ∈ P') : Frame R' P' s t :=
  ⟨fun a m => h.rd a (fun k => m (r a k)), fun q m => h.same q (fun k => m (p q k))⟩
theorem set_snap {a} (h : Frame R P s t) (m : Part.snap ∈ P) : Frame R P s { t with snap := a } :=
  h.trans ⟨fun _ _ => rfl, fun p k => by cases p <;> first | rfl | exact absurd m k⟩
theorem set_mr {a} (h : Frame R P s t) (m : Part.mr ∈ P) : Frame R P s { t with mr := a } :=
  h.trans ⟨fun _ _ => rfl, fun p k => by cases p <;> first | rfl | exact absurd m k⟩
theorem set_mram {a} (h : Frame R P s t) (m : Part.mram ∈ P) : Frame R P s { t with mram := a } :=
  h.trans ⟨fun _ _ => rfl, fun p k => by cases p <;> first | rfl | exact absurd m k⟩
theorem set_itcm {a} (h : Frame R P s t) (m : Part.itcm ∈ P) : Frame R P s { t with itcm := a } :=
  h.trans ⟨fun _ _ => rfl, fun p k => by cases p <;> first | rfl | exact absurd m k⟩
theorem set_dtcm {a} (h : Frame R P s t) (m : Part.dtcm ∈ P) : Frame R P s { t with dtcm := a } :=
  h.trans ⟨fun _ _ => rfl, fun p k => by cases p <;> first | rfl | exact absurd m k⟩
theorem set_power {a} (h : Frame R P s t) (m : Part.power ∈ P) : Frame R P s { t with power := a } :=
  h.trans ⟨fun _ _ => rfl, fun p k => by cases p <;> first | rfl | exact absurd m k⟩
theorem set_clk {a} (h : Frame R P s t) (m : Part.clk ∈ P) : Frame R P s { t with clk := a } :=
  h.trans ⟨fun _ _ => rfl, fun p k => by cases p <;> first | rfl | exact absurd m k⟩
theorem set_proc {a} (h : Frame R P s t) (m : Part.proc ∈ P) : Frame R P s { t with proc := a } :=
  h.trans ⟨fun _ _ => rfl, fun p k => by cases p <;> first | rfl | exact absurd m k⟩
theorem set_ic {a} (h : Frame R P s t) (m : Part.ic ∈ P) : Frame R P s { t with ic := a } :=
  h.trans ⟨fun _ _ => rfl, fun p k => by cases p <;> first | rfl | exact absurd m k⟩
theorem set_proof {a} (h : Frame R P s t) (m : Part.proof ∈ P) : Frame R P s { t with proof := a } :=
  h.trans ⟨fun _ _ => rfl, fun p k => by cases p <;> first | rfl | exact absurd m k⟩
theorem set_loops {a} (h : Frame R P s t) (m : Part.loops ∈ P) : Frame R P s { t with loops := a } :=
  h.trans ⟨fun _ _ => rfl, fun p k => by cases p <;> first | rfl | exact absurd m k⟩
theorem set_phases {a} (h : Frame R P s t) (m : Part.phases ∈ P) : Frame R P s { t with phases := a } :=
  h.trans ⟨fun _ _ => rfl, fun p k => by cases p <;> first | rfl | exact absurd m k⟩
theorem set_pe {a} (h : Frame R P s t) (m : Part.pe ∈ P) : Frame R P s { t with pe := a } :=
  h.trans ⟨fun _ _ => rfl, fun p k => by cases p <;> first | rfl | exact absurd m k⟩
theorem set_regul {a} (h : Frame R P s t) (m : Part.regul ∈ P) : Frame R P s { t with regul := a } :=
  h.trans ⟨fun _ _ => rfl, fun p k => by cases p <;> first | rfl | exact absurd m k⟩
theorem set_seg {a} (h : Frame R P s t) (m : Part.seg ∈ P) : Frame R P s { t with seg := a } :=
  h.trans ⟨fun _ _ => rfl, fun p k => by cases p <;> first | rfl | exact absurd m k⟩
theorem set_seq {a} (h : Frame R P s t) (m : Part.seq ∈ P) : Frame R P s { t with seq := a } :=
  h.trans ⟨fun _ _ => rfl, fun p k => by cases p <;> first | rfl | exact absurd m k⟩
theorem set_gpio {a} (h : Frame R P s t) (m : Part.gpio ∈ P) : Frame R P s { t with gpio := a } :=
  h.trans ⟨fun _ _ => rfl, fun p k => by cases p <;> first | rfl | exact absurd m k⟩
theorem set_ctx {a} (h : Frame R P s t) (m : Part.ctx ∈ P) : Frame R P s { t with ctx := a } :=
  h.trans ⟨fun _ _ => rfl, fun p k => by cases p <;> first | rfl | exact absurd m k⟩
theorem set_th {a} (h : Frame R P s t) (m : Part.th ∈ P) : Frame R P s { t with th := a } :=
  h.trans ⟨fun _ _ => rfl, fun p k => by cases p <;> first | rfl | exact absurd m k⟩
theorem set_adc {a} (h : Frame R P s t) (m : Part.adc ∈ P) : Frame R P s { t with adc := a } :=
  h.trans ⟨fun _ _ => rfl, fun p k => by cases p <;> first | rfl | exact absurd m k⟩
theorem set_feeds {a} (h : Frame R P s t) (m : Part.feeds ∈ P) : Frame R P s { t with feeds := a } :=
  h.trans ⟨fun _ _ => rfl, fun p k => by cases p <;> first | rfl | exact absurd m k⟩
theorem set_chg {a} (h : Frame R P s t) (m : Part.chg ∈ P) : Frame R P s { t with chg := a } :=
  h.trans ⟨fun _ _ => rfl, fun p k => by cases p <;> first | rfl | exact absurd m k⟩
theorem set_gg {a} (h : Frame R P s t) (m : Part.gg ∈ P) : Frame R P s { t with gg := a } :=
  h.trans ⟨fun _ _ => rfl, fun p k => by cases p <;> first | rfl | exact absurd m k⟩
theorem set_est {a} (h : Frame R P s t) (m : Part.est ∈ P) : Frame R P s { t with est := a } :=
  h.trans ⟨fun _ _ => rfl, fun p k => by cases p <;> first | rfl | exact absurd m k⟩
theorem set_flt {a} (h : Frame R P s t) (m : Part.flt ∈ P) : Frame R P s { t with flt := a } :=
  h.trans ⟨fun _ _ => rfl, fun p k => by cases p <;> first | rfl | exact absurd m k⟩
theorem set_fuse {a} (h : Frame R P s t) (m : Part.fuse ∈ P) : Frame R P s { t with fuse := a } :=
  h.trans ⟨fun _ _ => rfl, fun p k => by cases p <;> first | rfl | exact absurd m k⟩
theorem set_wd {a} (h : Frame R P s t) (m : Part.wd ∈ P) : Frame R P s { t with wd := a } :=
  h.trans ⟨fun _ _ => rfl, fun p k => by cases p <;> first | rfl | exact absurd m k⟩
theorem set_plate {a} (h : Frame R P s t) (m : Part.plate ∈ P) : Frame R P s { t with plate := a } :=
  h.trans ⟨fun _ _ => rfl, fun p k => by cases p <;> first | rfl | exact absurd m k⟩
theorem set_nv {a} (h : Frame R P s t) (m : Part.nv ∈ P) : Frame R P s { t with nv := a } :=
  h.trans ⟨fun _ _ => rfl, fun p k => by cases p <;> first | rfl | exact absurd m k⟩
theorem set_bak {a} (h : Frame R P s t) (m : Part.bak ∈ P) : Frame R P s { t with bak := a } :=
  h.trans ⟨fun _ _ => rfl, fun p k => by cases p <;> first | rfl | exact absurd m k⟩
theorem set_opt {a} (h : Frame R P s t) (m : Part.opt ∈ P) : Frame R P s { t with opt := a } :=
  h.trans ⟨fun _ _ => rfl, fun p k => by cases p <;> first | rfl | exact absurd m k⟩
theorem set_ports {a} (h : Frame R P s t) (m : Part.ports ∈ P) : Frame R P s { t with ports := a } :=
  h.trans ⟨fun _ _ => rfl, fun p k => by cases p <;> first | rfl | exact absurd m k⟩
theorem set_layers {a} (h : Frame R P s t) (m : Part.layers ∈ P) : Frame R P s { t with layers := a } :=
  h.trans ⟨fun _ _ => rfl, fun p k => by cases p <;> first | rfl | exact absurd m k⟩
theorem set_tags {a} (h : Frame R P s t) (m : Part.tags ∈ P) : Frame R P s { t with tags := a } :=
  h.trans ⟨fun _ _ => rfl, fun p k => by cases p <;> first | rfl | exact absurd m k⟩
theorem set_link {a} (h : Frame R P s t) (m : Part.link ∈ P) : Frame R P s { t with link := a } :=
  h.trans ⟨fun _ _ => rfl, fun p k => by cases p <;> first | rfl | exact absurd m k⟩
theorem set_aux {a} (h : Frame R P s t) (m : Part.aux ∈ P) : Frame R P s { t with aux := a } :=
  h.trans ⟨fun _ _ => rfl, fun p k => by cases p <;> first | rfl | exact absurd m k⟩
theorem set_fw {a} (h : Frame R P s t) (m : Part.fw ∈ P) : Frame R P s { t with fw := a } :=
  h.trans ⟨fun _ _ => rfl, fun p k => by cases p <;> first | rfl | exact absurd m k⟩
theorem set_sys {a} (h : Frame R P s t) (m : Part.sys ∈ P) : Frame R P s { t with sys := a } :=
  h.trans ⟨fun _ _ => rfl, fun p k => by cases p <;> first | rfl | exact absurd m k⟩
theorem set_out {a} (h : Frame R P s t) (m : Part.out ∈ P) : Frame R P s { t with out := a } :=
  h.trans ⟨fun _ _ => rfl, fun p k => by cases p <;> first | rfl | exact absurd m k⟩
theorem set_wire {a} (h : Frame R P s t) (m : Part.wire ∈ P) : Frame R P s { t with wire := a } :=
  h.trans ⟨fun _ _ => rfl, fun p k => by cases p <;> first | rfl | exact absurd m k⟩
theorem set_freeCtr {a} (h : Frame R P s t) (m : Part.freeCtr ∈ P) : Frame R P s { t with freeCtr := a } :=
  h.trans ⟨fun _ _ => rfl, fun p k => by cases p <;> first | rfl | exact absurd m k⟩
theorem set_acks {a} (h : Frame R P s t) (m : Part.acks ∈ P) : Frame R P s { t with acks := a } :=
  h.trans ⟨fun _ _ => rfl, fun p k => by cases p <;> first | rfl | exact absurd m k⟩
theorem set_locked {a} (h : Frame R P s t) (m : Part.locked ∈ P) : Frame R P s { t with locked := a } :=
  h.trans ⟨fun _ _ => rfl, fun p k => by cases p <;> first | rfl | exact absurd m k⟩
theorem set_pending {a} (h : Frame R P s t) (m : Part.pending ∈ P) : Frame R P s { t with pending := a } :=
  h.trans ⟨fun _ _ => rfl, fun p k => by cases p <;> first | rfl | exact absurd m k⟩
theorem wr {a : Nat} (v : Word) (h : Frame R P s t) (r : a ∈ R) : Frame R P s (t.wr a v) :=
  h.trans ⟨fun x k => State.rd_wr_ne _ _ _ _ (fun e => k (e ▸ r)), fun p _ => by cases p <;> rfl⟩
theorem put {a : Nat} (f : Fld) (v : Nat) (h : Frame R P s t) (r : a ∈ R) : Frame R P s (t.put a f v) :=
  h.trans ⟨fun x k => State.rd_wr_ne _ _ _ _ (fun e => k (e ▸ r)), fun p _ => by cases p <;> rfl⟩
theorem putB {a : Nat} (f : Fld) (b : Bool) (h : Frame R P s t) (r : a ∈ R) : Frame R P s (t.putB a f b) :=
  h.trans ⟨fun x k => State.rd_wr_ne _ _ _ _ (fun e => k (e ▸ r)), fun p _ => by cases p <;> rfl⟩
theorem bump {a : Nat} (f : Fld) (h : Frame R P s t) (r : a ∈ R) : Frame R P s (t.bump a f) :=
  h.trans ⟨fun x k => State.rd_wr_ne _ _ _ _ (fun e => k (e ▸ r)), fun p _ => by cases p <;> rfl⟩
theorem put64 {a b : Nat} (v : Int) (h : Frame R P s t) (r : a ∈ R) (q : b ∈ R) : Frame R P s (t.put64 a b v) := by
  unfold State.put64; exact wr _ (wr _ h r) q
theorem mramWrite {o : Nat} {l : List Byte} (h : Frame R P s t) (m : Part.mram ∈ P) : Frame R P s (t.mramWrite o l) := h.set_mram m
theorem updLoop {k : Fin 4} {f : LoopSt → LoopSt} (h : Frame R P s t) (m : Part.loops ∈ P) : Frame R P s (t.updLoop k f) := h.set_loops m
theorem updPhase {k : Fin 16} {f : PhaseSt → PhaseSt} (h : Frame R P s t) (m : Part.phases ∈ P) : Frame R P s (t.updPhase k f) := h.set_phases m
theorem updReg {k : Fin 14} {f : RegSt → RegSt} (h : Frame R P s t) (m : Part.regul ∈ P) : Frame R P s (t.updReg k f) := h.set_regul m
theorem updFeed {k : Fin 2} {f : FeedSt → FeedSt} (h : Frame R P s t) (m : Part.feeds ∈ P) : Frame R P s (t.updFeed k f) := h.set_feeds m
theorem updChg {f : ChgSt → ChgSt} (h : Frame R P s t) (m : Part.chg ∈ P) : Frame R P s (t.updChg f) := h.set_chg m
theorem updGg {f : GgSt → GgSt} (h : Frame R P s t) (m : Part.gg ∈ P) : Frame R P s (t.updGg f) := h.set_gg m
theorem updEst {f : EstSt → EstSt} (h : Frame R P s t) (m : Part.est ∈ P) : Frame R P s (t.updEst f) := h.set_est m
theorem updAdc {f : AdcSt → AdcSt} (h : Frame R P s t) (m : Part.adc ∈ P) : Frame R P s (t.updAdc f) := h.set_adc m
theorem updClk {f : ClkSt → ClkSt} (h : Frame R P s t) (m : Part.clk ∈ P) : Frame R P s (t.updClk f) := h.set_clk m
theorem updNv {f : NvSt → NvSt} (h : Frame R P s t) (m : Part.nv ∈ P) : Frame R P s (t.updNv f) := h.set_nv m
theorem updPlate {f : PlateSt → PlateSt} (h : Frame R P s t) (m : Part.plate ∈ P) : Frame R P s (t.updPlate f) := h.set_plate m
theorem updBak {f : BakSt → BakSt} (h : Frame R P s t) (m : Part.bak ∈ P) : Frame R P s (t.updBak f) := h.set_bak m
theorem updOpt {f : OptSt → OptSt} (h : Frame R P s t) (m : Part.opt ∈ P) : Frame R P s (t.updOpt f) := h.set_opt m
theorem updSeq {f : SeqSt → SeqSt} (h : Frame R P s t) (m : Part.seq ∈ P) : Frame R P s (t.updSeq f) := h.set_seq m
theorem updTh {f : ThSt → ThSt} (h : Frame R P s t) (m : Part.th ∈ P) : Frame R P s (t.updTh f) := h.set_th m
theorem updWd {f : WdSt → WdSt} (h : Frame R P s t) (m : Part.wd ∈ P) : Frame R P s (t.updWd f) := h.set_wd m
theorem updAdcSeq {k : Fin 2} {f : AdcSeqSt → AdcSeqSt} (h : Frame R P s t) (m : Part.adc ∈ P) : Frame R P s (t.updAdcSeq k f) := h.set_adc m
theorem updThr {k : Fin 4} {f : ThrSt → ThrSt} (h : Frame R P s t) (m : Part.seq ∈ P) : Frame R P s (t.updThr k f) := h.set_seq m
theorem updCtx {k : Fin 160} {f : CtxSt → CtxSt} (h : Frame R P s t) (m : Part.ctx ∈ P) : Frame R P s (t.updCtx k f) := h.set_ctx m
theorem nvQueue1 {j : NvJob} (h : Frame R P s t) (m : Part.nv ∈ P) : Frame R P s (t.nvQueue1 j) := h.set_nv m
theorem nvQueue2 {j : NvJob} (h : Frame R P s t) (m : Part.nv ∈ P) : Frame R P s (t.nvQueue2 j) := h.set_nv m
theorem nvQueue4 {j : NvJob} (h : Frame R P s t) (m : Part.nv ∈ P) : Frame R P s (t.nvQueue4 j) := h.set_nv m
theorem toPlate {r : PlateRec} (h : Frame R P s t) (m : Part.plate ∈ P) : Frame R P s (t.toPlate r) := h.set_plate m
theorem addMark {r : PlateRec} (h : Frame R P s t) (m : Part.plate ∈ P) : Frame R P s (t.addMark r) := h.set_plate m
theorem setTag {k : Fin 96} {x : TagSt} (h : Frame R P s t) (m : Part.tags ∈ P) (r : TAG_BUSY (k / 32) ∈ R) : Frame R P s (t.setTag k x) := by
  unfold State.setTag; exact putB _ _ (h.set_tags m) r
theorem tagState {k : Fin 96} {v : TagState} (h : Frame R P s t) (m : Part.tags ∈ P) (r : TAG_BUSY (k / 32) ∈ R) : Frame R P s (t.tagState k v) := by
  unfold State.tagState; exact setTag h m r
theorem updPort {p : Port} {f : PortSt → PortSt} (h : Frame R P s t) (m : Part.ports ∈ P) (r : PORT_STAT p ∈ R) (q : NOTE_STAT p ∈ R) :
    Frame R P s (t.updPort p f) := by
  unfold State.updPort; exact put _ _ (put _ _ (put _ _ (h.set_ports m) r) r) q
theorem send {l : List Word} (h : Frame R P s t) (m : Part.out ∈ P) (n : Part.wire ∈ P) : Frame R P s (t.send l) :=
  h.trans ⟨fun _ _ => rfl, fun p k => by cases p <;> first | rfl | exact absurd m k | exact absurd n k⟩
theorem latchChange {x : State} (h : Frame R P s t) (m : Part.snap ∈ P) : Frame R P s (x.latchChange t) := h.set_snap m
theorem atTick {c : Bool} {f : State → State} (h : Frame R P s t) (g : Frame R P s (f t)) (m : Part.snap ∈ P) : Frame R P s (t.atTick c f) := by
  unfold State.atTick; split
  · exact g.latchChange m
  · exact h

end Frame

namespace EventFrame
variable {R : List Nat} {P : List Part} {s t u : State}

theorem refl : EventFrame R P s s := ⟨fun _ _ _ => rfl, fun p _ _ => .refl s p⟩
theorem trans (h : EventFrame R P s t) (g : EventFrame R P t u) : EventFrame R P s u :=
  ⟨fun a m o => (g.rd a m o).trans (h.rd a m o), fun p m o => (h.same p m o).trans (g.same p m o)⟩
theorem ite {c : Prop} {_ : Decidable c} (h : EventFrame R P s t) (g : EventFrame R P s u) : EventFrame R P s (if c then t else u) := by
  split <;> assumption
theorem ite_of {c : Prop} {_ : Decidable c} (h : c → EventFrame R P s t) (g : ¬c → EventFrame R P s u) :
    EventFrame R P s (if c then t else u) := by
  split <;> simp_all
theorem when {c : Bool} {f : State → State} (h : EventFrame R P s t) (g : EventFrame R P s (f t)) : EventFrame R P s (t.when c f) := by
  unfold State.when; split <;> assumption
theorem foldl {α : Type} {f : State → α → State} {l : List α} (h : EventFrame R P s t) (g : ∀ x a, EventFrame R P x (f x a)) :
    EventFrame R P s (l.foldl f t) := by
  induction l generalizing t with
  | nil => exact h
  | cons a r ih => exact ih (h.trans (g t a))
theorem get (h : EventFrame R P s t) (a : Nat) (f : Fld) (m : a ∉ R) (o : offEvents a) : t.get a f = s.get a f := by
  unfold State.get; rw [h.rd a m o]
theorem flag (h : EventFrame R P s t) (a : Nat) (f : Fld) (m : a ∉ R) (o : offEvents a) : t.flag a f = s.flag a f := by
  unfold State.flag; rw [h.get a f m o]
/-- The lists may grow. -/
theorem mono {R' : List Nat} {P' : List Part} (h : EventFrame R P s t) (r : ∀ a, a ∈ R → a ∈ R') (p : ∀ q, q ∈ P → q ∈ P') : EventFrame R' P' s t :=
  ⟨fun a m o => h.rd a (fun k => m (r a k)) o, fun q m o => h.same q (fun k => m (p q k)) o⟩
theorem set_snap {a} (h : EventFrame R P s t) (m : Part.snap ∈ P) : EventFrame R P s { t with snap := a } :=
  h.trans ⟨fun _ _ _ => rfl, fun p k _ => by cases p <;> first | rfl | exact absurd m k⟩
theorem set_mr {a} (h : EventFrame R P s t) (m : Part.mr ∈ P) : EventFrame R P s { t with mr := a } :=
  h.trans ⟨fun _ _ _ => rfl, fun p k _ => by cases p <;> first | rfl | exact absurd m k⟩
theorem set_mram {a} (h : EventFrame R P s t) (m : Part.mram ∈ P) : EventFrame R P s { t with mram := a } :=
  h.trans ⟨fun _ _ _ => rfl, fun p k _ => by cases p <;> first | rfl | exact absurd m k⟩
theorem set_itcm {a} (h : EventFrame R P s t) (m : Part.itcm ∈ P) : EventFrame R P s { t with itcm := a } :=
  h.trans ⟨fun _ _ _ => rfl, fun p k _ => by cases p <;> first | rfl | exact absurd m k⟩
theorem set_dtcm {a} (h : EventFrame R P s t) (m : Part.dtcm ∈ P) : EventFrame R P s { t with dtcm := a } :=
  h.trans ⟨fun _ _ _ => rfl, fun p k _ => by cases p <;> first | rfl | exact absurd m k⟩
theorem set_power {a} (h : EventFrame R P s t) (m : Part.power ∈ P) : EventFrame R P s { t with power := a } :=
  h.trans ⟨fun _ _ _ => rfl, fun p k _ => by cases p <;> first | rfl | exact absurd m k⟩
theorem set_clk {a} (h : EventFrame R P s t) (m : Part.clk ∈ P) : EventFrame R P s { t with clk := a } :=
  h.trans ⟨fun _ _ _ => rfl, fun p k _ => by cases p <;> first | rfl | exact absurd m k⟩
theorem set_proc {a} (h : EventFrame R P s t) (m : Part.proc ∈ P) : EventFrame R P s { t with proc := a } :=
  h.trans ⟨fun _ _ _ => rfl, fun p k _ => by cases p <;> first | rfl | exact absurd m k⟩
theorem set_ic {a} (h : EventFrame R P s t) : EventFrame R P s { t with ic := a } :=
  h.trans ⟨fun _ _ _ => rfl, fun p _ o => by cases p <;> first | rfl | exact absurd (by decide) o⟩
theorem set_proof {a} (h : EventFrame R P s t) (m : Part.proof ∈ P) : EventFrame R P s { t with proof := a } :=
  h.trans ⟨fun _ _ _ => rfl, fun p k _ => by cases p <;> first | rfl | exact absurd m k⟩
theorem set_loops {a} (h : EventFrame R P s t) (m : Part.loops ∈ P) : EventFrame R P s { t with loops := a } :=
  h.trans ⟨fun _ _ _ => rfl, fun p k _ => by cases p <;> first | rfl | exact absurd m k⟩
theorem set_phases {a} (h : EventFrame R P s t) (m : Part.phases ∈ P) : EventFrame R P s { t with phases := a } :=
  h.trans ⟨fun _ _ _ => rfl, fun p k _ => by cases p <;> first | rfl | exact absurd m k⟩
theorem set_pe {a} (h : EventFrame R P s t) (m : Part.pe ∈ P) : EventFrame R P s { t with pe := a } :=
  h.trans ⟨fun _ _ _ => rfl, fun p k _ => by cases p <;> first | rfl | exact absurd m k⟩
theorem set_regul {a} (h : EventFrame R P s t) (m : Part.regul ∈ P) : EventFrame R P s { t with regul := a } :=
  h.trans ⟨fun _ _ _ => rfl, fun p k _ => by cases p <;> first | rfl | exact absurd m k⟩
theorem set_seg {a} (h : EventFrame R P s t) (m : Part.seg ∈ P) : EventFrame R P s { t with seg := a } :=
  h.trans ⟨fun _ _ _ => rfl, fun p k _ => by cases p <;> first | rfl | exact absurd m k⟩
theorem set_seq {a} (h : EventFrame R P s t) (m : Part.seq ∈ P) : EventFrame R P s { t with seq := a } :=
  h.trans ⟨fun _ _ _ => rfl, fun p k _ => by cases p <;> first | rfl | exact absurd m k⟩
theorem set_gpio {a} (h : EventFrame R P s t) (m : Part.gpio ∈ P) : EventFrame R P s { t with gpio := a } :=
  h.trans ⟨fun _ _ _ => rfl, fun p k _ => by cases p <;> first | rfl | exact absurd m k⟩
theorem set_ctx {a} (h : EventFrame R P s t) (m : Part.ctx ∈ P) : EventFrame R P s { t with ctx := a } :=
  h.trans ⟨fun _ _ _ => rfl, fun p k _ => by cases p <;> first | rfl | exact absurd m k⟩
theorem set_th {a} (h : EventFrame R P s t) (m : Part.th ∈ P) : EventFrame R P s { t with th := a } :=
  h.trans ⟨fun _ _ _ => rfl, fun p k _ => by cases p <;> first | rfl | exact absurd m k⟩
theorem set_adc {a} (h : EventFrame R P s t) (m : Part.adc ∈ P) : EventFrame R P s { t with adc := a } :=
  h.trans ⟨fun _ _ _ => rfl, fun p k _ => by cases p <;> first | rfl | exact absurd m k⟩
theorem set_feeds {a} (h : EventFrame R P s t) (m : Part.feeds ∈ P) : EventFrame R P s { t with feeds := a } :=
  h.trans ⟨fun _ _ _ => rfl, fun p k _ => by cases p <;> first | rfl | exact absurd m k⟩
theorem set_chg {a} (h : EventFrame R P s t) (m : Part.chg ∈ P) : EventFrame R P s { t with chg := a } :=
  h.trans ⟨fun _ _ _ => rfl, fun p k _ => by cases p <;> first | rfl | exact absurd m k⟩
theorem set_gg {a} (h : EventFrame R P s t) (m : Part.gg ∈ P) : EventFrame R P s { t with gg := a } :=
  h.trans ⟨fun _ _ _ => rfl, fun p k _ => by cases p <;> first | rfl | exact absurd m k⟩
theorem set_est {a} (h : EventFrame R P s t) (m : Part.est ∈ P) : EventFrame R P s { t with est := a } :=
  h.trans ⟨fun _ _ _ => rfl, fun p k _ => by cases p <;> first | rfl | exact absurd m k⟩
theorem set_flt {a} (h : EventFrame R P s t) : EventFrame R P s { t with flt := a } :=
  h.trans ⟨fun _ _ _ => rfl, fun p _ o => by cases p <;> first | rfl | exact absurd (by decide) o⟩
theorem set_fuse {a} (h : EventFrame R P s t) (m : Part.fuse ∈ P) : EventFrame R P s { t with fuse := a } :=
  h.trans ⟨fun _ _ _ => rfl, fun p k _ => by cases p <;> first | rfl | exact absurd m k⟩
theorem set_wd {a} (h : EventFrame R P s t) (m : Part.wd ∈ P) : EventFrame R P s { t with wd := a } :=
  h.trans ⟨fun _ _ _ => rfl, fun p k _ => by cases p <;> first | rfl | exact absurd m k⟩
theorem set_plate {a} (h : EventFrame R P s t) : EventFrame R P s { t with plate := a } :=
  h.trans ⟨fun _ _ _ => rfl, fun p _ o => by cases p <;> first | rfl | exact absurd (by decide) o⟩
theorem set_nv {a} (h : EventFrame R P s t) (m : Part.nv ∈ P) : EventFrame R P s { t with nv := a } :=
  h.trans ⟨fun _ _ _ => rfl, fun p k _ => by cases p <;> first | rfl | exact absurd m k⟩
theorem set_bak {a} (h : EventFrame R P s t) (m : Part.bak ∈ P) : EventFrame R P s { t with bak := a } :=
  h.trans ⟨fun _ _ _ => rfl, fun p k _ => by cases p <;> first | rfl | exact absurd m k⟩
theorem set_opt {a} (h : EventFrame R P s t) (m : Part.opt ∈ P) : EventFrame R P s { t with opt := a } :=
  h.trans ⟨fun _ _ _ => rfl, fun p k _ => by cases p <;> first | rfl | exact absurd m k⟩
theorem set_ports {a} (h : EventFrame R P s t) (m : Part.ports ∈ P) : EventFrame R P s { t with ports := a } :=
  h.trans ⟨fun _ _ _ => rfl, fun p k _ => by cases p <;> first | rfl | exact absurd m k⟩
theorem set_layers {a} (h : EventFrame R P s t) (m : Part.layers ∈ P) : EventFrame R P s { t with layers := a } :=
  h.trans ⟨fun _ _ _ => rfl, fun p k _ => by cases p <;> first | rfl | exact absurd m k⟩
theorem set_tags {a} (h : EventFrame R P s t) (m : Part.tags ∈ P) : EventFrame R P s { t with tags := a } :=
  h.trans ⟨fun _ _ _ => rfl, fun p k _ => by cases p <;> first | rfl | exact absurd m k⟩
theorem set_link {a} (h : EventFrame R P s t) (m : Part.link ∈ P) : EventFrame R P s { t with link := a } :=
  h.trans ⟨fun _ _ _ => rfl, fun p k _ => by cases p <;> first | rfl | exact absurd m k⟩
theorem set_aux {a} (h : EventFrame R P s t) (m : Part.aux ∈ P) : EventFrame R P s { t with aux := a } :=
  h.trans ⟨fun _ _ _ => rfl, fun p k _ => by cases p <;> first | rfl | exact absurd m k⟩
theorem set_fw {a} (h : EventFrame R P s t) (m : Part.fw ∈ P) : EventFrame R P s { t with fw := a } :=
  h.trans ⟨fun _ _ _ => rfl, fun p k _ => by cases p <;> first | rfl | exact absurd m k⟩
theorem set_sys {a} (h : EventFrame R P s t) (m : Part.sys ∈ P) : EventFrame R P s { t with sys := a } :=
  h.trans ⟨fun _ _ _ => rfl, fun p k _ => by cases p <;> first | rfl | exact absurd m k⟩
theorem set_out {a} (h : EventFrame R P s t) (m : Part.out ∈ P) : EventFrame R P s { t with out := a } :=
  h.trans ⟨fun _ _ _ => rfl, fun p k _ => by cases p <;> first | rfl | exact absurd m k⟩
theorem set_wire {a} (h : EventFrame R P s t) (m : Part.wire ∈ P) : EventFrame R P s { t with wire := a } :=
  h.trans ⟨fun _ _ _ => rfl, fun p k _ => by cases p <;> first | rfl | exact absurd m k⟩
theorem set_freeCtr {a} (h : EventFrame R P s t) (m : Part.freeCtr ∈ P) : EventFrame R P s { t with freeCtr := a } :=
  h.trans ⟨fun _ _ _ => rfl, fun p k _ => by cases p <;> first | rfl | exact absurd m k⟩
theorem set_acks {a} (h : EventFrame R P s t) : EventFrame R P s { t with acks := a } :=
  h.trans ⟨fun _ _ _ => rfl, fun p _ o => by cases p <;> first | rfl | exact absurd (by decide) o⟩
theorem set_locked {a} (h : EventFrame R P s t) (m : Part.locked ∈ P) : EventFrame R P s { t with locked := a } :=
  h.trans ⟨fun _ _ _ => rfl, fun p k _ => by cases p <;> first | rfl | exact absurd m k⟩
theorem set_pending {a} (h : EventFrame R P s t) (m : Part.pending ∈ P) : EventFrame R P s { t with pending := a } :=
  h.trans ⟨fun _ _ _ => rfl, fun p k _ => by cases p <;> first | rfl | exact absurd m k⟩
theorem wr {a : Nat} (v : Word) (h : EventFrame R P s t) (r : a ∈ R) : EventFrame R P s (t.wr a v) :=
  h.trans ⟨fun x k _ => State.rd_wr_ne _ _ _ _ (fun e => k (e ▸ r)), fun p _ _ => by cases p <;> rfl⟩
theorem put {a : Nat} (f : Fld) (v : Nat) (h : EventFrame R P s t) (r : a ∈ R) : EventFrame R P s (t.put a f v) :=
  h.trans ⟨fun x k _ => State.rd_wr_ne _ _ _ _ (fun e => k (e ▸ r)), fun p _ _ => by cases p <;> rfl⟩
theorem putB {a : Nat} (f : Fld) (b : Bool) (h : EventFrame R P s t) (r : a ∈ R) : EventFrame R P s (t.putB a f b) :=
  h.trans ⟨fun x k _ => State.rd_wr_ne _ _ _ _ (fun e => k (e ▸ r)), fun p _ _ => by cases p <;> rfl⟩
theorem bump {a : Nat} (f : Fld) (h : EventFrame R P s t) (r : a ∈ R) : EventFrame R P s (t.bump a f) :=
  h.trans ⟨fun x k _ => State.rd_wr_ne _ _ _ _ (fun e => k (e ▸ r)), fun p _ _ => by cases p <;> rfl⟩
theorem put64 {a b : Nat} (v : Int) (h : EventFrame R P s t) (r : a ∈ R) (q : b ∈ R) : EventFrame R P s (t.put64 a b v) := by
  unfold State.put64; exact wr _ (wr _ h r) q
theorem mramWrite {o : Nat} {l : List Byte} (h : EventFrame R P s t) (m : Part.mram ∈ P) : EventFrame R P s (t.mramWrite o l) := h.set_mram m
theorem updLoop {k : Fin 4} {f : LoopSt → LoopSt} (h : EventFrame R P s t) (m : Part.loops ∈ P) : EventFrame R P s (t.updLoop k f) := h.set_loops m
theorem updPhase {k : Fin 16} {f : PhaseSt → PhaseSt} (h : EventFrame R P s t) (m : Part.phases ∈ P) : EventFrame R P s (t.updPhase k f) := h.set_phases m
theorem updReg {k : Fin 14} {f : RegSt → RegSt} (h : EventFrame R P s t) (m : Part.regul ∈ P) : EventFrame R P s (t.updReg k f) := h.set_regul m
theorem updFeed {k : Fin 2} {f : FeedSt → FeedSt} (h : EventFrame R P s t) (m : Part.feeds ∈ P) : EventFrame R P s (t.updFeed k f) := h.set_feeds m
theorem updChg {f : ChgSt → ChgSt} (h : EventFrame R P s t) (m : Part.chg ∈ P) : EventFrame R P s (t.updChg f) := h.set_chg m
theorem updGg {f : GgSt → GgSt} (h : EventFrame R P s t) (m : Part.gg ∈ P) : EventFrame R P s (t.updGg f) := h.set_gg m
theorem updEst {f : EstSt → EstSt} (h : EventFrame R P s t) (m : Part.est ∈ P) : EventFrame R P s (t.updEst f) := h.set_est m
theorem updAdc {f : AdcSt → AdcSt} (h : EventFrame R P s t) (m : Part.adc ∈ P) : EventFrame R P s (t.updAdc f) := h.set_adc m
theorem updClk {f : ClkSt → ClkSt} (h : EventFrame R P s t) (m : Part.clk ∈ P) : EventFrame R P s (t.updClk f) := h.set_clk m
theorem updNv {f : NvSt → NvSt} (h : EventFrame R P s t) (m : Part.nv ∈ P) : EventFrame R P s (t.updNv f) := h.set_nv m
theorem updPlate {f : PlateSt → PlateSt} (h : EventFrame R P s t) : EventFrame R P s (t.updPlate f) := h.set_plate
theorem updBak {f : BakSt → BakSt} (h : EventFrame R P s t) (m : Part.bak ∈ P) : EventFrame R P s (t.updBak f) := h.set_bak m
theorem updOpt {f : OptSt → OptSt} (h : EventFrame R P s t) (m : Part.opt ∈ P) : EventFrame R P s (t.updOpt f) := h.set_opt m
theorem updSeq {f : SeqSt → SeqSt} (h : EventFrame R P s t) (m : Part.seq ∈ P) : EventFrame R P s (t.updSeq f) := h.set_seq m
theorem updTh {f : ThSt → ThSt} (h : EventFrame R P s t) (m : Part.th ∈ P) : EventFrame R P s (t.updTh f) := h.set_th m
theorem updWd {f : WdSt → WdSt} (h : EventFrame R P s t) (m : Part.wd ∈ P) : EventFrame R P s (t.updWd f) := h.set_wd m
theorem updAdcSeq {k : Fin 2} {f : AdcSeqSt → AdcSeqSt} (h : EventFrame R P s t) (m : Part.adc ∈ P) : EventFrame R P s (t.updAdcSeq k f) := h.set_adc m
theorem updThr {k : Fin 4} {f : ThrSt → ThrSt} (h : EventFrame R P s t) (m : Part.seq ∈ P) : EventFrame R P s (t.updThr k f) := h.set_seq m
theorem updCtx {k : Fin 160} {f : CtxSt → CtxSt} (h : EventFrame R P s t) (m : Part.ctx ∈ P) : EventFrame R P s (t.updCtx k f) := h.set_ctx m
theorem nvQueue1 {j : NvJob} (h : EventFrame R P s t) (m : Part.nv ∈ P) : EventFrame R P s (t.nvQueue1 j) := h.set_nv m
theorem nvQueue2 {j : NvJob} (h : EventFrame R P s t) (m : Part.nv ∈ P) : EventFrame R P s (t.nvQueue2 j) := h.set_nv m
theorem nvQueue4 {j : NvJob} (h : EventFrame R P s t) (m : Part.nv ∈ P) : EventFrame R P s (t.nvQueue4 j) := h.set_nv m
theorem toPlate {r : PlateRec} (h : EventFrame R P s t) : EventFrame R P s (t.toPlate r) := h.set_plate
theorem addMark {r : PlateRec} (h : EventFrame R P s t) : EventFrame R P s (t.addMark r) := h.set_plate
theorem setTag {k : Fin 96} {x : TagSt} (h : EventFrame R P s t) (m : Part.tags ∈ P) (r : TAG_BUSY (k / 32) ∈ R) : EventFrame R P s (t.setTag k x) := by
  unfold State.setTag; exact putB _ _ (h.set_tags m) r
theorem tagState {k : Fin 96} {v : TagState} (h : EventFrame R P s t) (m : Part.tags ∈ P) (r : TAG_BUSY (k / 32) ∈ R) : EventFrame R P s (t.tagState k v) := by
  unfold State.tagState; exact setTag h m r
theorem updPort {p : Port} {f : PortSt → PortSt} (h : EventFrame R P s t) (m : Part.ports ∈ P) (r : PORT_STAT p ∈ R) (q : NOTE_STAT p ∈ R) :
    EventFrame R P s (t.updPort p f) := by
  unfold State.updPort; exact put _ _ (put _ _ (put _ _ (h.set_ports m) r) r) q
theorem send {l : List Word} (h : EventFrame R P s t) (m : Part.out ∈ P) (n : Part.wire ∈ P) : EventFrame R P s (t.send l) :=
  h.trans ⟨fun _ _ _ => rfl, fun p k _ => by cases p <;> first | rfl | exact absurd m k | exact absurd n k⟩
theorem latchChange {x : State} (h : EventFrame R P s t) (m : Part.snap ∈ P) : EventFrame R P s (x.latchChange t) := h.set_snap m
theorem atTick {c : Bool} {f : State → State} (h : EventFrame R P s t) (g : EventFrame R P s (f t)) (m : Part.snap ∈ P) : EventFrame R P s (t.atTick c f) := by
  unfold State.atTick; split
  · exact g.latchChange m
  · exact h
/-- A frame that raises nothing is one that may. -/
theorem of_frame (h : Frame R P s t) : EventFrame R P s t := ⟨fun a m _ => h.rd a m, fun p m _ => h.same p m⟩
theorem raiseWith {e c h : Nat} {d : List Byte} {b : Bool} (g : EventFrame R P s t) (he : e < 256) :
    EventFrame R P s (t.raiseWith e c h d b) :=
  g.trans ⟨fun a _ o => State.raiseWith_rd _ _ _ _ _ _ _ he o, fun p _ o => by
    cases p <;> first
      | exact absurd (by decide) o
      | simp [Part.Same]⟩
theorem raise {e c h : Nat} {d : List Byte} (g : EventFrame R P s t) (he : e < 256) :
    EventFrame R P s (t.raise e c h d) := g.raiseWith he

end EventFrame

end Sys2Proof.Machine
end

