-- ==== Sys2Proof/Laws/Keeps.lean ====
section
/-! SUPPORT. What every operation of the model keeps: the canonical form of the stores, the chains of the measurement
registers, and the queue of commands. One relation between a state and a later one, and how it is put together. -/
namespace Sys2Proof.Machine
open Sys2Proof
-- the proofs of this file are elaborated one after another, not each in a thread of its own
set_option Elab.async false

/-- From `s` to `t` the stores stay canonical, the measurement registers only extend or restart, and no command joins or
leaves the queue. -/
structure Keeps (s t : State) : Prop where
  wf : s.Wf → t.Wf
  chained : s.Chained → t.Chained
  pending : t.pending = s.pending

/-- An outcome goes only to states that keep all of it. -/
def OutKeeps (s : State) (o : Host.Outcome State Fault Refusal) : Prop := ∀ t, o = .next t → Keeps s t

namespace Keeps
variable {s t u : State}

theorem refl (s : State) : Keeps s s := ⟨id, id, rfl⟩
theorem trans (h : Keeps s t) (g : Keeps t u) : Keeps s u :=
  ⟨fun w => g.wf (h.wf w), fun w => g.chained (h.chained w), g.pending.trans h.pending⟩
theorem ite {c : Prop} [Decidable c] (h : Keeps s t) (g : Keeps s u) : Keeps s (if c then t else u) := by
  split <;> assumption
theorem dite {c : Prop} [Decidable c] {f : c → State} {g : ¬c → State} (h : ∀ x, Keeps s (f x)) (k : ∀ x, Keeps s (g x)) :
    Keeps s (if x : c then f x else g x) := by split <;> simp_all
/-- An update of fields other than the stores, the measurement registers and the queue. -/
theorem upd (h : Keeps s t) (e : u.regs = t.regs := by rfl) (e1 : u.snap.regs = t.snap.regs := by rfl)
    (e2 : u.mram.cells = t.mram.cells := by rfl) (e3 : u.itcm = t.itcm := by rfl) (e4 : u.dtcm = t.dtcm := by rfl)
    (e5 : u.mr = t.mr := by rfl) (e6 : u.pending = t.pending := by rfl) : Keeps s u :=
  ⟨fun w => by have := h.wf w; simpa only [State.Wf, e, e1, e2, e3, e4] using this,
   fun w => by have := h.chained w; simpa only [State.Chained, e5] using this, e6.trans h.pending⟩

/-! An update of fields. -/

theorem set_acks {a} (h : Keeps s t) :
    Keeps s { t with acks := a } := h.upd
theorem set_adc {a} (h : Keeps s t) :
    Keeps s { t with adc := a } := h.upd
theorem set_aux {a} (h : Keeps s t) :
    Keeps s { t with aux := a } := h.upd
theorem set_aux_wire {a b} (h : Keeps s t) :
    Keeps s { t with aux := a, wire := b } := h.upd
theorem set_bak {a} (h : Keeps s t) :
    Keeps s { t with bak := a } := h.upd
theorem set_chg {a} (h : Keeps s t) :
    Keeps s { t with chg := a } := h.upd
theorem set_clk {a} (h : Keeps s t) :
    Keeps s { t with clk := a } := h.upd
theorem set_clk_flt {a b} (h : Keeps s t) :
    Keeps s { t with clk := a, flt := b } := h.upd
theorem set_clk_loops_seq_wd {a b c d} (h : Keeps s t) :
    Keeps s { t with clk := a, loops := b, seq := c, wd := d } := h.upd
theorem set_clk_plate_nv_aux {a b c d} (h : Keeps s t) :
    Keeps s { t with clk := a, plate := b, nv := c, aux := d } := h.upd
theorem set_ctx {a} (h : Keeps s t) :
    Keeps s { t with ctx := a } := h.upd
theorem set_est {a} (h : Keeps s t) :
    Keeps s { t with est := a } := h.upd
theorem set_feeds {a} (h : Keeps s t) :
    Keeps s { t with feeds := a } := h.upd
theorem set_flt {a} (h : Keeps s t) :
    Keeps s { t with flt := a } := h.upd
theorem set_freeCtr {a} (h : Keeps s t) :
    Keeps s { t with freeCtr := a } := h.upd
theorem set_fuse {a} (h : Keeps s t) :
    Keeps s { t with fuse := a } := h.upd
theorem set_fw {a} (h : Keeps s t) :
    Keeps s { t with fw := a } := h.upd
theorem set_gg {a} (h : Keeps s t) :
    Keeps s { t with gg := a } := h.upd
theorem set_gpio {a} (h : Keeps s t) :
    Keeps s { t with gpio := a } := h.upd
theorem set_ic {a} (h : Keeps s t) :
    Keeps s { t with ic := a } := h.upd
theorem set_layers {a} (h : Keeps s t) :
    Keeps s { t with layers := a } := h.upd
theorem set_link {a} (h : Keeps s t) :
    Keeps s { t with link := a } := h.upd
theorem set_locked {a} (h : Keeps s t) :
    Keeps s { t with locked := a } := h.upd
theorem set_loops {a} (h : Keeps s t) :
    Keeps s { t with loops := a } := h.upd
theorem set_nv {a} (h : Keeps s t) :
    Keeps s { t with nv := a } := h.upd
theorem set_opt {a} (h : Keeps s t) :
    Keeps s { t with opt := a } := h.upd
theorem set_out {a} (h : Keeps s t) :
    Keeps s { t with out := a } := h.upd
theorem set_out_wire {a b} (h : Keeps s t) :
    Keeps s { t with out := a, wire := b } := h.upd
theorem set_pe {a} (h : Keeps s t) :
    Keeps s { t with pe := a } := h.upd
theorem set_phases {a} (h : Keeps s t) :
    Keeps s { t with phases := a } := h.upd
theorem set_plate {a} (h : Keeps s t) :
    Keeps s { t with plate := a } := h.upd
theorem set_ports {a} (h : Keeps s t) :
    Keeps s { t with ports := a } := h.upd
theorem set_ports_layers_link_aux {a b c d} (h : Keeps s t) :
    Keeps s { t with ports := a, layers := b, link := c, aux := d } := h.upd
theorem set_power {a} (h : Keeps s t) :
    Keeps s { t with power := a } := h.upd
theorem set_power_fw {a b} (h : Keeps s t) :
    Keeps s { t with power := a, fw := b } := h.upd
theorem set_power_layers {a b} (h : Keeps s t) :
    Keeps s { t with power := a, layers := b } := h.upd
theorem set_proc {a} (h : Keeps s t) :
    Keeps s { t with proc := a } := h.upd
theorem set_proof {a} (h : Keeps s t) :
    Keeps s { t with proof := a } := h.upd
theorem set_regul {a} (h : Keeps s t) :
    Keeps s { t with regul := a } := h.upd
theorem set_seg {a} (h : Keeps s t) :
    Keeps s { t with seg := a } := h.upd
theorem set_seg_est {a b} (h : Keeps s t) :
    Keeps s { t with seg := a, est := b } := h.upd
theorem set_seg_freeCtr {a b} (h : Keeps s t) :
    Keeps s { t with seg := a, freeCtr := b } := h.upd
theorem set_seq {a} (h : Keeps s t) :
    Keeps s { t with seq := a } := h.upd
theorem set_sys {a} (h : Keeps s t) :
    Keeps s { t with sys := a } := h.upd
theorem set_tags {a} (h : Keeps s t) :
    Keeps s { t with tags := a } := h.upd
theorem set_th {a} (h : Keeps s t) :
    Keeps s { t with th := a } := h.upd
theorem set_wd {a} (h : Keeps s t) :
    Keeps s { t with wd := a } := h.upd

theorem foldl {α : Type} {f : State → α → State} {l : List α} (h : Keeps s t) (hf : ∀ x a, Keeps x (f x a)) :
    Keeps s (l.foldl f t) := by
  induction l generalizing t with
  | nil => exact h
  | cons a r ih => exact ih (h.trans (hf t a))
theorem when {c : Bool} {f : State → State} (h : Keeps s t) (hf : ∀ x, Keeps x (f x)) : Keeps s (t.when c f) := by
  unfold State.when; split
  · exact h.trans (hf t)
  · exact h
theorem done (h : Keeps s t) : OutKeeps s (Sys2Proof.Machine.done t) := fun _ e => by cases e; exact h
theorem out_ite {c : Prop} [Decidable c] {o p : Host.Outcome State Fault Refusal} (h : OutKeeps s o) (g : OutKeeps s p) :
    OutKeeps s (if c then o else p) := by split <;> assumption
theorem snd_ite {α : Type} {c : Prop} [Decidable c] {p q : α × State} (h : Keeps s p.2) (g : Keeps s q.2) :
    Keeps s (if c then p else q).2 := by split <;> assumption
theorem fst_ite {α : Type} {c : Prop} [Decidable c] {p q : State × α} (h : Keeps s p.1) (g : Keeps s q.1) :
    Keeps s (if c then p else q).1 := by split <;> assumption
theorem snd2_ite {α β : Type} {c : Prop} [Decidable c] {p q : α × β × State} (h : Keeps s p.2.2) (g : Keeps s q.2.2) :
    Keeps s (if c then p else q).2.2 := by split <;> assumption
theorem itcmWrite {a : Nat} {l : List Byte} (h : Keeps s t) : Keeps s { t with itcm := memWrite t.itcm a l } :=
  h.trans ⟨fun w => ⟨w.1, w.2.1, memWrite_wf _ _ _ w.2.2.1, w.2.2.2⟩, id, rfl⟩
theorem dtcmWrite {a : Nat} {l : List Byte} (h : Keeps s t) : Keeps s { t with dtcm := memWrite t.dtcm a l } :=
  h.trans ⟨fun w => ⟨w.1, w.2.1, w.2.2.1, memWrite_wf _ _ _ w.2.2.2⟩, id, rfl⟩
theorem pair1 {α : Type} {a : α} (h : Keeps s t) : Keeps s (t, a).1 := h
theorem pair2 {α : Type} {a : α} (h : Keeps s t) : Keeps s (a, t).2 := h
theorem pair3 {α β : Type} {a : α} {p : β × State} (h : Keeps s p.2) : Keeps s (a, p).2.2 := h

end Keeps

/-- A measurement register that returns to 0. -/
theorem Chained.set0 (s : State) (k : Fin 4) (h : s.Chained) : State.Chained { s with mr := s.mr.set k 0 } := by
  intro n
  by_cases e : n = k
  · subst e; simpa using Measured.start
  · have : (k : Nat) ≠ n := fun c => e (Fin.ext c.symm)
    simpa [Vector.getElem_set, this] using h n

/-- A register written: the file stays canonical. -/
theorem State.wr_keeps (s : State) (a : Nat) (v : Word) : Keeps s (s.wr a v) :=
  ⟨fun w => ⟨⟨canonD_writeD resetVal s.regs a v w.1.1, w.1.2⟩, w.2⟩, id, rfl⟩

theorem mramCells_wf (l : List Byte) (f : Nat → Nat) (b : List Nat) (m : List Host.Cell) (h : Memory.wf m = true) :
    Memory.wf (b.foldl (fun m b => memWrite m (f b) l) m) = true := by
  induction b generalizing m with
  | nil => exact h
  | cons k r ih => exact ih _ (memWrite_wf _ _ _ h)

/-- Bytes written to MRAM: the cells stay canonical. -/
theorem State.mramWrite_keeps (s : State) (off : Nat) (l : List Byte) : Keeps s (s.mramWrite off l) :=
  ⟨fun w => ⟨w.1, mramCells_wf l (fun b => 4096 * b + off % 4096) _ _ w.2.1, w.2.2⟩, id, rfl⟩

theorem putAll_wf (l p : List (Nat × Word)) (h : canonD resetVal l = true) : canonD resetVal (putAll l p) = true := by
  induction p generalizing l with
  | nil => exact h
  | cons q r ih => exact ih _ (canonD_writeD resetVal l q.1 q.2 h)

/-- What joins the latch keeps it canonical. -/
theorem State.latchChange_keeps (s t : State) : Keeps t (s.latchChange t) :=
  ⟨fun w => ⟨⟨w.1.1, putAll_wf _ _ w.1.2⟩, w.2⟩, id, rfl⟩

theorem State.latch_keeps (s : State) : Keeps s s.latch := ⟨fun w => ⟨⟨w.1.1, w.1.1⟩, w.2⟩, id, rfl⟩

theorem Keeps.atTick {s t : State} {c : Bool} {f : State → State} (h : Keeps s t) (hf : ∀ x, Keeps x (f x)) :
    Keeps s (t.atTick c f) := by
  unfold State.atTick; split
  · exact (h.trans (hf t)).trans (State.latchChange_keeps _ _)
  · exact h

/-- An extension: the register goes one link further and its count is written. -/
theorem State.extend_keeps (s : State) (n : Fin 4) (d : List Byte) : Keeps s (s.extend n d) := by
  refine Keeps.trans (t := { s with mr := s.mr.set n (digestBV (sha256 (bytesLE 32 s.mr[n].toNat ++ d))) }) ?_
    (State.wr_keeps _ _ _)
  refine ⟨id, fun w k => ?_, rfl⟩
  by_cases hk : k = n
  · subst hk; simpa using Measured.extend _ d (w k)
  · have : (n : Nat) ≠ k := fun e => hk (Fin.ext e.symm)
    simpa [Vector.getElem_set, this] using w k

end Sys2Proof.Machine
end

