-- ==== Sys2Proof/Laws/KeepsCore.lean ====
section
/-! SUPPORT. What is kept by the shared operations, the converters, the Plate and MRAM: one lemma per operation
and per meaning, in the order in which the model declares them. -/
namespace Sys2Proof.Machine
open Sys2Proof
-- the proofs of this file are elaborated one after another, not each in a thread of its own
set_option Elab.async false

/-! ### Ops -/

theorem State.put_keeps (s : State) (a : Nat) (f : Fld) (v : Nat) : Keeps s (State.put s a f v) := by
  unfold State.put
  exact State.wr_keeps _ _ _
theorem State.putB_keeps (s : State) (a : Nat) (f : Fld) (b : Bool) : Keeps s (State.putB s a f b) := by
  unfold State.putB
  exact State.put_keeps _ _ _ _
theorem State.bump_keeps (s : State) (a : Nat) (f : Fld) : Keeps s (State.bump s a f) := by
  unfold State.bump
  exact State.put_keeps _ _ _ _
theorem done_keeps (s : State) : OutKeeps s (done s) := by unfold done; exact Keeps.done (.refl _)
theorem State.send_keeps (s : State) (ws : List Word) : Keeps s (State.send s ws) := by
  unfold State.send
  exact Keeps.set_out_wire (.refl _)
theorem State.updLoop_keeps (s : State) (m : Fin 4) (f : LoopSt → LoopSt) : Keeps s (State.updLoop s m f) := by
  unfold State.updLoop
  exact Keeps.set_loops (.refl _)
theorem State.updPhase_keeps (s : State) (n : Fin 16) (f : PhaseSt → PhaseSt) : Keeps s (State.updPhase s n f) := by
  unfold State.updPhase
  exact Keeps.set_phases (.refl _)
theorem State.updReg_keeps (s : State) (r : Fin 14) (f : RegSt → RegSt) : Keeps s (State.updReg s r f) := by
  unfold State.updReg
  exact Keeps.set_regul (.refl _)
theorem State.updFeed_keeps (s : State) (x : Fin 2) (f : FeedSt → FeedSt) : Keeps s (State.updFeed s x f) := by
  unfold State.updFeed
  exact Keeps.set_feeds (.refl _)
theorem State.updChg_keeps (s : State) (f : ChgSt → ChgSt) : Keeps s (State.updChg s f) := by
  unfold State.updChg
  exact Keeps.set_chg (.refl _)
theorem State.updGg_keeps (s : State) (f : GgSt → GgSt) : Keeps s (State.updGg s f) := by
  unfold State.updGg
  exact Keeps.set_gg (.refl _)
theorem State.updEst_keeps (s : State) (f : EstSt → EstSt) : Keeps s (State.updEst s f) := by
  unfold State.updEst
  exact Keeps.set_est (.refl _)
theorem State.icOverflow_keeps (s : State) (esn : Nat) : Keeps s (State.icOverflow s esn) := by
  unfold State.icOverflow
  exact Keeps.trans (State.bump_keeps _ _ _) (State.putB_keeps _ _ _ _)
theorem State.doorbell_keeps (s : State) (w : Word) : Keeps s (State.doorbell s w) := by
  unfold State.doorbell
  exact Keeps.ite (.refl _) (Keeps.ite (State.putB_keeps _ _ _ _) (Keeps.ite (.refl _) (Keeps.ite
      (State.icOverflow_keeps _ _) (Keeps.set_ic (.refl _)))))
theorem State.toPlate_keeps (s : State) (r : PlateRec) : Keeps s (State.toPlate s r) := by
  unfold State.toPlate
  exact Keeps.set_plate (.refl _)
theorem State.addMark_keeps (s : State) (r : PlateRec) : Keeps s (State.addMark s r) := by
  unfold State.addMark
  exact Keeps.set_plate (.refl _)
theorem State.ackClear_keeps (s : State) (esn : Nat) (cls : Nat) : Keeps s (State.ackClear s esn cls) := by
  unfold State.ackClear
  exact Keeps.ite (Keeps.set_acks (.refl _)) (.refl _)
theorem State.noteDown_keeps (s : State) (esn : Nat) : Keeps s (State.noteDown s esn) := by
  unfold State.noteDown
  exact Keeps.ite (Keeps.set_flt (.refl _)) (.refl _)
theorem State.raiseNow_keeps (s : State) (esn : Nat) (code : Nat) (hi : Nat) (detail : List Byte) (forced : Bool) :
    Keeps s (State.raiseNow s esn code hi detail forced) := by
  unfold State.raiseNow
  exact Keeps.ite (Keeps.trans (State.doorbell_keeps _ _) (State.toPlate_keeps _ _)) (Keeps.ite (Keeps.trans
      (Keeps.set_flt (Keeps.trans (Keeps.trans (Keeps.trans (Keeps.trans (State.doorbell_keeps _ _) (State.putB_keeps
      _ _ _ _)) (State.wr_keeps _ _ _)) (State.ackClear_keeps _ _ _)) (State.noteDown_keeps _ _)))
      (State.toPlate_keeps _ _)) (Keeps.set_flt (Keeps.trans (Keeps.trans (Keeps.trans (Keeps.trans
      (State.doorbell_keeps _ _) (State.putB_keeps _ _ _ _)) (State.wr_keeps _ _ _)) (State.ackClear_keeps _ _ _))
      (State.noteDown_keeps _ _))))
theorem State.raiseWith_keeps (s : State) (esn : Nat) (code : Nat) (hi : Nat) (detail : List Byte) (forced : Bool) :
    Keeps s (State.raiseWith s esn code hi detail forced) := by
  unfold State.raiseWith
  exact Keeps.ite (Keeps.set_flt (.refl _)) (State.raiseNow_keeps _ _ _ _ _ _)
theorem State.raiseHeld_keeps (s : State) : Keeps s (State.raiseHeld s) := by
  unfold State.raiseHeld
  exact Keeps.foldl (Keeps.set_flt (.refl _)) (fun _ _ => (State.raiseNow_keeps _ _ _ _ _ _))
theorem State.raise_keeps (s : State) (esn : Nat) (code : Nat) (hi : Nat) (detail : List Byte) : Keeps s (State.raise
    s esn code hi detail) := by
  unfold State.raise
  exact State.raiseWith_keeps _ _ _ _ _ _
theorem State.free_keeps (s : State) : Keeps s (State.free s).2 := by
  unfold State.free
  exact Keeps.pair2 (Keeps.set_freeCtr (.refl _))
theorem State.nvQueue1_keeps (s : State) (j : NvJob) : Keeps s (State.nvQueue1 s j) := by
  unfold State.nvQueue1
  exact Keeps.set_nv (.refl _)
theorem State.nvQueue2_keeps (s : State) (j : NvJob) : Keeps s (State.nvQueue2 s j) := by
  unfold State.nvQueue2
  exact Keeps.set_nv (.refl _)
theorem State.nvQueue4_keeps (s : State) (j : NvJob) : Keeps s (State.nvQueue4 s j) := by
  unfold State.nvQueue4
  exact Keeps.set_nv (.refl _)
theorem State.eccFixed_keeps (s : State) (off : Nat) : Keeps s (State.eccFixed s off) := by
  unfold State.eccFixed
  exact Keeps.trans (Keeps.trans (State.raise_keeps _ _ _ _ _) (State.bump_keeps _ _ _)) (State.nvQueue4_keeps _ _)
theorem State.flipWord_keeps (s : State) (off : Nat) (i : Fin 72) (j : Fin 72) : Keeps s (State.flipWord s off i j) :=
    by
  unfold State.flipWord
  exact Keeps.ite (.refl _) (Keeps.upd (State.mramWrite_keeps _ _ _))
theorem State.eccFlip_keeps (s : State) (x1 : List EccRead) : Keeps s (State.eccFlip s x1) := by
  unfold State.eccFlip
  split
  · exact .refl _
  · exact Keeps.trans (by
          split
          · exact State.flipWord_keeps _ _ _ _
          · exact .refl _) (State.eccFlip_keeps _ _)
theorem State.eccReads_keeps (s : State) (x1 : List EccRead) : Keeps s (State.eccReads s x1) := by
  unfold State.eccReads
  split
  · exact .refl _
  · exact Keeps.trans (Keeps.ite (Keeps.trans (State.putB_keeps _ _ _ _) (State.raise_keeps _ _ _ _ _))
        (State.eccFixed_keeps _ _)) (State.eccReads_keeps _ _)

/-! ### Adc -/

theorem State.updAdc_keeps (s : State) (f : AdcSt → AdcSt) : Keeps s (State.updAdc s f) := by
  unfold State.updAdc
  exact Keeps.set_adc (.refl _)
theorem State.updAdcSeq_keeps (s : State) (q : Fin 2) (f : AdcSeqSt → AdcSeqSt) : Keeps s (State.updAdcSeq s q f) :=
    by
  unfold State.updAdcSeq
  exact State.updAdc_keeps _ _
theorem State.adcStale_keeps (s : State) (core : Nat) (e : Nat) : Keeps s (State.adcStale s core e) := by
  unfold State.adcStale
  exact Keeps.ite (.refl _) (State.wr_keeps _ _ _)
theorem State.publishEntry_keeps (s : State) (core : Nat) (q : Fin 2) (x : FrameIn) (frame : Nat) (e : Nat) : Keeps s
    (State.publishEntry s core q x frame e) := by
  unfold State.publishEntry
  exact Keeps.ite (State.wr_keeps _ _ _) (State.adcStale_keeps _ _ _)
theorem State.publishCore_keeps (s : State) (x : FrameIn) (frame : Nat) (core : Nat) : Keeps s (State.publishCore s x
    frame core) := by
  unfold State.publishCore
  split
  · exact Keeps.foldl (.refl _) (fun _ _ => (State.publishEntry_keeps _ _ _ _ _ _))
  · exact Keeps.foldl (.refl _) (fun _ _ => (State.adcStale_keeps _ _ _))
theorem State.updUrgent_keeps (s : State) (q : Fin 2) (f : List Nat → List Nat) : Keeps s (State.updUrgent s q f) :=
    by
  unfold State.updUrgent
  exact State.updAdc_keeps _ _
theorem State.dropUrgent_keeps (s : State) (q : Fin 2) : Keeps s (State.dropUrgent s q) := by
  unfold State.dropUrgent
  exact Keeps.foldl (State.updUrgent_keeps _ _ _) (fun _ _ => (Keeps.ite (Keeps.trans (State.putB_keeps _ _ _ _)
      (State.raise_keeps _ _ _ _ _)) (.refl _)))
theorem State.loseSeq_keeps (s : State) (q : Fin 2) : Keeps s (State.loseSeq s q) := by
  unfold State.loseSeq
  exact Keeps.trans (Keeps.trans (State.put_keeps _ _ _ _) (State.raise_keeps _ _ _ _ _)) (State.dropUrgent_keeps _ _)
theorem State.adcCheck_keeps (s : State) (chk : Vector (BitVec 16) 3) (c : Fin 3) : Keeps s (State.adcCheck s chk c)
    := by
  unfold State.adcCheck
  exact Keeps.ite (.refl _) (Keeps.ite (Keeps.trans (Keeps.trans (State.wr_keeps _ _ _) (State.updAdc_keeps _ _))
      (State.raise_keeps _ _ _ _ _)) (State.wr_keeps _ _ _))
theorem State.fenceCores_keeps (s : State) (x1 : List (Fin 3)) : Keeps s (State.fenceCores s x1) := by
  unfold State.fenceCores
  split
  · exact .refl _
  · exact Keeps.trans (Keeps.trans (State.put_keeps _ _ _ _) (State.raise_keeps _ _ _ _ _)) (State.fenceCores_keeps _
        _)
theorem State.afterFence_keeps (s : State) (c : Fin 3) : Keeps s (State.afterFence s c) := by
  unfold State.afterFence
  exact Keeps.ite (by
        split
        · exact State.loseSeq_keeps _ _
        · exact State.loseSeq_keeps _ _
        · exact .refl _) (Keeps.ite (State.updAdc_keeps _ _) (State.loseSeq_keeps _ _))
theorem State.adcChecks_keeps (s : State) (chk : Vector (BitVec 16) 3) : Keeps s (State.adcChecks s chk) := by
  unfold State.adcChecks
  exact Keeps.foldl (Keeps.trans (Keeps.foldl (.refl _) (fun _ _ => (State.adcCheck_keeps _ _ _)))
      (State.fenceCores_keeps _ _)) (fun _ _ => (State.afterFence_keeps _ _))
theorem State.adcTick_keeps (s : State) (x : FrameIn) : Keeps s (State.adcTick s x) := by
  unfold State.adcTick
  exact Keeps.trans (Keeps.foldl (Keeps.foldl (.refl _) (fun _ _ => (State.publishCore_keeps _ _ _ _))) (fun _ _ =>
      (State.wr_keeps _ _ _))) (State.updAdc_keeps _ _)
theorem execAdc2Takeover_keeps (q : Fin 2) (s : State) : OutKeeps s (execAdc2Takeover q s) := by
  unfold execAdc2Takeover
  exact Keeps.done (Keeps.atTick (.refl _) (fun _ => (Keeps.ite (Keeps.trans (Keeps.trans (Keeps.trans
      (State.updAdc_keeps _ _) (State.put_keeps _ _ _ _)) (State.raise_keeps _ _ _ _ _)) (State.loseSeq_keeps _ _))
      (Keeps.trans (Keeps.trans (State.updAdc_keeps _ _) (State.put_keeps _ _ _ _)) (State.raise_keeps _ _ _ _ _)))))
theorem State.urgentWrite_keeps (s : State) (q : Fin 2) (j : Fin 8) (input : Nat) (cal : Bool) (slot : UrgSlot) :
    Keeps s (State.urgentWrite s q j input cal slot) := by
  unfold State.urgentWrite
  exact Keeps.ite (State.raise_keeps _ _ _ _ _) (Keeps.ite (Keeps.trans (State.wr_keeps _ _ _) (State.updUrgent_keeps
      _ _ _)) (Keeps.ite (Keeps.trans (Keeps.trans (Keeps.trans (State.wr_keeps _ _ _) (State.updUrgent_keeps _ _ _))
      (State.putB_keeps _ _ _ _)) (State.updAdcSeq_keeps _ _ _)) (Keeps.trans (Keeps.trans (State.wr_keeps _ _ _)
      (State.updUrgent_keeps _ _ _)) (State.updAdcSeq_keeps _ _ _))))
theorem execUrgentRequest_keeps (q : Fin 2) (j : Fin 8) (input : BitVec 6) (cal : Bool) (slot : UrgSlot) (s : State) :
    OutKeeps s (execUrgentRequest q j input cal slot s) := by
  unfold execUrgentRequest
  exact Keeps.done (Keeps.when (.refl _) (fun _ => (State.urgentWrite_keeps _ _ _ _ _ _)))
theorem execUrgentResult_keeps (q : Fin 2) (j : Fin 8) (raw : BitVec 16) (s : State) : OutKeeps s (execUrgentResult q
    j raw s) := by
  unfold execUrgentResult
  exact Keeps.done (Keeps.when (.refl _) (fun _ => (Keeps.trans (Keeps.trans (Keeps.trans (State.wr_keeps _ _ _)
      (State.updUrgent_keeps _ _ _)) (State.putB_keeps _ _ _ _)) (State.putB_keeps _ _ _ _))))
theorem execRefReadySet_keeps (chk : Vector (BitVec 16) 3) (s : State) : OutKeeps s (execRefReadySet chk s) := by
  unfold execRefReadySet
  exact Keeps.done (Keeps.atTick (.refl _) (fun _ => (Keeps.trans (Keeps.trans (Keeps.trans (State.putB_keeps _ _ _ _)
      (State.updAdc_keeps _ _)) (State.raise_keeps _ _ _ _ _)) (State.adcChecks_keeps _ _))))
theorem State.refDown_keeps (s : State) : Keeps s (State.refDown s) := by
  unfold State.refDown
  exact Keeps.trans (Keeps.ite (.refl _) (Keeps.foldl (.refl _) (fun _ _ => (Keeps.foldl (.refl _) (fun _ _ =>
      (State.adcStale_keeps _ _ _)))))) (State.putB_keeps _ _ _ _)
theorem State.refLost_keeps (s : State) (n0 : Nat) (n1 : Nat) : Keeps s (State.refLost s n0 n1) := by
  unfold State.refLost
  exact Keeps.trans (State.refDown_keeps _) (State.updAdc_keeps _ _)
theorem State.calEnd_keeps (s : State) (result : Nat) : Keeps s (State.calEnd s result) := by
  unfold State.calEnd
  exact Keeps.trans (Keeps.trans (State.put_keeps _ _ _ _) (State.put_keeps _ _ _ _)) (State.updAdc_keeps _ _)
theorem execReferenceFault_keeps (n0 : Fin 65) (n1 : Fin 65) (s : State) : OutKeeps s (execReferenceFault n0 n1 s) :=
    by
  unfold execReferenceFault
  exact Keeps.done (Keeps.when (.refl _) (fun _ => (Keeps.ite (Keeps.trans (Keeps.trans (Keeps.trans (Keeps.trans
      (State.refLost_keeps _ _ _) (State.putB_keeps _ _ _ _)) (State.raise_keeps _ _ _ _ _)) (State.calEnd_keeps _ _))
      (State.raise_keeps _ _ _ _ _)) (Keeps.trans (Keeps.trans (State.refLost_keeps _ _ _) (State.putB_keeps _ _ _ _))
      (State.raise_keeps _ _ _ _ _)))))
theorem State.calIgnored_keeps (s : State) : Keeps s (State.calIgnored s) := by
  unfold State.calIgnored
  exact State.raise_keeps _ _ _ _ _
theorem State.calZero_keeps (s : State) (input : Nat) (target : Nat) : Keeps s (State.calZero s input target) := by
  unfold State.calZero
  exact Keeps.ite (State.calIgnored_keeps _) (Keeps.trans (Keeps.trans (State.put_keeps _ _ _ _) (State.put_keeps _ _
      _ _)) (State.updAdc_keeps _ _))
theorem State.calFull_keeps (s : State) (input : Nat) (target : Nat) : Keeps s (State.calFull s input target) := by
  unfold State.calFull
  exact Keeps.ite (Keeps.trans (State.put_keeps _ _ _ _) (State.updAdc_keeps _ _)) (State.calIgnored_keeps _)
theorem State.calAbort_keeps (s : State) : Keeps s (State.calAbort s) := by
  unfold State.calAbort
  exact Keeps.ite (.refl _) (State.calEnd_keeps _ _)
theorem execCalZero_keeps (input : BitVec 6) (target : BitVec 16) (s : State) : OutKeeps s (execCalZero input target
    s) := by
  unfold execCalZero
  exact Keeps.done (Keeps.when (.refl _) (fun _ => (State.calZero_keeps _ _ _)))
theorem execCalFull_keeps (input : BitVec 6) (target : BitVec 16) (s : State) : OutKeeps s (execCalFull input target
    s) := by
  unfold execCalFull
  exact Keeps.done (Keeps.when (.refl _) (fun _ => (State.calFull_keeps _ _ _)))
theorem execCalAbort_keeps (s : State) : OutKeeps s (execCalAbort s) := by
  unfold execCalAbort
  exact Keeps.done (Keeps.when (.refl _) (fun _ => (State.calAbort_keeps _)))
theorem execCalibrationCaptureDone_keeps (sums : Vector (BitVec 24) 3) (s : State) : OutKeeps s
    (execCalibrationCaptureDone sums s) := by
  unfold execCalibrationCaptureDone
  exact Keeps.done (Keeps.when (.refl _) (fun _ => (Keeps.ite (Keeps.trans (Keeps.trans (State.put_keeps _ _ _ _)
      (State.updAdc_keeps _ _)) (State.raise_keeps _ _ _ _ _)) (by
        dsimp only
        split
        · exact Keeps.trans (Keeps.trans (Keeps.trans (State.calEnd_keeps _ _) (State.updAdc_keeps _ _))
              (State.nvQueue4_keeps _ _)) (State.raise_keeps _ _ _ _ _)
        · exact Keeps.trans (State.calEnd_keeps _ _) (State.raise_keeps _ _ _ _ _)))))
theorem State.adcStandby_keeps (s : State) : Keeps s (State.adcStandby s) := by
  unfold State.adcStandby
  exact Keeps.trans (Keeps.trans (Keeps.foldl (Keeps.ite (.refl _) (State.calEnd_keeps _ _)) (fun _ _ => (Keeps.foldl
      (.refl _) (fun _ _ => (State.putB_keeps _ _ _ _))))) (State.refDown_keeps _)) (State.updAdc_keeps _ _)
theorem State.adcWrite_keeps (s : State) (a : Nat) (w : Word) : Keeps s (State.adcWrite s a w) := by
  unfold State.adcWrite
  exact Keeps.ite (State.raise_keeps _ _ _ _ _) (Keeps.ite (State.raise_keeps _ _ _ _ _) (Keeps.ite (Keeps.ite
      (Keeps.trans (Keeps.trans (Keeps.trans (Keeps.trans (State.wr_keeps _ _ _) (State.free_keeps _))
      (State.free_keeps _)) (State.refLost_keeps _ _ _)) (State.updAdc_keeps _ _)) (State.wr_keeps _ _ _)) (Keeps.ite
      (by
        split
        · exact State.calZero_keeps _ _ _
        · exact State.calFull_keeps _ _ _
        · exact State.calAbort_keeps _
        · exact .refl _) (State.wr_keeps _ _ _))))

/-! ### Access -/

theorem State.lock_keeps (s : State) (a : Nat) (d : RegDef) : Keeps s (State.lock s a d) := by
  unfold State.lock
  exact Keeps.ite (.refl _) (Keeps.set_locked (.refl _))

/-! ### Plate -/

theorem State.updPlate_keeps (s : State) (f : PlateSt → PlateSt) : Keeps s (State.updPlate s f) := by
  unfold State.updPlate
  exact Keeps.set_plate (.refl _)
theorem State.plateLevel_keeps (s : State) : Keeps s (State.plateLevel s) := by
  unfold State.plateLevel
  exact Keeps.trans (State.put_keeps _ _ _ _) (State.putB_keeps _ _ _ _)
theorem State.fifoAdd_keeps (s : State) (r : PlateRec) (update : Option Nat) : Keeps s (State.fifoAdd s r update) :=
    by
  unfold State.fifoAdd
  exact State.updPlate_keeps _ _
theorem State.newTarget_keeps (s : State) (r : PlateRec) (id : Nat) : Keeps s (State.newTarget s r id) := by
  unfold State.newTarget
  exact Keeps.ite (State.updPlate_keeps _ _) (.refl _)
theorem State.plateDrop_keeps (s : State) (r : PlateRec) : Keeps s (State.plateDrop s r) := by
  unfold State.plateDrop
  exact Keeps.ite (State.put_keeps _ _ _ _) (Keeps.trans (Keeps.trans (State.put_keeps _ _ _ _) (State.updPlate_keeps
      _ _)) (State.raise_keeps _ _ _ _ _))
theorem State.plateSuppress_keeps (s : State) (r : PlateRec) : Keeps s (State.plateSuppress s r) := by
  unfold State.plateSuppress
  exact Keeps.ite (Keeps.trans (State.wr_keeps _ _ _) (State.updPlate_keeps _ _)) (Keeps.trans (Keeps.trans
      (Keeps.trans (State.wr_keeps _ _ _) (State.updPlate_keeps _ _)) (State.putB_keeps _ _ _ _)) (State.raise_keeps _
      _ _ _ _))
theorem State.bumpTarget_keeps (s : State) (esn : Nat) (last : Nat) (rep : Nat) : Keeps s (State.bumpTarget s esn last
    rep) := by
  unfold State.bumpTarget
  exact State.updPlate_keeps _ _
theorem State.queueUpdate_keeps (s : State) (slot : Nat) (r : PlateRec) : Keeps s (State.queueUpdate s slot r) := by
  unfold State.queueUpdate
  exact Keeps.ite (State.updPlate_keeps _ _) (State.fifoAdd_keeps _ _ _)
theorem State.coalesce_keeps (s : State) (r : PlateRec) (n : Newest) : Keeps s (State.coalesce s r n) := by
  unfold State.coalesce
  dsimp only
  split
  · exact Keeps.trans (State.bumpTarget_keeps _ _ _ _) (State.queueUpdate_keeps _ _ _)
  · split
    · exact Keeps.trans (State.bumpTarget_keeps _ _ _ _) (State.queueUpdate_keeps _ _ _)
    · exact Keeps.trans (State.bumpTarget_keeps _ _ _ _) (State.updPlate_keeps _ _)
theorem State.acceptNew_keeps (s : State) (r : PlateRec) : Keeps s (State.acceptNew s r) := by
  unfold State.acceptNew
  exact Keeps.ite (Keeps.ite (State.plateDrop_keeps _ _) (Keeps.trans (State.fifoAdd_keeps _ _ _)
      (State.newTarget_keeps _ _ _))) (Keeps.ite (State.plateSuppress_keeps _ _) (Keeps.trans (State.fifoAdd_keeps _ _
      _) (State.newTarget_keeps _ _ _)))
theorem State.accept_keeps (s : State) (r : PlateRec) : Keeps s (State.accept s r) := by
  unfold State.accept
  split
  · exact Keeps.ite (State.coalesce_keeps _ _ _) (State.acceptNew_keeps _ _)
  · exact State.acceptNew_keeps _ _
theorem State.acceptAll_keeps (s : State) (x1 : List PlateRec) : Keeps s (State.acceptAll s x1) := by
  unfold State.acceptAll
  split
  · exact .refl _
  · exact Keeps.trans (State.accept_keeps _ _) (State.acceptAll_keeps _ _)
theorem State.floodJudge_keeps (s : State) : Keeps s (State.floodJudge s) := by
  unfold State.floodJudge
  exact State.updPlate_keeps _ _
theorem execPlateIngest_keeps (s : State) : OutKeeps s (execPlateIngest s) := by
  unfold execPlateIngest
  exact Keeps.done (Keeps.when (.refl _) (fun _ => (Keeps.trans (Keeps.trans (Keeps.ite (Keeps.trans (Keeps.trans
      (Keeps.ite (Keeps.trans (Keeps.trans (Keeps.set_clk (.refl _)) (State.updPlate_keeps _ _))
      (State.acceptAll_keeps _ _)) (Keeps.trans (Keeps.trans (Keeps.trans (Keeps.set_clk (.refl _))
      (State.updPlate_keeps _ _)) (State.acceptAll_keeps _ _)) (State.updPlate_keeps _ _))) (State.updPlate_keeps _
      _)) (State.addMark_keeps _ _)) (Keeps.ite (Keeps.trans (Keeps.trans (Keeps.set_clk (.refl _))
      (State.updPlate_keeps _ _)) (State.acceptAll_keeps _ _)) (Keeps.trans (Keeps.trans (Keeps.trans (Keeps.set_clk
      (.refl _)) (State.updPlate_keeps _ _)) (State.acceptAll_keeps _ _)) (State.updPlate_keeps _ _))))
      (State.floodJudge_keeps _)) (State.plateLevel_keeps _))))
theorem State.emitSupp_keeps (s : State) (x1 : List Nat) : Keeps s (State.emitSupp s x1) := by
  unfold State.emitSupp
  split
  · exact .refl _
  · split
    · exact Keeps.trans (Keeps.trans (State.fifoAdd_keeps _ _ _) (State.wr_keeps _ _ _)) (State.emitSupp_keeps _ _)
    · exact State.emitSupp_keeps _ _
theorem execFloodEnd_keeps (s : State) : OutKeeps s (execFloodEnd s) := by
  unfold execFloodEnd
  exact Keeps.done (Keeps.when (.refl _) (fun _ => (Keeps.trans (Keeps.trans (Keeps.trans (Keeps.trans
      (State.emitSupp_keeps _ _) (State.updPlate_keeps _ _)) (State.putB_keeps _ _ _ _)) (State.raise_keeps _ _ _ _
      _)) (State.plateLevel_keeps _))))
theorem execClockMarkHourly_keeps (s : State) : OutKeeps s (execClockMarkHourly s) := by
  unfold execClockMarkHourly
  exact Keeps.done (Keeps.when (.refl _) (fun _ => (Keeps.trans (Keeps.set_opt (.refl _)) (State.addMark_keeps _ _))))
theorem State.snapshot_keeps (s : State) (esn : Nat) (tag : Nat) (hi : Nat) : Keeps s (State.snapshot s esn tag hi) :=
    by
  unfold State.snapshot
  exact Keeps.ite (State.raise_keeps _ _ _ _ _) (Keeps.trans (Keeps.trans (State.updPlate_keeps _ _) (State.put_keeps
      _ _ _ _)) (State.putB_keeps _ _ _ _))
theorem State.snapAsk_keeps (s : State) (tag : Nat) : Keeps s (State.snapAsk s tag) := by
  unfold State.snapAsk
  exact State.updPlate_keeps _ _
theorem execSnap_keeps (tag : BitVec 16) (s : State) : OutKeeps s (execSnap tag s) := by
  unfold execSnap
  exact Keeps.done (Keeps.when (.refl _) (fun _ => (Keeps.trans (State.updPlate_keeps _ _) (State.snapshot_keeps _ _ _
      _))))
theorem State.countSevs_keeps (s : State) (l : List Nat) (x2 : List Nat) : Keeps s (State.countSevs s l x2) := by
  unfold State.countSevs
  split
  · exact .refl _
  · exact Keeps.trans (State.put_keeps _ _ _ _) (State.countSevs_keeps _ _ _)
theorem State.plateFull_keeps (s : State) : Keeps s (State.plateFull s) := by
  unfold State.plateFull
  exact State.putB_keeps _ _ _ _
theorem execPlateRebuildDone_keeps (ecc : List EccRead) (s : State) : OutKeeps s (execPlateRebuildDone ecc s) := by
  unfold execPlateRebuildDone
  exact Keeps.done (Keeps.when (.refl _) (fun _ => (Keeps.trans (Keeps.trans (Keeps.trans (Keeps.trans (by
        split
        · exact Keeps.trans (Keeps.trans (State.eccFlip_keeps _ _) (State.put_keeps _ _ _ _)) (State.put_keeps _ _ _
              _)
        · exact Keeps.trans (State.eccFlip_keeps _ _) (State.put_keeps _ _ _ _)) (State.countSevs_keeps _ _ _))
      (State.putB_keeps _ _ _ _)) (State.plateFull_keeps _)) (State.eccReads_keeps _ _))))
theorem State.cursorWrite_keeps (s : State) (v : Nat) : Keeps s (State.cursorWrite s v) := by
  unfold State.cursorWrite
  exact Keeps.ite (State.put_keeps _ _ _ _) (.refl _)
theorem execPlateCursorWrite_keeps (v : BitVec 20) (s : State) : OutKeeps s (execPlateCursorWrite v s) := by
  unfold execPlateCursorWrite
  exact Keeps.done (Keeps.when (.refl _) (fun _ => (State.cursorWrite_keeps _ _)))
theorem execPlateWin4Read_keeps (ecc : List EccRead) (s : State) : OutKeeps s (execPlateWin4Read ecc s) := by
  unfold execPlateWin4Read
  exact Keeps.done (Keeps.when (.refl _) (fun _ => (Keeps.set_out (Keeps.trans (Keeps.trans (State.eccFlip_keeps _ _)
      (State.updPlate_keeps _ _)) (State.eccReads_keeps _ _)))))

/-! ### Nv -/

theorem State.updNv_keeps (s : State) (f : NvSt → NvSt) : Keeps s (State.updNv s f) := by
  unfold State.updNv
  exact Keeps.set_nv (.refl _)
theorem State.nvBusy_keeps (s : State) : Keeps s (State.nvBusy s) := by
  unfold State.nvBusy
  exact State.putB_keeps _ _ _ _
theorem State.brokenWord_keeps (s : State) (off : Nat) : Keeps s (State.brokenWord s off) := by
  unfold State.brokenWord
  exact Keeps.trans (Keeps.set_freeCtr (.refl _)) (State.mramWrite_keeps _ _ _)
theorem State.nvWord_keeps (s : State) (off : Nat) (v : BitVec 64) (fails : Fin 4) : Keeps s (State.nvWord s off v
    fails) := by
  unfold State.nvWord
  exact Keeps.ite (State.putB_keeps _ _ _ _) (Keeps.ite (State.mramWrite_keeps _ _ _) (Keeps.ite (Keeps.trans
      (Keeps.trans (Keeps.upd (.refl _)) (State.brokenWord_keeps _ _)) (State.raise_keeps _ _ _ _ _)) (Keeps.trans
      (Keeps.trans (State.put_keeps _ _ _ _) (State.brokenWord_keeps _ _)) (State.updNv_keeps _ _))))
theorem State.bootDone_keeps (s : State) (source : BootBy) (r : BootRec) (off : Nat) : Keeps s (State.bootDone s
    source r off) := by
  unfold State.bootDone
  exact Keeps.ite (Keeps.trans (Keeps.trans (Keeps.upd (.refl _)) (State.putB_keeps _ _ _ _)) (State.raise_keeps _ _ _
      _ _)) (Keeps.upd (.refl _))
theorem State.remapDone_keeps (s : State) (sector spare : Nat) : Keeps s (State.remapDone s sector spare) := by
  unfold State.remapDone
  refine Keeps.trans ?_ (State.raise_keeps _ _ _ _ _)
  exact ⟨fun w => ⟨w.1, mramCells_wf _ (fun b => 4096 * b) _ _ w.2.1, w.2.2⟩, id, rfl⟩
theorem State.calibDone_keeps (s : State) (tab : List (Nat × Word)) (off : Nat) : Keeps s (State.calibDone s tab off)
    := by
  unfold State.calibDone
  exact Keeps.upd (.refl _)
theorem State.jobDone_keeps (s : State) (j : NvJob) : Keeps s (State.jobDone s j) := by
  unfold State.jobDone
  split
  · exact State.bootDone_keeps _ _ _ _
  · exact Keeps.upd (.refl _)
  · exact State.remapDone_keeps _ _ _
  · exact Keeps.upd (.refl _)
  · exact State.calibDone_keeps _ _ _
  · exact .refl _
  · exact .refl _
  · exact .refl _
theorem State.jobWord_keeps (s : State) (j : NvJob) (fails : Fin 4) : Keeps s (State.jobWord s j fails) := by
  unfold State.jobWord
  split
  · exact State.nvWord_keeps _ _ _ _
  · exact .refl _
theorem State.flushWords_keeps (s : State) (x1 : List (Nat × BitVec 64)) : Keeps s (State.flushWords s x1) := by
  unfold State.flushWords
  split
  · exact .refl _
  · exact Keeps.trans (State.nvWord_keeps _ _ _ _) (State.flushWords_keeps _ _)
theorem State.nvFirst_keeps (s : State) : Keeps s (State.nvFirst s) := by
  unfold State.nvFirst
  exact Keeps.ite (.refl _) (Keeps.foldl (State.updNv_keeps _ _) (fun _ _ => (Keeps.trans (State.flushWords_keeps _ _)
      (State.jobDone_keeps _ _))))
theorem State.queueBoot_keeps (s : State) (source : BootBy) (slot : Nat) (trial : Bool) (attempts : Nat) : Keeps s
    (State.queueBoot s source slot trial attempts) := by
  unfold State.queueBoot
  exact State.nvQueue1_keeps _ _
theorem State.jobStep_keeps (s : State) (j : NvJob) (fails : Fin 4) : Keeps s (State.jobStep s j fails) := by
  unfold State.jobStep
  exact Keeps.ite (Keeps.trans (State.jobWord_keeps _ _ _) (State.jobDone_keeps _ _)) (State.jobWord_keeps _ _ _)
theorem State.plateTake_keeps (s : State) (kind : Nat) (id : Nat) : Keeps s (State.plateTake s kind id) := by
  unfold State.plateTake
  exact State.updPlate_keeps _ _
theorem State.slotLost_keeps (s : State) (slot : Nat) : Keeps s (State.slotLost s slot) := by
  unfold State.slotLost
  dsimp only
  split
  · exact State.updPlate_keeps _ _
  · exact State.updPlate_keeps _ _
theorem State.dropTarget_keeps (s : State) (kind : Nat) (id : Nat) : Keeps s (State.dropTarget s kind id) := by
  unfold State.dropTarget
  exact Keeps.ite (State.updPlate_keeps _ _) (.refl _)
theorem State.beginRecord_keeps (s : State) (kind : Nat) (e : FifoEntry) : Keeps s (State.beginRecord s kind e) := by
  unfold State.beginRecord
  split
  · exact Keeps.trans (Keeps.trans (Keeps.trans (State.plateTake_keeps _ _ _) (State.dropTarget_keeps _ _ _))
        (State.plateDrop_keeps _ _)) (State.plateLevel_keeps _)
  · exact Keeps.trans (Keeps.trans (Keeps.trans (Keeps.ite (Keeps.trans (State.put_keeps _ _ _ _)
        (State.slotLost_keeps _ _)) (.refl _)) (State.put_keeps _ _ _ _)) (State.put_keeps _ _ _ _))
        (State.updPlate_keeps _ _)
theorem State.beginItem_keeps (s : State) (kind : Nat) (e : FifoEntry) : Keeps s (State.beginItem s kind e) := by
  unfold State.beginItem
  exact Keeps.ite (State.updPlate_keeps _ _) (State.beginRecord_keeps _ _ _)
theorem State.recordDone_keeps (s : State) (w : Writing) : Keeps s (State.recordDone s w) := by
  unfold State.recordDone
  exact Keeps.trans (Keeps.ite (Keeps.trans (State.updPlate_keeps _ _) (State.plateTake_keeps _ _ _)) (Keeps.trans
      (Keeps.trans (Keeps.trans (Keeps.trans (State.updPlate_keeps _ _) (State.plateTake_keeps _ _ _))
      (State.put_keeps _ _ _ _)) (State.plateFull_keeps _)) (State.updPlate_keeps _ _))) (State.plateLevel_keeps _)
theorem State.plateWord_keeps (s : State) (w : Writing) (fails : Fin 4) : Keeps s (State.plateWord s w fails) := by
  unfold State.plateWord
  split
  · exact State.recordDone_keeps _ _
  · exact Keeps.ite (Keeps.trans (Keeps.trans (State.nvWord_keeps _ _ _ _) (State.updPlate_keeps _ _))
        (State.recordDone_keeps _ _)) (Keeps.trans (State.nvWord_keeps _ _ _ _) (State.updPlate_keeps _ _))
theorem State.eraseStep_keeps (s : State) (fails : Fin 4) : Keeps s (State.eraseStep s fails) := by
  unfold State.eraseStep
  exact Keeps.ite (Keeps.trans (Keeps.ite (State.putB_keeps _ _ _ _) (State.nvWord_keeps _ _ _ _)) (State.updNv_keeps
      _ _)) (Keeps.ite (Keeps.trans (Keeps.trans (Keeps.trans (Keeps.ite (State.putB_keeps _ _ _ _)
      (State.nvWord_keeps _ _ _ _)) (State.updNv_keeps _ _)) (State.put_keeps _ _ _ _)) (State.putB_keeps _ _ _ _))
      (Keeps.trans (Keeps.trans (Keeps.ite (State.putB_keeps _ _ _ _) (State.nvWord_keeps _ _ _ _)) (State.updNv_keeps
      _ _)) (State.put_keeps _ _ _ _)))
theorem State.lowWord_keeps (s : State) (fails : Fin 4) : Keeps s (State.lowWord s fails) := by
  unfold State.lowWord
  split
  · exact Keeps.trans (Keeps.trans (State.updNv_keeps _ _) (State.jobStep_keeps _ _ _)) (State.nvBusy_keeps _)
  · exact Keeps.ite (Keeps.trans (State.eraseStep_keeps _ _) (State.nvBusy_keeps _)) (.refl _)
theorem State.plateOrLow_keeps (s : State) (fails : Fin 4) : Keeps s (State.plateOrLow s fails) := by
  unfold State.plateOrLow
  exact Keeps.ite (State.lowWord_keeps _ _) (by
        split
        · exact State.plateWord_keeps _ _ _
        · split
          · exact State.lowWord_keeps _ _
          · exact Keeps.ite (State.lowWord_keeps _ _) (by
                  dsimp only
                  split
                  · exact Keeps.trans (State.beginItem_keeps _ _ _) (State.plateWord_keeps _ _ _)
                  · exact State.beginItem_keeps _ _ _))
theorem execNvWordWrite_keeps (fails : Fin 4) (s : State) : OutKeeps s (execNvWordWrite fails s) := by
  unfold execNvWordWrite
  exact Keeps.done (Keeps.when (.refl _) (fun _ => (Keeps.trans (by
        split
        · exact Keeps.trans (State.updNv_keeps _ _) (State.jobStep_keeps _ _ _)
        · split
          · exact Keeps.trans (State.updNv_keeps _ _) (State.jobStep_keeps _ _ _)
          · exact State.plateOrLow_keeps _ _) (State.updNv_keeps _ _))))
theorem State.nvBlock_keeps (s : State) : Keeps s (State.nvBlock s) := by
  unfold State.nvBlock
  exact Keeps.trans (Keeps.trans (State.updNv_keeps _ _) (State.updPlate_keeps _ _)) (State.putB_keeps _ _ _ _)
theorem State.nvUnblock_keeps (s : State) : Keeps s (State.nvUnblock s) := by
  unfold State.nvUnblock
  exact State.putB_keeps _ _ _ _
theorem State.burinWrite_keeps (s : State) : Keeps s (State.burinWrite s) := by
  unfold State.burinWrite
  exact Keeps.ite (State.putB_keeps _ _ _ _) (Keeps.trans (State.nvQueue4_keeps _ _) (State.nvBusy_keeps _))
theorem State.burinErase_keeps (s : State) : Keeps s (State.burinErase s) := by
  unfold State.burinErase
  exact Keeps.ite (State.putB_keeps _ _ _ _) (Keeps.trans (Keeps.trans (Keeps.trans (Keeps.trans (State.updNv_keeps _
      _) (State.put_keeps _ _ _ _)) (State.put_keeps _ _ _ _)) (State.putB_keeps _ _ _ _)) (State.nvBusy_keeps _))
theorem State.burinResume_keeps (s : State) : Keeps s (State.burinResume s) := by
  unfold State.burinResume
  exact Keeps.ite (.refl _) (Keeps.ite (State.putB_keeps _ _ _ _) (Keeps.trans (Keeps.trans (Keeps.trans (Keeps.trans
      (State.updNv_keeps _ _) (State.putB_keeps _ _ _ _)) (State.putB_keeps _ _ _ _)) (State.raise_keeps _ _ _ _ _))
      (State.nvBusy_keeps _)))
theorem State.nvProcReset_keeps (s : State) : Keeps s (State.nvProcReset s) := by
  unfold State.nvProcReset
  exact Keeps.ite (Keeps.trans (Keeps.trans (Keeps.trans (State.updNv_keeps _ _) (State.putB_keeps _ _ _ _))
      (State.putB_keeps _ _ _ _)) (State.nvBusy_keeps _)) (Keeps.trans (State.updNv_keeps _ _) (State.nvBusy_keeps _))

end Sys2Proof.Machine
end

