-- ==== Sys2Proof/Laws/KeepsCells.lean ====
section
/-! SUPPORT. What is kept by the RTC, the gauge, the estimator and the charger: one lemma per operation
and per meaning, in the order in which the model declares them. -/
namespace Sys2Proof.Machine
open Sys2Proof
-- the proofs of this file are elaborated one after another, not each in a thread of its own
set_option Elab.async false

/-! ### Rtc -/

theorem State.updBak_keeps (s : State) (f : BakSt → BakSt) : Keeps s (State.updBak s f) := by
  unfold State.updBak
  exact Keeps.set_bak (.refl _)
theorem State.updOpt_keeps (s : State) (f : OptSt → OptSt) : Keeps s (State.updOpt s f) := by
  unfold State.updOpt
  exact Keeps.set_opt (.refl _)
theorem State.wakeSteps_keeps (s : State) (n : Nat) : Keeps s (State.wakeSteps s n) := by
  unfold State.wakeSteps
  exact State.updBak_keeps _ _
theorem State.calSteps_keeps (s : State) (n : Nat) : Keeps s (State.calSteps s n) := by
  unfold State.calSteps
  exact Keeps.ite (Keeps.trans (State.updBak_keeps _ _) (State.putB_keeps _ _ _ _)) (State.updBak_keeps _ _)
theorem State.bakCycles_keeps (s : State) (n : Nat) : Keeps s (State.bakCycles s n) := by
  unfold State.bakCycles
  exact Keeps.trans (Keeps.trans (State.updBak_keeps _ _) (State.calSteps_keeps _ _)) (State.wakeSteps_keeps _ _)
theorem State.optShow_keeps (s : State) : Keeps s (State.optShow s) := by
  unfold State.optShow
  exact Keeps.trans (Keeps.trans (State.wr_keeps _ _ _) (State.put_keeps _ _ _ _)) (State.updBak_keeps _ _)
theorem State.optAdd_keeps (s : State) (n : Nat) : Keeps s (State.optAdd s n) := by
  unfold State.optAdd
  exact Keeps.trans (State.updOpt_keeps _ _) (State.optShow_keeps _)
theorem State.clearSwo_keeps (s : State) : Keeps s (State.clearSwo s) := by
  unfold State.clearSwo
  exact Keeps.trans (Keeps.trans (Keeps.trans (Keeps.trans (Keeps.trans (Keeps.trans (State.wr_keeps _ _ _)
      (State.wr_keeps _ _ _)) (State.wr_keeps _ _ _)) (State.wr_keeps _ _ _)) (State.wr_keeps _ _ _))
      (State.putB_keeps _ _ _ _)) (State.updOpt_keeps _ _)
theorem State.crossed_keeps (s : State) (n : Nat) (step : Bool) : Keeps s (State.crossed s n step) := by
  unfold State.crossed
  exact Keeps.ite (Keeps.trans (State.updOpt_keeps _ _) (State.clearSwo_keeps _)) (State.updOpt_keeps _ _)
theorem State.xtalCycles_keeps (s : State) (n : Nat) (live : Bool) : Keeps s (State.xtalCycles s n live) := by
  unfold State.xtalCycles
  exact Keeps.ite (Keeps.trans (Keeps.trans (Keeps.trans (Keeps.trans (State.updBak_keeps _ _) (State.bakCycles_keeps
      _ _)) (State.crossed_keeps _ _ _)) (State.updOpt_keeps _ _)) (State.optAdd_keeps _ _)) (Keeps.trans (Keeps.trans
      (State.updBak_keeps _ _) (State.bakCycles_keeps _ _)) (State.crossed_keeps _ _ _))
theorem State.substClocks_keeps (s : State) (n : Nat) : Keeps s (State.substClocks s n) := by
  unfold State.substClocks
  exact Keeps.trans (Keeps.trans (State.updOpt_keeps _ _) (State.wakeSteps_keeps _ _)) (State.optAdd_keeps _ _)
theorem State.timeTick_keeps (s : State) (x : Nat) (n : Nat) : Keeps s (State.timeTick s x n) := by
  unfold State.timeTick
  exact Keeps.ite (State.substClocks_keeps _ _) (Keeps.ite (State.xtalCycles_keeps _ _ _) (.refl _))
theorem State.bakReset_keeps (s : State) : Keeps s s.bakReset :=
  ⟨fun w => ⟨⟨canonD_filter resetVal s.regs _ w.1.1, w.1.2⟩, w.2⟩, id, rfl⟩
theorem State.rtcSet_keeps (s : State) : Keeps s (State.rtcSet s) := by
  unfold State.rtcSet
  exact Keeps.ite (State.putB_keeps _ _ _ _) (State.updOpt_keeps _ _)
theorem State.rtcCmd_keeps (s : State) (c : Nat) : Keeps s (State.rtcCmd s c) := by
  unfold State.rtcCmd
  exact Keeps.ite (State.rtcSet_keeps _) (Keeps.ite (State.updOpt_keeps _ _) (.refl _))
theorem execSet_keeps (s : State) : OutKeeps s (execSet s) := by
  unfold execSet
  exact Keeps.done (Keeps.when (.refl _) (fun _ => (State.rtcSet_keeps _)))
theorem execClearSwo_keeps (s : State) : OutKeeps s (execClearSwo s) := by
  unfold execClearSwo
  exact Keeps.done (Keeps.when (.refl _) (fun _ => (State.clearSwo_keeps _)))
theorem State.calEvent_keeps (s : State) (code : Nat) (before : Nat) : Keeps s (State.calEvent s code before) := by
  unfold State.calEvent
  exact Keeps.trans (State.raise_keeps _ _ _ _ _) (State.addMark_keeps _ _)
theorem execCalendarLoad_keeps (s : State) : OutKeeps s (execCalendarLoad s) := by
  unfold execCalendarLoad
  exact Keeps.done (Keeps.when (.refl _) (fun _ => (Keeps.trans (Keeps.trans (Keeps.trans (State.updBak_keeps _ _)
      (State.updOpt_keeps _ _)) (State.putB_keeps _ _ _ _)) (State.calEvent_keeps _ _ _))))
theorem State.trimWrite_keeps (s : State) (v : Nat) : Keeps s (State.trimWrite s v) := by
  unfold State.trimWrite
  exact Keeps.trans (State.put_keeps _ _ _ _) (State.calEvent_keeps _ _ _)
theorem State.wakeWrite_keeps (s : State) (v : Nat) : Keeps s (State.wakeWrite s v) := by
  unfold State.wakeWrite
  exact Keeps.trans (State.put_keeps _ _ _ _) (State.updBak_keeps _ _)
theorem State.secLoRead_keeps (s : State) : Keeps s (State.secLoRead s).2 := by
  unfold State.secLoRead
  exact Keeps.pair2 (State.updOpt_keeps _ _)
theorem execRtcSecLoRead_keeps (s : State) : OutKeeps s (execRtcSecLoRead s) := by
  unfold execRtcSecLoRead
  exact Keeps.done (Keeps.when (.refl _) (fun _ => (Keeps.set_out (State.secLoRead_keeps _))))
theorem State.optLoRead_keeps (s : State) : Keeps s (State.optLoRead s).2 := by
  unfold State.optLoRead
  exact Keeps.pair2 (State.updOpt_keeps _ _)
theorem execRtcOptLoRead_keeps (s : State) : OutKeeps s (execRtcOptLoRead s) := by
  unfold execRtcOptLoRead
  exact Keeps.done (Keeps.when (.refl _) (fun _ => (Keeps.set_out (State.optLoRead_keeps _))))
theorem execCrystalStop_keeps (s : State) : OutKeeps s (execCrystalStop s) := by
  unfold execCrystalStop
  exact Keeps.done (Keeps.when (.refl _) (fun _ => (Keeps.trans (Keeps.trans (State.putB_keeps _ _ _ _)
      (State.putB_keeps _ _ _ _)) (State.updBak_keeps _ _))))
theorem execCalendarWrap_keeps (s : State) : OutKeeps s (execCalendarWrap s) := by
  unfold execCalendarWrap
  exact Keeps.done (Keeps.when (.refl _) (fun _ => (Keeps.trans (Keeps.trans (State.updBak_keeps _ _)
      (State.calSteps_keeps _ _)) (State.wakeSteps_keeps _ _))))
theorem State.raiseLater_keeps (s : State) (esn : Nat) (code : Nat) (hi : Nat) : Keeps s (State.raiseLater s esn code
    hi) := by
  unfold State.raiseLater
  exact State.updOpt_keeps _ _
theorem execVbakLow_keeps (vbak : BitVec 12) (s : State) : OutKeeps s (execVbakLow vbak s) := by
  unfold execVbakLow
  exact Keeps.done (Keeps.when (.refl _) (fun _ => (by
        split
        · exact State.raise_keeps _ _ _ _ _
        · exact State.raiseLater_keeps _ _ _ _
        · exact Keeps.trans (State.putB_keeps _ _ _ _) (State.updBak_keeps _ _))))
theorem State.switchOver_keeps (s : State) : Keeps s (State.switchOver s) := by
  unfold State.switchOver
  exact Keeps.ite (Keeps.trans (State.bump_keeps _ _ _) (State.updBak_keeps _ _)) (Keeps.trans (Keeps.trans
      (Keeps.trans (Keeps.trans (Keeps.trans (State.wr_keeps _ _ _) (State.wr_keeps _ _ _)) (State.wr_keeps _ _ _))
      (State.put_keeps _ _ _ _)) (State.putB_keeps _ _ _ _)) (State.updBak_keeps _ _))
theorem State.counterRecord_keeps (s : State) : Keeps s (State.counterRecord s) := by
  unfold State.counterRecord
  exact State.nvQueue1_keeps _ _
theorem execCounterRecordHourly_keeps (s : State) : OutKeeps s (execCounterRecordHourly s) := by
  unfold execCounterRecordHourly
  exact Keeps.done (Keeps.when (.refl _) (fun _ => (Keeps.trans (State.updOpt_keeps _ _) (State.counterRecord_keeps
      _))))

/-! ### Gauge -/

theorem State.put64_keeps (s : State) (lo : Nat) (hi : Nat) (v : Int) : Keeps s (State.put64 s lo hi v) := by
  unfold State.put64
  exact Keeps.trans (State.wr_keeps _ _ _) (State.wr_keeps _ _ _)
theorem State.gaugeResult_keeps (s : State) (code : Int) (auto : Bool) (weight : Nat) : Keeps s (State.gaugeResult s
    code auto weight) := by
  unfold State.gaugeResult
  exact Keeps.trans (Keeps.trans (Keeps.trans (Keeps.trans (Keeps.ite (Keeps.ite (Keeps.trans (State.putB_keeps _ _ _
      _) (State.updEst_keeps _ _)) (Keeps.trans (Keeps.trans (State.putB_keeps _ _ _ _) (State.updEst_keeps _ _))
      (State.raise_keeps _ _ _ _ _))) (.refl _)) (State.updGg_keeps _ _)) (State.put64_keeps _ _ _ _))
      (State.put_keeps _ _ _ _)) (State.put_keeps _ _ _ _)
theorem State.gaugeMean_keeps (s : State) : Keeps s (State.gaugeMean s) := by
  unfold State.gaugeMean
  exact Keeps.trans (State.updGg_keeps _ _) (State.put_keeps _ _ _ _)
theorem State.gaugeRest_keeps (s : State) (frames : Nat) : Keeps s (State.gaugeRest s frames) := by
  unfold State.gaugeRest
  exact Keeps.trans (Keeps.ite (Keeps.trans (Keeps.ite (Keeps.trans (State.putB_keeps _ _ _ _) (State.updGg_keeps _
      _)) (Keeps.trans (Keeps.trans (State.putB_keeps _ _ _ _) (State.updGg_keeps _ _)) (State.putB_keeps _ _ _ _)))
      (State.updGg_keeps _ _)) (Keeps.ite (Keeps.trans (State.putB_keeps _ _ _ _) (State.updGg_keeps _ _))
      (Keeps.trans (Keeps.trans (State.putB_keeps _ _ _ _) (State.updGg_keeps _ _)) (State.putB_keeps _ _ _ _))))
      (State.put_keeps _ _ _ _)
theorem execRestReached_keeps (s : State) : OutKeeps s (execRestReached s) := by
  unfold execRestReached
  exact Keeps.done (Keeps.atTick (.refl _) (fun _ => (Keeps.trans (Keeps.trans (Keeps.trans (Keeps.trans
      (State.putB_keeps _ _ _ _) (State.putB_keeps _ _ _ _)) (State.updGg_keeps _ _)) (State.put_keeps _ _ _ _))
      (State.raise_keeps _ _ _ _ _))))
theorem execEstDrift_keeps (s : State) : OutKeeps s (execEstDrift s) := by
  unfold execEstDrift
  exact Keeps.done (Keeps.atTick (.refl _) (fun _ => (Keeps.trans (State.putB_keeps _ _ _ _) (State.raise_keeps _ _ _
      _ _))))
theorem execHibernationResult_keeps (code : BitVec 20) (packId : Bool) (s : State) : OutKeeps s (execHibernationResult
    code packId s) := by
  unfold execHibernationResult
  exact Keeps.done (Keeps.when (.refl _) (fun _ => (Keeps.trans (Keeps.trans (Keeps.ite (Keeps.trans (Keeps.trans
      (Keeps.trans (Keeps.trans (State.xtalCycles_keeps _ _ _) (State.updChg_keeps _ _)) (State.updGg_keeps _ _))
      (State.gaugeResult_keeps _ _ _ _)) (State.gaugeMean_keeps _)) (Keeps.trans (Keeps.trans (Keeps.trans
      (State.xtalCycles_keeps _ _ _) (State.updChg_keeps _ _)) (State.updGg_keeps _ _)) (State.gaugeResult_keeps _ _ _
      _))) (State.gaugeRest_keeps _ _)) (State.updGg_keeps _ _))))
theorem State.cellRegs_keeps (s : State) (v : Vector Nat 8) (x2 : List (Fin 8)) : Keeps s (State.cellRegs s v x2) :=
    by
  unfold State.cellRegs
  split
  · exact .refl _
  · exact Keeps.trans (State.put_keeps _ _ _ _) (State.cellRegs_keeps _ _ _)
theorem State.uvRuns_keeps (s : State) : Keeps s (State.uvRuns s) := by
  unfold State.uvRuns
  exact State.updGg_keeps _ _
theorem State.cellShow_keeps (s : State) : Keeps s (State.cellShow s) := by
  unfold State.cellShow
  exact Keeps.trans (Keeps.trans (Keeps.trans (State.cellRegs_keeps _ _ _) (State.wr_keeps _ _ _)) (State.put_keeps _
      _ _ _)) (State.put_keeps _ _ _ _)
theorem State.cellRefresh_keeps (s : State) (v : Vector Nat 8) (vpack : Nat) : Keeps s (State.cellRefresh s v vpack)
    := by
  unfold State.cellRefresh
  exact Keeps.trans (Keeps.trans (Keeps.trans (Keeps.trans (Keeps.trans (State.updGg_keeps _ _) (State.cellShow_keeps
      _)) (State.put_keeps _ _ _ _)) (State.putB_keeps _ _ _ _)) (State.updGg_keeps _ _)) (State.uvRuns_keeps _)
theorem execCellUv_keeps (k : Fin 8) (s : State) : OutKeeps s (execCellUv k s) := by
  unfold execCellUv
  exact Keeps.done (Keeps.atTick (.refl _) (fun _ => (Keeps.trans (Keeps.trans (State.updGg_keeps _ _)
      (State.putB_keeps _ _ _ _)) (State.raise_keeps _ _ _ _ _))))
theorem State.tapCheck_keeps (s : State) (v : Vector Nat 8) (x2 : Nat) : Keeps s (State.tapCheck s v x2) := by
  unfold State.tapCheck
  split
  · exact .refl _
  · exact Keeps.ite (Keeps.ite (Keeps.trans (Keeps.trans (State.tapCheck_keeps _ _ _) (State.put_keeps _ _ _ _))
        (State.putB_keeps _ _ _ _)) (Keeps.trans (Keeps.trans (Keeps.trans (State.tapCheck_keeps _ _ _)
        (State.put_keeps _ _ _ _)) (State.putB_keeps _ _ _ _)) (State.raise_keeps _ _ _ _ _))) (Keeps.ite (Keeps.trans
        (State.tapCheck_keeps _ _ _) (State.put_keeps _ _ _ _)) (State.tapCheck_keeps _ _ _))
theorem State.balance_keeps (s : State) (n : Nat) : Keeps s (State.balance s n) := by
  unfold State.balance
  exact Keeps.trans (Keeps.trans (State.updEst_keeps _ _) (State.updGg_keeps _ _)) (State.put_keeps _ _ _ _)
theorem State.balCharge_keeps (s : State) (x1 : List (Fin 8)) : Keeps s (State.balCharge s x1) := by
  unfold State.balCharge
  split
  · exact .refl _
  · exact Keeps.trans (Keeps.ite (Keeps.trans (State.updGg_keeps _ _) (State.put_keeps _ _ _ _)) (.refl _))
        (State.balCharge_keeps _ _)
theorem State.packTemp_keeps (s : State) : Keeps s (State.packTemp s) := by
  unfold State.packTemp
  exact State.put_keeps _ _ _ _
theorem State.gaugeCurrent_keeps (s : State) (x : FrameIn) (hib : Bool) (ended : Nat) (weight : Nat) : Keeps s
    (State.gaugeCurrent s x hib ended weight) := by
  unfold State.gaugeCurrent
  exact Keeps.trans (Keeps.when (Keeps.when (Keeps.trans (State.updChg_keeps _ _) (State.gaugeResult_keeps _ _ _ _))
      (fun _ => (Keeps.trans (State.putB_keeps _ _ _ _) (State.updGg_keeps _ _)))) (fun _ => (State.gaugeMean_keeps
      _))) (State.balCharge_keeps _ _)
theorem State.gaugeCells_keeps (s : State) (x : FrameIn) (measured : Bool) : Keeps s (State.gaugeCells s x measured)
    := by
  unfold State.gaugeCells
  exact Keeps.ite (State.putB_keeps _ _ _ _) (Keeps.ite (Keeps.trans (Keeps.trans (Keeps.trans (State.tapCheck_keeps _
      _ _) (State.updGg_keeps _ _)) (State.cellShow_keeps _)) (State.putB_keeps _ _ _ _)) (State.cellRefresh_keeps _ _
      _))
theorem State.gaugeSettle_keeps (s : State) (n : Nat) : Keeps s (State.gaugeSettle s n) := by
  unfold State.gaugeSettle
  exact Keeps.when (.refl _) (fun _ => (Keeps.trans (State.updGg_keeps _ _) (State.put_keeps _ _ _ _)))
theorem State.gaugeTap_keeps (s : State) (n : Nat) : Keeps s (State.gaugeTap s n) := by
  unfold State.gaugeTap
  exact Keeps.when (Keeps.when (.refl _) (fun _ => (State.updGg_keeps _ _))) (fun _ => (State.updGg_keeps _ _))
theorem State.gaugeTick_keeps (s : State) (x : FrameIn) : Keeps s (State.gaugeTick s x) := by
  unfold State.gaugeTick
  exact Keeps.trans (Keeps.trans (Keeps.when (Keeps.trans (Keeps.trans (Keeps.trans (State.gaugeCurrent_keeps _ _ _ _
      _) (State.gaugeCells_keeps _ _ _)) (State.packTemp_keeps _)) (State.gaugeRest_keeps _ _)) (fun _ =>
      (State.balance_keeps _ _))) (State.gaugeSettle_keeps _ _)) (State.gaugeTap_keeps _ _)
theorem State.gaugeStore_keeps (s : State) (type : Nat) (l : List Byte) : Keeps s (State.gaugeStore s type l) := by
  unfold State.gaugeStore
  exact Keeps.trans (State.updGg_keeps _ _) (State.nvQueue2_keeps _ _)
theorem State.gaugeWrite_keeps (s : State) (type : Nat) : Keeps s (State.gaugeWrite s type) := by
  unfold State.gaugeWrite
  exact Keeps.ite (Keeps.trans (State.updGg_keeps _ _) (State.raise_keeps _ _ _ _ _)) (State.gaugeStore_keeps _ _ _)
theorem State.gaugeRetry_keeps (s : State) (x1 : List (Nat × List Byte)) : Keeps s (State.gaugeRetry s x1) := by
  unfold State.gaugeRetry
  split
  · exact .refl _
  · exact Keeps.trans (State.gaugeStore_keeps _ _ _) (State.gaugeRetry_keeps _ _)
theorem execCountRecordHourly_keeps (s : State) : OutKeeps s (execCountRecordHourly s) := by
  unfold execCountRecordHourly
  exact Keeps.done (Keeps.when (.refl _) (fun _ => (Keeps.trans (State.updGg_keeps _ _) (State.gaugeWrite_keeps _
      _))))
theorem State.gaugeFreeze_keeps (s : State) : Keeps s (State.gaugeFreeze s) := by
  unfold State.gaugeFreeze
  exact Keeps.trans (Keeps.trans (Keeps.trans (State.putB_keeps _ _ _ _) (State.raise_keeps _ _ _ _ _))
      (State.updGg_keeps _ _)) (State.gaugeWrite_keeps _ _)
theorem State.socWrite_keeps (s : State) (v : Word) : Keeps s (State.socWrite s v) := by
  unfold State.socWrite
  exact Keeps.trans (Keeps.trans (Keeps.trans (State.wr_keeps _ _ _) (State.updGg_keeps _ _)) (State.put64_keeps _ _ _
      _)) (State.putB_keeps _ _ _ _)
theorem execGgQrawLoRead_keeps (ref : Bool) (s : State) : OutKeeps s (execGgQrawLoRead ref s) := by
  unfold execGgQrawLoRead
  exact Keeps.done (Keeps.when (.refl _) (fun _ => (Keeps.ite (Keeps.set_out (State.updGg_keeps _ _)) (Keeps.set_out
      (State.updGg_keeps _ _)))))

/-! ### Estimator -/

theorem State.correct_keeps (s : State) (soc : Int) (band : Int) : Keeps s (State.correct s soc band) := by
  unfold State.correct
  exact State.updEst_keeps _ _
theorem State.publish_keeps (s : State) : Keeps s (State.publish s) := by
  unfold State.publish
  exact State.socWrite_keeps _ _
theorem State.estRecord_keeps (s : State) (type : Nat) : Keeps s (State.estRecord s type) := by
  unfold State.estRecord
  exact Keeps.trans (Keeps.trans (State.publish_keeps _) (State.gaugeWrite_keeps _ _)) (State.updEst_keeps _ _)
theorem State.learnFail_keeps (s : State) (code : Nat) : Keeps s (State.learnFail s code) := by
  unfold State.learnFail
  split
  · exact .refl _
  · exact Keeps.trans (Keeps.trans (Keeps.trans (State.putB_keeps _ _ _ _) (State.put_keeps _ _ _ _))
        (State.updEst_keeps _ _)) (State.raise_keeps _ _ _ _ _)
theorem State.learnDrop_keeps (s : State) (code : Nat) : Keeps s (State.learnDrop s code) := by
  unfold State.learnDrop
  exact Keeps.ite (Keeps.trans (State.learnFail_keeps _ _) (State.estRecord_keeps _ _)) (.refl _)
theorem State.learnWrong_keeps (s : State) (dq : Int) : Keeps s (State.learnWrong s dq) := by
  unfold State.learnWrong
  split
  · exact .refl _
  · dsimp only
    split
    · exact Keeps.trans (State.updEst_keeps _ _) (State.learnDrop_keeps _ _)
    · exact State.updEst_keeps _ _
theorem State.learnEnd_keeps (s : State) (l : Learn) (soc : Int) : Keeps s (State.learnEnd s l soc) := by
  unfold State.learnEnd
  exact Keeps.ite (State.learnDrop_keeps _ _) (Keeps.ite (State.learnDrop_keeps _ _) (Keeps.trans (Keeps.trans
      (Keeps.trans (Keeps.trans (Keeps.trans (Keeps.trans (State.put_keeps _ _ _ _) (State.put_keeps _ _ _ _))
      (State.putB_keeps _ _ _ _)) (State.putB_keeps _ _ _ _)) (State.updEst_keeps _ _)) (State.estRecord_keeps _ _))
      (State.raise_keeps _ _ _ _ _)))
theorem State.learnStart_keeps (s : State) (soc : Int) : Keeps s (State.learnStart s soc) := by
  unfold State.learnStart
  exact Keeps.ite (Keeps.trans (Keeps.trans (State.putB_keeps _ _ _ _) (State.updEst_keeps _ _)) (State.raise_keeps _
      _ _ _ _)) (.refl _)
theorem State.restReading_keeps (s : State) : Keeps s (State.restReading s) := by
  unfold State.restReading
  exact Keeps.ite (Keeps.trans (by
        split
        · exact Keeps.trans (Keeps.ite (Keeps.trans (Keeps.trans (Keeps.trans (Keeps.trans (State.updEst_keeps _ _)
              (State.correct_keeps _ _ _)) (State.putB_keeps _ _ _ _)) (State.raise_keeps _ _ _ _ _))
              (State.estRecord_keeps _ _)) (State.updEst_keeps _ _)) (State.learnEnd_keeps _ _ _)
        · exact Keeps.ite (Keeps.trans (Keeps.trans (Keeps.trans (Keeps.trans (State.updEst_keeps _ _)
              (State.correct_keeps _ _ _)) (State.putB_keeps _ _ _ _)) (State.raise_keeps _ _ _ _ _))
              (State.estRecord_keeps _ _)) (State.updEst_keeps _ _)) (State.learnStart_keeps _ _)) (Keeps.ite
      (Keeps.trans (Keeps.trans (Keeps.trans (Keeps.trans (State.updEst_keeps _ _) (State.correct_keeps _ _ _))
      (State.putB_keeps _ _ _ _)) (State.raise_keeps _ _ _ _ _)) (State.estRecord_keeps _ _)) (State.updEst_keeps _
      _))
theorem State.storeScan_keeps (s : State) : Keeps s (State.storeScan s) := by
  unfold State.storeScan
  split
  · exact State.updGg_keeps _ _
  · exact .refl _
theorem State.seed_keeps (s : State) (v : Int) : Keeps s (State.seed s v) := by
  unfold State.seed
  exact Keeps.trans (Keeps.trans (Keeps.trans (Keeps.trans (Keeps.trans (State.put_keeps _ _ _ _) (State.wr_keeps _ _
      _)) (State.correct_keeps _ _ _)) (State.putB_keeps _ _ _ _)) (State.raise_keeps _ _ _ _ _))
      (State.estRecord_keeps _ _)
theorem State.stale_keeps (s : State) (code : Nat) : Keeps s (State.stale s code) := by
  unfold State.stale
  exact Keeps.trans (Keeps.trans (Keeps.trans (State.putB_keeps _ _ _ _) (State.putB_keeps _ _ _ _))
      (State.raise_keeps _ _ _ _ _)) (State.estRecord_keeps _ _)
theorem State.reinserted_keeps (s : State) (v : Int) : Keeps s (State.reinserted s v) := by
  unfold State.reinserted
  exact Keeps.ite (Keeps.trans (State.updEst_keeps _ _) (State.seed_keeps _ _)) (Keeps.trans (Keeps.trans
      (State.updEst_keeps _ _) (State.correct_keeps _ _ _)) (State.stale_keeps _ _))
theorem State.compareSwap_keeps (s : State) : Keeps s (State.compareSwap s) := by
  unfold State.compareSwap
  exact Keeps.ite (.refl _) (Keeps.ite (Keeps.trans (State.updEst_keeps _ _) (State.stale_keeps _ _))
      (State.updEst_keeps _ _))
theorem State.tornRecords_keeps (s : State) (l : List Nat) : Keeps s (s.tornRecords l) := by
  induction l generalizing s with
  | nil => exact .refl _
  | cons k r ih => exact Keeps.trans (Keeps.ite (State.raise_keeps _ _ _ _ _) (.refl _)) (ih _)
theorem State.learnOwed_keeps (s : State) : Keeps s (State.learnOwed s) := by
  unfold State.learnOwed
  exact Keeps.ite (Keeps.trans (State.updEst_keeps _ _) (State.estRecord_keeps _ _)) (.refl _)
theorem State.coldEstimator_keeps (s : State) : Keeps s (State.coldEstimator s) := by
  unfold State.coldEstimator
  dsimp only
  split
  · exact Keeps.ite (Keeps.ite (Keeps.trans (Keeps.trans (Keeps.trans (Keeps.ite (Keeps.trans (Keeps.trans
        (Keeps.trans (Keeps.trans (Keeps.trans (Keeps.trans (Keeps.trans (Keeps.ite (Keeps.trans
        (State.tornRecords_keeps _ _) (State.raise_keeps _ _ _ _ _)) (State.tornRecords_keeps _ _)) (State.put_keeps _
        _ _ _)) (State.wr_keeps _ _ _)) (State.put_keeps _ _ _ _)) (State.put_keeps _ _ _ _)) (State.put_keeps _ _ _
        _)) (State.put_keeps _ _ _ _)) (State.raise_keeps _ _ _ _ _)) (Keeps.trans (Keeps.trans (Keeps.trans
        (Keeps.trans (Keeps.trans (Keeps.ite (Keeps.trans (State.tornRecords_keeps _ _) (State.raise_keeps _ _ _ _ _))
        (State.tornRecords_keeps _ _)) (State.put_keeps _ _ _ _)) (State.wr_keeps _ _ _)) (State.put_keeps _ _ _ _))
        (State.put_keeps _ _ _ _)) (State.put_keeps _ _ _ _))) (State.updEst_keeps _ _)) (State.learnOwed_keeps _))
        (State.seed_keeps _ _)) (Keeps.trans (Keeps.trans (Keeps.ite (Keeps.trans (Keeps.trans (Keeps.trans
        (Keeps.trans (Keeps.trans (Keeps.trans (Keeps.trans (Keeps.ite (Keeps.trans (State.tornRecords_keeps _ _)
        (State.raise_keeps _ _ _ _ _)) (State.tornRecords_keeps _ _)) (State.put_keeps _ _ _ _)) (State.wr_keeps _ _
        _)) (State.put_keeps _ _ _ _)) (State.put_keeps _ _ _ _)) (State.put_keeps _ _ _ _)) (State.put_keeps _ _ _
        _)) (State.raise_keeps _ _ _ _ _)) (Keeps.trans (Keeps.trans (Keeps.trans (Keeps.trans (Keeps.trans (Keeps.ite
        (Keeps.trans (State.tornRecords_keeps _ _) (State.raise_keeps _ _ _ _ _)) (State.tornRecords_keeps _ _))
        (State.put_keeps _ _ _ _)) (State.wr_keeps _ _ _)) (State.put_keeps _ _ _ _)) (State.put_keeps _ _ _ _))
        (State.put_keeps _ _ _ _))) (State.updEst_keeps _ _)) (State.learnOwed_keeps _))) (Keeps.trans (Keeps.trans
        (Keeps.trans (Keeps.ite (Keeps.trans (Keeps.trans (Keeps.trans (Keeps.trans (Keeps.trans (Keeps.trans
        (Keeps.trans (Keeps.ite (Keeps.trans (State.tornRecords_keeps _ _) (State.raise_keeps _ _ _ _ _))
        (State.tornRecords_keeps _ _)) (State.put_keeps _ _ _ _)) (State.wr_keeps _ _ _)) (State.put_keeps _ _ _ _))
        (State.put_keeps _ _ _ _)) (State.put_keeps _ _ _ _)) (State.put_keeps _ _ _ _)) (State.raise_keeps _ _ _ _
        _)) (Keeps.trans (Keeps.trans (Keeps.trans (Keeps.trans (Keeps.trans (Keeps.ite (Keeps.trans
        (State.tornRecords_keeps _ _) (State.raise_keeps _ _ _ _ _)) (State.tornRecords_keeps _ _)) (State.put_keeps _
        _ _ _)) (State.wr_keeps _ _ _)) (State.put_keeps _ _ _ _)) (State.put_keeps _ _ _ _)) (State.put_keeps _ _ _
        _))) (State.updEst_keeps _ _)) (State.learnOwed_keeps _)) (State.updEst_keeps _ _))
  · exact Keeps.ite (Keeps.trans (Keeps.trans (Keeps.ite (Keeps.trans (State.tornRecords_keeps _ _) (State.raise_keeps
        _ _ _ _ _)) (State.tornRecords_keeps _ _)) (State.updEst_keeps _ _)) (State.seed_keeps _ _)) (Keeps.trans
        (Keeps.ite (Keeps.trans (State.tornRecords_keeps _ _) (State.raise_keeps _ _ _ _ _)) (State.tornRecords_keeps
        _ _)) (State.updEst_keeps _ _))
theorem State.warmEstimator_keeps (s : State) : Keeps s (State.warmEstimator s) := by
  unfold State.warmEstimator
  exact Keeps.trans (State.updEst_keeps _ _) (State.learnOwed_keeps _)
theorem State.grow_keeps (s : State) : Keeps s (State.grow s) := by
  unfold State.grow
  exact Keeps.trans (State.updEst_keeps _ _) (State.learnWrong_keeps _ _)
theorem State.manufacture_keeps (s : State) : Keeps s (State.manufacture s) := by
  unfold State.manufacture
  exact Keeps.ite (Keeps.ite (Keeps.ite (Keeps.trans (State.updChg_keeps _ _) (State.updEst_keeps _ _)) (.refl _))
      (Keeps.ite (.refl _) (State.updEst_keeps _ _))) (Keeps.ite (Keeps.trans (State.updChg_keeps _ _)
      (State.updEst_keeps _ _)) (.refl _))
theorem State.fallback_keeps (s : State) : Keeps s (State.fallback s) := by
  unfold State.fallback
  exact Keeps.ite (State.putB_keeps _ _ _ _) (Keeps.ite (Keeps.ite (Keeps.trans (State.putB_keeps _ _ _ _)
      (State.learnDrop_keeps _ _)) (Keeps.ite (Keeps.trans (Keeps.trans (State.putB_keeps _ _ _ _)
      (State.learnDrop_keeps _ _)) (State.correct_keeps _ _ _)) (Keeps.trans (State.putB_keeps _ _ _ _)
      (State.learnDrop_keeps _ _)))) (.refl _))
theorem State.impedance_keeps (s : State) : Keeps s (State.impedance s) := by
  unfold State.impedance
  dsimp only
  split
  · exact State.updEst_keeps _ _
  · exact Keeps.ite (Keeps.ite (Keeps.trans (State.updEst_keeps _ _) (State.updEst_keeps _ _)) (Keeps.trans
        (Keeps.trans (Keeps.trans (State.updEst_keeps _ _) (State.updEst_keeps _ _)) (State.put_keeps _ _ _ _))
        (State.raise_keeps _ _ _ _ _))) (State.updEst_keeps _ _)
theorem State.times_keeps (s : State) : Keeps s (State.times s) := by unfold State.times; exact State.wr_keeps _ _ _
theorem State.estStart_keeps (s : State) : Keeps s (State.estStart s) := by
  unfold State.estStart
  exact Keeps.ite (.refl _) (Keeps.ite (State.coldEstimator_keeps _) (State.warmEstimator_keeps _))
theorem State.estReinsert_keeps (s : State) : Keeps s (State.estReinsert s) := by
  unfold State.estReinsert
  split
  · exact State.reinserted_keeps _ _
  · exact .refl _
theorem State.estCompare_keeps (s : State) : Keeps s (State.estCompare s) := by
  unfold State.estCompare
  exact Keeps.ite (State.compareSwap_keeps _) (.refl _)
theorem State.estRest_keeps (s : State) : Keeps s (State.estRest s) := by
  unfold State.estRest
  exact Keeps.ite (Keeps.ite (.refl _) (State.restReading_keeps _)) (State.updEst_keeps _ _)
theorem State.estWork_keeps (s : State) : Keeps s (State.estWork s) := by
  unfold State.estWork
  exact Keeps.trans (Keeps.trans (Keeps.trans (Keeps.trans (Keeps.trans (Keeps.trans (Keeps.trans (Keeps.trans
      (State.estStart_keeps _) (State.grow_keeps _)) (State.estReinsert_keeps _)) (State.estCompare_keeps _))
      (State.estRest_keeps _)) (State.manufacture_keeps _)) (State.fallback_keeps _)) (State.impedance_keeps _))
      (State.times_keeps _)
theorem State.estPublish_keeps (s : State) : Keeps s (State.estPublish s) := by
  unfold State.estPublish
  exact Keeps.ite (Keeps.trans (State.publish_keeps _) (State.estRecord_keeps _ _)) (State.publish_keeps _)
theorem State.freeUsed_keeps (s : State) (n : Nat) : Keeps s (State.freeUsed s n) := by
  unfold State.freeUsed
  exact Keeps.set_freeCtr (.refl _)
theorem execEstimatorUpdate_keeps (s : State) : OutKeeps s (execEstimatorUpdate s) := by
  unfold execEstimatorUpdate
  exact Keeps.done (Keeps.when (.refl _) (fun _ => (Keeps.trans (Keeps.trans (Keeps.trans (State.estWork_keeps _)
      (State.estPublish_keeps _)) (State.updEst_keeps _ _)) (State.freeUsed_keeps _ _))))
theorem State.estStandby_keeps (s : State) : Keeps s (State.estStandby s) := by
  unfold State.estStandby
  exact Keeps.trans (Keeps.trans (Keeps.trans (State.estStart_keeps _) (State.grow_keeps _)) (State.estRecord_keeps _
      _)) (State.freeUsed_keeps _ _)
theorem State.estReset_keeps (s : State) : Keeps s (State.estReset s) := by
  unfold State.estReset
  exact Keeps.trans (State.learnFail_keeps _ _) (State.updEst_keeps _ _)

/-! ### Charger -/

theorem State.chgTo_keeps (s : State) (st : Nat) : Keeps s (State.chgTo s st) := by
  unfold State.chgTo
  exact Keeps.ite (.refl _) (Keeps.trans (Keeps.ite (Keeps.trans (Keeps.ite (Keeps.trans (State.wr_keeps _ _ _)
      (State.updChg_keeps _ _)) (Keeps.trans (Keeps.trans (State.wr_keeps _ _ _) (State.updChg_keeps _ _))
      (State.putB_keeps _ _ _ _))) (State.put_keeps _ _ _ _)) (Keeps.ite (Keeps.trans (State.wr_keeps _ _ _)
      (State.updChg_keeps _ _)) (Keeps.trans (Keeps.trans (State.wr_keeps _ _ _) (State.updChg_keeps _ _))
      (State.putB_keeps _ _ _ _)))) (State.raise_keeps _ _ _ _ _))
theorem State.chgStopped_keeps (s : State) : Keeps s (State.chgStopped s) := by
  unfold State.chgStopped
  exact Keeps.ite (State.chgTo_keeps _ _) (Keeps.ite (State.putB_keeps _ _ _ _) (Keeps.ite (State.updChg_keeps _ _)
      (.refl _)))
theorem State.stopFlags_keeps (s : State) : Keeps s (State.stopFlags s) := by
  unfold State.stopFlags
  exact Keeps.ite (Keeps.trans (Keeps.ite (State.putB_keeps _ _ _ _) (.refl _)) (State.putB_keeps _ _ _ _)) (Keeps.ite
      (State.putB_keeps _ _ _ _) (.refl _))
theorem State.chgIgnored_keeps (s : State) : Keeps s (State.chgIgnored s) := by
  unfold State.chgIgnored
  exact Keeps.trans (State.updChg_keeps _ _) (State.raise_keeps _ _ _ _ _)
theorem State.chgTaken_keeps (s : State) : Keeps s (State.chgTaken s) := by
  unfold State.chgTaken
  exact State.updChg_keeps _ _
theorem State.chgWaits_keeps (s : State) : Keeps s (State.chgWaits s) := by
  unfold State.chgWaits
  exact Keeps.ite (.refl _) (State.putB_keeps _ _ _ _)
theorem State.timersStart_keeps (s : State) : Keeps s (State.timersStart s) := by
  unfold State.timersStart
  exact Keeps.trans (State.updChg_keeps _ _) (State.wr_keeps _ _ _)
theorem State.safeExpire_keeps (s : State) : Keeps s (State.safeExpire s) := by
  unfold State.safeExpire
  exact Keeps.trans (Keeps.trans (State.putB_keeps _ _ _ _) (State.updChg_keeps _ _)) (State.raise_keeps _ _ _ _ _)
theorem execChgStart_keeps (s : State) : OutKeeps s (execChgStart s) := by
  unfold execChgStart
  exact Keeps.done (Keeps.atTick (.refl _) (fun _ => (Keeps.ite (Keeps.trans (Keeps.ite (Keeps.trans (Keeps.trans
      (Keeps.trans (Keeps.trans (State.chgTaken_keeps _) (State.timersStart_keeps _)) (State.stopFlags_keeps _))
      (State.chgTo_keeps _ _)) (State.putB_keeps _ _ _ _)) (Keeps.trans (Keeps.trans (State.chgTaken_keeps _)
      (State.timersStart_keeps _)) (State.chgTo_keeps _ _))) (State.chgWaits_keeps _)) (Keeps.trans
      (State.chgTaken_keeps _) (State.chgIgnored_keeps _)))))
theorem execChgTerminate_keeps (s : State) : OutKeeps s (execChgTerminate s) := by
  unfold execChgTerminate
  exact Keeps.done (Keeps.atTick (.refl _) (fun _ => (Keeps.ite (Keeps.trans (Keeps.trans (Keeps.ite (Keeps.trans
      (State.chgTaken_keeps _) (State.safeExpire_keeps _)) (State.chgTaken_keeps _)) (State.updChg_keeps _ _))
      (State.chgTo_keeps _ _)) (Keeps.trans (State.chgTaken_keeps _) (State.chgIgnored_keeps _)))))
theorem execChgHold_keeps (s : State) : OutKeeps s (execChgHold s) := by
  unfold execChgHold
  exact Keeps.done (Keeps.atTick (.refl _) (fun _ => (Keeps.ite (Keeps.trans (Keeps.trans (State.chgTaken_keeps _)
      (State.chgTo_keeps _ _)) (State.putB_keeps _ _ _ _)) (Keeps.trans (State.chgTaken_keeps _)
      (State.chgIgnored_keeps _)))))
theorem execChgRelease_keeps (s : State) : OutKeeps s (execChgRelease s) := by
  unfold execChgRelease
  exact Keeps.done (Keeps.atTick (.refl _) (fun _ => (Keeps.ite (Keeps.trans (State.chgTaken_keeps _)
      (State.chgTo_keeps _ _)) (Keeps.trans (State.chgTaken_keeps _) (State.chgIgnored_keeps _)))))
theorem execChgStop_keeps (s : State) : OutKeeps s (execChgStop s) := by
  unfold execChgStop
  exact Keeps.done (Keeps.atTick (.refl _) (fun _ => (Keeps.ite (Keeps.trans (State.chgTaken_keeps _)
      (State.chgIgnored_keeps _)) (Keeps.trans (Keeps.trans (State.chgTaken_keeps _) (State.updChg_keeps _ _))
      (State.chgTo_keeps _ _)))))
theorem execTrickleExit_keeps (s : State) : OutKeeps s (execTrickleExit s) := by
  unfold execTrickleExit
  exact Keeps.done (Keeps.atTick (.refl _) (fun _ => (State.chgTo_keeps _ _)))
theorem execPreExit_keeps (s : State) : OutKeeps s (execPreExit s) := by
  unfold execPreExit
  exact Keeps.done (Keeps.atTick (.refl _) (fun _ => (State.chgTo_keeps _ _)))
theorem execCcToCv_keeps (s : State) : OutKeeps s (execCcToCv s) := by
  unfold execCcToCv
  exact Keeps.done (Keeps.atTick (.refl _) (fun _ => (State.chgTo_keeps _ _)))
theorem execSafetyTimerExpiry_keeps (s : State) : OutKeeps s (execSafetyTimerExpiry s) := by
  unfold execSafetyTimerExpiry
  exact Keeps.done (Keeps.atTick (.refl _) (fun _ => (Keeps.ite (Keeps.trans (State.safeExpire_keeps _)
      (State.updChg_keeps _ _)) (Keeps.trans (State.safeExpire_keeps _) (State.chgTo_keeps _ _)))))
theorem execPrechargeTimerExpiry_keeps (s : State) : OutKeeps s (execPrechargeTimerExpiry s) := by
  unfold execPrechargeTimerExpiry
  exact Keeps.done (Keeps.atTick (.refl _) (fun _ => (Keeps.trans (Keeps.trans (Keeps.trans (State.putB_keeps _ _ _ _)
      (State.updChg_keeps _ _)) (State.raise_keeps _ _ _ _ _)) (State.chgTo_keeps _ _))))
theorem execStopCause_keeps (cause : StopCause) (s : State) : OutKeeps s (execStopCause cause s) := by
  unfold execStopCause
  exact Keeps.done (by
        split
        · exact Keeps.atTick (.refl _) (fun _ => (Keeps.trans (Keeps.ite (State.putB_keeps _ _ _ _) (Keeps.trans
              (Keeps.trans (State.putB_keeps _ _ _ _) (State.updChg_keeps _ _)) (State.raise_keeps _ _ _ _ _)))
              (State.chgStopped_keeps _)))
        · exact Keeps.atTick (.refl _) (fun _ => (Keeps.trans (Keeps.ite (State.putB_keeps _ _ _ _) (Keeps.trans
              (Keeps.trans (State.putB_keeps _ _ _ _) (State.updChg_keeps _ _)) (State.raise_keeps _ _ _ _ _)))
              (State.chgStopped_keeps _))))
theorem execPackRemoved_keeps (how : Removal) (s : State) : OutKeeps s (execPackRemoved how s) := by
  unfold execPackRemoved
  exact Keeps.done (Keeps.when (.refl _) (fun _ => (Keeps.ite (Keeps.trans (Keeps.trans (Keeps.trans (Keeps.trans
      (Keeps.trans (Keeps.trans (Keeps.ite (State.updChg_keeps _ _) (.refl _)) (State.putB_keeps _ _ _ _))
      (State.raise_keeps _ _ _ _ _)) (State.learnDrop_keeps _ _)) (State.updChg_keeps _ _)) (State.chgTo_keeps _ _))
      (State.gaugeWrite_keeps _ _)) (Keeps.trans (Keeps.trans (Keeps.trans (Keeps.ite (State.updChg_keeps _ _) (.refl
      _)) (State.putB_keeps _ _ _ _)) (State.raise_keeps _ _ _ _ _)) (State.learnDrop_keeps _ _)))))
theorem execPackIdClosed_keeps (s : State) : OutKeeps s (execPackIdClosed s) := by
  unfold execPackIdClosed
  exact Keeps.done (Keeps.when (.refl _) (fun _ => (Keeps.trans (State.updChg_keeps _ _) (State.chgTo_keeps _ _))))
theorem execPackQualElapsed_keeps (s : State) : OutKeeps s (execPackQualElapsed s) := by
  unfold execPackQualElapsed
  exact Keeps.done (Keeps.atTick (.refl _) (fun _ => (by
        split
        · exact Keeps.trans (Keeps.trans (State.putB_keeps _ _ _ _) (State.raise_keeps _ _ _ _ _)) (State.chgTo_keeps
              _ _)
        · exact Keeps.ite (Keeps.trans (Keeps.trans (Keeps.trans (Keeps.trans (State.timersStart_keeps _)
              (State.raise_keeps _ _ _ _ _)) (State.chgTo_keeps _ _)) (State.reinserted_keeps _ _))
              (State.freeUsed_keeps _ _)) (Keeps.trans (Keeps.trans (Keeps.trans (State.timersStart_keeps _)
              (State.raise_keeps _ _ _ _ _)) (State.chgTo_keeps _ _)) (State.updEst_keeps _ _)))))
theorem execZchShort_keeps (s : State) : OutKeeps s (execZchShort s) := by
  unfold execZchShort
  exact Keeps.done (Keeps.atTick (.refl _) (fun _ => (Keeps.trans (Keeps.trans (State.updChg_keeps _ _)
      (State.putB_keeps _ _ _ _)) (State.raise_keeps _ _ _ _ _))))
theorem State.safeHold_keeps (s : State) : Keeps s (State.safeHold s) := by
  unfold State.safeHold
  exact Keeps.ite (.refl _) (Keeps.trans (State.updChg_keeps _ _) (State.chgTo_keeps _ _))
theorem State.chgResume_keeps (s : State) : Keeps s (State.chgResume s) := by
  unfold State.chgResume
  exact Keeps.ite (Keeps.trans (Keeps.trans (State.putB_keeps _ _ _ _) (State.updChg_keeps _ _)) (State.chgTo_keeps _
      _)) (Keeps.ite (Keeps.trans (State.putB_keeps _ _ _ _) (State.updChg_keeps _ _)) (State.putB_keeps _ _ _ _))
theorem State.ovRuns_keeps (s : State) : Keeps s (State.ovRuns s) := by
  unfold State.ovRuns
  exact Keeps.trans (State.updChg_keeps _ _) (State.updChg_keeps _ _)
theorem State.chargerTick_keeps (s : State) (x : FrameIn) (dms : Nat) : Keeps s (State.chargerTick s x dms) := by
  unfold State.chargerTick
  exact Keeps.trans (Keeps.trans (Keeps.trans (Keeps.trans (Keeps.trans (Keeps.trans (State.ovRuns_keeps _)
      (State.updChg_keeps _ _)) (State.wr_keeps _ _ _)) (State.put_keeps _ _ _ _)) (State.putB_keeps _ _ _ _))
      (State.put_keeps _ _ _ _)) (State.put_keeps _ _ _ _)
theorem State.chgWrite_keeps (s : State) (a : Nat) (w : Word) : Keeps s (State.chgWrite s a w) := by
  unfold State.chgWrite
  exact Keeps.ite (State.raise_keeps _ _ _ _ _) (Keeps.ite (Keeps.trans (Keeps.trans (State.wr_keeps _ _ _)
      (State.putB_keeps _ _ _ _)) (State.raise_keeps _ _ _ _ _)) (State.wr_keeps _ _ _))

end Sys2Proof.Machine
end

