-- ==== Sys2Proof/Laws/KeepsGuard.lean ====
section
/-! SUPPORT. What is kept by the mailboxes, D_PROC, the watchdog and the contexts: one lemma per operation
and per meaning, in the order in which the model declares them. -/
namespace Sys2Proof.Machine
open Sys2Proof
-- the proofs of this file are elaborated one after another, not each in a thread of its own
set_option Elab.async false

/-! ### Mailbox -/

theorem State.updPort_keeps (s : State) (p : Port) (f : PortSt → PortSt) : Keeps s (State.updPort s p f) := by
  unfold State.updPort
  exact Keeps.trans (Keeps.trans (Keeps.trans (Keeps.set_ports (.refl _)) (State.put_keeps _ _ _ _)) (State.put_keeps
      _ _ _ _)) (State.put_keeps _ _ _ _)
theorem State.pump_keeps (s : State) (p : Port) : Keeps s (State.pump s p) := by
  unfold State.pump
  split
  · exact .refl _
  · exact Keeps.ite (State.updPort_keeps _ _ _) (.refl _)
theorem State.place_keeps (s : State) (p : Port) (ws : List Word) (tag : Option Nat) : Keeps s (State.place s p ws
    tag) := by
  unfold State.place
  exact Keeps.trans (State.updPort_keeps _ _ _) (State.pump_keeps _ _)
theorem State.notify_keeps (s : State) (p : Port) (esn : Nat) (code : Nat) (count : Nat) : Keeps s (State.notify s p
    esn code count) := by
  unfold State.notify
  exact Keeps.ite (.refl _) (Keeps.ite (Keeps.trans (Keeps.trans (Keeps.trans (Keeps.trans (State.updPort_keeps _ _ _)
      (State.putB_keeps _ _ _ _)) (State.put_keeps _ _ _ _)) (State.raise_keeps _ _ _ _ _)) (State.pump_keeps _ _))
      (Keeps.trans (State.updPort_keeps _ _ _) (State.pump_keeps _ _)))
theorem State.setTag_keeps (s : State) (t : Fin 96) (x : TagSt) : Keeps s (State.setTag s t x) := by
  unfold State.setTag
  exact Keeps.trans (Keeps.set_tags (.refl _)) (State.putB_keeps _ _ _ _)
theorem State.tagState_keeps (s : State) (t : Fin 96) (v : TagState) : Keeps s (State.tagState s t v) := by
  unfold State.tagState
  exact State.setTag_keeps _ _ _
theorem State.freeTag_keeps (s : State) (o : Option Nat) : Keeps s (State.freeTag s o) := by
  unfold State.freeTag
  split
  · exact State.tagState_keeps _ _ _
  · exact .refl _
theorem State.answer_keeps (s : State) (t : Fin 96) (status : Nat) (pay : List Word) : Keeps s (State.answer s t
    status pay) := by
  unfold State.answer
  exact Keeps.trans (State.tagState_keeps _ _ _) (State.place_keeps _ _ _ _)
theorem State.timeout_keeps (s : State) (t : Fin 96) : Keeps s (State.timeout s t) := by
  unfold State.timeout
  exact Keeps.trans (State.answer_keeps _ _ _ _) (State.raise_keeps _ _ _ _ _)
theorem State.placeOwed_keeps (s : State) : Keeps s (State.placeOwed s) := by
  unfold State.placeOwed
  exact Keeps.foldl (.refl _) (fun _ _ => (Keeps.ite (State.timeout_keeps _ _) (.refl _)))
theorem State.oweTags_keeps (s : State) : Keeps s (State.oweTags s) := by
  unfold State.oweTags
  exact Keeps.foldl (.refl _) (fun _ _ => (Keeps.ite (.refl _) (State.tagState_keeps _ _ _)))
theorem execDeadlineExpiry_keeps (t : Fin 96) (s : State) : OutKeeps s (execDeadlineExpiry t s) := by
  unfold execDeadlineExpiry
  exact Keeps.done (Keeps.when (.refl _) (fun _ => (State.timeout_keeps _ _)))
theorem State.itemGone_keeps (s : State) (p : Port) : Keeps s (State.itemGone s p) := by
  unfold State.itemGone
  split
  · exact .refl _
  · exact Keeps.trans (Keeps.trans (State.updPort_keeps _ _ _) (State.freeTag_keeps _ _)) (State.pump_keeps _ _)
theorem State.outWord_keeps (s : State) (p : Port) : Keeps s (State.outWord s p).2 := by
  unfold State.outWord
  split
  · exact Keeps.pair2 (.refl _)
  · split
    · exact Keeps.pair2 (State.itemGone_keeps _ _)
    · exact Keeps.pair2 (State.itemGone_keeps _ _)
    · exact Keeps.pair2 (State.updPort_keeps _ _ _)
theorem State.outWords_keeps (s : State) (p : Port) (x2 : Nat) : Keeps s (State.outWords s p x2).2 := by
  unfold State.outWords
  split
  · exact Keeps.pair2 (.refl _)
  · exact Keeps.pair2 (Keeps.trans (State.outWord_keeps _ _) (State.outWords_keeps _ _ _))
theorem execMbxOut_keeps (p : Port) (n : Fin 65) (s : State) : OutKeeps s (execMbxOut p n s) := by
  unfold execMbxOut
  exact Keeps.done (Keeps.when (.refl _) (fun _ => (Keeps.trans (Keeps.trans (State.outWords_keeps _ _ _)
      (State.updPort_keeps _ _ _)) (State.send_keeps _ _))))
theorem execMbxAgain_keeps (p : Port) (s : State) : OutKeeps s (execMbxAgain p s) := by
  unfold execMbxAgain
  exact Keeps.done (Keeps.when (.refl _) (fun _ => (State.send_keeps _ _)))
theorem execResponseRetrieved_keeps (p : Port) (s : State) : OutKeeps s (execResponseRetrieved p s) := by
  unfold execResponseRetrieved
  exact Keeps.done (Keeps.when (.refl _) (fun _ => (Keeps.trans (Keeps.trans (State.outWords_keeps _ _ _)
      (State.updPort_keeps _ _ _)) (State.send_keeps _ _))))
theorem execHostDrop_keeps (p : Port) (s : State) : OutKeeps s (execHostDrop p s) := by
  unfold execHostDrop
  exact Keeps.done (Keeps.when (.refl _) (fun _ => (State.itemGone_keeps _ _)))
theorem execAbortIn_keeps (p : Port) (s : State) : OutKeeps s (execAbortIn p s) := by
  unfold execAbortIn
  exact Keeps.done (Keeps.when (.refl _) (fun _ => (State.updPort_keeps _ _ _)))
theorem execPortStatusRead_keeps (p : Port) (s : State) : OutKeeps s (execPortStatusRead p s) := by
  unfold execPortStatusRead
  exact Keeps.done (Keeps.when (.refl _) (fun _ => (State.send_keeps _ _)))
theorem execAlertResponse_keeps (p : Port) (s : State) : OutKeeps s (execAlertResponse p s) := by
  unfold execAlertResponse
  exact Keeps.done (Keeps.when (.refl _) (fun _ => (Keeps.set_out_wire (.refl _))))
theorem execBusTimeout_keeps (p : Port) (ms : BitVec 8) (s : State) : OutKeeps s (execBusTimeout p ms s) := by
  unfold execBusTimeout
  exact Keeps.done (Keeps.when (.refl _) (fun _ => (Keeps.trans (Keeps.trans (State.updPort_keeps _ _ _)
      (State.putB_keeps _ _ _ _)) (State.raise_keeps _ _ _ _ _))))
theorem State.rxWord_keeps (s : State) (p : Port) : Keeps s (State.rxWord s p).2 := by
  unfold State.rxWord
  dsimp only
  split
  · exact Keeps.pair2 (Keeps.ite (by
          split
          · exact .refl _
          · exact State.updPort_keeps _ _ _) (.refl _))
  · exact Keeps.pair2 (Keeps.ite (Keeps.set_fw (Keeps.trans (Keeps.ite (by
          split
          · exact .refl _
          · exact State.updPort_keeps _ _ _) (.refl _)) (State.updPort_keeps _ _ _))) (Keeps.trans (Keeps.ite (by
          split
          · exact .refl _
          · exact State.updPort_keeps _ _ _) (.refl _)) (State.updPort_keeps _ _ _)))
theorem execMbxRxRead_keeps (p : Port) (s : State) : OutKeeps s (execMbxRxRead p s) := by
  unfold execMbxRxRead
  exact Keeps.done (Keeps.when (.refl _) (fun _ => (Keeps.set_out (State.rxWord_keeps _ _))))
theorem State.rxDrop_keeps (s : State) (p : Port) : Keeps s (State.rxDrop s p) := by
  unfold State.rxDrop
  exact State.updPort_keeps _ _ _
theorem execDrop_keeps (p : Port) (s : State) : OutKeeps s (execDrop p s) := by
  unfold execDrop
  exact Keeps.done (Keeps.when (.refl _) (fun _ => (State.rxDrop_keeps _ _)))
theorem State.respond_keeps (s : State) (p : Port) (ws : List Word) : Keeps s (State.respond s p ws) := by
  unfold State.respond
  split
  · exact .refl _
  · split
    · exact Keeps.ite (Keeps.trans (State.tagState_keeps _ _ _) (State.place_keeps _ _ _ _)) (State.bump_keeps _ _ _)
    · exact State.bump_keeps _ _ _
theorem State.txWord_keeps (s : State) (p : Port) (w : Word) : Keeps s (State.txWord s p w) := by
  unfold State.txWord
  exact Keeps.ite (Keeps.trans (State.updPort_keeps _ _ _) (State.putB_keeps _ _ _ _)) (Keeps.ite (Keeps.trans
      (State.updPort_keeps _ _ _) (State.respond_keeps _ _ _)) (State.updPort_keeps _ _ _))

/-! ### Proc -/

theorem State.resetRegs_keeps (s : State) (d : Domain) : Keeps s (s.resetRegs d) :=
  ⟨fun w => ⟨⟨canonD_filter resetVal s.regs _ w.1.1, w.1.2⟩, w.2⟩, id, rfl⟩
theorem State.closeWindow_keeps (s : State) : Keeps s (State.closeWindow s) := by
  unfold State.closeWindow
  exact Keeps.trans (Keeps.trans (Keeps.set_sys (.refl _)) (State.putB_keeps _ _ _ _)) (State.put_keeps _ _ _ _)
theorem State.unready_keeps (s : State) : Keeps s (State.unready s) := by
  unfold State.unready
  exact Keeps.trans (Keeps.trans (State.putB_keeps _ _ _ _) (State.putB_keeps _ _ _ _)) (State.putB_keeps _ _ _ _)
theorem State.portsReset_keeps (s : State) : Keeps s s.portsReset := by
  unfold State.portsReset
  have h := State.oweTags_keeps s
  generalize s.oweTags = t at h ⊢
  exact h.upd
theorem State.procEngines_keeps (s : State) : Keeps s (State.procEngines s) := by
  unfold State.procEngines
  exact Keeps.trans (Keeps.ite (Keeps.trans (Keeps.trans (State.safeHold_keeps _) (State.gaugeFreeze_keeps _))
      (State.estReset_keeps _)) (.refl _)) (State.nvProcReset_keeps _)
theorem State.procReset_keeps (s : State) (cause : Fld) : Keeps s (s.procReset cause) := by
  unfold State.procReset
  have h := (((State.putB_keeps s RST_CAUSE cause true).trans (State.raise_keeps _ 0x08 0 0 [])).trans
    (State.procEngines_keeps _)).trans (State.portsReset_keeps _) |>.trans (State.resetRegs_keeps _ .dProc)
  dsimp only
  generalize ((((s.putB RST_CAUSE cause true).raise 0x08 0).procEngines).portsReset.resetRegs .dProc) = t at h ⊢
  refine ((h.trans ?_).trans (State.unready_keeps _)).trans (State.closeWindow_keeps _)
  exact ⟨fun w => ⟨w.1, w.2.1, rfl, rfl⟩, Chained.set0 t 1, rfl⟩
theorem State.mismatchTick_keeps (s : State) : Keeps s (State.mismatchTick s) := by
  unfold State.mismatchTick
  exact Keeps.ite (.refl _) (Keeps.set_proc (State.put_keeps _ _ _ _))
theorem execTcmErrorCorrected_keeps (s : State) : OutKeeps s (execTcmErrorCorrected s) := by
  unfold execTcmErrorCorrected
  exact Keeps.done (Keeps.when (.refl _) (fun _ => (State.raise_keeps _ _ _ _ _)))
theorem execTcmErrorUncorrectable_keeps (instr : Bool) (s : State) : OutKeeps s (execTcmErrorUncorrectable instr s) :=
    by
  unfold execTcmErrorUncorrectable
  exact Keeps.done (Keeps.when (.refl _) (fun _ => (Keeps.trans (State.raise_keeps _ _ _ _ _) (State.procReset_keeps _
      _))))
theorem execSoftwareDoorbell_keeps (w : Word) (s : State) : OutKeeps s (execSoftwareDoorbell w s) := by
  unfold execSoftwareDoorbell
  exact Keeps.done (Keeps.when (.refl _) (fun _ => (State.doorbell_keeps _ _)))
theorem State.appendDoorbell_keeps (s : State) : Keeps s s.appendDoorbell := by
  unfold State.appendDoorbell
  split
  · exact .refl _
  · refine Keeps.ite (Keeps.trans (Keeps.set_ic (.refl _)) (State.icOverflow_keeps _ _))
      (Keeps.trans (t := _) ?_ (State.putB_keeps _ _ _ _))
    exact ⟨fun w => ⟨w.1, w.2.1, w.2.2.1, memWrite_wf _ _ _ w.2.2.2⟩, id, rfl⟩
theorem execDoorbellAppend_keeps (s : State) : OutKeeps s (execDoorbellAppend s) := by
  unfold execDoorbellAppend
  exact Keeps.done (Keeps.when (.refl _) (fun _ => (State.appendDoorbell_keeps _)))
theorem State.claim_keeps (s : State) : Keeps s (State.claim s).2 := by
  unfold State.claim
  split
  · exact Keeps.pair2 (.refl _)
  · exact Keeps.pair2 (Keeps.ite (Keeps.trans (Keeps.set_ic (.refl _)) (State.putB_keeps _ _ _ _)) (Keeps.set_ic
        (.refl _)))
theorem execIcClaim_keeps (s : State) : OutKeeps s (execIcClaim s) := by
  unfold execIcClaim
  exact Keeps.done (Keeps.when (.refl _) (fun _ => (Keeps.set_out (Keeps.snd_ite (State.claim_keeps _) (Keeps.pair2
      (.refl _))))))

/-! ### Watchdog -/

theorem State.updWd_keeps (s : State) (f : WdSt → WdSt) : Keeps s (State.updWd s f) := by
  unfold State.updWd
  exact Keeps.set_wd (.refl _)
theorem State.clockAt_keeps (s : State) (c : Nat) : Keeps s (State.clockAt s c) := by
  unfold State.clockAt
  exact Keeps.set_clk (.refl _)
theorem State.wdFire_keeps (s : State) (code : Nat) (info : Nat) : Keeps s (State.wdFire s code info) := by
  unfold State.wdFire
  exact Keeps.trans (Keeps.trans (Keeps.trans (Keeps.trans (Keeps.trans (State.wr_keeps _ _ _) (State.bump_keeps _ _
      _)) (State.putB_keeps _ _ _ _)) (State.putB_keeps _ _ _ _)) (State.updWd_keeps _ _)) (State.raise_keeps _ _ _ _
      _)
theorem execWdOutPulseEnd_keeps (s : State) : OutKeeps s (execWdOutPulseEnd s) := by
  unfold execWdOutPulseEnd
  exact Keeps.done (Keeps.ite (State.updWd_keeps _ _) (Keeps.when (.refl _) (fun _ => (State.putB_keeps _ _ _ _))))
theorem State.wdPeriod_keeps (s : State) (first : Bool) (clocks : Int) : Keeps s (State.wdPeriod s first clocks) := by
  unfold State.wdPeriod
  exact Keeps.trans (State.updWd_keeps _ _) (State.wr_keeps _ _ _)
theorem State.wdStart_keeps (s : State) : Keeps s (State.wdStart s) := by
  unfold State.wdStart
  exact Keeps.trans (State.wr_keeps _ _ _) (State.wdPeriod_keeps _ _ _)
theorem State.wdWindow_keeps (s : State) : Keeps s (State.wdWindow s) := by
  unfold State.wdWindow
  exact State.putB_keeps _ _ _ _
theorem State.trialConfirm_keeps (s : State) : Keeps s (State.trialConfirm s) := by
  unfold State.trialConfirm
  exact Keeps.set_proc (State.queueBoot_keeps _ _ _ _ _)
theorem State.wdEnd_keeps (s : State) : Keeps s (State.wdEnd s).2 := by
  unfold State.wdEnd
  exact Keeps.snd_ite (Keeps.pair2 (.refl _)) (Keeps.snd_ite (Keeps.pair2 (Keeps.trans (Keeps.trans (Keeps.ite
      (State.trialConfirm_keeps _) (.refl _)) (State.wr_keeps _ _ _)) (State.wdPeriod_keeps _ _ _))) (Keeps.pair2
      (.refl _)))
theorem State.atEnd_keeps (s : State) : Keeps s (State.atEnd s) := by
  unfold State.atEnd
  exact State.clockAt_keeps _ _
theorem State.wdSettle_keeps (s : State) (r : Verdict × State) (h : Keeps s r.2) : Keeps s (State.wdSettle r) := by
  unfold State.wdSettle
  split
  · exact (h.trans (State.wdFire_keeps _ _ _)).trans (State.procReset_keeps _ _)
  · exact h
theorem execRomLimitExpiry_keeps (s : State) : OutKeeps s (execRomLimitExpiry s) := by
  unfold execRomLimitExpiry
  exact Keeps.done (Keeps.when (.refl _) fun x =>
    State.wdSettle_keeps _ _ (.trans (State.atEnd_keeps x) (State.wdEnd_keeps _)))
theorem execWatchdogPeriodEnd_keeps (s : State) : OutKeeps s (execWatchdogPeriodEnd s) := by
  unfold execWatchdogPeriodEnd
  exact Keeps.done (Keeps.when (.refl _) fun x =>
    State.wdSettle_keeps _ _ (.trans (State.atEnd_keeps x) (State.wdEnd_keeps _)))
theorem State.wdRom_keeps (s : State) : Keeps s (State.wdRom s) := by
  unfold State.wdRom
  exact Keeps.ite (State.put_keeps _ _ _ _) (.refl _)
theorem State.wdTick_keeps (s : State) : Keeps s (State.wdTick s) := by
  unfold State.wdTick
  refine Keeps.trans (Keeps.trans (Keeps.set_clk (Keeps.trans ?_ (State.updWd_keeps _ _))) (State.wdWindow_keeps _))
    (State.wdRom_keeps _)
  exact Keeps.ite (State.wdSettle_keeps _ _ (State.wdEnd_keeps _)) (.refl _)
theorem State.wdIgnore_keeps (s : State) (code : Nat) (slot : Nat) (src : Nat) : Keeps s (State.wdIgnore s code slot
    src) := by
  unfold State.wdIgnore
  exact Keeps.trans (State.putB_keeps _ _ _ _) (State.raise_keeps _ _ _ _ _)
theorem State.wdWord_keeps (s : State) (w : Word) (src : Nat) : Keeps s (State.wdWord s w src).2 := by
  unfold State.wdWord
  exact Keeps.snd_ite (Keeps.pair2 (.refl _)) (Keeps.snd_ite (Keeps.pair2 (State.wdIgnore_keeps _ _ _ _))
      (Keeps.snd_ite (Keeps.pair2 (State.wdIgnore_keeps _ _ _ _)) (Keeps.snd_ite (Keeps.pair2 (State.wdIgnore_keeps _
      _ _ _)) (Keeps.snd_ite (Keeps.pair2 (.refl _)) (Keeps.snd_ite (Keeps.pair2 (.refl _)) (Keeps.pair2 (Keeps.trans
      (State.put_keeps _ _ _ _) (State.wdWindow_keeps _))))))))
theorem State.wdJudge_keeps (s : State) (w : Word) (src : Nat) : Keeps s (State.wdJudge s w src).2 := by
  have h := State.wdEnd_keeps s
  unfold State.wdJudge
  split
  · split
    · rename_i v t e; rw [e] at h; exact h
    · rename_i t e; rw [e] at h; exact h.trans (State.wdWord_keeps _ _ _)
  · exact State.wdWord_keeps _ _ _
theorem State.wdCheckin_keeps (s : State) (w : Word) (src : Nat) : Keeps s (State.wdCheckin s w src) :=
  State.wdSettle_keeps _ _ (State.wdJudge_keeps _ _ _)
theorem execWdCheckinWrite_keeps (w : Word) (clock : BitVec 12) (s : State) : OutKeeps s (execWdCheckinWrite w clock
    s) := by
  unfold execWdCheckinWrite
  exact Keeps.done (Keeps.when (.refl _) (fun _ => (Keeps.trans (State.clockAt_keeps _ _) (State.wdCheckin_keeps _ _
      _))))
theorem State.wdBeside_keeps (s : State) (e : WdEvent) : Keeps s (State.wdBeside s e) := by
  have h : ∀ r : Verdict × State, Keeps s r.2 → Keeps s (match r.1 with
      | some (code, info) => r.2.wdFire code info
      | none => r.2) := fun r k => by
    split
    · exact k.trans (State.wdFire_keeps _ _ _)
    · exact k
  refine h _ ?_
  split
  · exact .refl _
  · split
    · exact .trans (State.atEnd_keeps _) (State.wdEnd_keeps _)
    · exact .refl _
  · exact .trans (State.clockAt_keeps _ _) (State.wdJudge_keeps _ _ _)
theorem State.unfence_keeps (s : State) : Keeps s (State.unfence s) := by
  unfold State.unfence
  exact Keeps.set_proc (Keeps.trans (State.putB_keeps _ _ _ _) (State.put_keeps _ _ _ _))
theorem execResetNPulse_keeps (e : WdEvent) (s : State) : OutKeeps s (execResetNPulse e s) := by
  unfold execResetNPulse
  exact Keeps.done (Keeps.when (.refl _) (fun _ => (Keeps.trans (Keeps.trans (Keeps.ite (State.unfence_keeps _) (.refl
      _)) (State.wdBeside_keeps _ _)) (State.procReset_keeps _ _))))
theorem execLockstepMismatch_keeps (e : WdEvent) (s : State) : OutKeeps s (execLockstepMismatch e s) := by
  unfold execLockstepMismatch
  exact Keeps.done (Keeps.when (.refl _) (fun _ => (Keeps.ite (Keeps.set_proc (Keeps.trans (Keeps.trans (Keeps.trans
      (Keeps.trans (Keeps.trans (Keeps.set_proc (State.put_keeps _ _ _ _)) (State.wdBeside_keeps _ _))
      (State.raise_keeps _ _ _ _ _)) (State.procReset_keeps _ _)) (State.putB_keeps _ _ _ _)) (State.raise_keeps _ _ _
      _ _))) (Keeps.trans (Keeps.trans (Keeps.trans (Keeps.set_proc (State.put_keeps _ _ _ _)) (State.wdBeside_keeps _
      _)) (State.raise_keeps _ _ _ _ _)) (State.procReset_keeps _ _)))))
theorem State.wdWrite_keeps (s : State) (a : Nat) (v : Word) : Keeps s (State.wdWrite s a v) := by
  unfold State.wdWrite
  exact Keeps.ite (Keeps.ite (State.wr_keeps _ _ _) (Keeps.trans (State.wr_keeps _ _ _) (State.raise_keeps _ _ _ _
      _))) (Keeps.ite (State.raise_keeps _ _ _ _ _) (State.wr_keeps _ _ _))

/-! ### Contexts -/

theorem State.updCtx_keeps (s : State) (i : Fin 160) (f : CtxSt → CtxSt) : Keeps s (State.updCtx s i f) := by
  unfold State.updCtx
  exact Keeps.set_ctx (.refl _)
theorem State.ctxRest_keeps (s : State) (i : Fin 160) (gated : Bool) : Keeps s (State.ctxRest s i gated) := by
  unfold State.ctxRest
  exact Keeps.ite (Keeps.ite (.refl _) (State.wr_keeps _ _ _)) (Keeps.trans (Keeps.ite (.refl _) (State.wr_keeps _ _
      _)) (State.updCtx_keeps _ _ _))
theorem State.ctxRun_keeps (s : State) (i : Fin 160) : Keeps s (State.ctxRun s i).1 := by
  unfold State.ctxRun
  exact Keeps.pair1 (Keeps.ite (Keeps.trans (Keeps.ite (Keeps.trans (Keeps.trans (Keeps.trans (State.updCtx_keeps _ _
      _) (State.wr_keeps _ _ _)) (State.wr_keeps _ _ _)) (State.wr_keeps _ _ _)) (Keeps.trans (Keeps.trans
      (State.updCtx_keeps _ _ _) (State.wr_keeps _ _ _)) (State.wr_keeps _ _ _))) (State.raise_keeps _ _ _ _ _))
      (Keeps.ite (Keeps.trans (Keeps.trans (Keeps.trans (State.updCtx_keeps _ _ _) (State.wr_keeps _ _ _))
      (State.wr_keeps _ _ _)) (State.wr_keeps _ _ _)) (Keeps.trans (Keeps.trans (State.updCtx_keeps _ _ _)
      (State.wr_keeps _ _ _)) (State.wr_keeps _ _ _))))
theorem State.ctxEval_keeps (s : State) (i : Fin 160) : Keeps s (State.ctxEval s i).1 := by
  unfold State.ctxEval
  exact Keeps.fst_ite (Keeps.pair1 (State.ctxRest_keeps _ _ _)) (Keeps.fst_ite (Keeps.pair1 (State.ctxRest_keeps _ _
      _)) (State.ctxRun_keeps _ _))
theorem State.ctxAll_keeps (s : State) (x1 : List (Fin 160)) : Keeps s (State.ctxAll s x1).1 := by
  unfold State.ctxAll
  split
  · exact Keeps.pair1 (.refl _)
  · exact Keeps.pair1 (Keeps.trans (State.ctxEval_keeps _ _) (State.ctxAll_keeps _ _))
theorem State.mevWords_keeps (s : State) (now : List Nat) : Keeps s (State.mevWords s now) := by
  unfold State.mevWords
  exact Keeps.foldl (.refl _) (fun _ _ => (Keeps.ite (.refl _) (State.wr_keeps _ _ _)))
theorem State.mevRaise_keeps (s : State) (entered : List (Fin 160 × Nat)) (before : List Nat) (now : List Nat) (x4 :
    List Nat) : Keeps s (State.mevRaise s entered before now x4) := by
  unfold State.mevRaise
  split
  · exact .refl _
  · exact Keeps.trans (by
          split
          · exact State.raise_keeps _ _ _ _ _
          · exact Keeps.ite (State.raise_keeps _ _ _ _ _) (.refl _)) (State.mevRaise_keeps _ _ _ _ _)
theorem State.contextsTick_keeps (s : State) : Keeps s (State.contextsTick s) := by
  unfold State.contextsTick
  exact Keeps.trans (Keeps.trans (State.ctxAll_keeps _ _) (State.mevWords_keeps _ _)) (State.mevRaise_keeps _ _ _ _ _)
theorem State.contextsReset_keeps (s : State) : Keeps s (State.contextsReset s) := by
  unfold State.contextsReset
  exact Keeps.foldl (.refl _) (fun _ _ => (State.ctxRest_keeps _ _ _))
theorem State.contextWrite_keeps (s : State) (i : Fin 160) (k : Fin 5) (v : Word) : Keeps s (State.contextWrite s i k
    v) := by
  unfold State.contextWrite
  exact Keeps.ite (Keeps.ite (Keeps.trans (Keeps.trans (State.wr_keeps _ _ _) (State.wr_keeps _ _ _))
      (State.updCtx_keeps _ _ _)) (State.wr_keeps _ _ _)) (Keeps.trans (State.putB_keeps _ _ _ _) (State.raise_keeps _
      _ _ _ _))

end Sys2Proof.Machine
end

