-- ==== Sys2Proof/Laws/KeepsPower.lean ====
section
/-! SUPPORT. What is kept by the phases, the regulators, the rails and the sequencer: one lemma per operation
and per meaning, in the order in which the model declares them. -/
namespace Sys2Proof.Machine
open Sys2Proof
-- the proofs of this file are elaborated one after another, not each in a thread of its own
set_option Elab.async false

/-! ### Phase -/

theorem State.setPh_keeps (s : State) (n : Fin 16) (st : Nat) : Keeps s (State.setPh s n st) := by
  unfold State.setPh
  exact State.put_keeps _ _ _ _
theorem numberSlots_keeps (per n0 n1 : Nat) (l : List (Fin 16)) (k : Nat) (s : State) :
    Keeps s (numberSlots per n0 n1 l k s) := by
  induction l generalizing k s with
  | nil => exact .refl s
  | cons n r ih => exact .trans (.trans (State.put_keeps _ _ _ _) (State.updPhase_keeps _ _ _)) (ih _ _)
theorem State.unspace_keeps (s : State) (x1 : List (Fin 16)) : Keeps s (State.unspace s x1) := by
  unfold State.unspace
  split
  · exact .refl _
  · exact Keeps.trans (Keeps.ite (.refl _) (State.updPhase_keeps _ _ _)) (State.unspace_keeps _ _)
theorem State.reslot_keeps (s : State) (m : Fin 4) : Keeps s (State.reslot s m) := by
  unfold State.reslot
  exact Keeps.trans (Keeps.trans (Keeps.trans (State.unspace_keeps _ _) (numberSlots_keeps _ _ _ _ _ _))
      (State.put_keeps _ _ _ _)) (State.put_keeps _ _ _ _)
theorem State.disturb_keeps (s : State) (m : Fin 4) : Keeps s (State.disturb s m) := by
  unfold State.disturb
  exact State.updLoop_keeps _ _ _
theorem State.losePG_keeps (s : State) (m : Fin 4) : Keeps s (State.losePG s m) := by
  unfold State.losePG
  exact Keeps.ite (Keeps.trans (State.putB_keeps _ _ _ _) (State.raise_keeps _ _ _ _ _)) (.refl _)
theorem State.phasesOff_keeps (s : State) (x1 : List (Fin 16)) : Keeps s (State.phasesOff s x1) := by
  unfold State.phasesOff
  split
  · exact .refl _
  · exact Keeps.trans (Keeps.trans (Keeps.ite (State.setPh_keeps _ _ _) (.refl _)) (State.updPhase_keeps _ _ _))
        (State.phasesOff_keeps _ _)
theorem State.loopHalt_keeps (s : State) (m : Fin 4) : Keeps s (State.loopHalt s m) := by
  unfold State.loopHalt
  exact Keeps.trans (Keeps.trans (Keeps.trans (Keeps.trans (State.updLoop_keeps _ _ _) (State.wr_keeps _ _ _))
      (State.phasesOff_keeps _ _)) (State.putB_keeps _ _ _ _)) (State.reslot_keeps _ _)
theorem State.loopStop_keeps (s : State) (m : Fin 4) : Keeps s (State.loopStop s m) := by
  unfold State.loopStop
  exact Keeps.trans (State.losePG_keeps _ _) (State.loopHalt_keeps _ _)
theorem State.loopFenceOff_keeps (s : State) (m : Fin 4) : Keeps s (State.loopFenceOff s m) := by
  unfold State.loopFenceOff
  exact Keeps.trans (State.putB_keeps _ _ _ _) (State.loopHalt_keeps _ _)
theorem State.dropClaims_keeps (s : State) (x1 : List (Fin 16)) : Keeps s (State.dropClaims s x1) := by
  unfold State.dropClaims
  split
  · exact .refl _
  · exact Keeps.trans (State.updPhase_keeps _ _ _) (State.dropClaims_keeps _ _)
theorem State.fencePhase_keeps (s : State) (n : Fin 16) : Keeps s (State.fencePhase s n) := by
  unfold State.fencePhase
  exact Keeps.ite (.refl _) (Keeps.ite (Keeps.trans (Keeps.ite (Keeps.trans (Keeps.trans (Keeps.trans (Keeps.trans
      (Keeps.trans (Keeps.trans (Keeps.trans (Keeps.trans (Keeps.trans (State.setPh_keeps _ _ _) (State.updPhase_keeps
      _ _ _)) (State.putB_keeps _ _ _ _)) (State.raise_keeps _ _ _ _ _)) (State.put_keeps _ _ _ _))
      (State.updLoop_keeps _ _ _)) (State.raise_keeps _ _ _ _ _)) (State.loopStop_keeps _ _)) (State.dropClaims_keeps
      _ _)) (State.reslot_keeps _ _)) (Keeps.trans (Keeps.trans (Keeps.trans (Keeps.trans (Keeps.trans
      (State.setPh_keeps _ _ _) (State.updPhase_keeps _ _ _)) (State.putB_keeps _ _ _ _)) (State.raise_keeps _ _ _ _
      _)) (State.put_keeps _ _ _ _)) (State.updLoop_keeps _ _ _))) (State.updLoop_keeps _ _ _)) (Keeps.ite
      (Keeps.trans (Keeps.trans (Keeps.trans (Keeps.trans (Keeps.trans (Keeps.trans (Keeps.trans (Keeps.trans
      (Keeps.trans (State.setPh_keeps _ _ _) (State.updPhase_keeps _ _ _)) (State.putB_keeps _ _ _ _))
      (State.raise_keeps _ _ _ _ _)) (State.put_keeps _ _ _ _)) (State.updLoop_keeps _ _ _)) (State.raise_keeps _ _ _
      _ _)) (State.loopStop_keeps _ _)) (State.dropClaims_keeps _ _)) (State.reslot_keeps _ _)) (Keeps.trans
      (Keeps.trans (Keeps.trans (Keeps.trans (Keeps.trans (State.setPh_keeps _ _ _) (State.updPhase_keeps _ _ _))
      (State.putB_keeps _ _ _ _)) (State.raise_keeps _ _ _ _ _)) (State.put_keeps _ _ _ _)) (State.updLoop_keeps _ _
      _))))
theorem State.joinPhases_keeps (s : State) (x1 : List (Fin 16)) : Keeps s (State.joinPhases s x1) := by
  unfold State.joinPhases
  split
  · exact .refl _
  · exact Keeps.trans (Keeps.ite (State.setPh_keeps _ _ _) (.refl _)) (State.joinPhases_keeps _ _)
theorem execLoopEnable_keeps (m : Fin 4) (s : State) : OutKeeps s (execLoopEnable m s) := by
  unfold execLoopEnable
  exact Keeps.done (Keeps.atTick (.refl _) (fun _ => (Keeps.ite (State.updLoop_keeps _ _ _) (Keeps.ite (Keeps.trans
      (Keeps.trans (State.updLoop_keeps _ _ _) (State.putB_keeps _ _ _ _)) (State.raise_keeps _ _ _ _ _)) (Keeps.trans
      (Keeps.trans (Keeps.trans (Keeps.trans (Keeps.trans (State.updLoop_keeps _ _ _) (State.updLoop_keeps _ _ _))
      (State.putB_keeps _ _ _ _)) (State.putB_keeps _ _ _ _)) (State.joinPhases_keeps _ _)) (State.reslot_keeps _
      _))))))
theorem execStageEnableDelayEnd_keeps (m : Fin 4) (s : State) : OutKeeps s (execStageEnableDelayEnd m s) := by
  unfold execStageEnableDelayEnd
  exact Keeps.done (Keeps.when (.refl _) (fun _ => (State.updLoop_keeps _ _ _)))
theorem execReferenceRampEnd_keeps (m : Fin 4) (s : State) : OutKeeps s (execReferenceRampEnd m s) := by
  unfold execReferenceRampEnd
  exact Keeps.done (Keeps.when (.refl _) (fun _ => (Keeps.trans (State.updLoop_keeps _ _ _) (State.putB_keeps _ _ _
      _))))
theorem execLoopPgSet_keeps (m : Fin 4) (s : State) : OutKeeps s (execLoopPgSet m s) := by
  unfold execLoopPgSet
  exact Keeps.done (Keeps.atTick (.refl _) (fun _ => (Keeps.trans (Keeps.trans (State.updLoop_keeps _ _ _)
      (State.putB_keeps _ _ _ _)) (State.raise_keeps _ _ _ _ _))))
theorem execLoopDisable_keeps (m : Fin 4) (s : State) : OutKeeps s (execLoopDisable m s) := by
  unfold execLoopDisable
  exact Keeps.done (Keeps.atTick (.refl _) (fun _ => (Keeps.ite (Keeps.trans (State.updLoop_keeps _ _ _)
      (State.putB_keeps _ _ _ _)) (Keeps.ite (Keeps.trans (Keeps.trans (Keeps.trans (Keeps.trans (Keeps.trans
      (Keeps.trans (State.updLoop_keeps _ _ _) (State.putB_keeps _ _ _ _)) (State.putB_keeps _ _ _ _))
      (State.updLoop_keeps _ _ _)) (State.wr_keeps _ _ _)) (State.phasesOff_keeps _ _)) (State.reslot_keeps _ _))
      (Keeps.trans (Keeps.trans (Keeps.trans (State.updLoop_keeps _ _ _) (State.putB_keeps _ _ _ _)) (State.putB_keeps
      _ _ _ _)) (State.loopHalt_keeps _ _))))))
theorem execSoftStopEnd_keeps (m : Fin 4) (s : State) : OutKeeps s (execSoftStopEnd m s) := by
  unfold execSoftStopEnd
  exact Keeps.done (Keeps.when (.refl _) (fun _ => (State.loopHalt_keeps _ _)))
theorem execStgEnDeassert_keeps (m : Fin 4) (s : State) : OutKeeps s (execStgEnDeassert m s) := by
  unfold execStgEnDeassert
  exact Keeps.done (Keeps.when (.refl _) (fun _ => (State.updLoop_keeps _ _ _)))
theorem execLoopSetpointChange_keeps (m : Fin 4) (s : State) : OutKeeps s (execLoopSetpointChange m s) := by
  unfold execLoopSetpointChange
  exact Keeps.done (Keeps.atTick (.refl _) (fun _ => (Keeps.ite (Keeps.trans (Keeps.trans (State.updLoop_keeps _ _ _)
      (State.updLoop_keeps _ _ _)) (State.putB_keeps _ _ _ _)) (State.updLoop_keeps _ _ _))))
theorem State.newPeriod_keeps (s : State) (m : Fin 4) (was : Nat) (now : Nat) (ramp : Nat) (x5 : List (Fin 16)) :
    Keeps s (State.newPeriod s m was now ramp x5) := by
  unfold State.newPeriod
  split
  · exact .refl _
  · exact Keeps.trans (State.updPhase_keeps _ _ _) (State.newPeriod_keeps _ _ _ _ _ _)
theorem execCompensatorUpdate_keeps (m : Fin 4) (c1 : BitVec 9) (c2 : BitVec 9) (c3 : BitVec 9) (c4 : BitVec 9) (s :
    State) : OutKeeps s (execCompensatorUpdate m c1 c2 c3 c4 s) := by
  unfold execCompensatorUpdate
  exact Keeps.done (Keeps.when (.refl _) (fun _ => (Keeps.trans (State.updLoop_keeps _ _ _) (State.newPeriod_keeps _ _
      _ _ _ _))))
theorem execSwapReq_keeps (m : Fin 4) (s : State) : OutKeeps s (execSwapReq m s) := by
  unfold execSwapReq
  exact Keeps.done (Keeps.when (.refl _) (fun _ => (State.putB_keeps _ _ _ _)))
theorem execPeriodChange_keeps (m : Fin 4) (s : State) : OutKeeps s (execPeriodChange m s) := by
  unfold execPeriodChange
  exact Keeps.done (Keeps.atTick (.refl _) (fun _ => (State.updLoop_keeps _ _ _)))
theorem State.syncLoops_keeps (s : State) (ps : List Nat) (errs : Vector (BitVec 17) 4) (x3 : List (Fin 4)) : Keeps s
    (State.syncLoops s ps errs x3) := by
  unfold State.syncLoops
  split
  · exact .refl _
  · exact Keeps.trans (Keeps.ite (.refl _) (Keeps.ite (Keeps.trans (State.updLoop_keeps _ _ _) (State.putB_keeps _ _ _
        _)) (State.putB_keeps _ _ _ _))) (State.syncLoops_keeps _ _ _ _)
theorem execSyncQualified_keeps (p1 : BitVec 16) (p2 : BitVec 16) (p3 : BitVec 16) (p4 : BitVec 16) (errs : Vector
    (BitVec 17) 4) (s : State) : OutKeeps s (execSyncQualified p1 p2 p3 p4 errs s) := by
  unfold execSyncQualified
  exact Keeps.done (Keeps.when (.refl _) (fun _ => (Keeps.ite (Keeps.trans (Keeps.trans (Keeps.trans (State.putB_keeps
      _ _ _ _) (State.put_keeps _ _ _ _)) (State.syncLoops_keeps _ _ _ _)) (State.raise_keeps _ _ _ _ _)) (Keeps.trans
      (Keeps.trans (State.putB_keeps _ _ _ _) (State.put_keeps _ _ _ _)) (State.syncLoops_keeps _ _ _ _)))))
theorem execSynced_keeps (m : Fin 4) (errs : Vector (BitVec 17) 16) (s : State) : OutKeeps s (execSynced m errs s) :=
    by
  unfold execSynced
  exact Keeps.done (Keeps.when (.refl _) (fun _ => (Keeps.trans (Keeps.trans (State.updLoop_keeps _ _ _)
      (State.putB_keeps _ _ _ _)) (State.raise_keeps _ _ _ _ _))))
theorem State.unsync_keeps (s : State) (ret : Bool) (x2 : List (Fin 4)) : Keeps s (State.unsync s ret x2) := by
  unfold State.unsync
  split
  · exact .refl _
  · exact Keeps.trans (Keeps.trans (State.putB_keeps _ _ _ _) (State.updLoop_keeps _ _ _)) (State.unsync_keeps _ _ _)
theorem execSyncLost_keeps (s : State) : OutKeeps s (execSyncLost s) := by
  unfold execSyncLost
  exact Keeps.done (Keeps.when (.refl _) (fun _ => (Keeps.trans (Keeps.trans (Keeps.trans (Keeps.trans (Keeps.trans
      (State.putB_keeps _ _ _ _) (State.putB_keeps _ _ _ _)) (State.putB_keeps _ _ _ _)) (State.put_keeps _ _ _ _))
      (State.unsync_keeps _ _ _)) (State.raise_keeps _ _ _ _ _))))
theorem State.syncOff_keeps (s : State) (m : Fin 4) : Keeps s (State.syncOff s m) := by
  unfold State.syncOff
  exact Keeps.ite (Keeps.trans (State.updLoop_keeps _ _ _) (State.putB_keeps _ _ _ _)) (.refl _)
theorem State.reacquire_keeps (s : State) : Keeps s (State.reacquire s) := by
  unfold State.reacquire
  exact Keeps.trans (State.unsync_keeps _ _ _) (State.putB_keeps _ _ _ _)
theorem State.takeRole_keeps (s : State) (n : Fin 16) : Keeps s (State.takeRole s n) := by
  unfold State.takeRole
  exact Keeps.ite (State.updPhase_keeps _ _ _) (Keeps.trans (State.updPhase_keeps _ _ _) (State.setPh_keeps _ _ _))
theorem State.phCfgWrite_keeps (s : State) (n : Fin 16) (v : Word) : Keeps s (State.phCfgWrite s n v) := by
  unfold State.phCfgWrite
  exact Keeps.ite (Keeps.trans (State.putB_keeps _ _ _ _) (State.raise_keeps _ _ _ _ _)) (Keeps.trans (Keeps.trans
      (Keeps.trans (State.wr_keeps _ _ _) (State.takeRole_keeps _ _)) (State.reslot_keeps _ _)) (State.reslot_keeps _
      _))

/-! ### Regulators -/

theorem State.regLosePG_keeps (s : State) (r : Fin 14) : Keeps s (State.regLosePG s r) := by
  unfold State.regLosePG
  exact Keeps.ite (Keeps.trans (State.putB_keeps _ _ _ _) (State.raise_keeps _ _ _ _ _)) (.refl _)
theorem State.regSwitchOff_keeps (s : State) (r : Fin 14) (run : RegRun) : Keeps s (State.regSwitchOff s r run) := by
  unfold State.regSwitchOff
  exact Keeps.trans (State.updReg_keeps _ _ _) (State.wr_keeps _ _ _)
theorem State.regHalt_keeps (s : State) (r : Fin 14) : Keeps s (State.regHalt s r) := by
  unfold State.regHalt
  exact Keeps.trans (State.regSwitchOff_keeps _ _ _) (State.putB_keeps _ _ _ _)
theorem State.regStop_keeps (s : State) (r : Fin 14) (code : Nat) (hi : Nat) : Keeps s (State.regStop s r code hi) :=
    by
  unfold State.regStop
  exact Keeps.trans (Keeps.trans (State.raise_keeps _ _ _ _ _) (State.regLosePG_keeps _ _)) (State.regHalt_keeps _ _)
theorem State.regFenceOff_keeps (s : State) (r : Fin 14) : Keeps s (State.regFenceOff s r) := by
  unfold State.regFenceOff
  exact Keeps.trans (Keeps.ite (State.regLosePG_keeps _ _) (.refl _)) (State.regHalt_keeps _ _)
theorem State.inputUv_keeps (s : State) (r : Fin 14) : Keeps s (State.inputUv s r) := by
  unfold State.inputUv
  exact Keeps.trans (Keeps.trans (Keeps.trans (State.regHalt_keeps _ _) (State.putB_keeps _ _ _ _)) (State.putB_keeps
      _ _ _ _)) (State.raise_keeps _ _ _ _ _)
theorem State.regStart_keeps (s : State) (r : Fin 14) : Keeps s (State.regStart s r) := by
  unfold State.regStart
  exact Keeps.trans (Keeps.trans (State.updReg_keeps _ _ _) (State.putB_keeps _ _ _ _)) (State.putB_keeps _ _ _ _)
theorem execRegEnable_keeps (r : Fin 14) (vin : BitVec 16) (s : State) : OutKeeps s (execRegEnable r vin s) := by
  unfold execRegEnable
  exact Keeps.done (Keeps.atTick (.refl _) (fun _ => (Keeps.ite (State.updReg_keeps _ _ _) (Keeps.ite (Keeps.trans
      (State.updReg_keeps _ _ _) (State.regHalt_keeps _ _)) (Keeps.ite (Keeps.trans (State.updReg_keeps _ _ _)
      (State.inputUv_keeps _ _)) (Keeps.trans (State.updReg_keeps _ _ _) (State.regStart_keeps _ _)))))))
theorem execRegRampEnd_keeps (r : Fin 14) (s : State) : OutKeeps s (execRegRampEnd r s) := by
  unfold execRegRampEnd
  exact Keeps.done (Keeps.when (.refl _) (fun _ => (Keeps.trans (State.updReg_keeps _ _ _) (State.putB_keeps _ _ _
      _))))
theorem execRegPgSet_keeps (r : Fin 14) (s : State) : OutKeeps s (execRegPgSet r s) := by
  unfold execRegPgSet
  exact Keeps.done (Keeps.atTick (.refl _) (fun _ => (Keeps.trans (Keeps.trans (State.updReg_keeps _ _ _)
      (State.putB_keeps _ _ _ _)) (State.raise_keeps _ _ _ _ _))))
theorem execRegDisable_keeps (r : Fin 14) (s : State) : OutKeeps s (execRegDisable r s) := by
  unfold execRegDisable
  exact Keeps.done (Keeps.atTick (.refl _) (fun _ => (State.regHalt_keeps _ _)))
theorem execRegSetpointChange_keeps (r : Fin 14) (s : State) : OutKeeps s (execRegSetpointChange r s) := by
  unfold execRegSetpointChange
  exact Keeps.done (Keeps.atTick (.refl _) (fun _ => (Keeps.ite (Keeps.trans (Keeps.trans (State.updReg_keeps _ _ _)
      (State.updReg_keeps _ _ _)) (State.putB_keeps _ _ _ _)) (State.updReg_keeps _ _ _))))
theorem execRegOvervoltage_keeps (r : Fin 14) (v : BitVec 20) (s : State) : OutKeeps s (execRegOvervoltage r v s) :=
    by
  unfold execRegOvervoltage
  exact Keeps.done (Keeps.when (.refl _) (fun _ => (Keeps.trans (Keeps.trans (State.putB_keeps _ _ _ _)
      (State.regStop_keeps _ _ _ _)) (State.updReg_keeps _ _ _))))
theorem execSwReverseCurrent_keeps (k : Fin 4) (v : BitVec 20) (vin : BitVec 16) (s : State) : OutKeeps s
    (execSwReverseCurrent k v vin s) := by
  unfold execSwReverseCurrent
  exact Keeps.done (Keeps.when (.refl _) (fun _ => (Keeps.trans (State.putB_keeps _ _ _ _) (State.regStop_keeps _ _ _
      _))))
theorem State.uvAssert_keeps (s : State) (r : Fin 14) : Keeps s (State.uvAssert s r) := by
  unfold State.uvAssert
  exact Keeps.ite (Keeps.trans (Keeps.trans (Keeps.trans (State.updReg_keeps _ _ _) (State.putB_keeps _ _ _ _))
      (State.raise_keeps _ _ _ _ _)) (State.regLosePG_keeps _ _)) (State.updReg_keeps _ _ _)
theorem execRegUndervoltage_keeps (r : Fin 14) (v : BitVec 20) (vin : BitVec 16) (s : State) : OutKeeps s
    (execRegUndervoltage r v vin s) := by
  unfold execRegUndervoltage
  exact Keeps.done (Keeps.when (.refl _) (fun _ => (State.uvAssert_keeps _ _)))
theorem execPeakCurrentLimit_keeps (b : Fin 6) (i : BitVec 16) (again : Bool) (s : State) : OutKeeps s
    (execPeakCurrentLimit b i again s) := by
  unfold execPeakCurrentLimit
  exact Keeps.done (Keeps.when (.refl _) (fun _ => (Keeps.trans (State.updReg_keeps _ _ _) (State.putB_keeps _ _ _
      _))))
theorem execLdCurrentLimit_keeps (k : Fin 4) (i : BitVec 16) (s : State) : OutKeeps s (execLdCurrentLimit k i s) := by
  unfold execLdCurrentLimit
  exact Keeps.done (Keeps.when (.refl _) (fun _ => (Keeps.trans (State.updReg_keeps _ _ _) (State.putB_keeps _ _ _
      _))))
theorem State.overcurrentStop_keeps (s : State) (r : Fin 14) : Keeps s (State.overcurrentStop s r) := by
  unfold State.overcurrentStop
  exact Keeps.ite (Keeps.trans (Keeps.trans (Keeps.trans (State.putB_keeps _ _ _ _) (State.raise_keeps _ _ _ _ _))
      (State.regLosePG_keeps _ _)) (State.regHalt_keeps _ _)) (Keeps.ite (Keeps.trans (Keeps.trans (Keeps.trans
      (Keeps.trans (State.putB_keeps _ _ _ _) (State.raise_keeps _ _ _ _ _)) (State.regLosePG_keeps _ _))
      (State.regHalt_keeps _ _)) (State.raise_keeps _ _ _ _ _)) (Keeps.trans (Keeps.trans (Keeps.trans (Keeps.trans
      (State.putB_keeps _ _ _ _) (State.raise_keeps _ _ _ _ _)) (State.regLosePG_keeps _ _)) (State.regSwitchOff_keeps
      _ _ _)) (State.updReg_keeps _ _ _)))
theorem execRegPersistentOvercurrent_keeps (r : Fin 14) (i : BitVec 16) (s : State) : OutKeeps s
    (execRegPersistentOvercurrent r i s) := by
  unfold execRegPersistentOvercurrent
  exact Keeps.done (Keeps.when (.refl _) (fun _ => (State.overcurrentStop_keeps _ _)))
theorem execRegOverTemperature_keeps (r : Fin 14) (s : State) : OutKeeps s (execRegOverTemperature r s) := by
  unfold execRegOverTemperature
  exact Keeps.done (Keeps.when (.refl _) (fun _ => (Keeps.trans (Keeps.trans (State.updReg_keeps _ _ _)
      (State.putB_keeps _ _ _ _)) (State.regStop_keeps _ _ _ _))))
theorem execRetryWaitEnd_keeps (r : Fin 14) (vin : BitVec 16) (s : State) : OutKeeps s (execRetryWaitEnd r vin s) :=
    by
  unfold execRetryWaitEnd
  exact Keeps.done (Keeps.atTick (.refl _) (fun _ => (Keeps.ite (State.regHalt_keeps _ _) (Keeps.ite
      (State.inputUv_keeps _ _) (Keeps.trans (State.bump_keeps _ _ _) (State.regStart_keeps _ _))))))
theorem execRetriesReset_keeps (r : Fin 14) (s : State) : OutKeeps s (execRetriesReset r s) := by
  unfold execRetriesReset
  exact Keeps.done (Keeps.atTick (.refl _) (fun _ => (State.put_keeps _ _ _ _)))
theorem State.applyFence_keeps (s : State) (sw : Fin 12) (k : Fin 9) : Keeps s (State.applyFence s sw k) := by
  unfold State.applyFence
  exact Keeps.ite (Keeps.trans (Keeps.trans (Keeps.trans (Keeps.set_seg (.refl _)) (State.put_keeps _ _ _ _))
      (State.put_keeps _ _ _ _)) (State.regStop_keeps _ _ _ _)) (Keeps.trans (Keeps.trans (Keeps.set_seg (.refl _))
      (State.put_keeps _ _ _ _)) (State.put_keeps _ _ _ _))
theorem State.segJudge_keeps (s : State) (sw : Fin 12) (k : Fin 9) (x : SegMeas) : Keeps s (State.segJudge s sw k x)
    := by
  unfold State.segJudge
  exact Keeps.ite (Keeps.trans (Keeps.trans (Keeps.trans (Keeps.set_seg_freeCtr (.refl _)) (State.wr_keeps _ _ _))
      (State.putB_keeps _ _ _ _)) (State.regStop_keeps _ _ _ _)) (Keeps.ite (Keeps.ite (Keeps.trans (Keeps.set_seg
      (Keeps.trans (Keeps.set_seg_freeCtr (.refl _)) (State.wr_keeps _ _ _))) (State.raise_keeps _ _ _ _ _))
      (Keeps.trans (Keeps.trans (Keeps.set_seg (Keeps.trans (Keeps.set_seg_freeCtr (.refl _)) (State.wr_keeps _ _ _)))
      (State.raise_keeps _ _ _ _ _)) (State.applyFence_keeps _ _ _))) (Keeps.ite (Keeps.trans (Keeps.set_seg
      (Keeps.trans (Keeps.set_seg_freeCtr (.refl _)) (State.wr_keeps _ _ _))) (State.raise_keeps _ _ _ _ _))
      (Keeps.trans (Keeps.set_seg_freeCtr (.refl _)) (State.wr_keeps _ _ _))))
theorem State.segPostpone_keeps (s : State) (sw : Fin 12) (k : Fin 9) : Keeps s (State.segPostpone s sw k) := by
  unfold State.segPostpone
  exact Keeps.ite (Keeps.set_seg (State.putB_keeps _ _ _ _)) (Keeps.set_seg (State.putB_keeps _ _ _ _))
theorem State.segTurn_keeps (s : State) (sw : Nat) (k : Nat) : Keeps s (State.segTurn s sw k) := by
  unfold State.segTurn
  exact Keeps.set_seg (.refl _)
theorem State.segNext_keeps (s : State) : Keeps s (State.segNext s) := by
  unfold State.segNext
  exact Keeps.ite (State.segTurn_keeps _ _ _) (Keeps.ite (State.segTurn_keeps _ _ _) (Keeps.trans (Keeps.trans
      (Keeps.set_seg (.refl _)) (State.putB_keeps _ _ _ _)) (State.put_keeps _ _ _ _)))
theorem execSweepStart_keeps (s : State) : OutKeeps s (execSweepStart s) := by
  unfold execSweepStart
  exact Keeps.done (Keeps.when (.refl _) (fun _ => (Keeps.trans (Keeps.trans (Keeps.set_seg (.refl _))
      (State.segTurn_keeps _ _ _)) (State.putB_keeps _ _ _ _))))
theorem State.sweepTick_keeps (s : State) : Keeps s (State.sweepTick s) := by
  unfold State.sweepTick
  exact Keeps.ite (.refl _) (Keeps.set_seg (.refl _))
theorem execSegmentMeasurement_keeps (x : SegMeas) (s : State) : OutKeeps s (execSegmentMeasurement x s) := by
  unfold execSegmentMeasurement
  exact Keeps.done (Keeps.atTick (.refl _) (fun _ => (Keeps.trans (Keeps.ite (.refl _) (Keeps.ite
      (State.segPostpone_keeps _ _ _) (State.segJudge_keeps _ _ _ _))) (State.segNext_keeps _))))
theorem execSegmentRetry_keeps (sw : Fin 12) (k : Fin 9) (x : SegMeas) (s : State) : OutKeeps s (execSegmentRetry sw k
    x s) := by
  unfold execSegmentRetry
  exact Keeps.done (Keeps.atTick (.refl _) (fun _ => (Keeps.ite (State.segPostpone_keeps _ _ _) (State.segJudge_keeps
      _ _ _ _))))
theorem execSegmentPostponed2h_keeps (sw : Fin 12) (k : Fin 9) (s : State) : OutKeeps s (execSegmentPostponed2h sw k
    s) := by
  unfold execSegmentPostponed2h
  exact Keeps.done (Keeps.when (.refl _) (fun _ => (Keeps.trans (Keeps.set_seg (.refl _)) (State.raise_keeps _ _ _ _
      _))))
theorem execSegmentFenceApplied_keeps (sw : Fin 12) (s : State) : OutKeeps s (execSegmentFenceApplied sw s) := by
  unfold execSegmentFenceApplied
  exact Keeps.done (by
        split
        · exact Keeps.when (.refl _) (fun _ => (State.applyFence_keeps _ _ _))
        · exact .refl _)

/-! ### Rails -/

theorem State.loopEnWrite_keeps (s : State) (m : Fin 4) (on : Bool) : Keeps s (State.loopEnWrite s m on) := by
  unfold State.loopEnWrite
  exact Keeps.trans (Keeps.ite (State.putB_keeps _ _ _ _) (.refl _)) (State.updLoop_keeps _ _ _)
theorem State.regEnWrite_keeps (s : State) (r : Fin 14) (on : Bool) : Keeps s (State.regEnWrite s r on) := by
  unfold State.regEnWrite
  exact Keeps.trans (State.putB_keeps _ _ _ _) (State.updReg_keeps _ _ _)
theorem State.loopCodeWrite_keeps (s : State) (m : Fin 4) (code : Nat) : Keeps s (State.loopCodeWrite s m code) := by
  unfold State.loopCodeWrite
  exact Keeps.trans (Keeps.trans (Keeps.ite (.refl _) (State.putB_keeps _ _ _ _)) (State.put_keeps _ _ _ _))
      (State.updLoop_keeps _ _ _)
theorem State.regCodeWrite_keeps (s : State) (r : Fin 14) (code : Nat) : Keeps s (State.regCodeWrite s r code) := by
  unfold State.regCodeWrite
  exact Keeps.trans (State.put_keeps _ _ _ _) (State.updReg_keeps _ _ _)
theorem State.extSet_keeps (s : State) (k : Fin 32) (on : Bool) : Keeps s (State.extSet s k on) := by
  unfold State.extSet
  exact Keeps.ite (.refl _) (Keeps.set_seq (.refl _))
theorem State.railWrite_keeps (s : State) (r : Rail) (on : Bool) : Keeps s (State.railWrite s r on) := by
  unfold State.railWrite
  exact Keeps.ite (.refl _) (by
        split
        · exact State.loopEnWrite_keeps _ _ _
        · exact State.regEnWrite_keeps _ _ _
        · exact State.extSet_keeps _ _ _)
theorem State.railSetV_keeps (s : State) (r : Rail) (code : Nat) : Keeps s (State.railSetV s r code) := by
  unfold State.railSetV
  split
  · exact State.loopCodeWrite_keeps _ _ _
  · exact Keeps.ite (.refl _) (State.regCodeWrite_keeps _ _ _)
  · exact .refl _
theorem State.railFenceOff_keeps (s : State) (r : Rail) : Keeps s (State.railFenceOff s r) := by
  unfold State.railFenceOff
  split
  · exact Keeps.ite (.refl _) (State.loopFenceOff_keeps _ _)
  · exact Keeps.ite (.refl _) (State.regFenceOff_keeps _ _)
  · exact State.extSet_keeps _ _ _
theorem State.railTick_keeps (s : State) : Keeps s (s.railTick) := by
  unfold State.railTick
  refine Keeps.upd (Keeps.foldl (.refl s) fun x id => ?_)
  split
  · exact State.railFenceOff_keeps _ _
  · exact .refl x

/-! ### Sequencer -/

theorem State.setThState_keeps (s : State) (t : Fin 4) (v : Nat) : Keeps s (State.setThState s t v) := by
  unfold State.setThState
  exact State.put_keeps _ _ _ _
theorem State.updSeq_keeps (s : State) (f : SeqSt → SeqSt) : Keeps s (State.updSeq s f) := by
  unfold State.updSeq
  exact Keeps.set_seq (.refl _)
theorem State.updThr_keeps (s : State) (t : Fin 4) (f : ThrSt → ThrSt) : Keeps s (State.updThr s t f) := by
  unfold State.updThr
  exact State.updSeq_keeps _ _
theorem State.thRaise_keeps (s : State) (t : Fin 4) (code : Nat) : Keeps s (State.thRaise s t code) := by
  unfold State.thRaise
  exact State.raise_keeps _ _ _ _ _
theorem State.upUnhold_keeps (s : State) (t : Fin 4) : Keeps s (State.upUnhold s t) := by
  unfold State.upUnhold
  exact Keeps.ite (Keeps.trans (State.updSeq_keeps _ _) (State.putB_keeps _ _ _ _)) (.refl _)
theorem State.thEnd_keeps (s : State) (t : Fin 4) (code : Nat) : Keeps s (State.thEnd s t code) := by
  unfold State.thEnd
  exact Keeps.ite (Keeps.trans (Keeps.trans (Keeps.trans (Keeps.trans (Keeps.trans (State.thRaise_keeps _ _ _)
      (State.wr_keeps _ _ _)) (State.updThr_keeps _ _ _)) (State.upUnhold_keeps _ _)) (State.updSeq_keeps _ _))
      (State.putB_keeps _ _ _ _)) (Keeps.trans (Keeps.trans (Keeps.trans (State.thRaise_keeps _ _ _) (State.wr_keeps _
      _ _)) (State.updThr_keeps _ _ _)) (State.upUnhold_keeps _ _))
theorem State.thGoto_keeps (s : State) (t : Fin 4) (i : Nat) : Keeps s (State.thGoto s t i) := by
  unfold State.thGoto
  exact Keeps.ite (State.thEnd_keeps _ _ _) (State.put_keeps _ _ _ _)
theorem State.thNext_keeps (s : State) (t : Fin 4) : Keeps s (State.thNext s t) := by
  unfold State.thNext
  exact State.thGoto_keeps _ _ _
theorem State.preempt_keeps (s : State) : Keeps s (State.preempt s) := by
  unfold State.preempt
  exact Keeps.ite (Keeps.ite (.refl _) (State.thEnd_keeps _ _ _)) (Keeps.trans (Keeps.ite (.refl _) (State.thEnd_keeps
      _ _ _)) (State.thEnd_keeps _ _ _))
theorem State.thEnter_keeps (s : State) (t : Fin 4) (label : Nat) : Keeps s (State.thEnter s t label) := by
  unfold State.thEnter
  exact Keeps.trans (State.wr_keeps _ _ _) (State.updThr_keeps _ _ _)
theorem State.thBegin_keeps (s : State) (t : Fin 4) (label : Nat) : Keeps s (State.thBegin s t label) := by
  unfold State.thBegin
  exact Keeps.trans (State.thEnter_keeps _ _ _) (State.raise_keeps _ _ _ _ _)
theorem State.upHold_keeps (s : State) : Keeps s (State.upHold s) := by
  unfold State.upHold
  exact Keeps.ite (Keeps.trans (Keeps.ite (Keeps.trans (Keeps.ite (Keeps.trans (Keeps.trans (State.updSeq_keeps _ _)
      (State.putB_keeps _ _ _ _)) (State.raise_keeps _ _ _ _ _)) (State.updSeq_keeps _ _)) (State.raise_keeps _ _ _ _
      _)) (Keeps.ite (Keeps.trans (Keeps.trans (State.updSeq_keeps _ _) (State.putB_keeps _ _ _ _)) (State.raise_keeps
      _ _ _ _ _)) (State.updSeq_keeps _ _))) (State.setThState_keeps _ _ _)) (Keeps.ite (Keeps.trans (Keeps.ite
      (Keeps.trans (Keeps.trans (State.updSeq_keeps _ _) (State.putB_keeps _ _ _ _)) (State.raise_keeps _ _ _ _ _))
      (State.updSeq_keeps _ _)) (State.raise_keeps _ _ _ _ _)) (Keeps.ite (Keeps.trans (Keeps.trans
      (State.updSeq_keeps _ _) (State.putB_keeps _ _ _ _)) (State.raise_keeps _ _ _ _ _)) (State.updSeq_keeps _ _)))
theorem State.startUp_keeps (s : State) (label : Nat) : Keeps s (State.startUp s label) := by
  unfold State.startUp
  exact Keeps.ite (State.thRaise_keeps _ _ _) (Keeps.trans (State.thBegin_keeps _ _ _) (State.upHold_keeps _))
theorem State.startUser_keeps (s : State) (label : Nat) : Keeps s (State.startUser s label) := by
  unfold State.startUser
  exact Keeps.ite (State.thRaise_keeps _ _ _) (State.thBegin_keeps _ _ _)
theorem State.startDown_keeps (s : State) (label : Nat) : Keeps s (State.startDown s label) := by
  unfold State.startDown
  exact Keeps.ite (State.thRaise_keeps _ _ _) (Keeps.trans (Keeps.trans (State.preempt_keeps _) (State.thEnter_keeps _
      _ _)) (State.updSeq_keeps _ _))
theorem State.driveFn_keeps (s : State) : Keeps s (State.driveFn s) := by
  unfold State.driveFn
  exact Keeps.ite (Keeps.trans (Keeps.trans (State.putB_keeps _ _ _ _) (State.updSeq_keeps _ _)) (State.raise_keeps _
      _ _ _ _)) (.refl _)
theorem State.downUndo_keeps (s : State) : Keeps s (State.downUndo s) := by
  unfold State.downUndo
  exact Keeps.trans (Keeps.trans (State.wr_keeps _ _ _) (State.updSeq_keeps _ _)) (State.thRaise_keeps _ _ _)
theorem State.startFault_keeps (s : State) (label : Nat) (by_ : Nat) (esn : Nat) : Keeps s (State.startFault s label
    by_ esn) := by
  unfold State.startFault
  exact Keeps.ite (Keeps.ite (Keeps.trans (State.put_keeps _ _ _ _) (State.updSeq_keeps _ _)) (.refl _)) (Keeps.ite
      (State.thRaise_keeps _ _ _) (Keeps.ite (Keeps.trans (State.putB_keeps _ _ _ _) (State.thRaise_keeps _ _ _))
      (Keeps.trans (Keeps.trans (Keeps.trans (Keeps.trans (Keeps.ite (State.downUndo_keeps _) (.refl _))
      (State.preempt_keeps _)) (State.thEnter_keeps _ _ _)) (State.updSeq_keeps _ _)) (State.putB_keeps _ _ _ _))))
theorem State.tellDown_keeps (s : State) : Keeps s (State.tellDown s) := by
  unfold State.tellDown
  split
  · exact Keeps.trans (State.updSeq_keeps _ _) (State.raise_keeps _ _ _ _ _)
  · exact .refl _
theorem State.tellFault_keeps (s : State) : Keeps s (State.tellFault s) := by
  unfold State.tellFault
  split
  · exact Keeps.ite (Keeps.trans (Keeps.trans (State.updSeq_keeps _ _) (State.raise_keeps _ _ _ _ _))
        (State.driveFn_keeps _)) (Keeps.trans (State.updSeq_keeps _ _) (State.raise_keeps _ _ _ _ _))
  · exact .refl _
theorem State.seqSettle_keeps (s : State) : Keeps s (State.seqSettle s) := by
  unfold State.seqSettle
  exact Keeps.trans (State.tellFault_keeps _) (State.tellDown_keeps _)
theorem State.thStart_keeps (s : State) (t : Fin 4) (label : Nat) : Keeps s (State.thStart s t label) := by
  unfold State.thStart
  exact Keeps.ite (State.startUp_keeps _ _) (Keeps.ite (State.startDown_keeps _ _) (Keeps.ite (State.startFault_keeps
      _ _ _ _) (State.startUser_keeps _ _)))
theorem State.thStop_keeps (s : State) (t : Fin 4) : Keeps s (State.thStop s t) := by
  unfold State.thStop
  exact Keeps.ite (Keeps.ite (State.putB_keeps _ _ _ _) (Keeps.ite (State.tellDown_keeps _) (.refl _))) (Keeps.ite
      (Keeps.trans (Keeps.ite (State.putB_keeps _ _ _ _) (Keeps.ite (State.tellDown_keeps _) (.refl _)))
      (State.thRaise_keeps _ _ _)) (Keeps.trans (Keeps.ite (State.putB_keeps _ _ _ _) (Keeps.ite (State.tellDown_keeps
      _) (.refl _))) (State.thEnd_keeps _ _ _)))
theorem execSeqStart_keeps (t : Fin 4) (useLabel : Bool) (label : Fin 64) (s : State) : OutKeeps s (execSeqStart t
    useLabel label s) := by
  unfold execSeqStart
  exact Keeps.done (Keeps.atTick (.refl _) (fun _ => (Keeps.trans (State.updThr_keeps _ _ _) (State.thStart_keeps _ _
      _))))
theorem execSeqStop_keeps (t : Fin 4) (s : State) : OutKeeps s (execSeqStop t s) := by
  unfold execSeqStop
  exact Keeps.done (Keeps.atTick (.refl _) (fun _ => (Keeps.trans (State.updThr_keeps _ _ _) (State.thStop_keeps _
      _))))
theorem execDownStartByEvent_keeps (esn : BitVec 8) (s : State) : OutKeeps s (execDownStartByEvent esn s) := by
  unfold execDownStartByEvent
  exact Keeps.done (Keeps.when (.refl _) (fun _ => (Keeps.trans (Keeps.set_flt (.refl _)) (State.startDown_keeps _
      _))))
theorem execUpInhibitRelease_keeps (s : State) : OutKeeps s (execUpInhibitRelease s) := by
  unfold execUpInhibitRelease
  exact Keeps.done (Keeps.atTick (.refl _) (fun _ => (Keeps.ite (Keeps.trans (State.updSeq_keeps _ _)
      (State.putB_keeps _ _ _ _)) (Keeps.trans (Keeps.trans (State.updSeq_keeps _ _) (State.putB_keeps _ _ _ _))
      (State.setThState_keeps _ _ _)))))
theorem execUpHeldRelease_keeps (s : State) : OutKeeps s (execUpHeldRelease s) := by
  unfold execUpHeldRelease
  exact Keeps.done (Keeps.atTick (.refl _) (fun _ => (Keeps.ite (State.updSeq_keeps _ _) (Keeps.trans
      (State.updSeq_keeps _ _) (State.setThState_keeps _ _ _)))))
theorem execMinOffEnd_keeps (s : State) : OutKeeps s (execMinOffEnd s) := by
  unfold execMinOffEnd
  exact Keeps.done (Keeps.atTick (.refl _) (fun _ => (Keeps.ite (Keeps.trans (State.putB_keeps _ _ _ _)
      (State.putB_keeps _ _ _ _)) (State.putB_keeps _ _ _ _))))
theorem execAutoUpStart_keeps (s : State) : OutKeeps s (execAutoUpStart s) := by
  unfold execAutoUpStart
  exact Keeps.done (Keeps.atTick (.refl _) (fun _ => (Keeps.trans (Keeps.trans (Keeps.trans (State.putB_keeps _ _ _ _)
      (State.thBegin_keeps _ _ _)) (State.thRaise_keeps _ _ _)) (State.upHold_keeps _))))
theorem execFaultNEdge_keeps (s : State) : OutKeeps s (execFaultNEdge s) := by
  unfold execFaultNEdge
  exact Keeps.done (Keeps.atTick (.refl _) (fun _ => (Keeps.trans (Keeps.trans (State.updSeq_keeps _ _)
      (State.raise_keeps _ _ _ _ _)) (State.startFault_keeps _ _ _ _))))
theorem execFaultNRelease_keeps (s : State) : OutKeeps s (execFaultNRelease s) := by
  unfold execFaultNRelease
  exact Keeps.done (Keeps.when (.refl _) (fun _ => (Keeps.trans (State.putB_keeps _ _ _ _) (State.raise_keeps _ _ _ _
      _))))
theorem State.downAbort_keeps (s : State) : Keeps s (State.downAbort s) := by
  unfold State.downAbort
  exact Keeps.ite (Keeps.trans (Keeps.trans (Keeps.trans (State.thRaise_keeps _ _ _) (State.wr_keeps _ _ _))
      (State.updThr_keeps _ _ _)) (State.updSeq_keeps _ _)) (.refl _)
theorem State.seqTake_keeps (s : State) (t : Fin 4) : Keeps s (State.seqTake s t) := by
  unfold State.seqTake
  exact Keeps.set_clk (Keeps.trans (State.seqSettle_keeps _) (State.updSeq_keeps _ _))
theorem State.stepSpent_keeps (s : State) (t : Fin 4) : Keeps s (State.stepSpent s t) := by
  unfold State.stepSpent
  exact Keeps.trans (State.seqTake_keeps _ _) (State.updThr_keeps _ _ _)
theorem State.stepRow_keeps (s : State) (t : Fin 4) (op : Nat) (f : State → Word → State)
    (hf : ∀ x w, Keeps x (f x w)) : Keeps s (s.stepRow t op f) := by
  unfold State.stepRow
  exact Keeps.when (.refl s) fun x => .trans (State.stepSpent_keeps _ _) (hf _ _)
theorem State.waitOver_keeps (s : State) (t : Fin 4) (b : Bool) : Keeps s (State.waitOver s t b) := by
  unfold State.waitOver
  exact Keeps.trans (State.putB_keeps _ _ _ _) (State.setThState_keeps _ _ _)
theorem State.waitAt_keeps (s : State) (t : Fin 4) (w : Wait) (frames : Nat) : Keeps s (State.waitAt s t w frames) :=
    by
  unfold State.waitAt
  exact Keeps.trans (State.updThr_keeps _ _ _) (State.setThState_keeps _ _ _)
theorem execHalt_keeps (t : Fin 4) (s : State) : OutKeeps s (execHalt t s) := by
  unfold execHalt
  exact Keeps.done (State.stepRow_keeps _ _ _ _ (fun _ _ => (State.thEnd_keeps _ _ _)))
theorem execEnable_keeps (t : Fin 4) (s : State) : OutKeeps s (execEnable t s) := by
  unfold execEnable
  exact Keeps.done (State.stepRow_keeps _ _ _ _ (fun _ _ => (Keeps.trans (by
        split
        · exact State.railWrite_keeps _ _ _
        · exact .refl _) (State.thNext_keeps _ _))))
theorem execDisable_keeps (t : Fin 4) (s : State) : OutKeeps s (execDisable t s) := by
  unfold execDisable
  exact Keeps.done (State.stepRow_keeps _ _ _ _ (fun _ _ => (Keeps.trans (by
        split
        · exact State.railWrite_keeps _ _ _
        · exact .refl _) (State.thNext_keeps _ _))))
theorem execSetV_keeps (t : Fin 4) (s : State) : OutKeeps s (execSetV t s) := by
  unfold execSetV
  exact Keeps.done (State.stepRow_keeps _ _ _ _ (fun _ _ => (Keeps.trans (by
        split
        · exact State.railSetV_keeps _ _ _
        · exact .refl _) (State.thNext_keeps _ _))))
theorem execWait_keeps (t : Fin 4) (s : State) : OutKeeps s (execWait t s) := by
  unfold execWait
  exact Keeps.done (State.stepRow_keeps _ _ _ _ (fun _ _ => (Keeps.ite (State.thNext_keeps _ _) (State.waitAt_keeps _
      _ _ _))))
theorem execWaitExpiry_keeps (t : Fin 4) (s : State) : OutKeeps s (execWaitExpiry t s) := by
  unfold execWaitExpiry
  exact Keeps.done (Keeps.when (.refl _) (fun _ => (Keeps.trans (Keeps.trans (State.seqTake_keeps _ _)
      (State.setThState_keeps _ _ _)) (State.thNext_keeps _ _))))
theorem execWaitUntil_keeps (t : Fin 4) (s : State) : OutKeeps s (execWaitUntil t s) := by
  unfold execWaitUntil
  exact Keeps.done (State.stepRow_keeps _ _ _ _ (fun _ _ => (Keeps.ite (Keeps.trans (State.waitOver_keeps _ _ _)
      (State.thNext_keeps _ _)) (State.waitAt_keeps _ _ _ _))))
theorem execWaitUntilSatisfied_keeps (t : Fin 4) (s : State) : OutKeeps s (execWaitUntilSatisfied t s) := by
  unfold execWaitUntilSatisfied
  exact Keeps.done (Keeps.when (.refl _) (fun _ => (Keeps.trans (Keeps.trans (State.stepSpent_keeps _ _)
      (State.waitOver_keeps _ _ _)) (State.thNext_keeps _ _))))
theorem State.barrierPass_keeps (s : State) (t : Fin 4) (id : Nat) : Keeps s (State.barrierPass s t id) := by
  unfold State.barrierPass
  exact Keeps.trans (Keeps.trans (State.waitOver_keeps _ _ _) (State.updThr_keeps _ _ _)) (State.thNext_keeps _ _)
theorem execBarrier_keeps (t : Fin 4) (s : State) : OutKeeps s (execBarrier t s) := by
  unfold execBarrier
  exact Keeps.done (State.stepRow_keeps _ _ _ _ (fun _ _ => (Keeps.ite (State.barrierPass_keeps _ _ _)
      (State.waitAt_keeps _ _ _ _))))
theorem execBarrierPass_keeps (t : Fin 4) (s : State) : OutKeeps s (execBarrierPass t s) := by
  unfold execBarrierPass
  exact Keeps.done (Keeps.when (.refl _) (fun _ => (Keeps.trans (State.stepSpent_keeps _ _) (State.barrierPass_keeps _
      _ _))))
theorem execWaitTimeout_keeps (t : Fin 4) (s : State) : OutKeeps s (execWaitTimeout t s) := by
  unfold execWaitTimeout
  exact Keeps.done (Keeps.when (.refl _) (fun _ => (Keeps.ite (Keeps.trans (Keeps.trans (Keeps.trans (Keeps.trans
      (State.stepSpent_keeps _ _) (State.waitOver_keeps _ _ _)) (State.snapshot_keeps _ _ _ _)) (State.thRaise_keeps _
      _ _)) (State.thNext_keeps _ _)) (Keeps.ite (Keeps.trans (Keeps.trans (State.stepSpent_keeps _ _)
      (State.waitOver_keeps _ _ _)) (State.thEnd_keeps _ _ _)) (Keeps.trans (Keeps.trans (Keeps.trans
      (State.stepSpent_keeps _ _) (State.waitOver_keeps _ _ _)) (State.thRaise_keeps _ _ _)) (State.thNext_keeps _
      _))))))
theorem execCheck_keeps (t : Fin 4) (s : State) : OutKeeps s (execCheck t s) := by
  unfold execCheck
  exact Keeps.done (State.stepRow_keeps _ _ _ _ (fun _ _ => (Keeps.ite (State.thNext_keeps _ _) (State.thGoto_keeps _
      _ _))))
theorem execJump_keeps (t : Fin 4) (s : State) : OutKeeps s (execJump t s) := by
  unfold execJump
  exact Keeps.done (State.stepRow_keeps _ _ _ _ (fun _ _ => (State.thGoto_keeps _ _ _)))
theorem State.setStack_keeps (s : State) (t : Fin 4) (l : List Nat) : Keeps s (State.setStack s t l) := by
  unfold State.setStack
  exact Keeps.trans (State.updThr_keeps _ _ _) (State.put_keeps _ _ _ _)
theorem execCall_keeps (t : Fin 4) (s : State) : OutKeeps s (execCall t s) := by
  unfold execCall
  exact Keeps.done (State.stepRow_keeps _ _ _ _ (fun _ _ => (Keeps.ite (State.thEnd_keeps _ _ _) (Keeps.trans
      (State.setStack_keeps _ _ _) (State.thGoto_keeps _ _ _)))))
theorem execReturn_keeps (t : Fin 4) (s : State) : OutKeeps s (execReturn t s) := by
  unfold execReturn
  exact Keeps.done (State.stepRow_keeps _ _ _ _ (fun _ _ => (by
        split
        · exact State.thEnd_keeps _ _ _
        · exact Keeps.trans (State.setStack_keeps _ _ _) (State.thGoto_keeps _ _ _))))
theorem execCommit_keeps (t : Fin 4) (s : State) : OutKeeps s (execCommit t s) := by
  unfold execCommit
  exact Keeps.done (State.stepRow_keeps _ _ _ _ (fun _ _ => (Keeps.trans (Keeps.ite (Keeps.trans (State.putB_keeps _ _
      _ _) (State.thRaise_keeps _ _ _)) (.refl _)) (State.thNext_keeps _ _))))
theorem execMark_keeps (t : Fin 4) (s : State) : OutKeeps s (execMark t s) := by
  unfold execMark
  exact Keeps.done (State.stepRow_keeps _ _ _ _ (fun _ _ => (Keeps.trans (State.toPlate_keeps _ _) (State.thNext_keeps
      _ _))))
theorem execSnapshot_keeps (t : Fin 4) (s : State) : OutKeeps s (execSnapshot t s) := by
  unfold execSnapshot
  exact Keeps.done (State.stepRow_keeps _ _ _ _ (fun _ _ => (Keeps.trans (State.snapshot_keeps _ _ _ _)
      (State.thNext_keeps _ _))))
theorem State.siblingStatus_keeps (s : State) (ids : Word) (arrived : BitVec 4) (passed : BitVec 4) : Keeps s
    (State.siblingStatus s ids arrived passed) := by
  unfold State.siblingStatus
  exact Keeps.trans (Keeps.trans (State.wr_keeps _ _ _) (State.wr_keeps _ _ _)) (State.updSeq_keeps _ _)
theorem execSiblingStatusLost_keeps (s : State) : OutKeeps s (execSiblingStatusLost s) := by
  unfold execSiblingStatusLost
  exact Keeps.done (Keeps.when (.refl _) (fun _ => (Keeps.trans (State.putB_keeps _ _ _ _) (State.raise_keeps _ _ _ _
      _))))
theorem State.sibTick_keeps (s : State) : Keeps s (State.sibTick s) := by
  unfold State.sibTick
  exact Keeps.ite (State.updSeq_keeps _ _) (Keeps.ite (Keeps.trans (Keeps.trans (Keeps.trans (State.updSeq_keeps _ _)
      (State.putB_keeps _ _ _ _)) (State.updSeq_keeps _ _)) (State.raise_keeps _ _ _ _ _)) (Keeps.trans (Keeps.trans
      (State.updSeq_keeps _ _) (State.putB_keeps _ _ _ _)) (State.updSeq_keeps _ _)))
theorem State.fnSample_keeps (s : State) (level : Bool) : Keeps s (State.fnSample s level) := by
  unfold State.fnSample
  exact Keeps.trans (State.putB_keeps _ _ _ _) (State.updSeq_keeps _ _)
theorem State.budgets_keeps (s : State) : Keeps s (State.budgets s) := by
  unfold State.budgets
  exact State.updSeq_keeps _ _
theorem State.flagsSet_keeps (s : State) (w : Word) : Keeps s (State.flagsSet s w) := by
  unfold State.flagsSet
  exact State.wr_keeps _ _ _
theorem State.flagsClear_keeps (s : State) (w : Word) : Keeps s (State.flagsClear s w) := by
  unfold State.flagsClear
  exact State.wr_keeps _ _ _
theorem execSeqFlagSet_keeps (w : Word) (s : State) : OutKeeps s (execSeqFlagSet w s) := by
  unfold execSeqFlagSet
  exact Keeps.done (Keeps.when (.refl _) (fun _ => (State.flagsSet_keeps _ _)))
theorem execSeqFlagClr_keeps (w : Word) (s : State) : OutKeeps s (execSeqFlagClr w s) := by
  unfold execSeqFlagClr
  exact Keeps.done (Keeps.when (.refl _) (fun _ => (State.flagsClear_keeps _ _)))
theorem State.storeIgnored_keeps (s : State) : Keeps s (State.storeIgnored s) := by
  unfold State.storeIgnored
  exact Keeps.trans (State.putB_keeps _ _ _ _) (State.raise_keeps _ _ _ _ _)
theorem State.storeWrite_keeps (s : State) (i : Fin 6144) (w : Word) : Keeps s (State.storeWrite s i w) := by
  unfold State.storeWrite
  exact Keeps.ite (State.wr_keeps _ _ _) (State.storeIgnored_keeps _)
theorem State.labelWrite_keeps (s : State) (i : Fin 64) (v : Word) : Keeps s (State.labelWrite s i v) := by
  unfold State.labelWrite
  exact Keeps.ite (State.wr_keeps _ _ _) (State.storeIgnored_keeps _)

end Sys2Proof.Machine
end

