-- ==== Sys2Proof/Laws/KeepsEvents.lean ====
section
/-! SUPPORT. What is kept by the thermal manager, the power domains, the clock, the transients, the fault path and the feeds: one lemma per operation
and per meaning, in the order in which the model declares them. -/
namespace Sys2Proof.Machine
open Sys2Proof
-- the proofs of this file are elaborated one after another, not each in a thread of its own
set_option Elab.async false

/-! ### Thermal -/

theorem State.ntcInput_keeps (s : State) (k : Nat) : Keeps s (State.ntcInput s k) := by
  unfold State.ntcInput
  exact Keeps.ite (Keeps.ite (Keeps.set_th (Keeps.ite (.refl _) (State.wr_keeps _ _ _))) (Keeps.ite (.refl _)
      (State.wr_keeps _ _ _))) (Keeps.ite (Keeps.ite (.refl _) (State.wr_keeps _ _ _)) (Keeps.ite (Keeps.ite
      (Keeps.ite (.refl _) (State.wr_keeps _ _ _)) (Keeps.trans (Keeps.trans (Keeps.set_th (Keeps.ite (.refl _)
      (State.wr_keeps _ _ _))) (State.putB_keeps _ _ _ _)) (State.raise_keeps _ _ _ _ _))) (by
        split
        · exact Keeps.ite (Keeps.set_th (Keeps.ite (.refl _) (State.wr_keeps _ _ _))) (Keeps.ite (.refl _)
              (State.wr_keeps _ _ _))
        · exact Keeps.ite (Keeps.set_th (Keeps.ite (State.free_keeps _) (Keeps.trans (State.free_keeps _)
              (State.wr_keeps _ _ _)))) (Keeps.ite (State.free_keeps _) (Keeps.trans (State.free_keeps _)
              (State.wr_keeps _ _ _))))))
theorem State.ntcTick_keeps (s : State) : Keeps s (State.ntcTick s) := by
  unfold State.ntcTick
  exact Keeps.foldl (.refl _) (fun _ _ => (State.ntcInput_keeps _ _))
theorem State.updTh_keeps (s : State) (f : ThSt → ThSt) : Keeps s (State.updTh s f) := by
  unfold State.updTh
  exact Keeps.set_th (.refl _)
theorem State.powerTick_keeps (s : State) : Keeps s (State.powerTick s) := by
  unfold State.powerTick
  exact State.updTh_keeps _ _
theorem State.nodesStart_keeps (s : State) : Keeps s (State.nodesStart s) := by
  unfold State.nodesStart
  exact State.updTh_keeps _ _
theorem State.nodesStop_keeps (s : State) : Keeps s (State.nodesStop s) := by
  unfold State.nodesStop
  exact State.updTh_keeps _ _
theorem State.wrNew_keeps (s : State) (a : Nat) (w : Word) : Keeps s (State.wrNew s a w) := by
  unfold State.wrNew
  exact Keeps.ite (.refl _) (State.wr_keeps _ _ _)
theorem State.publishNode_keeps (s : State) (i : Fin 40) : Keeps s (State.publishNode s i) := by
  unfold State.publishNode
  exact Keeps.ite (Keeps.trans (State.wrNew_keeps _ _ _) (State.wrNew_keeps _ _ _)) (Keeps.trans (State.wrNew_keeps _
      _ _) (State.wrNew_keeps _ _ _))
theorem State.levelShow_keeps (s : State) : Keeps s (State.levelShow s) := by
  unfold State.levelShow
  exact Keeps.ite (State.wrNew_keeps _ _ _) (Keeps.trans (State.wrNew_keeps _ _ _) (State.raise_keeps _ _ _ _ _))
theorem State.levelStandby_keeps (s : State) : Keeps s (State.levelStandby s) := by
  unfold State.levelStandby
  exact .trans (.trans (State.updTh_keeps _ _) (State.levelShow_keeps _)) (State.latchChange_keeps _ _)
theorem State.thermalTick_keeps (s : State) : Keeps s (State.thermalTick s) := by
  unfold State.thermalTick
  exact Keeps.trans (Keeps.trans (Keeps.trans (Keeps.foldl (Keeps.ite (Keeps.ite (.refl _) (State.nodesStart_keeps _))
      (State.nodesStop_keeps _)) (fun _ _ => (State.publishNode_keeps _ _))) (State.wrNew_keeps _ _ _))
      (State.wrNew_keeps _ _ _)) (State.levelShow_keeps _)
theorem State.integrate_keeps (s : State) : Keeps s (State.integrate s) := by
  unfold State.integrate
  exact State.updTh_keeps _ _
theorem State.packagePower_keeps (s : State) : Keeps s (State.packagePower s) := by
  unfold State.packagePower
  exact State.updTh_keeps _ _
theorem State.shiftBy_keeps (s : State) (d : Int) : Keeps s (State.shiftBy s d) := by
  unfold State.shiftBy
  exact State.updTh_keeps _ _
theorem State.crossCheck_keeps (s : State) : Keeps s (State.crossCheck s) := by
  unfold State.crossCheck
  exact Keeps.ite (State.updTh_keeps _ _) (by
        split
        · exact State.updTh_keeps _ _
        · exact Keeps.ite (Keeps.trans (Keeps.trans (Keeps.trans (Keeps.trans (State.updTh_keeps _ _)
              (State.shiftBy_keeps _ _)) (State.putB_keeps _ _ _ _)) (State.putB_keeps _ _ _ _)) (State.raise_keeps _
              _ _ _ _)) (Keeps.trans (Keeps.trans (Keeps.trans (State.updTh_keeps _ _) (State.shiftBy_keeps _ _))
              (State.putB_keeps _ _ _ _)) (State.raise_keeps _ _ _ _ _)))
theorem State.rises_keeps (s : State) : Keeps s (State.rises s) := by unfold State.rises; exact State.updTh_keeps _ _
theorem State.nodeEvents_keeps (s : State) (i : Fin 40) : Keeps s (State.nodeEvents s i) := by
  unfold State.nodeEvents
  exact Keeps.ite (.refl _) (Keeps.trans (Keeps.ite (Keeps.trans (Keeps.ite (Keeps.trans (Keeps.ite (Keeps.trans
      (Keeps.ite (Keeps.trans (State.putB_keeps _ _ _ _) (State.raise_keeps _ _ _ _ _)) (Keeps.ite (State.putB_keeps _
      _ _ _) (.refl _))) (State.raise_keeps _ _ _ _ _)) (Keeps.ite (Keeps.trans (State.putB_keeps _ _ _ _)
      (State.raise_keeps _ _ _ _ _)) (Keeps.ite (State.putB_keeps _ _ _ _) (.refl _)))) (State.raise_keeps _ _ _ _ _))
      (Keeps.ite (Keeps.trans (Keeps.ite (Keeps.trans (State.putB_keeps _ _ _ _) (State.raise_keeps _ _ _ _ _))
      (Keeps.ite (State.putB_keeps _ _ _ _) (.refl _))) (State.raise_keeps _ _ _ _ _)) (Keeps.ite (Keeps.trans
      (State.putB_keeps _ _ _ _) (State.raise_keeps _ _ _ _ _)) (Keeps.ite (State.putB_keeps _ _ _ _) (.refl _)))))
      (State.raise_keeps _ _ _ _ _)) (Keeps.ite (Keeps.trans (Keeps.ite (Keeps.trans (Keeps.ite (Keeps.trans
      (State.putB_keeps _ _ _ _) (State.raise_keeps _ _ _ _ _)) (Keeps.ite (State.putB_keeps _ _ _ _) (.refl _)))
      (State.raise_keeps _ _ _ _ _)) (Keeps.ite (Keeps.trans (State.putB_keeps _ _ _ _) (State.raise_keeps _ _ _ _ _))
      (Keeps.ite (State.putB_keeps _ _ _ _) (.refl _)))) (State.raise_keeps _ _ _ _ _)) (Keeps.ite (Keeps.trans
      (Keeps.ite (Keeps.trans (State.putB_keeps _ _ _ _) (State.raise_keeps _ _ _ _ _)) (Keeps.ite (State.putB_keeps _
      _ _ _) (.refl _))) (State.raise_keeps _ _ _ _ _)) (Keeps.ite (Keeps.trans (State.putB_keeps _ _ _ _)
      (State.raise_keeps _ _ _ _ _)) (Keeps.ite (State.putB_keeps _ _ _ _) (.refl _)))))) (State.updTh_keeps _ _))
theorem State.throttle_keeps (s : State) : Keeps s (State.throttle s) := by
  unfold State.throttle
  exact State.updTh_keeps _ _
theorem execThermalStep_keeps (s : State) : OutKeeps s (execThermalStep s) := by
  unfold execThermalStep
  exact Keeps.done (Keeps.when (.refl _) (fun _ => (Keeps.trans (Keeps.foldl (Keeps.trans (Keeps.trans (Keeps.trans
      (Keeps.trans (State.updTh_keeps _ _) (State.integrate_keeps _)) (State.packagePower_keeps _))
      (State.crossCheck_keeps _)) (State.rises_keeps _)) (fun _ _ => (State.nodeEvents_keeps _ _)))
      (State.throttle_keeps _))))
theorem execThrottleFall_keeps (s : State) : OutKeeps s (execThrottleFall s) := by
  unfold execThrottleFall
  exact Keeps.done (Keeps.when (.refl _) (fun _ => (State.updTh_keeps _ _)))
theorem State.thermalWrite_keeps (s : State) (a : Nat) (w : Word) : Keeps s (State.thermalWrite s a w) := by
  unfold State.thermalWrite
  exact Keeps.ite (by
        split
        · exact State.raise_keeps _ _ _ _ _
        · exact State.wr_keeps _ _ _) (Keeps.ite (Keeps.ite (.refl _) (State.wr_keeps _ _ _)) (State.wr_keeps _ _ _))

/-! ### Power -/

theorem State.pwrReset_keeps (s : State) : Keeps s s.pwrReset :=
  ⟨fun w => ⟨⟨canonD_filter resetVal s.regs _ w.1.1, rfl⟩, w.2.1, rfl, rfl⟩,
   fun _ n => by simpa [State.pwrReset] using Measured.start, rfl⟩
theorem State.allLost_keeps (s : State) : Keeps s s.allLost :=
  ⟨fun w => ⟨⟨rfl, rfl⟩, w.2.1, rfl, rfl⟩, fun _ n => by simpa [State.allLost] using Measured.start, rfl⟩
theorem execVbakRise_keeps (s : State) : OutKeeps s (execVbakRise s) := by
  unfold execVbakRise
  exact Keeps.done (Keeps.when (.refl _) (fun _ => (Keeps.set_power (State.bakReset_keeps _))))
theorem execVbakFall_keeps (s : State) : OutKeeps s (execVbakFall s) := by
  unfold execVbakFall
  exact Keeps.done (Keeps.when (.refl _) (fun _ => (State.allLost_keeps _)))
theorem execVsysFall_keeps (vbak : BitVec 12) (s : State) : OutKeeps s (execVsysFall vbak s) := by
  unfold execVsysFall
  exact Keeps.done (Keeps.when (.refl _) (fun _ => (Keeps.ite (State.allLost_keeps _) (Keeps.set_power (Keeps.trans
      (Keeps.ite (Keeps.trans (Keeps.trans (State.switchOver_keeps _) (State.putB_keeps _ _ _ _)) (State.updBak_keeps
      _ _)) (State.switchOver_keeps _)) (State.pwrReset_keeps _))))))
theorem State.nvFlush_keeps (s : State) : Keeps s (State.nvFlush s) := by
  unfold State.nvFlush
  exact Keeps.trans (Keeps.foldl (.refl _) (fun _ _ => (State.flushWords_keeps _ _))) (State.updNv_keeps _ _)
theorem State.portsStandby_keeps (s : State) : Keeps s (State.portsStandby s) := by
  unfold State.portsStandby
  exact Keeps.foldl (State.oweTags_keeps _) (fun _ _ => (State.updPort_keeps _ _ _))
theorem State.pinsStandby_keeps (s : State) : Keeps s (State.pinsStandby s) := by
  unfold State.pinsStandby
  exact Keeps.foldl (Keeps.trans (Keeps.trans (Keeps.trans (Keeps.trans (Keeps.trans (State.putB_keeps _ _ _ _)
      (State.putB_keeps _ _ _ _)) (State.put_keeps _ _ _ _)) (State.putB_keeps _ _ _ _)) (State.putB_keeps _ _ _ _))
      (State.updWd_keeps _ _)) (fun _ _ => (State.updLoop_keeps _ _ _))
theorem State.hibernate_keeps (s : State) : Keeps s (State.hibernate s) := by
  unfold State.hibernate
  exact Keeps.trans (Keeps.trans (State.putB_keeps _ _ _ _) (State.updEst_keeps _ _)) (State.updGg_keeps _ _)
theorem State.enterStandby_keeps (s : State) : Keeps s (State.enterStandby s) := by
  unfold State.enterStandby
  exact Keeps.set_power_fw (Keeps.trans (Keeps.trans (Keeps.trans (Keeps.trans (Keeps.trans (Keeps.trans (Keeps.trans
      (Keeps.trans (Keeps.trans (State.gaugeWrite_keeps _ _) (State.nvFlush_keeps _)) (State.unready_keeps _))
      (State.portsStandby_keeps _)) (State.adcStandby_keeps _)) (State.putB_keeps _ _ _ _)) (State.pinsStandby_keeps
      _)) (State.hibernate_keeps _)) (State.levelStandby_keeps _)) (State.updWd_keeps _ _))
theorem State.standbyReq_keeps (s : State) : Keeps s (State.standbyReq s) := by
  unfold State.standbyReq
  exact Keeps.ite (State.enterStandby_keeps _) (State.putB_keeps _ _ _ _)
theorem execStandbyReq_keeps (s : State) : OutKeeps s (execStandbyReq s) := by
  unfold execStandbyReq
  exact Keeps.done (Keeps.when (.refl _) (fun _ => (State.standbyReq_keeps _)))
theorem State.wake_keeps (s : State) (src : Nat) : Keeps s (State.wake s src) := by
  unfold State.wake
  exact Keeps.ite (Keeps.trans (Keeps.trans (Keeps.ite (Keeps.trans (Keeps.set_power (Keeps.trans (Keeps.trans
      (Keeps.trans (State.putB_keeps _ _ _ _) (State.putB_keeps _ _ _ _)) (State.contextsReset_keeps _))
      (State.updTh_keeps _ _))) (State.updAdc_keeps _ _)) (Keeps.set_power (Keeps.trans (Keeps.trans (Keeps.trans
      (State.putB_keeps _ _ _ _) (State.putB_keeps _ _ _ _)) (State.contextsReset_keeps _)) (State.updTh_keeps _ _))))
      (State.raiseHeld_keeps _)) (State.wdStart_keeps _)) (Keeps.trans (Keeps.ite (Keeps.trans (Keeps.set_power
      (Keeps.trans (Keeps.trans (Keeps.trans (State.putB_keeps _ _ _ _) (State.putB_keeps _ _ _ _))
      (State.contextsReset_keeps _)) (State.updTh_keeps _ _))) (State.updAdc_keeps _ _)) (Keeps.set_power (Keeps.trans
      (Keeps.trans (Keeps.trans (State.putB_keeps _ _ _ _) (State.putB_keeps _ _ _ _)) (State.contextsReset_keeps _))
      (State.updTh_keeps _ _)))) (State.raiseHeld_keeps _))
theorem State.wakeRequest_keeps (s : State) (src : Nat) : Keeps s (State.wakeRequest s src) := by
  unfold State.wakeRequest
  exact Keeps.ite (State.wake_keeps _ _) (.refl _)
theorem execWakeRequest_keeps (src : Fin 7) (s : State) : OutKeeps s (execWakeRequest src s) := by
  unfold execWakeRequest
  exact Keeps.done (State.wakeRequest_keeps _ _)
theorem execAddressMatchWake_keeps (p : Port) (runs : Bool) (s : State) : OutKeeps s (execAddressMatchWake p runs s)
    := by
  unfold execAddressMatchWake
  exact Keeps.done (Keeps.when (.refl _) (fun _ => (Keeps.ite (State.wake_keeps _ _) (Keeps.ite (Keeps.trans
      (State.putB_keeps _ _ _ _) (State.raiseLater_keeps _ _ _ _)) (.refl _)))))
theorem execGaugeWake_keeps (s : State) : OutKeeps s (execGaugeWake s) := by
  unfold execGaugeWake
  exact Keeps.done (Keeps.when (.refl _) (fun _ => (Keeps.trans (State.raiseLater_keeps _ _ _ _) (State.wake_keeps _
      _))))
theorem execPeriodicWake_keeps (s : State) : OutKeeps s (execPeriodicWake s) := by
  unfold execPeriodicWake
  exact Keeps.done (Keeps.when (.refl _) (fun _ => (by
        dsimp only
        split
        · exact Keeps.trans (State.updBak_keeps _ _) (State.raise_keeps _ _ _ _ _)
        · exact Keeps.trans (Keeps.trans (State.updBak_keeps _ _) (State.raiseLater_keeps _ _ _ _))
              (State.wakeRequest_keeps _ _)
        · exact State.updBak_keeps _ _)))

/-! ### Clock -/

theorem State.updClk_keeps (s : State) (f : ClkSt → ClkSt) : Keeps s (State.updClk s f) := by
  unfold State.updClk
  exact Keeps.set_clk (.refl _)
theorem State.setClk_keeps (s : State) (f : Fld) (b : Bool) : Keeps s (State.setClk s f b) := by
  unfold State.setClk
  exact State.putB_keeps _ _ _ _
theorem State.toSource_keeps (s : State) (x : ClkSrc) : Keeps s (State.toSource s x) := by
  unfold State.toSource
  exact Keeps.trans (State.updClk_keeps _ _) (State.raise_keeps _ _ _ _ _)
theorem execRefInLoss_keeps (s : State) : OutKeeps s (execRefInLoss s) := by
  unfold execRefInLoss
  exact Keeps.done (Keeps.when (.refl _) (fun _ => (Keeps.ite (Keeps.trans (Keeps.trans (Keeps.trans
      (State.setClk_keeps _ _ _) (State.setClk_keeps _ _ _)) (State.setClk_keeps _ _ _)) (State.raise_keeps _ _ _ _
      _)) (Keeps.trans (State.setClk_keeps _ _ _) (State.setClk_keeps _ _ _)))))
theorem execHoldoverExpiry_keeps (s : State) : OutKeeps s (execHoldoverExpiry s) := by
  unfold execHoldoverExpiry
  exact Keeps.done (Keeps.when (.refl _) (fun _ => (Keeps.trans (State.setClk_keeps _ _ _) (State.toSource_keeps _
      _))))
theorem execRefReturn_keeps (s : State) : OutKeeps s (execRefReturn s) := by
  unfold execRefReturn
  exact Keeps.done (Keeps.when (.refl _) (fun _ => (Keeps.trans (Keeps.trans (Keeps.trans (State.setClk_keeps _ _ _)
      (State.setClk_keeps _ _ _)) (State.setClk_keeps _ _ _)) (State.toSource_keeps _ _))))
theorem execPllLock_keeps (s : State) : OutKeeps s (execPllLock s) := by
  unfold execPllLock
  exact Keeps.done (Keeps.when (.refl _) (fun _ => (Keeps.trans (State.setClk_keeps _ _ _) (State.setClk_keeps _ _
      _))))
theorem execDiscLock_keeps (s : State) : OutKeeps s (execDiscLock s) := by
  unfold execDiscLock
  exact Keeps.done (Keeps.when (.refl _) (fun _ => (State.setClk_keeps _ _ _)))
theorem execCrystalFault_keeps (s : State) : OutKeeps s (execCrystalFault s) := by
  unfold execCrystalFault
  exact Keeps.done (Keeps.when (.refl _) (fun _ => (Keeps.trans (Keeps.trans (Keeps.ite (Keeps.trans (Keeps.trans
      (Keeps.trans (State.setClk_keeps _ _ _) (State.setClk_keeps _ _ _)) (State.raise_keeps _ _ _ _ _))
      (State.toSource_keeps _ _)) (Keeps.trans (Keeps.trans (State.setClk_keeps _ _ _) (State.setClk_keeps _ _ _))
      (State.raise_keeps _ _ _ _ _))) (State.updOpt_keeps _ _)) (State.putB_keeps _ _ _ _))))
theorem execCrystalReturn_keeps (s : State) : OutKeeps s (execCrystalReturn s) := by
  unfold execCrystalReturn
  exact Keeps.done (Keeps.when (.refl _) (fun _ => (Keeps.ite (Keeps.trans (Keeps.trans (Keeps.trans (Keeps.trans
      (State.updBak_keeps _ _) (State.putB_keeps _ _ _ _)) (State.putB_keeps _ _ _ _)) (State.setClk_keeps _ _ _))
      (State.toSource_keeps _ _)) (Keeps.trans (Keeps.trans (Keeps.trans (State.updBak_keeps _ _) (State.putB_keeps _
      _ _ _)) (State.putB_keeps _ _ _ _)) (State.setClk_keeps _ _ _)))))
theorem State.convAgain_keeps (s : State) (q : Fin 2) (e : Option (Fin 64)) : Keeps s (State.convAgain s q e) := by
  unfold State.convAgain
  split
  · exact State.updAdcSeq_keeps _ _ _
  · exact .refl _
theorem State.loseBoth_keeps (s : State) : Keeps s (State.loseBoth s) := by
  unfold State.loseBoth
  exact Keeps.set_clk_loops_seq_wd (Keeps.foldl (Keeps.trans (Keeps.trans (Keeps.trans (Keeps.trans (Keeps.trans
      (Keeps.trans (State.wr_keeps _ _ _) (State.wr_keeps _ _ _)) (State.wr_keeps _ _ _)) (State.put_keeps _ _ _ _))
      (State.putB_keeps _ _ _ _)) (State.raise_keeps _ _ _ _ _)) (State.put_keeps _ _ _ _)) (fun _ _ =>
      (State.regSwitchOff_keeps _ _ _)))
theorem execActiveOscillatorLost_keeps (stopped : Bool) (counts : Vector (BitVec 10) 4) (e0 : Option (Fin 64)) (e1 :
    Option (Fin 64)) (s : State) : OutKeeps s (execActiveOscillatorLost stopped counts e0 e1 s) := by
  unfold execActiveOscillatorLost
  exact Keeps.done (Keeps.when (.refl _) (fun _ => (Keeps.ite (State.loseBoth_keeps _) (Keeps.trans (Keeps.ite
      (Keeps.trans (Keeps.trans (Keeps.trans (Keeps.trans (State.setClk_keeps _ _ _) (State.setClk_keeps _ _ _))
      (State.convAgain_keeps _ _ _)) (State.convAgain_keeps _ _ _)) (State.updClk_keeps _ _)) (Keeps.trans
      (State.setClk_keeps _ _ _) (State.setClk_keeps _ _ _))) (State.raise_keeps _ _ _ _ _)))))
theorem execSpareOscillatorLost_keeps (stopped : Bool) (counts : Vector (BitVec 10) 4) (s : State) : OutKeeps s
    (execSpareOscillatorLost stopped counts s) := by
  unfold execSpareOscillatorLost
  exact Keeps.done (Keeps.when (.refl _) (fun _ => (Keeps.trans (State.setClk_keeps _ _ _) (State.raise_keeps _ _ _ _
      _))))
theorem State.regResume_keeps (s : State) (r : Fin 14) (above : Bool) (vout : Nat) : Keeps s (State.regResume s r
    above vout) := by
  unfold State.regResume
  exact Keeps.ite (.refl _) (Keeps.ite (Keeps.ite (Keeps.trans (State.updReg_keeps _ _ _) (State.putB_keeps _ _ _ _))
      (.refl _)) (Keeps.trans (Keeps.trans (State.uvAssert_keeps _ _) (State.updReg_keeps _ _ _)) (State.putB_keeps _
      _ _ _)))
theorem execMainResume_keeps (above : BitVec 14) (vout : Vector (BitVec 16) 14) (s : State) : OutKeeps s
    (execMainResume above vout s) := by
  unfold execMainResume
  exact Keeps.done (Keeps.when (.refl _) (fun _ => (Keeps.trans (Keeps.foldl (Keeps.trans (State.updClk_keeps _ _)
      (State.raiseHeld_keeps _)) (fun _ _ => (State.regResume_keeps _ _ _ _))) (State.reacquire_keeps _))))
theorem execBothOscillatorsLost_keeps (s : State) : OutKeeps s (execBothOscillatorsLost s) := by
  unfold execBothOscillatorsLost
  exact Keeps.done (Keeps.when (.refl _) (fun _ => (State.loseBoth_keeps _)))
theorem execFrameMark_keeps (leader : BitVec 32) (ofs : BitVec 16) (s : State) : OutKeeps s (execFrameMark leader ofs
    s) := by
  unfold execFrameMark
  exact Keeps.done (Keeps.when (.refl _) (fun _ => (Keeps.trans (Keeps.trans (State.put_keeps _ _ _ _) (State.wr_keeps
      _ _ _)) (State.updClk_keeps _ _))))
theorem execFrameMarkAtLeader_keeps (s : State) : OutKeeps s (execFrameMarkAtLeader s) := by
  unfold execFrameMarkAtLeader
  exact Keeps.done (Keeps.when (.refl _) (fun _ => (State.raise_keeps _ _ _ _ _)))
theorem execFrmAlignedSet_keeps (s : State) : OutKeeps s (execFrmAlignedSet s) := by
  unfold execFrmAlignedSet
  exact Keeps.done (Keeps.when (.refl _) (fun _ => (State.setClk_keeps _ _ _)))
theorem execFrameMarksMissing_keeps (s : State) : OutKeeps s (execFrameMarksMissing s) := by
  unfold execFrameMarksMissing
  exact Keeps.done (Keeps.when (.refl _) (fun _ => (Keeps.trans (Keeps.trans (State.updClk_keeps _ _)
      (State.setClk_keeps _ _ _)) (State.raise_keeps _ _ _ _ _))))
theorem State.alignTick_keeps (s : State) : Keeps s (State.alignTick s) := by
  unfold State.alignTick
  exact State.updClk_keeps _ _
theorem execLinkUp_keeps (good : BitVec 16) (s : State) : OutKeeps s (execLinkUp good s) := by
  unfold execLinkUp
  exact Keeps.done (Keeps.when (.refl _) (fun _ => (Keeps.trans (State.putB_keeps _ _ _ _) (State.updClk_keeps _ _))))
theorem execEchoReceipt_keeps (round_ : BitVec 16) (delay : BitVec 16) (s : State) : OutKeeps s (execEchoReceipt
    round_ delay s) := by
  unfold execEchoReceipt
  exact Keeps.done (Keeps.when (.refl _) (fun _ => (State.put_keeps _ _ _ _)))

/-! ### Transients -/

theorem State.attribute_keeps (s : State) (n : Fin 16) : Keeps s (State.attribute s n) := by
  unfold State.attribute
  exact Keeps.ite (.refl _) (Keeps.trans (Keeps.trans (State.putB_keeps _ _ _ _) (State.raise_keeps _ _ _ _ _))
      (State.fencePhase_keeps _ _))
theorem State.attributeAll_keeps (s : State) (mask : BitVec 16) (x2 : List (Fin 16)) : Keeps s (State.attributeAll s
    mask x2) := by
  unfold State.attributeAll
  split
  · exact .refl _
  · exact Keeps.trans (Keeps.ite (State.attribute_keeps _ _) (.refl _)) (State.attributeAll_keeps _ _ _)
theorem State.unattributed_keeps (s : State) (x1 : List (Fin 4)) : Keeps s (State.unattributed s x1) := by
  unfold State.unattributed
  split
  · exact .refl _
  · exact Keeps.trans (Keeps.ite (State.raise_keeps _ _ _ _ _) (.refl _)) (State.unattributed_keeps _ _)
theorem execStgFltNAsserted_keeps (full : BitVec 16) (s : State) : OutKeeps s (execStgFltNAsserted full s) := by
  unfold execStgFltNAsserted
  exact Keeps.done (Keeps.when (.refl _) (fun _ => (Keeps.ite (Keeps.trans (State.putB_keeps _ _ _ _)
      (State.attributeAll_keeps _ _ _)) (Keeps.trans (Keeps.trans (State.putB_keeps _ _ _ _) (State.putB_keeps _ _ _
      _)) (State.unattributed_keeps _ _)))))
theorem State.sumTaken_keeps (s : State) (n : Fin 16) (m : Fin 4) : Keeps s (State.sumTaken s n m) := by
  unfold State.sumTaken
  exact Keeps.ite (State.updLoop_keeps _ _ _) (.refl _)
theorem execImonSample_keeps (n : Fin 16) (c : BitVec 10) (s : State) : OutKeeps s (execImonSample n c s) := by
  unfold execImonSample
  exact Keeps.done (Keeps.when (.refl _) (fun _ => (Keeps.trans (Keeps.ite (Keeps.trans (Keeps.ite (Keeps.ite
      (Keeps.trans (Keeps.ite (Keeps.ite (Keeps.trans (Keeps.trans (Keeps.ite (Keeps.set_freeCtr (.refl _)) (.refl _))
      (State.updPhase_keeps _ _ _)) (State.putB_keeps _ _ _ _)) (Keeps.trans (Keeps.trans (Keeps.trans (Keeps.ite
      (Keeps.set_freeCtr (.refl _)) (.refl _)) (State.updPhase_keeps _ _ _)) (State.putB_keeps _ _ _ _))
      (State.raise_keeps _ _ _ _ _))) (Keeps.trans (Keeps.ite (Keeps.set_freeCtr (.refl _)) (.refl _))
      (State.updPhase_keeps _ _ _))) (State.putB_keeps _ _ _ _)) (Keeps.trans (Keeps.trans (Keeps.ite (Keeps.ite
      (Keeps.trans (Keeps.trans (Keeps.ite (Keeps.set_freeCtr (.refl _)) (.refl _)) (State.updPhase_keeps _ _ _))
      (State.putB_keeps _ _ _ _)) (Keeps.trans (Keeps.trans (Keeps.trans (Keeps.ite (Keeps.set_freeCtr (.refl _))
      (.refl _)) (State.updPhase_keeps _ _ _)) (State.putB_keeps _ _ _ _)) (State.raise_keeps _ _ _ _ _)))
      (Keeps.trans (Keeps.ite (Keeps.set_freeCtr (.refl _)) (.refl _)) (State.updPhase_keeps _ _ _)))
      (State.putB_keeps _ _ _ _)) (State.raise_keeps _ _ _ _ _))) (Keeps.ite (Keeps.ite (Keeps.trans (Keeps.trans
      (Keeps.ite (Keeps.set_freeCtr (.refl _)) (.refl _)) (State.updPhase_keeps _ _ _)) (State.putB_keeps _ _ _ _))
      (Keeps.trans (Keeps.trans (Keeps.trans (Keeps.ite (Keeps.set_freeCtr (.refl _)) (.refl _)) (State.updPhase_keeps
      _ _ _)) (State.putB_keeps _ _ _ _)) (State.raise_keeps _ _ _ _ _))) (Keeps.trans (Keeps.ite (Keeps.set_freeCtr
      (.refl _)) (.refl _)) (State.updPhase_keeps _ _ _)))) (State.attribute_keeps _ _)) (Keeps.ite (Keeps.ite
      (Keeps.trans (Keeps.ite (Keeps.ite (Keeps.trans (Keeps.trans (Keeps.ite (Keeps.set_freeCtr (.refl _)) (.refl _))
      (State.updPhase_keeps _ _ _)) (State.putB_keeps _ _ _ _)) (Keeps.trans (Keeps.trans (Keeps.trans (Keeps.ite
      (Keeps.set_freeCtr (.refl _)) (.refl _)) (State.updPhase_keeps _ _ _)) (State.putB_keeps _ _ _ _))
      (State.raise_keeps _ _ _ _ _))) (Keeps.trans (Keeps.ite (Keeps.set_freeCtr (.refl _)) (.refl _))
      (State.updPhase_keeps _ _ _))) (State.putB_keeps _ _ _ _)) (Keeps.trans (Keeps.trans (Keeps.ite (Keeps.ite
      (Keeps.trans (Keeps.trans (Keeps.ite (Keeps.set_freeCtr (.refl _)) (.refl _)) (State.updPhase_keeps _ _ _))
      (State.putB_keeps _ _ _ _)) (Keeps.trans (Keeps.trans (Keeps.trans (Keeps.ite (Keeps.set_freeCtr (.refl _))
      (.refl _)) (State.updPhase_keeps _ _ _)) (State.putB_keeps _ _ _ _)) (State.raise_keeps _ _ _ _ _)))
      (Keeps.trans (Keeps.ite (Keeps.set_freeCtr (.refl _)) (.refl _)) (State.updPhase_keeps _ _ _)))
      (State.putB_keeps _ _ _ _)) (State.raise_keeps _ _ _ _ _))) (Keeps.ite (Keeps.ite (Keeps.trans (Keeps.trans
      (Keeps.ite (Keeps.set_freeCtr (.refl _)) (.refl _)) (State.updPhase_keeps _ _ _)) (State.putB_keeps _ _ _ _))
      (Keeps.trans (Keeps.trans (Keeps.trans (Keeps.ite (Keeps.set_freeCtr (.refl _)) (.refl _)) (State.updPhase_keeps
      _ _ _)) (State.putB_keeps _ _ _ _)) (State.raise_keeps _ _ _ _ _))) (Keeps.trans (Keeps.ite (Keeps.set_freeCtr
      (.refl _)) (.refl _)) (State.updPhase_keeps _ _ _))))) (State.sumTaken_keeps _ _ _))))
theorem execPersistentPhaseOvercurrent_keeps (n : Fin 16) (s : State) : OutKeeps s (execPersistentPhaseOvercurrent n
    s) := by
  unfold execPersistentPhaseOvercurrent
  exact Keeps.done (Keeps.when (.refl _) (fun _ => (State.fencePhase_keeps _ _)))
theorem execLoopOvercurrent_keeps (m : Fin 4) (s : State) : OutKeeps s (execLoopOvercurrent m s) := by
  unfold execLoopOvercurrent
  exact Keeps.done (Keeps.when (.refl _) (fun _ => (Keeps.trans (State.raise_keeps _ _ _ _ _) (State.loopStop_keeps _
      _))))
theorem execLoopOvervoltage_keeps (m : Fin 4) (s : State) : OutKeeps s (execLoopOvervoltage m s) := by
  unfold execLoopOvervoltage
  exact Keeps.done (Keeps.when (.refl _) (fun _ => (Keeps.trans (Keeps.trans (State.raise_keeps _ _ _ _ _)
      (State.loopStop_keeps _ _)) (State.updLoop_keeps _ _ _))))
theorem execOvervoltageHoldEnd_keeps (m : Fin 4) (s : State) : OutKeeps s (execOvervoltageHoldEnd m s) := by
  unfold execOvervoltageHoldEnd
  exact Keeps.done (Keeps.when (.refl _) (fun _ => (State.updLoop_keeps _ _ _)))
theorem execLoopUndervoltage_keeps (m : Fin 4) (s : State) : OutKeeps s (execLoopUndervoltage m s) := by
  unfold execLoopUndervoltage
  exact Keeps.done (Keeps.when (.refl _) (fun _ => (Keeps.trans (Keeps.trans (State.raise_keeps _ _ _ _ _)
      (State.losePG_keeps _ _)) (State.updLoop_keeps _ _ _))))
theorem State.fire_keeps (s : State) (armShed : Bool) (x2 : List (Fin 16)) : Keeps s (State.fire s armShed x2) := by
  unfold State.fire
  split
  · exact .refl _
  · exact Keeps.trans (Keeps.ite (Keeps.trans (State.setPh_keeps _ _ _) (State.updPhase_keeps _ _ _)) (Keeps.ite
        (State.updPhase_keeps _ _ _) (.refl _))) (State.fire_keeps _ _ _)
theorem execUndershootTrip_keeps (m : Fin 4) (s : State) : OutKeeps s (execUndershootTrip m s) := by
  unfold execUndershootTrip
  exact Keeps.done (Keeps.when (.refl _) (fun _ => (Keeps.trans (Keeps.trans (Keeps.trans (Keeps.trans
      (State.putB_keeps _ _ _ _) (State.putB_keeps _ _ _ _)) (State.updLoop_keeps _ _ _)) (State.fire_keeps _ _ _))
      (State.reslot_keeps _ _))))
theorem State.fireOver_keeps (s : State) (x1 : List (Fin 16)) : Keeps s (State.fireOver s x1) := by
  unfold State.fireOver
  split
  · exact .refl _
  · exact Keeps.trans (State.updPhase_keeps _ _ _) (State.fireOver_keeps _ _)
theorem execFireEnd_keeps (m : Fin 4) (s : State) : OutKeeps s (execFireEnd m s) := by
  unfold execFireEnd
  exact Keeps.done (Keeps.when (.refl _) (fun _ => (Keeps.trans (Keeps.trans (State.updLoop_keeps _ _ _)
      (State.putB_keeps _ _ _ _)) (State.fireOver_keeps _ _))))
theorem execUndershootRearm_keeps (m : Fin 4) (above : BitVec 20) (since : BitVec 20) (s : State) : OutKeeps s
    (execUndershootRearm m above since s) := by
  unfold execUndershootRearm
  exact Keeps.done (Keeps.when (.refl _) (fun _ => (State.updLoop_keeps _ _ _)))
theorem State.unshed_keeps (s : State) (x1 : List (Fin 16)) : Keeps s (State.unshed s x1) := by
  unfold State.unshed
  split
  · exact .refl _
  · exact Keeps.trans (Keeps.ite (State.setPh_keeps _ _ _) (.refl _)) (State.unshed_keeps _ _)
theorem execShedPhasesJoin_keeps (m : Fin 4) (s : State) : OutKeeps s (execShedPhasesJoin m s) := by
  unfold execShedPhasesJoin
  exact Keeps.done (Keeps.atTick (.refl _) (fun _ => (Keeps.trans (Keeps.trans (Keeps.trans (State.updLoop_keeps _ _
      _) (State.unshed_keeps _ _)) (State.disturb_keeps _ _)) (State.reslot_keeps _ _))))
theorem execReshedHoldoffEnd_keeps (m : Fin 4) (s : State) : OutKeeps s (execReshedHoldoffEnd m s) := by
  unfold execReshedHoldoffEnd
  exact Keeps.done (Keeps.when (.refl _) (fun _ => (State.updLoop_keeps _ _ _)))
theorem execBrakeStart_keeps (m : Fin 4) (code : BitVec 9) (since : BitVec 20) (s : State) : OutKeeps s
    (execBrakeStart m code since s) := by
  unfold execBrakeStart
  exact Keeps.done (Keeps.when (.refl _) (fun _ => (Keeps.trans (Keeps.trans (State.putB_keeps _ _ _ _)
      (State.updLoop_keeps _ _ _)) (State.updEst_keeps _ _))))
theorem State.shedOn_keeps (s : State) (periods : Nat) (x2 : List (Fin 16)) : Keeps s (State.shedOn s periods x2) :=
    by
  unfold State.shedOn
  split
  · exact .refl _
  · exact Keeps.trans (Keeps.ite (State.updPhase_keeps _ _ _) (.refl _)) (State.shedOn_keeps _ _ _)
theorem State.brakeOver_keeps (s : State) (m : Fin 4) (periods : Nat) : Keeps s (State.brakeOver s m periods) := by
  unfold State.brakeOver
  exact Keeps.trans (Keeps.trans (State.putB_keeps _ _ _ _) (State.updLoop_keeps _ _ _)) (State.shedOn_keeps _ _ _)
theorem execBrakeEnd_keeps (m : Fin 4) (code : BitVec 9) (periods : Fin 64) (s : State) : OutKeeps s (execBrakeEnd m
    code periods s) := by
  unfold execBrakeEnd
  exact Keeps.done (Keeps.when (.refl _) (fun _ => (State.brakeOver_keeps _ _ _)))
theorem execBrakeTmax_keeps (m : Fin 4) (periods : Fin 64) (s : State) : OutKeeps s (execBrakeTmax m periods s) := by
  unfold execBrakeTmax
  exact Keeps.done (Keeps.when (.refl _) (fun _ => (Keeps.trans (State.brakeOver_keeps _ _ _) (State.raise_keeps _ _ _
      _ _))))
theorem execPhaseShed_keeps (n : Fin 16) (s : State) : OutKeeps s (execPhaseShed n s) := by
  unfold execPhaseShed
  exact Keeps.done (Keeps.atTick (.refl _) (fun _ => (Keeps.trans (Keeps.trans (Keeps.trans (Keeps.trans (Keeps.trans
      (State.setPh_keeps _ _ _) (State.updPhase_keeps _ _ _)) (State.raise_keeps _ _ _ _ _)) (State.disturb_keeps _
      _)) (State.updLoop_keeps _ _ _)) (State.reslot_keeps _ _))))
theorem State.imbHold_keeps (s : State) (m : Fin 4) (n : Fin 16) (x3 : List (Fin 16)) : Keeps s (State.imbHold s m n
    x3) := by
  unfold State.imbHold
  split
  · exact .refl _
  · exact Keeps.trans (Keeps.ite (State.updPhase_keeps _ _ _) (.refl _)) (State.imbHold_keeps _ _ _ _)
theorem execImbalance_keeps (n : Fin 16) (s : State) : OutKeeps s (execImbalance n s) := by
  unfold execImbalance
  exact Keeps.done (Keeps.atTick (.refl _) (fun _ => (Keeps.ite (Keeps.trans (Keeps.ite (.refl _) (Keeps.trans
      (Keeps.trans (State.putB_keeps _ _ _ _) (State.raise_keeps _ _ _ _ _)) (State.updPhase_keeps _ _ _)))
      (State.updPhase_keeps _ _ _)) (Keeps.ite (Keeps.ite (.refl _) (Keeps.trans (Keeps.trans (State.putB_keeps _ _ _
      _) (State.raise_keeps _ _ _ _ _)) (State.updPhase_keeps _ _ _))) (Keeps.trans (Keeps.trans (Keeps.trans
      (Keeps.ite (.refl _) (Keeps.trans (Keeps.trans (State.putB_keeps _ _ _ _) (State.raise_keeps _ _ _ _ _))
      (State.updPhase_keeps _ _ _))) (State.updLoop_keeps _ _ _)) (State.imbHold_keeps _ _ _ _))
      (State.fencePhase_keeps _ _))))))
theorem State.fenceWrite_keeps (s : State) (n : Fin 16) : Keeps s (State.fenceWrite s n) := by
  unfold State.fenceWrite
  exact Keeps.trans (State.putB_keeps _ _ _ _) (State.fencePhase_keeps _ _)
theorem execFence_keeps (n : Fin 16) (s : State) : OutKeeps s (execFence n s) := by
  unfold execFence
  exact Keeps.done (Keeps.when (.refl _) (fun _ => (State.fenceWrite_keeps _ _)))
theorem execSubstReq_keeps (n : Fin 16) (s : State) : OutKeeps s (execSubstReq n s) := by
  unfold execSubstReq
  exact Keeps.done (Keeps.when (.refl _) (fun _ => (State.updPhase_keeps _ _ _)))
theorem State.bringIn_keeps (s : State) (m : Fin 4) (spare : Fin 16) (pos : Nat) (st : Nat) : Keeps s (State.bringIn s
    m spare pos st) := by
  unfold State.bringIn
  exact Keeps.trans (Keeps.trans (Keeps.trans (State.setPh_keeps _ _ _) (State.updPhase_keeps _ _ _))
      (State.putB_keeps _ _ _ _)) (State.raise_keeps _ _ _ _ _)
theorem State.substClaims_keeps (s : State) (m : Fin 4) (x2 : List (Fin 16)) : Keeps s (State.substClaims s m x2) :=
    by
  unfold State.substClaims
  split
  · exact .refl _
  · split
    · exact State.substClaims_keeps _ _ _
    · exact Keeps.trans (by
            split
            · exact Keeps.trans (State.updPhase_keeps _ _ _) (State.bringIn_keeps _ _ _ _ _)
            · exact Keeps.trans (State.updPhase_keeps _ _ _) (State.raise_keeps _ _ _ _ _)) (State.substClaims_keeps _
          _ _)
theorem State.substIgnored_keeps (s : State) (n : Fin 16) : Keeps s (State.substIgnored s n) := by
  unfold State.substIgnored
  exact Keeps.trans (State.updPhase_keeps _ _ _) (State.raise_keeps _ _ _ _ _)
theorem State.substReqs_keeps (s : State) (m : Fin 4) (x2 : List (Fin 16)) : Keeps s (State.substReqs s m x2) := by
  unfold State.substReqs
  split
  · exact .refl _
  · exact Keeps.ite (State.substReqs_keeps _ _ _) (Keeps.trans (by
          split
          · exact Keeps.ite (Keeps.trans (Keeps.trans (Keeps.trans (Keeps.trans (State.updPhase_keeps _ _ _)
                (State.bringIn_keeps _ _ _ _ _)) (State.setPh_keeps _ _ _)) (State.putB_keeps _ _ _ _))
                (State.updPhase_keeps _ _ _)) (Keeps.trans (State.updPhase_keeps _ _ _) (State.substIgnored_keeps _
                _))
          · exact Keeps.trans (State.updPhase_keeps _ _ _) (State.substIgnored_keeps _ _)) (State.substReqs_keeps _ _
        _))
theorem execSubstitution_keeps (m : Fin 4) (s : State) : OutKeeps s (execSubstitution m s) := by
  unfold execSubstitution
  exact Keeps.done (Keeps.atTick (.refl _) (fun _ => (Keeps.trans (Keeps.trans (Keeps.trans (Keeps.trans
      (State.substClaims_keeps _ _ _) (State.substReqs_keeps _ _ _)) (State.disturb_keeps _ _)) (State.updLoop_keeps _
      _ _)) (State.reslot_keeps _ _))))
theorem execDllCalFail_keeps (s : State) : OutKeeps s (execDllCalFail s) := by
  unfold execDllCalFail
  exact Keeps.done (Keeps.when (.refl _) (fun _ => (Keeps.trans (Keeps.trans (Keeps.set_pe (.refl _))
      (State.putB_keeps _ _ _ _)) (State.raise_keeps _ _ _ _ _))))

/-! ### Faults -/

theorem State.clearOne_keeps (s : State) (n : Nat) : Keeps s (State.clearOne s n) := by
  unfold State.clearOne
  exact Keeps.ite (.refl _) (Keeps.set_acks (Keeps.trans (State.putB_keeps _ _ _ _) (State.wr_keeps _ _ _)))
theorem State.stickyClear_keeps (s : State) (w : Fin 8) (mask : Word) : Keeps s (State.stickyClear s w mask) := by
  unfold State.stickyClear
  exact Keeps.foldl (.refl _) (fun _ _ => (Keeps.ite (State.clearOne_keeps _ _) (.refl _)))
theorem execStickyClear_keeps (w : Fin 8) (mask : Word) (s : State) : OutKeeps s (execStickyClear w mask s) := by
  unfold execStickyClear
  exact Keeps.done (Keeps.when (.refl _) (fun _ => (State.stickyClear_keeps _ _ _)))
theorem State.forceMark_keeps (s : State) (n : Nat) : Keeps s (State.forceMark s n) := by
  unfold State.forceMark
  exact Keeps.ite (Keeps.trans (State.free_keeps _) (State.addMark_keeps _ _)) (.refl _)
theorem State.forceRaise_keeps (s : State) (n : Nat) : Keeps s (State.forceRaise s n) := by
  unfold State.forceRaise
  exact Keeps.ite (.refl _) (Keeps.trans (State.raiseWith_keeps _ _ _ _ _ _) (State.forceMark_keeps _ _))
theorem State.forceAll_keeps (s : State) (w : Fin 8) (mask : Word) : Keeps s (State.forceAll s w mask) := by
  unfold State.forceAll
  exact Keeps.foldl (.refl _) (fun _ _ => (Keeps.ite (State.forceRaise_keeps _ _) (.refl _)))
theorem State.reactFault_keeps (s : State) (r : WinRaise) : Keeps s (State.reactFault s r) := by
  unfold State.reactFault
  exact Keeps.ite (State.startFault_keeps _ _ _ _) (.refl _)
theorem State.reactFence_keeps (s : State) (r : WinRaise) : Keeps s (State.reactFence s r) := by
  unfold State.reactFence
  exact Keeps.ite (by
        dsimp only
        split
        · exact Keeps.set_flt (.refl _)
        · exact Keeps.dite (fun _ => (State.fenceWrite_keeps _ _)) (fun _ => (.refl _))
        · exact .refl _) (.refl _)
theorem State.reactNote_keeps (s : State) (r : WinRaise) : Keeps s (State.reactNote s r) := by
  unfold State.reactNote
  exact Keeps.foldl (.refl _) (fun _ _ => (Keeps.ite (by
        dsimp only
        split
        · exact .refl _
        · exact State.notify_keeps _ _ _ _ _) (.refl _)))
theorem State.react_keeps (s : State) (r : WinRaise) : Keeps s (State.react s r) := by
  unfold State.react
  exact Keeps.trans (Keeps.trans (State.reactFault_keeps _ _) (State.reactFence_keeps _ _)) (State.reactNote_keeps _
      _)
theorem execFaultReaction_keeps (s : State) : OutKeeps s (execFaultReaction s) := by
  unfold execFaultReaction
  exact Keeps.done (Keeps.when (.refl _) (fun _ => (Keeps.trans (Keeps.foldl (Keeps.set_clk_flt (.refl _)) (fun _ _ =>
      (State.react_keeps _ _))) (State.tellFault_keeps _))))
theorem execVregOutOfRange_keeps (vreg5 : Bool) (s : State) : OutKeeps s (execVregOutOfRange vreg5 s) := by
  unfold execVregOutOfRange
  exact Keeps.done (Keeps.when (.refl _) (fun _ => (State.raise_keeps _ _ _ _ _)))
theorem State.faultWrite_keeps (s : State) (a : Nat) (w : Word) : Keeps s (State.faultWrite s a w) := by
  unfold State.faultWrite
  exact Keeps.ite (State.raise_keeps _ _ _ _ _) (State.wr_keeps _ _ _)

/-! ### Feeds -/

theorem State.feedOff_keeps (s : State) (x : Fin 2) (st : Nat) : Keeps s (State.feedOff s x st) := by
  unfold State.feedOff
  exact Keeps.trans (State.put_keeps _ _ _ _) (State.putB_keeps _ _ _ _)
theorem State.handOver_keeps (s : State) : Keeps s (State.handOver s) := by
  unfold State.handOver
  exact Keeps.ite (Keeps.trans (Keeps.trans (Keeps.trans (State.put_keeps _ _ _ _) (State.putB_keeps _ _ _ _))
      (State.updChg_keeps _ _)) (State.updEst_keeps _ _)) (.refl _)
theorem State.disqualify_keeps (s : State) (x : Fin 2) (flag : Fld) (code : Nat) : Keeps s (State.disqualify s x flag
    code) := by
  unfold State.disqualify
  exact Keeps.trans (Keeps.ite (Keeps.trans (Keeps.trans (Keeps.trans (Keeps.trans (Keeps.trans (Keeps.trans
      (Keeps.trans (Keeps.trans (State.updFeed_keeps _ _ _) (State.feedOff_keeps _ _ _)) (State.put_keeps _ _ _ _))
      (State.putB_keeps _ _ _ _)) (State.raise_keeps _ _ _ _ _)) (State.updFeed_keeps _ _ _)) (State.putB_keeps _ _ _
      _)) (State.put_keeps _ _ _ _)) (State.raise_keeps _ _ _ _ _)) (Keeps.trans (Keeps.trans (Keeps.trans
      (Keeps.trans (State.updFeed_keeps _ _ _) (State.feedOff_keeps _ _ _)) (State.put_keeps _ _ _ _))
      (State.putB_keeps _ _ _ _)) (State.raise_keeps _ _ _ _ _))) (State.handOver_keeps _)
theorem execFeedWindowEntry_keeps (x : Fin 2) (s : State) : OutKeeps s (execFeedWindowEntry x s) := by
  unfold execFeedWindowEntry
  exact Keeps.done (Keeps.atTick (.refl _) (fun _ => (Keeps.trans (State.put_keeps _ _ _ _) (State.updFeed_keeps _ _
      _))))
theorem execFeedQualified_keeps (x : Fin 2) (s : State) : OutKeeps s (execFeedQualified x s) := by
  unfold execFeedQualified
  exact Keeps.done (Keeps.atTick (.refl _) (fun _ => (Keeps.trans (Keeps.ite (Keeps.trans (Keeps.trans (Keeps.trans
      (Keeps.trans (State.put_keeps _ _ _ _) (State.putB_keeps _ _ _ _)) (State.updFeed_keeps _ _ _))
      (State.raise_keeps _ _ _ _ _)) (State.put_keeps _ _ _ _)) (Keeps.trans (Keeps.trans (Keeps.trans
      (State.put_keeps _ _ _ _) (State.putB_keeps _ _ _ _)) (State.updFeed_keeps _ _ _)) (State.raise_keeps _ _ _ _
      _))) (State.downAbort_keeps _))))
theorem State.feedLeaves_keeps (s : State) (x : Fin 2) (flag : Fld) (code : Nat) : Keeps s (State.feedLeaves s x flag
    code) := by
  unfold State.feedLeaves
  exact Keeps.ite (Keeps.trans (State.putB_keeps _ _ _ _) (State.updFeed_keeps _ _ _)) (State.disqualify_keeps _ _ _
      _)
theorem execFeedUvDisqualification_keeps (x : Fin 2) (v : BitVec 16) (t : BitVec 8) (s : State) : OutKeeps s
    (execFeedUvDisqualification x v t s) := by
  unfold execFeedUvDisqualification
  exact Keeps.done (Keeps.when (.refl _) (fun _ => (State.feedLeaves_keeps _ _ _ _)))
theorem execFeedOvCutoff_keeps (x : Fin 2) (v : BitVec 16) (s : State) : OutKeeps s (execFeedOvCutoff x v s) := by
  unfold execFeedOvCutoff
  exact Keeps.done (Keeps.when (.refl _) (fun _ => (State.feedLeaves_keeps _ _ _ _)))
theorem execInrushFailed_keeps (x : Fin 2) (s : State) : OutKeeps s (execInrushFailed x s) := by
  unfold execInrushFailed
  exact Keeps.done (Keeps.when (.refl _) (fun _ => (State.disqualify_keeps _ _ _ _)))
theorem execQuarantineEnd_keeps (x : Fin 2) (s : State) : OutKeeps s (execQuarantineEnd x s) := by
  unfold execQuarantineEnd
  exact Keeps.done (Keeps.when (.refl _) (fun _ => (Keeps.trans (Keeps.trans (Keeps.trans (Keeps.trans
      (State.feedOff_keeps _ _ _) (State.put_keeps _ _ _ _)) (State.put_keeps _ _ _ _)) (State.updFeed_keeps _ _ _))
      (State.raise_keeps _ _ _ _ _))))
theorem State.feedDisable_keeps (s : State) (x : Fin 2) : Keeps s (State.feedDisable s x) := by
  unfold State.feedDisable
  exact Keeps.trans (Keeps.trans (State.feedOff_keeps _ _ _) (State.put_keeps _ _ _ _)) (State.handOver_keeps _)
theorem execFeedDisable_keeps (x : Fin 2) (s : State) : OutKeeps s (execFeedDisable x s) := by
  unfold execFeedDisable
  exact Keeps.done (Keeps.when (.refl _) (fun _ => (Keeps.trans (State.putB_keeps _ _ _ _) (State.feedDisable_keeps _
      _))))
theorem execReverseBlocking_keeps (x : Fin 2) (s : State) : OutKeeps s (execReverseBlocking x s) := by
  unfold execReverseBlocking
  exact Keeps.done (Keeps.when (.refl _) (fun _ => (State.updFeed_keeps _ _ _)))
theorem execOnBatteryDeclared_keeps (s : State) : OutKeeps s (execOnBatteryDeclared s) := by
  unfold execOnBatteryDeclared
  exact Keeps.done (Keeps.atTick (.refl _) (fun _ => (Keeps.trans (Keeps.trans (Keeps.trans (State.put_keeps _ _ _ _)
      (State.bump_keeps _ _ _)) (State.putB_keeps _ _ _ _)) (State.raise_keeps _ _ _ _ _))))
theorem execReturnToFeed_keeps (s : State) : OutKeeps s (execReturnToFeed s) := by
  unfold execReturnToFeed
  exact Keeps.done (Keeps.atTick (.refl _) (fun _ => (Keeps.trans (Keeps.trans (Keeps.trans (Keeps.trans (Keeps.trans
      (State.put_keeps _ _ _ _) (State.putB_keeps _ _ _ _)) (State.chgResume_keeps _)) (State.nvUnblock_keeps _))
      (State.raise_keeps _ _ _ _ _)) (State.gaugeRetry_keeps _ _))))
theorem execBowTrip_keeps (vsys : BitVec 16) (s : State) : OutKeeps s (execBowTrip vsys s) := by
  unfold execBowTrip
  exact Keeps.done (Keeps.when (.refl _) (fun _ => (Keeps.trans (Keeps.trans (Keeps.trans (State.updChg_keeps _ _)
      (State.putB_keeps _ _ _ _)) (State.raise_keeps _ _ _ _ _)) (State.nvBlock_keeps _))))
theorem State.feedsGone_keeps (s : State) : Keeps s (State.feedsGone s) := by
  unfold State.feedsGone
  refine Keeps.foldl (.refl s) fun x k => ?_
  split
  · exact Keeps.ite (.trans (State.updFeed_keeps _ _ _) (State.disqualify_keeps _ _ _ _)) (State.updFeed_keeps _ _ _)
  · exact .refl x
theorem State.feedGates_keeps (s : State) : Keeps s (State.feedGates s) := by
  unfold State.feedGates
  exact Keeps.foldl (.refl _) (fun _ _ => (Keeps.when (.refl _) (fun _ => (Keeps.trans (State.putB_keeps _ _ _ _)
      (State.updFeed_keeps _ _ _)))))
theorem State.feedTick_keeps (s : State) (x : FrameIn) : Keeps s (State.feedTick s x) := by
  unfold State.feedTick
  exact Keeps.ite (Keeps.trans (Keeps.trans (Keeps.trans (Keeps.foldl (Keeps.trans (Keeps.trans (State.wr_keeps _ _ _)
      (State.put_keeps _ _ _ _)) (State.put_keeps _ _ _ _)) (fun _ _ => (Keeps.ite (Keeps.trans (Keeps.trans
      (State.putB_keeps _ _ _ _) (State.updFeed_keeps _ _ _)) (State.put_keeps _ _ _ _)) (Keeps.trans
      (State.putB_keeps _ _ _ _) (State.updFeed_keeps _ _ _))))) (State.feedsGone_keeps _)) (State.feedGates_keeps _))
      (State.put_keeps _ _ _ _)) (Keeps.trans (Keeps.trans (Keeps.foldl (Keeps.trans (Keeps.trans (State.wr_keeps _ _
      _) (State.put_keeps _ _ _ _)) (State.put_keeps _ _ _ _)) (fun _ _ => (Keeps.ite (Keeps.trans (Keeps.trans
      (State.putB_keeps _ _ _ _) (State.updFeed_keeps _ _ _)) (State.put_keeps _ _ _ _)) (Keeps.trans
      (State.putB_keeps _ _ _ _) (State.updFeed_keeps _ _ _))))) (State.feedsGone_keeps _)) (State.feedGates_keeps _))

end Sys2Proof.Machine
end

