-- ==== Sys2Proof/Laws/KeepsHost.lean ====
section
/-! SUPPORT. What is kept by the start, the ports, register writes, the commands and the tick: one lemma per operation
and per meaning, in the order in which the model declares them. -/
namespace Sys2Proof.Machine
open Sys2Proof
-- the proofs of this file are elaborated one after another, not each in a thread of its own
set_option Elab.async false

/-! ### Boot -/

theorem State.writeBoot_keeps (s : State) (slot : Nat) (trial : Bool) (attempts : Nat) : Keeps s (State.writeBoot s
    slot trial attempts) := by
  unfold State.writeBoot
  exact Keeps.trans (State.queueBoot_keeps _ _ _ _ _) (State.nvFirst_keeps _)
theorem State.trialChoice_keeps (s : State) : Keeps s (State.trialChoice s).2 := by
  unfold State.trialChoice
  exact Keeps.snd_ite (Keeps.pair2 (State.nvFirst_keeps _)) (Keeps.snd_ite (Keeps.pair2 (Keeps.trans (Keeps.trans
      (State.nvFirst_keeps _) (State.writeBoot_keeps _ _ _ _)) (State.raise_keeps _ _ _ _ _))) (Keeps.pair2
      (Keeps.trans (State.nvFirst_keeps _) (State.writeBoot_keeps _ _ _ _))))
theorem State.validChoice_keeps (s : State) (c : Choice) : Keeps s (State.validChoice s c).2 := by
  unfold State.validChoice
  exact Keeps.snd_ite (Keeps.pair2 (.refl _)) (Keeps.pair2 (Keeps.trans (State.raise_keeps _ _ _ _ _)
      (State.writeBoot_keeps _ _ _ _)))
theorem State.chooseSlotBoot_keeps (s : State) : Keeps s (State.chooseSlotBoot s).2 := by
  unfold State.chooseSlotBoot
  exact Keeps.pair2 (Keeps.ite (Keeps.set_proc (Keeps.trans (Keeps.trans (Keeps.trans (Keeps.trans (Keeps.trans
      (State.trialChoice_keeps _) (State.validChoice_keeps _ _)) (State.put_keeps _ _ _ _)) (State.putB_keeps _ _ _
      _)) (State.put_keeps _ _ _ _)) (State.putB_keeps _ _ _ _))) (Keeps.trans (Keeps.set_proc (Keeps.trans
      (Keeps.trans (Keeps.trans (Keeps.trans (Keeps.trans (State.trialChoice_keeps _) (State.validChoice_keeps _ _))
      (State.put_keeps _ _ _ _)) (State.putB_keeps _ _ _ _)) (State.put_keeps _ _ _ _)) (State.putB_keeps _ _ _ _)))
      (State.raise_keeps _ _ _ _ _)))
theorem State.admCodes_keeps (s : State) (w : Word) (x2 : List Nat) : Keeps s (State.admCodes s w x2) := by
  unfold State.admCodes
  split
  · exact .refl _
  · exact Keeps.trans (State.wr_keeps _ _ _) (State.admCodes_keeps _ _ _)
theorem State.admRows_keeps (s : State) (keep : Nat → Bool) (x2 : List (List Nat × Nat × Nat × Nat)) : Keeps s
    (State.admRows s keep x2) := by
  unfold State.admRows
  split
  · exact .refl _
  · exact Keeps.trans (State.admCodes_keeps _ _ _) (State.admRows_keeps _ _ _)
theorem State.admLoad_keeps (s : State) (recovery : Bool) : Keeps s (State.admLoad s recovery) := by
  unfold State.admLoad
  exact Keeps.trans (Keeps.trans (State.admRows_keeps _ _ _) (State.wr_keeps _ _ _)) (State.put_keeps _ _ _ _)
theorem State.readyWrite_keeps (s : State) : Keeps s (State.readyWrite s) := by
  unfold State.readyWrite
  exact Keeps.trans (Keeps.trans (State.putB_keeps _ _ _ _) (State.putB_keeps _ _ _ _)) (State.raise_keeps _ _ _ _ _)
theorem State.loadImage_keeps (s : State) (slot : Nat) : Keeps s (s.loadImage slot).2 := by
  unfold State.loadImage
  refine Keeps.snd_ite ?_ ?_
  · refine Keeps.trans (State.extend_keeps s 1 (sha256 (memRead s.mram.cells (slotBase slot) (0x40 + s.totalLen slot)))) ?_
    exact ⟨fun w => ⟨w.1, w.2.1, memWrite_wf _ _ _ rfl, w.2.2.2⟩, id, rfl⟩
  · exact Keeps.pair2 (Keeps.set_proc (Keeps.trans (Keeps.trans (State.extend_keeps _ _ _)
      (State.raise_keeps _ _ _ _ _)) (State.putB_keeps _ _ _ _)))
theorem State.enterFirmware_keeps (s : State) (recovery : Bool) : Keeps s (State.enterFirmware s recovery) := by
  unfold State.enterFirmware
  exact Keeps.ite (Keeps.trans (Keeps.trans (Keeps.trans (Keeps.set_proc (.refl _)) (State.wdStart_keeps _))
      (State.admLoad_keeps _ _)) (State.readyWrite_keeps _)) (Keeps.trans (Keeps.trans (Keeps.set_proc (.refl _))
      (State.wdStart_keeps _)) (State.admLoad_keeps _ _))
theorem State.enterRom_keeps (s : State) : Keeps s (State.enterRom s) := by
  unfold State.enterRom
  exact Keeps.set_proc (State.updWd_keeps _ _)
theorem State.startBurin_keeps (s : State) (step8 : Bool) : Keeps s (State.startBurin s step8) := by
  unfold State.startBurin
  exact Keeps.ite (Keeps.trans (Keeps.trans (Keeps.trans (State.enterRom_keeps _) (State.chooseSlotBoot_keeps _))
      (State.loadImage_keeps _ _)) (State.enterFirmware_keeps _ _)) (Keeps.trans (Keeps.trans (State.enterRom_keeps _)
      (State.chooseSlotBoot_keeps _)) (State.loadImage_keeps _ _))
theorem State.showCfg_keeps (s : State) : Keeps s (State.showCfg s) := by
  unfold State.showCfg
  exact Keeps.trans (State.put_keeps _ _ _ _) (State.putB_keeps _ _ _ _)
theorem execDProcRelease_keeps (step8 : Bool) (ecc : List EccRead) (s : State) : OutKeeps s (execDProcRelease step8
    ecc s) := by
  unfold execDProcRelease
  exact Keeps.done (Keeps.when (.refl _) (fun _ => (Keeps.ite (Keeps.trans (Keeps.set_layers (.refl _))
      (State.placeOwed_keeps _)) (Keeps.trans (Keeps.trans (Keeps.trans (Keeps.trans (Keeps.trans (Keeps.set_layers
      (.refl _)) (State.placeOwed_keeps _)) (State.eccFlip_keeps _ _)) (State.showCfg_keeps _))
      (State.startBurin_keeps _ _)) (State.eccReads_keeps _ _)))))
theorem State.loadStore_keeps (s : State) (a : Nat) (d : RegDef) (ix : List Nat) (w : Word) : Keeps s (State.loadStore
    s a d ix w) := by
  unfold State.loadStore
  exact Keeps.ite (Keeps.trans (State.wr_keeps _ _ _) (State.loopCodeWrite_keeps _ _ _)) (Keeps.ite (State.wr_keeps _
      _ _) (Keeps.ite (State.wr_keeps _ _ _) (Keeps.ite (State.chgWrite_keeps _ _ _) (Keeps.ite (State.wdWrite_keeps _
      _ _) (State.wr_keeps _ _ _)))))
theorem State.loadCalib_keeps (s : State) (x1 : List (Nat × Word)) : Keeps s (State.loadCalib s x1) := by
  unfold State.loadCalib
  split
  · exact .refl _
  · exact Keeps.trans (State.wr_keeps _ _ _) (State.loadCalib_keeps _ _)
theorem State.loadPhases_keeps (s : State) : Keeps s (State.loadPhases s) := by
  unfold State.loadPhases
  exact Keeps.foldl (Keeps.foldl (.refl _) (fun _ _ => (State.takeRole_keeps _ _))) (fun _ _ => (Keeps.trans
      (State.updLoop_keeps _ _ _) (State.reslot_keeps _ _)))
theorem State.loadEnd_keeps (s : State) (copy : Nat) : Keeps s (State.loadEnd s copy) := by
  unfold State.loadEnd
  exact Keeps.set_seq (Keeps.trans (Keeps.ite (Keeps.trans (Keeps.trans (Keeps.trans (State.loadPhases_keeps _)
      (State.loadCalib_keeps _ _)) (State.put_keeps _ _ _ _)) (State.updBak_keeps _ _)) (Keeps.trans
      (State.loadPhases_keeps _) (State.loadCalib_keeps _ _))) (State.updClk_keeps _ _))
theorem State.loadWrite_keeps (s t : State) (a : Nat) (v : Word) (h : s.loadWrite a v = some t) : Keeps s t := by
  unfold State.loadWrite at h
  split at h
  · cases h
  · dsimp only at h
    split at h
    · cases h
    · split at h
      · cases h
      · split at h
        · cases h
        · cases h; exact .trans (State.loadStore_keeps _ _ _ _ _) (State.lock_keeps _ _ _)
theorem loadRun_keeps (w : Nat → Word) (fill : Bool) (n i a : Nat) (s t : State) (h : loadRun w fill n i a s = some t) :
    Keeps s t := by
  induction n generalizing i a s with
  | zero => cases h; exact .refl _
  | succ n ih =>
    unfold loadRun at h
    split at h
    · rename_i u e; exact .trans (State.loadWrite_keeps _ _ _ _ e) (ih _ _ _ h)
    · cases h
theorem loadEntries_keeps (w : Nat → Word) (last n i : Nat) (s t : State) (h : loadEntries w last n i s = some t) :
    Keeps s t := by
  induction n generalizing i s with
  | zero => cases h
  | succ n ih =>
    unfold loadEntries at h
    dsimp only at h
    split at h
    · split at h
      · cases h; exact .refl _
      · cases h
    · split at h
      · cases h
      · split at h
        · rename_i u e; exact .trans (loadRun_keeps _ _ _ _ _ _ _ e) (ih _ _ h)
        · cases h
    · split at h
      · cases h
      · split at h
        · rename_i u e; exact .trans (loadRun_keeps _ _ _ _ _ _ _ e) (ih _ _ h)
        · cases h
    · split at h
      · cases h
      · refine .trans ?_ (ih _ _ h)
        exact Keeps.ite (State.updEst_keeps _ _) (.refl _)
    · cases h
theorem State.loadCopy_keeps (s : State) (copy : Nat) :
    Keeps s (s.loadCopy copy).1 ∧ ∀ t, (s.loadCopy copy).2 = some t → Keeps s t := by
  unfold State.loadCopy
  dsimp only
  have h := State.extend_keeps s 2 (s.cfgDigest copy)
  split
  · rename_i u e
    have g := h.trans (loadEntries_keeps _ _ _ _ _ _ e)
    split
    · exact ⟨h, fun t k => by cases k; exact g.trans (State.loadEnd_keeps _ _)⟩
    · exact ⟨h, fun t k => by cases k⟩
  · exact ⟨h, fun t k => by cases k⟩
theorem State.cfgRejected_keeps (s : State) (copy : Nat) (inLoad : Bool) : Keeps s (State.cfgRejected s copy inLoad)
    := by
  unfold State.cfgRejected
  exact State.raise_keeps _ _ _ _ _
theorem State.loadCopies_keeps (s : State) (l : List Nat) : Keeps s (s.loadCopies l) := by
  induction l generalizing s with
  | nil => exact .trans (State.extend_keeps _ _ _) (State.raise_keeps _ _ _ _ _)
  | cons c r ih =>
    have h := State.loadCopy_keeps s c
    unfold State.loadCopies
    split
    · rename_i u t e; exact h.2 t (by rw [e])
    · rename_i u e
      rw [e] at h
      exact (h.1.trans (State.cfgRejected_keeps _ _ _)).trans (ih _)
theorem State.configLoad_keeps (s : State) : Keeps s (State.configLoad s) := by
  unfold State.configLoad
  exact Keeps.trans (Keeps.foldl (.refl _) (fun _ _ => (State.cfgRejected_keeps _ _ _))) (State.loadCopies_keeps _ _)
theorem State.readFuses_keeps (s : State) : Keeps s (State.readFuses s) := by
  unfold State.readFuses
  exact Keeps.trans (State.wr_keeps _ _ _) (State.wr_keeps _ _ _)
theorem State.formCounters_keeps (s : State) : Keeps s (State.formCounters s) := by
  unfold State.formCounters
  exact Keeps.trans (Keeps.trans (Keeps.trans (Keeps.trans (Keeps.set_seg_est (State.updOpt_keeps _ _))
      (State.optShow_keeps _)) (State.updBak_keeps _ _)) (State.wr_keeps _ _ _)) (State.counterRecord_keeps _)
theorem State.lossRecord_keeps (s : State) : Keeps s (State.lossRecord s) := by
  unfold State.lossRecord
  exact Keeps.ite (Keeps.trans (State.toPlate_keeps _ _) (State.putB_keeps _ _ _ _)) (.refl _)
theorem State.bakEvents_keeps (s : State) : Keeps s (State.bakEvents s) := by
  unfold State.bakEvents
  exact Keeps.ite (Keeps.trans (Keeps.trans (Keeps.ite (Keeps.trans (by
        split
        · exact Keeps.trans (State.raiseLater_keeps _ _ _ _) (State.raiseLater_keeps _ _ _ _)
        · exact State.raiseLater_keeps _ _ _ _) (State.raiseLater_keeps _ _ _ _)) (by
        split
        · exact Keeps.trans (State.raiseLater_keeps _ _ _ _) (State.raiseLater_keeps _ _ _ _)
        · exact State.raiseLater_keeps _ _ _ _)) (State.updBak_keeps _ _)) (State.raiseLater_keeps _ _ _ _))
      (Keeps.trans (Keeps.ite (Keeps.trans (by
        split
        · exact Keeps.trans (State.raiseLater_keeps _ _ _ _) (State.raiseLater_keeps _ _ _ _)
        · exact State.raiseLater_keeps _ _ _ _) (State.raiseLater_keeps _ _ _ _)) (by
        split
        · exact Keeps.trans (State.raiseLater_keeps _ _ _ _) (State.raiseLater_keeps _ _ _ _)
        · exact State.raiseLater_keeps _ _ _ _)) (State.updBak_keeps _ _))
theorem State.coldRelease_keeps (s : State) (clkrec : Bool) (strapA : Nat) (strapB : Nat) (packId : Bool) : Keeps s
    (State.coldRelease s clkrec strapA strapB packId) := by
  unfold State.coldRelease
  exact Keeps.trans (Keeps.trans (Keeps.trans (Keeps.trans (Keeps.trans (Keeps.trans (Keeps.trans (Keeps.trans
      (Keeps.trans (Keeps.trans (Keeps.trans (Keeps.trans (Keeps.ite (Keeps.trans (Keeps.trans (Keeps.trans
      (Keeps.set_power_layers (State.pwrReset_keeps _)) (State.putB_keeps _ _ _ _)) (State.putB_keeps _ _ _ _))
      (State.putB_keeps _ _ _ _)) (Keeps.trans (Keeps.set_power_layers (State.pwrReset_keeps _)) (State.putB_keeps _ _
      _ _))) (State.formCounters_keeps _)) (State.readFuses_keeps _)) (State.put_keeps _ _ _ _)) (State.put_keeps _ _
      _ _)) (State.setClk_keeps _ _ _)) (State.put_keeps _ _ _ _)) (State.updChg_keeps _ _)) (State.updGg_keeps _ _))
      (State.updPlate_keeps _ _)) (State.updEst_keeps _ _)) (State.extend_keeps _ _ _)) (State.extend_keeps _ _ _)
theorem State.coldBoot_keeps (s : State) (step8 : Bool) : Keeps s (State.coldBoot s step8) := by
  unfold State.coldBoot
  exact Keeps.ite (Keeps.trans (Keeps.trans (Keeps.trans (Keeps.trans (Keeps.trans (Keeps.trans (Keeps.trans
      (Keeps.trans (Keeps.trans (State.enterRom_keeps _) (State.chooseSlotBoot_keeps _)) (State.configLoad_keeps _))
      (State.showCfg_keeps _)) (State.extend_keeps _ _ _)) (State.storeScan_keeps _)) (State.lossRecord_keeps _))
      (State.bakEvents_keeps _)) (State.loadImage_keeps _ _)) (State.enterFirmware_keeps _ _)) (Keeps.trans
      (Keeps.trans (Keeps.trans (Keeps.trans (Keeps.trans (Keeps.trans (Keeps.trans (Keeps.trans (State.enterRom_keeps
      _) (State.chooseSlotBoot_keeps _)) (State.configLoad_keeps _)) (State.showCfg_keeps _)) (State.extend_keeps _ _
      _)) (State.storeScan_keeps _)) (State.lossRecord_keeps _)) (State.bakEvents_keeps _)) (State.loadImage_keeps _
      _))
theorem execColdStart_keeps (strapA : BitVec 12) (strapB : BitVec 12) (xtal : BitVec 48) (packId : Bool) (step8 :
    Bool) (ecc : List EccRead) (s : State) : OutKeeps s (execColdStart strapA strapB xtal packId step8 ecc s) := by
  unfold execColdStart
  exact Keeps.done (Keeps.when (.refl _) (fun _ => (Keeps.trans (Keeps.trans (Keeps.trans (Keeps.trans (Keeps.ite
      (State.bakReset_keeps _) (Keeps.ite (State.xtalCycles_keeps _ _ _) (.refl _))) (State.eccFlip_keeps _ _))
      (State.coldRelease_keeps _ _ _ _ _)) (State.coldBoot_keeps _ _)) (State.eccReads_keeps _ _))))
theorem execOscillatorRestartAttempt_keeps (passed : Bool) (strapA : BitVec 12) (strapB : BitVec 12) (xtal : BitVec
    48) (packId : Bool) (step8 : Bool) (ecc : List EccRead) (s : State) : OutKeeps s (execOscillatorRestartAttempt
    passed strapA strapB xtal packId step8 ecc s) := by
  unfold execOscillatorRestartAttempt
  exact Keeps.done (Keeps.when (.refl _) (fun _ => (Keeps.trans (Keeps.trans (Keeps.trans (Keeps.trans (Keeps.ite
      (State.xtalCycles_keeps _ _ _) (.refl _)) (State.eccFlip_keeps _ _)) (State.coldRelease_keeps _ _ _ _ _))
      (State.coldBoot_keeps _ _)) (State.eccReads_keeps _ _))))

/-! ### Burin -/

theorem execReady_keeps (s : State) : OutKeeps s (execReady s) := by
  unfold execReady
  exact Keeps.done (Keeps.when (.refl _) (fun _ => (State.readyWrite_keeps _)))
theorem State.extendGo_keeps (s : State) (target : Nat) : Keeps s (State.extendGo s target) := by
  unfold State.extendGo
  exact Keeps.ite (State.extend_keeps _ _ _) (.refl _)
theorem execExtend_keeps (target : BitVec 2) (s : State) : OutKeeps s (execExtend target s) := by
  unfold execExtend
  exact Keeps.done (Keeps.when (.refl _) (fun _ => (State.extendGo_keeps _ _)))
theorem State.putBytes_keeps (s : State) (at_ : Nat → Nat) (x2 : Nat) (x3 : List Byte) : Keeps s (State.putBytes s at_
    x2 x3) := by
  unfold State.putBytes
  split
  · exact .refl _
  · exact Keeps.trans (State.wr_keeps _ _ _) (State.putBytes_keeps _ _ _ _)
theorem State.proofGo_keeps (s : State) : Keeps s (State.proofGo s) := by
  unfold State.proofGo
  exact Keeps.ite (.refl _) (Keeps.trans (Keeps.trans (Keeps.trans (Keeps.set_proof (.refl _)) (State.nvQueue1_keeps _
      _)) (State.putBytes_keeps _ _ _ _)) (State.putB_keeps _ _ _ _))
theorem execProofGo_keeps (s : State) : OutKeeps s (execProofGo s) := by
  unfold execProofGo
  exact Keeps.done (Keeps.when (.refl _) (fun _ => (State.proofGo_keeps _)))
theorem execProofSigned_keeps (s : State) : OutKeeps s (execProofSigned s) := by
  unfold execProofSigned
  exact Keeps.done (Keeps.when (.refl _) (fun _ => (Keeps.trans (Keeps.trans (State.putBytes_keeps _ _ _ _)
      (State.putB_keeps _ _ _ _)) (State.putB_keeps _ _ _ _))))

/-! ### Ports -/

theorem State.refuse_keeps (s : State) (p : Port) (h : Word) (status : Nat) : Keeps s (State.refuse s p h status) :=
    by
  unfold State.refuse
  exact State.place_keeps _ _ _ _
theorem State.telemRead_keeps (s : State) (t : Fin 96) (addrs : List Word) : Keeps s (State.telemRead s t addrs) := by
  unfold State.telemRead
  exact Keeps.ite (State.answer_keeps _ _ _ _) (State.answer_keeps _ _ _ _)
theorem State.hostCheckin_keeps (s : State) (t : Fin 96) (p : Port) (ws : List Word) : Keeps s (State.hostCheckin s t
    p ws) := by
  unfold State.hostCheckin
  split
  · exact Keeps.ite (Keeps.trans (State.wdCheckin_keeps _ _ _) (State.answer_keeps _ _ _ _)) (State.wdCheckin_keeps _
        _ _)
  · exact State.answer_keeps _ _ _ _
theorem State.arrive_keeps (s : State) (p : Port) (ws : List Word) (ok : Bool) : Keeps s (State.arrive s p ws ok) :=
    by
  unfold State.arrive
  dsimp only
  split
  · exact State.refuse_keeps _ _ _ _
  · exact .refl _
  · exact Keeps.ite (Keeps.trans (Keeps.set_fw (State.setTag_keeps _ _ _)) (State.telemRead_keeps _ _ _)) (Keeps.ite
        (Keeps.trans (Keeps.set_fw (State.setTag_keeps _ _ _)) (State.hostCheckin_keeps _ _ _ _)) (Keeps.trans
        (Keeps.set_fw (State.setTag_keeps _ _ _)) (State.updPort_keeps _ _ _)))
theorem State.frameError_keeps (s : State) (p : Port) : Keeps s (State.frameError s p) := by
  unfold State.frameError
  exact Keeps.trans (State.putB_keeps _ _ _ _) (State.raise_keeps _ _ _ _ _)
theorem State.packetIn_keeps (s : State) (p : Port) : Keeps s (State.packetIn s p) := by
  unfold State.packetIn
  dsimp only
  split
  · exact .refl _
  · exact Keeps.ite (.refl _) (Keeps.trans (Keeps.ite (State.updPort_keeps _ _ _) (Keeps.trans (State.updPort_keeps _
        _ _) (State.frameError_keeps _ _))) (State.arrive_keeps _ _ _ _))
theorem State.wordFull_keeps (s : State) (p : Port) (w : Word) : Keeps s (State.wordFull s p w).1 := by
  unfold State.wordFull
  exact Keeps.fst_ite (Keeps.pair1 (.refl _)) (Keeps.fst_ite (Keeps.pair1 (State.updPort_keeps _ _ _)) (Keeps.pair1
      (Keeps.trans (State.updPort_keeps _ _ _) (State.packetIn_keeps _ _))))
theorem State.inWord_keeps (s : State) (p : Port) (w : Word) : Keeps s (State.inWord s p w).1 := by
  unfold State.inWord
  exact Keeps.fst_ite (Keeps.pair1 (.refl _)) (Keeps.fst_ite (Keeps.pair1 (Keeps.trans (State.frameError_keeps _ _)
      (State.refuse_keeps _ _ _ _))) (Keeps.fst_ite (State.wordFull_keeps _ _ _) (Keeps.pair1 (Keeps.trans
      (State.updPort_keeps _ _ _) (State.packetIn_keeps _ _)))))
theorem State.inWords_keeps (s : State) (p : Port) (x2 : List Word) : Keeps s (State.inWords s p x2) := by
  unfold State.inWords
  split
  · exact .refl _
  · exact Keeps.ite (State.inWord_keeps _ _ _) (Keeps.trans (State.inWord_keeps _ _ _) (State.inWords_keeps _ _ _))
theorem State.inBlock_keeps (s : State) (p : Port) (ws : List Word) (pecOk : Bool) : Keeps s (State.inBlock s p ws
    pecOk) := by
  unfold State.inBlock
  exact Keeps.ite (State.raise_keeps _ _ _ _ _) (Keeps.ite (.refl _) (State.inWords_keeps _ _ _))
theorem execMbxIn_keeps (p : Port) (bytes : List Byte) (pecOk : Bool) (clock : BitVec 12) (s : State) : OutKeeps s
    (execMbxIn p bytes pecOk clock s) := by
  unfold execMbxIn
  exact Keeps.done (Keeps.when (.refl _) (fun _ => (Keeps.ite (Keeps.trans (Keeps.ite (Keeps.trans
      (State.clockAt_keeps _ _) (State.inWords_keeps _ _ _)) (Keeps.ite (State.clockAt_keeps _ _) (Keeps.trans
      (State.clockAt_keeps _ _) (State.inBlock_keeps _ _ _ _)))) (State.putB_keeps _ _ _ _)) (Keeps.ite (Keeps.trans
      (State.clockAt_keeps _ _) (State.inWords_keeps _ _ _)) (Keeps.ite (State.clockAt_keeps _ _) (Keeps.trans
      (State.clockAt_keeps _ _) (State.inBlock_keeps _ _ _ _)))))))
theorem State.cellBad_keeps (s : State) : Keeps s (State.cellBad s) := by
  unfold State.cellBad
  exact Keeps.ite (State.bump_keeps _ _ _) (Keeps.trans (Keeps.set_link (State.bump_keeps _ _ _)) (State.raise_keeps _
      _ _ _ _))
theorem State.cellLost_keeps (s : State) (rsp : Bool) : Keeps s (State.cellLost s rsp) := by
  unfold State.cellLost
  exact Keeps.ite (Keeps.set_link (.refl _)) (by
        split
        · exact .refl _
        · exact Keeps.trans (State.updPort_keeps _ _ _) (State.refuse_keeps _ _ _ _))
theorem State.setCellSeq_keeps (s : State) (rsp : Bool) (n : Nat) : Keeps s (State.setCellSeq s rsp n) := by
  unfold State.setCellSeq
  exact Keeps.ite (Keeps.set_link (.refl _)) (Keeps.set_link (.refl _))
theorem State.hostWord_keeps (s : State) (w : Word) : Keeps s (State.hostWord s w) := by
  unfold State.hostWord
  exact Keeps.ite (Keeps.set_link (.refl _)) (Keeps.set_link (.refl _))
theorem State.mailboxBad_keeps (s : State) (rsp : Bool) : Keeps s (State.mailboxBad s rsp) := by
  unfold State.mailboxBad
  exact Keeps.trans (Keeps.trans (State.cellBad_keeps _) (State.cellLost_keeps _ _)) (State.setCellSeq_keeps _ _ _)
theorem execMailboxCell_keeps (rsp : Bool) (seq : BitVec 4) (w : Word) (crcOk : Bool) (clock : BitVec 12) (s : State)
    : OutKeeps s (execMailboxCell rsp seq w crcOk clock s) := by
  unfold execMailboxCell
  exact Keeps.done (Keeps.when (.refl _) (fun _ => (Keeps.ite (Keeps.trans (State.clockAt_keeps _ _)
      (State.mailboxBad_keeps _ _)) (Keeps.ite (Keeps.trans (Keeps.trans (State.clockAt_keeps _ _)
      (State.cellLost_keeps _ _)) (State.setCellSeq_keeps _ _ _)) (Keeps.ite (Keeps.trans (Keeps.trans
      (State.clockAt_keeps _ _) (State.setCellSeq_keeps _ _ _)) (State.hostWord_keeps _ _)) (Keeps.trans (Keeps.trans
      (State.clockAt_keeps _ _) (State.setCellSeq_keeps _ _ _)) (State.inWord_keeps _ _ _)))))))
theorem execCellCrcError_keeps (kind : CellKind) (s : State) : OutKeeps s (execCellCrcError kind s) := by
  unfold execCellCrcError
  exact Keeps.done (Keeps.when (.refl _) (fun _ => (by
        split
        · exact Keeps.ite (State.mailboxBad_keeps _ _) (State.cellBad_keeps _)
        · exact Keeps.ite (State.mailboxBad_keeps _ _) (State.cellBad_keeps _)
        · exact State.cellBad_keeps _
        · exact State.cellBad_keeps _
        · exact State.cellBad_keeps _
        · exact State.cellBad_keeps _
        · exact State.cellBad_keeps _)))
theorem execSiblingStatus_keeps (ids : Word) (arrived : BitVec 4) (passed : BitVec 4) (alert : Bool) (inFree : BitVec
    7) (hostFree : BitVec 7) (s : State) : OutKeeps s (execSiblingStatus ids arrived passed alert inFree hostFree s)
    := by
  unfold execSiblingStatus
  exact Keeps.done (Keeps.when (.refl _) (fun _ => (Keeps.set_link (State.siblingStatus_keeps _ _ _ _))))
theorem State.linkCell_keeps (s : State) : Keeps s (State.linkCell s) := by
  unfold State.linkCell
  exact Keeps.ite (Keeps.set_link (State.outWord_keeps _ _)) (by
        split
        · exact .refl _
        · exact Keeps.ite (.refl _) (Keeps.set_link (.refl _)))
theorem linkCells_keeps (n : Nat) (s : State) : Keeps s (linkCells n s) := by
  induction n generalizing s with
  | zero => exact .refl s
  | succ n ih => exact .trans (State.linkCell_keeps s) (ih _)
theorem State.linkTick_keeps (s : State) : Keeps s (State.linkTick s) := by
  unfold State.linkTick
  exact Keeps.ite (Keeps.trans (Keeps.set_link (.refl _)) (linkCells_keeps _ _)) (Keeps.set_link (.refl _))
theorem State.htxWrite_keeps (s : State) (w : Word) : Keeps s (State.htxWrite s w) := by
  unfold State.htxWrite
  exact Keeps.ite (.refl _) (Keeps.set_link (.refl _))
theorem execMbxHtxWrite_keeps (w : Word) (s : State) : OutKeeps s (execMbxHtxWrite w s) := by
  unfold execMbxHtxWrite
  exact Keeps.done (Keeps.when (.refl _) (fun _ => (State.htxWrite_keeps _ _)))
theorem State.hrxWord_keeps (s : State) : Keeps s (State.hrxWord s).2 := by
  unfold State.hrxWord
  split
  · exact Keeps.pair2 (.refl _)
  · exact Keeps.pair2 (Keeps.set_link (.refl _))
theorem State.dlReply_keeps (s : State) (ws : List Word) (l : List Byte) : Keeps s (State.dlReply s ws l) := by
  unfold State.dlReply
  exact Keeps.set_out_wire (State.bump_keeps _ _ _)
theorem State.dlException_keeps (s : State) (fc : Nat) (code : Nat) : Keeps s (State.dlException s fc code) := by
  unfold State.dlException
  exact State.dlReply_keeps _ _ _
theorem execModbusReadRegisters_keeps (input : Bool) (addr : BitVec 16) (count : BitVec 16) (s : State) : OutKeeps s
    (execModbusReadRegisters input addr count s) := by
  unfold execModbusReadRegisters
  exact Keeps.done (Keeps.when (.refl _) (fun _ => (Keeps.ite (State.dlException_keeps _ _ _) (Keeps.ite
      (State.dlException_keeps _ _ _) (Keeps.set_freeCtr (State.dlReply_keeps _ _ _))))))
theorem execModbusWriteAcknowledge_keeps (addr : BitVec 16) (v : BitVec 16) (s : State) : OutKeeps s
    (execModbusWriteAcknowledge addr v s) := by
  unfold execModbusWriteAcknowledge
  exact Keeps.done (Keeps.when (.refl _) (fun _ => (Keeps.ite (State.dlException_keeps _ _ _) (Keeps.trans
      (Keeps.set_acks (.refl _)) (State.dlReply_keeps _ _ _)))))
theorem execModbusBadRequest_keeps (kind : BadRequest) (s : State) : OutKeeps s (execModbusBadRequest kind s) := by
  unfold execModbusBadRequest
  exact Keeps.done (Keeps.when (.refl _) (fun _ => (by
        split
        · exact Keeps.ite (State.bump_keeps _ _ _) (Keeps.trans (Keeps.set_aux (State.bump_keeps _ _ _))
              (State.raise_keeps _ _ _ _ _))
        · exact State.dlException_keeps _ _ _
        · exact .refl _)))
theorem State.auxGo_keeps (s : State) (addr : Nat) (wlen : Nat) (rlen : Nat) : Keeps s (State.auxGo s addr wlen rlen)
    := by
  unfold State.auxGo
  exact Keeps.ite (.refl _) (Keeps.set_aux_wire (State.wr_keeps _ _ _))
theorem execAuxGo_keeps (addr : BitVec 7) (wlen : BitVec 8) (rlen : BitVec 8) (s : State) : OutKeeps s (execAuxGo addr
    wlen rlen s) := by
  unfold execAuxGo
  exact Keeps.done (Keeps.when (.refl _) (fun _ => (State.auxGo_keeps _ _ _ _)))
theorem State.auxBytes_keeps (s : State) (x1 : Nat) (x2 : List Byte) : Keeps s (State.auxBytes s x1 x2) := by
  unfold State.auxBytes
  split
  · exact .refl _
  · exact Keeps.trans (State.put_keeps _ _ _ _) (State.auxBytes_keeps _ _ _)
theorem execAuxTransferEnd_keeps (result : AuxEnd) (got : Fin 33) (bytes : Vector (BitVec 8) 32) (s : State) :
    OutKeeps s (execAuxTransferEnd result got bytes s) := by
  unfold execAuxTransferEnd
  exact Keeps.done (Keeps.when (.refl _) (fun _ => (by
        dsimp only
        split
        · exact Keeps.trans (Keeps.trans (State.auxBytes_keeps _ _ _) (State.putB_keeps _ _ _ _)) (State.putB_keeps _
              _ _ _)
        · exact Keeps.trans (Keeps.trans (Keeps.trans (State.auxBytes_keeps _ _ _) (State.putB_keeps _ _ _ _))
              (State.putB_keeps _ _ _ _)) (State.putB_keeps _ _ _ _)
        · exact Keeps.trans (Keeps.trans (Keeps.trans (Keeps.trans (State.auxBytes_keeps _ _ _) (State.putB_keeps _ _
              _ _)) (State.putB_keeps _ _ _ _)) (State.putB_keeps _ _ _ _)) (State.raise_keeps _ _ _ _ _)
        · exact Keeps.trans (Keeps.trans (Keeps.trans (Keeps.trans (State.auxBytes_keeps _ _ _) (State.putB_keeps _ _
              _ _)) (State.putB_keeps _ _ _ _)) (State.putB_keeps _ _ _ _)) (State.raise_keeps _ _ _ _ _))))

/-! ### Write -/

theorem State.actWrite_keeps (s : State) (v : Nat) : Keeps s (State.actWrite s v) := by
  unfold State.actWrite
  exact Keeps.ite (.refl _) (State.put_keeps _ _ _ _)
theorem execSysActWrite_keeps (v : BitVec 3) (s : State) : OutKeeps s (execSysActWrite v s) := by
  unfold execSysActWrite
  exact Keeps.done (Keeps.when (.refl _) (fun _ => (State.actWrite_keeps _ _)))
theorem State.protRefuse_keeps (s : State) (code : Nat) : Keeps s (State.protRefuse s code) := by
  unfold State.protRefuse
  exact Keeps.trans (State.putB_keeps _ _ _ _) (State.raise_keeps _ _ _ _ _)
theorem State.windowSet_keeps (s : State) (src : Nat) (block : Nat) : Keeps s (State.windowSet s src block) := by
  unfold State.windowSet
  exact Keeps.trans (Keeps.set_sys (.refl _)) (State.wr_keeps _ _ _)
theorem State.keyGone_keeps (s : State) (src : Nat) : Keeps s (State.keyGone s src) := by
  unfold State.keyGone
  exact Keeps.set_sys (.refl _)
theorem State.closeKey_keeps (s : State) (src : Nat) : Keeps s (State.closeKey s src) := by
  unfold State.closeKey
  split
  · exact Keeps.ite (State.closeWindow_keeps _) (.refl _)
  · exact .refl _
theorem State.keyWrite_keeps (s : State) (src : Nat) (key : Nat) (block : Nat) : Keeps s (State.keyWrite s src key
    block) := by
  unfold State.keyWrite
  dsimp only
  split
  · exact Keeps.trans (State.keyGone_keeps _ _) (State.protRefuse_keeps _ _)
  · exact Keeps.ite (Keeps.trans (State.keyGone_keeps _ _) (State.closeKey_keeps _ _)) (Keeps.ite (Keeps.set_sys
        (State.keyGone_keeps _ _)) (Keeps.trans (State.keyGone_keeps _ _) (State.windowSet_keeps _ _ _)))
theorem execFirstKey_keeps (block : BitVec 5) (s : State) : OutKeeps s (execFirstKey block s) := by
  unfold execFirstKey
  exact Keeps.done (Keeps.when (.refl _) (fun _ => (State.keyWrite_keeps _ _ _ _)))
theorem execUnlock_keeps (block : BitVec 5) (s : State) : OutKeeps s (execUnlock block s) := by
  unfold execUnlock
  exact Keeps.done (Keeps.when (.refl _) (fun _ => (State.keyWrite_keeps _ _ _ _)))
theorem execClose_keeps (s : State) : OutKeeps s (execClose s) := by
  unfold execClose
  exact Keeps.done (Keeps.when (.refl _) (fun _ => (State.keyWrite_keeps _ _ _ _)))
theorem execUnlockWindowExpiry_keeps (s : State) : OutKeeps s (execUnlockWindowExpiry s) := by
  unfold execUnlockWindowExpiry
  exact Keeps.done (Keeps.when (.refl _) (fun _ => (State.closeWindow_keeps _)))
theorem State.leftTick_keeps (s : State) : Keeps s (State.leftTick s) := by
  unfold State.leftTick
  split
  · exact State.put_keeps _ _ _ _
  · exact .refl _
theorem State.measure_keeps (s : State) (a : Nat) (v : Word) : Keeps s (State.measure s a v) := by
  unfold State.measure
  exact Keeps.trans (State.extend_keeps _ _ _) (State.raise_keeps _ _ _ _ _)
theorem State.writeSys_keeps (s : State) (a : Nat) (src : Nat) (v : Word) (w : Word) : Keeps s (State.writeSys s a src
    v w) := by
  unfold State.writeSys
  exact Keeps.ite (State.keyWrite_keeps _ _ _ _) (Keeps.ite (State.actWrite_keeps _ _) (Keeps.ite (Keeps.trans
      (State.wr_keeps _ _ _) (State.closeWindow_keeps _)) (Keeps.ite (Keeps.trans (State.wr_keeps _ _ _)
      (State.toSource_keeps _ _)) (State.wr_keeps _ _ _))))
theorem State.writeFlt_keeps (s : State) (a : Nat) (i : Nat) (v : Word) (w : Word) : Keeps s (State.writeFlt s a i v
    w) := by
  unfold State.writeFlt
  exact Keeps.ite (State.stickyClear_keeps _ _ _) (Keeps.ite (State.forceAll_keeps _ _ _) (State.faultWrite_keeps _ _
      _))
theorem State.writeIc_keeps (s : State) (a : Nat) (i : Nat) (v : Word) (w : Word) : Keeps s (State.writeIc s a i v w)
    := by
  unfold State.writeIc
  exact Keeps.ite (State.doorbell_keeps _ _) (Keeps.ite (State.wr_keeps _ _ _) (State.wr_keeps _ _ _))
theorem State.phCtlWrite_keeps (s : State) (n : Fin 16) (v : Word) : Keeps s (State.phCtlWrite s n v) := by
  unfold State.phCtlWrite
  exact Keeps.ite (Keeps.trans (Keeps.ite (State.fenceWrite_keeps _ _) (.refl _)) (State.updPhase_keeps _ _ _))
      (Keeps.ite (State.fenceWrite_keeps _ _) (.refl _))
theorem State.loopCtlWrite_keeps (s : State) (m : Fin 4) (w : Word) : Keeps s (State.loopCtlWrite s m w) := by
  unfold State.loopCtlWrite
  exact Keeps.trans (State.wr_keeps _ _ _) (State.railWrite_keeps _ _ _)
theorem State.bankWrite_keeps (s : State) (m : Fin 4) (bank : Nat) (a : Nat) (w : Word) (dsh : Bool) : Keeps s
    (State.bankWrite s m bank a w dsh) := by
  unfold State.bankWrite
  exact Keeps.ite (State.putB_keeps _ _ _ _) (Keeps.ite (.refl _) (State.wr_keeps _ _ _))
theorem State.writePe_keeps (s : State) (a : Nat) (ix : List Nat) (v : Word) (w : Word) : Keeps s (State.writePe s a
    ix v w) := by
  unfold State.writePe
  exact Keeps.ite (State.phCfgWrite_keeps _ _ _) (Keeps.ite (State.phCtlWrite_keeps _ _ _) (Keeps.ite
      (State.loopCtlWrite_keeps _ _ _) (Keeps.ite (Keeps.trans (State.put_keeps _ _ _ _) (State.loopCodeWrite_keeps _
      _ _)) (Keeps.ite (Keeps.ite (Keeps.trans (Keeps.trans (State.wr_keeps _ _ _) (State.updLoop_keeps _ _ _))
      (State.syncOff_keeps _ _)) (Keeps.trans (State.wr_keeps _ _ _) (State.updLoop_keeps _ _ _))) (Keeps.ite
      (State.bankWrite_keeps _ _ _ _ _ _) (Keeps.ite (State.bankWrite_keeps _ _ _ _ _ _) (State.wr_keeps _ _ _)))))))
theorem State.regCtlWrite_keeps (s : State) (r : Fin 14) (w : Word) : Keeps s (State.regCtlWrite s r w) := by
  unfold State.regCtlWrite
  exact Keeps.trans (Keeps.ite (Keeps.trans (State.wr_keeps _ _ _) (State.raise_keeps _ _ _ _ _)) (State.wr_keeps _ _
      _)) (State.railWrite_keeps _ _ _)
theorem State.writeReg_keeps (s : State) (a : Nat) (i : Nat) (w : Word) : Keeps s (State.writeReg s a i w) := by
  unfold State.writeReg
  exact Keeps.ite (State.regCtlWrite_keeps _ _ _) (Keeps.ite (Keeps.ite (.refl _) (State.regCodeWrite_keeps _ _ _))
      (State.wr_keeps _ _ _))
theorem State.writePath_keeps (s : State) (a : Nat) (i : Nat) (v : Word) (w : Word) : Keeps s (State.writePath s a i v
    w) := by
  unfold State.writePath
  exact Keeps.ite (Keeps.ite (Keeps.trans (State.wr_keeps _ _ _) (State.feedDisable_keeps _ _)) (State.wr_keeps _ _
      _)) (Keeps.ite (Keeps.ite (State.updChg_keeps _ _) (.refl _)) (State.chgWrite_keeps _ _ _))
theorem State.urgentOpen_keeps (s : State) (q : Fin 2) (j : Fin 8) (v : Word) : Keeps s (State.urgentOpen s q j v) :=
    by
  unfold State.urgentOpen
  exact Keeps.trans (State.free_keeps _) (State.urgentWrite_keeps _ _ _ _ _ _)
theorem State.writeAdc_keeps (s : State) (a : Nat) (ix : List Nat) (v : Word) (w : Word) : Keeps s (State.writeAdc s a
    ix v w) := by
  unfold State.writeAdc
  exact Keeps.ite (Keeps.ite (State.urgentOpen_keeps _ _ _ _) (State.wr_keeps _ _ _)) (State.adcWrite_keeps _ _ _)
theorem State.writeCtx_keeps (s : State) (a : Nat) (i : Nat) (v : Word) (w : Word) : Keeps s (State.writeCtx s a i v
    w) := by
  unfold State.writeCtx
  exact Keeps.dite (fun _ => (State.contextWrite_keeps _ _ _ _)) (fun _ => (State.wr_keeps _ _ _))
theorem State.seqCmdWrite_keeps (s : State) (t : Fin 4) (v : Word) : Keeps s (State.seqCmdWrite s t v) := by
  unfold State.seqCmdWrite
  dsimp only
  split
  · exact State.updThr_keeps _ _ _
  · exact State.updThr_keeps _ _ _
  · exact .refl _
theorem State.writeSeq_keeps (s : State) (a : Nat) (i : Nat) (v : Word) (w : Word) : Keeps s (State.writeSeq s a i v
    w) := by
  unfold State.writeSeq
  exact Keeps.ite (State.storeWrite_keeps _ _ _) (Keeps.ite (State.labelWrite_keeps _ _ _) (Keeps.ite
      (State.flagsSet_keeps _ _) (Keeps.ite (State.flagsClear_keeps _ _) (Keeps.ite (State.seqCmdWrite_keeps _ _ _)
      (State.wr_keeps _ _ _)))))
theorem State.nvCmd_keeps (s : State) (c : Nat) : Keeps s (State.nvCmd s c) := by
  unfold State.nvCmd
  split
  · exact State.burinWrite_keeps _
  · exact State.burinErase_keeps _
  · exact State.burinResume_keeps _
  · exact .refl _
theorem State.writePlate_keeps (s : State) (a : Nat) (v : Word) (w : Word) : Keeps s (State.writePlate s a v w) := by
  unfold State.writePlate
  exact Keeps.ite (Keeps.ite (State.snapAsk_keeps _ _) (.refl _)) (Keeps.ite (State.cursorWrite_keeps _ _) (Keeps.ite
      (State.nvCmd_keeps _ _) (State.wr_keeps _ _ _)))
theorem State.writeRtc_keeps (s : State) (a : Nat) (v : Word) (w : Word) : Keeps s (State.writeRtc s a v w) := by
  unfold State.writeRtc
  exact Keeps.ite (State.rtcCmd_keeps _ _) (Keeps.ite (State.trimWrite_keeps _ _) (Keeps.ite (State.wakeWrite_keeps _
      _) (State.wr_keeps _ _ _)))
theorem State.writePort_keeps (s : State) (a : Nat) (i : Nat) (v : Word) (w : Word) : Keeps s (State.writePort s a i v
    w) := by
  unfold State.writePort
  split
  · exact State.txWord_keeps _ _ _
  · exact Keeps.ite (State.rxDrop_keeps _ _) (.refl _)
  · exact Keeps.ite (State.htxWrite_keeps _ _) (Keeps.ite (Keeps.ite (State.auxGo_keeps _ _ _ _) (.refl _)) (Keeps.ite
        (.refl _) (State.wr_keeps _ _ _)))
theorem State.writeBurin_keeps (s : State) (a : Nat) (v : Word) (w : Word) : Keeps s (State.writeBurin s a v w) := by
  unfold State.writeBurin
  exact Keeps.ite (Keeps.ite (Keeps.trans (State.wr_keeps _ _ _) (State.extendGo_keeps _ _)) (State.wr_keeps _ _ _))
      (Keeps.ite (Keeps.ite (State.readyWrite_keeps _) (.refl _)) (Keeps.ite (Keeps.ite (State.proofGo_keeps _) (.refl
      _)) (State.wr_keeps _ _ _)))
theorem State.writeTo_keeps (s : State) (blk : Nat) (a : Nat) (ix : List Nat) (src : Nat) (v : Word) (w : Word) :
    Keeps s (State.writeTo s blk a ix src v w) := by
  unfold State.writeTo
  dsimp only
  split
  · exact State.writeSys_keeps _ _ _ _ _
  · exact Keeps.ite (Keeps.ite (State.standbyReq_keeps _) (.refl _)) (State.wr_keeps _ _ _)
  · exact State.writeFlt_keeps _ _ _ _ _
  · exact Keeps.ite (State.wdCheckin_keeps _ _ _) (State.wdWrite_keeps _ _ _)
  · exact State.writeIc_keeps _ _ _ _ _
  · exact State.writePe_keeps _ _ _ _ _
  · exact State.writeReg_keeps _ _ _ _
  · exact State.writePath_keeps _ _ _ _ _
  · exact Keeps.ite (State.socWrite_keeps _ _) (State.wr_keeps _ _ _)
  · exact State.writeAdc_keeps _ _ _ _ _
  · exact State.writeCtx_keeps _ _ _ _ _
  · exact State.thermalWrite_keeps _ _ _
  · exact State.writeSeq_keeps _ _ _ _ _
  · exact State.writePlate_keeps _ _ _ _
  · exact State.writeRtc_keeps _ _ _ _
  · exact State.writePort_keeps _ _ _ _ _
  · exact State.writeBurin_keeps _ _ _ _
theorem State.burinOnly_keeps (s : State) (blk : Nat) : Keeps s (State.burinOnly s blk) := by
  unfold State.burinOnly
  exact Keeps.ite (State.raise_keeps _ _ _ _ _) (State.raise_keeps _ _ _ _ _)
theorem State.regWrite_keeps (s : State) (blk : Nat) (a : Nat) (d : RegDef) (ix : List Nat) (v : Word) : Keeps s
    (State.regWrite s blk a d ix v) := by
  unfold State.regWrite
  exact Keeps.trans (State.writeTo_keeps _ _ _ _ _ _ _) (State.lock_keeps _ _ _)
theorem State.protWrite_keeps (s : State) (blk : Nat) (a : Nat) (d : RegDef) (ix : List Nat) (v : Word) : Keeps s
    (State.protWrite s blk a d ix v).1 := by
  unfold State.protWrite
  split
  · exact Keeps.pair1 (State.protRefuse_keeps _ _)
  · exact Keeps.pair1 (Keeps.trans (Keeps.trans (State.windowSet_keeps _ _ _) (State.measure_keeps _ _ _))
        (State.regWrite_keeps _ _ _ _ _ _))
theorem State.busError_keeps (s : State) : Keeps s (State.busError s) := by
  unfold State.busError
  exact Keeps.ite (Keeps.set_proc (.refl _)) (.refl _)
theorem State.keyCancel_keeps (s : State) (blk : Nat) (a : Nat) : Keeps s (State.keyCancel s blk a) := by
  unfold State.keyCancel
  exact Keeps.ite (State.keyGone_keeps _ _) (.refl _)
theorem State.busWrite_keeps (s : State) (a : Nat) (v : Word) : Keeps s (State.busWrite s a v).1 := by
  unfold State.busWrite
  split
  · dsimp only
    split
    · exact Keeps.pair1 (State.keyCancel_keeps _ _ _)
    · exact Keeps.fst_ite (Keeps.pair1 (Keeps.trans (State.keyCancel_keeps _ _ _) (State.burinOnly_keeps _ _)))
          (Keeps.fst_ite (Keeps.trans (State.keyCancel_keeps _ _ _) (State.protWrite_keeps _ _ _ _ _ _)) (Keeps.pair1
          (Keeps.trans (State.keyCancel_keeps _ _ _) (State.regWrite_keeps _ _ _ _ _ _))))
  · exact Keeps.fst_ite (Keeps.pair1 (.refl _)) (Keeps.fst_ite (Keeps.pair1 (Keeps.itcmWrite (.refl _)))
        (Keeps.fst_ite (Keeps.pair1 (Keeps.dtcmWrite (.refl _))) (Keeps.pair1 (State.busError_keeps _))))
theorem execRegisterWrite_keeps (a : BitVec 32) (v : BitVec 32) (s : State) : OutKeeps s (execRegisterWrite a v s) :=
    by
  unfold execRegisterWrite
  exact Keeps.done (Keeps.when (.refl _) (fun _ => (State.busWrite_keeps _ _ _)))
theorem execProtectedWrite_keeps (a : BitVec 32) (v : BitVec 32) (s : State) : OutKeeps s (execProtectedWrite a v s)
    := by
  unfold execProtectedWrite
  exact Keeps.done (Keeps.when (.refl _) (fun _ => (State.busWrite_keeps _ _ _)))
theorem execPhCfgWrite_keeps (n : Fin 16) (v : Word) (s : State) : OutKeeps s (execPhCfgWrite n v s) := by
  unfold execPhCfgWrite
  exact Keeps.done (Keeps.when (.refl _) (fun _ => (State.busWrite_keeps _ _ _)))
theorem execLabelWrite_keeps (i : Fin 64) (v : Word) (s : State) : OutKeeps s (execLabelWrite i v s) := by
  unfold execLabelWrite
  exact Keeps.done (Keeps.when (.refl _) (fun _ => (State.busWrite_keeps _ _ _)))
theorem execContextWrite_keeps (i : Fin 160) (k : Fin 5) (v : Word) (s : State) : OutKeeps s (execContextWrite i k v
    s) := by
  unfold execContextWrite
  exact Keeps.done (Keeps.when (.refl _) (fun _ => (State.busWrite_keeps _ _ _)))
theorem execRtcTrimWrite_keeps (v : BitVec 8) (s : State) : OutKeeps s (execRtcTrimWrite v s) := by
  unfold execRtcTrimWrite
  exact Keeps.done (Keeps.when (.refl _) (fun _ => (State.busWrite_keeps _ _ _)))
theorem execForceRaise_keeps (n : BitVec 8) (s : State) : OutKeeps s (execForceRaise n s) := by
  unfold execForceRaise
  exact Keeps.done (Keeps.when (.refl _) (fun _ => (State.busWrite_keeps _ _ _)))
theorem execGgSocWrite_keeps (v : Word) (s : State) : OutKeeps s (execGgSocWrite v s) := by
  unfold execGgSocWrite
  exact Keeps.done (Keeps.when (.refl _) (fun _ => (State.busWrite_keeps _ _ _)))
theorem execNvWrite_keeps (s : State) : OutKeeps s (execNvWrite s) := by
  unfold execNvWrite
  exact Keeps.done (Keeps.when (.refl _) (fun _ => (State.busWrite_keeps _ _ _)))
theorem execErase_keeps (s : State) : OutKeeps s (execErase s) := by
  unfold execErase
  exact Keeps.done (Keeps.when (.refl _) (fun _ => (State.busWrite_keeps _ _ _)))
theorem execResume_keeps (s : State) : OutKeeps s (execResume s) := by
  unfold execResume
  exact Keeps.done (Keeps.when (.refl _) (fun _ => (State.busWrite_keeps _ _ _)))
theorem execStencilStoreWrite_keeps (i : Fin 6144) (v : BitVec 32) (s : State) : OutKeeps s (execStencilStoreWrite i v
    s) := by
  unfold execStencilStoreWrite
  exact Keeps.done (Keeps.when (.refl _) (fun _ => (State.busWrite_keeps _ _ _)))
theorem State.regRead_keeps (s : State) (a : Nat) : Keeps s (State.regRead s a).2 := by
  unfold State.regRead
  exact Keeps.snd_ite (Keeps.snd_ite (State.claim_keeps _) (Keeps.pair2 (.refl _))) (Keeps.snd_ite (Keeps.pair2
      (State.updPlate_keeps _ _)) (Keeps.snd_ite (Keeps.pair2 (State.updPlate_keeps _ _)) (Keeps.snd_ite (Keeps.pair2
      (State.updGg_keeps _ _)) (Keeps.snd_ite (Keeps.pair2 (State.updGg_keeps _ _)) (Keeps.snd_ite (Keeps.pair2
      (State.updGg_keeps _ _)) (Keeps.snd_ite (Keeps.pair2 (State.updGg_keeps _ _)) (Keeps.snd_ite
      (State.secLoRead_keeps _) (Keeps.snd_ite (Keeps.pair2 (.refl _)) (Keeps.snd_ite (Keeps.pair2 (.refl _))
      (Keeps.snd_ite (Keeps.pair2 (.refl _)) (Keeps.snd_ite (State.optLoRead_keeps _) (Keeps.snd_ite (Keeps.pair2
      (.refl _)) (Keeps.snd_ite (State.hrxWord_keeps _) (by
        split
        · exact State.rxWord_keeps _ _
        · exact Keeps.pair2 (.refl _)))))))))))))))
theorem State.busRead_keeps (s : State) (a : Nat) : Keeps s (State.busRead s a).2.2 := by
  unfold State.busRead
  split
  · exact Keeps.pair3 (Keeps.pair2 (State.regRead_keeps _ _))
  · exact Keeps.snd2_ite (Keeps.pair3 (Keeps.pair2 (.refl _))) (Keeps.snd2_ite (Keeps.pair3 (Keeps.pair2 (.refl _)))
        (Keeps.snd2_ite (Keeps.pair3 (Keeps.pair2 (.refl _))) (Keeps.snd2_ite (Keeps.pair3 (Keeps.pair2 (.refl _)))
        (Keeps.snd2_ite (Keeps.pair3 (Keeps.pair2 (.refl _))) (Keeps.pair3 (Keeps.pair2 (State.busError_keeps _)))))))

/-! ### Firmware -/

theorem State.takePacket_keeps (s : State) (t : Fin 96) : Keeps s (State.takePacket s t) := by
  unfold State.takePacket
  exact Keeps.trans (Keeps.set_fw (.refl _)) (State.updPort_keeps _ _ _)
theorem State.deliver_keeps (s : State) (p : Port) (ws : List Word) : Keeps s (State.deliver s p ws) := by
  unfold State.deliver
  exact Keeps.ite (.refl _) (Keeps.ite (Keeps.trans (State.frameError_keeps _ _) (State.refuse_keeps _ _ _ _))
      (State.arrive_keeps _ _ _ _))
theorem State.reply_keeps (s : State) (t : Fin 96) (p : Port) (status : Nat) (pay : List Word) : Keeps s (State.reply
    s t p status pay) := by
  unfold State.reply
  exact Keeps.ite (State.answer_keeps _ _ _ _) (Keeps.ite (State.bump_keeps _ _ _) (.refl _))
theorem State.defer_keeps (s : State) (t : Fin 96) (a : Answer) : Keeps s (State.defer s t a) := by
  unfold State.defer
  exact Keeps.set_fw (.refl _)
theorem State.perform_keeps (s : State) (t : Fin 96) (ports : List Port) (pay : List Word) (ok : List Word → Bool)
    (run : State → Port → List Word → State × Reply) (hr : ∀ x p l, Keeps x (run x p l).1) :
    Keeps s (s.perform t ports pay ok run) := by
  unfold State.perform
  have h := hr (s.takePacket t) s.tags[t].port pay
  refine Keeps.ite ?_ (Keeps.ite ?_ ?_)
  · exact .trans (State.takePacket_keeps _ _) (State.reply_keeps _ _ _ _ _)
  · exact .trans (State.takePacket_keeps _ _) (State.reply_keeps _ _ _ _ _)
  · split
    · rename_i w status l e; rw [e] at h
      exact ((State.takePacket_keeps _ _).trans h).trans (State.reply_keeps _ _ _ _ _)
    · rename_i w a e; rw [e] at h
      exact ((State.takePacket_keeps _ _).trans h).trans (State.defer_keeps _ _ _)
    · exact .refl s
theorem State.hostCommand_keeps (s : State) (code : Nat) (ports : List Port) (c : HostCmd) (ok : List Word → Bool)
    (run : State → Port → List Word → State × Reply) (hr : ∀ x p l, Keeps x (run x p l).1) :
    Keeps s (s.hostCommand code ports c ok run) := by
  have hd : ∀ ws, Keeps s (s.deliver c.port ws) := fun ws => State.deliver_keeps _ _ _
  unfold State.hostCommand
  split
  · exact hd _
  · exact Keeps.ite (.trans (Keeps.ite (.refl s) (hd _)) (State.perform_keeps _ _ _ _ _ _ hr))
      (Keeps.ite (.refl s) (hd _))
theorem State.actLater_keeps (s : State) (standby : Bool) (t : Nat) : Keeps s (State.actLater s standby t) := by
  unfold State.actLater
  exact Keeps.set_fw (.refl _)
theorem State.answerDone_keeps (s : State) (t : Fin 96) (a : Answer) : Keeps s (State.answerDone s t a) := by
  unfold State.answerDone
  split
  · exact State.putB_keeps _ _ _ _
  · exact Keeps.ite (State.actLater_keeps _ _ _) (.refl _)
  · exact .refl _
theorem State.answerWrite_keeps (s : State) (p : Port) (t : Fin 96) : Keeps s (State.answerWrite s p t) := by
  unfold State.answerWrite
  split
  · exact .refl _
  · exact Keeps.ite (.refl _) (Keeps.trans (Keeps.trans (Keeps.set_fw (.refl _)) (State.answerDone_keeps _ _ _))
        (State.reply_keeps _ _ _ _ _))
theorem execResponseWrite_keeps (p : Port) (r : Response) (s : State) : OutKeeps s (execResponseWrite p r s) := by
  unfold execResponseWrite
  exact Keeps.done (Keeps.when (.refl _) (fun _ => (by
        split
        · exact State.answerWrite_keeps _ _ _
        · exact Keeps.foldl (.refl _) (fun _ _ => (State.txWord_keeps _ _ _)))))
theorem State.standbyAct_keeps (s : State) : Keeps s (State.standbyAct s) := by
  unfold State.standbyAct
  exact Keeps.trans (Keeps.trans (State.estStandby_keeps _) (State.nvFlush_keeps _)) (State.standbyReq_keeps _)
theorem State.actAll_keeps (s : State) (x1 : List (Bool × Nat × Nat)) : Keeps s (State.actAll s x1) := by
  unfold State.actAll
  split
  · exact .refl _
  · exact Keeps.ite (.refl _) (Keeps.ite (State.actAll_keeps _ _) (Keeps.trans (Keeps.ite (Keeps.trans (Keeps.set_fw
        (.refl _)) (State.standbyAct_keeps _)) (Keeps.trans (Keeps.set_fw (.refl _)) (State.procReset_keeps _ _)))
        (State.actAll_keeps _ _)))
theorem State.actTick_keeps (s : State) : Keeps s (State.actTick s) := by
  unfold State.actTick
  exact State.actAll_keeps _ _
theorem execSessionTimeout_keeps (s : State) : OutKeeps s (execSessionTimeout s) := by
  unfold execSessionTimeout
  exact Keeps.done (Keeps.when (.refl _) (fun _ => (Keeps.set_fw (.refl _))))

/-! ### Commands -/

theorem execIdentify_keeps (c : HostCmd) (s : State) : OutKeeps s (execIdentify c s) := by
  unfold execIdentify
  exact Keeps.done (State.hostCommand_keeps _ _ _ _ _ _ (fun _ _ _ => (Keeps.pair1 (.refl _))))
theorem execStatus_keeps (c : HostCmd) (s : State) : OutKeeps s (execStatus c s) := by
  unfold execStatus
  exact Keeps.done (State.hostCommand_keeps _ _ _ _ _ _ (fun _ _ _ => (Keeps.pair1 (.refl _))))
theorem execRestart_keeps (c : HostCmd) (s : State) : OutKeeps s (execRestart c s) := by
  unfold execRestart
  exact Keeps.done (State.hostCommand_keeps _ _ _ _ _ _ (fun _ _ _ => (Keeps.pair1 (State.actLater_keeps _ _ _))))
theorem execStandby_keeps (c : HostCmd) (s : State) : OutKeeps s (execStandby c s) := by
  unfold execStandby
  exact Keeps.done (State.hostCommand_keeps _ _ _ _ _ _ (fun _ _ _ => (Keeps.fst_ite (Keeps.pair1
      (State.actLater_keeps _ _ _)) (Keeps.pair1 (.refl _)))))
theorem execFuseWd_keeps (c : HostCmd) (s : State) : OutKeeps s (execFuseWd c s) := by
  unfold execFuseWd
  exact Keeps.done (State.hostCommand_keeps _ _ _ _ _ _ (fun _ _ _ => (Keeps.fst_ite (Keeps.pair1 (.refl _))
      (Keeps.fst_ite (Keeps.pair1 (.refl _)) (Keeps.pair1 (Keeps.set_fuse (.refl _)))))))
theorem execTelemRead_keeps (c : HostCmd) (ecc : List EccRead) (s : State) : OutKeeps s (execTelemRead c ecc s) := by
  unfold execTelemRead
  exact Keeps.done (Keeps.trans (Keeps.trans (State.eccFlip_keeps _ _) (State.deliver_keeps _ _ _))
      (State.eccReads_keeps _ _))
theorem execWdCheckin_keeps (c : HostCmd) (clock : BitVec 12) (s : State) : OutKeeps s (execWdCheckin c clock s) := by
  unfold execWdCheckin
  exact Keeps.done (Keeps.when (.refl _) (fun _ => (Keeps.trans (State.clockAt_keeps _ _) (State.deliver_keeps _ _
      _))))
theorem execAdcUrgent_keeps (c : HostCmd) (s : State) : OutKeeps s (execAdcUrgent c s) := by
  unfold execAdcUrgent
  exact Keeps.done (State.hostCommand_keeps _ _ _ _ _ _ (fun _ _ _ => (by
        dsimp only
        split
        · exact Keeps.pair1 (.refl _)
        · exact Keeps.fst_ite (Keeps.pair1 (.refl _)) (Keeps.pair1 (Keeps.trans (State.putB_keeps _ _ _ _)
              (State.urgentOpen_keeps _ _ _ _))))))
theorem execFaultRead_keeps (c : HostCmd) (s : State) : OutKeeps s (execFaultRead c s) := by
  unfold execFaultRead
  exact Keeps.done (State.hostCommand_keeps _ _ _ _ _ _ (fun _ _ _ => (Keeps.pair1 (.refl _))))
theorem State.clearAll_keeps (s : State) (pay : List Word) : Keeps s (State.clearAll s pay) := by
  unfold State.clearAll
  exact Keeps.foldl (.refl _) (fun _ _ => (State.stickyClear_keeps _ _ _))
theorem execFaultClear_keeps (c : HostCmd) (s : State) : OutKeeps s (execFaultClear c s) := by
  unfold execFaultClear
  exact Keeps.done (State.hostCommand_keeps _ _ _ _ _ _ (fun _ _ _ => (Keeps.pair1 (State.clearAll_keeps _ _))))
theorem State.railCommand_keeps (s : State) (on : Bool) (pay : List Word) : Keeps s (State.railCommand s on pay).1 :=
    by
  unfold State.railCommand
  split
  · exact Keeps.pair1 (.refl _)
  · exact Keeps.fst_ite (Keeps.pair1 (.refl _)) (Keeps.fst_ite (Keeps.pair1 (.refl _)) (Keeps.pair1
        (State.railWrite_keeps _ _ _)))
theorem execRailEnable_keeps (c : HostCmd) (s : State) : OutKeeps s (execRailEnable c s) := by
  unfold execRailEnable
  exact Keeps.done (State.hostCommand_keeps _ _ _ _ _ _ (fun _ _ _ => (State.railCommand_keeps _ _ _)))
theorem execRailDisable_keeps (c : HostCmd) (s : State) : OutKeeps s (execRailDisable c s) := by
  unfold execRailDisable
  exact Keeps.done (State.hostCommand_keeps _ _ _ _ _ _ (fun _ _ _ => (State.railCommand_keeps _ _ _)))
theorem execRailSetV_keeps (c : HostCmd) (s : State) : OutKeeps s (execRailSetV c s) := by
  unfold execRailSetV
  exact Keeps.done (State.hostCommand_keeps _ _ _ _ _ _ (fun _ _ _ => (by
        dsimp only
        split
        · exact Keeps.pair1 (.refl _)
        · split
          · exact Keeps.pair1 (.refl _)
          · exact Keeps.fst_ite (Keeps.pair1 (.refl _)) (Keeps.fst_ite (Keeps.pair1 (.refl _)) (Keeps.pair1
                (State.railSetV_keeps _ _ _))))))
theorem execRailStatus_keeps (c : HostCmd) (s : State) : OutKeeps s (execRailStatus c s) := by
  unfold execRailStatus
  exact Keeps.done (State.hostCommand_keeps _ _ _ _ _ _ (fun _ _ _ => (by
        split
        · exact Keeps.pair1 (.refl _)
        · exact Keeps.pair1 (.refl _))))
theorem execPhaseSubst_keeps (c : HostCmd) (s : State) : OutKeeps s (execPhaseSubst c s) := by
  unfold execPhaseSubst
  exact Keeps.done (State.hostCommand_keeps _ _ _ _ _ _ (fun _ _ _ => (Keeps.pair1 (State.phCtlWrite_keeps _ _ _))))
theorem execThreadStart_keeps (c : HostCmd) (s : State) : OutKeeps s (execThreadStart c s) := by
  unfold execThreadStart
  exact Keeps.done (State.hostCommand_keeps _ _ _ _ _ _ (fun _ _ _ => (Keeps.pair1 (State.seqCmdWrite_keeps _ _ _))))
theorem execThreadStop_keeps (c : HostCmd) (s : State) : OutKeeps s (execThreadStop c s) := by
  unfold execThreadStop
  exact Keeps.done (State.hostCommand_keeps _ _ _ _ _ _ (fun _ _ _ => (Keeps.pair1 (State.seqCmdWrite_keeps _ _ _))))
theorem execSeqFlags_keeps (c : HostCmd) (s : State) : OutKeeps s (execSeqFlags c s) := by
  unfold execSeqFlags
  exact Keeps.done (State.hostCommand_keeps _ _ _ _ _ _ (fun _ _ _ => (Keeps.pair1 (Keeps.trans
      (State.flagsClear_keeps _ _) (State.flagsSet_keeps _ _)))))
theorem execThreadStatus_keeps (c : HostCmd) (s : State) : OutKeeps s (execThreadStatus c s) := by
  unfold execThreadStatus
  exact Keeps.done (State.hostCommand_keeps _ _ _ _ _ _ (fun _ _ _ => (Keeps.pair1 (.refl _))))
theorem execCharge_keeps (c : HostCmd) (s : State) : OutKeeps s (execCharge c s) := by
  unfold execCharge
  exact Keeps.done (State.hostCommand_keeps _ _ _ _ _ _ (fun _ _ _ => (Keeps.fst_ite (Keeps.pair1 (.refl _))
      (Keeps.pair1 (State.updChg_keeps _ _)))))
theorem execChargeStatus_keeps (c : HostCmd) (s : State) : OutKeeps s (execChargeStatus c s) := by
  unfold execChargeStatus
  exact Keeps.done (State.hostCommand_keeps _ _ _ _ _ _ (fun _ _ _ => (Keeps.pair1 (.refl _))))
theorem execGaugeRead_keeps (c : HostCmd) (s : State) : OutKeeps s (execGaugeRead c s) := by
  unfold execGaugeRead
  exact Keeps.done (State.hostCommand_keeps _ _ _ _ _ _ (fun _ _ _ => (Keeps.pair1 (.refl _))))
theorem execGaugeMode_keeps (c : HostCmd) (s : State) : OutKeeps s (execGaugeMode c s) := by
  unfold execGaugeMode
  exact Keeps.done (State.hostCommand_keeps _ _ _ _ _ _ (fun _ _ _ => (Keeps.pair1 (State.put_keeps _ _ _ _))))
theorem execGaugeCells_keeps (c : HostCmd) (s : State) : OutKeeps s (execGaugeCells c s) := by
  unfold execGaugeCells
  exact Keeps.done (State.hostCommand_keeps _ _ _ _ _ _ (fun _ _ _ => (Keeps.pair1 (.refl _))))
theorem execPlateInfo_keeps (c : HostCmd) (s : State) : OutKeeps s (execPlateInfo c s) := by
  unfold execPlateInfo
  exact Keeps.done (State.hostCommand_keeps _ _ _ _ _ _ (fun _ _ _ => (Keeps.pair1 (.refl _))))
theorem execPlateRead_keeps (c : HostCmd) (ecc : List EccRead) (s : State) : OutKeeps s (execPlateRead c ecc s) := by
  unfold execPlateRead
  exact Keeps.done (State.hostCommand_keeps _ _ _ _ _ _ (fun _ _ _ => (Keeps.pair1 (Keeps.trans (State.eccFlip_keeps _
      _) (State.eccReads_keeps _ _)))))
theorem execPlateSnapshot_keeps (c : HostCmd) (s : State) : OutKeeps s (execPlateSnapshot c s) := by
  unfold execPlateSnapshot
  exact Keeps.done (State.hostCommand_keeps _ _ _ _ _ _ (fun _ _ _ => (Keeps.fst_ite (Keeps.pair1 (.refl _))
      (Keeps.pair1 (State.snapAsk_keeps _ _)))))
theorem execRtcRead_keeps (c : HostCmd) (s : State) : OutKeeps s (execRtcRead c s) := by
  unfold execRtcRead
  exact Keeps.done (State.hostCommand_keeps _ _ _ _ _ _ (fun _ _ _ => (Keeps.pair1 (Keeps.trans (State.secLoRead_keeps
      _) (State.optLoRead_keeps _)))))
theorem execRtcSet_keeps (c : HostCmd) (s : State) : OutKeeps s (execRtcSet c s) := by
  unfold execRtcSet
  exact Keeps.done (State.hostCommand_keeps _ _ _ _ _ _ (fun _ _ _ => (Keeps.pair1 (Keeps.trans (Keeps.trans
      (State.wr_keeps _ _ _) (State.wr_keeps _ _ _)) (State.rtcCmd_keeps _ _)))))
theorem execRtcClearSwo_keeps (c : HostCmd) (s : State) : OutKeeps s (execRtcClearSwo c s) := by
  unfold execRtcClearSwo
  exact Keeps.done (State.hostCommand_keeps _ _ _ _ _ _ (fun _ _ _ => (Keeps.pair1 (State.rtcCmd_keeps _ _))))
theorem execRtcWake_keeps (c : HostCmd) (s : State) : OutKeeps s (execRtcWake c s) := by
  unfold execRtcWake
  exact Keeps.done (State.hostCommand_keeps _ _ _ _ _ _ (fun _ _ _ => (Keeps.pair1 (State.wakeWrite_keeps _ _))))

/-! ### PhaseTick -/

theorem State.phTelemetry_keeps (s : State) (n : Fin 16) : Keeps s (State.phTelemetry s n) := by
  unfold State.phTelemetry
  exact Keeps.trans (Keeps.trans (Keeps.ite (Keeps.ite (Keeps.set_freeCtr (.refl _)) (.refl _)) (Keeps.trans
      (Keeps.ite (Keeps.set_freeCtr (.refl _)) (.refl _)) (State.wr_keeps _ _ _))) (State.wr_keeps _ _ _))
      (State.updPhase_keeps _ _ _)
theorem State.loopTelemetry_keeps (s : State) (x : FrameIn) (m : Fin 4) : Keeps s (State.loopTelemetry s x m) := by
  unfold State.loopTelemetry
  exact Keeps.trans (Keeps.trans (Keeps.trans (Keeps.trans (Keeps.trans (Keeps.trans (Keeps.trans (Keeps.trans
      (Keeps.ite (Keeps.set_freeCtr (.refl _)) (.refl _)) (State.put_keeps _ _ _ _)) (State.put_keeps _ _ _ _))
      (State.put_keeps _ _ _ _)) (State.put_keeps _ _ _ _)) (State.wr_keeps _ _ _)) (State.put_keeps _ _ _ _))
      (State.putB_keeps _ _ _ _)) (State.updLoop_keeps _ _ _)
theorem State.bankSwap_keeps (s : State) (m : Fin 4) : Keeps s (State.bankSwap s m) := by
  unfold State.bankSwap
  exact Keeps.ite (Keeps.trans (State.putB_keeps _ _ _ _) (State.put_keeps _ _ _ _)) (.refl _)
theorem State.fireEvent_keeps (s : State) (m : Fin 4) : Keeps s (State.fireEvent s m) := by
  unfold State.fireEvent
  exact Keeps.ite (.refl _) (Keeps.trans (State.raise_keeps _ _ _ _ _) (State.updLoop_keeps _ _ _))
theorem State.imbRun_keeps (s : State) (m : Fin 4) (n : Fin 16) : Keeps s (State.imbRun s m n) := by
  unfold State.imbRun
  exact Keeps.ite (.refl _) (State.updPhase_keeps _ _ _)
theorem State.shedRun_keeps (s : State) (m : Fin 4) : Keeps s (State.shedRun s m) := by
  unfold State.shedRun
  exact State.updLoop_keeps _ _ _
theorem State.beginShed_keeps (s : State) (m : Fin 4) : Keeps s (State.beginShed s m) := by
  unfold State.beginShed
  split
  · exact Keeps.ite (Keeps.trans (State.setPh_keeps _ _ _) (State.updPhase_keeps _ _ _)) (.refl _)
  · exact .refl _
theorem State.addPhase_keeps (s : State) (m : Fin 4) (thr : Nat) : Keeps s (State.addPhase s m thr) := by
  unfold State.addPhase
  exact Keeps.ite (.refl _) (by
        split
        · exact Keeps.trans (Keeps.trans (Keeps.trans (State.setPh_keeps _ _ _) (State.raise_keeps _ _ _ _ _))
              (State.disturb_keeps _ _)) (State.reslot_keeps _ _)
        · exact .refl _)
theorem State.loopFrame_keeps (s : State) (x : FrameIn) (m : Fin 4) : Keeps s (State.loopFrame s x m) := by
  unfold State.loopFrame
  exact Keeps.foldl (Keeps.trans (Keeps.trans (Keeps.trans (Keeps.trans (State.bankSwap_keeps _ _)
      (State.loopTelemetry_keeps _ _ _)) (State.updLoop_keeps _ _ _)) (State.fireEvent_keeps _ _))
      (State.updLoop_keeps _ _ _)) (fun _ _ => (State.imbRun_keeps _ _ _))
theorem State.loopDecide_keeps (s : State) (thr : Nat) (m : Fin 4) : Keeps s (State.loopDecide s thr m) := by
  unfold State.loopDecide
  exact Keeps.ite (Keeps.trans (Keeps.trans (State.shedRun_keeps _ _) (State.updLoop_keeps _ _ _))
      (State.beginShed_keeps _ _)) (Keeps.trans (Keeps.trans (State.shedRun_keeps _ _) (State.updLoop_keeps _ _ _))
      (State.addPhase_keeps _ _ _))
theorem State.dllTick_keeps (s : State) (pass : Bool) : Keeps s (State.dllTick s pass) := by
  unfold State.dllTick
  exact Keeps.ite (Keeps.trans (Keeps.trans (Keeps.set_pe (.refl _)) (State.put_keeps _ _ _ _)) (State.put_keeps _ _ _
      _)) (Keeps.trans (State.bump_keeps _ _ _) (State.bump_keeps _ _ _))
theorem State.syncTick_keeps (s : State) (x : FrameIn) : Keeps s (State.syncTick s x) := by
  unfold State.syncTick
  exact Keeps.trans (State.putB_keeps _ _ _ _) (State.put_keeps _ _ _ _)
theorem State.phaseTick_keeps (s : State) (x : FrameIn) : Keeps s (State.phaseTick s x) := by
  unfold State.phaseTick
  exact Keeps.trans (Keeps.ite (Keeps.foldl (Keeps.foldl (Keeps.foldl (State.syncTick_keeps _ _) (fun _ _ =>
      (State.phTelemetry_keeps _ _))) (fun _ _ => (State.loopFrame_keeps _ _ _))) (fun _ _ => (State.updPhase_keeps _
      _ _))) (Keeps.trans (Keeps.foldl (Keeps.foldl (Keeps.foldl (State.syncTick_keeps _ _) (fun _ _ =>
      (State.phTelemetry_keeps _ _))) (fun _ _ => (State.loopFrame_keeps _ _ _))) (fun _ _ => (State.updPhase_keeps _
      _ _))) (State.putB_keeps _ _ _ _))) (State.dllTick_keeps _ _)
theorem State.phaseDecide_keeps (s : State) : Keeps s (State.phaseDecide s) := by
  unfold State.phaseDecide
  exact Keeps.foldl (.refl _) (fun _ _ => (State.loopDecide_keeps _ _ _))
theorem State.regFrame_keeps (s : State) (x : FrameIn) (thr : Nat) (r : Fin 14) : Keeps s (State.regFrame s x thr r)
    := by
  unfold State.regFrame
  exact Keeps.trans (Keeps.trans (Keeps.trans (Keeps.trans (Keeps.trans (State.put_keeps _ _ _ _) (State.put_keeps _ _
      _ _)) (State.wr_keeps _ _ _)) (State.putB_keeps _ _ _ _)) (State.putB_keeps _ _ _ _)) (State.updReg_keeps _ _ _)
theorem State.regTick_keeps (s : State) (x : FrameIn) : Keeps s (State.regTick s x) := by
  unfold State.regTick
  exact Keeps.trans (Keeps.foldl (.refl _) (fun _ _ => (State.regFrame_keeps _ _ _ _))) (State.sweepTick_keeps _)

/-! ### Sessions -/

theorem State.putWords_keeps (s : State) (at_ : Nat → Nat) (x2 : Nat) (x3 : List Word) : Keeps s (State.putWords s at_
    x2 x3) := by
  unfold State.putWords
  split
  · exact .refl _
  · exact Keeps.trans (State.wr_keeps _ _ _) (State.putWords_keeps _ _ _ _)
theorem execProof_keeps (c : HostCmd) (s : State) : OutKeeps s (execProof c s) := by
  unfold execProof
  exact Keeps.done (State.hostCommand_keeps _ _ _ _ _ _ (fun _ _ _ => (Keeps.fst_ite (Keeps.pair1 (.refl _))
      (Keeps.pair1 (Keeps.trans (State.putWords_keeps _ _ _ _) (State.proofGo_keeps _))))))
theorem execProofSig_keeps (c : HostCmd) (s : State) : OutKeeps s (execProofSig c s) := by
  unfold execProofSig
  exact Keeps.done (State.hostCommand_keeps _ _ _ _ _ _ (fun _ _ _ => (Keeps.fst_ite (Keeps.pair1 (.refl _))
      (Keeps.pair1 (.refl _)))))
theorem execCertRead_keeps (c : HostCmd) (s : State) : OutKeeps s (execCertRead c s) := by
  unfold execCertRead
  exact Keeps.done (State.hostCommand_keeps _ _ _ _ _ _ (fun _ _ _ => (Keeps.pair1 (.refl _))))
theorem State.beginErase_keeps (s : State) (sector : Nat) (len : Nat) : Keeps s (State.beginErase s sector len) := by
  unfold State.beginErase
  exact Keeps.trans (Keeps.trans (Keeps.trans (State.putB_keeps _ _ _ _) (State.put_keeps _ _ _ _)) (State.put_keeps _
      _ _ _)) (State.burinErase_keeps _)
theorem execCfgBegin_keeps (c : HostCmd) (s : State) : OutKeeps s (execCfgBegin c s) := by
  unfold execCfgBegin
  exact Keeps.done (State.hostCommand_keeps _ _ _ _ _ _ (fun _ _ _ => (Keeps.fst_ite (Keeps.pair1 (.refl _))
      (Keeps.pair1 (Keeps.set_fw (State.beginErase_keeps _ _ _))))))
theorem State.sessionWrite_keeps (s : State) (base : Nat) (pay : List Word) : Keeps s (State.sessionWrite s base pay)
    := by
  unfold State.sessionWrite
  exact Keeps.trans (Keeps.trans (State.putB_keeps _ _ _ _) (State.nvQueue4_keeps _ _)) (State.nvBusy_keeps _)
theorem execCfgWrite_keeps (c : HostCmd) (s : State) : OutKeeps s (execCfgWrite c s) := by
  unfold execCfgWrite
  exact Keeps.done (State.hostCommand_keeps _ _ _ _ _ _ (fun _ _ _ => (by
        split
        · exact Keeps.pair1 (Keeps.set_fw (State.sessionWrite_keeps _ _ _))
        · exact Keeps.pair1 (.refl _)
        · exact Keeps.pair1 (.refl _))))
theorem execCfgVerify_keeps (c : HostCmd) (ecc : List EccRead) (s : State) : OutKeeps s (execCfgVerify c ecc s) := by
  unfold execCfgVerify
  exact Keeps.done (State.hostCommand_keeps _ _ _ _ _ _ (fun _ _ _ => (by
        dsimp only
        split
        · exact Keeps.pair1 (Keeps.trans (Keeps.set_fw (State.eccFlip_keeps _ _)) (State.eccReads_keeps _ _))
        · exact Keeps.pair1 (State.eccFlip_keeps _ _)
        · exact Keeps.pair1 (State.eccFlip_keeps _ _))))
theorem execCfgInfo_keeps (c : HostCmd) (s : State) : OutKeeps s (execCfgInfo c s) := by
  unfold execCfgInfo
  exact Keeps.done (State.hostCommand_keeps _ _ _ _ _ _ (fun _ _ _ => (Keeps.pair1 (.refl _))))
theorem execImgBegin_keeps (c : HostCmd) (s : State) : OutKeeps s (execImgBegin c s) := by
  unfold execImgBegin
  exact Keeps.done (State.hostCommand_keeps _ _ _ _ _ _ (fun _ _ _ => (Keeps.fst_ite (Keeps.pair1 (.refl _))
      (Keeps.fst_ite (Keeps.pair1 (.refl _)) (Keeps.pair1 (Keeps.set_fw (State.beginErase_keeps _ _ _)))))))
theorem execImgWrite_keeps (c : HostCmd) (s : State) : OutKeeps s (execImgWrite c s) := by
  unfold execImgWrite
  exact Keeps.done (State.hostCommand_keeps _ _ _ _ _ _ (fun _ _ _ => (by
        split
        · exact Keeps.pair1 (Keeps.set_fw (State.sessionWrite_keeps _ _ _))
        · exact Keeps.pair1 (.refl _)
        · exact Keeps.pair1 (.refl _))))
theorem execImgVerify_keeps (c : HostCmd) (ecc : List EccRead) (s : State) : OutKeeps s (execImgVerify c ecc s) := by
  unfold execImgVerify
  exact Keeps.done (State.hostCommand_keeps _ _ _ _ _ _ (fun _ _ _ => (by
        dsimp only
        split
        · exact Keeps.pair1 (Keeps.trans (Keeps.set_fw (State.eccFlip_keeps _ _)) (State.eccReads_keeps _ _))
        · exact Keeps.pair1 (State.eccFlip_keeps _ _)
        · exact Keeps.pair1 (State.eccFlip_keeps _ _))))
theorem execImgActivate_keeps (c : HostCmd) (s : State) : OutKeeps s (execImgActivate c s) := by
  unfold execImgActivate
  exact Keeps.done (State.hostCommand_keeps _ _ _ _ _ _ (fun _ _ _ => (by
        split
        · exact Keeps.fst_ite (Keeps.pair1 (Keeps.set_fw (State.queueBoot_keeps _ _ _ _ _))) (Keeps.pair1
              (Keeps.set_fw (.refl _)))
        · exact Keeps.pair1 (.refl _)
        · exact Keeps.pair1 (.refl _))))
theorem State.setSrc_keeps (s : State) (n : Nat) : Keeps s (State.setSrc s n) := by
  unfold State.setSrc
  exact State.put_keeps _ _ _ _
theorem State.windowReads_keeps (s : State) (x1 : List Word) : Keeps s (State.windowReads s x1).2.2 := by
  unfold State.windowReads
  split
  · exact Keeps.pair3 (Keeps.pair2 (.refl _))
  · exact Keeps.pair3 (Keeps.pair2 (Keeps.trans (State.busRead_keeps _ _) (State.windowReads_keeps _ _)))
theorem execRegRead_keeps (c : HostCmd) (ecc : List EccRead) (s : State) : OutKeeps s (execRegRead c ecc s) := by
  unfold execRegRead
  exact Keeps.done (State.hostCommand_keeps _ _ _ _ _ _ (fun _ _ _ => (Keeps.pair1 (Keeps.trans (Keeps.trans
      (Keeps.trans (Keeps.trans (State.eccFlip_keeps _ _) (State.setSrc_keeps _ _)) (State.windowReads_keeps _ _))
      (State.setSrc_keeps _ _)) (State.eccReads_keeps _ _)))))
theorem State.windowWrites_keeps (s : State) (n : Nat) (x2 : List Word) : Keeps s (State.windowWrites s n x2).2.2 :=
    by
  unfold State.windowWrites
  split
  · exact Keeps.snd2_ite (Keeps.pair3 (Keeps.pair2 (.refl _))) (by
          dsimp only
          split
          · exact Keeps.trans (State.busWrite_keeps _ _ _) (State.windowWrites_keeps _ _ _)
          · exact Keeps.pair3 (Keeps.pair2 (State.busWrite_keeps _ _ _))
          · exact Keeps.pair3 (Keeps.pair2 (State.busWrite_keeps _ _ _)))
  · exact Keeps.pair3 (Keeps.pair2 (.refl _))
theorem execRegWrite_keeps (c : HostCmd) (s : State) : OutKeeps s (execRegWrite c s) := by
  unfold execRegWrite
  exact Keeps.done (State.hostCommand_keeps _ _ _ _ _ _ (fun _ _ _ => (Keeps.pair1 (Keeps.trans (Keeps.trans
      (State.setSrc_keeps _ _) (State.windowWrites_keeps _ _ _)) (State.setSrc_keeps _ _)))))
theorem execAuxXfer_keeps (c : HostCmd) (s : State) : OutKeeps s (execAuxXfer c s) := by
  unfold execAuxXfer
  exact Keeps.done (State.hostCommand_keeps _ _ _ _ _ _ (fun _ _ _ => (Keeps.fst_ite (Keeps.pair1 (.refl _))
      (Keeps.pair1 (Keeps.trans (Keeps.trans (State.putB_keeps _ _ _ _) (State.putWords_keeps _ _ _ _))
      (State.auxGo_keeps _ _ _ _))))))

/-! ### Frame -/

theorem State.frameCount_keeps (s : State) (x : FrameIn) : Keeps s (State.frameCount s x) := by
  unfold State.frameCount
  exact Keeps.trans (Keeps.trans (Keeps.trans (Keeps.set_pe (State.updClk_keeps _ _)) (State.wr_keeps _ _ _))
      (State.timeTick_keeps _ _ _)) (State.alignTick_keeps _)
theorem State.comeInForce_keeps (s : State) : Keeps s (State.comeInForce s) := by
  unfold State.comeInForce
  exact Keeps.ite (.refl _) (State.updClk_keeps _ _)
theorem State.raiseAll_keeps (s : State) (x1 : List (Nat × Nat × Nat)) : Keeps s (State.raiseAll s x1) := by
  unfold State.raiseAll
  split
  · exact .refl _
  · exact Keeps.trans (State.raise_keeps _ _ _ _ _) (State.raiseAll_keeps _ _)
theorem State.firstRaises_keeps (s : State) : Keeps s (State.firstRaises s) := by
  unfold State.firstRaises
  exact Keeps.trans (State.updOpt_keeps _ _) (State.raiseAll_keeps _ _)
theorem State.frameFresh_keeps (s : State) : Keeps s (State.frameFresh s) := by
  unfold State.frameFresh
  exact Keeps.set_clk_plate_nv_aux (.refl _)
theorem State.tickAlways_keeps (s : State) (x : FrameIn) : Keeps s (State.tickAlways s x) := by
  unfold State.tickAlways
  exact Keeps.ite (Keeps.trans (Keeps.trans (Keeps.trans (Keeps.trans (Keeps.trans (Keeps.trans (Keeps.trans
      (Keeps.trans (Keeps.trans (Keeps.trans (State.seqSettle_keeps _) (State.wdTick_keeps _)) (State.frameCount_keeps
      _ _)) (State.comeInForce_keeps _)) (State.frameFresh_keeps _)) (State.firstRaises_keeps _))
      (State.mismatchTick_keeps _)) (State.leftTick_keeps _)) (State.linkTick_keeps _)) (State.railTick_keeps _))
      (State.placeOwed_keeps _)) (Keeps.trans (Keeps.trans (Keeps.trans (Keeps.trans (Keeps.trans (Keeps.trans
      (Keeps.trans (Keeps.trans (Keeps.trans (State.seqSettle_keeps _) (State.wdTick_keeps _)) (State.frameCount_keeps
      _ _)) (State.comeInForce_keeps _)) (State.frameFresh_keeps _)) (State.firstRaises_keeps _))
      (State.mismatchTick_keeps _)) (State.leftTick_keeps _)) (State.linkTick_keeps _)) (State.railTick_keeps _))
theorem State.tickInputs_keeps (s : State) (x : FrameIn) (dms : Nat) : Keeps s (State.tickInputs s x dms) := by
  unfold State.tickInputs
  exact Keeps.trans (Keeps.trans (Keeps.trans (Keeps.trans (Keeps.trans (Keeps.trans (Keeps.trans (Keeps.set_gpio
      (Keeps.trans (Keeps.trans (Keeps.trans (Keeps.trans (State.adcTick_keeps _ _) (State.phaseTick_keeps _ _))
      (State.regTick_keeps _ _)) (State.ntcTick_keeps _)) (State.thermalTick_keeps _))) (State.gaugeTick_keeps _ _))
      (State.feedTick_keeps _ _)) (State.chargerTick_keeps _ _ _)) (State.powerTick_keeps _)) (State.sibTick_keeps _))
      (State.fnSample_keeps _ _)) (State.budgets_keeps _)
theorem State.upAtStart_keeps (s : State) : Keeps s (State.upAtStart s) := by
  unfold State.upAtStart
  exact Keeps.ite (Keeps.trans (State.updSeq_keeps _ _) (State.startUp_keeps _ _)) (.refl _)
theorem State.tickWork_keeps (s : State) (x : FrameIn) : Keeps s (State.tickWork s x) := by
  unfold State.tickWork
  exact Keeps.trans (Keeps.atTick (Keeps.trans (Keeps.trans (State.phaseDecide_keeps _) (State.latch_keeps _))
      (State.adcChecks_keeps _ _)) (fun _ => (State.upAtStart_keeps _))) (State.contextsTick_keeps _)
theorem execFrameTick_keeps (x : FrameIn) (s : State) : OutKeeps s (execFrameTick x s) := by
  unfold execFrameTick
  exact Keeps.done (Keeps.when (.refl _) (fun _ => (Keeps.trans (Keeps.ite (Keeps.trans (Keeps.trans
      (State.tickAlways_keeps _ _) (State.tickInputs_keeps _ _ _)) (State.tickWork_keeps _ _)) (Keeps.trans
      (State.tickAlways_keeps _ _) (State.latch_keeps _))) (State.actTick_keeps _))))

end Sys2Proof.Machine
end

