-- ==== Sys2Proof/Laws/Ops.lean ====
section
/-! SUPPORT. What the recursive operations of the model may change, once for each. -/
namespace Sys2Proof.Machine
open Sys2Proof
-- the proofs of this file are elaborated one after another, not each in a thread of its own
set_option Elab.async false

variable {R : List Nat} {P : List Part} {s t : State}

theorem Frame.gaugeStore {type : Nat} {l : List Byte} (h : Frame R P s t) (m : Part.gg ∈ P) (n : Part.nv ∈ P) :
    Frame R P s (t.gaugeStore type l) := by
  unfold State.gaugeStore; exact .nvQueue2 (.updGg h m) n
/-- R231: the refused records are handed to the NV engine. -/
theorem Frame.gaugeRetry {l : List (Nat × List Byte)} (h : Frame R P s t) (m : Part.gg ∈ P) (n : Part.nv ∈ P) :
    Frame R P s (t.gaugeRetry l) := by
  induction l generalizing t with
  | nil => exact h
  | cons p r ih => exact ih (h.gaugeStore m n)
theorem EventFrame.gaugeRetry {l : List (Nat × List Byte)} (h : EventFrame R P s t) (m : Part.gg ∈ P) (n : Part.nv ∈ P) :
    EventFrame R P s (t.gaugeRetry l) := h.trans (.of_frame (Frame.refl.gaugeRetry m n))

theorem Frame.ctxRest {i : Fin 160} {b : Bool} (h : Frame R P s t) (m : Part.ctx ∈ P) (r : CTX_STAT i ∈ R) :
    Frame R P s (t.ctxRest i b) := by
  unfold State.ctxRest; exact .ite (.ite h (.wr _ h r)) (.updCtx (.ite h (.wr _ h r)) m)
/-- R276: every context returns to NORMAL; of the registers only the contexts' status words change. -/
theorem Frame.contextsReset (h : Frame R P s t) (m : Part.ctx ∈ P) (r : ∀ a ∈ ctxStats, a ∈ R) :
    Frame R P s t.contextsReset := by
  unfold State.contextsReset
  exact h.foldl fun x i => .ctxRest .refl m (r _ (List.mem_map.mpr ⟨i, List.mem_finRange i, rfl⟩))
theorem EventFrame.contextsReset (h : EventFrame R P s t) (m : Part.ctx ∈ P) (r : ∀ a ∈ ctxStats, a ∈ R) :
    EventFrame R P s t.contextsReset := h.trans (.of_frame (Frame.refl.contextsReset m r))

end Sys2Proof.Machine
end

