-- ==== Sys2Proof/Machine/Pins.lean ====
section
/-! DEFINITION. What the part drives its output pins to (spec 02 R30, R31; spec 05 R124; spec 16 R396, R402). PWM pins are
`State.pwmOf`, and the outputs of the integrated regulators `State.regOut`. -/
namespace Sys2Proof.Machine
open Sys2Proof

/-- D_PWR's outputs follow its engines; in cold reset, until a configuration is in force, and in STANDBY each pin has the
state of R30. -/
def State.pinsLive (s : State) : Bool := s.analog

/-- SYNC_OUT `t` steps after the last tick (R124): high for PER / 2 from slot 0 of loop OUT_SRC plus OUT_OFS parts of 256 of
its period. -/
def State.syncOut (s : State) (t : Nat) : Bool :=
  let m : Fin 4 := ⟨s.get SYNC_CFG SYNC_CFG_OUT_SRC % 4, by omega⟩
  let per := s.loops[m].per
  let ofs := partOf (s.get SYNC_CFG SYNC_CFG_OUT_OFS) per
  s.pinsLive && !s.clk.stopped && s.flag SYNC_CFG SYNC_CFG_OUT_EN &&
    decide (2 * ((s.genCount m t + per - ofs % per) % per) < per)

/-- STG_EN0 to STG_EN3 and EXT_EN0 to EXT_EN15 (R102, R246). -/
def State.stgEnPins (s : State) : BitVec 4 := if s.pinsLive then s.stgPins else 0
def State.extEnPins (s : State) : BitVec 16 := if s.pinsLive then s.seq.extEn else 0

/-- The gate of feed x is driven on; otherwise it is held at SRC_x (R177, R178). -/
def State.gatePin (s : State) (x : Fin 2) : Bool := s.pinsLive && s.flag (FEED_STAT x) FEED_STAT_GATE_ON

/-- The charger's gate drives switch (R185). -/
def State.chgPins (s : State) : Bool := s.pinsLive && !s.clk.stopped && s.chgSwitching

/-- BAL1 to BAL8 that conduct (R214). -/
def State.balPins (s : State) : Nat := if s.pinsLive then s.get GG_CELL_STAT GG_CELL_STAT_BAL_ON else 0

/-- The bias of NTCk is connected (R278), and VREG5 is on (R30). -/
def State.ntcBias (s : State) (k : Nat) : Bool := s.pinsLive && s.flag (NTC_CFG k) NTC_CFG_EN
def State.vreg5 (s : State) : Bool := s.pinsLive

/-- FAULT_N is driven low (R258), and THROTTLE_N (R287). -/
def State.faultNPin (s : State) : Bool := s.pinsLive && s.flag SEQ_STAT SEQ_STAT_FN_DRIVE
def State.throttlePin (s : State) : Bool := s.pinsLive && s.throttleN

/-- ERR_N is asserted (R321, R322): in STANDBY at the level it had. -/
def State.errPin (s : State) : Bool :=
  (s.power == .run || s.power == .standby) && (getF (s.live FLT_STAT) FLT_STAT_ERR != 0)

/-- WD_OUT is driven high (R334). -/
def State.wdOutPin (s : State) : Bool := s.power == .run && s.wdOut

/-- ALERT_A_N, ALERT_B_N and INT_C_N are asserted (R396). -/
def State.alertPin (s : State) (p : Port) : Bool := s.power == .run && s.flag (PORT_CFG p) PORT_CFG_EN && s.alert p

/-- The pins of the ports and of AUX are released: SDA and SCL of A, B and AUX, MISO_C at high impedance, TXD_D high and DE_D
low; GPIO pins are inputs, for the spec gives them no output (R30, R31). -/
def State.portPinsReleased (s : State) : Bool := s.power != .run || !s.layers

/-! ### Cells of the sibling link (R262, R406) -/

/-- What a status cell says of a thread: the barrier it has ARRIVED at and is held at, and the one it has PASSED in the last
8 frames. -/
def State.statusOf (s : State) (t : Fin 4) : Option Nat × Option Nat :=
  (if s.thState t == thWaiting && s.seq.thr[t].wait == .barrier then some (stepBits (s.stepWord t) 16 8) else none,
   (s.seq.thr[t].passed.filter (fun x => decide (s.clk.frames < x.2 + 8))).map Prod.fst)

/-- What a cell carries; the spec gives the types no numbers. -/
inductive Cell
  | mark (frm : Nat)
  | echo
  | idle
  | status0 (t0 t1 : Option Nat × Option Nat)
  | status1 (t2 t3 : Option Nat × Option Nat) (alert : Bool) (inFree hostFree : Nat)
  | mailbox (rsp : Bool) (seq : Nat) (w : Word)
  deriving DecidableEq, Repr

/-- Cells 0 to 9 of the present frame (R406); those of channel T and H were chosen at its tick. -/
def State.linkCells (s : State) : List Cell :=
  [if s.frmRole = 1 then .mark s.frmNum else if s.clk.marked then .echo else .idle,
   .status0 (s.statusOf 0) (s.statusOf 1),
   .status1 (s.statusOf 2) (s.statusOf 3) (s.alert .e) (64 - (s.port .e).inUsed)
     (64 - (s.link.hrx.length + s.link.hpart.length))] ++
  (s.link.sent.map (fun c => Cell.mailbox c.1 c.2.1 c.2.2) ++ List.replicate 7 Cell.idle).take 7

/-- The status byte that MISO_C carries while an instruction is clocked in (R402). -/
def State.statusByteC (s : State) : Byte :=
  BitVec.ofNat 8 (s.get BOOT_STAT BOOT_STAT_READY + 2 * s.get PWR_STATE PWR_STATE_AUTON +
    (if s.alert .c then 4 else 0) + (if s.inRun then 8 else 0))

end Sys2Proof.Machine
end

