-- ==== Sys2Proof/Tests/Slice0.lean ====
section
/-! SUPPORT. Tests: a well-formed and an ill-formed command for every check of WellFormed, and for every statement of the
package a small state that meets its conditions. -/
namespace Sys2Proof.Tests.Slice0
open Sys2Proof Sys2Proof.Machine

/-! ### WellFormed: for each check a command it accepts at the bound and one it refuses beyond it -/

/-- A host command with `n` payload words. -/
def cmdOf (p : Port) (n : Nat) : HostCmd := ⟨p, 0x01, 0x0, List.replicate n 0⟩

theorem test_wf_payload : (Instr.identify (cmdOf .a 62)).wellFormed = true ∧ (Instr.identify (cmdOf .a 63)).wellFormed = false := by
  decide
theorem test_wf_ecc : (Instr.plateRebuildDone [⟨8, some (0, 71)⟩, ⟨16, none⟩]).wellFormed = true ∧
    (Instr.plateRebuildDone [⟨12, none⟩]).wellFormed = false ∧ (Instr.plateRebuildDone [⟨8, some (5, 5)⟩]).wellFormed = false := by
  decide
theorem test_wf_cmd_ecc : (Instr.cfgVerify (cmdOf .a 0) [⟨4, none⟩]).wellFormed = false ∧
    (Instr.cfgVerify (cmdOf .a 63) []).wellFormed = false ∧ (Instr.cfgVerify (cmdOf .a 62) [⟨16, none⟩]).wellFormed = true := by
  decide
theorem test_wf_response : (Instr.responseWrite .a (.words (List.replicate 63 0))).wellFormed = true ∧
    (Instr.responseWrite .a (.words (List.replicate 64 0))).wellFormed = false := by decide
set_option maxRecDepth 4000 in
theorem test_wf_tick : (Instr.frameTick {}).wellFormed = true ∧
    (Instr.frameTick { conv := List.replicate 129 0 }).wellFormed = false := by decide
theorem test_wf_echo : (Instr.echoReceipt 5 5).wellFormed = true ∧ (Instr.echoReceipt 5 6).wellFormed = false := by decide
theorem test_wf_mbx_in : (Instr.mbxIn .a (List.replicate 64 0) true 0).wellFormed = true ∧
    (Instr.mbxIn .a (List.replicate 65 0) true 0).wellFormed = false ∧
    (Instr.mbxIn .c (List.replicate 65 0) true 0).wellFormed = true ∧ (Instr.mbxIn .e [] true 0).wellFormed = false := by
  decide
theorem test_wf_no_port_e : (Instr.mbxOut .e 1).wellFormed = false ∧ (Instr.portStatusRead .e).wellFormed = false ∧
    (Instr.hostDrop .e).wellFormed = false ∧ (Instr.abortIn .e).wellFormed = false := by decide
theorem test_wf_two_wire : (Instr.mbxAgain .c).wellFormed = false ∧ (Instr.alertResponse .c).wellFormed = false ∧
    (Instr.busTimeout .c 35).wellFormed = false ∧ (Instr.alertResponse .b).wellFormed = true := by decide
theorem test_wf_modbus : (Instr.modbusBadRequest (.otherCode 3)).wellFormed = false ∧
    (Instr.modbusBadRequest (.otherCode 5)).wellFormed = true := by decide

/-! ### Known answers: SHA-256 of "abc" (FIPS 180-4), the CRCs of "123456789" (their catalogue's check values), and twice
the base point of P-256 -/

/-- The digits 1 to 9. -/
def digits : List Byte := [0x31, 0x32, 0x33, 0x34, 0x35, 0x36, 0x37, 0x38, 0x39]

theorem test_sha256_abc : ofBytesBE (sha256 [0x61, 0x62, 0x63]) =
    0xba7816bf8f01cfea414140de5dae2223b00361a396177a9cb410ff61f20015ad := by decide +kernel
theorem test_crcs : crc32 digits = 0xCBF43926 ∧ crc16 digits = 0x29B1 ∧ crc8 digits = 0xF4 ∧ crcModbus digits = 0x4B37 := by
  decide +kernel
theorem test_point_double : (pointAdd baseG baseG).map (·.1) =
    some 0x7cf27b188d034f7e8a52380304b51ac3c08969e277f21b35a60b48fc47669978 := by decide +kernel

/-! ### For every statement with conditions, states and operands that meet them, clause by clause -/

/-- A state with both layers released, firmware running and MAIN in force. -/
def base : State := { power := .run, regs := [(BOOT_STAT, 0)], clk := { inForce := true, cfgCopy := some 0, frames := 100000, stage := .contexts }, layers := true, opt := { ms := 100000000 }, proc := { mode := .firmware } }

/-- A field of BOOT_STAT; its reset value holds the ROM version, which is open (log 6). -/
def boot (s : State) (f : Fld) (v : Nat) : State :=
  { s with regs := insertAt BOOT_STAT (setF (s.rd BOOT_STAT) f v) (eraseAt BOOT_STAT s.regs) }

/-- The image. -/
def zeros64 : List Byte := List.replicate 64 0

/-- Four bytes of a word. -/
def le4 (n : Nat) : List Byte := bytesLE 4 n

/-- A slot holds a valid image of 64 zero bytes. -/
def withImage (s : State) (slot : Nat) : State :=
  { s with mram := { s.mram with cells := memWrite (memWrite s.mram.cells (slotBase slot)
    ([0xB0416416, 1, 7, 64, 64, 0, 0].flatMap le4)) (slotBase slot + 0x20) (sha256 zeros64) } }

/-- A copy holds a valid empty configuration. -/
def withCfg (s : State) (k seq : Nat) : State :=
  { s with mram := { s.mram with cells := memWrite s.mram.cells (cfgBase k) ([0xC0F16416, seq, 20, 3, crc32 []].flatMap le4) } }

/-- A port admits a code of class 1. -/
def admitted (s : State) (p : Port) (code _k : Nat) : State :=
  boot ((((s.put (ADM_TAB code) ADM_TAB_VALID 1).put (PORT_CFG p) PORT_CFG_EN 1).put (PORT_CFG p) PORT_CFG_TAG_CNT 96).put ADM_CAP0 ⟨8, 8⟩ 12) BOOT_STAT_READY 1

theorem test_meets_StepRunsFront : ({ base with pending := [.extend 1] } : State).pending = [.extend 1] := rfl
theorem test_meets_StepIdles : State.reset.pending = [] := rfl
theorem test_meets_StepTakesOneCommand : ∃ t, step { base with pending := [.extend 2, .close] } = .next t := ⟨_, rfl⟩
theorem test_meets_StepKeepsForm : ∃ t, step { State.reset with pending := [.extend 2] } = .next t ∧
    ({ State.reset with pending := [.extend 2] } : State).Wf :=
  ⟨_, rfl, ⟨⟨by decide +kernel, by decide +kernel⟩, by decide +kernel, by decide +kernel, by decide +kernel⟩⟩
theorem test_meets_chains : (∃ t, step { State.reset with pending := [.extend 2] } = .next t) ∧
    ({ State.reset with pending := [.extend 2] } : State).Chained := by
  refine ⟨⟨_, rfl⟩, fun n => ?_⟩
  have h : ({ State.reset with pending := [.extend 2] } : State).mr[n] = 0 := by fin_cases n <;> rfl
  exact h ▸ .start

theorem test_meets_MeasurementRegisters :
    (let s : State := base;
      s.burinReaches = true) ∧
    (let s : State := base;
      let k : BitVec 2 := 0;
      s.burinReaches = true ∧ k ≠ 1) := by
  refine ⟨?_, ?_⟩ <;> decide +kernel

theorem test_meets_ExtendMeasurement :
    (let s : State := base;
      s.burinReaches = true) ∧
    (let s : State := base;
      let k : BitVec 2 := 0;
      (s.burinReaches = false ∨ k ≠ 1)) := by
  refine ⟨?_, ?_⟩ <;> decide +kernel

theorem test_meets_FeedStates :
    (let s : State := base;
      let x : Fin 2 := 1;
      let s : State := s.put (FEED_STAT x) FEED_STAT_STATE feedAbsent;
      let s : State := s.putB (FEED_CFG x) FEED_CFG_EN true;
      let s : State := (s.put (FEED_V x) FEED_V_V 20000).latch;
      s.engines = true ∧ s.feedState x = feedAbsent ∧ s.flag (FEED_CFG x) FEED_CFG_EN = true ∧ s.feedInWindow x = true) ∧
    (let s : State := base;
      let x : Fin 2 := 1;
      let s : State := s.put (FEED_STAT x) FEED_STAT_STATE feedQualifying;
      let s : State := { s with clk := { s.clk with frames := (s.feeds[x].qualAt + 50 * max 1 (s.latchedF PATH_CFG PATH_CFG_FEED_QUAL)) } };
      s.engines = true ∧ s.feedState x = feedQualifying ∧
        s.feeds[x].qualAt + 50 * max 1 (s.latchedF PATH_CFG PATH_CFG_FEED_QUAL) ≤ s.clk.frames) ∧
    (let s : State := base;
      let x : Fin 2 := 1;
      let v : BitVec 16 := 13000;
      let d : BitVec 8 := 40;
      let c := (([(Instr.feedUvDisqualification x v d, FEED_STAT_UV), (Instr.feedOvCutoff x v, FEED_STAT_OV)])[0]);
      let s : State := s.put (FEED_STAT x) FEED_STAT_STATE feedQualified;
      let s : State := (s.put (FEED_CFG x) FEED_CFG_OV 30).latch;
      s.engines = true ∧ s.feedIn x = true ∧ ((c.2 = FEED_STAT_UV → v.toNat < s.feedUv x ∧ s.deglitch x ≤ d.toNat)) ∧
        ((c.2 = FEED_STAT_OV → s.feedOv x < v.toNat))) ∧
    (let s : State := base;
      let x : Fin 2 := 1;
      let v : BitVec 16 := 60000;
      let d : BitVec 8 := 40;
      let c := (([(Instr.feedUvDisqualification x v d, FEED_STAT_UV), (Instr.feedOvCutoff x v, FEED_STAT_OV)])[1]);
      let s : State := s.put (FEED_STAT x) FEED_STAT_STATE feedQualified;
      let s : State := (s.put (FEED_CFG x) FEED_CFG_OV 30).latch;
      s.engines = true ∧ s.feedIn x = true ∧ ((c.2 = FEED_STAT_UV → v.toNat < s.feedUv x ∧ s.deglitch x ≤ d.toNat)) ∧
        ((c.2 = FEED_STAT_OV → s.feedOv x < v.toNat))) ∧
    (let s : State := base;
      let x : Fin 2 := 1;
      let s : State := { s with feeds := s.feeds.set x ({ s.feeds[x] with lagRun := (5000) }) };
      let s : State := s.put (FEED_STAT x) FEED_STAT_STATE feedQualified;
      s.engines = true ∧ s.feedIsQual x = true ∧ 5000 ≤ s.feeds[x].lagRun) ∧
    (let s : State := base;
      let x : Fin 2 := 1;
      let s : State := s.put (FEED_STAT x) FEED_STAT_STATE feedQuarantined;
      let s : State := { s with opt := { s.opt with ms := (s.feeds[x].quarEnd) } };
      s.engines = true ∧ s.feedState x = feedQuarantined ∧ s.feeds[x].quarEnd ≤ s.opt.ms) ∧
    (let s : State := base;
      s.engines = true) ∧
    (let s : State := base;
      let x : Fin 2 := 1;
      let s : State := s.put (FEED_STAT x) FEED_STAT_STATE feedQualified;
      s.engines = true ∧ s.feedIsQual x = true) := by
  refine ⟨?_, ?_, ?_, ?_, ?_, ?_, ?_, ?_⟩ <;> decide +kernel

theorem test_meets_PathStates :
    (let s : State := base;
      let s : State := s.put PATH_STAT PATH_STAT_PATH pathHandover;
      let s : State := { s with clk := { s.clk with frames := (s.chg.handAt + 1) } };
      s.engines = true ∧ s.path = pathHandover ∧ s.chg.handAt < s.clk.frames) ∧
    (let s : State := base;
      let s : State := s.put PATH_STAT PATH_STAT_PATH pathReturning;
      s.engines = true ∧ s.path = pathReturning ∧ s.busUp = true) ∧
    (let s : State := base;
      let v : BitVec 16 := 0;
      let s : State := { s with power := (.run) };
      let s : State := s.putB PATH_STAT PATH_STAT_BOW_ARMED true;
      let s : State := { s with chg := { s.chg with bowDone := (false) } };
      s.power = .run ∧ s.flag PATH_STAT PATH_STAT_BOW_ARMED = true ∧ s.chg.bowDone = false ∧ v.toNat < s.bowLevel) ∧
    (let s : State := base;
      let s : State := s.put (SEQ_THR_STAT thUp) SEQ_THR_STAT_STATE thHeld;
      let s : State := { s with seq := { s.seq with heldVsys := (true) } };
      let s : State := { s with snap := { s.snap with regs := ((s.put PATH_V PATH_V_VSYS 20000).regs) } };
      s.engines = true ∧ s.thState thUp = thHeld ∧ s.seq.heldVsys = true ∧ s.vsysStarts = true) := by
  refine ⟨?_, ?_, ?_, ?_⟩ <;> decide +kernel

theorem test_meets_ChargerCommands :
    (let s : State := base;
      let s : State := s.put CHG_STAT CHG_STAT_STATE chgSafeHold;
      let s : State := { s with chg := { s.chg with packId := (true) } };
      s.chgDue 1 = true ∧ s.chgState ∈ [chgIdle, chgZch, chgSafeHold] ∧ s.chg.packId = true ∧ s.cellCause = false ∧ s.mevCause = false) ∧
    (let s : State := base;
      let s : State := s.put CHG_STAT CHG_STAT_STATE chgCV;
      s.chgDue 2 = true ∧ charging s.chgState = true ∧ s.safeDone = false) ∧
    (let s : State := base;
      let s : State := s.put CHG_STAT CHG_STAT_STATE chgCV;
      s.chgDue 3 = true ∧ charging s.chgState = true) ∧
    (let s : State := base;
      let s : State := s.put CHG_STAT CHG_STAT_STATE chgZch;
      let s : State := s.putB CHG_STAT CHG_STAT_HOLD_REL true;
      s.chgDue 4 = true ∧ s.chgState = chgZch ∧ s.flag CHG_STAT CHG_STAT_HOLD_REL = true) ∧
    (let s : State := base;
      s.chgDue 5 = true ∧ s.chgState ≠ chgNoPack ∧ s.chgState ≠ chgPackQual) ∧
    (let s : State := base;
      let c := (([(Instr.chgTerminate, 2), (.chgHold, 3)])[0]);
      charging s.chgState = false ∧ s.chgDue c.2 = true) ∧
    (let s : State := base;
      let c := (([(Instr.chgTerminate, 2), (.chgHold, 3)])[1]);
      charging s.chgState = false ∧ s.chgDue c.2 = true) := by
  refine ⟨?_, ?_, ?_, ?_, ?_, ?_, ?_⟩ <;> decide +kernel

theorem test_meets_ChargerTransitions_1 :
    (let s : State := base;
      let c := (([(Instr.trickleExit, chgTrickle, chgPre), (.preExit, chgPre, chgCC), (.ccToCv, chgCC, chgCV)])[0]);
      let s : State := { s with chg := { s.chg with exitRun := (50) } };
      let s : State := s.put CHG_STAT CHG_STAT_STATE c.2.1;
      s.engines = true ∧ 50 ≤ s.chg.exitRun ∧ s.chgState = c.2.1) ∧
    (let s : State := base;
      let c := (([(Instr.trickleExit, chgTrickle, chgPre), (.preExit, chgPre, chgCC), (.ccToCv, chgCC, chgCV)])[1]);
      let s : State := { s with chg := { s.chg with exitRun := (50) } };
      let s : State := s.put CHG_STAT CHG_STAT_STATE c.2.1;
      s.engines = true ∧ 50 ≤ s.chg.exitRun ∧ s.chgState = c.2.1) ∧
    (let s : State := base;
      let c := (([(Instr.trickleExit, chgTrickle, chgPre), (.preExit, chgPre, chgCC), (.ccToCv, chgCC, chgCV)])[2]);
      let s : State := { s with chg := { s.chg with exitRun := (50) } };
      let s : State := s.put CHG_STAT CHG_STAT_STATE c.2.1;
      s.engines = true ∧ 50 ≤ s.chg.exitRun ∧ s.chgState = c.2.1) ∧
    (let s : State := base;
      let s : State := s.put CHG_STAT CHG_STAT_STATE chgCV;
      let s : State := s.updChg (fun x => { x with safeOn := true, safeMs := 300000 * 255 });
      s.engines = true ∧ s.safeDone = true ∧ charging s.chgState = true) ∧
    (let s : State := base;
      let s : State := s.put CHG_STAT CHG_STAT_STATE chgSafeHold;
      let s : State := s.updChg (fun x => { x with safeOn := true, safeMs := 300000 * 255 });
      s.engines = true ∧ s.safeDone = true ∧ s.chgState = chgSafeHold) ∧
    (let s : State := base;
      let s : State := s.put CHG_STAT CHG_STAT_STATE chgPre;
      let s : State := s.updChg (fun x => { x with preOn := true, preMs := 60000 * 255 });
      s.engines = true ∧ s.preDone = true ∧ s.chgState ∈ [chgTrickle, chgPre]) ∧
    (let s : State := base;
      let k : Fin 8 := 7;
      let s : State := { s with chg := { s.chg with ovRun := s.chg.ovRun.set k ((5)) } };
      let s : State := s.put CHG_STAT CHG_STAT_STATE chgCV;
      s.engines = true ∧ 5 ≤ s.chg.ovRun[k] ∧ charging s.chgState = true) ∧
    (let s : State := base;
      let n : Fin 96 := 95;
      let s : State := s.put CHG_STAT CHG_STAT_STATE chgCV;
      let s : State := s.put CHG_STOPEV CHG_STOPEV_EN1 1;
      let s : State := s.put CHG_STOPEV CHG_STOPEV_MEV1 95;
      let s : State := s.put (MEV_STAT 2) (bitF 31) 1;
      s.engines = true ∧ s.mevStands n = true ∧ s.stopNamed n = true ∧ charging s.chgState = true) ∧
    (let s : State := base;
      let how : Removal := .byId;
      let s : State := s.put CHG_STAT CHG_STAT_STATE chgPackQual;
      let s : State := s.put PATH_STAT PATH_STAT_PATH pathOnFeed;
      s.engines = true ∧ s.chgState ∈ [chgIdle, chgTrickle, chgPre, chgCC, chgCV, chgZch, chgPackQual] ∧ s.path = pathOnFeed ∧
        s.removalFound how = true) ∧
    (let s : State := base;
      let s : State := s.put CHG_STAT CHG_STAT_STATE chgNoPack;
      s.engines = true ∧ s.chgState = chgNoPack) ∧
    (let s : State := base;
      let s : State := s.put CHG_STAT CHG_STAT_STATE chgPackQual;
      let s : State := { s with clk := { s.clk with frames := (s.chg.qualEnd) } };
      let s : State := { s with est := { s.est with running := (false) } };
      s.engines = true ∧ s.chgState = chgPackQual ∧ s.chg.qualEnd ≤ s.clk.frames ∧ s.est.running = false ∧ s.firstHigh 8 = none) ∧
    (let s : State := base;
      let k := 7;
      let s : State := s.put CHG_STAT CHG_STAT_STATE chgPackQual;
      let s : State := { s with clk := { s.clk with frames := (s.chg.qualEnd) } };
      let s : State := s.put CHG_CFG CHG_CFG_CELLS 8;
      let s : State := s.put (GG_CELL 7) GG_CELL_V 60000;
      s.engines = true ∧ s.chgState = chgPackQual ∧ s.chg.qualEnd ≤ s.clk.frames ∧ s.firstHigh 8 = some k) := by
  refine ⟨?_, ?_, ?_, ?_, ?_, ?_, ?_, ?_, ?_, ?_, ?_, ?_⟩ <;> decide +kernel

theorem test_meets_ChargerTransitions_2 :
    (let s : State := base;
      let s : State := s.put CHG_STAT CHG_STAT_STATE chgZch;
      let s : State := { s with chg := { s.chg with shortRun := (50) } };
      let s : State := { s with chg := { s.chg with shortSaid := (false) } };
      s.engines = true ∧ s.chgState = chgZch ∧ 50 ≤ s.chg.shortRun ∧ s.chg.shortSaid = false) := by
  decide +kernel

theorem test_meets_GaugeEvents :
    (let s : State := base;
      let s : State := s.put GG_STAT GG_STAT_REST (0);
      let s : State := { s with gg := { s.gg with restRun := (50000 * max 1 (s.latchedF GG_REST GG_REST_REST_T)) } };
      let s : State := s.updChg (fun c => { c with packId := true });
      s.gaugeRuns = true ∧ s.packPresent = true ∧ s.get GG_STAT GG_STAT_REST = 0 ∧
        50000 * max 1 (s.latchedF GG_REST GG_REST_REST_T) ≤ s.gg.restRun) ∧
    (let s : State := base;
      let s : State := s.put GG_STAT GG_STAT_REST (0);
      let s : State := s.put GG_STAT GG_STAT_DRIFT (0);
      let s : State := s.put GG_REST_AGE GG_REST_AGE_AGE (3600 * max 1 (s.latchedF GG_CFG GG_CFG_DRIFT_H));
      let s : State := (s.put GG_CFG GG_CFG_DRIFT_H 1).latch;
      let s : State := s.put GG_REST_AGE GG_REST_AGE_AGE 3600;
      s.gaugeRuns = true ∧ s.get GG_STAT GG_STAT_REST = 0 ∧ s.get GG_STAT GG_STAT_DRIFT = 0 ∧
        3600 * max 1 (s.latchedF GG_CFG GG_CFG_DRIFT_H) ≤ s.get GG_REST_AGE GG_REST_AGE_AGE) ∧
    (let s : State := base;
      let k : Fin 8 := 7;
      let s : State := { s with gg := { s.gg with uvRun := s.gg.uvRun.set k ((5)) } };
      s.engines = true ∧ 5 ≤ s.gg.uvRun[k] ∧ k.val ∉ s.gg.uvSaid) ∧
    (let s : State := base;
      let s : State := s.putB GG_EFLAGS GG_EFLAGS_FROZEN true;
      let s : State := { s with opt := { s.opt with ms := (s.gg.frozenAt + 3600000) } };
      s.engines = true ∧ s.flag GG_EFLAGS GG_EFLAGS_FROZEN = true ∧ s.gg.frozenAt + 3600000 ≤ s.opt.ms ∧ s.nvBlocked = false) ∧
    (let s : State := base;
      let s : State := s.putB GG_EFLAGS GG_EFLAGS_FROZEN true;
      let s : State := { s with opt := { s.opt with ms := (s.gg.frozenAt + 3600000) } };
      let s : State := s.put PLATE_STAT PLATE_STAT_BLOCKED 1;
      s.engines = true ∧ s.flag GG_EFLAGS GG_EFLAGS_FROZEN = true ∧ s.gg.frozenAt + 3600000 ≤ s.opt.ms ∧ s.nvBlocked = true) ∧
    (let s : State := base;
      s.burinReaches = true ∧ s.actSrc = 0) ∧
    (let s : State := base;
      let s : State := s.put SYS_ACT SYS_ACT_SRC 1;
      s.burinReaches = true ∧ s.actSrc ≠ 0) ∧
    (let s : State := base;
      s.inRun = true) ∧
    (let s : State := base;
      s.inRun = true) ∧
    (let s : State := base;
      let s : State := { s with power := (.standby) };
      let s : State := { s with gg := { s.gg with wakeRun := (2) } };
      let s : State := s.putB PWR_WAKE_EN PWR_WAKE_EN_GAUGE true;
      s.power = .standby ∧ 2 ≤ s.gg.wakeRun ∧ s.flag PWR_WAKE_EN PWR_WAKE_EN_GAUGE = true) ∧
    (let s : State := base;
      let s : State := { s with power := (.standby) };
      let s : State := s.putB GG_STAT GG_STAT_HIB true;
      let s : State := { s with bak := { s.bak with crystal := (true) } };
      s.power = .standby ∧ s.flag GG_STAT GG_STAT_HIB = true ∧ s.bak.crystal = true) := by
  refine ⟨?_, ?_, ?_, ?_, ?_, ?_, ?_, ?_, ?_, ?_, ?_⟩ <;> decide +kernel

theorem test_meets_EstimatorUpdate :
    (let s : State := base;
      let s : State := { s with proc := { s.proc with mode := (.firmware) } };
      let s : State := boot s BOOT_STAT_READY 1;
      s.engines = true ∧ s.proc.mode = .firmware ∧ s.flag BOOT_STAT BOOT_STAT_READY = true ∧ s.estDue = true) := by
  decide +kernel

theorem test_meets_PlateEvents :
    (let s : State := base;
      let r : PlateRec := { type := 1, sev := 3, esn := 0x20, code := 2, first := 0, frm := 0, last := 0, rep := 1, payload := pad32 [] };
      let s : State := { s with plate := { s.plate with raised := ([r]) } };
      let s : State := { s with plate := { s.plate with coldMark := (false) } };
      let s : State := { s with flt := { s.flt with window := [] } };
      s.inRun = true ∧ s.ingestDue = true ∧ s.plate.raised = [r] ∧ 3 ≤ r.sev ∧ s.fifoHigh + s.fifoLow < 512 ∧
        s.plate.newest.find? (fun n => n.esn == r.esn) = none ∧ s.plate.coldMark = false) ∧
    (let s : State := base;
      let x : Supp := ⟨0x95, 7, 9⟩;
      let s : State := s.put PLATE_STAT PLATE_STAT_FLOOD (1);
      let s : State := { s with clk := { s.clk with stage := (.reserve) } };
      let s : State := { s with plate := { s.plate with calm := (true) } };
      let s : State := { s with plate := { s.plate with supp := ([x]) } };
      s.inRun = true ∧ s.get PLATE_STAT PLATE_STAT_FLOOD = 1 ∧ s.clk.stage = .reserve ∧ s.plate.calm = true ∧ s.plate.supp = [x] ∧
        x.esn < 256) ∧
    (let s : State := base;
      s.inRun = true ∧ s.opt.hourMark < s.opt.ms / 3600000 ∧ s.plate.marks.length < 4) ∧
    (let s : State := base;
      let s : State := { s with plate := { s.plate with snapCmd := (none) } };
      let s : State := { s with plate := { s.plate with snap := ([]) } };
      s.inRun = true ∧ s.plate.snapCmd = none ∧ s.plate.snap = []) ∧
    (let s : State := base;
      let s : State := { s with plate := { s.plate with snapCmd := (none) } };
      let s : State := s.updPlate (fun p => { p with snap := [{ type := 3, sev := 1, esn := 0x90, code := 0, first := 0, frm := 0, last := 0, rep := 1, payload := [] }] });
      s.inRun = true ∧ s.plate.snapCmd = none ∧ s.plate.snap ≠ []) ∧
    (let s : State := base;
      let s : State := s.put PLATE_STAT PLATE_STAT_READY (0);
      s.inRun = true ∧ s.get PLATE_STAT PLATE_STAT_READY = 0 ∧ markedPlate s.mram.cells = []) := by
  refine ⟨?_, ?_, ?_, ?_, ?_, ?_⟩ <;> decide +kernel

theorem test_meets_PlateWindow :
    (let s : State := base;
      let v : BitVec 20 := 983039;
      s.inRun = true ∧ v.toNat ≤ 983039) ∧
    (let s : State := base;
      let v : BitVec 20 := 983040;
      s.inRun = true ∧ 983039 < v.toNat) ∧
    (let s : State := base;
      let s : State := s.put PLATE_CURSOR PLATE_CURSOR_SLOT 3;
      let s : State := { s with mram := { s.mram with cells := memWrite [] (plateBase + 200) [1,2,3,4,5,6,7,8,9,10,11,12] } };
      s.inRun = true) ∧
    (let s : State := base;
      let s : State := s.put PLATE_CURSOR PLATE_CURSOR_SLOT 983039;
      let s : State := { s with mram := { s.mram with cells := memWrite [] (plateBase + 64*983039 + 16) [1,2,3,4,5,6,7,8,9,10,11,12] } };
      s.inRun = true) ∧
    (let s : State := base;
      s.inRun = true) := by
  refine ⟨?_, ?_, ?_, ?_, ?_⟩ <;> decide +kernel

theorem test_meets_ProcessorResets :
    (let s : State := base;
      let s : State := s.put RST_CFG RST_CFG_PIN_EN (1);
      let s : State := { s with proc := { s.proc with mode := .fenced } };
      s.inRun = true ∧ s.get RST_CFG RST_CFG_PIN_EN = 1 ∧ s.proc.mode ∈ [.firmware, .recovery, .fenced]) ∧
    (let s : State := base;
      let s : State := s.put RST_CFG RST_CFG_PIN_EN (0);
      s.get RST_CFG RST_CFG_PIN_EN = 0) ∧
    (let s : State := base;
      s.coresRun = true ∧ s.recentMismatches.length < 3) ∧
    (let s : State := base;
      let s : State := { s with proc := { s.proc with mismatches := [1, 99990000, 99995000, 99999999] } };
      s.coresRun = true ∧ 3 ≤ s.recentMismatches.length) ∧
    (let s : State := base;
      s.coresRun = true) ∧
    (let s : State := base;
      s.coresRun = true) ∧
    (let s : State := base;
      let s : State := { s with proc := { s.proc with mode := (.rom) } };
      let s : State := s.updWd (fun w => { w with running := true, period := 1, clocks := 100000 });
      let s : State := { s with proc := { s.proc with mode := .rom } };
      let s : State := s.updWd (fun w => { w with running := true, clocks := 1999000 });
      s.inRun = true ∧ s.proc.mode = .rom ∧ s.wdEndsNow = true) := by
  refine ⟨?_, ?_, ?_, ?_, ?_, ?_, ?_⟩ <;> decide +kernel

theorem test_meets_Watchdog :
    (let s : State := base;
      let s : State := { s with wd := { s.wd with running := (true) } };
      let s : State := s.updWd (fun w => { w with running := true, period := 1, clocks := 100000 });
      let s : State := { s with wd := { s.wd with first := (false) } };
      let s : State := { s with wd := { s.wd with required := 0x8001 } };
      let s : State := s.put WD_STAT WD_STAT_DONE 0x8003;
      let s : State := s.put WD_STAT WD_STAT_OPEN 1;
      let s : State := s.wr WD_SEQ 0xFFFFFFFF;
      let s : State := s.updWd (fun w => { w with running := true, period := 1, clocks := 100000 });
      s.inRun = true ∧ s.wd.running = true ∧ s.proc.mode ≠ .rom ∧ s.wdEndsNow = true ∧ s.wd.first = false ∧
        s.wd.required &&& s.get WD_STAT WD_STAT_DONE = s.wd.required) ∧
    (let s : State := base;
      let s : State := { s with wd := { s.wd with running := (true) } };
      let s : State := s.updWd (fun w => { w with running := true, period := 1, clocks := 100000 });
      let s : State := { s with wd := { s.wd with required := 0x8001 } };
      let s : State := s.put WD_STAT WD_STAT_DONE 0x8000;
      let s : State := s.updWd (fun w => { w with running := true, period := 1, clocks := 100000 });
      s.inRun = true ∧ s.wd.running = true ∧ s.proc.mode ≠ .rom ∧ s.wdEndsNow = true ∧
        s.wd.required &&& s.get WD_STAT WD_STAT_DONE ≠ s.wd.required) ∧
    (let s : State := base;
      let w : Word := 0x5A3D000F;
      let k : BitVec 12 := 500;
      let s : State := { s with proc := { s.proc with mode := (.firmware) } };
      let s : State := { s with wd := { s.wd with running := (true) } };
      let s : State := s.updWd (fun w => { w with running := true, period := 1, clocks := 99000 });
      s.inRun = true ∧ s.proc.mode = .firmware ∧ s.actSrc = 0 ∧ s.wd.running = true ∧ (s.clockAt k.toNat).wdElapsed < s.wdLimit ∧
        getF w ⟨16, 16⟩ ≠ 0x5A3C) ∧
    (let s : State := base;
      let w : Word := 0x5A3CFF0F;
      let k : BitVec 12 := 500;
      let s : State := { s with proc := { s.proc with mode := (.firmware) } };
      let s : State := { s with wd := { s.wd with running := (true) } };
      let s : State := s.wr WD_SEQ 0x1FF;
      let s : State := s.put WD_STAT WD_STAT_DONE 0x7FFF;
      let s : State := { s with wd := { s.wd with enabled := 0x8001 } };
      let s : State := { s with wd := { s.wd with required := 0x8000 } };
      let s : State := s.updWd (fun w => { w with running := true, period := 1, clocks := 99000 });
      s.inRun = true ∧ s.proc.mode = .firmware ∧ s.actSrc = 0 ∧ s.wd.running = true ∧ (s.clockAt k.toNat).wdElapsed < s.wdLimit ∧
        getF w ⟨16, 16⟩ = 0x5A3C ∧ getF w ⟨0, 8⟩ < 16 ∧ s.wd.enabled.testBit (getF w ⟨0, 8⟩) = true ∧
        ownerIn s.wd.own0 s.wd.own1 (getF w ⟨0, 8⟩) = 0 ∧ (s.get WD_STAT WD_STAT_DONE).testBit (getF w ⟨0, 8⟩) = false ∧
        getF w ⟨8, 8⟩ = (s.rd WD_SEQ).toNat % 256 ∧
        (windowAt s.wd.period (s.get WD_FUSE1 WD_FUSE1_WIN) : Int) ≤ (s.clockAt k.toNat).wdElapsed) ∧
    (let s : State := base;
      let w : Word := 0x5A3C0000;
      let k : BitVec 12 := 500;
      let s : State := { s with proc := { s.proc with mode := (.firmware) } };
      let s : State := { s with wd := { s.wd with running := (true) } };
      let s : State := { s with wd := { s.wd with enabled := 1 } };
      let s : State := s.put WD_STAT WD_STAT_DONE 1;
      let s : State := s.updWd (fun w => { w with running := true, period := 1, clocks := 99000 });
      s.inRun = true ∧ s.proc.mode = .firmware ∧ s.actSrc = 0 ∧ s.wd.running = true ∧ (s.clockAt k.toNat).wdElapsed < s.wdLimit ∧
        getF w ⟨16, 16⟩ = 0x5A3C ∧ getF w ⟨0, 8⟩ < 16 ∧ s.wd.enabled.testBit (getF w ⟨0, 8⟩) = true ∧
        ownerIn s.wd.own0 s.wd.own1 (getF w ⟨0, 8⟩) = 0 ∧ (s.get WD_STAT WD_STAT_DONE).testBit (getF w ⟨0, 8⟩) = true) ∧
    (let s : State := base;
      let s : State := s.put WD_STAT WD_STAT_OUT (1);
      let s : State := { s with wd := { s.wd with outLeft := (0) } };
      s.inRun = true ∧ s.get WD_STAT WD_STAT_OUT = 1 ∧ s.wd.outLeft = 0) := by
  refine ⟨?_, ?_, ?_, ?_, ?_, ?_⟩ <;> decide +kernel

theorem test_meets_Doorbells :
    (let s : State := base;
      let w : Word := 0xFFFFFFFE;
      let s : State := { s with layers := (true) };
      let s : State := s.put (IC_PRIO 63) ⟨31, 1⟩ 1;
      s.layers = true ∧ s.coresRun = true ∧ w ≠ 0xFFFFFFFF ∧ s.icEnabled (w >>> 24).toNat = true ∧
        (∀ p ∈ s.ic.latch, p.1 ≠ (w >>> 24).toNat)) ∧
    (let s : State := base;
      let w : Word := 0xFF000001;
      let s : State := { s with layers := (true) };
      let s : State := s.put (IC_PRIO 63) ⟨31, 1⟩ 1;
      let s : State := { s with ic := { s.ic with latch := [(255, 0xFF000000)] } };
      let s : State := s.put (IC_OVF 255) IC_OVF_COUNT 255;
      s.layers = true ∧ s.coresRun = true ∧ w ≠ 0xFFFFFFFF ∧ s.icEnabled (w >>> 24).toNat = true ∧
        (∃ p ∈ s.ic.latch, p.1 = (w >>> 24).toNat)) ∧
    (let s : State := base;
      let s : State := { s with layers := (true) };
      s.layers = true ∧ s.coresRun = true) ∧
    (let s : State := base;
      let esn : Nat := 255;
      let w : Word := 0xFF001122;
      let r : List (Nat × Word) := [];
      let s : State := { s with layers := (true) };
      let s : State := { s with ic := { s.ic with latch := ((esn, w) :: r) } };
      let s : State := s.put (IC_PRIO 63) ⟨24, 3⟩ 7;
      let s : State := { s with ic := { s.ic with count := s.ic.count.set 7 31, head := s.ic.head.set 7 5 } };
      s.layers = true ∧ s.inRun = true ∧ s.ic.latch = (esn, w) :: r ∧ s.ic.count[s.ringOf esn] < 32) ∧
    (let s : State := base;
      let esn : Nat := 255;
      let w : Word := 0xFF001122;
      let r : List (Nat × Word) := [];
      let s : State := { s with layers := (true) };
      let s : State := { s with ic := { s.ic with latch := ((esn, w) :: r) } };
      let s : State := s.put (IC_PRIO 63) ⟨24, 3⟩ 7;
      let s : State := { s with ic := { s.ic with count := s.ic.count.set 7 32 } };
      s.layers = true ∧ s.inRun = true ∧ s.ic.latch = (esn, w) :: r ∧ 32 ≤ s.ic.count[s.ringOf esn]) := by
  refine ⟨?_, ?_, ?_, ?_, ?_⟩ <;> decide +kernel

theorem test_meets_InterruptClaim :
    (let s : State := base;
      let p : Fin 8 := 3;
      let s : State := { s with ic := { s.ic with count := s.ic.count.set p ((0 + 1)) } };
      let s : State := { s with ic := { s.ic with count := (s.ic.count.set 3 1).set 0 4, head := s.ic.head.set 3 31 } };
      let s : State := s.putB IC_STAT (bitF 3) true;
      let s : State := { s with dtcm := memWrite [] (s.ringAt 3 31) [1,2,3,4] };
      s.coresRun = true ∧ s.actSrc = 0 ∧ 0 < s.ic.count[p] ∧ ((∀ q : Fin 8, p < q → s.ic.count[q] = 0))) ∧
    (let s : State := base;
      s.coresRun = true ∧ s.actSrc = 0 ∧ (∀ q : Fin 8, s.ic.count[q] = 0)) ∧
    (let s : State := base;
      let s : State := s.put SYS_ACT SYS_ACT_SRC 1;
      s.coresRun = true ∧ s.actSrc ≠ 0) ∧
    (let s : State := base;
      let s : State := s.put SYS_ACT SYS_ACT_SRC 1;
      s.actSrc ≠ 0) := by
  refine ⟨?_, ?_, ?_, ?_⟩ <;> decide +kernel

theorem test_meets_LoopStartStop :
    (let s : State := base;
      let m : Fin 4 := 3;
      let s : State := { s with loops := s.loops.set m ({ s.loops[m] with pendEn := (some true) }) };
      let s : State := { s with clk := { s.clk with frames := (s.loops[m].askAt + 1) } };
      let s : State := { s with loops := s.loops.set m ({ s.loops[m] with run := (.off) }) };
      let s : State := s.put (PH_CFG 15) PH_CFG_ROLE 1;
      let s : State := s.put (PH_CFG 15) PH_CFG_LOOP m;
      let s : State := s.put (PH_STAT 15) PH_STAT_STATE phActive;
      s.engines = true ∧ s.loops[m].pendEn = some true ∧ s.loops[m].askAt < s.clk.frames ∧ s.loops[m].run = .off ∧
        s.enableRefused m = true) ∧
    (let s : State := base;
      let m : Fin 4 := 3;
      let s : State := { s with loops := s.loops.set m ({ s.loops[m] with pendEn := (some true) }) };
      let s : State := { s with clk := { s.clk with frames := (s.loops[m].askAt + 1) } };
      let s : State := { s with loops := s.loops.set m ({ s.loops[m] with run := (.off) }) };
      let s : State := s.put (PH_CFG 15) PH_CFG_ROLE 1;
      let s : State := s.put (PH_CFG 15) PH_CFG_LOOP m;
      let s : State := s.put (PH_STAT 15) PH_STAT_STATE phActive;
      let s : State := s.put (coefAt m 0 0) LOOP_COEF_COEF 100;
      let s : State := s.put (LOOP_FSW m) LOOP_FSW_PER 64000;
      s.engines = true ∧ s.loops[m].pendEn = some true ∧ s.loops[m].askAt < s.clk.frames ∧ s.loops[m].run = .off ∧
        s.enableRefused m = false) ∧
    (let s : State := base;
      let m : Fin 4 := 3;
      let s : State := { s with loops := s.loops.set m ({ s.loops[m] with run := (.stageDelay) }) };
      s.engines = true ∧ s.loops[m].run = .stageDelay ∧ s.loops[m].delay ≤ 1) ∧
    (let s : State := base;
      let m : Fin 4 := 3;
      let s : State := { s with loops := s.loops.set m ({ s.loops[m] with run := (.on) }) };
      let s : State := s.put (LOOP_STAT m) LOOP_STAT_RAMP (1);
      s.engines = true ∧ s.loops[m].run = .on ∧ s.get (LOOP_STAT m) LOOP_STAT_RAMP = 1 ∧ s.rampNear m = true) ∧
    (let s : State := base;
      let m : Fin 4 := 3;
      let s : State := { s with loops := s.loops.set m ({ s.loops[m] with run := (.on) }) };
      let s : State := s.put (LOOP_STAT m) LOOP_STAT_PG (0);
      let s : State := { s with loops := s.loops.set m ({ s.loops[m] with pgRun := (max 1 (s.get (LOOP_CTL m) LOOP_CTL_PG_FILT)) }) };
      s.engines = true ∧ s.loops[m].run = .on ∧ s.get (LOOP_STAT m) LOOP_STAT_PG = 0 ∧
        max 1 (s.get (LOOP_CTL m) LOOP_CTL_PG_FILT) ≤ s.loops[m].pgRun) ∧
    (let s : State := base;
      let m : Fin 4 := 3;
      let s : State := { s with loops := s.loops.set m ({ s.loops[m] with pendEn := (some false) }) };
      let s : State := { s with clk := { s.clk with frames := (s.loops[m].askAt + 1) } };
      let s : State := { s with loops := s.loops.set m ({ s.loops[m] with run := (.on) }) };
      let s : State := s.put (LOOP_CTL m) LOOP_CTL_SOFT_STOP (1);
      s.engines = true ∧ s.loops[m].pendEn = some false ∧ s.loops[m].askAt < s.clk.frames ∧ s.loops[m].run = .on ∧
        s.get (LOOP_CTL m) LOOP_CTL_SOFT_STOP = 1) ∧
    (let s : State := base;
      let m : Fin 4 := 3;
      let s : State := { s with loops := s.loops.set m ({ s.loops[m] with pendEn := (some false) }) };
      let s : State := { s with clk := { s.clk with frames := (s.loops[m].askAt + 1) } };
      let s : State := { s with loops := s.loops.set m ({ s.loops[m] with run := (.on) }) };
      let s : State := s.put (LOOP_CTL m) LOOP_CTL_SOFT_STOP (0);
      s.engines = true ∧ s.loops[m].pendEn = some false ∧ s.loops[m].askAt < s.clk.frames ∧ s.loops[m].run = .on ∧
        s.get (LOOP_CTL m) LOOP_CTL_SOFT_STOP = 0) ∧
    (let s : State := base;
      let m : Fin 4 := 3;
      let s : State := { s with loops := s.loops.set m ({ s.loops[m] with run := (.softStop) }) };
      s.engines = true ∧ s.loops[m].run = .softStop ∧ s.rampNear m = true) ∧
    (let s : State := base;
      let m : Fin 4 := 3;
      let s : State := { s with loops := s.loops.set m ({ s.loops[m] with stgEnFall := (true) }) };
      s.engines = true ∧ s.loops[m].stgEnFall = true) := by
  refine ⟨?_, ?_, ?_, ?_, ?_, ?_, ?_, ?_, ?_⟩ <;> decide +kernel

theorem test_meets_LoopControl :
    (let s : State := base;
      let m : Fin 4 := 3;
      let s : State := { s with loops := s.loops.set m ({ s.loops[m] with pendCode := (true) }) };
      let s : State := { s with clk := { s.clk with frames := (s.loops[m].askAt + 1) } };
      let s : State := { s with loops := s.loops.set m ({ s.loops[m] with run := (.on) }) };
      s.engines = true ∧ s.loops[m].pendCode = true ∧ s.loops[m].askAt < s.clk.frames ∧ s.loops[m].run = .on) ∧
    (let s : State := base;
      let m : Fin 4 := 3;
      let s : State := { s with loops := s.loops.set m ({ s.loops[m] with run := (.on) }) };
      let s : State := { s with loops := s.loops.set m ({ s.loops[m] with started := (true) }) };
      let s : State := s.put (LOOP_STAT m) LOOP_STAT_APF (0);
      let s : State := s.put (LOOP_STAT m) LOOP_STAT_BRAKE (0);
      s.engines = true ∧ s.loops[m].run = .on ∧ s.loops[m].started = true ∧ s.get (LOOP_STAT m) LOOP_STAT_APF = 0 ∧
        s.get (LOOP_STAT m) LOOP_STAT_BRAKE = 0) ∧
    (let s : State := base;
      let m : Fin 4 := 3;
      let c1 : BitVec 9 := 255;
      let c2 : BitVec 9 := 0;
      let c3 : BitVec 9 := 0;
      let c4 : BitVec 9 := 0;
      let s : State := { s with loops := s.loops.set m ({ s.loops[m] with run := (.on) }) };
      let s : State := { s with loops := s.loops.set m ({ s.loops[m] with started := (false) }) };
      s.engines = true ∧ s.loops[m].run = .on ∧ s.loops[m].started = false ∧
        ((errorOf c1 c2 c3 c4 ≤ 0 ∨ s.get (LOOP_STAT m) LOOP_STAT_APF = 1 ∨ s.get (LOOP_STAT m) LOOP_STAT_BRAKE = 1))) ∧
    (let s : State := base;
      s.engines = true) ∧
    (let s : State := base;
      let m : Fin 4 := 3;
      let s : State := { s with loops := s.loops.set m ({ s.loops[m] with pendPer := (true) }) };
      let s : State := { s with clk := { s.clk with frames := (s.loops[m].askAt + 1) } };
      let s : State := { s with loops := s.loops.set m ({ s.loops[m] with syncOn := (false) }) };
      let s : State := { s with loops := s.loops.set m ({ s.loops[m] with held := (false) }) };
      s.engines = true ∧ s.loops[m].pendPer = true ∧ s.loops[m].askAt < s.clk.frames ∧ s.loops[m].syncOn = false ∧
        s.loops[m].held = false) ∧
    (let s : State := base;
      let m : Fin 4 := 3;
      let errs : Vector (BitVec 17) 16 := Vector.replicate 16 0x1FFC0#17;
      let s : State := { s with loops := s.loops.set m ({ s.loops[m] with syncOn := (true) }) };
      let s : State := { s with loops := s.loops.set m ({ s.loops[m] with per := (s.loops[m].perTo) }) };
      let s : State := s.put (LOOP_STAT m) LOOP_STAT_SYNCED (0);
      s.engines = true ∧ s.loops[m].syncOn = true ∧ s.loops[m].per = s.loops[m].perTo ∧ s.get (LOOP_STAT m) LOOP_STAT_SYNCED = 0 ∧
        (∀ k : Fin 16, errs[k].toInt.natAbs ≤ 64) ∧ s.loops[m].phErr.natAbs ≤ 64 + s.loops[m].pullStep) ∧
    (let s : State := base;
      let m : Fin 4 := 3;
      let p1 : BitVec 16 := 8000;
      let p2 : BitVec 16 := 8001;
      let p3 : BitVec 16 := 8002;
      let p4 : BitVec 16 := 8003;
      let s : State := s.put (LOOP_FSW m) LOOP_FSW_SYNC_EN (1);
      let s : State := s.put (LOOP_FSW 0) LOOP_FSW_PER 8000;
      let s : State := s.put (LOOP_FSW 1) LOOP_FSW_PER 8000;
      let s : State := s.put (LOOP_FSW 2) LOOP_FSW_PER 8000;
      let s : State := s.put (LOOP_FSW 3) LOOP_FSW_PER 8000;
      s.engines = true ∧ s.get (LOOP_FSW m) LOOP_FSW_SYNC_EN = 1 ∧ periodsAgree [p1.toNat, p2.toNat, p3.toNat, p4.toNat] = true ∧
        (∀ k : Fin 4, [p1.toNat, p2.toNat, p3.toNat, p4.toNat].all (s.syncFits k) = true)) ∧
    (let s : State := base;
      let m : Fin 4 := 3;
      let p1 : BitVec 16 := 8000;
      let p2 : BitVec 16 := 8001;
      let p3 : BitVec 16 := 8002;
      let p4 : BitVec 16 := 9003;
      let s : State := s.put (LOOP_FSW m) LOOP_FSW_SYNC_EN (1);
      s.engines = true ∧ s.get (LOOP_FSW m) LOOP_FSW_SYNC_EN = 1 ∧ periodsAgree [p1.toNat, p2.toNat, p3.toNat, p4.toNat] = false) ∧
    (let s : State := base;
      let s : State := s.put SYNC_STAT SYNC_STAT_QUAL (1);
      s.engines = true ∧ s.get SYNC_STAT SYNC_STAT_QUAL = 1) := by
  refine ⟨?_, ?_, ?_, ?_, ?_, ?_, ?_, ?_, ?_⟩ <;> decide +kernel

theorem test_meets_PhaseConfiguration :
    (let s : State := base;
      let k : Nat := 1;
      s.burinReaches = true ∧ s.protBlocked s.actSrc 5 = some k) ∧
    (let s : State := base;
      let n : Fin 16 := 15;
      let v : Word := setF 0 PH_CFG_ROLE 3;
      let s : State := { s with sys := { s.sys with window := some ⟨s.actSrc, 5, s.opt.ms + 100⟩ } };
      let s : State := { s with sys := { s.sys with window := some ⟨0, 5, s.opt.ms + 100⟩ } };
      s.burinReaches = true ∧ s.protBlocked s.actSrc 5 = none ∧
        (getF v PH_CFG_ROLE = 3 ∨ s.loopOn (s.loopOf n) = true ∨ (∃ m : Fin 4, m.val = getF v PH_CFG_LOOP ∧ s.loopOn m = true))) ∧
    (let s : State := base;
      let v : Word := 0x12;
      let s : State := { s with sys := { s.sys with window := some ⟨s.actSrc, 5, s.opt.ms + 100⟩ } };
      let s : State := { s with sys := { s.sys with window := some ⟨0, 5, s.opt.ms + 100⟩ } };
      s.burinReaches = true ∧ s.protBlocked s.actSrc 5 = none ∧ getF v PH_CFG_ROLE ≠ 3 ∧ (∀ m : Fin 4, s.loopOn m = false)) := by
  refine ⟨?_, ?_, ?_⟩ <;> decide +kernel

theorem test_meets_LoopProtections :
    (let s : State := base;
      let full : BitVec 16 := 0;
      s.engines = true ∧ ((∀ k : Fin 16, full.getLsbD k = true → s.phRole k = 0 ∨ s.phState k = phFenced))) ∧
    (let s : State := base;
      let n : Fin 16 := 15;
      let full : BitVec 16 := 0x8000;
      let s : State := s.put (PH_CFG n) PH_CFG_ROLE 1;
      let s : State := s.put (PH_STAT n) PH_STAT_STATE phActive;
      let s : State := s.put (PH_STAT n) PH_STAT_STATE phActive;
      s.engines = true ∧ full.getLsbD n = true ∧ s.phRole n ≠ 0 ∧ s.phState n ≠ phFenced ∧ s.phState n ≠ phUnused) ∧
    (let s : State := base;
      let n : Fin 16 := 15;
      let c : BitVec 10 := 1;
      let s : State := s.put (PH_CFG n) PH_CFG_ROLE 1;
      let s : State := s.put (PH_STAT n) PH_STAT_STATE phActive;
      let s : State := s.put (PH_IMON n) PH_IMON_GAIN (1);
      let s : State := s.put (PH_IMON n) PH_IMON_GAIN 1000;
      let s : State := s.put (PH_CFG n) PH_CFG_LOOP 3;
      let s : State := s.put (PH_CFG n) PH_CFG_ROLE 1;
      let s : State := s.put (PH_IMON n) PH_IMON_GAIN 4095;
      s.engines = true ∧ s.phRole n ≠ 0 ∧ s.phState n ≠ phFenced ∧ s.get (PH_IMON n) PH_IMON_GAIN ≠ 0 ∧ c.toNat ≠ 0 ∧ c.toNat ≠ 1023 ∧
        s.imonCurrent n c.toNat ≤ s.phOcl (s.loopOf n)) ∧
    (let s : State := base;
      let n : Fin 16 := 15;
      let c : BitVec 10 := 1022;
      let s : State := s.put (PH_CFG n) PH_CFG_ROLE 1;
      let s : State := s.put (PH_STAT n) PH_STAT_STATE phActive;
      let s : State := s.put (PH_IMON n) PH_IMON_GAIN (1);
      let s : State := s.put (PH_IMON n) PH_IMON_GAIN 1000;
      let s : State := s.put (PH_CFG n) PH_CFG_LOOP 3;
      let s : State := s.put (PH_CFG n) PH_CFG_ROLE 1;
      s.engines = true ∧ s.phRole n ≠ 0 ∧ s.phState n ≠ phFenced ∧ s.get (PH_IMON n) PH_IMON_GAIN ≠ 0 ∧ c.toNat ≠ 0 ∧ c.toNat ≠ 1023 ∧
        s.phOcl (s.loopOf n) < s.imonCurrent n c.toNat) ∧
    (let s : State := base;
      let n : Fin 16 := 15;
      let c : BitVec 10 := 1022;
      let s : State := s.put (PH_CFG n) PH_CFG_ROLE 1;
      let s : State := s.put (PH_STAT n) PH_STAT_STATE phFenced;
      let s : State := s.put (PH_IMON n) PH_IMON_GAIN (1);
      let s : State := s.put (PH_STAT n) PH_STAT_STATE phFenced;
      let s : State := s.put (PH_CFG n) PH_CFG_ROLE 1;
      let s : State := s.put (PH_IMON n) PH_IMON_GAIN 1000;
      s.engines = true ∧ s.phRole n ≠ 0 ∧ s.phState n = phFenced ∧ s.get (PH_IMON n) PH_IMON_GAIN ≠ 0 ∧ c.toNat ≠ 0 ∧ c.toNat ≠ 1023) ∧
    (let s : State := base;
      let n : Fin 16 := 15;
      let s : State := s.put (PH_STAT n) PH_STAT_STATE phActive;
      let s : State := s.put (PH_STAT n) PH_STAT_STATE phActive;
      let s : State := { s with phases := s.phases.set n ({ s.phases[n] with ocRun := (8) }) };
      let s : State := s.put (PH_CFG n) PH_CFG_ROLE 1;
      s.phState n ≠ phFenced ∧ s.phState n ≠ phUnused ∧ s.engines = true ∧ 8 ≤ s.phases[n].ocRun) ∧
    (let s : State := base;
      let m : Fin 4 := 3;
      let n : Fin 16 := 15;
      let s : State := s.put (PH_STAT n) PH_STAT_STATE phActive;
      let s : State := s.put (PH_STAT n) PH_STAT_STATE phActive;
      let s : State := s.put (PH_CFG 15) PH_CFG_ROLE 1;
      let s : State := s.put (PH_CFG 15) PH_CFG_LOOP m;
      let s : State := s.put (PH_STAT 15) PH_STAT_STATE phActive;
      let s : State := s.put (LOOP_PROT m) LOOP_PROT_OCL 3;
      let s : State := s.updPhase 15 (fun x => { x with cur := 301 });
      s.phState n ≠ phFenced ∧ s.phState n ≠ phUnused ∧ s.inRun = true) ∧
    (let s : State := base;
      let m : Fin 4 := 3;
      let s : State := s.updLoop m (fun x => { x with run := .on });
      let s : State := { s with loops := s.loops.set m ({ s.loops[m] with ocSums := (4) }) };
      let s : State := s.updLoop m (fun l => { l with ocSums := 4 });
      s.engines = true ∧ s.loops[m].run ≠ .off ∧ 4 ≤ s.loops[m].ocSums) ∧
    (let s : State := base;
      let m : Fin 4 := 3;
      let s : State := s.updLoop m (fun x => { x with run := .on });
      let s : State := { s with loops := s.loops.set m ({ s.loops[m] with ovArmed := (true) }) };
      s.engines = true ∧ s.loops[m].run ≠ .off ∧ s.loops[m].ovArmed = true) ∧
    (let s : State := base;
      let m : Fin 4 := 3;
      let s : State := { s with loops := s.loops.set m ({ s.loops[m] with ovHold := (true) }) };
      s.inRun = true ∧ s.loops[m].ovHold = true) ∧
    (let s : State := base;
      let m : Fin 4 := 3;
      let s : State := { s with loops := s.loops.set m ({ s.loops[m] with run := (.on) }) };
      let s : State := { s with loops := s.loops.set m ({ s.loops[m] with pgOnce := (true) }) };
      let s : State := s.put (LOOP_STAT m) LOOP_STAT_RAMP (0);
      s.engines = true ∧ s.loops[m].run = .on ∧ s.loops[m].pgOnce = true ∧ s.get (LOOP_STAT m) LOOP_STAT_RAMP = 0) ∧
    (let s : State := base;
      let s : State := s.put DLL_STAT DLL_STAT_FAIL_CNT (50);
      let s : State := { s with pe := { s.pe with dllSaid := (false) } };
      s.engines = true ∧ 50 ≤ s.get DLL_STAT DLL_STAT_FAIL_CNT ∧ s.pe.dllSaid = false) := by
  refine ⟨?_, ?_, ?_, ?_, ?_, ?_, ?_, ?_, ?_, ?_, ?_, ?_⟩ <;> decide +kernel

theorem test_meets_LoopTransients_1 :
    (let s : State := base;
      let m : Fin 4 := 3;
      let s : State := { s with loops := s.loops.set m ({ s.loops[m] with run := (.on) }) };
      let s : State := { s with loops := s.loops.set m ({ s.loops[m] with pgOnce := (true) }) };
      let s : State := s.put (LOOP_CTL m) LOOP_CTL_APF_EN (1);
      let s : State := s.put (LOOP_STAT m) LOOP_STAT_APF (0);
      let s : State := { s with loops := s.loops.set m ({ s.loops[m] with rearmWait := (false) }) };
      let s : State := s.put (PH_CFG 15) PH_CFG_ROLE 1;
      let s : State := s.put (PH_CFG 15) PH_CFG_LOOP m;
      let s : State := s.put (PH_STAT 15) PH_STAT_STATE phActive;
      s.engines = true ∧ s.loops[m].run = .on ∧ s.loops[m].pgOnce = true ∧ s.get (LOOP_CTL m) LOOP_CTL_APF_EN = 1 ∧
        s.get (LOOP_STAT m) LOOP_STAT_APF = 0 ∧ s.loops[m].rearmWait = false) ∧
    (let s : State := base;
      let m : Fin 4 := 3;
      let s : State := s.put (LOOP_STAT m) LOOP_STAT_APF (1);
      s.inRun = true ∧ s.get (LOOP_STAT m) LOOP_STAT_APF = 1) ∧
    (let s : State := base;
      let m : Fin 4 := 3;
      let above : BitVec 20 := 0xFFFFF;
      let since : BitVec 20 := 0xFFFFF;
      let s : State := { s with loops := s.loops.set m ({ s.loops[m] with rearmWait := (true) }) };
      let s : State := s.put (LOOP_STAT m) LOOP_STAT_APF (0);
      s.inRun = true ∧ s.loops[m].rearmWait = true ∧ s.get (LOOP_STAT m) LOOP_STAT_APF = 0 ∧ s.loops[m].per ≤ above.toNat ∧
        s.loops[m].per ≤ since.toNat) ∧
    (let s : State := base;
      let m : Fin 4 := 3;
      let n : Fin 16 := 15;
      let s : State := { s with loops := s.loops.set m ({ s.loops[m] with join := (true) }) };
      let s : State := s.put (LOOP_STAT m) LOOP_STAT_APF (0);
      let s : State := s.put (PH_CFG n) PH_CFG_ROLE 1;
      let s : State := s.put (PH_CFG n) PH_CFG_LOOP m;
      let s : State := s.put (PH_STAT n) PH_STAT_STATE phShed;
      s.engines = true ∧ s.loops[m].join = true ∧ s.get (LOOP_STAT m) LOOP_STAT_APF = 0) ∧
    (let s : State := base;
      let m : Fin 4 := 3;
      let f := 100000;
      let s : State := { s with loops := s.loops.set m ({ s.loops[m] with holdoff := (some f) }) };
      let s : State := { s with clk := { s.clk with frames := (f) } };
      s.inRun = true ∧ s.loops[m].holdoff = some f ∧ f ≤ s.clk.frames) ∧
    (let s : State := base;
      let m : Fin 4 := 3;
      let code : BitVec 9 := 255;
      let since : BitVec 20 := 0;
      let s : State := { s with loops := s.loops.set m ({ s.loops[m] with run := (.on) }) };
      let s : State := { s with loops := s.loops.set m ({ s.loops[m] with pgOnce := (true) }) };
      let s : State := s.put (LOOP_CTL m) LOOP_CTL_BRAKE_EN (1);
      let s : State := s.put (LOOP_CTL m) LOOP_CTL_APF_EN (1);
      let s : State := s.put (LOOP_STAT m) LOOP_STAT_APF (0);
      let s : State := s.put (LOOP_STAT m) LOOP_STAT_BRAKE (0);
      s.engines = true ∧ s.loops[m].run = .on ∧ s.loops[m].pgOnce = true ∧ s.get (LOOP_CTL m) LOOP_CTL_BRAKE_EN = 1 ∧
        s.get (LOOP_CTL m) LOOP_CTL_APF_EN = 1 ∧ ((s.loops[m].braked = true → s.loops[m].per ≤ since.toNat)) ∧
        s.get (LOOP_STAT m) LOOP_STAT_APF = 0 ∧ s.get (LOOP_STAT m) LOOP_STAT_BRAKE = 0 ∧
        (s.get (LOOP_BRAKE m) LOOP_BRAKE_OTH : Nat) ≤ code.toInt) ∧
    (let s : State := base;
      let m : Fin 4 := 3;
      let code : BitVec 9 := 0;
      let s : State := s.put (LOOP_STAT m) LOOP_STAT_BRAKE (1);
      s.inRun = true ∧ s.get (LOOP_STAT m) LOOP_STAT_BRAKE = 1 ∧ 2 * code.toInt ≤ (s.get (LOOP_BRAKE m) LOOP_BRAKE_OTH : Nat)) ∧
    (let s : State := base;
      let m : Fin 4 := 3;
      let s : State := s.put (LOOP_STAT m) LOOP_STAT_BRAKE (1);
      s.inRun = true ∧ s.get (LOOP_STAT m) LOOP_STAT_BRAKE = 1) ∧
    (let s : State := base;
      let n : Fin 16 := 15;
      let s : State := s.put (PH_STAT n) PH_STAT_STATE phShedding;
      let s : State := { s with phases := s.phases.set n ({ s.phases[n] with shedJ := (max 1 (s.get (LOOP_SHED (s.loopOf n)) LOOP_SHED_RAMP)) }) };
      let s : State := s.put (PH_CFG n) PH_CFG_ROLE 1;
      s.engines = true ∧ s.phState n = phShedding ∧ max 1 (s.get (LOOP_SHED (s.loopOf n)) LOOP_SHED_RAMP) ≤ s.phases[n].shedJ) ∧
    (let s : State := base;
      let n : Fin 16 := 15;
      let s : State := s.put (PH_STAT n) PH_STAT_STATE phActive;
      let s : State := { s with phases := s.phases.set n ({ s.phases[n] with imbSaid := (false) }) };
      let s : State := s.put (LOOP_IMB (s.loopOf n)) LOOP_IMB_ACT (0);
      let s : State := s.put (PH_CFG n) PH_CFG_ROLE 1;
      let s : State := s.updPhase n (fun x => { x with imbRun := 255 });
      s.engines = true ∧ s.phState n = phActive ∧ s.imbReached (s.loopOf n) n = true ∧ s.phases[n].imbSaid = false ∧
        s.get (LOOP_IMB (s.loopOf n)) LOOP_IMB_ACT = 0) ∧
    (let s : State := base;
      s.inRun = true) ∧
    (let s : State := base;
      let m : Fin 4 := 3;
      let n : Fin 16 := 15;
      let st : Nat := 2;
      let k : Fin 16 := 7;
      let r : List (Fin 16) := [];
      let s : State := { s with phases := s.phases.set n ({ s.phases[n] with claim := (some st) }) };
      let s : State := { s with phases := s.phases.set n ({ s.phases[n] with substReq := (false) }) };
      let s : State := s.put (PH_CFG n) PH_CFG_ROLE 1;
      let s : State := s.put (PH_CFG n) PH_CFG_LOOP m;
      let s : State := s.put (PH_STAT n) PH_STAT_STATE phFenced;
      let s : State := s.updPhase n (fun x => { x with claim := some 2, pos := 3 });
      let s : State := s.put (PH_CFG 7) PH_CFG_ROLE 2;
      let s : State := s.put (PH_CFG 7) PH_CFG_LOOP m;
      let s : State := s.put (PH_STAT 7) PH_STAT_STATE phSpare;
      s.engines = true ∧ s.askers m = [n] ∧ s.phases[n].claim = some st ∧ s.phases[n].substReq = false ∧ st < 8 ∧ s.sparesOf m = k :: r ∧
        k ≠ n) := by
  refine ⟨?_, ?_, ?_, ?_, ?_, ?_, ?_, ?_, ?_, ?_, ?_, ?_⟩ <;> decide +kernel

theorem test_meets_LoopTransients_2 :
    (let s : State := base;
      let m : Fin 4 := 3;
      let n : Fin 16 := 15;
      let st : Nat := 2;
      let s : State := { s with phases := s.phases.set n ({ s.phases[n] with claim := (some st) }) };
      let s : State := { s with phases := s.phases.set n ({ s.phases[n] with substReq := (false) }) };
      let s : State := s.put (PH_CFG n) PH_CFG_ROLE 1;
      let s : State := s.put (PH_CFG n) PH_CFG_LOOP m;
      let s : State := s.put (PH_STAT n) PH_STAT_STATE phFenced;
      let s : State := s.updPhase n (fun x => { x with claim := some 2, pos := 3 });
      s.engines = true ∧ s.askers m = [n] ∧ s.phases[n].claim = some st ∧ s.phases[n].substReq = false ∧ s.sparesOf m = []) := by
  decide +kernel

theorem test_meets_RegulatorStartStop :
    (let s : State := base;
      let r : Fin 14 := 13;
      let vin : BitVec 16 := 1000;
      let s : State := { s with regul := s.regul.set r ({ s.regul[r] with pendEn := (some true) }) };
      let s : State := { s with clk := { s.clk with frames := (s.regul[r].askAt + 1) } };
      let s : State := { s with regul := s.regul.set r ({ s.regul[r] with run := (.off) }) };
      s.engines = true ∧ s.regul[r].pendEn = some true ∧ s.regul[r].askAt < s.clk.frames ∧ s.regul[r].run = .off ∧ s.otLatched r = false ∧
        s.startMin r ≤ vin.toNat) ∧
    (let s : State := base;
      let r : Fin 14 := 13;
      let vin : BitVec 16 := 0;
      let s : State := { s with regul := s.regul.set r ({ s.regul[r] with pendEn := (some true) }) };
      let s : State := { s with clk := { s.clk with frames := (s.regul[r].askAt + 1) } };
      let s : State := { s with regul := s.regul.set r ({ s.regul[r] with run := (.off) }) };
      s.engines = true ∧ s.regul[r].pendEn = some true ∧ s.regul[r].askAt < s.clk.frames ∧ s.regul[r].run = .off ∧ s.otLatched r = false ∧
        vin.toNat < s.startMin r) ∧
    (let s : State := base;
      let r : Fin 14 := 13;
      let s : State := s.updReg r (fun x => { x with run := .running });
      let s : State := s.put (REG_STAT r) REG_STAT_SS (1);
      s.engines = true ∧ s.regOn r = true ∧ s.get (REG_STAT r) REG_STAT_SS = 1 ∧ s.refNear r = true) ∧
    (let s : State := base;
      let r : Fin 14 := 13;
      let s : State := { s with regul := s.regul.set r ({ s.regul[r] with run := (.running) }) };
      let s : State := s.put (REG_STAT r) REG_STAT_PG (0);
      let s : State := { s with regul := s.regul.set r ({ s.regul[r] with pgRun := (5) }) };
      s.engines = true ∧ s.regul[r].run = .running ∧ s.get (REG_STAT r) REG_STAT_PG = 0 ∧ 5 ≤ s.regul[r].pgRun) ∧
    (let s : State := base;
      let r : Fin 14 := 13;
      let s : State := { s with regul := s.regul.set r ({ s.regul[r] with pendEn := (some false) }) };
      let s : State := { s with clk := { s.clk with frames := (s.regul[r].askAt + 1) } };
      s.engines = true ∧ s.regul[r].pendEn = some false ∧ s.regul[r].askAt < s.clk.frames) ∧
    (let s : State := base;
      let r : Fin 14 := 9;
      let s : State := { s with regul := s.regul.set r ({ s.regul[r] with pendCode := (true) }) };
      let s : State := { s with clk := { s.clk with frames := (s.regul[r].askAt + 1) } };
      let s : State := s.updReg r (fun x => { x with run := .running });
      s.engines = true ∧ s.regul[r].pendCode = true ∧ s.regul[r].askAt < s.clk.frames ∧ s.regOn r = true ∧ regKind r ≠ .sw) ∧
    (let s : State := base;
      let r : Fin 14 := 13;
      let vin : BitVec 16 := 1000;
      let s : State := { s with regul := s.regul.set r ({ s.regul[r] with run := (.retryWait) }) };
      let s : State := { s with clk := { s.clk with frames := (s.regul[r].retryAt) } };
      let s : State := s.put (REG_CTL r) REG_CTL_EN (1);
      s.engines = true ∧ s.regul[r].run = .retryWait ∧ s.regul[r].retryAt ≤ s.clk.frames ∧ s.get (REG_CTL r) REG_CTL_EN = 1 ∧
        s.startMin r ≤ vin.toNat) ∧
    (let s : State := base;
      let r : Fin 14 := 13;
      let vin : BitVec 16 := 0;
      let s : State := { s with regul := s.regul.set r ({ s.regul[r] with run := (.retryWait) }) };
      let s : State := { s with clk := { s.clk with frames := (s.regul[r].retryAt) } };
      let s : State := s.put (REG_CTL r) REG_CTL_EN (1);
      s.engines = true ∧ s.regul[r].run = .retryWait ∧ s.regul[r].retryAt ≤ s.clk.frames ∧ s.get (REG_CTL r) REG_CTL_EN = 1 ∧
        vin.toNat < s.startMin r) ∧
    (let s : State := base;
      let r : Fin 14 := 13;
      let s : State := { s with regul := s.regul.set r ({ s.regul[r] with run := (.retryWait) }) };
      let s : State := { s with clk := { s.clk with frames := (s.regul[r].retryAt) } };
      let s : State := s.put (REG_CTL r) REG_CTL_EN (0);
      s.engines = true ∧ s.regul[r].run = .retryWait ∧ s.regul[r].retryAt ≤ s.clk.frames ∧ s.get (REG_CTL r) REG_CTL_EN = 0) ∧
    (let s : State := base;
      let r : Fin 14 := 13;
      let s : State := s.put (REG_STAT r) REG_STAT_PG (1);
      let s : State := { s with clk := { s.clk with frames := (s.regul[r].pgSince + 50000) } };
      s.engines = true ∧ s.get (REG_STAT r) REG_STAT_PG = 1 ∧ s.regul[r].pgSince + 50000 ≤ s.clk.frames) := by
  refine ⟨?_, ?_, ?_, ?_, ?_, ?_, ?_, ?_, ?_, ?_⟩ <;> decide +kernel

theorem test_meets_RegulatorProtections :
    (let s : State := base;
      let r : Fin 14 := 13;
      let v : BitVec 20 := 0xFFFFF;
      let s : State := s.updReg r (fun x => { x with run := .running });
      let s : State := { s with regul := s.regul.set r ({ s.regul[r] with ovArmed := (true) }) };
      s.engines = true ∧ s.regOn r = true ∧ s.regul[r].ovArmed = true ∧ above v.toNat (s.refLow r) (s.ovPermille r) = true) ∧
    (let s : State := base;
      let r : Fin 14 := 13;
      let k : Fin 4 := 3;
      let v : BitVec 20 := 0xFFFFF;
      let vin : BitVec 16 := 0;
      let s : State := s.updReg r (fun x => { x with run := .starting });
      s.engines = true ∧ r.val = 10 + k.val ∧ s.regul[r].run ≠ .off ∧ 8 * (vin.toNat + 50) < v.toNat) ∧
    (let s : State := base;
      let r : Fin 14 := 13;
      let v : BitVec 20 := 0;
      let vin : BitVec 16 := 1000;
      let s : State := s.updReg r (fun x => { x with run := .running });
      let s : State := { s with regul := s.regul.set r ({ s.regul[r] with uvArmed := (true) }) };
      let s : State := s.updReg r (fun x => { x with vref := 800 });
      s.engines = true ∧ s.regOn r = true ∧ s.regul[r].uvArmed = true ∧
        below v.toNat (if regKind r = .sw then vin.toNat else s.refHigh r) (s.uvPermille r) = true) ∧
    (let s : State := base;
      let r : Fin 14 := 13;
      let v : BitVec 20 := 0;
      let vin : BitVec 16 := 1000;
      let s : State := s.updReg r (fun x => { x with run := .running });
      let s : State := { s with regul := s.regul.set r ({ s.regul[r] with uvArmed := (false) }) };
      let s : State := s.updReg r (fun x => { x with vref := 800 });
      s.engines = true ∧ s.regOn r = true ∧ s.regul[r].uvArmed = false ∧
        below v.toNat (if regKind r = .sw then vin.toNat else s.refHigh r) (s.uvPermille r) = true) ∧
    (let s : State := base;
      let r : Fin 14 := 9;
      let c : Instr := .ldCurrentLimit 3 0xFFFF;
      let i : BitVec 16 := 0xFFFF;
      let s : State := s.updReg r (fun x => { x with run := .running });
      s.engines = true ∧ s.regOn r = true ∧ s.ilim r ≤ i.toNat ∧ (((∃ (b : Fin 6) (again : Bool), b.val = r.val ∧
        c = .peakCurrentLimit b i again) ∨ ∃ k : Fin 4, 6 + k.val = r.val ∧ c = .ldCurrentLimit k i))) ∧
    (let s : State := base;
      let r : Fin 14 := 13;
      let i : BitVec 16 := 0xFFFF;
      let s : State := s.updReg r (fun x => { x with run := .running });
      let s : State := s.put (REG_PROT r) REG_PROT_OC_MODE (0);
      s.engines = true ∧ s.regOn r = true ∧ s.limPersists r i.toNat = true ∧ s.get (REG_PROT r) REG_PROT_OC_MODE = 0) ∧
    (let s : State := base;
      let r : Fin 14 := 13;
      let i : BitVec 16 := 0xFFFF;
      let s : State := s.updReg r (fun x => { x with run := .running });
      let s : State := s.put (REG_PROT r) REG_PROT_OC_MODE (1);
      let s : State := s.put (REG_STAT r) REG_STAT_RETRIES (0);
      s.engines = true ∧ s.regOn r = true ∧ s.limPersists r i.toNat = true ∧ s.get (REG_PROT r) REG_PROT_OC_MODE = 1 ∧
        s.get (REG_STAT r) REG_STAT_RETRIES ≠ s.get (REG_PROT r) REG_PROT_RETRY_MAX) ∧
    (let s : State := base;
      let r : Fin 14 := 13;
      let i : BitVec 16 := 0xFFFF;
      let s : State := s.updReg r (fun x => { x with run := .running });
      let s : State := s.put (REG_PROT r) REG_PROT_OC_MODE (1);
      let s : State := s.put (REG_STAT r) REG_STAT_RETRIES (s.get (REG_PROT r) REG_PROT_RETRY_MAX);
      s.engines = true ∧ s.regOn r = true ∧ s.limPersists r i.toNat = true ∧ s.get (REG_PROT r) REG_PROT_OC_MODE = 1 ∧
        s.get (REG_STAT r) REG_STAT_RETRIES = s.get (REG_PROT r) REG_PROT_RETRY_MAX) ∧
    (let s : State := base;
      s.engines = true) := by
  refine ⟨?_, ?_, ?_, ?_, ?_, ?_, ?_, ?_, ?_⟩ <;> decide +kernel

theorem test_meets_SegmentSweep :
    (let s : State := base;
      let s : State := s.put IR_CFG IR_CFG_SWEEP_EN (1);
      s.engines = true ∧ s.get IR_CFG IR_CFG_SWEEP_EN = 1 ∧ s.seg.hour < s.opt.ms / 3600000) ∧
    (let s : State := base;
      let sw : Fin 12 := 11;
      let k : Fin 9 := 7;
      let s : State := s.put IR_SWEEP IR_SWEEP_RUNNING (1);
      let s : State := { s with seg := { s.seg with s := (sw.val) } };
      let s : State := { s with seg := { s.seg with k := (k.val) } };
      let s : State := { s with clk := { s.clk with frames := (s.seg.turnAt + 50) } };
      let s : State := { s with seg := { s.seg with turnOn := (false) } };
      s.engines = true ∧ s.get IR_SWEEP IR_SWEEP_RUNNING = 1 ∧ s.seg.s = sw.val ∧ s.seg.k = k.val ∧ k.val < 8 ∧
        s.seg.turnAt + 50 ≤ s.clk.frames ∧ s.seg.turnOn = false) ∧
    (let s : State := base;
      let k : Fin 9 := 8;
      let s : State := s.put IR_SWEEP IR_SWEEP_RUNNING (1);
      let s : State := { s with seg := { s.seg with s := (11) } };
      let s : State := { s with seg := { s.seg with k := (8) } };
      let s : State := { s with clk := { s.clk with frames := (s.seg.turnAt + 50) } };
      let s : State := { s with seg := { s.seg with turnOn := (false) } };
      s.engines = true ∧ s.get IR_SWEEP IR_SWEEP_RUNNING = 1 ∧ s.seg.s = 11 ∧ s.seg.k = 8 ∧ s.seg.turnAt + 50 ≤ s.clk.frames ∧
        s.seg.turnOn = false) ∧
    (let s : State := base;
      let sw : Fin 12 := 11;
      let k : Fin 9 := 7;
      let x : SegMeas := ⟨199, 0, 0, 0, false, false⟩;
      let s : State := s.put IR_SWEEP IR_SWEEP_RUNNING (1);
      let s : State := { s with seg := { s.seg with s := (sw.val) } };
      let s : State := { s with seg := { s.seg with k := (k.val) } };
      let s : State := { s with clk := { s.clk with frames := (s.seg.turnAt + 50) } };
      let s : State := { s with seg := { s.seg with turnOn := (true) } };
      s.engines = true ∧ s.get IR_SWEEP IR_SWEEP_RUNNING = 1 ∧ s.seg.s = sw.val ∧ s.seg.k = k.val ∧ k.val < 8 ∧
        s.seg.turnAt + 50 ≤ s.clk.frames ∧ s.seg.turnOn = true ∧ s.segGone sw k = false ∧
        ((x.skipped = true ∨ x.acted = true ∨ x.load < (if regKind (segReg sw) = .hb then 300 else 200))) ∧
        (∀ p ∈ s.seg.postponed, ¬(p.s = sw.val ∧ p.k = k.val))) ∧
    (let s : State := base;
      let sw : Fin 12 := 11;
      let k : Fin 9 := 7;
      let x : SegMeas := ⟨300, 900, 5, 21, false, false⟩;
      let s : State := s.put IR_SWEEP IR_SWEEP_RUNNING (1);
      let s : State := { s with seg := { s.seg with s := (sw.val) } };
      let s : State := { s with seg := { s.seg with k := (k.val) } };
      let s : State := { s with clk := { s.clk with frames := (s.seg.turnAt + 50) } };
      let s : State := { s with seg := { s.seg with turnOn := (true) } };
      s.engines = true ∧ s.get IR_SWEEP IR_SWEEP_RUNNING = 1 ∧ s.seg.s = sw.val ∧ s.seg.k = k.val ∧ k.val < 8 ∧
        s.seg.turnAt + 50 ≤ s.clk.frames ∧ s.seg.turnOn = true ∧ s.segGone sw k = false ∧ segUnfit (segReg sw) x = false ∧ 20 < x.offCur) ∧
    (let s : State := base;
      let sw : Fin 12 := 11;
      let k : Fin 9 := 8;
      let since : Nat := 1;
      let tried : Nat := 0;
      let s : State := { s with seg := { s.seg with postponed := ([⟨sw.val, k.val, since, tried, false⟩]) } };
      let s : State := { s with opt := { s.opt with ms := (since + 7200000) } };
      s.engines = true ∧ s.seg.postponed = [⟨sw.val, k.val, since, tried, false⟩] ∧ since + 7200000 ≤ s.opt.ms) ∧
    (let s : State := base;
      let sw : Fin 12 := 11;
      let k : Fin 9 := 7;
      let rest : List (Nat × Nat) := [(0, 2)];
      let s : State := { s with seg := { s.seg with waiting := ((sw.val, k.val) :: rest) } };
      let s : State := s.put (SEG_STAT sw) SEG_STAT_IN_USE (255);
      let s : State := s.put (SEG_STAT sw) SEG_STAT_FENCED (0);
      s.engines = true ∧ s.seg.waiting = (sw.val, k.val) :: rest ∧ s.get (SEG_STAT sw) SEG_STAT_IN_USE = 255 ∧
        s.get (SEG_STAT sw) SEG_STAT_FENCED = 0 ∧ k.val < 8 ∧ (sw.val, 8) ∉ s.seg.waiting) := by
  refine ⟨?_, ?_, ?_, ?_, ?_, ?_, ?_⟩ <;> decide +kernel

theorem test_meets_SegmentSweep_drift (h : 0 < Config.ron25 11 8) :
    let s : State := { (base.put (TH_T 21) TH_T_T 3200).updReg (segReg 11) (fun x => { x with run := .running }) with
      seg := { postponed := [⟨0, 0, 5, 0, true⟩, ⟨11, 8, 9, 0, false⟩] } }
    let x : SegMeas := ⟨300, 0, 5, 20, false, false⟩
    s.engines = true ∧ (∃ p ∈ s.seg.postponed, p.s = 11 ∧ p.k = 8 ∧ p.tried + 50000 ≤ s.clk.frames) ∧
      s.regOn (segReg 11) = true ∧ segUnfit (segReg 11) x = false ∧ x.offCur ≤ 20 ∧ 5 ≤ x.share ∧
      s.driftOver 11 8 x.ron.toNat 30 ≤ 0 ∧ s.driftOver 11 8 x.ron.toNat (s.get IR_CFG IR_CFG_WEAR_WARN) < 0 := by
  intro s x
  have g : s.getI (TH_T (16 + 11 / 2)) TH_T_T = 3200 := by decide +kernel
  have r : s.ronExp 11 8 = 128000 * (Config.ron25 11 8 : Int) := by
    show (Config.ron25 11 8 : Int) * (128000 + 4 * (s.getI (TH_T (16 + 11 / 2)) TH_T_T - 3200)) = _
    rw [g]; omega
  have w : s.get IR_CFG IR_CFG_WEAR_WARN = 15 := by decide +kernel
  refine ⟨by decide +kernel, by decide +kernel, by decide +kernel, by decide +kernel, by decide, by decide, ?_, ?_⟩ <;>
    simp only [State.driftOver, r, w] <;> rw [if_neg (by omega)] <;> rw [show x.ron.toNat = 0 from rfl] <;> omega

theorem test_meets_StencilSteps_1 :
    (let s : State := base;
      let s : State := { s with seq := { s.seq with tellFault := (none) } };
      let s : State := { s with seq := { s.seq with tellDown := (none) } };
      s.seq.tellFault = none ∧ s.seq.tellDown = none) ∧
    (let s : State := base;
      let t : Fin 4 := 3;
      let s : State := s.put (SEQ_THR_STAT t) SEQ_THR_STAT_STATE thRunning;
      let s : State := s.put (SEQ_THR_STAT t) SEQ_THR_STAT_PC 6142;
      let s : State := s.wr (STEP 6142) (setF ((0 : Word)) ⟨28, 4⟩ 0);
      s.stepDue t 0 = true) ∧
    (let s : State := base;
      let t : Fin 4 := 3;
      let m : Fin 4 := 3;
      let s : State := s.put (SEQ_THR_STAT t) SEQ_THR_STAT_STATE thRunning;
      let s : State := s.put (SEQ_THR_STAT t) SEQ_THR_STAT_PC 6142;
      let s : State := s.wr (STEP 6142) (setF (0x00030000) ⟨28, 4⟩ 1);
      let s : State := s.put (LOOP_CTL m) LOOP_CTL_EN (0);
      let s : State := { s with flt := { s.flt with fenced := ([]) } };
      s.thPc t + 1 < 6144 ∧ s.seq.thr[t].steps < 4 ∧ s.stepDue t 1 = true ∧ railOf (stepRail (s.stepWord t)) = some (.loop m) ∧
        s.get (LOOP_CTL m) LOOP_CTL_EN = 0 ∧ s.flt.fenced = []) ∧
    (let s : State := base;
      let t : Fin 4 := 3;
      let r : Fin 14 := 13;
      let s : State := s.put (SEQ_THR_STAT t) SEQ_THR_STAT_STATE thRunning;
      let s : State := s.put (SEQ_THR_STAT t) SEQ_THR_STAT_PC 6142;
      let s : State := s.wr (STEP 6142) (setF (0x001D0000) ⟨28, 4⟩ 2);
      let s : State := s.put (REG_CTL r) REG_CTL_EN (1);
      s.thPc t + 1 < 6144 ∧ s.seq.thr[t].steps < 4 ∧ s.stepDue t 2 = true ∧ railOf (stepRail (s.stepWord t)) = some (.reg r) ∧
        s.get (REG_CTL r) REG_CTL_EN = 1) ∧
    (let s : State := base;
      let t : Fin 4 := 3;
      let m : Fin 4 := 3;
      let s : State := s.put (SEQ_THR_STAT t) SEQ_THR_STAT_STATE thRunning;
      let s : State := s.put (SEQ_THR_STAT t) SEQ_THR_STAT_PC 6142;
      let s : State := s.wr (STEP 6142) (setF (0x00030064) ⟨28, 4⟩ 3);
      let s : State := s.put (LOOP_VLIM m) LOOP_VLIM_VMAX (stepBits (s.stepWord t) 0 12);
      let s : State := s.put (LOOP_VLIM m) LOOP_VLIM_VMIN 100;
      let s : State := s.put (LOOP_VLIM m) LOOP_VLIM_VMAX 100;
      s.thPc t + 1 < 6144 ∧ s.seq.thr[t].steps < 4 ∧ s.stepDue t 3 = true ∧ railOf (stepRail (s.stepWord t)) = some (.loop m) ∧
        s.get (LOOP_VLIM m) LOOP_VLIM_VMIN ≤ stepBits (s.stepWord t) 0 12 ∧
        stepBits (s.stepWord t) 0 12 ≤ s.get (LOOP_VLIM m) LOOP_VLIM_VMAX) ∧
    (let s : State := base;
      let t : Fin 4 := 3;
      let s : State := s.put (SEQ_THR_STAT t) SEQ_THR_STAT_STATE thRunning;
      let s : State := s.put (SEQ_THR_STAT t) SEQ_THR_STAT_PC 6142;
      let s : State := s.wr (STEP 6142) (setF (0x0C800000) ⟨28, 4⟩ 6);
      s.thPc t + 1 < 6144 ∧ s.seq.thr[t].steps < 4 ∧ s.stepDue t 6 = true ∧ (s.stepSpent t).cond t (stepCond (s.stepWord t)) = true) ∧
    (let s : State := base;
      let t : Fin 4 := 3;
      let s : State := s.put (SEQ_THR_STAT t) SEQ_THR_STAT_STATE thRunning;
      let s : State := s.put (SEQ_THR_STAT t) SEQ_THR_STAT_PC 6142;
      let s : State := s.wr (STEP 6142) (setF ((0 : Word)) ⟨28, 4⟩ 10);
      s.thPc t + 1 < 6144 ∧ s.seq.thr[t].steps < 4 ∧ s.stepDue t 10 = true ∧ t ≠ thDown) ∧
    (let s : State := base;
      let t : Fin 4 := thDown;
      let s : State := s.put (SEQ_THR_STAT t) SEQ_THR_STAT_STATE thRunning;
      let s : State := s.put (SEQ_THR_STAT t) SEQ_THR_STAT_PC 6142;
      let s : State := s.wr (STEP 6142) (setF ((0 : Word)) ⟨28, 4⟩ 10);
      s.thPc t + 1 < 6144 ∧ s.seq.thr[t].steps < 4 ∧ s.stepDue t 10 = true ∧ t = thDown) ∧
    (let s : State := base;
      let t : Fin 4 := 3;
      let s : State := s.put (SEQ_THR_STAT t) SEQ_THR_STAT_STATE thRunning;
      let s : State := s.put (SEQ_THR_STAT t) SEQ_THR_STAT_PC 6142;
      let s : State := s.wr (STEP 6142) (setF (0x04123456) ⟨28, 4⟩ 11);
      s.thPc t + 1 < 6144 ∧ s.seq.thr[t].steps < 4 ∧ s.stepDue t 11 = true) ∧
    (let s : State := base;
      let t : Fin 4 := 3;
      let s : State := s.put (SEQ_THR_STAT t) SEQ_THR_STAT_STATE thRunning;
      let s : State := s.put (SEQ_THR_STAT t) SEQ_THR_STAT_PC 6142;
      let s : State := s.wr (STEP 6142) (setF (0x00ABCDEF) ⟨28, 4⟩ 12);
      let s : State := { s with plate := { s.plate with snap := ([]) } };
      s.thPc t + 1 < 6144 ∧ s.seq.thr[t].steps < 4 ∧ s.stepDue t 12 = true ∧ s.plate.snap = []) ∧
    (let s : State := base;
      let t : Fin 4 := 3;
      let s : State := s.put (SEQ_THR_STAT t) SEQ_THR_STAT_STATE thRunning;
      let s : State := s.put (SEQ_THR_STAT t) SEQ_THR_STAT_PC 6142;
      let s : State := s.wr (STEP 6142) (setF ((0 : Word)) ⟨28, 4⟩ 12);
      let s : State := s.updPlate (fun p => { p with snap := [{ type := 3, sev := 1, esn := 0x90, code := 0, first := 0, frm := 0, last := 0, rep := 1, payload := [] }] });
      s.thPc t + 1 < 6144 ∧ s.seq.thr[t].steps < 4 ∧ s.stepDue t 12 = true ∧ s.plate.snap ≠ []) ∧
    (let s : State := base;
      let t : Fin 4 := 3;
      let s : State := s.put (SEQ_THR_STAT t) SEQ_THR_STAT_STATE thRunning;
      let s : State := s.put (SEQ_THR_STAT t) SEQ_THR_STAT_PC 6142;
      let s : State := s.wr (STEP 6142) (setF (0x048017FF) ⟨28, 4⟩ 6);
      stepTarget (s.stepWord t) < 6144 ∧ s.stepDue t 6 = true ∧ (s.stepSpent t).cond t (stepCond (s.stepWord t)) = false) := by
  refine ⟨?_, ?_, ?_, ?_, ?_, ?_, ?_, ?_, ?_, ?_, ?_, ?_⟩ <;> decide +kernel

theorem test_meets_StencilSteps_2 :
    (let s : State := base;
      let t : Fin 4 := 3;
      let s : State := s.put (SEQ_THR_STAT t) SEQ_THR_STAT_STATE thRunning;
      let s : State := s.put (SEQ_THR_STAT t) SEQ_THR_STAT_PC 6142;
      let s : State := s.wr (STEP 6142) (setF (0x17FF) ⟨28, 4⟩ 7);
      stepTarget (s.stepWord t) < 6144 ∧ s.stepDue t 7 = true) ∧
    (let s : State := base;
      let t : Fin 4 := 3;
      let s : State := s.put (SEQ_THR_STAT t) SEQ_THR_STAT_STATE thRunning;
      let s : State := s.put (SEQ_THR_STAT t) SEQ_THR_STAT_PC 6142;
      let s : State := s.wr (STEP 6142) (setF (0x17FF) ⟨28, 4⟩ 8);
      let s : State := s.updThr t (fun x => { x with stack := [1,2,3] });
      stepTarget (s.stepWord t) < 6144 ∧ s.stepDue t 8 = true ∧ s.seq.thr[t].stack.length < 4) ∧
    (let s : State := base;
      let t : Fin 4 := 3;
      let s : State := s.put (SEQ_THR_STAT t) SEQ_THR_STAT_STATE thRunning;
      let s : State := s.put (SEQ_THR_STAT t) SEQ_THR_STAT_PC 6142;
      let s : State := s.wr (STEP 6142) (setF (0 : Word) ⟨28, 4⟩ 8);
      let s : State := s.updThr t (fun x => { x with stack := [1,2,3,4] });
      s.stepDue t 8 = true ∧ 4 ≤ s.seq.thr[t].stack.length) ∧
    (let s : State := base;
      let t : Fin 4 := 3;
      let k : Nat := 6143;
      let r : List Nat := [1,2,3];
      let s : State := s.put (SEQ_THR_STAT t) SEQ_THR_STAT_STATE thRunning;
      let s : State := s.put (SEQ_THR_STAT t) SEQ_THR_STAT_PC 6142;
      let s : State := s.wr (STEP 6142) (setF ((0 : Word)) ⟨28, 4⟩ 9);
      let s : State := { s with seq := { s.seq with thr := s.seq.thr.set t ({ s.seq.thr[t] with stack := (k :: r) }) } };
      s.stepDue t 9 = true ∧ s.seq.thr[t].stack = k :: r ∧ k < 6144 ∧ r.length < 4) ∧
    (let s : State := base;
      let t : Fin 4 := 3;
      let s : State := s.put (SEQ_THR_STAT t) SEQ_THR_STAT_STATE thRunning;
      let s : State := s.put (SEQ_THR_STAT t) SEQ_THR_STAT_PC 6142;
      let s : State := s.wr (STEP 6142) (setF ((0 : Word)) ⟨28, 4⟩ 9);
      let s : State := { s with seq := { s.seq with thr := s.seq.thr.set t ({ s.seq.thr[t] with stack := ([]) }) } };
      s.stepDue t 9 = true ∧ s.seq.thr[t].stack = []) := by
  refine ⟨?_, ?_, ?_, ?_, ?_⟩ <;> decide +kernel

theorem test_meets_StencilWaits :
    (let s : State := base;
      let t : Fin 4 := 3;
      let s : State := s.put (SEQ_THR_STAT t) SEQ_THR_STAT_STATE thRunning;
      let s : State := s.put (SEQ_THR_STAT t) SEQ_THR_STAT_PC 6142;
      let s : State := s.wr (STEP 6142) (setF (0x00007FFF) ⟨28, 4⟩ 4);
      s.thPc t + 1 < 6144 ∧ s.stepDue t 4 = true ∧ stepFrames (s.stepWord t) ≠ 0) ∧
    (let s : State := base;
      let t : Fin 4 := 3;
      let s : State := s.put (SEQ_THR_STAT t) SEQ_THR_STAT_STATE thRunning;
      let s : State := s.put (SEQ_THR_STAT t) SEQ_THR_STAT_PC 6142;
      let s : State := s.wr (STEP 6142) (setF ((0 : Word)) ⟨28, 4⟩ 4);
      s.thPc t + 1 < 6144 ∧ s.stepDue t 4 = true ∧ stepFrames (s.stepWord t) = 0) ∧
    (let s : State := base;
      let t : Fin 4 := 3;
      let s : State := s.put (SEQ_THR_STAT t) SEQ_THR_STAT_STATE thWaiting;
      let s : State := { s with seq := { s.seq with thr := s.seq.thr.set t ({ s.seq.thr[t] with wait := (.time) }) } };
      let s : State := { s with clk := { s.clk with frames := (s.seq.thr[t].waitAt + s.seq.thr[t].waitFor) } };
      let s : State := s.put (SEQ_THR_STAT t) SEQ_THR_STAT_PC 6142;
      let s : State := s.updThr t (fun x => { x with waitAt := 99999, waitFor := 1 });
      let s : State := { s with clk := { s.clk with frames := 100000 } };
      s.thPc t + 1 < 6144 ∧ s.seqTurn t = true ∧ s.thState t = thWaiting ∧ s.seq.thr[t].wait = .time ∧
        s.seq.thr[t].waitAt + s.seq.thr[t].waitFor ≤ s.clk.frames) ∧
    (let s : State := base;
      let t : Fin 4 := 3;
      let s : State := s.put (SEQ_THR_STAT t) SEQ_THR_STAT_STATE thRunning;
      let s : State := s.put (SEQ_THR_STAT t) SEQ_THR_STAT_PC 6142;
      let s : State := s.wr (STEP 6142) (setF (0x0C800000) ⟨28, 4⟩ 5);
      s.thPc t + 1 < 6144 ∧ s.stepDue t 5 = true ∧ (s.stepSpent t).cond t (stepCond (s.stepWord t)) = true) ∧
    (let s : State := base;
      let t : Fin 4 := 3;
      let s : State := s.put (SEQ_THR_STAT t) SEQ_THR_STAT_STATE thRunning;
      let s : State := s.put (SEQ_THR_STAT t) SEQ_THR_STAT_PC 6142;
      let s : State := s.wr (STEP 6142) (setF (0x04807FFF) ⟨28, 4⟩ 5);
      s.thPc t + 1 < 6144 ∧ s.stepDue t 5 = true ∧ (s.stepSpent t).cond t (stepCond (s.stepWord t)) = false) ∧
    (let s : State := base;
      let t : Fin 4 := 3;
      let s : State := s.put (SEQ_THR_STAT t) SEQ_THR_STAT_STATE thWaiting;
      let s : State := s.put (SEQ_THR_STAT t) SEQ_THR_STAT_PC 6142;
      let s : State := s.updThr t (fun x => { x with wait := .until });
      let s : State := s.wr (STEP 6142) (0x0C800000);
      s.thPc t + 1 < 6144 ∧ s.waitDue t .until = true ∧ s.cond t (stepCond (s.stepWord t)) = true) ∧
    (let s : State := base;
      let t : Fin 4 := 3;
      let s : State := s.put (SEQ_THR_STAT t) SEQ_THR_STAT_STATE thRunning;
      let s : State := s.put (SEQ_THR_STAT t) SEQ_THR_STAT_PC 6142;
      let s : State := s.wr (STEP 6142) (setF (0x00AB0000) ⟨28, 4⟩ 13);
      s.thPc t + 1 < 6144 ∧ s.stepDue t 13 = true ∧ (s.stepSpent t).barrierOpen (stepBits (s.stepWord t) 16 8) = true) ∧
    (let s : State := base;
      let t : Fin 4 := 3;
      let s : State := s.put (SEQ_THR_STAT t) SEQ_THR_STAT_STATE thRunning;
      let s : State := s.put (SEQ_THR_STAT t) SEQ_THR_STAT_PC 6142;
      let s : State := s.wr (STEP 6142) (setF (0x00AB0000) ⟨28, 4⟩ 13);
      let s : State := s.put CLK_CFG CLK_CFG_FRM_ROLE 2;
      s.thPc t + 1 < 6144 ∧ s.stepDue t 13 = true ∧ (s.stepSpent t).barrierOpen (stepBits (s.stepWord t) 16 8) = false) ∧
    (let s : State := base;
      let t : Fin 4 := 3;
      let s : State := s.put (SEQ_THR_STAT t) SEQ_THR_STAT_STATE thWaiting;
      let s : State := s.put (SEQ_THR_STAT t) SEQ_THR_STAT_PC 6142;
      let s : State := s.updThr t (fun x => { x with wait := .barrier });
      let s : State := s.wr (STEP 6142) (0x00AB0000);
      let s : State := s.updThr t (fun x => { x with waitAt := 99999, steps := 3 });
      s.thPc t + 1 < 6144 ∧ s.waitDue t .barrier = true ∧ s.barrierOpen (stepBits (s.stepWord t) 16 8) = true) ∧
    (let s : State := base;
      let t : Fin 4 := thUser;
      let s : State := s.put (SEQ_THR_STAT t) SEQ_THR_STAT_STATE thWaiting;
      let s : State := s.put (SEQ_THR_STAT t) SEQ_THR_STAT_PC 6142;
      let s : State := s.updThr t (fun x => { x with wait := .until });
      let s : State := s.wr (STEP 6142) (0x04808000);
      let s : State := { s with clk := { s.clk with frames := (s.seq.thr[t].waitAt + s.seq.thr[t].waitFor) } };
      let s : State := s.updThr t (fun x => { x with waitAt := 99999, waitFor := 1 });
      let s : State := { s with clk := { s.clk with frames := 100000 } };
      s.thPc t + 1 < 6144 ∧ s.waitDue t .until = true ∧ s.seq.thr[t].waitFor ≠ 0 ∧
        s.seq.thr[t].waitAt + s.seq.thr[t].waitFor ≤ s.clk.frames ∧ s.cond t (stepCond (s.stepWord t)) = false ∧
        stepToAct (s.stepWord t) = true ∧ t ≠ thDown ∧ t ≠ thFault) ∧
    (let s : State := base;
      let t : Fin 4 := 3;
      let s : State := s.put (SEQ_THR_STAT t) SEQ_THR_STAT_STATE thWaiting;
      let s : State := s.put (SEQ_THR_STAT t) SEQ_THR_STAT_PC 6142;
      let s : State := s.updThr t (fun x => { x with wait := .until });
      let s : State := s.wr (STEP 6142) (0x04800000);
      let s : State := { s with clk := { s.clk with frames := (s.seq.thr[t].waitAt + s.seq.thr[t].waitFor) } };
      let s : State := s.updThr t (fun x => { x with waitAt := 99999, waitFor := 1 });
      let s : State := { s with clk := { s.clk with frames := 100000 } };
      s.thPc t + 1 < 6144 ∧ s.waitDue t .until = true ∧ s.seq.thr[t].waitFor ≠ 0 ∧
        s.seq.thr[t].waitAt + s.seq.thr[t].waitFor ≤ s.clk.frames ∧ s.cond t (stepCond (s.stepWord t)) = false ∧
        (stepToAct (s.stepWord t) = false ∨ t = thDown ∨ t = thFault)) := by
  refine ⟨?_, ?_, ?_, ?_, ?_, ?_, ?_, ?_, ?_, ?_, ?_⟩ <;> decide +kernel

theorem test_meets_ThreadStarts :
    (let s : State := base;
      let l : Fin 64 := 63;
      let s : State := { s with seq := { s.seq with thr := s.seq.thr.set thUser ({ s.seq.thr[thUser] with cmd := (none) }) } };
      let s : State := s.put (SEQ_THR_STAT thUser) SEQ_THR_STAT_STATE thIdle;
      s.engines = true ∧ s.startsNow = true ∧ s.labelStep l < 6144 ∧ s.seq.thr[thUser].cmd = none ∧ s.thState thUser = thIdle) ∧
    (let s : State := base;
      let l : Fin 64 := 63;
      let s : State := { s with seq := { s.seq with thr := s.seq.thr.set thUser ({ s.seq.thr[thUser] with cmd := (none) }) } };
      let s : State := s.put (SEQ_THR_STAT thUser) SEQ_THR_STAT_STATE thWaiting;
      s.engines = true ∧ s.startsNow = true ∧ s.labelStep l < 6144 ∧ s.seq.thr[thUser].cmd = none ∧ s.thState thUser ≠ thIdle) ∧
    (let s : State := base;
      let l : Fin 64 := 63;
      let s : State := { s with seq := { s.seq with thr := s.seq.thr.set thUp ({ s.seq.thr[thUp] with cmd := (none) }) } };
      let s : State := s.put PATH_V PATH_V_VSYS 20000;
      let s : State := { s with snap := { s.snap with regs := s.regs } };
      s.engines = true ∧ s.startsNow = true ∧ s.labelStep l < 6144 ∧ s.seq.thr[thUp].cmd = none ∧ s.upRefused = false ∧
        s.vsysStarts = true ∧ s.fnHolds = false) ∧
    (let s : State := base;
      let l : Fin 64 := 63;
      let s : State := { s with seq := { s.seq with thr := s.seq.thr.set thUp ({ s.seq.thr[thUp] with cmd := (none) }) } };
      s.engines = true ∧ s.startsNow = true ∧ s.labelStep l < 6144 ∧ s.seq.thr[thUp].cmd = none ∧ s.upRefused = false ∧
        s.vsysStarts = false) ∧
    (let s : State := base;
      let l : Fin 64 := 63;
      let s : State := { s with seq := { s.seq with thr := s.seq.thr.set thDown ({ s.seq.thr[thDown] with cmd := (none) }) } };
      let s : State := s.put (SEQ_THR_STAT thDown) SEQ_THR_STAT_STATE thIdle;
      s.engines = true ∧ s.startsNow = true ∧ s.labelStep l < 6144 ∧ s.seq.thr[thDown].cmd = none ∧ s.thState thDown = thIdle ∧
        s.thRuns thFault = false) ∧
    (let s : State := base;
      let l : Fin 64 := 63;
      let s : State := { s with seq := { s.seq with thr := s.seq.thr.set thFault ({ s.seq.thr[thFault] with cmd := (none) }) } };
      let s : State := s.put (SEQ_THR_STAT thFault) SEQ_THR_STAT_STATE thIdle;
      s.engines = true ∧ s.startsNow = true ∧ s.labelStep l < 6144 ∧ s.seq.thr[thFault].cmd = none ∧ s.faultFresh = false ∧
        s.thState thFault = thIdle ∧ s.thRuns thDown = false) ∧
    (let s : State := base;
      let l : Fin 64 := 63;
      let s : State := { s with seq := { s.seq with tellDown := (some l.val) } };
      let s : State := { s with seq := { s.seq with tellFault := (none) } };
      s.engines = true ∧ s.startsNow = true ∧ s.labelStep l < 6144 ∧ s.seq.tellDown = some l.val ∧ s.seq.tellFault = none) ∧
    (let s : State := base;
      let l : Fin 64 := 63;
      let s : State := { s with seq := { s.seq with tellFault := (some l.val) } };
      s.engines = true ∧ s.startsNow = true ∧ s.labelStep l < 6144 ∧ s.seq.tellFault = some l.val) ∧
    (let s : State := base;
      let l : Fin 64 := 63;
      let t : Fin 4 := 3;
      let s : State := { s with seq := { s.seq with thr := s.seq.thr.set t ({ s.seq.thr[t] with cmd := (none) }) } };
      let s : State := s.put (SEQ_THR_STAT t) SEQ_THR_STAT_STATE thWaiting;
      let s : State := { s with flt := { s.flt with downDue := [0xA4, 0xA5] } };
      s.engines = true ∧ s.startsNow = true ∧ s.labelStep l < 6144 ∧ s.seq.thr[t].cmd = none ∧ s.thState t ≠ thIdle ∧ t ≠ thFault ∧
        ((t = thDown → s.get (SEQ_THR_STAT t) SEQ_THR_STAT_COMMITTED = 0))) ∧
    (let s : State := base;
      let l : Fin 64 := 63;
      let s : State := { s with seq := { s.seq with thr := s.seq.thr.set thFault ({ s.seq.thr[thFault] with cmd := (none) }) } };
      let s : State := s.put (SEQ_THR_STAT thFault) SEQ_THR_STAT_STATE thWaiting;
      let s : State := s.put (FEED_STAT 0) FEED_STAT_STATE feedQualified;
      let s : State := s.put PATH_V PATH_V_VSYS 20000;
      let s : State := { s with snap := { s.snap with regs := s.regs } };
      s.engines = true ∧ s.startsNow = true ∧ s.labelStep l < 6144 ∧ s.seq.thr[thFault].cmd = none ∧ s.thState thFault ≠ thIdle) ∧
    (let s : State := base;
      let l : Fin 64 := 63;
      let esn : BitVec 8 := 0;
      let s : State := s.put (SEQ_THR_STAT thDown) SEQ_THR_STAT_STATE thIdle;
      let s : State := (s.put (SEQ_THR_CFG thDown) SEQ_THR_CFG_ENTRY (l.val)).latch;
      let s : State := { s with flt := { s.flt with downDue := [esn.toNat] } };
      s.engines = true ∧ s.startsNow = true ∧ s.labelStep l < 6144 ∧ esn.toNat ∈ s.flt.downDue ∧ s.thState thDown = thIdle ∧
        s.thRuns thFault = false ∧ s.entryLabel thDown = l.val) ∧
    (let s : State := base;
      let l : Fin 64 := 63;
      let s : State := s.put SEQ_STAT SEQ_STAT_UP_PEND (1);
      let s : State := (s.put (SEQ_THR_CFG thUp) SEQ_THR_CFG_ENTRY (l.val)).latch;
      let s : State := (((s.put (FEED_STAT 0) FEED_STAT_STATE feedQualified).put PATH_V PATH_V_VSYS 20000).put (SEQ_THR_CFG thUp) SEQ_THR_CFG_ENTRY l).latch;
      s.engines = true ∧ s.startsNow = true ∧ s.labelStep l < 6144 ∧ s.get SEQ_STAT SEQ_STAT_UP_PEND = 1 ∧ s.upRefused = false ∧
        s.latchedQualified 0 = true ∧ s.vsysStarts = true ∧ s.fnHolds = false ∧ s.entryLabel thUp = l.val) := by
  refine ⟨?_, ?_, ?_, ?_, ?_, ?_, ?_, ?_, ?_, ?_, ?_, ?_⟩ <;> decide +kernel

theorem test_meets_SequencerService :
    (let s : State := base;
      let l : Fin 64 := 63;
      let s : State := { s with seq := { s.seq with fnEdge := (true) } };
      let s : State := s.put (SEQ_THR_STAT thFault) SEQ_THR_STAT_STATE thIdle;
      let s : State := (s.put SEQ_FN SEQ_FN_LABEL (l.val)).latch;
      s.engines = true ∧ s.startsNow = true ∧ s.seq.fnEdge = true ∧ s.faultFresh = false ∧ s.thState thFault = thIdle ∧
        s.thRuns thDown = false ∧ s.latchedF SEQ_FN SEQ_FN_LABEL = l.val ∧ s.labelStep l < 6144) ∧
    (let s : State := base;
      let s : State := s.put SEQ_STAT SEQ_STAT_FN_DRIVE (1);
      let s : State := s.put (SEQ_THR_STAT thFault) SEQ_THR_STAT_STATE thIdle;
      let s : State := { s with clk := { s.clk with frames := (s.seq.fnAt + max 2 (s.get SEQ_FN SEQ_FN_HOLD)) } };
      s.engines = true ∧ s.get SEQ_STAT SEQ_STAT_FN_DRIVE = 1 ∧ s.thState thFault = thIdle ∧
        s.seq.fnAt + max 2 (s.get SEQ_FN SEQ_FN_HOLD) ≤ s.clk.frames) ∧
    (let s : State := base;
      let s : State := s.put (SEQ_THR_STAT thUp) SEQ_THR_STAT_STATE thHeld;
      let s : State := { s with seq := { s.seq with heldFn := (true) } };
      let s : State := { s with seq := { s.seq with heldVsys := (false) } };
      let s : State := (s.put SEQ_STAT SEQ_STAT_FN_IN (0)).latch;
      let s : State := s.put SEQ_STAT SEQ_STAT_FN_IN 0;
      let s : State := { s with snap := { s.snap with regs := s.regs } };
      s.engines = true ∧ s.thState thUp = thHeld ∧ s.seq.heldFn = true ∧ s.seq.heldVsys = false ∧ s.latchedF SEQ_STAT SEQ_STAT_FN_IN = 0) ∧
    (let s : State := base;
      let s : State := s.put SEQ_STAT SEQ_STAT_MIN_OFF (1);
      let s : State := { s with clk := { s.clk with frames := (s.seq.minOffEnd) } };
      s.engines = true ∧ s.get SEQ_STAT SEQ_STAT_MIN_OFF = 1 ∧ s.seq.minOffEnd ≤ s.clk.frames) ∧
    (let s : State := base;
      let s : State := s.put SEQ_STAT SEQ_STAT_SIB_OK (1);
      let s : State := { s with seq := { s.seq with sibAge := (8) } };
      s.inRun = true ∧ s.get SEQ_STAT SEQ_STAT_SIB_OK = 1 ∧ 8 ≤ s.seq.sibAge) ∧
    (let s : State := base;
      s.inRun = true) ∧
    (let s : State := base;
      s.inRun = true) ∧
    (let s : State := base;
      let v : Word := setF 0 SEQ_LABEL_STEP 6143;
      let s : State := { s with sys := { s.sys with window := some ⟨s.actSrc, 12, s.opt.ms + 100⟩ } };
      s.Unlocked 12 ∧ getF v SEQ_LABEL_STEP < 6144) ∧
    (let s : State := base;
      let v : Word := setF 0 SEQ_LABEL_STEP 6144;
      let s : State := { s with sys := { s.sys with window := some ⟨s.actSrc, 12, s.opt.ms + 100⟩ } };
      s.Unlocked 12 ∧ 6144 ≤ getF v SEQ_LABEL_STEP) := by
  refine ⟨?_, ?_, ?_, ?_, ?_, ?_, ?_, ?_, ?_⟩ <;> (try unfold State.Unlocked) <;> decide +kernel

theorem test_meets_Converters_1 :
    (let s : State := base;
      let q : Fin 2 := 1;
      let f : Nat := 99999;
      let s : State := { s with adc := { s.adc with takeDue := (some (q.val, f)) } };
      let s : State := { s with clk := { s.clk with frames := (f + 1) } };
      s.engines = true ∧ s.adc.takeDue = some (q.val, f) ∧ f < s.clk.frames ∧ s.coreFenced 2 = false) ∧
    (let s : State := base;
      let q : Fin 2 := 1;
      let f : Nat := 0;
      let s : State := { s with adc := { s.adc with takeDue := (some (q.val, f)) } };
      let s : State := { s with clk := { s.clk with frames := (f + 1) } };
      let s : State := s.put ADC_STAT ADC_STAT_FENCED 7;
      s.engines = true ∧ s.adc.takeDue = some (q.val, f) ∧ f < s.clk.frames ∧ s.coreFenced 2 = true) ∧
    (let s : State := base;
      let q : Fin 2 := 1;
      let j : Fin 8 := 7;
      let s : State := s.put (ADC_URG q j) ADC_URG_PEND (1);
      let s : State := s.putB ADC_STAT ADC_STAT_REF_READY true;
      s.inRun = true ∧ (s.get (ADC_URG q j) ADC_URG_PEND = 1 ∨ s.seqServed q = false)) ∧
    (let s : State := base;
      let q : Fin 2 := 1;
      let j : Fin 8 := 7;
      let s : State := s.put (ADC_URG q j) ADC_URG_PEND (0);
      let s : State := s.putB ADC_STAT ADC_STAT_REF_READY true;
      s.inRun = true ∧ s.get (ADC_URG q j) ADC_URG_PEND = 0 ∧ s.seqServed q = true ∧ s.adcRuns = true ∧ s.adc.seqs[q].urgent < 8) ∧
    (let s : State := base;
      let q : Fin 2 := 1;
      let j : Fin 8 := 7;
      let r : List Nat := [];
      let s : State := s.put (ADC_URG q j) ADC_URG_PEND (1);
      let s : State := { s with adc := { s.adc with queue := s.adc.queue.set q ((j.val :: r)) } };
      let s : State := s.put (ADC_URG q j) ADC_URG_CAL_EN (0);
      let s : State := s.putB ADC_STAT ADC_STAT_REF_READY true;
      s.engines = true ∧ s.get (ADC_URG q j) ADC_URG_PEND = 1 ∧ s.adcRuns = true ∧ s.coreFenced (s.coreOf q) = false ∧
        s.seqLost q = false ∧ s.adc.queue[q] = j.val :: r ∧ j.val ∉ s.adc.seqs[q].later ∧ s.get (ADC_URG q j) ADC_URG_CAL_EN = 0) ∧
    (let s : State := base;
      let f : Nat := 0;
      let s : State := s.put ADC_CFG ADC_CFG_REF_EN (1);
      let s : State := { s with adc := { s.adc with refAt := (some f) } };
      let s : State := { s with clk := { s.clk with frames := (f + 100) } };
      let s : State := s.putB ADC_STAT ADC_STAT_REF_READY false;
      s.engines = true ∧ s.get ADC_CFG ADC_CFG_REF_EN = 1 ∧ s.adcReady = false ∧ s.adc.refAt = some f ∧ f + 100 ≤ s.clk.frames) ∧
    (let s : State := base;
      let s : State := s.putB ADC_STAT ADC_STAT_REF_READY true;
      s.engines = true ∧ s.adcReady = true) ∧
    (let s : State := base;
      let s : State := s.put ADC_CAL_STAT ADC_CAL_STAT_STATE 0;
      s.inRun = true ∧ s.calRuns = false) ∧
    (let s : State := base;
      let s : State := s.put ADC_CAL_STAT ADC_CAL_STAT_STATE 1;
      s.inRun = true ∧ s.calRuns = true) ∧
    (let s : State := base;
      let input : BitVec 6 := 63;
      let s : State := s.put ADC_CAL_STAT ADC_CAL_STAT_STATE (2);
      let s : State := s.put ADC_CAL_STAT ADC_CAL_STAT_INPUT (input.toNat);
      s.inRun = true ∧ s.get ADC_CAL_STAT ADC_CAL_STAT_STATE = 2 ∧ s.get ADC_CAL_STAT ADC_CAL_STAT_INPUT = input.toNat) ∧
    (let s : State := base;
      let input : BitVec 6 := 0;
      let s : State := s.put ADC_CAL_STAT ADC_CAL_STAT_STATE (0);
      s.inRun = true ∧ (s.get ADC_CAL_STAT ADC_CAL_STAT_STATE ≠ 2 ∨ s.get ADC_CAL_STAT ADC_CAL_STAT_INPUT ≠ input.toNat)) ∧
    (let s : State := base;
      let s : State := s.put ADC_CAL_STAT ADC_CAL_STAT_STATE (1);
      s.inRun = true ∧ s.get ADC_CAL_STAT ADC_CAL_STAT_STATE ≠ 0) := by
  refine ⟨?_, ?_, ?_, ?_, ?_, ?_, ?_, ?_, ?_, ?_, ?_, ?_⟩ <;> decide +kernel

theorem test_meets_Converters_2 :
    (let s : State := base;
      let s : State := s.put ADC_CAL_STAT ADC_CAL_STAT_STATE (1);
      let s : State := { s with adc := { s.adc with calN := (32) } };
      s.engines = true ∧ s.get ADC_CAL_STAT ADC_CAL_STAT_STATE = 1 ∧ 32 ≤ s.adc.calN) ∧
    (let s : State := base;
      let sums : Vector (BitVec 24) 3 := #v[0x100000, 0x100000, 0x100000];
      let z : Nat × List Nat := (0, [0, 0, 0]);
      let tab : List (Nat × Word) := (State.calTables base 0 [0,0,0] [0x100000,0x100000,0x100000] 0 4096 [0,1,2]).getD [];
      let s : State := s.put ADC_CAL_STAT ADC_CAL_STAT_STATE (3);
      let s : State := { s with adc := { s.adc with calN := (32) } };
      let s : State := { s with adc := { s.adc with zero := (some z) } };
      let s : State := s.updAdc (fun a => { a with target := 4096 });
      s.engines = true ∧ s.get ADC_CAL_STAT ADC_CAL_STAT_STATE = 3 ∧ 32 ≤ s.adc.calN ∧ s.adc.zero = some z ∧
        s.calTables (s.get ADC_CAL_STAT ADC_CAL_STAT_INPUT) z.2 (sums.toList.map (·.toNat)) z.1 s.adc.target [0, 1, 2] = some tab) := by
  refine ⟨?_, ?_⟩ <;> decide +kernel

theorem test_meets_ThermalModel :
    (let s : State := base;
      let s : State := { s with th := { s.th with on := (true) } };
      let s : State := (s.put TH_CFG TH_CFG_EN (1)).latch;
      let s : State := (s.put TH_CFG TH_CFG_XCHK_EN (0)).latch;
      let s : State := s.put TH_CFG TH_CFG_EN 1;
      let s : State := { s with clk := { s.clk with frames := 100000 } };
      let s : State := s.wr FRM_NUM 100000;
      let s : State := { s with snap := { s.snap with regs := s.regs } };
      s.engines = true ∧ s.th.on = true ∧ s.latchedF TH_CFG TH_CFG_EN ≠ 0 ∧ s.frmNum % 16 = 0 ∧ s.th.last ≠ some s.clk.frames ∧
        s.latchedF TH_CFG TH_CFG_XCHK_EN = 0) ∧
    (let s : State := base;
      let s : State := { s with th := { s.th with last := (some s.clk.frames) } };
      s.th.last = some s.clk.frames) ∧
    (let s : State := base;
      let s : State := { s with th := { s.th with on := (true) } };
      let s : State := { s with th := { s.th with level := (0 + 1) } };
      let s : State := { s with th := { s.th with dwell := (125 * max 1 (s.latchedF TH_CFG TH_CFG_DWELL)) } };
      s.engines = true ∧ s.th.on = true ∧ 0 < s.th.level ∧ 125 * max 1 (s.latchedF TH_CFG TH_CFG_DWELL) ≤ s.th.dwell) := by
  refine ⟨?_, ?_, ?_⟩ <;> decide +kernel

theorem test_meets_ContextWrites :
    (let s : State := base;
      let i : Fin 160 := 159;
      let k : Fin 5 := 4;
      let v : Word := 0;
      let s : State := { s with sys := { s.sys with window := some ⟨s.actSrc, 10, s.opt.ms + 100⟩ } };
      let s : State := { s with sys := { s.sys with window := some ⟨0, 10, s.opt.ms + 100⟩ } };
      s.Unlocked 10 ∧ ctxWordsOk (s.ctxAfter i k v 0) (s.ctxAfter i k v 1) (s.ctxAfter i k v 3) (s.ctxAfter i k v 4) = true) ∧
    (let s : State := base;
      let i : Fin 160 := 159;
      let k : Fin 5 := 0;
      let v : Word := 0xFFFFFFFF;
      let s : State := { s with sys := { s.sys with window := some ⟨s.actSrc, 10, s.opt.ms + 100⟩ } };
      let s : State := { s with sys := { s.sys with window := some ⟨0, 10, s.opt.ms + 100⟩ } };
      s.Unlocked 10 ∧ ctxWordsOk (s.ctxAfter i k v 0) (s.ctxAfter i k v 1) (s.ctxAfter i k v 3) (s.ctxAfter i k v 4) = false) := by
  refine ⟨?_, ?_⟩ <;> (try unfold State.Unlocked) <;> decide +kernel

theorem test_meets_FaultCollector :
    (let s : State := base;
      let w : Fin 8 := 7;
      let b : Fin 32 := 31;
      s.inRun = true ∧ s.clearIgnored (32 * w + b) = false) ∧
    (let s : State := base;
      let w : Fin 8 := 5;
      let b : Fin 32 := 0;
      let s : State := s.put (MEV_STAT 0) (bitF 0) 1;
      s.inRun = true ∧ s.clearIgnored (32 * w + b) = true) ∧
    (let s : State := base;
      let n : BitVec 8 := 0xA5;
      let s : State := { s with sys := { s.sys with window := some ⟨s.actSrc, 2, s.opt.ms + 100⟩ } };
      s.Unlocked 2 ∧ esnReserved n.toNat = false) ∧
    (let s : State := base;
      let n : BitVec 8 := 0x9F;
      let s : State := { s with sys := { s.sys with window := some ⟨s.actSrc, 2, s.opt.ms + 100⟩ } };
      s.Unlocked 2 ∧ esnReserved n.toNat = true) ∧
    (let s : State := base;
      let s : State := { s with clk := { s.clk with inForce := (true) } };
      s.inRun = true ∧ s.clk.inForce = true) ∧
    (let s : State := base;
      let r : WinRaise := ⟨0x20, 1, 1, 2, [1], false⟩;
      let l : Fin 64 := 63;
      let s : State := { s with clk := { s.clk with stage := (.contexts) } };
      let s : State := { s with flt := { s.flt with window := ([r]) } };
      let s : State := s.put (FLT_CFG r.esn) FLT_CFG_NOTE (0);
      let s : State := s.put (SEQ_THR_STAT thFault) SEQ_THR_STAT_STATE thIdle;
      let s : State := s.put (FLT_CFG r.esn) FLT_CFG_LABEL (l.val);
      let s : State := { s with flt := { s.flt with window := [r] } };
      let s : State := s.put (FLT_CFG r.esn) FLT_CFG_LABEL l;
      s.engines = true ∧ s.clk.stage = .contexts ∧ s.faultFresh = false ∧ s.flt.window = [r] ∧ r.esn < 0xA0 ∧
        s.get (FLT_CFG r.esn) FLT_CFG_NOTE = 0 ∧ (((s.get (FLT_CFG r.esn) FLT_CFG_FAULT_EN = 1 ∧ s.selected r = true) ∨ 2 ≤ r.cls)) ∧
        s.thState thFault = thIdle ∧ s.thRuns thDown = false ∧ s.get (FLT_CFG r.esn) FLT_CFG_LABEL = l.val ∧ s.labelStep l < 6144) ∧
    (let s : State := base;
      let r : WinRaise := ⟨0xA3, 1, 1, 1, [1], false⟩;
      let s : State := { s with clk := { s.clk with stage := (.contexts) } };
      let s : State := { s with seq := { s.seq with tellFault := (none) } };
      let s : State := { s with flt := { s.flt with window := ([r]) } };
      let s : State := s.put (FLT_CFG r.esn) FLT_CFG_NOTE (0);
      let s : State := s.put (FLT_CFG r.esn) FLT_CFG_FAULT_EN (0);
      let s : State := s.put (MEV_FENCE (r.esn - 0xA0)) MEV_FENCE_KIND (1);
      let s : State := { s with flt := { s.flt with window := [r] } };
      let s : State := s.put (MEV_FENCE (r.esn - 0xA0)) MEV_FENCE_KIND 1;
      s.engines = true ∧ s.clk.stage = .contexts ∧ s.seq.tellFault = none ∧ s.flt.window = [r] ∧ 0xA0 ≤ r.esn ∧
        s.get (FLT_CFG r.esn) FLT_CFG_NOTE = 0 ∧ s.get (FLT_CFG r.esn) FLT_CFG_FAULT_EN = 0 ∧ r.cls < 2 ∧
        s.get (MEV_FENCE (r.esn - 0xA0)) MEV_FENCE_KIND = 1 ∧ ((r.forced = true ∨ ∃ c ∈ r.codes, 1 ≤ c ∧ c ≤ 4))) := by
  refine ⟨?_, ?_, ?_, ?_, ?_, ?_, ?_⟩ <;> (try unfold State.Unlocked) <;> decide +kernel

theorem test_meets_NvEngine :
    (let s : State := base;
      let off : Nat := 0x200000;
      let v : BitVec 64 := 0x1122334455667788;
      let r : List NvJob := [];
      let fails : Fin 4 := 2;
      let s : State := { s with nv := { s.nv with q1 := (⟨.words, [(off, v)], 1, 1⟩ :: r) } };
      s.inRun = true ∧ s.nvBlocked = false ∧ s.nv.used < 125 ∧ s.nv.q1 = ⟨.words, [(off, v)], 1, 1⟩ :: r ∧ fails.val < 3 ∧ off % 8 = 0 ∧
        s.physSector (off / 4096) ∉ s.mram.failed) ∧
    (let s : State := base;
      let s : State := s.put NV_ADDR NV_ADDR_WORD (0x2D0000/8);
      s.inRun = true ∧ s.burinReaches = true ∧ s.actSrc = 0 ∧ s.nvForbidden (8 * s.get NV_ADDR NV_ADDR_WORD) = true) ∧
    (let s : State := base;
      s.inRun = true ∧ s.burinReaches = true ∧ s.actSrc = 0 ∧ s.nvForbidden (8 * s.get NV_ADDR NV_ADDR_WORD) = false) ∧
    (let s : State := base;
      let s : State := s.put NV_JRNL_BASE NV_JRNL_BASE_SECTOR 0x2CE;
      let s : State := s.put NV_JRNL_LEN NV_JRNL_LEN_LEN 3;
      s.inRun = true ∧ s.burinReaches = true ∧ s.actSrc = 0 ∧ s.eraseForbidden = true) ∧
    (let s : State := base;
      let s : State := s.put NV_JRNL_LEN NV_JRNL_LEN_LEN (1);
      s.inRun = true ∧ s.burinReaches = true ∧ s.actSrc = 0 ∧ s.eraseForbidden = false ∧ s.get NV_JRNL_LEN NV_JRNL_LEN_LEN ≠ 0) ∧
    (let s : State := base;
      let s : State := s.put NV_JRNL_STAT NV_JRNL_STAT_INTERRUPTED (1);
      let s : State := s.put NV_JRNL_BASE NV_JRNL_BASE_SECTOR 0xFFF;
      let s : State := s.put NV_JRNL_LEN NV_JRNL_LEN_LEN 10;
      s.inRun = true ∧ s.burinReaches = true ∧ s.actSrc = 0 ∧ s.get NV_JRNL_STAT NV_JRNL_STAT_INTERRUPTED = 1 ∧ s.eraseForbidden = true) ∧
    (let s : State := base;
      let s : State := s.put NV_JRNL_STAT NV_JRNL_STAT_INTERRUPTED (1);
      s.inRun = true ∧ s.burinReaches = true ∧ s.actSrc = 0 ∧ s.get NV_JRNL_STAT NV_JRNL_STAT_INTERRUPTED = 1 ∧ s.eraseForbidden = false) := by
  refine ⟨?_, ?_, ?_, ?_, ?_, ?_, ?_⟩ <;> decide +kernel

theorem test_meets_BackupDomain_1 :
    (let s : State := base;
      s.inRun = true ∧ (s.rd RTC_SET_LO).toNat + 2 ^ 32 * s.get RTC_SET_HI RTC_SET_HI_SEC ≤ 6311433599) ∧
    (let s : State := base;
      let s : State := s.put RTC_SET_HI RTC_SET_HI_SEC 2;
      s.inRun = true ∧ 6311433599 < (s.rd RTC_SET_LO).toNat + 2 ^ 32 * s.get RTC_SET_HI RTC_SET_HI_SEC) ∧
    (let s : State := base;
      let v : Nat := 0;
      let s : State := { s with opt := { s.opt with setCross := (some v) } };
      let s : State := { s with opt := { s.opt with setDue := (true) } };
      let s : State := s.put RTC_STAT RTC_STAT_SUBST (0);
      s.inRun = true ∧ s.opt.setCross = some v ∧ s.opt.setDue = true ∧ s.get RTC_STAT RTC_STAT_SUBST = 0) ∧
    (let s : State := base;
      let s : State := { s with sys := { s.sys with window := some ⟨s.actSrc, 14, s.opt.ms + 100⟩ } };
      s.Unlocked 14) ∧
    (let s : State := base;
      s.inRun = true) ∧
    (let s : State := base;
      let n : Nat := 1;
      let s : State := { s with opt := { s.opt with swoCross := (true) } };
      let s : State := s.updOpt (fun o => { o with swoCross := true });
      s.opt.swoCross = true ∧ n ≠ 0) ∧
    (let s : State := base;
      s.inRun = true) ∧
    (let s : State := base;
      s.inRun = true) ∧
    (let s : State := base;
      s.power ≠ .unpowered) ∧
    (let s : State := base;
      let s : State := { s with bak := { s.bak with cal := (256 * 6311433600 - 1) } };
      s.power ≠ .unpowered ∧ s.bak.cal = 256 * 6311433600 - 1) ∧
    (let s : State := base;
      let v : BitVec 12 := 0;
      let s : State := { s with power := (.run) };
      v.toNat < 2000 ∧ s.power = .run) ∧
    (let s : State := base;
      let v : BitVec 12 := 0;
      let s : State := { s with power := (.standby) };
      v.toNat < 2000 ∧ s.power = .standby) := by
  refine ⟨?_, ?_, ?_, ?_, ?_, ?_, ?_, ?_, ?_, ?_, ?_, ?_⟩ <;> (try unfold State.Unlocked) <;> decide +kernel

theorem test_meets_BackupDomain_2 :
    (let s : State := base;
      let v : BitVec 12 := 0;
      let s : State := { s with power := (.frost) };
      v.toNat < 2000 ∧ s.power = .frost) ∧
    (let s : State := base;
      s.inRun = true ∧ s.opt.hourRec < s.opt.ms / 3600000) := by
  refine ⟨?_, ?_⟩ <;> decide +kernel

theorem test_meets_PowerStates_1 :
    (let s : State := base;
      let s : State := { s with power := (.unpowered) };
      s.power = .unpowered) ∧
    (let s : State := base;
      let s : State := { s with power := (.frost) };
      s.power = .frost) ∧
    (let s : State := base;
      let v : BitVec 12 := 1799;
      let s : State := { s with power := (.run) };
      (s.power = .run ∨ s.power = .standby) ∧ v.toNat < 1800) ∧
    (let s : State := base;
      let v : BitVec 12 := 1800;
      let s : State := { s with power := (.run) };
      (s.power = .run ∨ s.power = .standby) ∧ 1800 ≤ v.toNat) ∧
    (let s : State := base;
      s.inRun = true ∧ s.standbyReady = true) ∧
    (let s : State := base;
      let s : State := s.put CHG_STAT CHG_STAT_STATE chgCC;
      s.inRun = true ∧ s.standbyReady = false) ∧
    (let s : State := base;
      let src : Fin 7 := 6;
      let s : State := { s with power := (.standby) };
      let s : State := s.put PWR_WAKE_EN (bitF src) (1);
      s.power = .standby ∧ s.get PWR_WAKE_EN (bitF src) = 1) ∧
    (let s : State := base;
      let src : Fin 7 := 6;
      let s : State := s.put PWR_WAKE_EN (bitF src) (0);
      s.get PWR_WAKE_EN (bitF src) = 0) ∧
    (let s : State := base;
      let p : Port := .c;
      let s : State := { s with power := (.standby) };
      let s : State := s.put (PORT_CFG p) PORT_CFG_EN (1);
      let s : State := s.put PWR_WAKE_EN (bitF p.idx) (1);
      s.power = .standby ∧ s.get (PORT_CFG p) PORT_CFG_EN = 1 ∧ s.get PWR_WAKE_EN (bitF p.idx) = 1) ∧
    (let s : State := base;
      let p : Port := .b;
      let s : State := { s with power := (.standby) };
      let s : State := s.put (PORT_CFG p) PORT_CFG_EN (1);
      let s : State := s.put PWR_WAKE_EN (bitF p.idx) (1);
      s.power = .standby ∧ s.get (PORT_CFG p) PORT_CFG_EN = 1 ∧ s.get PWR_WAKE_EN (bitF p.idx) = 1 ∧ (p = .a ∨ p = .b)) ∧
    (let s : State := base;
      let s : State := { s with bak := { s.bak with wakeDue := (true) } };
      s.bak.wakeDue = true ∧ s.inRun = true) ∧
    (let s : State := base;
      let s : State := { s with bak := { s.bak with wakeDue := (true) } };
      let s : State := { s with power := (.standby) };
      let s : State := s.put PWR_WAKE_EN (bitF 4) (1);
      s.bak.wakeDue = true ∧ s.power = .standby ∧ s.get PWR_WAKE_EN (bitF 4) = 1) := by
  refine ⟨?_, ?_, ?_, ?_, ?_, ?_, ?_, ?_, ?_, ?_, ?_, ?_⟩ <;> decide +kernel

theorem test_meets_PowerStates_2 :
    (let s : State := base;
      let s : State := { s with bak := { s.bak with wakeDue := (true) } };
      let s : State := { s with power := (.frost) };
      s.bak.wakeDue = true ∧ s.power = .frost) := by
  decide +kernel

theorem test_meets_ClockMonitor :
    (let s : State := base;
      s.inRun = true) ∧
    (let s : State := base;
      let stopped : Bool := true;
      let counts : Vector (BitVec 10) 4 := Vector.replicate 4 343#10;
      let s : State := s.put CLK_STAT CLK_STAT_ACTIVE (0);
      let s : State := s.put CLK_STAT CLK_STAT_SPR_FENCED (0);
      s.inRun = true ∧ s.oscFails stopped counts = true ∧ s.get CLK_STAT CLK_STAT_ACTIVE = 0 ∧ s.get CLK_STAT CLK_STAT_SPR_FENCED = 0) ∧
    (let s : State := base;
      let stopped : Bool := true;
      let counts : Vector (BitVec 10) 4 := Vector.replicate 4 343#10;
      let s : State := s.put CLK_STAT CLK_STAT_ACTIVE (0);
      let s : State := s.put CLK_STAT CLK_STAT_SPR_FENCED (0);
      s.inRun = true ∧ s.oscFails stopped counts = true ∧ s.get CLK_STAT CLK_STAT_ACTIVE = 0 ∧ s.get CLK_STAT CLK_STAT_SPR_FENCED = 0) ∧
    (let s : State := base;
      let stopped : Bool := true;
      let counts : Vector (BitVec 10) 4 := Vector.replicate 4 343#10;
      let s : State := s.put CLK_STAT CLK_STAT_ACTIVE (1);
      let s : State := s.put CLK_STAT CLK_STAT_PRI_FENCED (0);
      s.inRun = true ∧ s.oscFails stopped counts = true ∧ s.get CLK_STAT CLK_STAT_ACTIVE = 1 ∧ s.get CLK_STAT CLK_STAT_PRI_FENCED = 0) ∧
    (let s : State := base;
      let stopped : Bool := true;
      let counts : Vector (BitVec 10) 4 := Vector.replicate 4 343#10;
      let s : State := s.put CLK_STAT CLK_STAT_ACTIVE (1);
      let s : State := s.put CLK_STAT CLK_STAT_PRI_FENCED (0);
      s.inRun = true ∧ s.oscFails stopped counts = true ∧ s.get CLK_STAT CLK_STAT_ACTIVE = 1 ∧ s.get CLK_STAT CLK_STAT_PRI_FENCED = 0) ∧
    (let s : State := base;
      let stopped : Bool := true;
      let counts : Vector (BitVec 10) 4 := Vector.replicate 4 343#10;
      let s : State := s.put CLK_STAT CLK_STAT_ACTIVE 1;
      let s : State := s.put CLK_STAT CLK_STAT_PRI_FENCED 1;
      s.inRun = true ∧ s.oscFails stopped counts = true ∧ s.otherFenced = true) ∧
    (let s : State := base;
      let stopped : Bool := true;
      let counts : Vector (BitVec 10) 4 := Vector.replicate 4 343#10;
      let s : State := s.put CLK_STAT CLK_STAT_ACTIVE 1;
      let s : State := s.put CLK_STAT CLK_STAT_PRI_FENCED 1;
      s.inRun = true ∧ s.oscFails stopped counts = true ∧ s.otherFenced = true) ∧
    (let s : State := base;
      let stopped : Bool := false;
      let counts : Vector (BitVec 10) 4 := Vector.replicate 4 380#10;
      s.inRun = true ∧ s.oscFails stopped counts = false) ∧
    (let s : State := base;
      let stopped : Bool := false;
      let counts : Vector (BitVec 10) 4 := Vector.replicate 4 380#10;
      s.inRun = true ∧ s.oscFails stopped counts = false) ∧
    (let s : State := base;
      let s : State := { s with power := (.run) };
      let s : State := { s with clk := { s.clk with bothLost := (false) } };
      s.power = .run ∧ s.clk.bothLost = false) ∧
    (let s : State := base;
      let s : State := { s with power := (.run) };
      let s : State := { s with clk := { s.clk with stopped := (true) } };
      let s : State := { s with clk := { s.clk with bothLost := (false) } };
      s.power = .run ∧ s.clk.stopped = true ∧ s.clk.bothLost = false) ∧
    (let s : State := base;
      let s : State := { s with power := (.run) };
      let s : State := { s with clk := { s.clk with bothLost := (true) } };
      s.power = .run ∧ s.clk.bothLost = true) := by
  refine ⟨?_, ?_, ?_, ?_, ?_, ?_, ?_, ?_, ?_, ?_, ?_, ?_⟩ <;> decide +kernel

theorem test_meets_ClockSource :
    (let s : State := base;
      let s : State := { s with clk := { s.clk with source := (.ref) } };
      let s : State := s.put CLK_STAT CLK_STAT_HOLDOVER (0);
      s.inRun = true ∧ s.clk.source = .ref ∧ s.get CLK_STAT CLK_STAT_HOLDOVER = 0) ∧
    (let s : State := base;
      s.inRun = true ∧ s.clk.source ≠ .ref) ∧
    (let s : State := base;
      let s : State := { s with clk := { s.clk with source := (.ref) } };
      let s : State := s.put CLK_STAT CLK_STAT_HOLDOVER (1);
      s.inRun = true ∧ s.clk.source = .ref ∧ s.get CLK_STAT CLK_STAT_HOLDOVER = 1) ∧
    (let s : State := base;
      let s : State := { s with clk := { s.clk with inForce := (true) } };
      let s : State := s.put CLK_CFG CLK_CFG_SRC (2);
      s.inRun = true ∧ s.clk.inForce = true ∧ s.get CLK_CFG CLK_CFG_SRC = 2 ∧ s.clk.source ≠ .ref) ∧
    (let s : State := base;
      s.inRun = true) ∧
    (let s : State := base;
      let s : State := { s with clk := { s.clk with source := (.xtal) } };
      let s : State := s.put CLK_STAT CLK_STAT_XTAL_OK (1);
      s.inRun = true ∧ s.clk.source = .xtal ∧ s.get CLK_STAT CLK_STAT_XTAL_OK = 1) ∧
    (let s : State := base;
      let s : State := s.put RTC_STAT RTC_STAT_SUBST (0);
      s.inRun = true ∧ s.get RTC_STAT RTC_STAT_SUBST = 0) ∧
    (let s : State := base;
      let s : State := s.put RTC_STAT RTC_STAT_SUBST (1);
      s.inRun = true ∧ s.get RTC_STAT RTC_STAT_SUBST = 1) := by
  refine ⟨?_, ?_, ?_, ?_, ?_, ?_, ?_, ?_⟩ <;> decide +kernel

theorem test_meets_SiblingLink_1 :
    (let s : State := base;
      let s : State := s.put CLK_CFG CLK_CFG_FRM_ROLE 2;
      let s : State := s.put LINK_STAT LINK_STAT_UP (1);
      s.engines = true ∧ s.frmRole = 2 ∧ s.get LINK_STAT LINK_STAT_UP = 1) ∧
    (let s : State := base;
      let s : State := s.put CLK_CFG CLK_CFG_FRM_ROLE 1;
      s.engines = true ∧ s.frmRole = 1) ∧
    (let s : State := base;
      let s : State := s.put CLK_CFG CLK_CFG_FRM_ROLE 2;
      let s : State := { s with clk := { s.clk with goodMarks := (8) } };
      let s : State := s.put CLK_STAT CLK_STAT_FRM_ALIGNED (0);
      s.engines = true ∧ s.frmRole = 2 ∧ 8 ≤ s.clk.goodMarks ∧ s.get CLK_STAT CLK_STAT_FRM_ALIGNED = 0) ∧
    (let s : State := base;
      let s : State := s.put CLK_CFG CLK_CFG_FRM_ROLE 2;
      let s : State := { s with clk := { s.clk with missed := (8) } };
      let s : State := { s with clk := { s.clk with marksLost := (false) } };
      s.engines = true ∧ s.frmRole = 2 ∧ 8 ≤ s.clk.missed ∧ s.clk.marksLost = false) ∧
    (let s : State := base;
      let s : State := s.put LINK_STAT LINK_STAT_UP (0);
      s.engines = true ∧ s.get LINK_STAT LINK_STAT_UP = 0) ∧
    (let s : State := base;
      let s : State := s.put CLK_CFG CLK_CFG_FRM_ROLE 1;
      let s : State := s.put LINK_STAT LINK_STAT_UP (1);
      s.engines = true ∧ s.frmRole = 1 ∧ s.get LINK_STAT LINK_STAT_UP = 1) ∧
    (let s : State := base;
      s.inRun = true) ∧
    (let s : State := base;
      let seq : BitVec 4 := 9;
      let w : Word := 0;
      let s : State := { s with layers := (true) };
      let s : State := { s with link := { s.link with rspSeq := 9, hpart := [] } };
      s.inRun = true ∧ s.layers = true ∧ seq.toNat = s.link.rspSeq ∧
        (s.link.hpart ++ [w]).length = headLen ((s.link.hpart ++ [w]).getD 0 0) + 1 ∧ s.link.hrx.length + s.link.hpart.length < 64) ∧
    (let s : State := base;
      let seq : BitVec 4 := 9;
      let s : State := { s with layers := (true) };
      let s : State := { s with link := { s.link with rspSeq := 8, hpart := [1,2] } };
      s.inRun = true ∧ s.layers = true ∧ seq.toNat ≠ s.link.rspSeq) ∧
    (let s : State := base;
      let s : State := { s with layers := (true) };
      let s : State := { s with link := { s.link with crcSaid := (false) } };
      s.inRun = true ∧ s.layers = true ∧ s.link.crcSaid = false) ∧
    (let s : State := base;
      let s : State := { s with link := { s.link with crcSaid := (false) } };
      s.inRun = true ∧ s.link.crcSaid = false) ∧
    (let s : State := base;
      let s : State := { s with link := { s.link with crcSaid := (false) } };
      s.inRun = true ∧ s.link.crcSaid = false) := by
  refine ⟨?_, ?_, ?_, ?_, ?_, ?_, ?_, ?_, ?_, ?_, ?_, ?_⟩ <;> decide +kernel

theorem test_meets_SiblingLink_2 :
    (let s : State := base;
      let s : State := { s with link := { s.link with crcSaid := (false) } };
      s.inRun = true ∧ s.link.crcSaid = false) ∧
    (let s : State := base;
      let s : State := { s with link := { s.link with crcSaid := (false) } };
      s.inRun = true ∧ s.link.crcSaid = false) ∧
    (let s : State := base;
      let s : State := { s with link := { s.link with crcSaid := (false) } };
      s.inRun = true ∧ s.link.crcSaid = false) ∧
    (let s : State := base;
      s.burinReaches = true ∧ s.link.htx.length < 64) ∧
    (let s : State := base;
      let s : State := { s with link := { s.link with htx := List.replicate 64 3 } };
      s.burinReaches = true ∧ 64 ≤ s.link.htx.length) := by
  refine ⟨?_, ?_, ?_, ?_, ?_⟩ <;> decide +kernel

theorem test_meets_Starts :
    (let s : State := base;
      let s : State := { s with power := (.unpowered) };
      (s.power = .unpowered ∨ s.power = .frost)) ∧
    (let s : State := base;
      let s : State := { s with power := (.run) };
      (s.power = .run ∨ s.power = .standby)) ∧
    (let s : State := base;
      let s : State := { s with layers := (false) };
      let s : State := { s with proc := { s.proc with mode := (.held) } };
      s.inRun = true ∧ s.layers = false ∧ s.proc.mode = .held) ∧
    (let s : State := base;
      let s : State := { s with layers := (false) };
      let s : State := { s with proc := { s.proc with mode := (.fenced) } };
      s.inRun = true ∧ s.layers = false ∧ s.proc.mode = .fenced) ∧
    (let s : State := withImage { base with layers := false, proc := { mode := .held } } 0;
      let s : State := { s with layers := (false) };
      let s : State := { s with proc := { s.proc with mode := (.held) } };
      s.inRun = true ∧ s.layers = false ∧ s.proc.mode = .held ∧ s.bootRec.trial = false ∧ s.bootRec.slot < 2 ∧
        s.imageValid s.bootRec.slot = true) := by
  refine ⟨?_, ?_, ?_, ?_, ?_⟩ <;> decide +kernel

theorem test_meets_ReadyAndProof :
    (let s : State := base;
      s.burinReaches = true) ∧
    (let s : State := base;
      let s : State := s.put PRF_STAT PRF_STAT_BUSY (0);
      let s : State := boot s BOOT_STAT_READY (1);
      s.burinReaches = true ∧ s.get PRF_STAT PRF_STAT_BUSY = 0 ∧ s.get BOOT_STAT BOOT_STAT_READY = 1) ∧
    (let s : State := base;
      let s : State := s.put PRF_STAT PRF_STAT_BUSY (1);
      s.burinReaches = true ∧ (s.get PRF_STAT PRF_STAT_BUSY = 1 ∨ s.get BOOT_STAT BOOT_STAT_READY = 0)) ∧
    (let s : State := base;
      let s : State := s.put PRF_STAT PRF_STAT_BUSY (1);
      let s : State := boot s BOOT_STAT_READY (1);
      let s : State := { s with mram := { s.mram with proofCtr := (s.proof.counter) } };
      s.inRun = true ∧ s.get PRF_STAT PRF_STAT_BUSY = 1 ∧ s.get BOOT_STAT BOOT_STAT_READY = 1 ∧ s.proofCount = s.mram.proofCtr ∧
        s.mram.proofCtr = s.proof.counter) := by
  refine ⟨?_, ?_, ?_, ?_⟩ <;> decide +kernel

theorem test_meets_PortMailboxes_1 :
    (let s : State := base;
      let p : Port := .b;
      let k : Fin 96 := 95;
      let s : State := { s with layers := (true) };
      let s : State := { s with tags := s.tags.set k ({ s.tags[k] with st := (.queued) }) };
      let s : State := { s with clk := { s.clk with frames := (s.tags[k].due) } };
      let s : State := { s with tags := s.tags.set k ({ s.tags[k] with port := (p) }) };
      s.inRun = true ∧ s.layers = true ∧ s.tags[k].st = .queued ∧ s.tags[k].due ≤ s.clk.frames ∧ s.tags[k].port = p) ∧
    (let s : State := base;
      let p : Port := .b;
      let k : Fin 96 := 95;
      let w : Word := 0x005F0000;
      let s : State := { s with layers := (true) };
      let s : State := { s with ports := s.ports.set p.idx { s.ports[p.idx] with tx := [] } };
      let s : State := { s with tags := s.tags.set k ({ s.tags[k] with st := (.queued) }) };
      let s : State := { s with tags := s.tags.set k ({ s.tags[k] with port := (p) }) };
      let s : State := { s with tags := s.tags.set k ({ s.tags[k] with due := (s.clk.frames + 1) }) };
      s.burinReaches = true ∧ s.layers = true ∧ (s.port p).tx = [] ∧ headTag w = k.val ∧ headLen w = 0 ∧ s.tags[k].st = .queued ∧
        s.tags[k].port = p ∧ s.clk.frames < s.tags[k].due) ∧
    (let s : State := base;
      let p : Port := .b;
      let k : Fin 96 := 95;
      let w : Word := 0x005F0000;
      let s : State := { s with layers := (true) };
      let s : State := { s with ports := s.ports.set p.idx { s.ports[p.idx] with tx := [] } };
      s.burinReaches = true ∧ s.layers = true ∧ (s.port p).tx = [] ∧ headTag w = k.val ∧ headLen w = 0 ∧
        ((s.tags[k].st ≠ .queued ∨ s.tags[k].port ≠ p ∨ s.tags[k].due ≤ s.clk.frames))) ∧
    (let s : State := base;
      let p : Port := .b;
      let w : Word := 0;
      let r : List Word := [];
      let s : State := { s with ports := s.ports.set p.idx { s.ports[p.idx] with rx := w :: r } };
      s.burinReaches = true ∧ (s.port p).rx = w :: r) ∧
    (let s : State := base;
      let p : Port := .b;
      let s : State := { s with ports := s.ports.set p.idx { s.ports[p.idx] with rx := [] } };
      let s : State := { s with ports := s.ports.set p.idx { s.ports[p.idx] with inq := [] } };
      s.burinReaches = true ∧ (s.port p).rx = [] ∧ (s.port p).inq = []) ∧
    (let s : State := base;
      s.burinReaches = true) ∧
    (let s : State := base;
      let p : Port := .b;
      let i : Item := ⟨[0x11, 0x22, 0x33], some 95, false, false⟩;
      let r : List Item := [⟨[1], some 3, false, false⟩];
      let k : Fin 96 := 95;
      let s : State := s.putB (PORT_CFG p) PORT_CFG_EN true;
      let s : State := { s with ports := s.ports.set p.idx { s.ports[p.idx] with out := i :: r } };
      s.hostReaches p = true ∧ (s.port p).out = i :: r ∧ i.notice = false ∧ i.tag = some k.val ∧ i.words ≠ []) ∧
    (let s : State := base;
      let p : Port := .c;
      let s : State := s.putB (PORT_CFG p) PORT_CFG_EN true;
      let s : State := { s with ports := s.ports.set p.idx { s.ports[p.idx] with out := [] } };
      let s : State := { s with ports := s.ports.set p.idx { s.ports[p.idx] with notes := [] } };
      s.transacts p = true ∧ p = .c ∧ (s.port p).out = [] ∧ (s.port p).notes = []) ∧
    (let s : State := base;
      let p : Port := .b;
      let i : Item := ⟨[0x11, 0x22, 5], some 95, false, false⟩;
      let r : List Item := [⟨[1], some 3, false, false⟩];
      let w : Word := 0x11;
      let v : Word := 0x22;
      let l : List Word := [5];
      let s : State := s.putB (PORT_CFG p) PORT_CFG_EN true;
      let s : State := { s with ports := s.ports.set p.idx { s.ports[p.idx] with out := i :: r } };
      s.transacts p = true ∧ s.crcPort p = true ∧ (s.port p).out = i :: r ∧ i.words = w :: v :: l) ∧
    (let s : State := base;
      let p : Port := .b;
      let i : Item := ⟨[0x11, 0x22, 5], some 95, false, true⟩;
      let r : List Item := [⟨[1], some 3, false, false⟩];
      let k : Fin 96 := 95;
      let s : State := s.putB (PORT_CFG p) PORT_CFG_EN true;
      let s : State := { s with ports := s.ports.set p.idx { s.ports[p.idx] with out := i :: r } };
      let s : State := { s with ports := s.ports.set p.idx { s.ports[p.idx] with notes := [] } };
      s.transacts p = true ∧ (s.port p).out = i :: r ∧ i.begun = true ∧ i.tag = some k.val ∧ (s.port p).notes = []) ∧
    (let s : State := base;
      let p : Port := .b;
      let i : Item := ⟨[0x11, 0x22, 0x33], some 95, false, false⟩;
      let r : List Item := [⟨[1], some 3, false, false⟩];
      let s : State := s.putB (PORT_CFG p) PORT_CFG_EN true;
      let s : State := { s with ports := s.ports.set p.idx { s.ports[p.idx] with out := i :: r } };
      s.transacts p = true ∧ (s.port p).out = i :: r ∧ i.begun = false) ∧
    (let s : State := base;
      let p : Port := .b;
      let s : State := s.putB (PORT_CFG p) PORT_CFG_EN true;
      s.transacts p = true) := by
  refine ⟨?_, ?_, ?_, ?_, ?_, ?_, ?_, ?_, ?_, ?_, ?_, ?_⟩ <;> decide +kernel

theorem test_meets_PortMailboxes_2 :
    (let s : State := base;
      let p : Port := .b;
      let s : State := s.putB (PORT_CFG p) PORT_CFG_EN true;
      s.transacts p = true) ∧
    (let s : State := base;
      let p : Port := .a;
      let bs : List Byte := [1, 2, 3, 4];
      let s : State := s.putB (PORT_CFG p) PORT_CFG_EN true;
      let s : State := s.put (PORT_CFG p) PORT_CFG_PEC 1;
      s.transacts p = true ∧ (p = .a ∨ p = .b) ∧ s.crcPort p = false ∧ bs.length % 4 = 0) ∧
    (let s : State := base;
      let p : Port := .c;
      let w : Word := 0x010F0001;
      let s : State := s.putB (PORT_CFG p) PORT_CFG_EN true;
      let s : State := { s with ports := s.ports.set p.idx { s.ports[p.idx] with collect := [] } };
      let s : State := { s with ports := s.ports.set p.idx { s.ports[p.idx] with missed := 0 } };
      let s : State := { s with ports := s.ports.set p.idx { s.ports[p.idx] with bad := false } };
      s.transacts p = true ∧ (s.port p).inUsed < 64 ∧ (s.port p).collect = [] ∧ (s.port p).missed = 0 ∧ (s.port p).bad = false ∧
        0 < headLen w ∧ headLen w ≤ 62 ∧ p = .c) ∧
    (let s : State := base;
      let p : Port := .b;
      let s : State := s.putB (PORT_CFG p) PORT_CFG_EN true;
      s.transacts p = true ∧ (p = .a ∨ p = .b)) ∧
    (let s : State := base;
      let p : Port := .a;
      let s : State := s.putB (PORT_CFG p) PORT_CFG_EN true;
      let s : State := { s with ports := s.ports.set p.idx { s.ports[p.idx] with out := [⟨[1], some 3, false, false⟩] } };
      s.transacts p = true ∧ (p = .a ∨ p = .b) ∧ (s.port p).out ≠ []) ∧
    (let s : State := base;
      let p : Port := .a;
      let ms : BitVec 8 := 35;
      let s : State := s.putB (PORT_CFG p) PORT_CFG_EN true;
      s.transacts p = true ∧ (p = .a ∨ p = .b) ∧ min 35 (max 1 (s.get (PORT_TIM p) PORT_TIM_STO)) ≤ ms.toNat) := by
  refine ⟨?_, ?_, ?_, ?_, ?_, ?_⟩ <;> decide +kernel

theorem test_meets_AlarmLink :
    (let s : State := base;
      let s : State := s.putB DL_CFG DL_CFG_EN true;
      s.dlAnswers = true) ∧
    (let s : State := base;
      let a : BitVec 16 := 0x20;
      let n : BitVec 16 := 2;
      let s : State := s.putB DL_CFG DL_CFG_EN true;
      let s : State := s.put (FLT_STICKY 0) (bitF 3) 1;
      let s : State := s.latch;
      s.dlAnswers = true ∧ 1 ≤ n.toNat ∧ n.toNat ≤ 125 ∧ ((∀ k : Nat, k < n.toNat → s.dlReg (a.toNat + k) ≠ none))) ∧
    (let s : State := base;
      let n : BitVec 16 := 126;
      let s : State := s.putB DL_CFG DL_CFG_EN true;
      s.dlAnswers = true ∧ (n.toNat = 0 ∨ 125 < n.toNat)) ∧
    (let s : State := base;
      let a : BitVec 16 := 0x5F;
      let n : BitVec 16 := 3;
      let s : State := s.putB DL_CFG DL_CFG_EN true;
      s.dlAnswers = true ∧ 1 ≤ n.toNat ∧ n.toNat ≤ 125 ∧ (∃ k : Nat, k < n.toNat ∧ s.dlReg (a.toNat + k) = none)) ∧
    (let s : State := base;
      let a : BitVec 16 := 0x4F;
      let s : State := s.putB DL_CFG DL_CFG_EN true;
      s.dlAnswers = true ∧ 0x40 ≤ a.toNat ∧ a.toNat ≤ 0x4F) ∧
    (let s : State := base;
      let a : BitVec 16 := 0;
      let s : State := s.putB DL_CFG DL_CFG_EN true;
      s.dlAnswers = true ∧ (a.toNat < 0x40 ∨ 0x4F < a.toNat)) ∧
    (let s : State := base;
      let s : State := s.putB DL_CFG DL_CFG_EN true;
      s.dlAnswers = true) ∧
    (let s : State := base;
      let s : State := s.putB DL_CFG DL_CFG_EN true;
      s.dlAnswers = true) ∧
    (let s : State := base;
      let s : State := s.putB DL_CFG DL_CFG_EN true;
      s.dlAnswers = true) := by
  refine ⟨?_, ?_, ?_, ?_, ?_, ?_, ?_, ?_, ?_⟩ <;> decide +kernel

theorem test_meets_AuxBus :
    (let s : State := base;
      let s : State := s.put AUX_STAT AUX_STAT_BUSY (0);
      s.burinReaches = true ∧ s.get AUX_STAT AUX_STAT_BUSY = 0) ∧
    (let s : State := base;
      let s : State := s.put AUX_STAT AUX_STAT_BUSY (1);
      s.burinReaches = true ∧ s.get AUX_STAT AUX_STAT_BUSY = 1) ∧
    (let s : State := base;
      let s : State := s.put AUX_STAT AUX_STAT_BUSY (1);
      s.inRun = true ∧ s.get AUX_STAT AUX_STAT_BUSY = 1 ∧ s.aux.rlen ≤ 32) ∧
    (let s : State := base;
      let s : State := s.put AUX_STAT AUX_STAT_BUSY (1);
      s.inRun = true ∧ s.get AUX_STAT AUX_STAT_BUSY = 1) ∧
    (let s : State := base;
      let lost : BitVec 4 := BitVec.ofNat _ (max 1 (s.get AUX_CFG AUX_CFG_TRIES));
      let s : State := s.put AUX_STAT AUX_STAT_BUSY (1);
      s.inRun = true ∧ s.get AUX_STAT AUX_STAT_BUSY = 1 ∧ lost.toNat = max 1 (s.get AUX_CFG AUX_CFG_TRIES)) ∧
    (let s : State := base;
      let ms : BitVec 8 := 35;
      let s : State := s.put AUX_STAT AUX_STAT_BUSY (1);
      s.inRun = true ∧ s.get AUX_STAT AUX_STAT_BUSY = 1 ∧ min 35 (max 1 (s.get AUX_CFG AUX_CFG_STO)) ≤ ms.toNat) := by
  refine ⟨?_, ?_, ?_, ?_, ?_, ?_⟩ <;> decide +kernel

theorem test_meets_UnlockWindows_1 :
    (let s : State := base;
      let b : BitVec 5 := 0;
      s.burinReaches = true ∧ b.toNat ≤ 16) ∧
    (let s : State := base;
      let b : BitVec 5 := 16;
      let s : State := s.put SYS_PROT SYS_PROT_LOCK (0);
      let s : State := s.put SYS_PROT SYS_PROT_SRC_EN 0xFF;
      let s : State := { s with sys := { s.sys with keys := [(s.actSrc, b.toNat)] } };
      s.burinReaches = true ∧ b.toNat ≤ 16 ∧ s.keyWaits s.actSrc b.toNat = true ∧ s.get SYS_PROT SYS_PROT_LOCK = 0 ∧
        (s.get SYS_PROT SYS_PROT_SRC_EN).testBit s.actSrc = true ∧ s.windowOther s.actSrc = false) ∧
    (let s : State := base;
      let b : BitVec 5 := 0;
      let s : State := s.put SYS_PROT SYS_PROT_LOCK (1);
      let s : State := { s with sys := { s.sys with keys := [(s.actSrc, b.toNat)] } };
      s.burinReaches = true ∧ b.toNat ≤ 16 ∧ s.keyWaits s.actSrc b.toNat = true ∧ s.get SYS_PROT SYS_PROT_LOCK = 1) ∧
    (let s : State := base;
      let b : BitVec 5 := 0;
      s.burinReaches = true ∧ b.toNat ≤ 16 ∧ s.keyWaits s.actSrc b.toNat = false) ∧
    (let s : State := base;
      let w : Window := ⟨0, 5, s.opt.ms + 100⟩;
      let s : State := { s with sys := { s.sys with window := (some w) } };
      s.burinReaches = true ∧ s.sys.window = some w ∧ w.src = s.actSrc) ∧
    (let s : State := base;
      let w : Window := ⟨3, 5, s.opt.ms + 100⟩;
      let s : State := { s with sys := { s.sys with window := (some w) } };
      s.burinReaches = true ∧ s.sys.window = some w ∧ w.src ≠ s.actSrc) ∧
    (let s : State := base;
      let w : Window := ⟨0, 5, s.opt.ms⟩;
      let s : State := { s with sys := { s.sys with window := (some w) } };
      let s : State := { s with opt := { s.opt with ms := (w.until_) } };
      s.burinReaches = true ∧ s.sys.window = some w ∧ w.until_ ≤ s.opt.ms) ∧
    (let s : State := base;
      let a : Word := BitVec.ofNat 32 (LOOP_PROT 3);
      let s : State := s.put SYS_PROT SYS_PROT_LOCK (1);
      s.burinReaches = true ∧ isProtected a.toNat = true ∧ s.get SYS_PROT SYS_PROT_LOCK = 1) ∧
    (let s : State := base;
      let a : Word := BitVec.ofNat 32 (LOOP_PROT 3);
      let s : State := s.put SYS_PROT SYS_PROT_LOCK (0);
      s.burinReaches = true ∧ isProtected a.toNat = true ∧ s.get SYS_PROT SYS_PROT_LOCK = 0 ∧ s.windowNow = none) ∧
    (let s : State := base;
      let a : Word := BitVec.ofNat 32 (LOOP_PROT 3);
      let w : Window := ⟨0, 12, s.opt.ms + 100⟩;
      let s : State := s.put SYS_PROT SYS_PROT_LOCK (0);
      let s : State := { s with sys := { s.sys with window := some w } };
      s.burinReaches = true ∧ isProtected a.toNat = true ∧ s.get SYS_PROT SYS_PROT_LOCK = 0 ∧ s.windowNow = some w ∧
        ((w.src ≠ s.actSrc ∨ blockOf a.toNat ≠ some w.block))) ∧
    (let s : State := base;
      let c : Instr := .forceRaise 0x20;
      let block : Nat := 2;
      let code : Nat := 1;
      s.burinReaches = true ∧ (((block = 12 ∧ ∃ (i : Fin 64) (v : Word), c = .labelWrite i v) ∨ (block = 12 ∧
        ∃ (i : Fin 6144) (v : Word), c = .stencilStoreWrite i v) ∨ (block = 10 ∧
        ∃ (i : Fin 160) (k : Fin 5) (v : Word), c = .contextWrite i k v) ∨ (block = 14 ∧
        ∃ v : BitVec 8, c = .rtcTrimWrite v) ∨ (block = 2 ∧ ∃ n : BitVec 8, c = .forceRaise n))) ∧
        s.protBlocked s.actSrc block = some code) ∧
    (let s : State := base;
      let u : Nat := s.opt.ms + 1;
      let s : State := s.put SYS_PROT SYS_PROT_LOCK (0);
      let s : State := { s with sys := { s.sys with window := (some ⟨s.actSrc, 5, u⟩) } };
      s.burinReaches = true ∧ s.get SYS_PROT SYS_PROT_LOCK = 0 ∧ s.sys.window = some ⟨s.actSrc, 5, u⟩ ∧ s.opt.ms < u) := by
  refine ⟨?_, ?_, ?_, ?_, ?_, ?_, ?_, ?_, ?_, ?_, ?_, ?_⟩ <;> decide +kernel

theorem test_meets_UnlockWindows_2 :
    (let s : State := base;
      let a : Word := 0x2001FFFC;
      s.burinReaches = true ∧ s.actSrc = 0 ∧ 0x20000000 ≤ a.toNat ∧ a.toNat < 0x20020000) ∧
    (let s : State := base;
      let a : Word := BitVec.ofNat 32 SEQ_FLAG_SET;
      s.burinReaches = true ∧ a.toNat = SEQ_FLAG_SET) ∧
    (let s : State := base;
      let a : Word := 0x2001FFFC;
      let s : State := s.put SYS_ACT SYS_ACT_SRC 1;
      s.burinReaches = true ∧ s.actSrc ≠ 0 ∧ blockOf a.toNat = none) ∧
    (let s : State := base;
      s.burinReaches = true ∧ s.actSrc = 0) ∧
    (let s : State := base;
      let v : BitVec 3 := 0;
      let s : State := s.put SYS_ACT SYS_ACT_SRC 1;
      s.burinReaches = true ∧ s.actSrc ≠ 0 ∧ v = 0) ∧
    (let s : State := base;
      let v : BitVec 3 := 5;
      let s : State := s.put SYS_ACT SYS_ACT_SRC 1;
      s.burinReaches = true ∧ s.actSrc ≠ 0 ∧ v ≠ 0) ∧
    (let s : State := base;
      let x : Session := ⟨.c, 1, 1000000000, none⟩;
      let s : State := { s with fw := { s.fw with cfg := (some x) } };
      let s : State := { s with opt := { s.opt with ms := (x.last + 60000) } };
      let s : State := { s with fw := { s.fw with img := (none) } };
      s.burinReaches = true ∧ s.fw.cfg = some x ∧ x.last + 60000 ≤ s.opt.ms ∧ s.fw.img = none) := by
  refine ⟨?_, ?_, ?_, ?_, ?_, ?_, ?_⟩ <;> decide +kernel

theorem test_meets_StencilStore :
    (let s : State := base;
      let s : State := s.put SYS_PROT SYS_PROT_LOCK (0);
      let s : State := { s with sys := { s.sys with window := (none) } };
      s.burinReaches = true ∧ s.get SYS_PROT SYS_PROT_LOCK = 0 ∧ s.sys.window = none) ∧
    (let s : State := base;
      let v : Word := 0;
      let u : Nat := s.opt.ms + 10;
      let s : State := s.put SYS_PROT SYS_PROT_LOCK (0);
      let s : State := { s with sys := { s.sys with window := (some ⟨s.actSrc, 12, u⟩) } };
      s.burinReaches = true ∧ s.get SYS_PROT SYS_PROT_LOCK = 0 ∧ s.sys.window = some ⟨s.actSrc, 12, u⟩ ∧ s.opt.ms < u ∧
        (∀ h : Fin 4, s.thState h = thIdle) ∧ stepOk v = true) ∧
    (let s : State := base;
      let v : Word := 0xF0000000;
      let u : Nat := s.opt.ms + 10;
      let s : State := s.put SYS_PROT SYS_PROT_LOCK (0);
      let s : State := { s with sys := { s.sys with window := (some ⟨s.actSrc, 12, u⟩) } };
      s.burinReaches = true ∧ s.get SYS_PROT SYS_PROT_LOCK = 0 ∧ s.sys.window = some ⟨s.actSrc, 12, u⟩ ∧ s.opt.ms < u ∧
        ((∃ h : Fin 4, s.thState h ≠ thIdle) ∨ stepOk v = false)) := by
  refine ⟨?_, ?_, ?_⟩ <;> decide +kernel

theorem test_meets_FrameTick :
    (let s : State := base;
      let s : State := { s with clk := { s.clk with cfgCopy := (none) } };
      let s : State := { s with fw := { s.fw with acts := ([]) } };
      let s : State := { s with flt := { s.flt with fenced := ([]) } };
      s.inRun = true ∧ s.clk.cfgCopy = none ∧ s.fw.acts = [] ∧ s.flt.fenced = []) ∧
    (let s : State := base;
      let s : State := { s with power := .standby };
      s.inRun = false) := by
  refine ⟨?_, ?_⟩ <;> decide +kernel

theorem test_meets_HostQueries_1 :
    (let s : State := base;
      let k : Fin 96 := 95;
      let c : HostCmd := ⟨.e, 95, 4, []⟩;
      let q := (([ (Instr.identify c, 0x00, [(0x6416 : Word), s.live BOOT_STAT, BitVec.ofNat 32 s.proc.fwVersion, BitVec.ofNat 32 Config.deviceId, BitVec.ofNat 32 (Config.deviceId / 2 ^ 32), s.live PWR_CYCLES]), (.status c, 0x01, [PWR_STATE, FLT_STAT, TH_STAT, PATH_STAT, CHG_STAT, SEQ_STAT, GG_SOC, RTC_STAT].map s.live), (.threadStatus c, 0x33, [SEQ_STAT, SEQ_THR_STAT 0, SEQ_THR_STAT 1, SEQ_THR_STAT 2, SEQ_THR_STAT 3].map s.live), (.chargeStatus c, 0x39, [CHG_STAT, CHG_TIME, CHG_IIN, PATH_STAT, PATH_V, GG_I].map s.live), (.gaugeRead c, 0x40, [GG_SOC, GG_FCC, GG_HEALTH, GG_TIME, GG_EFLAGS, GG_STAT, GG_Q, GG_VPACK, GG_REST_AGE].map s.live), (.gaugeCells c, 0x42, ((List.range 8).map GG_CELL ++ [GG_CELL_EXT, GG_CELL_STAT]).map s.live), (.plateInfo c, 0x48, ([PLATE_STAT, PLATE_SEQ, PLATE_WPTR, PLATE_CHAIN] ++ (List.range 5).map PLATE_SEVCNT ++ (List.range 5).map PLATE_DROP).map s.live), (.certRead c, 0x62, wordsLE 34 (memRead s.mram.cells certPlace 136))])[0]);
      let s : State := { s with tags := s.tags.set k ⟨.queued, c.port, 1, 100050, 0⟩, fw := { s.fw with taken := [(c.port, cmdPacket q.2.1 c)] } };
      s.permitted portsABCE c.port = true ∧ c.payload = [] ∧ s.Front q.2.1 c k) ∧
    (let s : State := base;
      let k : Fin 96 := 95;
      let c : HostCmd := ⟨.e, 95, 4, []⟩;
      let q := (([ (Instr.identify c, 0x00, [(0x6416 : Word), s.live BOOT_STAT, BitVec.ofNat 32 s.proc.fwVersion, BitVec.ofNat 32 Config.deviceId, BitVec.ofNat 32 (Config.deviceId / 2 ^ 32), s.live PWR_CYCLES]), (.status c, 0x01, [PWR_STATE, FLT_STAT, TH_STAT, PATH_STAT, CHG_STAT, SEQ_STAT, GG_SOC, RTC_STAT].map s.live), (.threadStatus c, 0x33, [SEQ_STAT, SEQ_THR_STAT 0, SEQ_THR_STAT 1, SEQ_THR_STAT 2, SEQ_THR_STAT 3].map s.live), (.chargeStatus c, 0x39, [CHG_STAT, CHG_TIME, CHG_IIN, PATH_STAT, PATH_V, GG_I].map s.live), (.gaugeRead c, 0x40, [GG_SOC, GG_FCC, GG_HEALTH, GG_TIME, GG_EFLAGS, GG_STAT, GG_Q, GG_VPACK, GG_REST_AGE].map s.live), (.gaugeCells c, 0x42, ((List.range 8).map GG_CELL ++ [GG_CELL_EXT, GG_CELL_STAT]).map s.live), (.plateInfo c, 0x48, ([PLATE_STAT, PLATE_SEQ, PLATE_WPTR, PLATE_CHAIN] ++ (List.range 5).map PLATE_SEVCNT ++ (List.range 5).map PLATE_DROP).map s.live), (.certRead c, 0x62, wordsLE 34 (memRead s.mram.cells certPlace 136))])[1]);
      let s : State := { s with tags := s.tags.set k ⟨.queued, c.port, 1, 100050, 0⟩, fw := { s.fw with taken := [(c.port, cmdPacket q.2.1 c)] } };
      s.permitted portsABCE c.port = true ∧ c.payload = [] ∧ s.Front q.2.1 c k) ∧
    (let s : State := base;
      let k : Fin 96 := 95;
      let c : HostCmd := ⟨.e, 95, 4, []⟩;
      let q := (([ (Instr.identify c, 0x00, [(0x6416 : Word), s.live BOOT_STAT, BitVec.ofNat 32 s.proc.fwVersion, BitVec.ofNat 32 Config.deviceId, BitVec.ofNat 32 (Config.deviceId / 2 ^ 32), s.live PWR_CYCLES]), (.status c, 0x01, [PWR_STATE, FLT_STAT, TH_STAT, PATH_STAT, CHG_STAT, SEQ_STAT, GG_SOC, RTC_STAT].map s.live), (.threadStatus c, 0x33, [SEQ_STAT, SEQ_THR_STAT 0, SEQ_THR_STAT 1, SEQ_THR_STAT 2, SEQ_THR_STAT 3].map s.live), (.chargeStatus c, 0x39, [CHG_STAT, CHG_TIME, CHG_IIN, PATH_STAT, PATH_V, GG_I].map s.live), (.gaugeRead c, 0x40, [GG_SOC, GG_FCC, GG_HEALTH, GG_TIME, GG_EFLAGS, GG_STAT, GG_Q, GG_VPACK, GG_REST_AGE].map s.live), (.gaugeCells c, 0x42, ((List.range 8).map GG_CELL ++ [GG_CELL_EXT, GG_CELL_STAT]).map s.live), (.plateInfo c, 0x48, ([PLATE_STAT, PLATE_SEQ, PLATE_WPTR, PLATE_CHAIN] ++ (List.range 5).map PLATE_SEVCNT ++ (List.range 5).map PLATE_DROP).map s.live), (.certRead c, 0x62, wordsLE 34 (memRead s.mram.cells certPlace 136))])[2]);
      let s : State := { s with tags := s.tags.set k ⟨.queued, c.port, 1, 100050, 0⟩, fw := { s.fw with taken := [(c.port, cmdPacket q.2.1 c)] } };
      s.permitted portsABCE c.port = true ∧ c.payload = [] ∧ s.Front q.2.1 c k) ∧
    (let s : State := base;
      let k : Fin 96 := 95;
      let c : HostCmd := ⟨.e, 95, 4, []⟩;
      let q := (([ (Instr.identify c, 0x00, [(0x6416 : Word), s.live BOOT_STAT, BitVec.ofNat 32 s.proc.fwVersion, BitVec.ofNat 32 Config.deviceId, BitVec.ofNat 32 (Config.deviceId / 2 ^ 32), s.live PWR_CYCLES]), (.status c, 0x01, [PWR_STATE, FLT_STAT, TH_STAT, PATH_STAT, CHG_STAT, SEQ_STAT, GG_SOC, RTC_STAT].map s.live), (.threadStatus c, 0x33, [SEQ_STAT, SEQ_THR_STAT 0, SEQ_THR_STAT 1, SEQ_THR_STAT 2, SEQ_THR_STAT 3].map s.live), (.chargeStatus c, 0x39, [CHG_STAT, CHG_TIME, CHG_IIN, PATH_STAT, PATH_V, GG_I].map s.live), (.gaugeRead c, 0x40, [GG_SOC, GG_FCC, GG_HEALTH, GG_TIME, GG_EFLAGS, GG_STAT, GG_Q, GG_VPACK, GG_REST_AGE].map s.live), (.gaugeCells c, 0x42, ((List.range 8).map GG_CELL ++ [GG_CELL_EXT, GG_CELL_STAT]).map s.live), (.plateInfo c, 0x48, ([PLATE_STAT, PLATE_SEQ, PLATE_WPTR, PLATE_CHAIN] ++ (List.range 5).map PLATE_SEVCNT ++ (List.range 5).map PLATE_DROP).map s.live), (.certRead c, 0x62, wordsLE 34 (memRead s.mram.cells certPlace 136))])[3]);
      let s : State := { s with tags := s.tags.set k ⟨.queued, c.port, 1, 100050, 0⟩, fw := { s.fw with taken := [(c.port, cmdPacket q.2.1 c)] } };
      s.permitted portsABCE c.port = true ∧ c.payload = [] ∧ s.Front q.2.1 c k) ∧
    (let s : State := base;
      let k : Fin 96 := 95;
      let c : HostCmd := ⟨.e, 95, 4, []⟩;
      let q := (([ (Instr.identify c, 0x00, [(0x6416 : Word), s.live BOOT_STAT, BitVec.ofNat 32 s.proc.fwVersion, BitVec.ofNat 32 Config.deviceId, BitVec.ofNat 32 (Config.deviceId / 2 ^ 32), s.live PWR_CYCLES]), (.status c, 0x01, [PWR_STATE, FLT_STAT, TH_STAT, PATH_STAT, CHG_STAT, SEQ_STAT, GG_SOC, RTC_STAT].map s.live), (.threadStatus c, 0x33, [SEQ_STAT, SEQ_THR_STAT 0, SEQ_THR_STAT 1, SEQ_THR_STAT 2, SEQ_THR_STAT 3].map s.live), (.chargeStatus c, 0x39, [CHG_STAT, CHG_TIME, CHG_IIN, PATH_STAT, PATH_V, GG_I].map s.live), (.gaugeRead c, 0x40, [GG_SOC, GG_FCC, GG_HEALTH, GG_TIME, GG_EFLAGS, GG_STAT, GG_Q, GG_VPACK, GG_REST_AGE].map s.live), (.gaugeCells c, 0x42, ((List.range 8).map GG_CELL ++ [GG_CELL_EXT, GG_CELL_STAT]).map s.live), (.plateInfo c, 0x48, ([PLATE_STAT, PLATE_SEQ, PLATE_WPTR, PLATE_CHAIN] ++ (List.range 5).map PLATE_SEVCNT ++ (List.range 5).map PLATE_DROP).map s.live), (.certRead c, 0x62, wordsLE 34 (memRead s.mram.cells certPlace 136))])[4]);
      let s : State := { s with tags := s.tags.set k ⟨.queued, c.port, 1, 100050, 0⟩, fw := { s.fw with taken := [(c.port, cmdPacket q.2.1 c)] } };
      s.permitted portsABCE c.port = true ∧ c.payload = [] ∧ s.Front q.2.1 c k) ∧
    (let s : State := base;
      let k : Fin 96 := 95;
      let c : HostCmd := ⟨.e, 95, 4, []⟩;
      let q := (([ (Instr.identify c, 0x00, [(0x6416 : Word), s.live BOOT_STAT, BitVec.ofNat 32 s.proc.fwVersion, BitVec.ofNat 32 Config.deviceId, BitVec.ofNat 32 (Config.deviceId / 2 ^ 32), s.live PWR_CYCLES]), (.status c, 0x01, [PWR_STATE, FLT_STAT, TH_STAT, PATH_STAT, CHG_STAT, SEQ_STAT, GG_SOC, RTC_STAT].map s.live), (.threadStatus c, 0x33, [SEQ_STAT, SEQ_THR_STAT 0, SEQ_THR_STAT 1, SEQ_THR_STAT 2, SEQ_THR_STAT 3].map s.live), (.chargeStatus c, 0x39, [CHG_STAT, CHG_TIME, CHG_IIN, PATH_STAT, PATH_V, GG_I].map s.live), (.gaugeRead c, 0x40, [GG_SOC, GG_FCC, GG_HEALTH, GG_TIME, GG_EFLAGS, GG_STAT, GG_Q, GG_VPACK, GG_REST_AGE].map s.live), (.gaugeCells c, 0x42, ((List.range 8).map GG_CELL ++ [GG_CELL_EXT, GG_CELL_STAT]).map s.live), (.plateInfo c, 0x48, ([PLATE_STAT, PLATE_SEQ, PLATE_WPTR, PLATE_CHAIN] ++ (List.range 5).map PLATE_SEVCNT ++ (List.range 5).map PLATE_DROP).map s.live), (.certRead c, 0x62, wordsLE 34 (memRead s.mram.cells certPlace 136))])[5]);
      let s : State := { s with tags := s.tags.set k ⟨.queued, c.port, 1, 100050, 0⟩, fw := { s.fw with taken := [(c.port, cmdPacket q.2.1 c)] } };
      s.permitted portsABCE c.port = true ∧ c.payload = [] ∧ s.Front q.2.1 c k) ∧
    (let s : State := base;
      let k : Fin 96 := 95;
      let c : HostCmd := ⟨.e, 95, 4, []⟩;
      let q := (([ (Instr.identify c, 0x00, [(0x6416 : Word), s.live BOOT_STAT, BitVec.ofNat 32 s.proc.fwVersion, BitVec.ofNat 32 Config.deviceId, BitVec.ofNat 32 (Config.deviceId / 2 ^ 32), s.live PWR_CYCLES]), (.status c, 0x01, [PWR_STATE, FLT_STAT, TH_STAT, PATH_STAT, CHG_STAT, SEQ_STAT, GG_SOC, RTC_STAT].map s.live), (.threadStatus c, 0x33, [SEQ_STAT, SEQ_THR_STAT 0, SEQ_THR_STAT 1, SEQ_THR_STAT 2, SEQ_THR_STAT 3].map s.live), (.chargeStatus c, 0x39, [CHG_STAT, CHG_TIME, CHG_IIN, PATH_STAT, PATH_V, GG_I].map s.live), (.gaugeRead c, 0x40, [GG_SOC, GG_FCC, GG_HEALTH, GG_TIME, GG_EFLAGS, GG_STAT, GG_Q, GG_VPACK, GG_REST_AGE].map s.live), (.gaugeCells c, 0x42, ((List.range 8).map GG_CELL ++ [GG_CELL_EXT, GG_CELL_STAT]).map s.live), (.plateInfo c, 0x48, ([PLATE_STAT, PLATE_SEQ, PLATE_WPTR, PLATE_CHAIN] ++ (List.range 5).map PLATE_SEVCNT ++ (List.range 5).map PLATE_DROP).map s.live), (.certRead c, 0x62, wordsLE 34 (memRead s.mram.cells certPlace 136))])[6]);
      let s : State := { s with tags := s.tags.set k ⟨.queued, c.port, 1, 100050, 0⟩, fw := { s.fw with taken := [(c.port, cmdPacket q.2.1 c)] } };
      s.permitted portsABCE c.port = true ∧ c.payload = [] ∧ s.Front q.2.1 c k) ∧
    (let s : State := base;
      let k : Fin 96 := 95;
      let c : HostCmd := ⟨.e, 95, 4, []⟩;
      let q := (([ (Instr.identify c, 0x00, [(0x6416 : Word), s.live BOOT_STAT, BitVec.ofNat 32 s.proc.fwVersion, BitVec.ofNat 32 Config.deviceId, BitVec.ofNat 32 (Config.deviceId / 2 ^ 32), s.live PWR_CYCLES]), (.status c, 0x01, [PWR_STATE, FLT_STAT, TH_STAT, PATH_STAT, CHG_STAT, SEQ_STAT, GG_SOC, RTC_STAT].map s.live), (.threadStatus c, 0x33, [SEQ_STAT, SEQ_THR_STAT 0, SEQ_THR_STAT 1, SEQ_THR_STAT 2, SEQ_THR_STAT 3].map s.live), (.chargeStatus c, 0x39, [CHG_STAT, CHG_TIME, CHG_IIN, PATH_STAT, PATH_V, GG_I].map s.live), (.gaugeRead c, 0x40, [GG_SOC, GG_FCC, GG_HEALTH, GG_TIME, GG_EFLAGS, GG_STAT, GG_Q, GG_VPACK, GG_REST_AGE].map s.live), (.gaugeCells c, 0x42, ((List.range 8).map GG_CELL ++ [GG_CELL_EXT, GG_CELL_STAT]).map s.live), (.plateInfo c, 0x48, ([PLATE_STAT, PLATE_SEQ, PLATE_WPTR, PLATE_CHAIN] ++ (List.range 5).map PLATE_SEVCNT ++ (List.range 5).map PLATE_DROP).map s.live), (.certRead c, 0x62, wordsLE 34 (memRead s.mram.cells certPlace 136))])[7]);
      let s : State := { s with tags := s.tags.set k ⟨.queued, c.port, 1, 100050, 0⟩, fw := { s.fw with taken := [(c.port, cmdPacket q.2.1 c)] } };
      s.permitted portsABCE c.port = true ∧ c.payload = [] ∧ s.Front q.2.1 c k) ∧
    (let s : State := base;
      let k : Fin 96 := 95;
      let c : HostCmd := ⟨.a, 95, 1, [7]⟩;
      let s : State := { s with tags := s.tags.set k ⟨.queued, c.port, 1, 100050, 0⟩, fw := { s.fw with taken := [(c.port, cmdPacket 0x00 c)] } };
      s.permitted portsABCE c.port = true ∧ c.payload ≠ [] ∧ s.Front 0x00 c k) ∧
    (let s : State := base;
      let k : Fin 96 := 95;
      let c : HostCmd := ⟨.c, 95, 1, []⟩;
      let s : State := { s with tags := s.tags.set k ⟨.queued, c.port, 1, 100050, 0⟩, fw := { s.fw with taken := [(c.port, cmdPacket 0x50 c)] } };
      s.permitted portsABCE c.port = true ∧ c.payload = [] ∧ s.Front 0x50 c k) ∧
    (let s : State := base;
      let k : Fin 96 := 95;
      let w : Word := 0x36CA;
      let c : HostCmd := ⟨.c, 95, 1, [w]⟩;
      let s : State := { s with tags := s.tags.set k ⟨.queued, c.port, 1, 100050, 0⟩, fw := { s.fw with taken := [(c.port, cmdPacket 0x12 c)] } };
      s.permitted portsABCE c.port = true ∧ c.payload = [w] ∧ w &&& ~~~0xFFFF = 0 ∧ 1 ≤ getF w ⟨8, 8⟩ ∧ getF w ⟨8, 8⟩ ≤ 54 ∧
        getF w ⟨0, 8⟩ + getF w ⟨8, 8⟩ ≤ 256 ∧ s.Front 0x12 c k) ∧
    (let s : State := base;
      let k : Fin 96 := 95;
      let w : Word := 0xFFFF;
      let c : HostCmd := ⟨.c, 95, 1, [w]⟩;
      let s : State := { s with tags := s.tags.set k ⟨.queued, c.port, 1, 100050, 0⟩, fw := { s.fw with taken := [(c.port, cmdPacket 0x12 c)] } };
      s.permitted portsABCE c.port = true ∧ c.payload = [w] ∧ 256 < getF w ⟨0, 8⟩ + getF w ⟨8, 8⟩ ∧ s.Front 0x12 c k) := by
  refine ⟨?_, ?_, ?_, ?_, ?_, ?_, ?_, ?_, ?_, ?_, ?_, ?_⟩ <;> (try unfold State.Front) <;> decide +kernel

theorem test_meets_HostQueries_2 :
    (let s : State := base;
      let k : Fin 96 := 95;
      let m : Fin 4 := 3;
      let w : Word := BitVec.ofNat _ (m.val);
      let c : HostCmd := ⟨.c, 95, 1, [w]⟩;
      let s : State := { s with tags := s.tags.set k ⟨.queued, c.port, 1, 100050, 0⟩, fw := { s.fw with taken := [(c.port, cmdPacket 0x23 c)] } };
      s.permitted portsABCE c.port = true ∧ c.payload = [w] ∧ w.toNat = m.val ∧ s.Front 0x23 c k) ∧
    (let s : State := base;
      let k : Fin 96 := 95;
      let r : Fin 14 := 13;
      let w : Word := BitVec.ofNat _ (0x10 + r.val);
      let c : HostCmd := ⟨.c, 95, 1, [w]⟩;
      let s : State := { s with tags := s.tags.set k ⟨.queued, c.port, 1, 100050, 0⟩, fw := { s.fw with taken := [(c.port, cmdPacket 0x23 c)] } };
      s.permitted portsABCE c.port = true ∧ c.payload = [w] ∧ w.toNat = 0x10 + r.val ∧ s.Front 0x23 c k) ∧
    (let s : State := base;
      let k : Fin 96 := 95;
      let w : Word := 0x1F;
      let c : HostCmd := ⟨.c, 95, 1, [w]⟩;
      let s : State := { s with tags := s.tags.set k ⟨.queued, c.port, 1, 100050, 0⟩, fw := { s.fw with taken := [(c.port, cmdPacket 0x23 c)] } };
      s.permitted portsABCE c.port = true ∧ c.payload = [w] ∧ w &&& ~~~0xFF = 0 ∧ railOf w.toNat = none ∧ s.Front 0x23 c k) ∧
    (let s : State := base;
      let k : Fin 96 := 95;
      let n : Fin 983040 := 983039;
      let w : Word := BitVec.ofNat _ (2 ^ 24 + n.val);
      let c : HostCmd := ⟨.c, 95, 1, [w]⟩;
      let s : State := { s with tags := s.tags.set k ⟨.queued, c.port, 1, 100050, 0⟩, fw := { s.fw with taken := [(c.port, cmdPacket 0x49 c)] } };
      s.permitted portsABCE c.port = true ∧ c.payload = [w] ∧ w.toNat = 2 ^ 24 + n.val ∧ s.Front 0x49 c k) ∧
    (let s : State := base;
      let k : Fin 96 := 95;
      let w : Word := 0x0100000F;
      let n : Fin 983040 := 15;
      let c : HostCmd := ⟨.c, 95, 1, [w]⟩;
      let s : State := { s with tags := s.tags.set k ⟨.queued, c.port, 1, 100050, 0⟩, fw := { s.fw with taken := [(c.port, cmdPacket 0x49 c)] } };
      let s : State := { s with mram := { s.mram with cells := memWrite [] (plateBase + 64*15) (List.replicate 64 0x5A) } };
      s.permitted portsABCE c.port = true ∧ c.payload = [w] ∧ w.toNat = 2 ^ 24 + n.val ∧ s.Front 0x49 c k) ∧
    (let s : State := base;
      let k : Fin 96 := 95;
      let w : Word := 0x11223344;
      let c : HostCmd := ⟨.c, 95, 1, [w]⟩;
      let s : State := s.put PRF_STAT PRF_STAT_BUSY (0);
      let s : State := { s with tags := s.tags.set k ⟨.queued, c.port, 1, 100050, 0⟩, fw := { s.fw with taken := [(c.port, cmdPacket 0x61 c)] } };
      let s : State := s.wr (PRF_BODY 13) 0x11223344;
      s.permitted portsABCE c.port = true ∧ c.payload = [w] ∧ s.rd (PRF_BODY 13) = w ∧ s.get PRF_STAT PRF_STAT_BUSY = 0 ∧
        s.Front 0x61 c k) ∧
    (let s : State := base;
      let k : Fin 96 := 95;
      let w : Word := 1;
      let c : HostCmd := ⟨.c, 95, 1, [w]⟩;
      let s : State := { s with tags := s.tags.set k ⟨.queued, c.port, 1, 100050, 0⟩, fw := { s.fw with taken := [(c.port, cmdPacket 0x61 c)] } };
      s.permitted portsABCE c.port = true ∧ c.payload = [w] ∧ s.rd (PRF_BODY 13) ≠ w ∧ s.Front 0x61 c k) ∧
    (let s : State := base;
      let k : Fin 96 := 95;
      let w : Word := 0x63FFFFFC;
      let c : HostCmd := ⟨.c, 95, 1, [w]⟩;
      let s : State := { s with tags := s.tags.set k ⟨.queued, c.port, 1, 100050, 0⟩, fw := { s.fw with taken := [(c.port, cmdPacket 0x78 c)] } };
      s.permitted portsABCE c.port = true ∧ c.payload = [w] ∧ 0x60000000 ≤ w.toNat ∧ w.toNat < 0x64000000 ∧ s.Front 0x78 c k) ∧
    (let s : State := base;
      let k : Fin 96 := 95;
      let w : Word := 0x600F0000;
      let c : HostCmd := ⟨.c, 95, 1, [w]⟩;
      let s : State := { s with tags := s.tags.set k ⟨.queued, c.port, 1, 100050, 0⟩, fw := { s.fw with taken := [(c.port, cmdPacket 0x78 c)] } };
      s.permitted portsABCE c.port = true ∧ c.payload = [w] ∧ 0x60000000 ≤ w.toNat ∧ w.toNat < 0x64000000 ∧ s.Front 0x78 c k) ∧
    (let s : State := base;
      let k : Fin 96 := 95;
      let w : Word := 0;
      let c : HostCmd := ⟨.c, 95, 1, [w]⟩;
      let s : State := { s with tags := s.tags.set k ⟨.queued, c.port, 1, 100050, 0⟩, fw := { s.fw with taken := [(c.port, cmdPacket 0x78 c)] } };
      s.permitted portsABCE c.port = true ∧ c.payload = [w] ∧ blockOf w.toNat = none ∧ (w.toNat < 0x60000000 ∨ 0x64000000 ≤ w.toNat) ∧
        s.Front 0x78 c k) ∧
    (let s : State := base;
      let k : Fin 96 := 95;
      let c : HostCmd := ⟨.c, 95, 1, []⟩;
      let s : State := { s with tags := s.tags.set k ⟨.queued, c.port, 1, 100050, 0⟩, fw := { s.fw with taken := [(c.port, cmdPacket 0x6B c)] } };
      s.permitted portsABC c.port = true ∧ c.payload = [] ∧ s.Front 0x6B c k) := by
  refine ⟨?_, ?_, ?_, ?_, ?_, ?_, ?_, ?_, ?_, ?_, ?_⟩ <;> (try unfold State.Front) <;> decide +kernel

theorem test_meets_HostRails_1 :
    (let s : State := base;
      let k : Fin 96 := 95;
      let r : Fin 14 := 13;
      let w : Word := BitVec.ofNat _ (0x10 + r.val);
      let c : HostCmd := ⟨.c, 95, 1, [w]⟩;
      let s : State := { s with flt := { s.flt with fenced := ([]) } };
      let s : State := s.put (REG_CTL r) REG_CTL_EN (0);
      let s : State := { s with tags := s.tags.set k ⟨.queued, c.port, 1, 100050, 0⟩, fw := { s.fw with taken := [(c.port, cmdPacket 0x20 c)] } };
      c.payload = [w] ∧ s.permitted portsABC c.port = true ∧ s.shuttingDown = false ∧ s.flt.fenced = [] ∧ w.toNat = 0x10 + r.val ∧
        s.get (REG_CTL r) REG_CTL_EN = 0 ∧ s.Front 0x20 c k) ∧
    (let s : State := base;
      let k : Fin 96 := 95;
      let m : Fin 4 := 3;
      let w : Word := BitVec.ofNat _ (m.val);
      let c : HostCmd := ⟨.c, 95, 1, [w]⟩;
      let s : State := { s with flt := { s.flt with fenced := ([]) } };
      let s : State := s.put (LOOP_CTL m) LOOP_CTL_EN (1);
      let s : State := { s with tags := s.tags.set k ⟨.queued, c.port, 1, 100050, 0⟩, fw := { s.fw with taken := [(c.port, cmdPacket 0x21 c)] } };
      c.payload = [w] ∧ s.permitted portsABC c.port = true ∧ s.shuttingDown = false ∧ s.flt.fenced = [] ∧ w.toNat = m.val ∧
        s.get (LOOP_CTL m) LOOP_CTL_EN = 1 ∧ s.Front 0x21 c k) ∧
    (let s : State := base;
      let k : Fin 96 := 95;
      let m : Fin 4 := 3;
      let code : Nat := 4095;
      let w : Word := BitVec.ofNat _ (code * 2 ^ 16 + m.val);
      let c : HostCmd := ⟨.c, 95, 1, [w]⟩;
      let s : State := { s with flt := { s.flt with fenced := ([]) } };
      let s : State := s.put (LOOP_VLIM m) LOOP_VLIM_VMAX (code);
      let s : State := { s with tags := s.tags.set k ⟨.queued, c.port, 1, 100050, 0⟩, fw := { s.fw with taken := [(c.port, cmdPacket 0x22 c)] } };
      let s : State := s.put (LOOP_VLIM m) LOOP_VLIM_VMAX 4095;
      c.payload = [w] ∧ s.permitted portsABC c.port = true ∧ s.shuttingDown = false ∧ s.flt.fenced = [] ∧ w.toNat = code * 2 ^ 16 + m.val ∧
        code < 4096 ∧ s.get (LOOP_VLIM m) LOOP_VLIM_VMIN ≤ code ∧ code ≤ s.get (LOOP_VLIM m) LOOP_VLIM_VMAX ∧ s.Front 0x22 c k) ∧
    (let s : State := base;
      let k : Fin 96 := 95;
      let r : Fin 14 := 9;
      let code : Nat := 250;
      let w : Word := BitVec.ofNat _ (code * 2 ^ 16 + 0x10 + r.val);
      let c : HostCmd := ⟨.c, 95, 1, [w]⟩;
      let s : State := { s with flt := { s.flt with fenced := ([]) } };
      let s : State := { s with tags := s.tags.set k ⟨.queued, c.port, 1, 100050, 0⟩, fw := { s.fw with taken := [(c.port, cmdPacket 0x22 c)] } };
      c.payload = [w] ∧ s.permitted portsABC c.port = true ∧ s.shuttingDown = false ∧ s.flt.fenced = [] ∧
        w.toNat = code * 2 ^ 16 + 0x10 + r.val ∧ code < 4096 ∧ regKind r ≠ .sw ∧ code ≤ (regKind r).top ∧ s.Front 0x22 c k) ∧
    (let s : State := base;
      let k : Fin 96 := 95;
      let r : Fin 14 := 13;
      let w : Word := BitVec.ofNat _ (0x10 + r.val);
      let c : HostCmd := ⟨.c, 95, 1, [w]⟩;
      let q := (([(Instr.railEnable c, 0x20), (.railDisable c, 0x21)])[0]);
      let s : State := { s with tags := s.tags.set k ⟨.queued, c.port, 1, 100050, 0⟩, fw := { s.fw with taken := [(c.port, cmdPacket q.2 c)] } };
      let s : State := s.put (SEQ_THR_STAT thDown) SEQ_THR_STAT_STATE thWaiting;
      c.payload = [w] ∧ s.permitted portsABC c.port = true ∧ s.shuttingDown = true ∧ w.toNat = 0x10 + r.val ∧ s.Front q.2 c k) ∧
    (let s : State := base;
      let k : Fin 96 := 95;
      let r : Fin 14 := 13;
      let w : Word := BitVec.ofNat _ (0x10 + r.val);
      let c : HostCmd := ⟨.c, 95, 1, [w]⟩;
      let q := (([(Instr.railEnable c, 0x20), (.railDisable c, 0x21)])[1]);
      let s : State := { s with tags := s.tags.set k ⟨.queued, c.port, 1, 100050, 0⟩, fw := { s.fw with taken := [(c.port, cmdPacket q.2 c)] } };
      let s : State := s.put (SEQ_THR_STAT thDown) SEQ_THR_STAT_STATE thWaiting;
      c.payload = [w] ∧ s.permitted portsABC c.port = true ∧ s.shuttingDown = true ∧ w.toNat = 0x10 + r.val ∧ s.Front q.2 c k) ∧
    (let s : State := base;
      let k : Fin 96 := 95;
      let w : Word := 0xFF;
      let c : HostCmd := ⟨.c, 95, 1, [w]⟩;
      let q := (([(Instr.railEnable c, 0x20), (.railDisable c, 0x21), (.railSetV c, 0x22)])[0]);
      let s : State := { s with tags := s.tags.set k ⟨.queued, c.port, 1, 100050, 0⟩, fw := { s.fw with taken := [(c.port, cmdPacket q.2 c)] } };
      c.payload = [w] ∧ s.permitted portsABC c.port = true ∧ w &&& ~~~0xFF = 0 ∧ railOf w.toNat = none ∧ s.Front q.2 c k) ∧
    (let s : State := base;
      let k : Fin 96 := 95;
      let w : Word := 0xFF;
      let c : HostCmd := ⟨.c, 95, 1, [w]⟩;
      let q := (([(Instr.railEnable c, 0x20), (.railDisable c, 0x21), (.railSetV c, 0x22)])[1]);
      let s : State := { s with tags := s.tags.set k ⟨.queued, c.port, 1, 100050, 0⟩, fw := { s.fw with taken := [(c.port, cmdPacket q.2 c)] } };
      c.payload = [w] ∧ s.permitted portsABC c.port = true ∧ w &&& ~~~0xFF = 0 ∧ railOf w.toNat = none ∧ s.Front q.2 c k) ∧
    (let s : State := base;
      let k : Fin 96 := 95;
      let w : Word := 0xFF;
      let c : HostCmd := ⟨.c, 95, 1, [w]⟩;
      let q := (([(Instr.railEnable c, 0x20), (.railDisable c, 0x21), (.railSetV c, 0x22)])[2]);
      let s : State := { s with tags := s.tags.set k ⟨.queued, c.port, 1, 100050, 0⟩, fw := { s.fw with taken := [(c.port, cmdPacket q.2 c)] } };
      c.payload = [w] ∧ s.permitted portsABC c.port = true ∧ w &&& ~~~0xFF = 0 ∧ railOf w.toNat = none ∧ s.Front q.2 c k) ∧
    (let s : State := base;
      let k : Fin 96 := 95;
      let w : Word := 0;
      let c : HostCmd := ⟨.e, 95, 1, [w]⟩;
      let q := (([(Instr.railEnable c, 0x20), (.railDisable c, 0x21), (.railSetV c, 0x22)])[0]);
      let s : State := { s with tags := s.tags.set k ⟨.queued, c.port, 1, 100050, 0⟩, fw := { s.fw with taken := [(c.port, cmdPacket q.2 c)] } };
      c.payload = [w] ∧ s.permitted portsABC c.port = false ∧ s.Front q.2 c k) ∧
    (let s : State := base;
      let k : Fin 96 := 95;
      let w : Word := 0;
      let c : HostCmd := ⟨.e, 95, 1, [w]⟩;
      let q := (([(Instr.railEnable c, 0x20), (.railDisable c, 0x21), (.railSetV c, 0x22)])[1]);
      let s : State := { s with tags := s.tags.set k ⟨.queued, c.port, 1, 100050, 0⟩, fw := { s.fw with taken := [(c.port, cmdPacket q.2 c)] } };
      c.payload = [w] ∧ s.permitted portsABC c.port = false ∧ s.Front q.2 c k) ∧
    (let s : State := base;
      let k : Fin 96 := 95;
      let w : Word := 0;
      let c : HostCmd := ⟨.e, 95, 1, [w]⟩;
      let q := (([(Instr.railEnable c, 0x20), (.railDisable c, 0x21), (.railSetV c, 0x22)])[2]);
      let s : State := { s with tags := s.tags.set k ⟨.queued, c.port, 1, 100050, 0⟩, fw := { s.fw with taken := [(c.port, cmdPacket q.2 c)] } };
      c.payload = [w] ∧ s.permitted portsABC c.port = false ∧ s.Front q.2 c k) := by
  refine ⟨?_, ?_, ?_, ?_, ?_, ?_, ?_, ?_, ?_, ?_, ?_, ?_⟩ <;> (try unfold State.Front) <;> decide +kernel

theorem test_meets_HostRails_2 :
    (let s : State := base;
      let k : Fin 96 := 95;
      let n : Fin 16 := 15;
      let w : Word := BitVec.ofNat _ (n.val);
      let c : HostCmd := ⟨.c, 95, 1, [w]⟩;
      let s : State := { s with tags := s.tags.set k ⟨.queued, c.port, 1, 100050, 0⟩, fw := { s.fw with taken := [(c.port, cmdPacket 0x24 c)] } };
      c.payload = [w] ∧ s.permitted portsC c.port = true ∧ w.toNat = n.val ∧ s.Front 0x24 c k) := by
  (try unfold State.Front) <;> decide +kernel

theorem test_meets_HostService_1 :
    (let s : State := base;
      let k : Fin 96 := 95;
      let c : HostCmd := ⟨.c, 95, 1, [0x0000A55A]⟩;
      let s : State := { s with tags := s.tags.set k ⟨.queued, c.port, 1, 100050, 0⟩, fw := { s.fw with taken := [(c.port, cmdPacket 0x02 c)] } };
      s.permitted portsABC c.port = true ∧ c.payload = [0x0000A55A] ∧ s.Front 0x02 c k) ∧
    (let s : State := base;
      let k : Fin 96 := 95;
      let c : HostCmd := ⟨.c, 95, 1, []⟩;
      let s : State := { s with tags := s.tags.set k ⟨.queued, c.port, 1, 100050, 0⟩, fw := { s.fw with taken := [(c.port, cmdPacket 0x03 c)] } };
      s.permitted portsABC c.port = true ∧ c.payload = [] ∧ s.standbyReady = true ∧ s.Front 0x03 c k) ∧
    (let s : State := base;
      let k : Fin 96 := 95;
      let c : HostCmd := ⟨.c, 95, 1, []⟩;
      let s : State := { s with tags := s.tags.set k ⟨.queued, c.port, 1, 100050, 0⟩, fw := { s.fw with taken := [(c.port, cmdPacket 0x03 c)] } };
      let s : State := s.putB SEQ_STAT SEQ_STAT_WR_IGN true;
      let s : State := s.put CHG_STAT CHG_STAT_STATE chgCC;
      s.permitted portsABC c.port = true ∧ c.payload = [] ∧ s.standbyReady = false ∧ s.Front 0x03 c k) ∧
    (let s : State := base;
      let k : Fin 96 := 95;
      let n : Fin 256 := 255;
      let c : HostCmd := ⟨.c, 95, 1, (List.range 8).map (fun i => if i = n.val / 32 then 1#32 <<< (n.val % 32) else 0)⟩;
      let s : State := { s with tags := s.tags.set k ⟨.queued, c.port, 1, 100050, 0⟩, fw := { s.fw with taken := [(c.port, cmdPacket 0x13 c)] } };
      s.permitted portsABC c.port = true ∧ c.payload = (List.range 8).map (fun i => if i = n.val / 32 then 1#32 <<< (n.val % 32) else 0) ∧
        s.clearIgnored n = false ∧ s.Front 0x13 c k) ∧
    (let s : State := base;
      let k : Fin 96 := 95;
      let lo : Word := 0x78308C7F;
      let hi : Word := 0x00000001;
      let c : HostCmd := ⟨.c, 95, 1, [lo, hi]⟩;
      let s : State := { s with tags := s.tags.set k ⟨.queued, c.port, 1, 100050, 0⟩, fw := { s.fw with taken := [(c.port, cmdPacket 0x51 c)] } };
      s.permitted portsABC c.port = true ∧ c.payload = [lo, hi] ∧ hi &&& 0xFF000000 = 0 ∧ setSeconds c.payload ≤ 6311433599 ∧
        s.Front 0x51 c k) ∧
    (let s : State := base;
      let k : Fin 96 := 95;
      let a : Word := 0;
      let b : Word := 0;
      let c : HostCmd := ⟨.c, 95, 1, [a, b]⟩;
      let s : State := { s with tags := s.tags.set k ⟨.queued, c.port, 1, 100050, 0⟩, fw := { s.fw with taken := [(c.port, cmdPacket 0x32 c)] } };
      s.permitted portsABC c.port = true ∧ c.payload = [a, b] ∧ s.Front 0x32 c k) ∧
    (let s : State := base;
      let k : Fin 96 := 95;
      let w : Word := 0x01FFFFFF;
      let c : HostCmd := ⟨.c, 95, 1, [w]⟩;
      let s : State := { s with tags := s.tags.set k ⟨.queued, c.port, 1, 100050, 0⟩, fw := { s.fw with taken := [(c.port, cmdPacket 0x53 c)] } };
      s.permitted portsABC c.port = true ∧ c.payload = [w] ∧ w &&& ~~~0x01FFFFFF = 0 ∧ s.Front 0x53 c k) ∧
    (let s : State := base;
      let k : Fin 96 := 95;
      let w : Word := 0xFFFF;
      let c : HostCmd := ⟨.c, 95, 1, [w]⟩;
      let s : State := s.put PLATE_STAT PLATE_STAT_SNAP_BUSY (0);
      let s : State := { s with tags := s.tags.set k ⟨.queued, c.port, 1, 100050, 0⟩, fw := { s.fw with taken := [(c.port, cmdPacket 0x4A c)] } };
      s.permitted portsABC c.port = true ∧ c.payload = [w] ∧ w &&& ~~~0xFFFF = 0 ∧ s.get PLATE_STAT PLATE_STAT_SNAP_BUSY = 0 ∧
        s.Front 0x4A c k) ∧
    (let s : State := base;
      let k : Fin 96 := 95;
      let w : Word := 0xFFFF;
      let c : HostCmd := ⟨.c, 95, 1, [w]⟩;
      let s : State := s.put PLATE_STAT PLATE_STAT_SNAP_BUSY (1);
      let s : State := { s with tags := s.tags.set k ⟨.queued, c.port, 1, 100050, 0⟩, fw := { s.fw with taken := [(c.port, cmdPacket 0x4A c)] } };
      s.permitted portsABC c.port = true ∧ c.payload = [w] ∧ w &&& ~~~0xFFFF = 0 ∧ s.get PLATE_STAT PLATE_STAT_SNAP_BUSY = 1 ∧
        s.Front 0x4A c k) ∧
    (let s : State := base;
      let k : Fin 96 := 95;
      let w : Word := 5;
      let c : HostCmd := ⟨.c, 95, 1, [w]⟩;
      let s : State := { s with tags := s.tags.set k ⟨.queued, c.port, 1, 100050, 0⟩, fw := { s.fw with taken := [(c.port, cmdPacket 0x38 c)] } };
      let s : State := s.put CHG_STAT CHG_STAT_STATE chgCC;
      s.permitted portsABC c.port = true ∧ c.payload = [w] ∧ 1 ≤ w.toNat ∧ w.toNat ≤ 5 ∧
        (s.chgAccepts w.toNat = true ∨ s.chgForced w.toNat = true) ∧ s.Front 0x38 c k) ∧
    (let s : State := base;
      let k : Fin 96 := 95;
      let w : Word := 2;
      let c : HostCmd := ⟨.c, 95, 1, [w]⟩;
      let s : State := { s with tags := s.tags.set k ⟨.queued, c.port, 1, 100050, 0⟩, fw := { s.fw with taken := [(c.port, cmdPacket 0x38 c)] } };
      let s : State := s.put CHG_STAT CHG_STAT_STATE chgNoPack;
      s.permitted portsABC c.port = true ∧ c.payload = [w] ∧ 1 ≤ w.toNat ∧ w.toNat ≤ 5 ∧ s.chgAccepts w.toNat = false ∧
        s.chgForced w.toNat = false ∧ s.Front 0x38 c k) ∧
    (let s : State := base;
      let k : Fin 96 := 95;
      let h : Fin 4 := 3;
      let l : Fin 64 := 63;
      let w : Word := BitVec.ofNat _ (h.val + 2 ^ 8 * l.val + 2 ^ 15);
      let c : HostCmd := ⟨.c, 95, 1, [w]⟩;
      let s : State := { s with tags := s.tags.set k ⟨.queued, c.port, 1, 100050, 0⟩, fw := { s.fw with taken := [(c.port, cmdPacket 0x30 c)] } };
      s.permitted portsABC c.port = true ∧ c.payload = [w] ∧ w.toNat = h.val + 2 ^ 8 * l.val + 2 ^ 15 ∧ s.Front 0x30 c k) := by
  refine ⟨?_, ?_, ?_, ?_, ?_, ?_, ?_, ?_, ?_, ?_, ?_, ?_⟩ <;> (try unfold State.Front) <;> decide +kernel

theorem test_meets_HostService_2 :
    (let s : State := base;
      let k : Fin 96 := 95;
      let h : Fin 4 := 3;
      let w : Word := BitVec.ofNat _ (h.val);
      let c : HostCmd := ⟨.c, 95, 1, [w]⟩;
      let s : State := { s with tags := s.tags.set k ⟨.queued, c.port, 1, 100050, 0⟩, fw := { s.fw with taken := [(c.port, cmdPacket 0x31 c)] } };
      s.permitted portsABC c.port = true ∧ c.payload = [w] ∧ w.toNat = h.val ∧ s.Front 0x31 c k) ∧
    (let s : State := base;
      let k : Fin 96 := 95;
      let q : Fin 2 := 1;
      let n : Fin 50 := 49;
      let w : Word := BitVec.ofNat _ (q.val + 2 ^ 8 * n.val);
      let c : HostCmd := ⟨.c, 95, 1, [w]⟩;
      let s : State := { s with tags := s.tags.set k ⟨.queued, c.port, 1, 100050, 0⟩, fw := { s.fw with taken := [(c.port, cmdPacket 0x11 c)] } };
      let s : State := s.put (ADC_URG q 0) ADC_URG_PEND 1;
      let s : State := s.put (ADC_URG q 1) ADC_URG_PEND 1;
      let s : State := s.put (ADC_URG q 2) ADC_URG_PEND 1;
      let s : State := s.put (ADC_URG q 3) ADC_URG_PEND 1;
      let s : State := s.put (ADC_URG q 4) ADC_URG_PEND 1;
      let s : State := s.put (ADC_URG q 5) ADC_URG_PEND 1;
      let s : State := s.put (ADC_URG q 6) ADC_URG_PEND 1;
      let s : State := s.put (ADC_URG q 7) ADC_URG_PEND 1;
      s.permitted portsABC c.port = true ∧ c.payload = [w] ∧ w.toNat = q.val + 2 ^ 8 * n.val ∧ s.urgentFree q = none ∧ s.Front 0x11 c k) ∧
    (let s : State := base;
      let k : Fin 96 := 95;
      let w : Word := 0x3101;
      let q : Fin 2 := 1;
      let n : Fin 50 := 49;
      let j : Fin 8 := 0;
      let c : HostCmd := ⟨.c, 95, 1, [w]⟩;
      let s : State := { s with tags := s.tags.set k ⟨.queued, c.port, 1, 100050, 0⟩, fw := { s.fw with taken := [(c.port, cmdPacket 0x11 c)] } };
      s.permitted portsABC c.port = true ∧ c.payload = [w] ∧ w.toNat = q.val + 2 ^ 8 * n.val ∧ s.urgentFree q = some j ∧
        (s.adcRuns = false ∨ s.seqServed q = false) ∧ s.Front 0x11 c k) ∧
    (let s : State := base;
      let k : Fin 96 := 95;
      let w : Word := 0x3101;
      let q : Fin 2 := 1;
      let n : Fin 50 := 49;
      let j : Fin 8 := 0;
      let c : HostCmd := ⟨.c, 95, 1, [w]⟩;
      let s : State := { s with tags := s.tags.set k ⟨.queued, c.port, 1, 100050, 0⟩, fw := { s.fw with taken := [(c.port, cmdPacket 0x11 c)] } };
      let s : State := s.putB ADC_STAT ADC_STAT_REF_READY true;
      s.permitted portsABC c.port = true ∧ c.payload = [w] ∧ w.toNat = q.val + 2 ^ 8 * n.val ∧ s.urgentFree q = some j ∧ s.adcRuns = true ∧
        s.seqServed q = true ∧ s.adc.seqs[q].urgent < 8 ∧ s.Front 0x11 c k) ∧
    (let s : State := base;
      let k : Fin 96 := 95;
      let c : HostCmd := ⟨.c, 95, 1, []⟩;
      let s : State := { s with tags := s.tags.set k ⟨.queued, c.port, 1, 100050, 0⟩, fw := { s.fw with taken := [(c.port, cmdPacket 0x52 c)] } };
      s.permitted portsC c.port = true ∧ c.payload = [] ∧ s.Front 0x52 c k) ∧
    (let s : State := base;
      let k : Fin 96 := 95;
      let w : Word := 0;
      let c : HostCmd := ⟨.c, 95, 1, [w]⟩;
      let s : State := { s with tags := s.tags.set k ⟨.queued, c.port, 1, 100050, 0⟩, fw := { s.fw with taken := [(c.port, cmdPacket 0x41 c)] } };
      s.permitted portsC c.port = true ∧ c.payload = [w] ∧ w.toNat ≤ 1 ∧ s.Front 0x41 c k) ∧
    (let s : State := base;
      let k : Fin 96 := 95;
      let f : Fin 4 := 1;
      let v : Fin 1024 := 1000;
      let w : Word := BitVec.ofNat _ (v.val + 2 ^ 16 * f.val + 2 ^ 24 * 0xF5);
      let c : HostCmd := ⟨.c, 95, 1, [w]⟩;
      let s : State := { s with tags := s.tags.set k ⟨.queued, c.port, 1, 100050, 0⟩, fw := { s.fw with taken := [(c.port, cmdPacket 0x04 c)] } };
      s.permitted portsC c.port = true ∧ c.payload = [w] ∧ w.toNat = v.val + 2 ^ 16 * f.val + 2 ^ 24 * 0xF5 ∧ s.Front 0x04 c k ∧
        s.fuse.fits v f = true ∧ s.fuse.field f = none) ∧
    (let s : State := base;
      let k : Fin 96 := 95;
      let f : Fin 4 := 3;
      let v : Fin 1024 := 255;
      let w : Word := BitVec.ofNat _ (v.val + 2 ^ 16 * f.val + 2 ^ 24 * 0xF5);
      let c : HostCmd := ⟨.c, 95, 1, [w]⟩;
      let s : State := { s with tags := s.tags.set k ⟨.queued, c.port, 1, 100050, 0⟩, fw := { s.fw with taken := [(c.port, cmdPacket 0x04 c)] } };
      let s : State := { s with fuse := { s.fuse with outw := some 1 } };
      s.permitted portsC c.port = true ∧ c.payload = [w] ∧ w.toNat = v.val + 2 ^ 16 * f.val + 2 ^ 24 * 0xF5 ∧ s.Front 0x04 c k ∧
        s.fuse.fits v f = true ∧ s.fuse.field f ≠ none) ∧
    (let s : State := base;
      let k : Fin 96 := 95;
      let f : Fin 4 := 2;
      let v : Fin 1024 := 4;
      let w : Word := BitVec.ofNat _ (v.val + 2 ^ 16 * f.val + 2 ^ 24 * 0xF5);
      let c : HostCmd := ⟨.c, 95, 1, [w]⟩;
      let s : State := { s with tags := s.tags.set k ⟨.queued, c.port, 1, 100050, 0⟩, fw := { s.fw with taken := [(c.port, cmdPacket 0x04 c)] } };
      s.permitted portsC c.port = true ∧ c.payload = [w] ∧ w.toNat = v.val + 2 ^ 16 * f.val + 2 ^ 24 * 0xF5 ∧ s.Front 0x04 c k ∧
        s.fuse.fits v f = false) ∧
    (let s : State := base;
      let k : Fin 96 := 95;
      let c : HostCmd := ⟨.b, 95, 1, [0]⟩;
      let q := (([(Instr.fuseWd c, 0x04), (.gaugeMode c, 0x41), (.rtcClearSwo c, 0x52)])[0]);
      let s : State := { s with tags := s.tags.set k ⟨.queued, c.port, 1, 100050, 0⟩, fw := { s.fw with taken := [(c.port, cmdPacket q.2 c)] } };
      s.permitted portsC c.port = false ∧ s.Front q.2 c k) ∧
    (let s : State := base;
      let k : Fin 96 := 95;
      let c : HostCmd := ⟨.b, 95, 1, [0]⟩;
      let q := (([(Instr.fuseWd c, 0x04), (.gaugeMode c, 0x41), (.rtcClearSwo c, 0x52)])[1]);
      let s : State := { s with tags := s.tags.set k ⟨.queued, c.port, 1, 100050, 0⟩, fw := { s.fw with taken := [(c.port, cmdPacket q.2 c)] } };
      s.permitted portsC c.port = false ∧ s.Front q.2 c k) ∧
    (let s : State := base;
      let k : Fin 96 := 95;
      let c : HostCmd := ⟨.b, 95, 1, [0]⟩;
      let q := (([(Instr.fuseWd c, 0x04), (.gaugeMode c, 0x41), (.rtcClearSwo c, 0x52)])[2]);
      let s : State := { s with tags := s.tags.set k ⟨.queued, c.port, 1, 100050, 0⟩, fw := { s.fw with taken := [(c.port, cmdPacket q.2 c)] } };
      s.permitted portsC c.port = false ∧ s.Front q.2 c k) := by
  refine ⟨?_, ?_, ?_, ?_, ?_, ?_, ?_, ?_, ?_, ?_, ?_, ?_⟩ <;> (try unfold State.Front) <;> decide +kernel

theorem test_meets_HostSessions_1 :
    (let s : State := base;
      let k : Fin 96 := 95;
      let c : HostCmd := ⟨.c, 95, 1, []⟩;
      let s : State := s.put NV_JRNL_STAT NV_JRNL_STAT_ACTIVE (0);
      let s : State := { s with tags := s.tags.set k ⟨.queued, c.port, 1, 100050, 0⟩, fw := { s.fw with taken := [(c.port, cmdPacket 0x68 c)] } };
      s.permitted portsC c.port = true ∧ c.payload = [] ∧ s.get NV_JRNL_STAT NV_JRNL_STAT_ACTIVE = 0 ∧ s.openSession s.fw.cfg = none ∧
        s.Front 0x68 c k) ∧
    (let s : State := base;
      let k : Fin 96 := 95;
      let w : Word := 0;
      let c : HostCmd := ⟨.c, 95, 1, [w]⟩;
      let s : State := s.put NV_JRNL_STAT NV_JRNL_STAT_ACTIVE (0);
      let s : State := { s with tags := s.tags.set k ⟨.queued, c.port, 1, 100050, 0⟩, fw := { s.fw with taken := [(c.port, cmdPacket 0x70 c)] } };
      let s : State := { s with proc := { s.proc with mode := (.recovery) } };
      let s : State := boot s BOOT_STAT_SLOT 1;
      s.permitted portsC c.port = true ∧ c.payload = [w] ∧ w.toNat ≤ 1 ∧ s.get NV_JRNL_STAT NV_JRNL_STAT_ACTIVE = 0 ∧
        s.openSession s.fw.img = none ∧ s.Front 0x70 c k ∧ (s.proc.mode = .recovery ∨ s.get BOOT_STAT BOOT_STAT_SLOT ≠ w.toNat)) ∧
    (let s : State := base;
      let k : Fin 96 := 95;
      let w : Word := 0;
      let c : HostCmd := ⟨.c, 95, 1, [w]⟩;
      let s : State := s.put NV_JRNL_STAT NV_JRNL_STAT_ACTIVE (0);
      let s : State := { s with tags := s.tags.set k ⟨.queued, c.port, 1, 100050, 0⟩, fw := { s.fw with taken := [(c.port, cmdPacket 0x70 c)] } };
      let s : State := boot s BOOT_STAT_SLOT (w.toNat);
      s.permitted portsC c.port = true ∧ c.payload = [w] ∧ w.toNat ≤ 1 ∧ s.get NV_JRNL_STAT NV_JRNL_STAT_ACTIVE = 0 ∧
        s.openSession s.fw.img = none ∧ s.Front 0x70 c k ∧ s.proc.mode ≠ .recovery ∧ s.get BOOT_STAT BOOT_STAT_SLOT = w.toNat) ∧
    (let s : State := base;
      let k : Fin 96 := 95;
      let off : Word := 0;
      let lo : Word := 0;
      let hi : Word := 0;
      let x : Session := ⟨.c, 1, 1000000000, none⟩;
      let c : HostCmd := ⟨.c, 95, 1, [off, lo, hi]⟩;
      let s : State := { s with tags := s.tags.set k ⟨.queued, c.port, 1, 100050, 0⟩, fw := { s.fw with taken := [(c.port, cmdPacket 0x69 c)] } };
      let s : State := { s with fw := { s.fw with cfg := some x } };
      s.permitted portsC c.port = true ∧ c.payload = [off, lo, hi] ∧ off.toNat % 8 = 0 ∧ off.toNat + 8 ≤ 262144 ∧ s.Front 0x69 c k ∧
        s.openSession s.fw.cfg = some x ∧ x.port = c.port) ∧
    (let s : State := base;
      let k : Fin 96 := 95;
      let off : Word := 0;
      let lo : Word := 0;
      let hi : Word := 0;
      let x : Session := ⟨.c, 1, 1000000000, none⟩;
      let c : HostCmd := ⟨.c, 95, 1, [off, lo, hi]⟩;
      let s : State := { s with tags := s.tags.set k ⟨.queued, c.port, 1, 100050, 0⟩, fw := { s.fw with taken := [(c.port, cmdPacket 0x71 c)] } };
      let s : State := { s with fw := { s.fw with img := some x } };
      s.permitted portsC c.port = true ∧ c.payload = [off, lo, hi] ∧ off.toNat % 8 = 0 ∧ off.toNat + 8 ≤ 1048576 ∧ s.Front 0x71 c k ∧
        s.openSession s.fw.img = some x ∧ x.port = c.port) ∧
    (let s : State := base;
      let k : Fin 96 := 95;
      let off : Word := 0;
      let lo : Word := 0;
      let hi : Word := 0;
      let c : HostCmd := ⟨.c, 95, 1, [off, lo, hi]⟩;
      let s : State := { s with tags := s.tags.set k ⟨.queued, c.port, 1, 100050, 0⟩, fw := { s.fw with taken := [(c.port, cmdPacket 0x69 c)] } };
      s.permitted portsC c.port = true ∧ c.payload = [off, lo, hi] ∧ off.toNat % 8 = 0 ∧ off.toNat + 8 ≤ 262144 ∧
        s.openSession s.fw.cfg = none ∧ s.Front 0x69 c k) ∧
    (let s : State := withCfg base 1 5;
      let k : Fin 96 := 95;
      let x : Session := ⟨.c, 1, 1000000000, none⟩;
      let c : HostCmd := ⟨.c, 95, 1, []⟩;
      let s : State := { s with tags := s.tags.set k ⟨.queued, c.port, 1, 100050, 0⟩, fw := { s.fw with taken := [(c.port, cmdPacket 0x6A c)] } };
      let s : State := { s with fw := { s.fw with cfg := some x } };
      let s : State := boot s BOOT_STAT_CFG_NONE 1;
      s.permitted portsC c.port = true ∧ c.payload = [] ∧ s.Front 0x6A c k ∧ s.openSession s.fw.cfg = some x ∧ x.port = c.port ∧
        s.cfgPasses x.target = true) ∧
    (let s : State := base;
      let k : Fin 96 := 95;
      let x : Session := ⟨.c, 1, 1000000000, none⟩;
      let c : HostCmd := ⟨.c, 95, 1, []⟩;
      let s : State := { s with tags := s.tags.set k ⟨.queued, c.port, 1, 100050, 0⟩, fw := { s.fw with taken := [(c.port, cmdPacket 0x6A c)] } };
      let s : State := { s with fw := { s.fw with cfg := some x } };
      s.permitted portsC c.port = true ∧ c.payload = [] ∧ s.Front 0x6A c k ∧ s.openSession s.fw.cfg = some x ∧ x.port = c.port ∧
        s.cfgPasses x.target = false) ∧
    (let s : State := base;
      let k : Fin 96 := 95;
      let x : Session := ⟨.b, 1, 1000000000, none⟩;
      let c : HostCmd := ⟨.c, 95, 1, []⟩;
      let s : State := { s with tags := s.tags.set k ⟨.queued, c.port, 1, 100050, 0⟩, fw := { s.fw with taken := [(c.port, cmdPacket 0x6A c)] } };
      let s : State := { s with fw := { s.fw with cfg := some x } };
      s.permitted portsC c.port = true ∧ c.payload = [] ∧ s.Front 0x6A c k ∧ s.openSession s.fw.cfg = some x ∧ x.port ≠ c.port) ∧
    (let s : State := base;
      let k : Fin 96 := 95;
      let x : Session := ⟨.c, 1, 1000000000, none⟩;
      let c : HostCmd := ⟨.c, 95, 1, []⟩;
      let s : State := { s with tags := s.tags.set k ⟨.queued, c.port, 1, 100050, 0⟩, fw := { s.fw with taken := [(c.port, cmdPacket 0x6A c)] } };
      let s : State := { s with fw := { s.fw with cfg := some x } };
      s.permitted portsC c.port = true ∧ c.payload = [] ∧ s.Front 0x6A c k ∧ s.openSession s.fw.cfg = some x ∧ x.port = c.port) ∧
    (let s : State := base;
      let k : Fin 96 := 95;
      let x : Session := ⟨.c, 1, 1000000000, none⟩;
      let c : HostCmd := ⟨.c, 95, 1, []⟩;
      let s : State := { s with tags := s.tags.set k ⟨.queued, c.port, 1, 100050, 0⟩, fw := { s.fw with taken := [(c.port, cmdPacket 0x72 c)] } };
      let s : State := { s with fw := { s.fw with img := some x } };
      s.permitted portsC c.port = true ∧ c.payload = [] ∧ s.Front 0x72 c k ∧ s.openSession s.fw.img = some x ∧ x.port = c.port) ∧
    (let s : State := withImage base 1;
      let k : Fin 96 := 95;
      let x : Session := ⟨.c, 1, 1000000000, none⟩;
      let c : HostCmd := ⟨.c, 95, 1, []⟩;
      let s : State := { s with tags := s.tags.set k ⟨.queued, c.port, 1, 100050, 0⟩, fw := { s.fw with taken := [(c.port, cmdPacket 0x72 c)] } };
      let s : State := { s with fw := { s.fw with img := some x } };
      s.permitted portsC c.port = true ∧ c.payload = [] ∧ s.Front 0x72 c k ∧ s.openSession s.fw.img = some x ∧ x.port = c.port ∧
        s.imageValid x.target = true) := by
  refine ⟨?_, ?_, ?_, ?_, ?_, ?_, ?_, ?_, ?_, ?_, ?_, ?_⟩ <;> (try unfold State.Front) <;> decide +kernel

theorem test_meets_HostSessions_2 :
    (let s : State := base;
      let k : Fin 96 := 95;
      let x : Session := ⟨.c, 1, 1000000000, none⟩;
      let c : HostCmd := ⟨.c, 95, 1, []⟩;
      let s : State := { s with tags := s.tags.set k ⟨.queued, c.port, 1, 100050, 0⟩, fw := { s.fw with taken := [(c.port, cmdPacket 0x72 c)] } };
      let s : State := { s with fw := { s.fw with img := some x } };
      s.permitted portsC c.port = true ∧ c.payload = [] ∧ s.Front 0x72 c k ∧ s.openSession s.fw.img = some x ∧ x.port = c.port ∧
        s.imageValid x.target = false) ∧
    (let s : State := base;
      let k : Fin 96 := 95;
      let w : Word := 7;
      let x : Session := ⟨.c, 1, 1000000000, some 7⟩;
      let c : HostCmd := ⟨.c, 95, 1, [w]⟩;
      let s : State := { s with tags := s.tags.set k ⟨.queued, c.port, 1, 100050, 0⟩, fw := { s.fw with taken := [(c.port, cmdPacket 0x73 c)] } };
      let s : State := { s with fw := { s.fw with img := some x } };
      s.permitted portsC c.port = true ∧ c.payload = [w] ∧ s.Front 0x73 c k ∧ s.openSession s.fw.img = some x ∧ x.port = c.port ∧
        x.ok = some w.toNat) ∧
    (let s : State := base;
      let k : Fin 96 := 95;
      let w : Word := 0;
      let x : Session := ⟨.c, 1, 1000000000, none⟩;
      let c : HostCmd := ⟨.c, 95, 1, [w]⟩;
      let s : State := { s with tags := s.tags.set k ⟨.queued, c.port, 1, 100050, 0⟩, fw := { s.fw with taken := [(c.port, cmdPacket 0x73 c)] } };
      let s : State := { s with fw := { s.fw with img := some x } };
      s.permitted portsC c.port = true ∧ c.payload = [w] ∧ s.Front 0x73 c k ∧ s.openSession s.fw.img = some x ∧ x.port = c.port ∧
        x.ok ≠ some w.toNat) := by
  refine ⟨?_, ?_, ?_⟩ <;> (try unfold State.Front) <;> decide +kernel

theorem test_meets_ProofCommand :
    (let s : State := base;
      let k : Fin 96 := 95;
      let a : Word := 0;
      let b : Word := 0;
      let d : Word := 0;
      let e : Word := 0;
      let c : HostCmd := ⟨.c, 95, 1, [a, b, d, e]⟩;
      let s : State := { s with tags := s.tags.set k ⟨.queued, c.port, 1, 100050, 0⟩, fw := { s.fw with taken := [(c.port, cmdPacket 0x60 c)] } };
      let s : State := boot s BOOT_STAT_READY (1);
      s.permitted portsABCE c.port = true ∧ s.Front 0x60 c k ∧ c.payload = [a, b, d, e] ∧ s.proofBusy = false ∧
        s.get BOOT_STAT BOOT_STAT_READY = 1) ∧
    (let s : State := base;
      let k : Fin 96 := 95;
      let c : HostCmd := ⟨.c, 95, 1, [1, 2, 3, 4]⟩;
      let s : State := { s with tags := s.tags.set k ⟨.queued, c.port, 1, 100050, 0⟩, fw := { s.fw with taken := [(c.port, cmdPacket 0x60 c)] } };
      let s : State := s.putB PRF_STAT PRF_STAT_BUSY true;
      s.permitted portsABCE c.port = true ∧ s.Front 0x60 c k ∧ c.payload.length = 4 ∧ s.proofBusy = true) ∧
    (let s : State := base;
      let k : Fin 96 := 95;
      let c : HostCmd := ⟨.c, 95, 1, []⟩;
      let s : State := { s with tags := s.tags.set k ⟨.queued, c.port, 1, 100050, 0⟩, fw := { s.fw with taken := [(c.port, cmdPacket 0x60 c)] } };
      s.permitted portsABCE c.port = true ∧ s.Front 0x60 c k ∧ c.payload.length ≠ 4) := by
  refine ⟨?_, ?_, ?_⟩ <;> (try unfold State.Front) <;> decide +kernel

theorem test_meets_RegWriteCommand :
    (let s : State := base;
      let k : Fin 96 := 95;
      let l : List Word := [1, 0x80000000];
      let c : HostCmd := ⟨.c, 95, 1, l.flatMap (fun v => [BitVec.ofNat 32 SEQ_FLAG_SET, v])⟩;
      let s : State := { s with tags := s.tags.set k ⟨.queued, c.port, 1, 100050, 0⟩, fw := { s.fw with taken := [(c.port, cmdPacket 0x79 c)] } };
      s.Front 0x79 c k ∧ s.permitted portsABC c.port = true ∧ l.length ≤ 31 ∧
        c.payload = l.flatMap (fun v => [BitVec.ofNat 32 SEQ_FLAG_SET, v]) ∧ l ≠ []) ∧
    (let s : State := base;
      let k : Fin 96 := 95;
      let l : List Word := [];
      let rest : List Word := [];
      let v : Word := 0;
      let a : Word := BitVec.ofNat _ (SYS_ACT);
      let c : HostCmd := ⟨.c, 95, 1, l.flatMap (fun v => [BitVec.ofNat 32 SEQ_FLAG_SET, v]) ++ a :: v :: rest⟩;
      let s : State := { s with tags := s.tags.set k ⟨.queued, c.port, 1, 100050, 0⟩, fw := { s.fw with taken := [(c.port, cmdPacket 0x79 c)] } };
      s.Front 0x79 c k ∧ s.permitted portsABC c.port = true ∧ l.length ≤ 31 ∧
        c.payload = l.flatMap (fun v => [BitVec.ofNat 32 SEQ_FLAG_SET, v]) ++ a :: v :: rest ∧ c.payload.length ≤ 62 ∧
        rest.length % 2 = 0 ∧ a.toNat = SYS_ACT) ∧
    (let s : State := base;
      let k : Fin 96 := 95;
      let l : List Word := [];
      let rest : List Word := [];
      let a : Word := 0;
      let v : Word := 0;
      let c : HostCmd := ⟨.c, 95, 1, l.flatMap (fun v => [BitVec.ofNat 32 SEQ_FLAG_SET, v]) ++ a :: v :: rest⟩;
      let s : State := { s with tags := s.tags.set k ⟨.queued, c.port, 1, 100050, 0⟩, fw := { s.fw with taken := [(c.port, cmdPacket 0x79 c)] } };
      s.Front 0x79 c k ∧ s.permitted portsABC c.port = true ∧ l.length ≤ 31 ∧
        c.payload = l.flatMap (fun v => [BitVec.ofNat 32 SEQ_FLAG_SET, v]) ++ a :: v :: rest ∧ c.payload.length ≤ 62 ∧
        rest.length % 2 = 0 ∧ blockOf a.toNat = none) ∧
    (let s : State := base;
      let k : Fin 96 := 95;
      let l : List Word := [5, 0xF0];
      let rest : List Word := [BitVec.ofNat 32 SEQ_FLAG_SET, 1];
      let a : Word := BitVec.ofNat 32 (LOOP_PROT 3);
      let v : Word := 0xFFFFFFFF;
      let m : Fin 4 := 3;
      let code : Nat := 1;
      let c : HostCmd := ⟨.c, 95, 1, l.flatMap (fun v => [BitVec.ofNat 32 SEQ_FLAG_SET, v]) ++ a :: v :: rest⟩;
      let s : State := { s with tags := s.tags.set k ⟨.queued, c.port, 1, 100050, 0⟩, fw := { s.fw with taken := [(c.port, cmdPacket 0x79 c)] } };
      s.Front 0x79 c k ∧ s.permitted portsABC c.port = true ∧ l.length ≤ 31 ∧
        c.payload = l.flatMap (fun v => [BitVec.ofNat 32 SEQ_FLAG_SET, v]) ++ a :: v :: rest ∧ c.payload.length ≤ 62 ∧
        rest.length % 2 = 0 ∧ a.toNat = LOOP_PROT m ∧ s.protBlocked (portSrc c.port) 5 = some code) ∧
    (let s : State := base;
      let k : Fin 96 := 95;
      let m : Fin 4 := 3;
      let v : Word := 0xFFFFFFFF;
      let c : HostCmd := ⟨.c, 95, 1, [BitVec.ofNat 32 (LOOP_PROT m), v]⟩;
      let s : State := { s with tags := s.tags.set k ⟨.queued, c.port, 1, 100050, 0⟩, fw := { s.fw with taken := [(c.port, cmdPacket 0x79 c)] } };
      let s : State := { s with sys := { s.sys with window := some ⟨portSrc c.port, 5, s.opt.ms + 100⟩ } };
      s.Front 0x79 c k ∧ s.permitted portsABC c.port = true ∧ c.payload = [BitVec.ofNat 32 (LOOP_PROT m), v] ∧
        s.protBlocked (portSrc c.port) 5 = none) ∧
    (let s : State := base;
      let k : Fin 96 := 95;
      let c : HostCmd := ⟨.c, 95, 1, []⟩;
      let s : State := { s with tags := s.tags.set k ⟨.queued, c.port, 1, 100050, 0⟩, fw := { s.fw with taken := [(c.port, cmdPacket 0x79 c)] } };
      s.Front 0x79 c k ∧ s.permitted portsABC c.port = true ∧ (c.payload.length < 2 ∨ 62 < c.payload.length ∨ c.payload.length % 2 = 1)) ∧
    (let s : State := base;
      let k : Fin 96 := 95;
      let c : HostCmd := ⟨.e, 95, 1, [0x40]⟩;
      let s : State := { s with tags := s.tags.set k ⟨.queued, c.port, 1, 100050, 0⟩, fw := { s.fw with taken := [(c.port, cmdPacket 0x79 c)] } };
      s.Front 0x79 c k ∧ s.permitted portsABC c.port = false) := by
  refine ⟨?_, ?_, ?_, ?_, ?_, ?_, ?_⟩ <;> (try unfold State.Front) <;> decide +kernel

theorem test_meets_AuxCommand :
    (let s : State := base;
      let k : Fin 96 := 95;
      let c : HostCmd := ⟨.c, 95, 1, [0x00050648, 0x44332211, 0x6655]⟩;
      let s : State := { s with tags := s.tags.set k ⟨.queued, c.port, 1, 100050, 0⟩, fw := { s.fw with taken := [(c.port, cmdPacket 0x80 c)] } };
      let s : State := s.put AUX_STAT AUX_STAT_BUSY (0);
      s.Front 0x80 c k ∧ s.permitted portsABC c.port = true ∧ auxOk c.payload = true ∧ s.get AUX_STAT AUX_STAT_BUSY = 0) ∧
    (let s : State := base;
      let k : Fin 96 := 95;
      let c : HostCmd := ⟨.c, 95, 1, [0x00050648, 0x44332211, 0x6655]⟩;
      let s : State := { s with tags := s.tags.set k ⟨.queued, c.port, 1, 100050, 0⟩, fw := { s.fw with taken := [(c.port, cmdPacket 0x80 c)] } };
      let s : State := s.put AUX_STAT AUX_STAT_BUSY (1);
      s.Front 0x80 c k ∧ s.permitted portsABC c.port = true ∧ auxOk c.payload = true ∧ s.get AUX_STAT AUX_STAT_BUSY = 1) ∧
    (let s : State := base;
      let k : Fin 96 := 95;
      let c : HostCmd := ⟨.c, 95, 1, []⟩;
      let s : State := { s with tags := s.tags.set k ⟨.queued, c.port, 1, 100050, 0⟩, fw := { s.fw with taken := [(c.port, cmdPacket 0x80 c)] } };
      s.Front 0x80 c k ∧ s.permitted portsABC c.port = true ∧ auxOk c.payload = false) ∧
    (let s : State := base;
      let k : Fin 96 := 95;
      let c : HostCmd := ⟨.e, 95, 1, [0x40]⟩;
      let s : State := { s with tags := s.tags.set k ⟨.queued, c.port, 1, 100050, 0⟩, fw := { s.fw with taken := [(c.port, cmdPacket 0x80 c)] } };
      s.Front 0x80 c k ∧ s.permitted portsABC c.port = false) := by
  refine ⟨?_, ?_, ?_, ?_⟩ <;> (try unfold State.Front) <;> decide +kernel

theorem test_meets_TelemRead :
    (let s : State := base;
      let k : Fin 96 := 95;
      let c : HostCmd := ⟨.c, 95, 1, [BitVec.ofNat 32 FRM_NUM, BitVec.ofNat 32 SYS_PROT]⟩;
      let s : State := s.putB (PORT_CFG c.port) PORT_CFG_EN true;
      let s : State := { s with ports := s.ports.set c.port.idx { s.ports[c.port.idx] with collect := [] } };
      let s : State := { s with ports := s.ports.set c.port.idx { s.ports[c.port.idx] with missed := 0 } };
      let s : State := admitted s c.port codeTelemRead 95;
      s.hostReaches c.port = true ∧ c.tag.toNat = k.val ∧ (s.port c.port).collect = [] ∧ (s.port c.port).missed = 0 ∧
        (s.port c.port).inUsed + c.payload.length < 64 ∧ c.payload.length ≤ 62 ∧
        s.admission c.port ((cmdPacket codeTelemRead c).getD 0 0) true = none ∧ c.payload ≠ []) ∧
    (let s : State := base;
      let k : Fin 96 := 95;
      let c : HostCmd := ⟨.c, 95, 1, []⟩;
      let s : State := s.putB (PORT_CFG c.port) PORT_CFG_EN true;
      let s : State := { s with ports := s.ports.set c.port.idx { s.ports[c.port.idx] with collect := [] } };
      let s : State := { s with ports := s.ports.set c.port.idx { s.ports[c.port.idx] with missed := 0 } };
      let s : State := admitted s c.port codeTelemRead 95;
      s.hostReaches c.port = true ∧ c.tag.toNat = k.val ∧ (s.port c.port).collect = [] ∧ (s.port c.port).missed = 0 ∧
        (s.port c.port).inUsed + c.payload.length < 64 ∧ c.payload.length ≤ 62 ∧
        s.admission c.port ((cmdPacket codeTelemRead c).getD 0 0) true = none ∧ c.payload = []) ∧
    (let s : State := base;
      let k : Fin 96 := 95;
      let st : Nat := 0xE4;
      let c : HostCmd := ⟨.c, 95, 1, [1]⟩;
      let s : State := s.putB (PORT_CFG c.port) PORT_CFG_EN true;
      let s : State := { s with ports := s.ports.set c.port.idx { s.ports[c.port.idx] with collect := [] } };
      let s : State := { s with ports := s.ports.set c.port.idx { s.ports[c.port.idx] with missed := 0 } };
      let s : State := admitted s c.port codeTelemRead 95;
      let s : State := s.put (ADM_TAB codeTelemRead) ADM_TAB_VALID 0;
      s.hostReaches c.port = true ∧ c.tag.toNat = k.val ∧ (s.port c.port).collect = [] ∧ (s.port c.port).missed = 0 ∧
        (s.port c.port).inUsed + c.payload.length < 64 ∧ c.payload.length ≤ 62 ∧
        s.admission c.port ((cmdPacket codeTelemRead c).getD 0 0) true = some st) := by
  refine ⟨?_, ?_, ?_⟩ <;> decide +kernel

theorem test_meets_WdCheckinCommand :
    (let s : State := base;
      let k : Fin 96 := 95;
      let w : Word := 0x5A3C0000;
      let c : HostCmd := ⟨.c, 95, 1, [w]⟩;
      let s : State := s.putB (PORT_CFG c.port) PORT_CFG_EN true;
      let s : State := { s with ports := s.ports.set c.port.idx { s.ports[c.port.idx] with collect := [] } };
      let s : State := { s with ports := s.ports.set c.port.idx { s.ports[c.port.idx] with missed := 0 } };
      let s : State := { s with wd := { s.wd with running := (false) } };
      let s : State := admitted s c.port codeWdCheckin 95;
      s.hostReaches c.port = true ∧ c.tag.toNat = k.val ∧ (s.port c.port).collect = [] ∧ (s.port c.port).missed = 0 ∧
        (s.port c.port).inUsed + c.payload.length < 64 ∧ c.payload.length ≤ 62 ∧
        s.admission c.port ((cmdPacket codeWdCheckin c).getD 0 0) true = none ∧ c.payload = [w] ∧ s.wd.running = false) ∧
    (let s : State := base;
      let k : Fin 96 := 95;
      let at_ : BitVec 12 := 500;
      let w : Word := 0x5A3D0000;
      let c : HostCmd := ⟨.c, 95, 1, [w]⟩;
      let s : State := s.putB (PORT_CFG c.port) PORT_CFG_EN true;
      let s : State := { s with ports := s.ports.set c.port.idx { s.ports[c.port.idx] with collect := [] } };
      let s : State := { s with ports := s.ports.set c.port.idx { s.ports[c.port.idx] with missed := 0 } };
      let s : State := { s with wd := { s.wd with running := (true) } };
      let s : State := admitted s c.port codeWdCheckin 95;
      let s : State := s.updWd (fun w => { w with running := true, period := 1, clocks := 99000, enabled := 0x8001, own0 := 0x33333333, own1 := 0x33333333, required := 0x8001 });
      s.hostReaches c.port = true ∧ c.tag.toNat = k.val ∧ (s.port c.port).collect = [] ∧ (s.port c.port).missed = 0 ∧
        (s.port c.port).inUsed + c.payload.length < 64 ∧ c.payload.length ≤ 62 ∧
        s.admission c.port ((cmdPacket codeWdCheckin c).getD 0 0) true = none ∧ c.payload = [w] ∧ s.wd.running = true ∧
        (s.clockAt at_.toNat).wdElapsed < s.wdLimit ∧ getF w ⟨16, 16⟩ ≠ 0x5A3C) ∧
    (let s : State := base;
      let k : Fin 96 := 95;
      let at_ : BitVec 12 := 500;
      let w : Word := 0x5A3C0000;
      let c : HostCmd := ⟨.c, 95, 1, [w]⟩;
      let s : State := s.putB (PORT_CFG c.port) PORT_CFG_EN true;
      let s : State := { s with ports := s.ports.set c.port.idx { s.ports[c.port.idx] with collect := [] } };
      let s : State := { s with ports := s.ports.set c.port.idx { s.ports[c.port.idx] with missed := 0 } };
      let s : State := { s with wd := { s.wd with running := (true) } };
      let s : State := admitted s c.port codeWdCheckin 95;
      let s : State := s.updWd (fun w => { w with running := true, period := 1, clocks := 99000, enabled := 0x8001, own0 := 0x33333333, own1 := 0x33333333, required := 0x8001 });
      s.hostReaches c.port = true ∧ c.tag.toNat = k.val ∧ (s.port c.port).collect = [] ∧ (s.port c.port).missed = 0 ∧
        (s.port c.port).inUsed + c.payload.length < 64 ∧ c.payload.length ≤ 62 ∧
        s.admission c.port ((cmdPacket codeWdCheckin c).getD 0 0) true = none ∧ c.payload = [w] ∧ s.wd.running = true ∧
        (s.clockAt at_.toNat).wdElapsed < s.wdLimit ∧ getF w ⟨16, 16⟩ = 0x5A3C ∧ getF w ⟨0, 8⟩ < 16 ∧
        s.wd.enabled.testBit (getF w ⟨0, 8⟩) = true ∧ ownerIn s.wd.own0 s.wd.own1 (getF w ⟨0, 8⟩) = c.port.idx + 1 ∧
        (s.get WD_STAT WD_STAT_DONE).testBit (getF w ⟨0, 8⟩) = false ∧ getF w ⟨8, 8⟩ = (s.rd WD_SEQ).toNat % 256 ∧
        (windowAt s.wd.period (s.get WD_FUSE1 WD_FUSE1_WIN) : Int) ≤ (s.clockAt at_.toNat).wdElapsed) ∧
    (let s : State := base;
      let k : Fin 96 := 95;
      let c : HostCmd := ⟨.c, 95, 1, [1, 2]⟩;
      let s : State := s.putB (PORT_CFG c.port) PORT_CFG_EN true;
      let s : State := { s with ports := s.ports.set c.port.idx { s.ports[c.port.idx] with collect := [] } };
      let s : State := { s with ports := s.ports.set c.port.idx { s.ports[c.port.idx] with missed := 0 } };
      let s : State := admitted s c.port codeWdCheckin 95;
      s.hostReaches c.port = true ∧ c.tag.toNat = k.val ∧ (s.port c.port).collect = [] ∧ (s.port c.port).missed = 0 ∧
        (s.port c.port).inUsed + c.payload.length < 64 ∧ c.payload.length ≤ 62 ∧
        s.admission c.port ((cmdPacket codeWdCheckin c).getD 0 0) true = none ∧ c.payload.length ≠ 1) ∧
    (let s : State := base;
      let k : Fin 96 := 95;
      let st : Nat := 0xE4;
      let c : HostCmd := ⟨.c, 95, 1, [1, 2]⟩;
      let s : State := s.putB (PORT_CFG c.port) PORT_CFG_EN true;
      let s : State := { s with ports := s.ports.set c.port.idx { s.ports[c.port.idx] with collect := [] } };
      let s : State := { s with ports := s.ports.set c.port.idx { s.ports[c.port.idx] with missed := 0 } };
      let s : State := admitted s c.port codeWdCheckin 95;
      let s : State := s.put (ADM_TAB codeWdCheckin) ADM_TAB_VALID 0;
      s.hostReaches c.port = true ∧ c.tag.toNat = k.val ∧ (s.port c.port).collect = [] ∧ (s.port c.port).missed = 0 ∧
        (s.port c.port).inUsed + c.payload.length < 64 ∧ c.payload.length ≤ 62 ∧
        s.admission c.port ((cmdPacket codeWdCheckin c).getD 0 0) true = some st) := by
  refine ⟨?_, ?_, ?_, ?_, ?_⟩ <;> decide +kernel

end Sys2Proof.Tests.Slice0
end

section
/-! SUPPORT. What a reset of D_PROC keeps and clears (R15 to R23, R63): the parts of `State.procReset`, one lemma per
operation, and what every cause of a reset thereby leaves. -/
namespace Sys2Proof.Machine
open Sys2Proof

/-! ### Raises outlast what follows them -/

/-- What one state has raised, the other has raised too. -/
def KeepsRaised (s t : State) : Prop := ∀ e c, s.raisedCode e c → t.raisedCode e c

namespace KeepsRaised
variable {s t u : State}

theorem refl : KeepsRaised s s := fun _ _ g => g
theorem trans (h : KeepsRaised s t) (g : KeepsRaised t u) : KeepsRaised s u := fun e c k => g e c (h e c k)
/-- An operation that leaves the collector alone. -/
theorem of_flt (h : t.flt = s.flt) : KeepsRaised s t := fun e c g => by
  unfold State.raisedCode at g ⊢; rwa [h]
theorem raise {e c h : Nat} {d : List Byte} (k : KeepsRaised s t) : KeepsRaised s (t.raise e c h d) :=
  k.trans fun x y => State.raise_keeps_raised t e c h d x y
theorem ite {c : Prop} {_ : Decidable c} (h : KeepsRaised s t) (g : KeepsRaised s u) :
    KeepsRaised s (if c then t else u) := by split <;> assumption

theorem put {a : Nat} {f : Fld} {v : Nat} (h : KeepsRaised s t) : KeepsRaised s (t.put a f v) := h.trans (of_flt rfl)
theorem putB {a : Nat} {f : Fld} {b : Bool} (h : KeepsRaised s t) : KeepsRaised s (t.putB a f b) := h.trans (of_flt rfl)
theorem updChg {f : ChgSt → ChgSt} (h : KeepsRaised s t) : KeepsRaised s (t.updChg f) := h.trans (of_flt rfl)
theorem updGg {f : GgSt → GgSt} (h : KeepsRaised s t) : KeepsRaised s (t.updGg f) := h.trans (of_flt rfl)
theorem updEst {f : EstSt → EstSt} (h : KeepsRaised s t) : KeepsRaised s (t.updEst f) := h.trans (of_flt rfl)
theorem updNv {f : NvSt → NvSt} (h : KeepsRaised s t) : KeepsRaised s (t.updNv f) := h.trans (of_flt rfl)

theorem chgTo {st : Nat} (h : KeepsRaised s t) : KeepsRaised s (t.chgTo st) := by
  unfold State.chgTo
  exact .ite h (.raise (h.trans (.of_flt (by simp))))
theorem safeHold (h : KeepsRaised s t) : KeepsRaised s t.safeHold := by
  unfold State.safeHold
  exact .ite h h.updChg.chgTo
theorem gaugeWrite {type : Nat} (h : KeepsRaised s t) : KeepsRaised s (t.gaugeWrite type) := by
  unfold State.gaugeWrite
  exact .ite h.updGg.raise (h.trans (.of_flt rfl))
theorem gaugeFreeze (h : KeepsRaised s t) : KeepsRaised s t.gaugeFreeze := by
  unfold State.gaugeFreeze
  exact h.putB.raise.updGg.gaugeWrite
theorem learnFail {code : Nat} (h : KeepsRaised s t) : KeepsRaised s (t.learnFail code) := by
  unfold State.learnFail
  split
  · exact h
  · exact h.putB.put.updEst.raise
theorem estReset (h : KeepsRaised s t) : KeepsRaised s t.estReset := by
  unfold State.estReset
  exact h.learnFail.updEst
theorem nvProcReset (h : KeepsRaised s t) : KeepsRaised s t.nvProcReset := by
  unfold State.nvProcReset
  exact .ite h.updNv.putB.putB.putB h.updNv.putB
theorem procEngines (h : KeepsRaised s t) : KeepsRaised s t.procEngines := by
  unfold State.procEngines
  exact .nvProcReset (.ite h.safeHold.gaugeFreeze.estReset h)

end KeepsRaised

/-! ### The D_PWR side of the reset (R23, R218, R337) -/

section
variable {R : List Nat} {P : List Part} {s t : State}

theorem EventFrame.chgTo {st : Nat} (h : EventFrame R P s t) (m : Part.chg ∈ P) (r : CHG_STAT ∈ R) :
    EventFrame R P s (t.chgTo st) := by
  unfold State.chgTo
  have g := (h.wr (setF (setF (t.rd CHG_STAT) CHG_STAT_STATE st) CHG_STAT_HOLD_REL 0) r).updChg
    (f := fun c => { c with exitRun := 0, shortRun := 0, shortSaid := false, zeroHold := false }) m
  refine .ite h (.raise (.ite (.put _ _ ?_ r) ?_) (by decide))
  all_goals exact .ite g (g.putB _ _ r)
theorem EventFrame.safeHold (h : EventFrame R P s t) (m : Part.chg ∈ P) (r : CHG_STAT ∈ R) :
    EventFrame R P s t.safeHold := by
  unfold State.safeHold
  exact .ite h ((h.updChg m).chgTo m r)
theorem EventFrame.gaugeWrite {type : Nat} (h : EventFrame R P s t) (m : Part.gg ∈ P) (n : Part.nv ∈ P) :
    EventFrame R P s (t.gaugeWrite type) := by
  unfold State.gaugeWrite
  exact .ite (.raise (.updGg h m) (by decide)) (h.trans (.of_frame (Frame.refl.gaugeStore m n)))
theorem EventFrame.gaugeFreeze (h : EventFrame R P s t) (m : Part.gg ∈ P) (n : Part.nv ∈ P) (r : GG_EFLAGS ∈ R) :
    EventFrame R P s t.gaugeFreeze := by
  unfold State.gaugeFreeze
  exact .gaugeWrite (.updGg (.raise (.putB _ _ h r) (by decide)) m) m n
theorem EventFrame.learnFail {code : Nat} (h : EventFrame R P s t) (m : Part.est ∈ P) (r : GG_EFLAGS ∈ R) :
    EventFrame R P s (t.learnFail code) := by
  unfold State.learnFail
  split
  · exact h
  · exact .raise (.updEst (.put _ _ (.putB _ _ h r) r) m) (by decide)
theorem EventFrame.estReset (h : EventFrame R P s t) (m : Part.est ∈ P) (r : GG_EFLAGS ∈ R) :
    EventFrame R P s t.estReset := by
  unfold State.estReset
  exact .updEst (.learnFail h m r) m
theorem EventFrame.nvBusy (h : EventFrame R P s t) (r : NV_STAT ∈ R) : EventFrame R P s t.nvBusy := h.putB _ _ r
theorem EventFrame.nvProcReset (h : EventFrame R P s t) (m : Part.nv ∈ P) (r : NV_STAT ∈ R) (q : NV_JRNL_STAT ∈ R) :
    EventFrame R P s t.nvProcReset := by
  unfold State.nvProcReset
  have g := h.updNv (f := fun n =>
    { n with q1 := keptJobs n.q1, q2 := keptJobs n.q2, q4 := keptJobs n.q4, eraseWord := 0 }) m
  exact .ite (.nvBusy (.putB _ _ (.putB _ _ g q) q) r) (g.nvBusy r)

/-- The registers that the D_PWR side of the reset writes. -/
def procEngineRegs : List Nat := [CHG_STAT, GG_EFLAGS, NV_STAT, NV_JRNL_STAT]

theorem EventFrame.procEngines : EventFrame procEngineRegs [.chg, .gg, .est, .nv] s s.procEngines := by
  have e : EventFrame procEngineRegs [.chg, .gg, .est, .nv] s s.safeHold.gaugeFreeze.estReset :=
    ((EventFrame.refl.safeHold (by decide) (by decide)).gaugeFreeze (by decide) (by decide) (by decide)).estReset
      (by decide) (by decide)
  unfold State.procEngines
  exact (e.ite .refl).nvProcReset (by decide) (by decide) (by decide)

/-! ### The command layers (R393) -/

theorem Frame.oweTags (h : Frame R P s t) (m : Part.tags ∈ P) (r : ∀ k : Fin 96, TAG_BUSY (k / 32) ∈ R) :
    Frame R P s t.oweTags := by
  unfold State.oweTags
  exact h.foldl fun x k => .ite .refl (.tagState .refl m (r k))
theorem Frame.portsReset :
    Frame [TAG_BUSY 0, TAG_BUSY 1, TAG_BUSY 2] [.ports, .layers, .tags, .link, .aux] s s.portsReset := by
  have h : Frame [TAG_BUSY 0, TAG_BUSY 1, TAG_BUSY 2] [.ports, .layers, .tags, .link, .aux] s s.oweTags :=
    Frame.refl.oweTags (by decide) fun k => by
      have : k.val / 32 = 0 ∨ k.val / 32 = 1 ∨ k.val / 32 = 2 := by omega
      rcases this with e | e | e <;> simp [e]
  unfold State.portsReset
  generalize s.oweTags = t at h ⊢
  exact h.trans ⟨fun _ _ => rfl, fun p k => by cases p <;> first | rfl | exact absurd (by decide) k⟩
theorem State.oweTags_flt (s : State) : s.oweTags.flt = s.flt := by
  unfold State.oweTags
  refine List.foldlRecOn (motive := fun t : State => t.flt = s.flt) _ _ rfl fun t h k _ => ?_
  split
  · exact h
  · simpa using h
theorem KeepsRaised.portsReset (h : KeepsRaised s t) : KeepsRaised s t.portsReset := by
  have k := h.trans (.of_flt t.oweTags_flt)
  unfold State.portsReset
  generalize t.oweTags = u at k ⊢
  exact k.trans (.of_flt rfl)

end

/-! ### The registers of a domain -/

/-- Storage without the entries of some keys reads there as where nothing is listed. -/
theorem lookupD_filter {α : Type} (d : Nat → α) (q : Nat → Bool) (l : List (Nat × α)) (k : Nat) :
    lookupD d (l.filter fun p => q p.1) k = if q k then lookupD d l k else d k := by
  induction l with
  | nil => simp [lookupD]
  | cons p r ih =>
    obtain ⟨a, v⟩ := p
    by_cases h : a = k
    · subst h
      by_cases g : q a <;> simp [lookupD, g, ih]
    · by_cases g : q a <;> simp [lookupD, g, h, ih]

theorem State.resetRegs_rd_ne (s : State) (d : Domain) (a : Nat) (h : domainOf a ≠ some d) :
    (s.resetRegs d).rd a = s.rd a := by
  refine (lookupD_filter resetVal (fun x => domainOf x != some d) s.regs a).trans (if_pos ?_)
  simpa using h

theorem findIn_mem {a : Nat} {l : List RegDef} {x : RegDef × List Nat} (h : findIn a l = some x) : x.1 ∈ l := by
  induction l with
  | nil => cases h
  | cons d r ih =>
    unfold findIn at h
    split at h
    · cases h; exact List.mem_cons_self
    · exact List.mem_cons_of_mem _ (ih h)

/-- A register of a block whose registers are all of one domain is of that domain. -/
theorem domainOf_of_block {a b : Nat} {d e : Domain} (hb : blockOf a = some b) (hd : ∀ r ∈ blockRegs b, r.dom = d)
    (he : domainOf a = some e) : e = d := by
  unfold domainOf regAt at he
  rw [hb] at he
  obtain ⟨x, hx, rfl⟩ := Option.map_eq_some_iff.mp he
  exact hd _ (findIn_mem hx)

theorem blockFrom_cons_of_notMem {a b n i : Nat} {r : List (Nat × Nat)} (h : a < b ∨ b + n ≤ a) :
    blockFrom a ((b, n) :: r) i = blockFrom a r (i + 1) := if_neg (by simp; omega)
theorem blockFrom_cons_of_mem {a b n i : Nat} {r : List (Nat × Nat)} (h : b ≤ a) (k : a < b + n) :
    blockFrom a ((b, n) :: r) i = some i := if_pos (by simp [h, k])

/-- The phase engine's and the regulators' blocks (R440) hold nothing of D_PROC. -/
theorem domainOf_rails (a : Nat) (lo : 0x40010000 ≤ a) (hi : a < 0x40016000) : domainOf a ≠ some .dProc := by
  intro h
  have below : blockOf a = blockFrom a (blockRanges.drop 5) 5 := by
    unfold blockOf blockRanges
    iterate 5 refine (blockFrom_cons_of_notMem (.inr (by omega))).trans ?_
    rfl
  by_cases k : a < 0x40014000
  · have hb : blockOf a = some 5 := below.trans (blockFrom_cons_of_mem lo k)
    exact absurd (domainOf_of_block hb (d := .dPwr) (by decide) h) (by decide)
  · have hb : blockOf a = some 6 :=
      below.trans ((blockFrom_cons_of_notMem (.inr (by omega))).trans (blockFrom_cons_of_mem (by omega) hi))
    exact absurd (domainOf_of_block hb (d := .dPwr) (by decide) h) (by decide)

end Sys2Proof.Machine
end

section
/-! SUPPORT. What a reset of D_PROC as a whole leaves: its registers, its parts, and `State.ProcReset`, which also holds
over what comes before and after it in one command (R15, R22, R63). -/
namespace Sys2Proof.Machine
open Sys2Proof

/-! ### The reset up to the registers of D_PROC -/

/-- The first steps of a reset: its cause and its event, the D_PWR side, the command layers. -/
def State.procCaused (s : State) (cause : Fld) : State :=
  ((s.putB RST_CAUSE cause true).raise 0x08 0).procEngines.portsReset

/-- The rest of a reset: what lies in D_PROC, Burin and his watchdog, READY, the unlock window. -/
def State.procCleared (s : State) : State :=
  ({ s.resetRegs .dProc with
      mr := s.mr.set 1 0, ic := {}, itcm := [], dtcm := [], fw := {}, sys := { s.sys with keys := [] },
      proc := { s.proc with mode := .held, trialOpen := false },
      wd := { s.wd with running := false } } : State).unready.closeWindow

theorem State.procReset_eq (s : State) (cause : Fld) : s.procReset cause = (s.procCaused cause).procCleared := by
  unfold State.procReset State.procCaused
  dsimp only
  generalize ((s.putB RST_CAUSE cause true).raise 0x08 0).procEngines.portsReset = u
  rfl

/-- The registers that the first steps of a reset write besides RST_CAUSE. -/
def procCausedRegs : List Nat := [TAG_BUSY 0, TAG_BUSY 1, TAG_BUSY 2] ++ procEngineRegs
/-- The parts that they write. -/
def procCausedParts : List Part := [.chg, .gg, .est, .nv, .ports, .layers, .tags, .link, .aux]
/-- The registers that the rest of a reset writes besides those of D_PROC. -/
def procClearedRegs : List Nat := [BOOT_STAT, PWR_STATE, PRF_STAT, SYS_UNL_STAT]
/-- The parts that it writes. -/
def procClearedParts : List Part := [.mr, .ic, .itcm, .dtcm, .fw, .sys, .proc, .wd, .locked]

/-- An address outside the two pages that a raise writes. -/
theorem offEvents_of_page {a : Nat} (h : a / 0x1000 ≠ 0x40002 ∧ a / 0x1000 ≠ 0x40004) : offEvents a := by
  unfold offEvents; omega

section
variable (s : State) (cause : Fld)

theorem State.procCaused_frame :
    EventFrame procCausedRegs procCausedParts (s.putB RST_CAUSE cause true) (s.procCaused cause) := by
  have raised : EventFrame procCausedRegs procCausedParts (s.putB RST_CAUSE cause true)
      ((s.putB RST_CAUSE cause true).raise 0x08 0) := .raise .refl (by decide)
  exact (raised.trans (EventFrame.procEngines.mono (by decide) (by decide))).trans
    (.mono (.of_frame Frame.portsReset) (by decide) (by decide))

theorem State.procCaused_keepsRaised : KeepsRaised s (s.procCaused cause) :=
  KeepsRaised.refl.putB.raise.procEngines.portsReset
theorem State.procCaused_raised : (s.procCaused cause).raisedCode 0x08 0 :=
  KeepsRaised.refl.procEngines.portsReset _ _ (State.raise_raised _ _ _ _ _ (by decide))
theorem State.procCaused_layers : (s.procCaused cause).layers = false := by
  unfold State.procCaused State.portsReset; rfl

theorem State.unready_frame : Frame [BOOT_STAT, PWR_STATE, PRF_STAT] [] s s.unready := by
  unfold State.unready
  exact .putB _ _ (.putB _ _ (.putB _ _ .refl (by decide)) (by decide)) (by decide)
theorem State.closeWindow_frame : Frame [SYS_UNL_STAT] [.sys] s s.closeWindow := by
  unfold State.closeWindow
  exact .put _ _ (.putB _ _ (.set_sys .refl (by decide)) (by decide)) (by decide)
theorem State.unready_ready : s.unready.get BOOT_STAT BOOT_STAT_READY = 0 := by
  unfold State.unready
  rw [State.get_putB_ne _ _ _ _ _ _ (by decide), State.get_putB_ne _ _ _ _ _ _ (by decide),
    State.get_putB _ _ _ _ (by decide) (by decide)]
  rfl
theorem State.unready_auton : s.unready.get PWR_STATE PWR_STATE_AUTON = 1 := by
  unfold State.unready
  rw [State.get_putB_ne _ _ _ _ _ _ (by decide), State.get_putB _ _ _ _ (by decide) (by decide)]
  rfl

theorem State.procCleared_ready : s.procCleared.get BOOT_STAT BOOT_STAT_READY = 0 :=
  ((State.closeWindow_frame _).get _ _ (by decide)).trans (State.unready_ready _)
theorem State.procCleared_auton : s.procCleared.get PWR_STATE PWR_STATE_AUTON = 1 :=
  ((State.closeWindow_frame _).get _ _ (by decide)).trans (State.unready_auton _)
theorem State.procCleared_rd (a : Nat) (h : a ∉ procClearedRegs) (d : domainOf a ≠ some .dProc) :
    s.procCleared.rd a = s.rd a := by
  have own : ∀ u : State, u.unready.closeWindow.rd a = u.rd a := fun u =>
    (u.unready.closeWindow_frame.rd a fun m => h ((by decide : [SYS_UNL_STAT] ⊆ procClearedRegs) m)).trans
      (u.unready_frame.rd a fun m => h ((by decide : [BOOT_STAT, PWR_STATE, PRF_STAT] ⊆ procClearedRegs) m))
  exact (own _).trans (State.resetRegs_rd_ne _ _ _ d)
theorem State.procCleared_same (p : Part) (h : p ∉ procClearedParts) : Part.Same s s.procCleared p := by
  cases p <;> first | rfl | exact absurd (by decide) h
@[simp] theorem State.procCleared_flt : s.procCleared.flt = s.flt := rfl

/-! ### The reset -/

/-- Of the registers that no reset of D_PROC clears, it writes a short list and its cause. -/
theorem State.procReset_rd (a : Nat) (h : a ∉ procCausedRegs ++ procClearedRegs) (o : offEvents a)
    (d : domainOf a ≠ some .dProc) : (s.procReset cause).rd a = (s.putB RST_CAUSE cause true).rd a := by
  rw [List.mem_append, not_or] at h
  rw [State.procReset_eq, State.procCleared_rd _ a h.2 d, (s.procCaused_frame cause).rd a h.1 o]

theorem State.procReset_same (p : Part) (h : p ∉ procCausedParts ++ procClearedParts) (o : p ∉ eventParts) :
    Part.Same s (s.procReset cause) p := by
  rw [List.mem_append, not_or] at h
  rw [State.procReset_eq]
  have b : Part.Same s (s.putB RST_CAUSE cause true) p := by cases p <;> rfl
  exact (b.trans ((s.procCaused_frame cause).same p h.1 o)).trans (State.procCleared_same _ p h.2)

theorem State.procReset_mr : (s.procReset cause).mr = s.mr.set 1 0 := by
  have h : (s.procCaused cause).mr = s.mr := (s.procCaused_frame cause).same .mr (by decide) (by decide)
  rw [State.procReset_eq, ← h]; rfl
theorem State.procReset_proc : (s.procReset cause).proc = { s.proc with mode := .held, trialOpen := false } := by
  have h : (s.procCaused cause).proc = s.proc := (s.procCaused_frame cause).same .proc (by decide) (by decide)
  rw [State.procReset_eq, ← h]; rfl
@[simp] theorem State.procReset_mode : (s.procReset cause).proc.mode = .held := by rw [State.procReset_proc]
theorem State.procReset_keepsRaised : KeepsRaised s (s.procReset cause) := by
  rw [State.procReset_eq]
  exact (s.procCaused_keepsRaised cause).trans (.of_flt (State.procCleared_flt _))
theorem State.procReset_raised : (s.procReset cause).raisedCode 0x08 0 := by
  rw [State.procReset_eq]
  exact KeepsRaised.of_flt (State.procCleared_flt _) _ _ (s.procCaused_raised cause)

/-- The reset leaves what R15, R22 and R63 say of every D_PROC reset. -/
theorem State.procReset_leaves (w : cause.w = 1) (l : cause.lo < 32) : s.ProcReset (s.procReset cause) cause := by
  have same := s.procReset_same cause
  have mr := s.procReset_mr cause
  have hc : (s.procReset cause).get RST_CAUSE cause = 1 := by
    unfold State.get
    rw [s.procReset_rd cause RST_CAUSE (by decide) (offEvents_of_page (by decide)) (by decide)]
    exact State.get_putB s RST_CAUSE cause true (by omega) w
  have hb : (s.procReset cause).get BOOT_STAT BOOT_STAT_READY = 0 ∧
      (s.procReset cause).get PWR_STATE PWR_STATE_AUTON = 1 ∧
      (s.procReset cause).itcm = [] ∧ (s.procReset cause).dtcm = [] ∧ (s.procReset cause).layers = false ∧
      (s.procReset cause).wd.running = false := by
    rw [State.procReset_eq]
    exact ⟨State.procCleared_ready _, State.procCleared_auton _, rfl, rfl,
      Eq.trans (State.procCleared_same _ .layers (by decide)) (s.procCaused_layers cause), rfl⟩
  obtain ⟨ready, auton, memories⟩ := hb
  refine ⟨⟨hc, s.procReset_raised cause, ready, auton⟩, ⟨by simp [mr], memories⟩, by simp [mr],
    same .loops (by decide) (by decide), same .phases (by decide) (by decide), same .regul (by decide) (by decide),
    same .feeds (by decide) (by decide), same .seq (by decide) (by decide), fun a lo hi => ?_⟩
  have n : a ∉ procCausedRegs ++ procClearedRegs := fun m => by
    have off : ∀ x ∈ procCausedRegs ++ procClearedRegs, x < 0x40010000 ∨ 0x40016000 ≤ x := by decide
    have := off a m
    omega
  rw [s.procReset_rd cause a n (by unfold offEvents; omega) (domainOf_rails a lo hi)]
  exact State.rd_putB_ne _ _ _ _ _ (by unfold RST_CAUSE; omega)

end

/-! ### What comes before and after the reset in one command -/

/-- No address of a list lies in the blocks of the phase engine and the regulators. -/
abbrev OffRails (R : List Nat) : Prop := ∀ a ∈ R, a < 0x40010000 ∨ 0x40016000 ≤ a

theorem OffRails.rd {R : List Nat} {P : List Part} {s t : State} (r : OffRails R) (h : EventFrame R P s t) (a : Nat)
    (lo : 0x40010000 ≤ a) (hi : a < 0x40016000) : t.rd a = s.rd a :=
  h.rd a (fun m => by have := r a m; omega) (by unfold offEvents; omega)

/-- What changes neither MR0 to MR3, a rail, a feed nor a thread may come before the reset. -/
theorem State.ProcReset.before {R : List Nat} {P : List Part} {s u t : State} {c : Fld} (h : EventFrame R P s u)
    (r : OffRails R) (p : ∀ q ∈ P, q ∈ [Part.wd, .nv, .clk, .proc]) (g : u.ProcReset t c) : s.ProcReset t c := by
  have same : ∀ q, q ∉ [Part.wd, .nv, .clk, .proc] → q ∉ eventParts → Part.Same s u q := fun q n o =>
    h.same q (fun m => n (p q m)) o
  have mr : u.mr = s.mr := same .mr (by decide) (by decide)
  obtain ⟨flags, cleared, ⟨m0, m2, m3⟩, loops, phases, regul, feeds, seq, rails⟩ := g
  refine ⟨flags, cleared, ⟨by rw [m0, mr], by rw [m2, mr], by rw [m3, mr]⟩,
    loops.trans (same .loops (by decide) (by decide)), phases.trans (same .phases (by decide) (by decide)),
    regul.trans (same .regul (by decide) (by decide)), feeds.trans (same .feeds (by decide) (by decide)),
    seq.trans (same .seq (by decide) (by decide)), fun a lo hi => (rails a lo hi).trans (r.rd h a lo hi)⟩

/-- What writes LS_STAT, Burin's mode and events alone may come after the reset. -/
theorem State.ProcReset.after {s t u : State} {c : Fld} (g : s.ProcReset t c) (h : EventFrame [LS_STAT] [.proc] t u)
    (k : KeepsRaised t u) : s.ProcReset u c := by
  have same : ∀ q, q ∉ [Part.proc] → q ∉ eventParts → Part.Same t u q := h.same
  have mr : u.mr = t.mr := same .mr (by decide) (by decide)
  have wd : u.wd = t.wd := same .wd (by decide) (by decide)
  obtain ⟨⟨cause, raised, ready, auton⟩, ⟨m1, itcm, dtcm, layers, running⟩, ⟨m0, m2, m3⟩, loops, phases, regul,
    feeds, seq, rails⟩ := g
  refine ⟨⟨?_, k _ _ raised, ?_, ?_⟩, ⟨by rw [mr, m1], Eq.trans (same .itcm (by decide) (by decide)) itcm,
    Eq.trans (same .dtcm (by decide) (by decide)) dtcm, Eq.trans (same .layers (by decide) (by decide)) layers,
    by rw [wd, running]⟩,
    ⟨by rw [mr, m0], by rw [mr, m2], by rw [mr, m3]⟩,
    Eq.trans (same .loops (by decide) (by decide)) loops, Eq.trans (same .phases (by decide) (by decide)) phases,
    Eq.trans (same .regul (by decide) (by decide)) regul, Eq.trans (same .feeds (by decide) (by decide)) feeds,
    Eq.trans (same .seq (by decide) (by decide)) seq, fun a lo hi => ?_⟩
  · rw [h.get _ _ (by decide) (offEvents_of_page (by decide)), cause]
  · rw [h.get _ _ (by decide) (offEvents_of_page (by decide)), ready]
  · rw [h.get _ _ (by decide) (offEvents_of_page (by decide)), auton]
  · exact (OffRails.rd (by decide) h a lo hi).trans (rails a lo hi)

end Sys2Proof.Machine
end

section
/-! SUPPORT. What the watchdog may change short of its reset of D_PROC (R328 to R338): beside another cause in the same
clock, and at an expiry. -/
namespace Sys2Proof.Machine
open Sys2Proof

/-- The registers that the watchdog writes short of a reset. -/
def watchdogRegs : List Nat := [WD_LAST, WD_EXP, WD_STAT, RST_CAUSE, WD_SEQ]

/-- The watchdog's own registers and parts, and events, may change; of Burin only the watch over a trial start. -/
structure WatchdogFrame (s t : State) : Prop where
  frame : EventFrame watchdogRegs [.wd, .nv, .clk, .proc] s t
  mismatches : t.proc.mismatches = s.proc.mismatches

namespace WatchdogFrame
variable {s t u : State}

theorem refl : WatchdogFrame s s := ⟨.refl, rfl⟩
theorem trans (h : WatchdogFrame s t) (g : WatchdogFrame t u) : WatchdogFrame s u :=
  ⟨h.frame.trans g.frame, g.mismatches.trans h.mismatches⟩
/-- What leaves Burin's state alone. -/
theorem of_frame (h : EventFrame watchdogRegs [.wd, .nv, .clk] s t) : WatchdogFrame s t :=
  ⟨h.mono (fun _ => id) (by decide), by rw [h.same .proc (by decide) (by decide)]⟩
theorem ite {c : Prop} {_ : Decidable c} (h : WatchdogFrame s t) (g : WatchdogFrame s u) :
    WatchdogFrame s (if c then t else u) := by split <;> assumption
theorem ite_snd {α : Type} {c : Prop} {_ : Decidable c} {x y : α × State} (h : WatchdogFrame s x.2)
    (g : WatchdogFrame s y.2) : WatchdogFrame s (if c then x else y).2 := by split <;> assumption

theorem clockAt (c : Nat) : WatchdogFrame s (s.clockAt c) := .of_frame (.set_clk .refl (by decide))
theorem wdFire (code info : Nat) : WatchdogFrame s (s.wdFire code info) := by
  unfold State.wdFire
  refine .of_frame (.raise (.updWd (.putB _ _ (.putB _ _ (.bump _ (.wr _ .refl ?_) ?_) ?_) ?_) ?_) ?_) <;> decide
theorem trialConfirm : WatchdogFrame s s.trialConfirm := by
  unfold State.trialConfirm State.queueBoot
  exact ⟨.set_proc (.nvQueue1 .refl (by decide)) (by decide), rfl⟩
theorem wdPeriod (first : Bool) (clocks : Int) : WatchdogFrame s (s.wdPeriod first clocks) := by
  unfold State.wdPeriod
  exact .of_frame (.wr _ (.updWd .refl (by decide)) (by decide))
theorem wr_seq (w : Word) : WatchdogFrame s (s.wr WD_SEQ w) := .of_frame (.wr _ .refl (by decide))
theorem wdEnd : WatchdogFrame s s.wdEnd.2 := by
  unfold State.wdEnd
  refine .ite_snd .refl (.ite_snd ?_ .refl)
  exact (WatchdogFrame.ite .trialConfirm .refl).trans ((wr_seq _).trans (.wdPeriod _ _))
theorem wdIgnore (code slot src : Nat) : WatchdogFrame s (s.wdIgnore code slot src) := by
  unfold State.wdIgnore
  exact .of_frame (.raise (.putB _ _ .refl (by decide)) (by decide))
theorem wdCounted (d : Nat) : WatchdogFrame s (s.put WD_STAT WD_STAT_DONE d).wdWindow := by
  unfold State.wdWindow
  exact .of_frame (.putB _ _ (.put _ _ .refl (by decide)) (by decide))
theorem wdWord (w : Word) (src : Nat) : WatchdogFrame s (s.wdWord w src).2 := by
  unfold State.wdWord
  exact .ite_snd .refl (.ite_snd (.wdIgnore ..) (.ite_snd (.wdIgnore ..) (.ite_snd (.wdIgnore ..)
    (.ite_snd .refl (.ite_snd .refl (.wdCounted _))))))
theorem wdJudge (w : Word) (src : Nat) : WatchdogFrame s (s.wdJudge w src).2 := by
  have h : WatchdogFrame s s.wdEnd.2 := .wdEnd
  unfold State.wdJudge
  split
  · split
    · rename_i e; rwa [e] at h
    · rename_i e; rw [e] at h; exact h.trans (.wdWord _ _)
  · exact .wdWord _ _
/-- Whatever the watchdog's event of the same clock is (R338). -/
theorem wdBeside (e : WdEvent) : WatchdogFrame s (s.wdBeside e) := by
  have fires : ∀ r : Verdict × State, WatchdogFrame s r.2 → WatchdogFrame s (match r.1 with
      | some (code, info) => r.2.wdFire code info
      | none => r.2) := fun r h => by
    split
    · exact h.trans (.wdFire _ _)
    · exact h
  refine fires _ ?_
  cases e with
  | none => exact .refl
  | ends => exact .ite_snd ((clockAt _).trans .wdEnd) .refl
  | checkin w src clock => exact (clockAt _).trans (.wdJudge _ _)

end WatchdogFrame

theorem offRails_watchdogRegs : OffRails watchdogRegs := by decide

/-- An expiry shows its code (R333). -/
theorem State.wdFire_code (s : State) (code info : Nat) : (s.wdFire code info).get WD_LAST WD_LAST_CODE = code % 256 := by
  unfold State.wdFire
  rw [State.raise_get _ _ _ _ _ _ _ (by decide) (offEvents_of_page (by decide)), State.updWd_get,
    State.get_putB_ne _ _ _ _ _ _ (by decide),
    State.get_putB_ne _ _ _ _ _ _ (by decide), State.get_bump_ne _ _ _ _ _ (by decide), State.get_wr_same,
    getF_setF_ne _ _ _ _ (by decide), getF_setF _ _ _ (by decide)]
  rfl
/-- An expiry drives WD_OUT (R334). -/
theorem State.wdFire_out (s : State) (code info : Nat) : (s.wdFire code info).get WD_STAT WD_STAT_OUT = 1 := by
  unfold State.wdFire
  rw [State.raise_get _ _ _ _ _ _ _ (by decide) (offEvents_of_page (by decide)), State.updWd_get,
    State.get_putB_ne _ _ _ _ _ _ (by decide),
    State.get_putB _ _ _ _ (by decide) (by decide)]
  rfl
theorem State.wdFire_raised (s : State) (code info : Nat) : (s.wdFire code info).raisedCode 0x18 code :=
  State.raise_raised _ _ _ _ _ (by omega)

/-- An expiry and the reset it makes (R333, R334). -/
theorem State.wdFire_procReset (s : State) (code info : Nat) (h : code < 256) :
    let t := (s.wdFire code info).procReset RST_CAUSE_WDOG
    t.proc.mode = .held ∧ t.get WD_LAST WD_LAST_CODE = code ∧ t.get WD_STAT WD_STAT_OUT = 1 ∧
      t.raisedCode 0x18 code ∧ s.ProcReset t RST_CAUSE_WDOG := by
  have keeps : ∀ (u : State) (a : Nat) (f : Fld), a = WD_LAST ∨ a = WD_STAT →
      (u.procReset RST_CAUSE_WDOG).get a f = u.get a f := by
    rintro u a f (rfl | rfl)
    all_goals
      unfold State.get
      rw [State.procReset_rd _ _ _ (by decide) (offEvents_of_page (by decide)) (by decide),
        State.rd_putB_ne _ _ _ _ _ (by decide)]
  refine ⟨State.procReset_mode _ _, ?_, ?_, ?_, ?_⟩
  · rw [keeps _ _ _ (.inl rfl), State.wdFire_code, Nat.mod_eq_of_lt h]
  · rw [keeps _ _ _ (.inr rfl), State.wdFire_out]
  · exact State.procReset_keepsRaised _ _ _ _ (State.wdFire_raised _ _ _)
  · exact .before (WatchdogFrame.wdFire code info).frame offRails_watchdogRegs (by decide)
      (State.procReset_leaves _ _ (by decide) (by decide))

end Sys2Proof.Machine
end

section
/-! PROOF. The causes of a D_PROC reset (R15, R22, R63, R64, R73, R87, R88): one lemma per cause, and the statement. -/
namespace Sys2Proof.Machine
open Sys2Proof

section
variable (s : State)

/-- R64: a pulse of RESET_N, where it is enabled and Burin runs or is fenced. -/
theorem execResetNPulse_resets (e : WdEvent) (run : s.inRun = true) (en : s.get RST_CFG RST_CFG_PIN_EN = 1)
    (mode : s.proc.mode ∈ [.firmware, .recovery, .fenced]) :
    Answers (.resetNPulse e) s fun t => t.proc.mode = .held ∧ s.ProcReset t RST_CAUSE_PIN := by
  have g : (s.inRun && s.flag RST_CFG RST_CFG_PIN_EN &&
      (s.proc.mode == .firmware || s.proc.mode == .recovery || s.proc.mode == .fenced)) = true := by
    simpa [run, State.flag, en, or_assoc] using mode
  have u : EventFrame [LS_STAT] [.proc] s (if s.proc.mode == .fenced then s.unfence else s) := by
    unfold State.unfence
    exact .ite (.set_proc (.put _ _ (.putB _ _ .refl (by decide)) (by decide)) (by decide)) .refl
  exact ⟨_, congrArg done (if_pos g), State.procReset_mode _ _, .before u (by decide) (by decide)
    (.before (WatchdogFrame.wdBeside e).frame offRails_watchdogRegs (by decide)
      (State.procReset_leaves _ _ (by decide) (by decide)))⟩

/-- R64: a pulse of RESET_N that is not enabled is ignored. -/
theorem execResetNPulse_ignored (e : WdEvent) (en : s.get RST_CFG RST_CFG_PIN_EN = 0) :
    Answers (.resetNPulse e) s fun t => t = s :=
  ⟨_, congrArg done (if_neg (by simp [State.flag, en])), rfl⟩

/-- What a lockstep mismatch does before it may fence Burin (R87). -/
def State.mismatched (e : WdEvent) : State :=
  let l := s.recentMismatches ++ [s.opt.ms]
  ((({ s.put LS_STAT LS_STAT_COUNT (min 7 l.length) with proc := { s.proc with mismatches := l } } : State).wdBeside e).raise
    0x10 0).procReset RST_CAUSE_LOCKSTEP

/-- The fence of Burin (R87). -/
def State.fenced : State :=
  { (s.putB LS_STAT LS_STAT_FENCED true).raise 0x11 0 with proc := { s.proc with mode := .fenced } }

theorem State.fenced_frame : EventFrame [LS_STAT] [.proc] s s.fenced :=
  .set_proc (.raise (.putB _ _ .refl (by decide)) (by decide)) (by decide)
theorem State.fenced_keepsRaised : KeepsRaised s s.fenced := KeepsRaised.refl.putB.raise
theorem State.fenced_raised : s.fenced.raisedCode 0x11 0 :=
  State.raise_raised (s.putB LS_STAT LS_STAT_FENCED true) _ _ _ _ (by decide)
theorem State.fenced_stat : s.fenced.get LS_STAT LS_STAT_FENCED = 1 :=
  (State.raise_get _ _ _ _ _ _ _ (by decide) (offEvents_of_page (by decide))).trans
    (State.get_putB s LS_STAT LS_STAT_FENCED true (by decide) (by decide))

/-- What a lockstep mismatch does where the cores run (R87). -/
theorem execLockstepMismatch_eq (e : WdEvent) (run : s.coresRun = true) :
    exec (.lockstepMismatch e) s = done (if 4 ≤ (s.recentMismatches ++ [s.opt.ms]).length then (s.mismatched e).fenced
      else s.mismatched e) := congrArg done (if_pos run)

theorem State.mismatched_raised (e : WdEvent) : (s.mismatched e).raisedCode 0x10 0 :=
  State.procReset_keepsRaised _ _ _ _ (State.raise_raised _ _ _ _ _ (by decide))
theorem State.mismatched_mode (e : WdEvent) : (s.mismatched e).proc.mode = .held := State.procReset_mode _ _
theorem State.mismatched_mismatches (e : WdEvent) :
    (s.mismatched e).proc.mismatches = s.recentMismatches ++ [s.opt.ms] := by
  unfold State.mismatched
  rw [State.procReset_proc]
  simp only [State.raise_proc]
  exact (WatchdogFrame.wdBeside e).mismatches
theorem State.mismatched_leaves (e : WdEvent) : s.ProcReset (s.mismatched e) RST_CAUSE_LOCKSTEP := by
  unfold State.mismatched
  have counted : EventFrame [LS_STAT] [.proc] s { s.put LS_STAT LS_STAT_COUNT
      (min 7 (s.recentMismatches ++ [s.opt.ms]).length) with
      proc := { s.proc with mismatches := s.recentMismatches ++ [s.opt.ms] } } :=
    .set_proc (.put _ _ .refl (by decide)) (by decide)
  exact .before counted (by decide) (by decide)
    (.before ((WatchdogFrame.wdBeside e).frame.raise (by decide)) offRails_watchdogRegs (by decide)
      (State.procReset_leaves _ _ (by decide) (by decide)))

/-- R87: one of the first three lockstep mismatches in 10 s. -/
theorem execLockstepMismatch_resets (e : WdEvent) (run : s.coresRun = true) (few : s.recentMismatches.length < 3) :
    Answers (.lockstepMismatch e) s fun t => t.proc.mode = .held ∧ t.raisedCode 0x10 0 ∧
      t.proc.mismatches = s.recentMismatches ++ [s.opt.ms] ∧ s.ProcReset t RST_CAUSE_LOCKSTEP := by
  have n : ¬ 4 ≤ (s.recentMismatches ++ [s.opt.ms]).length := by simp; omega
  exact ⟨_, (execLockstepMismatch_eq s e run).trans (congrArg done (if_neg n)), s.mismatched_mode e,
    s.mismatched_raised e, s.mismatched_mismatches e, s.mismatched_leaves e⟩

/-- R87: the fourth lockstep mismatch in 10 s fences Burin. -/
theorem execLockstepMismatch_fences (e : WdEvent) (run : s.coresRun = true) (many : 3 ≤ s.recentMismatches.length) :
    Answers (.lockstepMismatch e) s fun t => t.proc.mode = .fenced ∧ t.get LS_STAT LS_STAT_FENCED = 1 ∧
      t.raisedCode 0x10 0 ∧ t.raisedCode 0x11 0 ∧ s.ProcReset t RST_CAUSE_LOCKSTEP := by
  have n : 4 ≤ (s.recentMismatches ++ [s.opt.ms]).length := by simp; omega
  exact ⟨_, (execLockstepMismatch_eq s e run).trans (congrArg done (if_pos n)), rfl, State.fenced_stat _,
    State.fenced_keepsRaised _ _ _ (s.mismatched_raised e), State.fenced_raised _,
    (s.mismatched_leaves e).after (State.fenced_frame _) (State.fenced_keepsRaised _)⟩

/-- R88: a corrected TCM error raises and does nothing else. -/
theorem execTcmErrorCorrected_raises (run : s.coresRun = true) :
    Answers .tcmErrorCorrected s fun t => t.raisedCode 0x12 0 ∧ EventFrame [] [] s t :=
  ⟨_, congrArg done (if_pos run), State.raise_raised _ _ _ _ _ (by decide), .raise .refl (by decide)⟩

/-- R88: an uncorrectable TCM error. -/
theorem execTcmErrorUncorrectable_resets (b : Bool) (run : s.coresRun = true) :
    Answers (.tcmErrorUncorrectable b) s fun t => t.proc.mode = .held ∧ t.raisedCode 0x13 (if b then 2 else 1) ∧
      s.ProcReset t RST_CAUSE_TCM :=
  ⟨_, congrArg done (if_pos run), State.procReset_mode _ _,
    State.procReset_keepsRaised _ _ _ _ (State.raise_raised _ _ _ _ _ (by omega)),
    .before (R := []) (P := []) (.raise .refl (by decide)) (by decide) (by decide)
      (State.procReset_leaves _ _ (by decide) (by decide))⟩

/-- R73: the ROM that reaches its limit is reset as by an expiry of the watchdog. -/
theorem execRomLimitExpiry_resets (run : s.inRun = true) (rom : s.proc.mode = .rom) (ends : s.wdEndsNow = true) :
    Answers .romLimitExpiry s fun t => t.proc.mode = .held ∧ t.get WD_LAST WD_LAST_CODE = 5 ∧
      t.get WD_STAT WD_STAT_OUT = 1 ∧ t.raisedCode 0x18 5 ∧ s.ProcReset t RST_CAUSE_WDOG := by
  have g : (s.inRun && s.proc.mode == .rom && s.wdEndsNow) = true := by simp [run, rom, ends]
  have expires : s.atEnd.wdEnd = (some (5, 0), s.atEnd) := if_pos (by simp [State.atEnd, State.clockAt, rom])
  have settled : State.wdSettle s.atEnd.wdEnd = (s.atEnd.wdFire 5 0).procReset RST_CAUSE_WDOG := by rw [expires]; rfl
  obtain ⟨held, code, out, raised, leaves⟩ := State.wdFire_procReset s.atEnd 5 0 (by decide)
  exact ⟨_, (congrArg done (if_pos g)).trans (congrArg done settled), held, code, out, raised,
    .before (WatchdogFrame.clockAt _).frame offRails_watchdogRegs (by decide) leaves⟩

end

/-- Settles O17: each cause comes to `State.procReset`, which leaves what `State.ProcReset` says; what a cause does beside
it touches neither rail, feed, thread nor measurement. -/
theorem processorResets : Obligations.ProcessorResets := fun s =>
  ⟨fun run en mode e => execResetNPulse_resets s e run en mode,
    fun en e => execResetNPulse_ignored s e en,
    fun run few e => execLockstepMismatch_resets s e run few,
    fun run many e => execLockstepMismatch_fences s e run many,
    execTcmErrorCorrected_raises s,
    fun b run => execTcmErrorUncorrectable_resets s b run,
    execRomLimitExpiry_resets s⟩

end Sys2Proof.Machine
end

section
/-! PROOF. The machine right after reset (R67, R82). -/
namespace Sys2Proof.Machine
open Sys2Proof

/-- R82: the measurement registers are zero after reset. -/
theorem State.reset_mr (n : Fin 4) : State.reset.mr[n] = 0 := Vector.getElem_replicate n.isLt

/-- Reset lists nothing in any store, so that each is canonical. -/
theorem State.reset_wf : State.reset.Wf := ⟨⟨rfl, rfl⟩, rfl, rfl, rfl⟩

/-- A register that reads zero starts a chain of extensions. -/
theorem State.reset_chained : State.reset.Chained := fun n => by
  rw [State.reset_mr]
  exact .start

/-- Settles O5: the empty register file reads every register's reset value. -/
theorem resetState : Obligations.ResetState :=
  ⟨fun _ => rfl, rfl, State.reset_mr, rfl, State.reset_wf, State.reset_chained⟩

end Sys2Proof.Machine
end

section
/-! PROOF. The source of MAIN and the crystal (R50, R51, R56, R367): one lemma per event, and the statement. -/
namespace Sys2Proof.Machine
open Sys2Proof

/-! ### Fields through the operations of the clock -/

/-- A raise leaves every register outside the two pages of the collector and the interrupt controller. -/
theorem State.get_raise_off (s : State) (e c h : Nat) (d : List Byte) (a : Nat) (f : Fld) (he : e < 256)
    (k : a / 0x1000 ≠ 0x40002 ∧ a / 0x1000 ≠ 0x40004) : (s.raise e c h d).get a f = s.get a f :=
  State.raise_get _ _ _ _ _ _ _ he (offEvents_of_page k)

/-- A field of CLK_STAT reads what it was set to. -/
theorem State.get_setClk (s : State) (f : Fld) (b : Bool) (h : f.lo + f.w ≤ 32) (w : f.w = 1) :
    (s.setClk f b).get CLK_STAT f = if b then 1 else 0 := State.get_putB _ _ _ _ h w
/-- Another field of CLK_STAT keeps its value. -/
theorem State.get_setClk_field (s : State) (f g : Fld) (b : Bool) (h : f.lo + f.w ≤ g.lo ∨ g.lo + g.w ≤ f.lo) :
    (s.setClk f b).get CLK_STAT g = s.get CLK_STAT g := State.get_putB_field _ _ _ _ _ h
/-- Every field of another register keeps its value. -/
theorem State.get_setClk_ne (s : State) (f g : Fld) (b : Bool) (a : Nat) (h : a ≠ CLK_STAT) :
    (s.setClk f b).get a g = s.get a g := State.get_putB_ne _ _ _ _ _ _ h
theorem Frame.setClk {P : List Part} {s t : State} {R : List Nat} (f : Fld) (b : Bool) (h : Frame R P s t)
    (m : CLK_STAT ∈ R) : Frame R P s (t.setClk f b) := h.putB _ _ m
theorem EventFrame.setClk {P : List Part} {s t : State} {R : List Nat} (f : Fld) (b : Bool) (h : EventFrame R P s t)
    (m : CLK_STAT ∈ R) : EventFrame R P s (t.setClk f b) := h.putB _ _ m

section
variable (s : State) (x : ClkSrc)

@[simp] theorem State.setClk_clk (f : Fld) (b : Bool) : (s.setClk f b).clk = s.clk := rfl
@[simp] theorem State.toSource_clk : (s.toSource x).clk = { s.clk with source := x } := State.raise_clk _ _ _ _ _
@[simp] theorem State.toSource_bak : (s.toSource x).bak = s.bak := State.raise_bak _ _ _ _ _
theorem State.get_toSource (a : Nat) (f : Fld) (k : a / 0x1000 ≠ 0x40002 ∧ a / 0x1000 ≠ 0x40004) :
    (s.toSource x).get a f = s.get a f := State.get_raise_off _ _ _ _ _ _ _ (by decide) k
/-- R51: MAIN's change of source is raised. -/
theorem State.toSource_raised : (s.toSource x).raisedCode 0x03 0 := State.raise_raised _ _ _ _ _ (by decide)
theorem KeepsRaised.toSource {u : State} (h : KeepsRaised u s) : KeepsRaised u (s.toSource x) :=
  KeepsRaised.raise (h.trans (.of_flt rfl))
theorem EventFrame.toSource {R : List Nat} {P : List Part} {u : State} (h : EventFrame R P u s) (m : Part.clk ∈ P) :
    EventFrame R P u (s.toSource x) := (h.updClk m).raise (by decide)

end

/-! ### REF (R50, R51) -/

section
variable (s : State)

/-- REF_PRESENT and PLL_LOCK of a lost REF_IN (R51). -/
def State.refGone : State := (s.setClk CLK_STAT_REF_PRESENT false).setClk CLK_STAT_PLL_LOCK false
/-- REF_PRESENT and PLL_LOCK of a REF_IN that the PLL follows (R50). -/
def State.refLocked : State := (s.setClk CLK_STAT_REF_PRESENT true).setClk CLK_STAT_PLL_LOCK true

theorem State.refGone_frame : Frame [CLK_STAT] [] s s.refGone :=
  .setClk _ _ (.setClk _ _ .refl (by decide)) (by decide)
theorem State.refLocked_frame : Frame [CLK_STAT] [] s s.refLocked :=
  .setClk _ _ (.setClk _ _ .refl (by decide)) (by decide)
@[simp] theorem State.refGone_present : s.refGone.get CLK_STAT CLK_STAT_REF_PRESENT = 0 := by
  simp (disch := decide) [State.refGone, State.get_setClk, State.get_setClk_field]
@[simp] theorem State.refGone_lock : s.refGone.get CLK_STAT CLK_STAT_PLL_LOCK = 0 := by
  simp (disch := decide) [State.refGone, State.get_setClk]
@[simp] theorem State.refLocked_present : s.refLocked.get CLK_STAT CLK_STAT_REF_PRESENT = 1 := by
  simp (disch := decide) [State.refLocked, State.get_setClk, State.get_setClk_field]
@[simp] theorem State.refLocked_lock : s.refLocked.get CLK_STAT CLK_STAT_PLL_LOCK = 1 := by
  simp (disch := decide) [State.refLocked, State.get_setClk]

section
variable (run : s.inRun = true)
include run

/-- What the loss of REF_IN does in RUN (R51). -/
theorem execRefInLoss_eq : exec .refInLoss s = done (if s.clk.source == .ref && !s.clkBit CLK_STAT_HOLDOVER then
    (s.refGone.setClk CLK_STAT_HOLDOVER true).raise 0x03 0 else s.refGone) := by
  have h : s.refGone.clkBit CLK_STAT_HOLDOVER = s.clkBit CLK_STAT_HOLDOVER := by
    simp (disch := decide) only [State.clkBit, State.flag, State.refGone, State.get_setClk_field]
  rw [← h]
  exact congrArg done (if_pos run)

/-- R51: the source REF goes into holdover. -/
theorem execRefInLoss_holdsOver (src : s.clk.source = .ref) (locked : s.get CLK_STAT CLK_STAT_HOLDOVER = 0) :
    Answers .refInLoss s fun t => t.get CLK_STAT CLK_STAT_REF_PRESENT = 0 ∧ t.get CLK_STAT CLK_STAT_PLL_LOCK = 0 ∧
      t.get CLK_STAT CLK_STAT_HOLDOVER = 1 ∧ t.clk.source = .ref ∧ t.raisedCode 0x03 0 ∧ EventFrame [CLK_STAT] [] s t := by
  refine ⟨_, (execRefInLoss_eq s run).trans (congrArg done (if_pos ?_)), ?_, ?_, ?_, ?_,
    State.raise_raised _ _ _ _ _ (by decide), .raise (.setClk _ _ (.of_frame s.refGone_frame) (by decide)) (by decide)⟩
  · simp [src, State.clkBit, State.flag, locked]
  · simp (disch := decide) [State.get_raise_off, State.get_setClk_field]
  · simp (disch := decide) [State.get_raise_off, State.get_setClk_field]
  · simp (disch := decide) [State.get_raise_off, State.get_setClk]
  · rw [State.raise_clk]; exact src

/-- R51: another source goes on. -/
theorem execRefInLoss_goesOn (src : s.clk.source ≠ .ref) :
    Answers .refInLoss s fun t => t.get CLK_STAT CLK_STAT_REF_PRESENT = 0 ∧ t.get CLK_STAT CLK_STAT_PLL_LOCK = 0 ∧
      t.clk.source = s.clk.source ∧ Frame [CLK_STAT] [] s t :=
  ⟨_, (execRefInLoss_eq s run).trans (congrArg done (if_neg (by simp [src]))), s.refGone_present, s.refGone_lock, rfl,
    s.refGone_frame⟩

/-- R51, R56: the holdover ends in XTAL, or in FREE while the crystal fault stands. -/
theorem execHoldoverExpiry_fallsBack (src : s.clk.source = .ref) (held : s.get CLK_STAT CLK_STAT_HOLDOVER = 1) :
    Answers .holdoverExpiry s fun t => t.get CLK_STAT CLK_STAT_HOLDOVER = 0 ∧
      t.clk.source = (if s.get CLK_STAT CLK_STAT_XTAL_OK = 1 then .xtal else .free) ∧ t.raisedCode 0x03 0 ∧
      EventFrame [CLK_STAT] [.clk] s t := by
  have g : (s.inRun && s.clk.source == .ref && s.clkBit CLK_STAT_HOLDOVER) = true := by
    simp [run, src, State.clkBit, State.flag, held]
  refine ⟨_, congrArg done (if_pos g), ?_, ?_, State.toSource_raised _ _,
    .toSource _ _ (.setClk _ _ .refl (by decide)) (by decide)⟩
  · simp (disch := decide) [State.get_toSource, State.get_setClk]
  · have ok : s.get CLK_STAT CLK_STAT_XTAL_OK < 2 := Nat.mod_lt _ (by decide)
    simp only [State.toSource_clk, State.xtalOrFree, State.clkBit, State.flag, bne_iff_ne]
    exact if_congr (by omega) rfl rfl

/-- R51: REF is taken up again. -/
theorem execRefReturn_takesRef (force : s.clk.inForce = true) (cfg : s.get CLK_CFG CLK_CFG_SRC = 2)
    (src : s.clk.source ≠ .ref) :
    Answers .refReturn s fun t => t.clk.source = .ref ∧ t.get CLK_STAT CLK_STAT_REF_PRESENT = 1 ∧
      t.get CLK_STAT CLK_STAT_PLL_LOCK = 1 ∧ t.get CLK_STAT CLK_STAT_HOLDOVER = 0 ∧ t.raisedCode 0x03 0 ∧
      EventFrame [CLK_STAT] [.clk] s t := by
  have c : s.srcCfg = .ref := by simp [State.srcCfg, cfg]
  have g : (s.inRun && s.clk.inForce && s.srcCfg == .ref &&
      (s.clk.source != .ref || s.clkBit CLK_STAT_HOLDOVER)) = true := by simp [run, force, c, src]
  refine ⟨(s.refLocked.setClk CLK_STAT_HOLDOVER false).toSource .ref, congrArg done (if_pos g), ?_, ?_, ?_, ?_,
    State.toSource_raised _ _,
    .toSource _ _ (.setClk _ _ (.mono (.of_frame s.refLocked_frame) (fun _ => id) (by decide)) (by decide)) (by decide)⟩
  · simp
  · simp (disch := decide) [State.get_toSource, State.get_setClk_field]
  · simp (disch := decide) [State.get_toSource, State.get_setClk_field]
  · simp (disch := decide) [State.get_toSource, State.get_setClk]

/-- R50: the PLL locks. -/
theorem execPllLock_locks :
    Answers .pllLock s fun t => t.get CLK_STAT CLK_STAT_REF_PRESENT = 1 ∧ t.get CLK_STAT CLK_STAT_PLL_LOCK = 1 ∧
      Frame [CLK_STAT] [] s t :=
  ⟨_, congrArg done (if_pos run), s.refLocked_present, s.refLocked_lock, s.refLocked_frame⟩

/-- R50: the discipline of XTAL locks. -/
theorem execDiscLock_locks (src : s.clk.source = .xtal) (ok : s.get CLK_STAT CLK_STAT_XTAL_OK = 1) :
    Answers .discLock s fun t => t.get CLK_STAT CLK_STAT_DISC_LOCK = 1 ∧ Frame [CLK_STAT] [] s t := by
  have g : (s.inRun && s.clk.source == .xtal && s.clkBit CLK_STAT_XTAL_OK) = true := by
    simp [run, src, State.clkBit, State.flag, ok]
  exact ⟨_, congrArg done (if_pos g), State.get_setClk _ _ _ (by decide) (by decide), .setClk _ _ .refl (by decide)⟩

end

/-! ### The crystal (R56, R367) -/

/-- CLK_STAT and ESN 0x04 of a crystal fault (R56). -/
def State.xtalLost : State := ((s.setClk CLK_STAT_XTAL_OK false).setClk CLK_STAT_DISC_LOCK false).raise 0x04 0
/-- The source after a crystal fault: XTAL falls back to FREE (R56). -/
def State.xtalLeft : State := if s.clk.source == .xtal then s.xtalLost.toSource .free else s.xtalLost
/-- The substitute calendar begins from the calendar (R367). -/
def State.substBegun : State :=
  (s.updOpt (fun o => { o with substCal := s.bak.cal, substStep := 0, substMs := 0 })).putB RTC_STAT RTC_STAT_SUBST true

theorem State.xtalLeft_clk :
    s.xtalLeft.clk = { s.clk with source := if s.clk.source = .xtal then .free else s.clk.source } := by
  unfold State.xtalLeft
  by_cases h : s.clk.source = .xtal
  · simp [h, State.xtalLost]
  · simp [h, State.xtalLost]
theorem State.xtalLeft_get (f : Fld) : s.xtalLeft.get CLK_STAT f = s.xtalLost.get CLK_STAT f := by
  unfold State.xtalLeft
  split
  · exact State.get_toSource _ _ _ _ (by decide)
  · rfl
theorem State.xtalLeft_bak : s.xtalLeft.bak = s.bak := by
  have h : s.xtalLost.bak = s.bak := State.raise_bak _ _ _ _ _
  unfold State.xtalLeft
  split
  · rw [State.toSource_bak, h]
  · exact h
theorem State.xtalLeft_raised : s.xtalLeft.raisedCode 0x04 0 := by
  have h : s.xtalLost.raisedCode 0x04 0 := State.raise_raised _ _ _ _ _ (by decide)
  exact KeepsRaised.ite (.toSource _ _ .refl) .refl _ _ h
theorem State.xtalLeft_frame : EventFrame [CLK_STAT] [.clk] s s.xtalLeft := by
  have h : EventFrame [CLK_STAT] [.clk] s s.xtalLost :=
    .raise (.setClk _ _ (.setClk _ _ .refl (by decide)) (by decide)) (by decide)
  exact .ite (.toSource _ _ h (by decide)) h

/-- R56, R367: a crystal fault. -/
theorem execCrystalFault_begins (run : s.inRun = true) (own : s.get RTC_STAT RTC_STAT_SUBST = 0) :
    Answers .crystalFault s fun t => t.get CLK_STAT CLK_STAT_XTAL_OK = 0 ∧ t.get CLK_STAT CLK_STAT_DISC_LOCK = 0 ∧
      t.get RTC_STAT RTC_STAT_SUBST = 1 ∧ t.opt.substCal = s.bak.cal ∧
      t.clk.source = (if s.clk.source = .xtal then .free else s.clk.source) ∧ t.raisedCode 0x04 0 ∧
      (s.clk.source = .xtal → t.raisedCode 0x03 0) ∧ EventFrame [CLK_STAT, RTC_STAT] [.clk, .opt] s t := by
  have g : (s.inRun && !s.flag RTC_STAT RTC_STAT_SUBST) = true := by simp [run, State.flag, own]
  have clk : s.xtalLost.clk = s.clk := State.raise_clk _ _ _ _ _
  have e : exec .crystalFault s = done s.xtalLeft.substBegun := by
    unfold State.xtalLeft
    rw [← clk]
    exact congrArg done (if_pos g)
  have stat : ∀ f, s.xtalLeft.substBegun.get CLK_STAT f = s.xtalLost.get CLK_STAT f := fun f =>
    (State.get_putB_ne _ _ _ _ _ _ (by decide)).trans (s.xtalLeft_get f)
  have kept : KeepsRaised s.xtalLeft s.xtalLeft.substBegun := .of_flt rfl
  refine ⟨_, e, ?_, ?_, State.get_putB _ _ _ _ (by decide) (by decide), s.xtalLeft_bak ▸ rfl, ?_,
    kept _ _ s.xtalLeft_raised, fun src => kept _ _ ?_,
    .putB _ _ (.updOpt (.mono s.xtalLeft_frame (by decide) (by decide)) (by decide)) (by decide)⟩
  · simp (disch := decide) [stat, State.xtalLost, State.get_raise_off, State.get_setClk, State.get_setClk_field]
  · simp (disch := decide) [stat, State.xtalLost, State.get_raise_off, State.get_setClk]
  · exact congrArg ClkSt.source s.xtalLeft_clk
  · rw [State.xtalLeft, if_pos (by simp [src])]
    exact State.toSource_raised _ _

/-- The substitute calendar is loaded, and the crystal is good again (R367). -/
def State.substLoaded : State :=
  (((s.updBak (fun b => { b with cal := s.opt.substCal, crystal := true })).putB RTC_STAT RTC_STAT_SUBST false).putB
    RTC_STAT RTC_STAT_VALID true).setClk CLK_STAT_XTAL_OK true
/-- The source after the crystal's return: XTAL is taken up again by a part that fell back from it to FREE (R51). -/
def State.xtalTaken : State :=
  if s.clk.inForce && s.srcCfg != .free && s.clk.source == .free then s.substLoaded.toSource .xtal else s.substLoaded

theorem State.substLoaded_srcCfg : s.substLoaded.srcCfg = s.srcCfg := by
  unfold State.srcCfg
  simp (disch := decide) only [State.substLoaded, State.get_setClk_ne, State.get_putB_ne, State.updBak_get]
theorem State.substLoaded_frame : EventFrame [CLK_STAT, RTC_STAT] [.clk, .bak] s s.substLoaded :=
  .setClk _ _ (.putB _ _ (.putB _ _ (.updBak .refl (by decide)) (by decide)) (by decide)) (by decide)
theorem State.xtalTaken_frame : EventFrame [CLK_STAT, RTC_STAT] [.clk, .bak] s s.xtalTaken :=
  .ite (.toSource _ _ s.substLoaded_frame (by decide)) s.substLoaded_frame
theorem State.xtalTaken_get (a : Nat) (f : Fld) (k : a / 0x1000 ≠ 0x40002 ∧ a / 0x1000 ≠ 0x40004) :
    s.xtalTaken.get a f = s.substLoaded.get a f := by
  unfold State.xtalTaken
  split
  · exact State.get_toSource _ _ _ _ k
  · rfl
theorem State.xtalTaken_bak : s.xtalTaken.bak = { s.bak with cal := s.opt.substCal, crystal := true } := by
  unfold State.xtalTaken
  split
  · exact State.toSource_bak _ _
  · rfl
theorem State.xtalTaken_source : s.xtalTaken.clk.source =
    if s.clk.inForce = true ∧ s.srcCfg ≠ .free ∧ s.clk.source = .free then .xtal else s.clk.source := by
  have h : s.substLoaded.clk = s.clk := rfl
  unfold State.xtalTaken
  simp only [Bool.and_eq_true, bne_iff_ne, beq_iff_eq, and_assoc]
  split
  · rw [State.toSource_clk]
  · rw [h]

/-- R51, R367: the crystal's return. -/
theorem execCrystalReturn_loads (run : s.inRun = true) (subst : s.get RTC_STAT RTC_STAT_SUBST = 1) :
    Answers .crystalReturn s fun t => t.bak.cal = s.opt.substCal ∧ t.bak.crystal = true ∧
      t.get RTC_STAT RTC_STAT_SUBST = 0 ∧ t.get RTC_STAT RTC_STAT_VALID = 1 ∧ t.get CLK_STAT CLK_STAT_XTAL_OK = 1 ∧
      t.clk.source = (if s.clk.inForce = true ∧ s.srcCfg ≠ .free ∧ s.clk.source = .free then .xtal
        else s.clk.source) ∧ EventFrame [CLK_STAT, RTC_STAT] [.clk, .bak] s t := by
  have g : (s.inRun && s.flag RTC_STAT RTC_STAT_SUBST) = true := by simp [run, State.flag, subst]
  have e : exec .crystalReturn s = done s.xtalTaken := by
    unfold State.xtalTaken
    rw [← s.substLoaded_srcCfg]
    exact congrArg done (if_pos g)
  refine ⟨_, e, ?_, ?_, ?_, ?_, ?_, s.xtalTaken_source, s.xtalTaken_frame⟩
  · rw [s.xtalTaken_bak]
  · rw [s.xtalTaken_bak]
  · rw [s.xtalTaken_get _ _ (by decide)]
    simp (disch := decide) [State.substLoaded, State.get_setClk_ne, State.get_putB, State.get_putB_field]
  · rw [s.xtalTaken_get _ _ (by decide)]
    simp (disch := decide) [State.substLoaded, State.get_setClk_ne, State.get_putB]
  · rw [s.xtalTaken_get _ _ (by decide)]
    exact State.get_setClk _ _ _ (by decide) (by decide)

end

/-- Settles O41: each event changes CLK_STAT, and where MAIN changes its source comes to `State.toSource`. -/
theorem clockSource : Obligations.ClockSource := fun s run =>
  ⟨execRefInLoss_holdsOver s run, execRefInLoss_goesOn s run, execHoldoverExpiry_fallsBack s run,
    execRefReturn_takesRef s run, execPllLock_locks s run, execDiscLock_locks s run, execCrystalFault_begins s run,
    execCrystalReturn_loads s run⟩

end Sys2Proof.Machine
end

section
/-! PROOF. The sibling (R61, R62, R406): the marks of FRAME, the link and its cells, one lemma per event, and the
statement. -/
namespace Sys2Proof.Machine
open Sys2Proof

section
variable (s : State)

/-! ### Frame marks (R61, R62) -/

/-- R61: what a follower's mark shows and does to the frame. -/
theorem execFrameMark_shows (leader : BitVec 32) (ofs : BitVec 16) (on : s.engines = true) (role : s.frmRole = 2)
    (up : s.get LINK_STAT LINK_STAT_UP = 1) :
    Answers (.frameMark leader ofs) s fun t => t.get FRM_SIB FRM_SIB_OFS = ofs.toNat ∧
      t.rd FRM_SIB_DELTA = leader - BitVec.ofNat 32 s.frmNum ∧ t.clk.markSeen = true ∧ t.clk.missed = 0 ∧
      t.clk.goodMarks = (if ofs.toInt.natAbs ≤ 2 then s.clk.goodMarks + 1 else 0) ∧
      (16 < ofs.toInt.natAbs → t.clk.lengthen = (ofs.toInt % 2000).toNat ∧ t.clk.steering = false) ∧
      (ofs.toInt.natAbs ≤ 16 → s.clk.marked = true → s.clk.source ≠ .ref →
        t.clk.lengthen = s.clk.lengthen ∧ t.clk.steering = true) ∧ Frame [FRM_SIB, FRM_SIB_DELTA] [.clk] s t := by
  have g : (s.engines && s.frmRole == 2 && s.flag LINK_STAT LINK_STAT_UP) = true := by simp [on, role, State.flag, up]
  refine ⟨_, congrArg done (if_pos g), ?_, State.rd_wr_same _ _ _, rfl, rfl, rfl, fun far => ?_, fun near marked src => ?_,
    .updClk (.wr _ (.put _ _ .refl (by decide)) (by decide)) (by decide)⟩
  · rw [State.updClk_get, State.get_wr_ne _ _ _ _ _ (by decide), State.get_put _ _ _ _ (by decide)]
    exact Nat.mod_eq_of_lt ofs.isLt
  · simp [State.updClk, far, lengthenBy]
  · simp [State.updClk, Nat.not_lt.mpr near, marked, src]

/-- R62: a mark that reaches the leader is raised. -/
theorem execFrameMarkAtLeader_raises (on : s.engines = true) (role : s.frmRole = 1) :
    Answers .frameMarkAtLeader s fun t => t.raisedCode 0x7E 0 ∧ EventFrame [] [] s t :=
  ⟨_, congrArg done (if_pos (by simp [on, role])), State.raise_raised _ _ _ _ _ (by decide), .raise .refl (by decide)⟩

/-- R61: after 8 good marks the follower is aligned. -/
theorem execFrmAlignedSet_aligns (on : s.engines = true) (role : s.frmRole = 2) (good : 8 ≤ s.clk.goodMarks)
    (apart : s.get CLK_STAT CLK_STAT_FRM_ALIGNED = 0) :
    Answers .frmAlignedSet s fun t => t.get CLK_STAT CLK_STAT_FRM_ALIGNED = 1 ∧ Frame [CLK_STAT] [] s t :=
  ⟨_, congrArg done (if_pos (by simp [on, role, good, State.clkBit, State.flag, apart])),
    State.get_setClk _ _ _ (by decide) (by decide), .setClk _ _ .refl (by decide)⟩

/-- R61: after 8 missing marks it is not. -/
theorem execFrameMarksMissing_parts (on : s.engines = true) (role : s.frmRole = 2) (missed : 8 ≤ s.clk.missed)
    (first : s.clk.marksLost = false) :
    Answers .frameMarksMissing s fun t => t.get CLK_STAT CLK_STAT_FRM_ALIGNED = 0 ∧ t.clk.marksLost = true ∧
      t.clk.goodMarks = 0 ∧ t.clk.steering = false ∧ t.raisedCode 0x7D 0 ∧ EventFrame [CLK_STAT] [.clk] s t := by
  refine ⟨_, congrArg done (if_pos (by simp [on, role, missed, first])), ?_, ?_, ?_, ?_,
    State.raise_raised _ _ _ _ _ (by decide), .raise (.setClk _ _ (.updClk .refl (by decide)) (by decide)) (by decide)⟩
  · simp (disch := decide) [State.get_raise_off, State.get_setClk]
  all_goals simp

/-! ### The link (R406) -/

/-- R406: the link comes up after 16 right cells. -/
theorem execLinkUp_comesUp (on : s.engines = true) (down : s.get LINK_STAT LINK_STAT_UP = 0) :
    Answers (.linkUp 0xFFFF) s fun t => t.get LINK_STAT LINK_STAT_UP = 1 ∧ t.clk.marked = false ∧ t.clk.missed = 0 ∧
      Frame [LINK_STAT] [.clk] s t :=
  ⟨_, congrArg done (if_pos (by simp [on, State.flag, down])),
    State.get_putB s LINK_STAT LINK_STAT_UP true (by decide) (by decide), rfl, rfl,
    .updClk (.putB _ _ .refl (by decide)) (by decide)⟩

/-- R406: the latency that an echo measures. -/
theorem execEchoReceipt_measures (round delay : BitVec 16) (on : s.engines = true) (role : s.frmRole = 1)
    (up : s.get LINK_STAT LINK_STAT_UP = 1) :
    Answers (.echoReceipt round delay) s fun t =>
      t.get LINK_STAT LINK_STAT_LAT = min 255 ((round.toNat - delay.toNat) / 2) ∧ Frame [LINK_STAT] [] s t := by
  refine ⟨_, congrArg done (if_pos (by simp [on, role, State.flag, up])), ?_, .put _ _ .refl (by decide)⟩
  rw [State.get_put _ _ _ _ (by decide)]
  exact Nat.mod_eq_of_lt (lt_of_le_of_lt (Nat.min_le_left _ _) (by decide))

/-! ### Status cells (R262, R406) -/

/-- A bit of a status cell as a number. -/
def cellBit (v : BitVec 4) (h : Nat) : Nat := if v.getLsbD h then 1 else 0
/-- SEQ_SIB_FLG as the status cells give it: ARRIVED and PASSED of each thread (R262). -/
def sibFlags (ar pa : BitVec 4) : Nat :=
  (List.range 4).foldl (fun n h => n + cellBit ar h * 2 ^ (2 * h) + cellBit pa h * 2 ^ (2 * h + 1)) 0

theorem cellBit_le (v : BitVec 4) (h : Nat) : cellBit v h ≤ 1 := by unfold cellBit; split <;> omega
theorem sibFlags_eq (ar pa : BitVec 4) : sibFlags ar pa = cellBit ar 0 + 2 * cellBit pa 0 + 4 * cellBit ar 1 +
    8 * cellBit pa 1 + 16 * cellBit ar 2 + 32 * cellBit pa 2 + 64 * cellBit ar 3 + 128 * cellBit pa 3 := by
  simp [sibFlags, List.range_succ]
  omega
theorem getF_bitF_ofNat (n i : Nat) (h : n < 2 ^ 32) : getF (BitVec.ofNat 32 n) (bitF i) = n / 2 ^ i % 2 := by
  rw [← Nat.mod_eq_of_lt h]
  simp [getF, bitF, Nat.shiftRight_eq_div_pow]

/-- Each bit of a status cell stands at its place in SEQ_SIB_FLG. -/
theorem getF_sibFlags (ar pa : BitVec 4) (h : Fin 4) :
    getF (BitVec.ofNat 32 (sibFlags ar pa)) (bitF (2 * h.val)) = cellBit ar h ∧
      getF (BitVec.ofNat 32 (sibFlags ar pa)) (bitF (2 * h.val + 1)) = cellBit pa h := by
  have e := sibFlags_eq ar pa
  have a0 := cellBit_le ar 0
  have a1 := cellBit_le ar 1
  have a2 := cellBit_le ar 2
  have a3 := cellBit_le ar 3
  have p0 := cellBit_le pa 0
  have p1 := cellBit_le pa 1
  have p2 := cellBit_le pa 2
  have p3 := cellBit_le pa 3
  rw [getF_bitF_ofNat _ _ (by omega), getF_bitF_ofNat _ _ (by omega)]
  fin_cases h <;> simp only <;> omega

/-- R262, R406: what the status cells show. -/
theorem execSiblingStatus_shows (ids : Word) (ar pa : BitVec 4) (al : Bool) (fi fh : BitVec 7) (run : s.inRun = true) :
    Answers (.siblingStatus ids ar pa al fi fh) s fun t => t.rd SEQ_SIB_ID = ids ∧ t.seq.sibAge = 0 ∧
      (∀ h : Fin 4, getF (t.rd SEQ_SIB_FLG) (bitF (2 * h.val)) = (if ar.getLsbD h then 1 else 0) ∧
        getF (t.rd SEQ_SIB_FLG) (bitF (2 * h.val + 1)) = (if pa.getLsbD h then 1 else 0)) ∧
      t.link = { s.link with alert := al, farIn := fi.toNat, farHost := fh.toNat } ∧
      Frame [SEQ_SIB_ID, SEQ_SIB_FLG] [.seq, .link] s t := by
  have frame : Frame [SEQ_SIB_ID, SEQ_SIB_FLG] [.seq, .link] s (s.siblingStatus ids ar pa) := by
    unfold State.siblingStatus
    exact .updSeq (.wr _ (.wr _ .refl (by decide)) (by decide)) (by decide)
  have flags : (s.siblingStatus ids ar pa).rd SEQ_SIB_FLG = BitVec.ofNat 32 (sibFlags ar pa) := State.rd_wr_same _ _ _
  have shown : (s.siblingStatus ids ar pa).rd SEQ_SIB_ID = ids :=
    (State.rd_wr_ne _ _ _ _ (by decide)).trans (State.rd_wr_same _ _ _)
  exact ⟨_, congrArg done (if_pos run), shown, rfl, fun h => flags.symm ▸ getF_sibFlags ar pa h, rfl,
    frame.set_link (by decide)⟩

/-! ### A cell with a wrong CRC (R406) -/

/-- The first cell of a frame with a wrong CRC: counted and raised (R406). -/
def State.cellTold : State :=
  ({ s.bump LINK_STAT LINK_STAT_CRC_ERR with link := { s.link with crcSaid := true } } : State).raise 0x84 2

theorem State.cellBad_of_first (first : s.link.crcSaid = false) : s.cellBad = s.cellTold :=
  if_neg (by simp [first])
theorem State.cellTold_link : s.cellTold.link = { s.link with crcSaid := true } := State.raise_link _ _ _ _ _
theorem State.cellTold_count : s.cellTold.get LINK_STAT LINK_STAT_CRC_ERR =
    min (s.get LINK_STAT LINK_STAT_CRC_ERR + 1) (2 ^ LINK_STAT_CRC_ERR.w - 1) :=
  (State.get_raise_off _ _ _ _ _ _ _ (by decide) (by decide)).trans (State.get_bump s _ _ (by decide))
theorem State.cellTold_raised : s.cellTold.raisedCode 0x84 2 := State.raise_raised _ _ _ _ _ (by decide)
theorem State.cellTold_frame : EventFrame [LINK_STAT] [.link] s s.cellTold :=
  .raise (.set_link (.bump _ .refl (by decide)) (by decide)) (by decide)

/-- R406: a cell of no mailbox with a wrong CRC. -/
theorem execCellCrcError_tells (run : s.inRun = true) (first : s.link.crcSaid = false) (x : CellKind)
    (kind : x ∈ [CellKind.idle, .mark, .echo, .status0, .status1]) :
    Answers (.cellCrcError x) s fun t =>
      t.get LINK_STAT LINK_STAT_CRC_ERR = min (s.get LINK_STAT LINK_STAT_CRC_ERR + 1) (2 ^ LINK_STAT_CRC_ERR.w - 1) ∧
      t.link = { s.link with crcSaid := true } ∧ t.raisedCode 0x84 2 ∧ EventFrame [LINK_STAT] [.link] s t := by
  have e : exec (.cellCrcError x) s = done s.cellBad := by
    cases x with
    | cmd => exact absurd kind (by decide)
    | rsp => exact absurd kind (by decide)
    | idle | mark | echo | status0 | status1 => exact congrArg done (if_pos run)
  rw [s.cellBad_of_first first] at e
  exact ⟨_, e, s.cellTold_count, s.cellTold_link, s.cellTold_raised, s.cellTold_frame⟩

/-! ### Mailbox cells (R382, R406) -/

/-- A response word that completes its response hands it over while channel H has room for it. -/
theorem State.hostWord_last (w : Word) (last : (s.link.hpart ++ [w]).length = headLen ((s.link.hpart ++ [w]).getD 0 0) + 1)
    (room : s.link.hrx.length + s.link.hpart.length < 64) :
    s.hostWord w = { s with link := { s.link with hpart := [], hrx := s.link.hrx ++ s.link.hpart ++ [w] } } := by
  have fits : (s.link.hrx ++ (s.link.hpart ++ [w])).take 64 = s.link.hrx ++ s.link.hpart ++ [w] := by
    rw [List.take_of_length_le (by simp; omega), List.append_assoc]
  rw [← fits]
  exact if_neg (by omega)

/-- The response being collected is discarded, and the cell after number `n` is expected (R406). -/
def State.rspDropped (n : Nat) : State := (s.cellLost true).setCellSeq true n

theorem State.rspDropped_link (n : Nat) : (s.rspDropped n).link = { s.link with hpart := [], rspSeq := n % 16 } := rfl
theorem State.rspDropped_flt (n : Nat) : (s.rspDropped n).flt = s.flt := rfl
theorem State.rspDropped_get (n a : Nat) (f : Fld) : (s.rspDropped n).get a f = s.get a f := rfl
theorem State.rspDropped_frame (n : Nat) : Frame [] [.link] s (s.rspDropped n) :=
  .set_link (.set_link .refl (by decide)) (by decide)

section
variable (run : s.inRun = true)
include run

section
variable (w : Word) (k : BitVec 12) (layers : s.layers = true)
include layers

/-- R406: the last cell of a response, in its sequence, hands the response over. -/
theorem execMailboxCell_completes (seq : BitVec 4) (next : seq.toNat = s.link.rspSeq)
    (last : (s.link.hpart ++ [w]).length = headLen ((s.link.hpart ++ [w]).getD 0 0) + 1)
    (room : s.link.hrx.length + s.link.hpart.length < 64) :
    Answers (.mailboxCell true seq w true k) s fun t => t.link.hrx = s.link.hrx ++ s.link.hpart ++ [w] ∧
      t.link.hpart = [] ∧ t.link.rspSeq = (seq.toNat + 1) % 16 ∧ Frame [] [.link, .clk] s t := by
  have e : exec (.mailboxCell true seq w true k) s =
      done (((s.clockAt k.toNat).setCellSeq true (seq.toNat + 1)).hostWord w) :=
    congrArg done ((if_pos (by simp [run, layers])).trans ((if_neg (by simp)).trans (if_neg (not_not.mpr next))))
  rw [State.hostWord_last ((s.clockAt k.toNat).setCellSeq true (seq.toNat + 1)) w last room] at e
  exact ⟨_, e, rfl, rfl, rfl, .set_link (.set_link (.set_clk .refl (by decide)) (by decide)) (by decide)⟩

/-- R406: a cell out of its sequence discards the response. -/
theorem execMailboxCell_outOfSequence (seq : BitVec 4) (other : seq.toNat ≠ s.link.rspSeq) :
    Answers (.mailboxCell true seq w true k) s fun t => t.link.hpart = [] ∧ t.link.hrx = s.link.hrx ∧
      t.link.rspSeq = (seq.toNat + 1) % 16 ∧ Frame [] [.link, .clk] s t :=
  ⟨(s.clockAt k.toNat).rspDropped (seq.toNat + 1),
    congrArg done ((if_pos (by simp [run, layers])).trans ((if_neg (by simp)).trans (if_pos other))),
    rfl, rfl, rfl, .trans (.set_clk .refl (by decide)) ((State.rspDropped_frame _ _).mono (fun _ => id) (by decide))⟩

/-- R406: a cell with a wrong CRC discards the response, and its number is used up. -/
theorem execMailboxCell_badCrc (seq : BitVec 4) (first : s.link.crcSaid = false) :
    Answers (.mailboxCell true seq w false k) s fun t => t.link.hpart = [] ∧ t.link.hrx = s.link.hrx ∧
        t.link.rspSeq = (s.link.rspSeq + 1) % 16 ∧
        t.get LINK_STAT LINK_STAT_CRC_ERR = min (s.get LINK_STAT LINK_STAT_CRC_ERR + 1) (2 ^ LINK_STAT_CRC_ERR.w - 1) ∧
        t.raisedCode 0x84 2 ∧ EventFrame [LINK_STAT] [.link, .clk] s t := by
  have e : exec (.mailboxCell true seq w false k) s = done ((s.clockAt k.toNat).cellBad.rspDropped (s.link.rspSeq + 1)) :=
    congrArg done ((if_pos (by simp [run, layers])).trans (if_pos rfl))
  rw [(s.clockAt k.toNat).cellBad_of_first first] at e
  have link : (s.clockAt k.toNat).cellTold.link = { s.link with crcSaid := true } := State.cellTold_link _
  have frame : EventFrame [LINK_STAT] [.link, .clk] s (s.clockAt k.toNat).cellTold :=
    .trans (.set_clk .refl (by decide)) ((State.cellTold_frame _).mono (fun _ => id) (by decide))
  refine ⟨_, e, ?_, ?_, ?_, (State.rspDropped_get _ _ _ _).trans (State.cellTold_count _),
    KeepsRaised.of_flt (State.rspDropped_flt _ _) _ _ (State.cellTold_raised _),
    frame.trans (.mono (.of_frame (State.rspDropped_frame _ _)) (by decide) (by decide))⟩
  all_goals rw [State.rspDropped_link]
  rw [link]

end
end

/-! ### Channel H (R382, R406) -/

/-- R406: channel H takes a word while it has room. -/
theorem execMbxHtxWrite_takes (w : Word) (run : s.burinReaches = true) (room : s.link.htx.length < 64) :
    Answers (.mbxHtxWrite w) s fun t => t = { s with link := { s.link with htx := s.link.htx ++ [w] } } :=
  ⟨_, congrArg done ((if_pos run).trans (if_neg (Nat.not_le.mpr room))), rfl⟩
/-- R406: a full channel H refuses a word. -/
theorem execMbxHtxWrite_refuses (w : Word) (run : s.burinReaches = true) (full : 64 ≤ s.link.htx.length) :
    Answers (.mbxHtxWrite w) s fun t => t = s :=
  ⟨_, congrArg done ((if_pos run).trans (if_pos full)), rfl⟩

end

/-- Settles O42: each event writes what its lemma says, and a cell with a wrong CRC comes to `State.cellTold`. -/
theorem siblingLink : Obligations.SiblingLink := fun s =>
  ⟨execFrameMark_shows s, execFrameMarkAtLeader_raises s, execFrmAlignedSet_aligns s, execFrameMarksMissing_parts s,
    execLinkUp_comesUp s, execEchoReceipt_measures s, execSiblingStatus_shows s,
    fun seq w k run layers => ⟨execMailboxCell_completes s run w k layers seq,
      execMailboxCell_outOfSequence s run w k layers seq, execMailboxCell_badCrc s run w k layers seq⟩,
    execCellCrcError_tells s,
    fun w run => ⟨execMbxHtxWrite_takes s w run, execMbxHtxWrite_refuses s w run⟩⟩

end Sys2Proof.Machine
end

section
/-! SUPPORT. The raises that waited, as they are taken (R320): with the numbers of event sources (R323) they stay within a
raise's frame; `HeldRaise.esn` is any number, and FLT_INFO of a number past 255 lies outside the collector. -/
namespace Sys2Proof.Machine
open Sys2Proof

/-- Every raise that waits has the number of an event source (R323). -/
def State.HeldNumbered (s : State) : Prop := ∀ h ∈ s.flt.held, h.esn < 256

theorem EventFrame.raiseNow {R : List Nat} {P : List Part} {s t : State} {e c h : Nat} {d : List Byte} {b : Bool}
    (g : EventFrame R P s t) (he : e < 256) : EventFrame R P s (t.raiseNow e c h d b) :=
  g.trans ⟨fun _ _ o => State.raiseNow_rd _ _ _ _ _ _ _ he o, fun p _ o => by
    rw [show t.raiseNow e c h d b = _ from State.raiseNow_only ..]
    cases p <;> first | rfl | exact absurd (by decide) o⟩

/-- The raises of event sources that waited write no more than a raise may. -/
theorem State.raiseHeld_frame (s : State) (n : s.HeldNumbered) : EventFrame [] [] s s.raiseHeld := by
  unfold State.raiseHeld
  exact List.foldlRecOn (motive := EventFrame [] [] s) _ _ (.set_flt .refl) fun _ g h m => g.raiseNow (n h m)

/-- A raise that is taken counts in FLT_INFO of its number, wherever that word lies (R310). -/
theorem State.raiseNow_info_count (s : State) (e c h : Nat) (d : List Byte) (b : Bool) (o : offEvents (FLT_INFO e))
    (k : ¬(0xA0 ≤ e ∧ c = 0 ∧ b = false)) :
    (s.raiseNow e c h d b).get (FLT_INFO e) FLT_INFO_COUNT = min (s.get (FLT_INFO e) FLT_INFO_COUNT + 1) 4095 := by
  have bell := State.doorbell_rd s (BitVec.ofNat 32 (e * 2 ^ 24 + (c % 256 + 256 * h) % 2 ^ 24)) (FLT_INFO e) o
  have other : FLT_INFO e ≠ FLT_STICKY (e / 32) := by unfold FLT_INFO FLT_STICKY; omega
  unfold State.raiseNow
  dsimp only
  generalize s.doorbell (BitVec.ofNat 32 (e * 2 ^ 24 + (c % 256 + 256 * h) % 2 ^ 24)) = t at bell ⊢
  rw [if_neg (by simpa [and_assoc] using k)]
  have word : ∀ u : State, u.rd (FLT_INFO e) = (t.putB (FLT_STICKY (e / 32)) (bitF (e % 32)) true).infoWord e c
      (t.effClass e c b) b → u.get (FLT_INFO e) FLT_INFO_COUNT = min (s.get (FLT_INFO e) FLT_INFO_COUNT + 1) 4095 := by
    intro u hu
    unfold State.get
    rw [hu, State.infoWord, getF_setF_ne _ _ _ _ (by decide), getF_setF _ _ _ (by decide),
      State.get_putB_ne _ _ _ _ _ _ other, State.get, bell]
    exact Nat.mod_eq_of_lt (lt_of_le_of_lt (Nat.min_le_right _ _) (by decide))
  refine word _ ?_
  split
  all_goals
    change ((((t.putB _ _ true).wr (FLT_INFO e) _).ackClear _ _).noteDown _).rd (FLT_INFO e) = _
    rw [State.noteDown_rd, State.ackClear_rd, State.rd_wr_same]

/-- A raise under number 0x200, which is no event source (R323). -/
def strayRaise : HeldRaise := ⟨0x200, 1, 0, [], false⟩
/-- Its FLT_INFO word: 0x40003000, where WD_CFG stands. -/
def strayInfo : Nat := FLT_INFO 0x200

/-- Taking the stray raise writes to WD_CFG. -/
theorem State.raiseHeld_stray (s : State) (held : s.flt.held = [strayRaise])
    (clear : s.get strayInfo FLT_INFO_COUNT = 0) : s.raiseHeld.get strayInfo FLT_INFO_COUNT = 1 := by
  have taken := State.raiseNow_info_count { s with flt := { s.flt with held := [] } } 0x200 1 0 [] false
    (offEvents_of_page (by decide)) (by decide)
  rw [show State.get { s with flt := { s.flt with held := [] } } (FLT_INFO 0x200) FLT_INFO_COUNT = 0 from clear] at taken
  unfold State.raiseHeld
  rw [held]
  exact taken

end Sys2Proof.Machine
end

section
/-! PROOF. The power states (R66, R67): a wake takes the raises that waited, so that one of a number past the event
sources breaks the frame of the statement. -/
namespace Sys2Proof.Machine
open Sys2Proof

section
variable (s : State) (src : Nat)

/-- A wake up to the raises that waited (R68, R320). -/
def State.woken : State :=
  let s := ((s.putB PWR_WAKE_SRC (bitF src) true).putB PWR_STATE PWR_STATE_WARM true).contextsReset
  let s := { s.updTh (fun t => { t with on := false, last := none }) with power := .run }
  if s.flag ADC_CFG ADC_CFG_REF_EN then s.updAdc (fun a => { a with refAt := some s.clk.frames }) else s

/-- What a wake does after them: Burin's watchdog starts where he runs (R336). -/
def State.burinWoken : State :=
  if s.proc.mode == .firmware || s.proc.mode == .recovery then s.wdStart else s

theorem State.wake_eq : s.wake src = (s.woken src).raiseHeld.burinWoken := by
  simp only [State.wake, State.woken, State.burinWoken]

theorem State.woken_frame :
    Frame (PWR_WAKE_SRC :: PWR_STATE :: ctxStats) [.power, .ctx, .th, .adc] s (s.woken src) := by
  have rest : Frame (PWR_WAKE_SRC :: PWR_STATE :: ctxStats) [.power, .ctx, .th, .adc] s
      ((s.putB PWR_WAKE_SRC (bitF src) true).putB PWR_STATE PWR_STATE_WARM true).contextsReset :=
    .contextsReset (.putB _ _ (.putB _ _ .refl (by simp)) (by simp)) (by decide) fun a m => by simp [m]
  have on := (rest.updTh (f := fun t => { t with on := false, last := none }) (by decide)).set_power (a := .run) (by decide)
  unfold State.woken
  exact .ite (on.updAdc (by decide)) on
theorem State.burinWoken_frame : Frame [WD_SEQ, WD_STAT] [.wd] s s.burinWoken := by
  unfold State.burinWoken State.wdStart State.wdPeriod
  exact .ite (.wr _ (.updWd (.wr _ .refl (by decide)) (by decide)) (by decide)) .refl

/-- The frame that O39 gives a wake holds where every raise that waits has the number of an event source. -/
theorem State.wake_frame (n : s.HeldNumbered) :
    EventFrame (PWR_WAKE_SRC :: PWR_STATE :: WD_SEQ :: WD_STAT :: ctxStats) [.power, .ctx, .th, .adc, .wd] s
      (s.wake src) := by
  have woken := s.woken_frame src
  have raised : EventFrame [] [] (s.woken src) (s.woken src).raiseHeld :=
    State.raiseHeld_frame _ fun h m => n h (by rwa [woken.same .flt (by decide)] at m)
  rw [State.wake_eq]
  exact (EventFrame.of_frame (woken.mono (by simp +contextual) (by decide))).trans
    ((raised.mono (by simp) (by simp)).trans (.of_frame ((State.burinWoken_frame _).mono (by simp) (by decide))))

end

/-- A part in STANDBY that Port A may wake, with a stray raise waiting. -/
def strayStandby : State :=
  { State.reset.putB PWR_WAKE_EN (bitF 0) true with power := .standby, flt := { held := [strayRaise] } }

/-- The wake writes outside what the statement lists. -/
theorem strayStandby_wake : (strayStandby.wakeRequest 0).get strayInfo FLT_INFO_COUNT = 1 := by
  have off : strayInfo ∉ PWR_WAKE_SRC :: PWR_STATE :: ctxStats := by decide
  have woken := strayStandby.woken_frame 0
  have enabled : strayStandby.wakeRequest 0 = strayStandby.wake 0 := if_pos rfl
  rw [enabled, State.wake_eq, (State.burinWoken_frame _).get _ _ (by decide)]
  refine State.raiseHeld_stray _ ?_ ?_
  · rw [woken.same .flt (by decide)]; rfl
  · rw [woken.get _ _ off]; rfl

/-- Refutes O39: the raises that waited in STANDBY may carry any number, and the statement asks for no premise that keeps
them below 256. With one of number 0x200 waiting, the wake writes WD_CFG, which is none of the registers of the
statement's frame; with the premise the frame holds (`State.wake_frame`). -/
theorem not_powerStates : ¬ Obligations.PowerStates := by
  intro h
  obtain ⟨-, -, -, -, -, -, wakes, -⟩ := h strayStandby
  obtain ⟨t, e, -, -, -, frame⟩ := wakes 0 rfl rfl
  have reached : strayStandby.wakeRequest 0 = t := Host.Outcome.next.inj e
  subst reached
  have kept := frame.get strayInfo FLT_INFO_COUNT (by decide) (offEvents_of_page (by decide))
  exact absurd (strayStandby_wake.symm.trans kept) (by decide)

end Sys2Proof.Machine
end

section
/-! PROOF. The clock monitor (R54, R165): MAIN's resumption takes the raises that waited, so that one of a number past
the event sources breaks the frame of the statement. -/
namespace Sys2Proof.Machine
open Sys2Proof

/-! ### What a resumption writes beside the raises that waited (R118, R165) -/

section
variable {R : List Nat} {P : List Part} {s t : State}

theorem EventFrame.regLosePG {r : Fin 14} (h : EventFrame R P s t) (m : REG_STAT r ∈ R) :
    EventFrame R P s (t.regLosePG r) := by
  unfold State.regLosePG
  exact .ite (.raise (.putB _ _ h m) (by unfold regEsn; omega)) h
theorem EventFrame.uvAssert {r : Fin 14} (h : EventFrame R P s t) (p : Part.regul ∈ P) (m : REG_STAT r ∈ R) :
    EventFrame R P s (t.uvAssert r) := by
  unfold State.uvAssert
  have asserted := h.updReg (k := r) (f := fun x => { x with cmpSeen := true, pgRun := 0, uvNow := true }) p
  exact .ite (.regLosePG (.raise (.putB _ _ asserted m) (by unfold regEsn; omega)) m) asserted
theorem EventFrame.regResume {r : Fin 14} {up : Bool} {vout : Nat} (h : EventFrame R P s t) (p : Part.regul ∈ P)
    (m : REG_STAT r ∈ R) : EventFrame R P s (t.regResume r up vout) := by
  unfold State.regResume
  exact .ite h (.ite (.ite (.putB _ _ (.updReg h p) m) h) (.putB _ _ (.updReg (.uvAssert h p m) p) m))
theorem EventFrame.unsync {ret : Bool} {l : List (Fin 4)} (h : EventFrame R P s t) (p : Part.loops ∈ P)
    (m : ∀ k : Fin 4, LOOP_STAT k ∈ R) : EventFrame R P s (t.unsync ret l) := by
  induction l generalizing t with
  | nil => exact h
  | cons k r ih => exact ih (.updLoop (.putB _ _ h (m k)) p)
theorem EventFrame.reacquire (h : EventFrame R P s t) (p : Part.loops ∈ P) (m : ∀ k : Fin 4, LOOP_STAT k ∈ R)
    (q : SYNC_STAT ∈ R) : EventFrame R P s t.reacquire := .putB _ _ (.unsync h p m) q

end

/-- The registers that a resumption writes beside those of a raise. -/
def resumeRegs : List Nat := SYNC_STAT :: loopStats ++ (allFin 14).map fun r : Fin 14 => REG_STAT r

theorem State.resumedRegs_frame (s : State) (up : BitVec 14) (vout : Vector (BitVec 16) 14) :
    EventFrame resumeRegs [.regul, .loops] s
      ((allFin 14).foldl (fun s r => s.regResume r (up.getLsbD r) vout[r].toNat) s).reacquire := by
  have regs : ∀ r : Fin 14, REG_STAT r ∈ resumeRegs := by decide
  have loops : ∀ k : Fin 4, LOOP_STAT k ∈ resumeRegs := by decide
  exact .reacquire (.foldl .refl fun _ r => .regResume .refl (by decide) (regs r)) (by decide) loops (by decide)

/-- MAIN runs again (R54). -/
def State.mainRuns (s : State) : State := s.updClk (fun c => { c with stopped := false })
/-- What MAIN's resumption comes to (R54, R165). -/
def State.resumed (s : State) (up : BitVec 14) (vout : Vector (BitVec 16) 14) : State :=
  ((allFin 14).foldl (fun s r => s.regResume r (up.getLsbD r) vout[r].toNat) s.mainRuns.raiseHeld).reacquire

theorem execMainResume_eq (s : State) (up : BitVec 14) (vout : Vector (BitVec 16) 14) (on : s.power = .run)
    (stopped : s.clk.stopped = true) (one : s.clk.bothLost = false) :
    exec (.mainResume up vout) s = done (s.resumed up vout) :=
  congrArg done (if_pos (by simp [on, stopped, one]))

/-- The frame that O40 gives a resumption holds where every raise that waits has the number of an event source. -/
theorem State.resumed_frame (s : State) (up : BitVec 14) (vout : Vector (BitVec 16) 14) (n : s.HeldNumbered) :
    EventFrame (SYNC_STAT :: loopStats ++ (allFin 14).map fun r : Fin 14 => REG_STAT r) [.clk, .regul, .loops] s
      (s.resumed up vout) := by
  have running : EventFrame resumeRegs [.clk, .regul, .loops] s s.mainRuns := .updClk .refl (by decide)
  have raised : EventFrame resumeRegs [.clk, .regul, .loops] s.mainRuns s.mainRuns.raiseHeld :=
    (State.raiseHeld_frame s.mainRuns n).mono (by simp) (by simp)
  exact (running.trans raised).trans ((State.resumedRegs_frame _ up vout).mono (fun _ => id) (by decide))

/-- A part in RUN whose MAIN stands still, with a stray raise waiting. -/
def strayStopped : State :=
  { State.reset with power := .run, clk := { stopped := true }, flt := { held := [strayRaise] } }

/-- The resumption writes outside what the statement lists. -/
theorem strayStopped_resumed : (strayStopped.resumed 0 (Vector.replicate 14 0)).get strayInfo FLT_INFO_COUNT = 1 :=
  ((State.resumedRegs_frame _ 0 (Vector.replicate 14 0)).get _ _ (by decide) (offEvents_of_page (by decide))).trans
    (State.raiseHeld_stray _ rfl rfl)

/-- Refutes O40: the raises that waited while MAIN stood still may carry any number, and the statement asks for no
premise that keeps them below 256. With one of number 0x200 waiting, MAIN_RESUME writes WD_CFG, which is none of the
registers of the statement's frame; with the premise the frame holds (`State.resumed_frame`). -/
theorem not_clockMonitor : ¬ Obligations.ClockMonitor := by
  intro h
  obtain ⟨-, -, resumes, -⟩ := h strayStopped
  obtain ⟨t, e, -, -, -, -, -, -, frame⟩ := resumes 0 (Vector.replicate 14 0) rfl rfl rfl
  have reached : strayStopped.resumed 0 (Vector.replicate 14 0) = t :=
    Host.Outcome.next.inj ((execMainResume_eq strayStopped 0 _ rfl rfl rfl).symm.trans e)
  subst reached
  have kept := frame.get strayInfo FLT_INFO_COUNT (by decide) (offEvents_of_page (by decide))
  exact absurd (strayStopped_resumed.symm.trans kept) (by decide)

end Sys2Proof.Machine
end

section
/-! SUPPORT. What every command keeps: the canonical form of the stores, the chains of the measurement registers, and the
queue. -/
namespace Sys2Proof.Machine
open Sys2Proof

/-- No command leaves what `Keeps` says of a state and a later one: each by the lemma about its meaning. -/
theorem exec_keeps (c : Instr) (s : State) : OutKeeps s (exec c s) :=
  match c with
  | .coldStart .. => execColdStart_keeps _ _ _ _ _ _ s
  | .vsysFall .. => execVsysFall_keeps _ s
  | .wakeRequest .. => execWakeRequest_keeps _ s
  | .resetNPulse .. => execResetNPulse_keeps _ s
  | .lockstepMismatch .. => execLockstepMismatch_keeps _ s
  | .tcmErrorUncorrectable .. => execTcmErrorUncorrectable_keeps _ s
  | .dProcRelease .. => execDProcRelease_keeps _ _ s
  | .activeOscillatorLost .. => execActiveOscillatorLost_keeps _ _ _ _ s
  | .spareOscillatorLost .. => execSpareOscillatorLost_keeps _ _ s
  | .oscillatorRestartAttempt .. => execOscillatorRestartAttempt_keeps _ _ _ _ _ _ _ s
  | .mainResume .. => execMainResume_keeps _ _ s
  | .frameTick .. => execFrameTick_keeps _ s
  | .frameMark .. => execFrameMark_keeps _ _ s
  | .echoReceipt .. => execEchoReceipt_keeps _ _ s
  | .siblingStatus .. => execSiblingStatus_keeps _ _ _ _ _ _ s
  | .mailboxCell .. => execMailboxCell_keeps _ _ _ _ _ s
  | .extend .. => execExtend_keeps _ s
  | .softwareDoorbell .. => execSoftwareDoorbell_keeps _ s
  | .loopEnable .. => execLoopEnable_keeps _ s
  | .stageEnableDelayEnd .. => execStageEnableDelayEnd_keeps _ s
  | .compensatorUpdate .. => execCompensatorUpdate_keeps _ _ _ _ _ s
  | .referenceRampEnd .. => execReferenceRampEnd_keeps _ s
  | .loopPgSet .. => execLoopPgSet_keeps _ s
  | .loopDisable .. => execLoopDisable_keeps _ s
  | .softStopEnd .. => execSoftStopEnd_keeps _ s
  | .stgEnDeassert .. => execStgEnDeassert_keeps _ s
  | .loopSetpointChange .. => execLoopSetpointChange_keeps _ s
  | .periodChange .. => execPeriodChange_keeps _ s
  | .swapReq .. => execSwapReq_keeps _ s
  | .phCfgWrite .. => execPhCfgWrite_keeps _ _ s
  | .syncQualified .. => execSyncQualified_keeps _ _ _ _ _ s
  | .synced .. => execSynced_keeps _ _ s
  | .stgFltNAsserted .. => execStgFltNAsserted_keeps _ s
  | .imonSample .. => execImonSample_keeps _ _ s
  | .persistentPhaseOvercurrent .. => execPersistentPhaseOvercurrent_keeps _ s
  | .loopOvercurrent .. => execLoopOvercurrent_keeps _ s
  | .loopOvervoltage .. => execLoopOvervoltage_keeps _ s
  | .overvoltageHoldEnd .. => execOvervoltageHoldEnd_keeps _ s
  | .loopUndervoltage .. => execLoopUndervoltage_keeps _ s
  | .undershootTrip .. => execUndershootTrip_keeps _ s
  | .fireEnd .. => execFireEnd_keeps _ s
  | .undershootRearm .. => execUndershootRearm_keeps _ _ _ s
  | .brakeStart .. => execBrakeStart_keeps _ _ _ s
  | .brakeEnd .. => execBrakeEnd_keeps _ _ _ s
  | .brakeTmax .. => execBrakeTmax_keeps _ _ s
  | .phaseShed .. => execPhaseShed_keeps _ s
  | .shedPhasesJoin .. => execShedPhasesJoin_keeps _ s
  | .reshedHoldoffEnd .. => execReshedHoldoffEnd_keeps _ s
  | .imbalance .. => execImbalance_keeps _ s
  | .fence .. => execFence_keeps _ s
  | .substReq .. => execSubstReq_keeps _ s
  | .substitution .. => execSubstitution_keeps _ s
  | .regEnable .. => execRegEnable_keeps _ _ s
  | .regRampEnd .. => execRegRampEnd_keeps _ s
  | .regPgSet .. => execRegPgSet_keeps _ s
  | .regDisable .. => execRegDisable_keeps _ s
  | .regSetpointChange .. => execRegSetpointChange_keeps _ s
  | .regOvervoltage .. => execRegOvervoltage_keeps _ _ s
  | .swReverseCurrent .. => execSwReverseCurrent_keeps _ _ _ s
  | .regUndervoltage .. => execRegUndervoltage_keeps _ _ _ s
  | .peakCurrentLimit .. => execPeakCurrentLimit_keeps _ _ _ s
  | .ldCurrentLimit .. => execLdCurrentLimit_keeps _ _ s
  | .regPersistentOvercurrent .. => execRegPersistentOvercurrent_keeps _ _ s
  | .regOverTemperature .. => execRegOverTemperature_keeps _ s
  | .retryWaitEnd .. => execRetryWaitEnd_keeps _ _ s
  | .retriesReset .. => execRetriesReset_keeps _ s
  | .segmentMeasurement .. => execSegmentMeasurement_keeps _ s
  | .segmentRetry .. => execSegmentRetry_keeps _ _ _ s
  | .segmentPostponed2h .. => execSegmentPostponed2h_keeps _ _ s
  | .segmentFenceApplied .. => execSegmentFenceApplied_keeps _ s
  | .feedWindowEntry .. => execFeedWindowEntry_keeps _ s
  | .feedQualified .. => execFeedQualified_keeps _ s
  | .feedUvDisqualification .. => execFeedUvDisqualification_keeps _ _ _ s
  | .feedOvCutoff .. => execFeedOvCutoff_keeps _ _ s
  | .inrushFailed .. => execInrushFailed_keeps _ s
  | .quarantineEnd .. => execQuarantineEnd_keeps _ s
  | .feedDisable .. => execFeedDisable_keeps _ s
  | .reverseBlocking .. => execReverseBlocking_keeps _ s
  | .bowTrip .. => execBowTrip_keeps _ s
  | .stopCause .. => execStopCause_keeps _ s
  | .packRemoved .. => execPackRemoved_keeps _ s
  | .hibernationResult .. => execHibernationResult_keeps _ _ s
  | .cellUv .. => execCellUv_keeps _ s
  | .ggSocWrite .. => execGgSocWrite_keeps _ s
  | .halt .. => execHalt_keeps _ s
  | .enable .. => execEnable_keeps _ s
  | .disable .. => execDisable_keeps _ s
  | .setV .. => execSetV_keeps _ s
  | .wait .. => execWait_keeps _ s
  | .waitExpiry .. => execWaitExpiry_keeps _ s
  | .waitUntil .. => execWaitUntil_keeps _ s
  | .waitUntilSatisfied .. => execWaitUntilSatisfied_keeps _ s
  | .waitTimeout .. => execWaitTimeout_keeps _ s
  | .check .. => execCheck_keeps _ s
  | .jump .. => execJump_keeps _ s
  | .call .. => execCall_keeps _ s
  | .returnStep .. => execReturn_keeps _ s
  | .commit .. => execCommit_keeps _ s
  | .mark .. => execMark_keeps _ s
  | .snapshot .. => execSnapshot_keeps _ s
  | .barrier .. => execBarrier_keeps _ s
  | .barrierPass .. => execBarrierPass_keeps _ s
  | .seqStart .. => execSeqStart_keeps _ _ _ s
  | .seqStop .. => execSeqStop_keeps _ s
  | .seqFlagSet .. => execSeqFlagSet_keeps _ s
  | .seqFlagClr .. => execSeqFlagClr_keeps _ s
  | .stencilStoreWrite .. => execStencilStoreWrite_keeps _ _ s
  | .labelWrite .. => execLabelWrite_keeps _ _ s
  | .downStartByEvent .. => execDownStartByEvent_keeps _ s
  | .contextWrite .. => execContextWrite_keeps _ _ _ s
  | .urgentRequest .. => execUrgentRequest_keeps _ _ _ _ _ s
  | .urgentResult .. => execUrgentResult_keeps _ _ _ s
  | .refReadySet .. => execRefReadySet_keeps _ s
  | .referenceFault .. => execReferenceFault_keeps _ _ s
  | .calZero .. => execCalZero_keeps _ _ s
  | .calFull .. => execCalFull_keeps _ _ s
  | .calibrationCaptureDone .. => execCalibrationCaptureDone_keeps _ s
  | .adc2Takeover .. => execAdc2Takeover_keeps _ s
  | .stickyClear .. => execStickyClear_keeps _ _ s
  | .forceRaise .. => execForceRaise_keeps _ s
  | .wdCheckinWrite .. => execWdCheckinWrite_keeps _ _ s
  | .nvWordWrite .. => execNvWordWrite_keeps _ s
  | .plateRebuildDone .. => execPlateRebuildDone_keeps _ s
  | .snap .. => execSnap_keeps _ s
  | .plateCursorWrite .. => execPlateCursorWrite_keeps _ s
  | .plateWin4Read .. => execPlateWin4Read_keeps _ s
  | .ggQrawLoRead .. => execGgQrawLoRead_keeps _ s
  | .rtcTrimWrite .. => execRtcTrimWrite_keeps _ s
  | .identify .. => execIdentify_keeps _ s
  | .status .. => execStatus_keeps _ s
  | .restart .. => execRestart_keeps _ s
  | .standby .. => execStandby_keeps _ s
  | .fuseWd .. => execFuseWd_keeps _ s
  | .telemRead .. => execTelemRead_keeps _ _ s
  | .adcUrgent .. => execAdcUrgent_keeps _ s
  | .faultRead .. => execFaultRead_keeps _ s
  | .faultClear .. => execFaultClear_keeps _ s
  | .railEnable .. => execRailEnable_keeps _ s
  | .railDisable .. => execRailDisable_keeps _ s
  | .railSetV .. => execRailSetV_keeps _ s
  | .railStatus .. => execRailStatus_keeps _ s
  | .phaseSubst .. => execPhaseSubst_keeps _ s
  | .threadStart .. => execThreadStart_keeps _ s
  | .threadStop .. => execThreadStop_keeps _ s
  | .seqFlags .. => execSeqFlags_keeps _ s
  | .threadStatus .. => execThreadStatus_keeps _ s
  | .charge .. => execCharge_keeps _ s
  | .chargeStatus .. => execChargeStatus_keeps _ s
  | .gaugeRead .. => execGaugeRead_keeps _ s
  | .gaugeMode .. => execGaugeMode_keeps _ s
  | .gaugeCells .. => execGaugeCells_keeps _ s
  | .plateInfo .. => execPlateInfo_keeps _ s
  | .plateRead .. => execPlateRead_keeps _ _ s
  | .plateSnapshot .. => execPlateSnapshot_keeps _ s
  | .rtcRead .. => execRtcRead_keeps _ s
  | .rtcSet .. => execRtcSet_keeps _ s
  | .rtcClearSwo .. => execRtcClearSwo_keeps _ s
  | .rtcWake .. => execRtcWake_keeps _ s
  | .wdCheckin .. => execWdCheckin_keeps _ _ s
  | .proof .. => execProof_keeps _ s
  | .proofSig .. => execProofSig_keeps _ s
  | .certRead .. => execCertRead_keeps _ s
  | .cfgBegin .. => execCfgBegin_keeps _ s
  | .cfgWrite .. => execCfgWrite_keeps _ s
  | .cfgVerify .. => execCfgVerify_keeps _ _ s
  | .cfgInfo .. => execCfgInfo_keeps _ s
  | .imgBegin .. => execImgBegin_keeps _ s
  | .imgWrite .. => execImgWrite_keeps _ s
  | .imgVerify .. => execImgVerify_keeps _ _ s
  | .imgActivate .. => execImgActivate_keeps _ s
  | .regRead .. => execRegRead_keeps _ _ s
  | .regWrite .. => execRegWrite_keeps _ s
  | .auxXfer .. => execAuxXfer_keeps _ s
  | .deadlineExpiry .. => execDeadlineExpiry_keeps _ s
  | .responseWrite .. => execResponseWrite_keeps _ _ s
  | .responseRetrieved .. => execResponseRetrieved_keeps _ s
  | .mbxRxRead .. => execMbxRxRead_keeps _ s
  | .drop .. => execDrop_keeps _ s
  | .mbxIn .. => execMbxIn_keeps _ _ _ _ s
  | .mbxOut .. => execMbxOut_keeps _ _ s
  | .portStatusRead .. => execPortStatusRead_keeps _ s
  | .hostDrop .. => execHostDrop_keeps _ s
  | .abortIn .. => execAbortIn_keeps _ s
  | .mbxAgain .. => execMbxAgain_keeps _ s
  | .alertResponse .. => execAlertResponse_keeps _ s
  | .addressMatchWake .. => execAddressMatchWake_keeps _ _ s
  | .busTimeout .. => execBusTimeout_keeps _ _ s
  | .mbxHtxWrite .. => execMbxHtxWrite_keeps _ s
  | .modbusReadRegisters .. => execModbusReadRegisters_keeps _ _ _ s
  | .modbusWriteAcknowledge .. => execModbusWriteAcknowledge_keeps _ _ s
  | .modbusBadRequest .. => execModbusBadRequest_keeps _ s
  | .auxGo .. => execAuxGo_keeps _ _ _ s
  | .auxTransferEnd .. => execAuxTransferEnd_keeps _ _ _ s
  | .firstKey .. => execFirstKey_keeps _ s
  | .unlock .. => execUnlock_keeps _ s
  | .protectedWrite .. => execProtectedWrite_keeps _ _ s
  | .sysActWrite .. => execSysActWrite_keeps _ s
  | .registerWrite .. => execRegisterWrite_keeps _ _ s
  | .vregOutOfRange .. => execVregOutOfRange_keeps _ s
  | .cellCrcError .. => execCellCrcError_keeps _ s
  | .vbakRise => execVbakRise_keeps s
  | .vbakFall => execVbakFall_keeps s
  | .standbyReq => execStandbyReq_keeps s
  | .tcmErrorCorrected => execTcmErrorCorrected_keeps s
  | .romLimitExpiry => execRomLimitExpiry_keeps s
  | .bothOscillatorsLost => execBothOscillatorsLost_keeps s
  | .refInLoss => execRefInLoss_keeps s
  | .holdoverExpiry => execHoldoverExpiry_keeps s
  | .refReturn => execRefReturn_keeps s
  | .pllLock => execPllLock_keeps s
  | .discLock => execDiscLock_keeps s
  | .crystalFault => execCrystalFault_keeps s
  | .crystalReturn => execCrystalReturn_keeps s
  | .crystalStop => execCrystalStop_keeps s
  | .dllCalFail => execDllCalFail_keeps s
  | .frameMarkAtLeader => execFrameMarkAtLeader_keeps s
  | .frmAlignedSet => execFrmAlignedSet_keeps s
  | .frameMarksMissing => execFrameMarksMissing_keeps s
  | .linkUp .. => execLinkUp_keeps _ s
  | .siblingStatusLost => execSiblingStatusLost_keeps s
  | .ready => execReady_keeps s
  | .proofGo => execProofGo_keeps s
  | .proofSigned => execProofSigned_keeps s
  | .doorbellAppend => execDoorbellAppend_keeps s
  | .icClaim => execIcClaim_keeps s
  | .syncLost => execSyncLost_keeps s
  | .sweepStart => execSweepStart_keeps s
  | .onBatteryDeclared => execOnBatteryDeclared_keeps s
  | .returnToFeed => execReturnToFeed_keeps s
  | .upInhibitRelease => execUpInhibitRelease_keeps s
  | .chgStart => execChgStart_keeps s
  | .chgTerminate => execChgTerminate_keeps s
  | .chgHold => execChgHold_keeps s
  | .chgRelease => execChgRelease_keeps s
  | .chgStop => execChgStop_keeps s
  | .trickleExit => execTrickleExit_keeps s
  | .preExit => execPreExit_keeps s
  | .ccToCv => execCcToCv_keeps s
  | .safetyTimerExpiry => execSafetyTimerExpiry_keeps s
  | .prechargeTimerExpiry => execPrechargeTimerExpiry_keeps s
  | .packIdClosed => execPackIdClosed_keeps s
  | .packQualElapsed => execPackQualElapsed_keeps s
  | .zchShort => execZchShort_keeps s
  | .gaugeWake => execGaugeWake_keeps s
  | .restReached => execRestReached_keeps s
  | .estDrift => execEstDrift_keeps s
  | .estimatorUpdate => execEstimatorUpdate_keeps s
  | .countRecordHourly => execCountRecordHourly_keeps s
  | .minOffEnd => execMinOffEnd_keeps s
  | .autoUpStart => execAutoUpStart_keeps s
  | .faultNEdge => execFaultNEdge_keeps s
  | .faultNRelease => execFaultNRelease_keeps s
  | .upHeldRelease => execUpHeldRelease_keeps s
  | .thermalStep => execThermalStep_keeps s
  | .throttleFall => execThrottleFall_keeps s
  | .calAbort => execCalAbort_keeps s
  | .faultReaction => execFaultReaction_keeps s
  | .watchdogPeriodEnd => execWatchdogPeriodEnd_keeps s
  | .wdOutPulseEnd => execWdOutPulseEnd_keeps s
  | .plateIngest => execPlateIngest_keeps s
  | .floodEnd => execFloodEnd_keeps s
  | .clockMarkHourly => execClockMarkHourly_keeps s
  | .rtcSecLoRead => execRtcSecLoRead_keeps s
  | .rtcOptLoRead => execRtcOptLoRead_keeps s
  | .nvWrite => execNvWrite_keeps s
  | .erase => execErase_keeps s
  | .resume => execResume_keeps s
  | .set => execSet_keeps s
  | .calendarLoad => execCalendarLoad_keeps s
  | .clearSwo => execClearSwo_keeps s
  | .periodicWake => execPeriodicWake_keeps s
  | .calendarWrap => execCalendarWrap_keeps s
  | .vbakLow .. => execVbakLow_keeps _ s
  | .counterRecordHourly => execCounterRecordHourly_keeps s
  | .sessionTimeout => execSessionTimeout_keeps s
  | .close => execClose_keeps s
  | .unlockWindowExpiry => execUnlockWindowExpiry_keeps s

/-- A step takes a command off the queue, which no measurement register is part of, and the command keeps the chains. -/
theorem step_chained {s t : State} (h : step s = .next t) (w : s.Chained) : t.Chained := by
  unfold step at h
  split at h
  · cases h
    exact w
  · exact (exec_keeps _ _ _ h).chained w

end Sys2Proof.Machine
end

section
/-! PROOF. Extension of a measurement register by Burin's firmware (R82), and the chains that every step keeps. -/
namespace Sys2Proof.Machine
open Sys2Proof

/-! ### The extension -/

section
variable (s : State) (n : Fin 4) (d : List Byte)

@[simp] theorem State.extend_mr :
    (s.extend n d).mr = s.mr.set n (digestBV (sha256 (bytesLE 32 s.mr[n].toNat ++ d))) := rfl

/-- The count of a register's extensions stays at its highest value (R82). -/
theorem State.extend_count : ((s.extend n d).rd (mrCnt n)).toNat = min ((s.rd (mrCnt n)).toNat + 1) 0xFFFFFFFF := by
  have whole (x : Word) : x.toNat = getF x wordF := by
    rw [getF, wordF, Nat.mod_eq_of_lt (x >>> 0).isLt, BitVec.ushiftRight_zero]
  rw [whole]
  refine (State.get_put _ _ wordF _ (by decide)).trans (Nat.mod_eq_of_lt ?_)
  exact Nat.lt_of_le_of_lt (Nat.min_le_right _ _) (by decide)

theorem State.extend_frame : Frame [mrCnt n] [.mr] s (s.extend n d) :=
  .put _ _ (.set_mr .refl (by decide)) (List.mem_singleton.mpr rfl)

end

/-! ### EXTEND -/

section
variable (s : State)

/-- EXTEND of MR1 (R82). -/
theorem execExtend_mr1 (run : s.burinReaches = true) :
    exec (.extend 1) s = done (s.extend 1 (s.regBytes MR_DATA 8)) :=
  congrArg done (if_pos run)

/-- EXTEND of a register that firmware may not extend, and EXTEND while Burin does not run (R82, log 3). -/
theorem execExtend_ignored (k : BitVec 2) (h : s.burinReaches = false ∨ k ≠ 1) :
    Answers (.extend k) s fun t => t = s := by
  refine ⟨_, rfl, ?_⟩
  obtain off | other := h
  · rw [off]
    rfl
  · have stays : s.extendGo k.toNat = s := if_neg fun e => other (BitVec.eq_of_toNat_eq e)
    show (if s.burinReaches then s.extendGo k.toNat else s) = s
    rw [stays, ite_self]

end

/-- Settles O8: EXTEND of MR1 is one extension, and every other EXTEND changes nothing. -/
theorem extendMeasurement : Obligations.ExtendMeasurement := fun s =>
  ⟨fun run => ⟨_, execExtend_mr1 s run, s.extend_mr 1 _, s.extend_count 1 _, s.extend_frame 1 _⟩, execExtend_ignored s⟩

/-- Settles O7: a step that writes a measurement register extends it or returns it to zero (`exec_keeps`). -/
theorem measurementRegisters : Obligations.MeasurementRegisters := by
  refine ⟨State.reset_mr, fun s run => ⟨_, execExtend_mr1 s run, ?_, s.extend_count 1 _, fun n other => ?_,
    s.extend_frame 1 _⟩, fun s k _ other => execExtend_ignored s k (.inr other), fun _ _ => step_chained⟩
  · simp
  · have apart : (1 : Nat) ≠ n := fun e => other (Fin.ext e.symm)
    simp [Vector.getElem_set_ne, apart]

end Sys2Proof.Machine
end
section
/-! PROOF. The interrupt controller (R90 to R93): doorbells, their rings, and what a claim takes. -/
namespace Sys2Proof.Machine
open Sys2Proof

/-! ### Words of a memory -/

theorem ofBytesLE_bytesLE (n v : Nat) : ofBytesLE (bytesLE n v) = v % 256 ^ n := by
  induction n generalizing v with
  | zero => simp [bytesLE, ofBytesLE, Nat.mod_one]
  | succ n ih => simp [bytesLE, ofBytesLE, ih, Nat.pow_succ', Nat.mod_mul]

@[simp] theorem length_bytesLE (n v : Nat) : (bytesLE n v).length = n := by
  induction n generalizing v with
  | zero => rfl
  | succ n ih => simp [bytesLE, ih]

/-- Bytes of a memory read back as they were written. -/
theorem memRead_memWrite (m : List Host.Cell) (a : Nat) (l : List Byte) : memRead (memWrite m a l) a l.length = l := by
  induction l generalizing m a with
  | nil => rfl
  | cons b r ih =>
    have first : memByte (memWrite m a (b :: r)) a = b := memByte_memWrite_inside m a 0 (b :: r) (by simp)
    rw [List.length_cons, memRead, first, memWrite, ih]

/-- A word of a memory reads back as it was written. -/
theorem memWord_memWrite (m : List Host.Cell) (a : Nat) (w : Word) :
    memWord (memWrite m a (bytesLE 4 w.toNat)) a = w.toNat := by
  have read := memRead_memWrite m a (bytesLE 4 w.toNat)
  rw [length_bytesLE] at read
  rw [memWord, read, ofBytesLE_bytesLE]
  exact Nat.mod_eq_of_lt w.isLt

theorem memByte_memWrite_word (m : List Host.Cell) (a v b : Nat) (h : b < a ∨ a + 4 ≤ b) :
    memByte (memWrite m a (bytesLE 4 v)) b = memByte m b :=
  memByte_memWrite_outside m a b _ (by rwa [length_bytesLE])

/-! ### A doorbell that is lost, and one that is latched (R90, R93) -/

section
variable (s : State)

theorem State.icOverflow_frame (e : Nat) : Frame [IC_OVF e] [] s (s.icOverflow e) :=
  .putB _ _ (.bump _ .refl (List.mem_singleton.mpr rfl)) (List.mem_singleton.mpr rfl)
theorem State.icOverflow_count (e : Nat) :
    (s.icOverflow e).get (IC_OVF e) IC_OVF_COUNT = min (s.get (IC_OVF e) IC_OVF_COUNT + 1) 255 :=
  (State.get_putB_field _ _ _ _ _ (by decide)).trans (State.get_bump _ _ _ (by decide))
theorem State.icOverflow_flag (e : Nat) : (s.icOverflow e).get (IC_OVF e) IC_OVF_OVF = 1 :=
  State.get_putB _ _ _ _ (by decide) (by decide)

theorem length_insertAt {α : Type} (k : Nat) (v : α) (l : List (Nat × α)) : (insertAt k v l).length = l.length + 1 := by
  induction l with
  | nil => rfl
  | cons p r ih => unfold insertAt; split <;> simp [ih]

/-- A doorbell of an enabled source takes the latch, or is counted where the latch is occupied (R90, R93). -/
theorem State.doorbell_enabled (w : Word) (on : s.layers = true) (word : w ≠ 0xFFFFFFFF)
    (enabled : s.icEnabled (w >>> 24).toNat = true) :
    s.doorbell w = if s.ic.latch.any (fun p => p.1 == (w >>> 24).toNat) then s.icOverflow (w >>> 24).toNat
      else { s with ic := { s.ic with latch := insertAt (w >>> 24).toNat w s.ic.latch } } := by
  have released : ¬ (!s.layers) = true := by simp [on]
  have good : ¬ (w == 0xFFFFFFFF) = true := fun e => word (beq_iff_eq.mp e)
  have allowed : ¬ (!s.icEnabled (w >>> 24).toNat) = true := by rw [enabled]; decide
  exact (if_neg released).trans ((if_neg good).trans (if_neg allowed))

theorem execSoftwareDoorbell_eq (w : Word) (run : s.coresRun = true) : exec (.softwareDoorbell w) s = done (s.doorbell w) :=
  congrArg done (if_pos run)

theorem execSoftwareDoorbell_latches (on : s.layers = true) (w : Word) (run : s.coresRun = true) (word : w ≠ 0xFFFFFFFF)
    (enabled : s.icEnabled (w >>> 24).toNat = true) (free : ∀ p ∈ s.ic.latch, p.1 ≠ (w >>> 24).toNat) :
    Answers (.softwareDoorbell w) s fun t => ((w >>> 24).toNat, w) ∈ t.ic.latch ∧
      t.ic.latch.length = s.ic.latch.length + 1 ∧ Frame [] [.ic] s t := by
  have vacant : ¬ s.ic.latch.any (fun p => p.1 == (w >>> 24).toNat) = true := fun taken => by
    obtain ⟨p, m, e⟩ := List.any_eq_true.mp taken
    exact free p m (beq_iff_eq.mp e)
  have taken := (s.doorbell_enabled w on word enabled).trans (if_neg vacant)
  exact ⟨_, (execSoftwareDoorbell_eq s w run).trans (congrArg done taken), (mem_insertAt _ _ _ _).mpr (.inl rfl),
    length_insertAt _ _ _, .set_ic .refl (by decide)⟩

theorem execSoftwareDoorbell_loses (on : s.layers = true) (w : Word) (run : s.coresRun = true) (word : w ≠ 0xFFFFFFFF)
    (enabled : s.icEnabled (w >>> 24).toNat = true) (full : ∃ p ∈ s.ic.latch, p.1 = (w >>> 24).toNat) :
    Answers (.softwareDoorbell w) s fun t =>
      t.get (IC_OVF (w >>> 24).toNat) IC_OVF_COUNT = min (s.get (IC_OVF (w >>> 24).toNat) IC_OVF_COUNT + 1) 255 ∧
      t.get (IC_OVF (w >>> 24).toNat) IC_OVF_OVF = 1 ∧ Frame [IC_OVF (w >>> 24).toNat] [] s t := by
  obtain ⟨p, m, e⟩ := full
  have occupied : s.ic.latch.any (fun p => p.1 == (w >>> 24).toNat) = true :=
    List.any_eq_true.mpr ⟨p, m, beq_iff_eq.mpr e⟩
  have lost := (s.doorbell_enabled w on word enabled).trans (if_pos occupied)
  exact ⟨_, (execSoftwareDoorbell_eq s w run).trans (congrArg done lost), s.icOverflow_count _, s.icOverflow_flag _,
    s.icOverflow_frame _⟩

/-- R90: the word that no doorbell may be. -/
theorem execSoftwareDoorbell_bad (on : s.layers = true) (run : s.coresRun = true) :
    Answers (.softwareDoorbell 0xFFFFFFFF) s fun t => t.get IC_STAT IC_STAT_BAD_DB = 1 ∧ Frame [IC_STAT] [] s t := by
  have told : s.doorbell 0xFFFFFFFF = s.putB IC_STAT IC_STAT_BAD_DB true := by simp [State.doorbell, on]
  exact ⟨_, (execSoftwareDoorbell_eq s _ run).trans (congrArg done told), State.get_putB _ _ _ _ (by decide) (by decide),
    .putB _ _ .refl (by decide)⟩

/-! ### DOORBELL_APPEND (R91, R93) -/

theorem bitF_fits (p : Fin 8) : (bitF p).lo + (bitF p).w ≤ 32 := by
  show (p : Nat) + 1 ≤ 32
  omega

/-- The doorbell at the head of the latches has left its latch. -/
def State.unlatched (r : List (Nat × Word)) : State := { s with ic := { s.ic with latch := r } }

/-- The doorbell at the head of the latches has entered a ring's count. -/
def State.ringed (r : List (Nat × Word)) (p : Fin 8) : State :=
  { s with ic := { s.ic with latch := r, count := s.ic.count.set p (s.ic.count[p] + 1) } }

theorem execDoorbellAppend_eq (on : s.layers = true) (run : s.inRun = true) :
    exec .doorbellAppend s = done s.appendDoorbell :=
  congrArg done (if_pos (by simp [on, run]))

section
variable {esn : Nat} {w : Word} {r : List (Nat × Word)} (head : s.ic.latch = (esn, w) :: r)
include head

theorem State.appendDoorbell_full (full : 32 ≤ s.ic.count[s.ringOf esn]) :
    s.appendDoorbell = (s.unlatched r).icOverflow esn := by
  unfold State.appendDoorbell
  rw [head]
  exact if_pos full

theorem State.appendDoorbell_room (room : s.ic.count[s.ringOf esn] < 32) :
    s.appendDoorbell = ({ s.ringed r (s.ringOf esn) with
      dtcm := memWrite s.dtcm (s.ringAt (s.ringOf esn) (s.ic.head[s.ringOf esn] + s.ic.count[s.ringOf esn]))
        (bytesLE 4 w.toNat) } : State).putB IC_STAT (bitF (s.ringOf esn)) true := by
  unfold State.appendDoorbell
  rw [head]
  exact if_neg (Nat.not_le.mpr room)

theorem execDoorbellAppend_stores (on : s.layers = true) (run : s.inRun = true) (room : s.ic.count[s.ringOf esn] < 32) :
    Answers .doorbellAppend s fun t => t.ic.latch = r ∧ t.ic.count[s.ringOf esn] = s.ic.count[s.ringOf esn] + 1 ∧
      memWord t.dtcm (s.ringAt (s.ringOf esn) (s.ic.head[s.ringOf esn] + s.ic.count[s.ringOf esn])) = w.toNat ∧
      (∀ a, (a < s.ringAt (s.ringOf esn) (s.ic.head[s.ringOf esn] + s.ic.count[s.ringOf esn]) ∨
          s.ringAt (s.ringOf esn) (s.ic.head[s.ringOf esn] + s.ic.count[s.ringOf esn]) + 4 ≤ a) →
        memByte t.dtcm a = memByte s.dtcm a) ∧
      t.get IC_STAT (bitF (s.ringOf esn)) = 1 ∧ Frame [IC_STAT] [.ic, .dtcm] s t := by
  have entered : Frame [IC_STAT] [.ic, .dtcm] s (s.ringed r (s.ringOf esn)) := .set_ic .refl (by decide)
  exact ⟨_, (execDoorbellAppend_eq s on run).trans (congrArg done (s.appendDoorbell_room head room)), rfl,
    by simp [State.ringed], memWord_memWrite _ _ _, fun a => memByte_memWrite_word _ _ _ _,
    State.get_putB _ _ _ _ (bitF_fits _) rfl, .putB _ _ (.set_dtcm entered (by decide)) (by decide)⟩

theorem execDoorbellAppend_loses (on : s.layers = true) (run : s.inRun = true) (full : 32 ≤ s.ic.count[s.ringOf esn]) :
    Answers .doorbellAppend s fun t => t.ic.latch = r ∧ t.dtcm = s.dtcm ∧
      t.get (IC_OVF esn) IC_OVF_COUNT = min (s.get (IC_OVF esn) IC_OVF_COUNT + 1) 255 ∧
      t.get (IC_OVF esn) IC_OVF_OVF = 1 ∧ Frame [IC_OVF esn] [.ic] s t :=
  ⟨_, (execDoorbellAppend_eq s on run).trans (congrArg done (s.appendDoorbell_full head full)), rfl, rfl,
    (s.unlatched r).icOverflow_count esn, (s.unlatched r).icOverflow_flag esn,
    (Frame.set_ic .refl (by decide)).trans ((State.icOverflow_frame _ _).mono (fun _ => id) (by simp))⟩

end

end

/-- Settles O19: a doorbell takes its latch or comes to `State.icOverflow`, and so does the lowest latched one with its
ring. -/
theorem doorbells : Obligations.Doorbells := fun s on =>
  ⟨execSoftwareDoorbell_latches s on, execSoftwareDoorbell_loses s on, execSoftwareDoorbell_bad s on,
    fun _ _ _ run head room => execDoorbellAppend_stores s head on run room,
    fun _ _ _ run head full => execDoorbellAppend_loses s head on run full⟩

/-! ### IC_CLAIM (R92) -/

section
variable (s : State)

/-- The first place from the top at which something holds is the highest. -/
theorem find?_reverse_finRange {n : Nat} {f : Fin n → Bool} {p : Fin n} (holds : f p = true)
    (highest : ∀ q, p < q → f q = false) : (List.finRange n).reverse.find? f = some p := by
  obtain ⟨above, below, e⟩ := List.append_of_mem (List.mem_reverse.mpr (List.mem_finRange p))
  have falls : (above ++ p :: below).Pairwise (fun a b => b < a) :=
    e ▸ List.pairwise_reverse.mpr (List.pairwise_lt_finRange n)
  refine List.find?_eq_some_iff_append.mpr ⟨holds, above, below, e, fun q m => ?_⟩
  rw [highest q ((List.pairwise_append.mp falls).2.2 q m p List.mem_cons_self)]
  rfl

/-- The highest ring that holds a word is found first. -/
theorem State.topRing_of_highest (p : Fin 8) (holds : 0 < s.ic.count[p])
    (highest : ∀ q : Fin 8, p < q → s.ic.count[q] = 0) : s.topRing = some p :=
  find?_reverse_finRange (by simpa using holds) fun q above => by simp [highest q above]

theorem State.topRing_of_empty (empty : ∀ q : Fin 8, s.ic.count[q] = 0) : s.topRing = none :=
  List.find?_eq_none.mpr fun q _ => by simp [empty q]

/-- A read of IC_CLAIM, and what it answers and leaves. -/
theorem execIcClaim_eq (run : s.coresRun = true) : exec .icClaim s =
    done { (if s.actSrc = 0 then s.claim else (0xFFFFFFFF, s)).2 with
      out := [(if s.actSrc = 0 then s.claim else (0xFFFFFFFF, s)).1] } :=
  congrArg done (if_pos run)

/-- The head word of a ring is removed from it (R92). -/
def State.ringTaken (p : Fin 8) : State :=
  { s with ic := { s.ic with head := s.ic.head.set p ((s.ic.head[p] + 1) % 32),
                             count := s.ic.count.set p (s.ic.count[p] - 1) } }

theorem State.claim_of_top (p : Fin 8) (top : s.topRing = some p) :
    s.claim = (BitVec.ofNat 32 (memWord s.dtcm (s.ringAt p s.ic.head[p])),
      if s.ic.count[p] - 1 = 0 then (s.ringTaken p).putB IC_STAT (bitF p) false else s.ringTaken p) := by
  unfold State.claim
  rw [top]
  rfl

theorem State.claim_of_empty (empty : ∀ q : Fin 8, s.ic.count[q] = 0) : s.claim = (0xFFFFFFFF, s) := by
  unfold State.claim
  rw [s.topRing_of_empty empty]

theorem execIcClaim_takes (p : Fin 8) (run : s.coresRun = true) (own : s.actSrc = 0) (holds : 0 < s.ic.count[p])
    (highest : ∀ q : Fin 8, p < q → s.ic.count[q] = 0) :
    Answers .icClaim s fun t => t.out = [BitVec.ofNat 32 (memWord s.dtcm (s.ringAt p s.ic.head[p]))] ∧
      t.ic.count[p] = s.ic.count[p] - 1 ∧ t.ic.head[p] = (s.ic.head[p] + 1) % 32 ∧
      (∀ q : Fin 8, q ≠ p → t.ic.count[q] = s.ic.count[q] ∧ t.ic.head[q] = s.ic.head[q]) ∧
      (s.ic.count[p] = 1 → t.get IC_STAT (bitF p) = 0) ∧ Frame [IC_STAT] [.ic, .out] s t := by
  have claimed := s.claim_of_top p (s.topRing_of_highest p holds highest)
  have frame : Frame [IC_STAT] [.ic, .out] s (s.ringTaken p) := .set_ic .refl (by decide)
  refine ⟨_, (execIcClaim_eq s run).trans (congrArg done (by rw [if_pos own, claimed])), rfl, ?_, ?_, fun q other => ?_,
    fun last => ?_, .set_out (.ite (.putB _ _ frame (by decide)) frame) (by decide)⟩
  · simp [State.ringTaken]
  · simp [State.ringTaken]
  · have apart : (p : Nat) ≠ q := fun e => other (Fin.ext e.symm)
    simp [State.ringTaken, Vector.getElem_set_ne, apart]
  · have empties : s.ic.count[p] - 1 = 0 := by omega
    show State.get (if s.ic.count[p] - 1 = 0 then (s.ringTaken p).putB IC_STAT (bitF p) false else s.ringTaken p)
      IC_STAT (bitF p) = 0
    rw [if_pos empties]
    exact State.get_putB _ _ _ _ (bitF_fits p) rfl

theorem execIcClaim_keeps_all (run : s.coresRun = true) (nothing : s.actSrc = 0 → s.claim = (0xFFFFFFFF, s)) :
    Answers .icClaim s fun t => t = { s with out := [0xFFFFFFFF] } := by
  have read : (if s.actSrc = 0 then s.claim else (0xFFFFFFFF, s)) = (0xFFFFFFFF, s) := by
    split
    · exact nothing ‹_›
    · rfl
  exact ⟨_, (execIcClaim_eq s run).trans (by rw [read]; rfl), rfl⟩

end

/-- Settles O20: Burin's claim is `State.ringTaken` of the highest non-empty ring, and every other claim keeps the
rings. -/
theorem interruptClaim : Obligations.InterruptClaim := fun s =>
  ⟨execIcClaim_takes s,
    fun run _ empty => execIcClaim_keeps_all s run fun _ => s.claim_of_empty empty,
    fun run other => execIcClaim_keeps_all s run fun own => absurd own other,
    fun other => (if_pos rfl).trans (if_neg other)⟩

end Sys2Proof.Machine
end
section
/-! PROOF. READY and the proof engine (R81, R84, R85). -/
namespace Sys2Proof.Machine
open Sys2Proof

/-! ### Bytes in consecutive registers -/

/-- Bytes written to consecutive registers leave the others as they are. -/
theorem Frame.putBytes {R : List Nat} {P : List Part} {s t : State} {n : Nat} {at_ : Nat → Nat} {l : List Byte}
    (h : Frame R P s t) (m : ∀ i < n, at_ i ∈ R) : Frame R P s (t.putBytes at_ n l) := by
  induction n generalizing t at_ l with
  | zero => exact h
  | succ n ih => exact ih (h.wr _ (m 0 (by omega))) fun i hi => m (i + 1) (by omega)

/-- Each register holds its four bytes. -/
theorem State.putBytes_rd (s : State) (at_ : Nat → Nat) (apart : Function.Injective at_) (n k : Nat) (h : k < n)
    (l : List Byte) :
    (s.putBytes at_ n l).rd (at_ k) = BitVec.ofNat 32 (ofBytesLE ((l.drop (4 * k)).take 4)) := by
  induction n generalizing s at_ k l with
  | zero => omega
  | succ n ih =>
    cases k with
    | zero =>
      have later : Frame ((List.range n).map fun i => at_ (i + 1)) []
          (s.wr (at_ 0) (BitVec.ofNat 32 (ofBytesLE (l.take 4)))) (s.putBytes at_ (n + 1) l) :=
        Frame.putBytes (n := n) .refl fun i hi => List.mem_map.mpr ⟨i, List.mem_range.mpr hi, rfl⟩
      rw [later.rd _ (by simpa using fun i _ e => absurd (apart e) (by omega)), State.rd_wr_same]
      rfl
    | succ k =>
      have rest := ih (s.wr (at_ 0) (BitVec.ofNat 32 (ofBytesLE (l.take 4)))) (fun i => at_ (i + 1))
        (fun i j e => by simpa using apart e) k (by omega) (l.drop 4)
      rwa [List.drop_drop, show 4 + 4 * k = 4 * (k + 1) by omega] at rest

@[simp] theorem State.putBytes_proof (s : State) (at_ : Nat → Nat) (n : Nat) (l : List Byte) :
    (s.putBytes at_ n l).proof = s.proof := by
  induction n generalizing s at_ l with
  | zero => rfl
  | succ n ih => exact ih _ _ _
@[simp] theorem State.putBytes_nv (s : State) (at_ : Nat → Nat) (n : Nat) (l : List Byte) :
    (s.putBytes at_ n l).nv = s.nv := by
  induction n generalizing s at_ l with
  | zero => rfl
  | succ n ih => exact ih _ _ _

/-- The bytes of some registers, four of each. -/
@[simp] theorem State.length_regBytes (s : State) (at_ : Nat → Nat) (n : Nat) : (s.regBytes at_ n).length = 4 * n := by
  simp [State.regBytes, List.length_flatten, Function.comp_def, Nat.mul_comm]

/-- R84: the counter stands at offset 0x34 of the body. -/
theorem State.proofBody_counter (s : State) (ctr : Nat) : ((s.proofBody ctr).drop 52).take 4 = bytesLE 4 ctr := by
  simp [State.proofBody, List.drop_append, List.drop_of_length_le]

/-! ### GO (R84) -/

section
variable (s : State)

/-- A proof begun: its counter on the way to MRAM, its body held, BUSY (R84). -/
def State.proofBegun (ctr : Nat) : State :=
  ((({ s with proof := ⟨digestBV (sha256 (s.proofBody ctr)), ctr⟩ } : State).nvQueue1
    ⟨.proof ctr, [(proofPlace, BitVec.ofNat 64 ctr)], 1, 1⟩).putBytes PRF_BODY 48 (s.proofBody ctr)).putB PRF_STAT
    PRF_STAT_BUSY true

theorem State.proofGo_begins (idle : s.get PRF_STAT PRF_STAT_BUSY = 0) (ready : s.get BOOT_STAT BOOT_STAT_READY = 1) :
    s.proofGo = s.proofBegun ((s.proofCount + 1) % 2 ^ 32) :=
  if_neg (by simp [State.flag, idle, ready])

theorem State.proofGo_ignored (h : s.get PRF_STAT PRF_STAT_BUSY = 1 ∨ s.get BOOT_STAT BOOT_STAT_READY = 0) :
    s.proofGo = s :=
  if_pos (by obtain busy | unready := h <;> simp [State.flag, *])

theorem PRF_BODY_injective : Function.Injective PRF_BODY := fun i j e => by unfold PRF_BODY at e; omega
theorem PRF_SIG_injective : Function.Injective PRF_SIG := fun i j e => by unfold PRF_SIG at e; omega

variable (ctr : Nat)

theorem State.proofBegun_frame :
    Frame (PRF_STAT :: (List.range 48).map PRF_BODY) [.nv, .proof] s (s.proofBegun ctr) := by
  refine .putB _ _ (.putBytes (.nvQueue1 (.set_proof .refl (by decide)) (by decide)) fun i hi => ?_) List.mem_cons_self
  exact List.mem_cons_of_mem _ (List.mem_map.mpr ⟨i, List.mem_range.mpr hi, rfl⟩)

/-- What a proof begun writes beside its body. -/
theorem State.proofBegun_parts : (s.proofBegun ctr).proof = ⟨digestBV (sha256 (s.proofBody ctr)), ctr⟩ ∧
    (s.proofBegun ctr).nv.q1 = s.nv.q1 ++ [⟨.proof ctr, [(proofPlace, BitVec.ofNat 64 ctr)], 1, 1⟩] := by
  simp [State.proofBegun]

theorem State.proofBegun_busy : (s.proofBegun ctr).get PRF_STAT PRF_STAT_BUSY = 1 :=
  State.get_putB _ _ _ _ (by decide) (by decide)

theorem State.proofBegun_counter : (s.proofBegun ctr).rd (PRF_BODY 13) = BitVec.ofNat 32 ctr := by
  refine (State.rd_putB_ne _ _ _ _ _ (by decide)).trans ?_
  rw [State.putBytes_rd _ _ PRF_BODY_injective _ _ (by decide), State.proofBody_counter, ofBytesLE_bytesLE]
  exact BitVec.eq_of_toNat_eq (by simp)

end

/-! ### The commands -/

section
variable (s : State)

theorem execReady_ends (run : s.burinReaches = true) :
    Answers .ready s fun t => t.get BOOT_STAT BOOT_STAT_READY = 1 ∧ t.get PWR_STATE PWR_STATE_AUTON = 0 ∧
      t.raisedCode 0x15 3 ∧ EventFrame [BOOT_STAT, PWR_STATE] [] s t := by
  refine ⟨_, congrArg done (if_pos run), ?_, ?_, State.raise_raised _ _ _ _ _ (by decide),
    .raise (.putB _ _ (.putB _ _ .refl (by decide)) (by decide)) (by decide)⟩
  · refine (State.raise_get _ _ _ _ _ _ _ (by decide) (offEvents_of_page (by decide))).trans ?_
    exact (State.get_putB_ne _ _ _ _ _ _ (by decide)).trans (State.get_putB _ _ _ _ (by decide) (by decide))
  · refine (State.raise_get _ _ _ _ _ _ _ (by decide) (offEvents_of_page (by decide))).trans ?_
    exact State.get_putB _ _ _ _ (by decide) (by decide)

theorem execProofGo_begins (run : s.burinReaches = true) (idle : s.get PRF_STAT PRF_STAT_BUSY = 0)
    (ready : s.get BOOT_STAT BOOT_STAT_READY = 1) :
    Answers .proofGo s fun t => t.proof.counter = (s.proofCount + 1) % 2 ^ 32 ∧
        t.nv.q1 = s.nv.q1 ++ [⟨.proof t.proof.counter, [(proofPlace, BitVec.ofNat 64 t.proof.counter)], 1, 1⟩] ∧
        t.rd (PRF_BODY 13) = BitVec.ofNat 32 t.proof.counter ∧
        t.proof.digest = digestBV (sha256 (s.proofBody t.proof.counter)) ∧
        t.get PRF_STAT PRF_STAT_BUSY = 1 ∧
        Frame (PRF_STAT :: (List.range 48).map PRF_BODY) [.nv, .proof] s t := by
  have begun : exec .proofGo s = done (s.proofBegun ((s.proofCount + 1) % 2 ^ 32)) :=
    (congrArg done (if_pos run)).trans (congrArg done (s.proofGo_begins idle ready))
  obtain ⟨proof, queued⟩ := s.proofBegun_parts ((s.proofCount + 1) % 2 ^ 32)
  refine ⟨_, begun, ?_⟩
  beta_reduce
  rw [proof]
  exact ⟨rfl, queued, s.proofBegun_counter _, rfl, s.proofBegun_busy _, s.proofBegun_frame _⟩

theorem execProofGo_ignored (run : s.burinReaches = true)
    (h : s.get PRF_STAT PRF_STAT_BUSY = 1 ∨ s.get BOOT_STAT BOOT_STAT_READY = 0) :
    Answers .proofGo s fun t => t = s :=
  ⟨_, congrArg done (if_pos run), s.proofGo_ignored h⟩

theorem execProofSigned_signs (run : s.inRun = true) (busy : s.get PRF_STAT PRF_STAT_BUSY = 1)
    (ready : s.get BOOT_STAT BOOT_STAT_READY = 1) (counted : s.proofCount = s.mram.proofCtr)
    (written : s.mram.proofCtr = s.proof.counter) :
    Answers .proofSigned s fun t => t.get PRF_STAT PRF_STAT_BUSY = 0 ∧ t.get PRF_STAT PRF_STAT_DONE = 1 ∧
      (∀ j : Fin 16, t.rd (PRF_SIG j) =
        BitVec.ofNat 32 (ofBytesLE (((proofSig (bytesLE 32 s.proof.digest.toNat) s.proof.counter).drop (4 * j.val)).take 4))) ∧
      Frame (PRF_STAT :: (List.range 16).map PRF_SIG) [] s t := by
  have signs : (s.inRun && s.flag PRF_STAT PRF_STAT_BUSY && s.flag BOOT_STAT BOOT_STAT_READY && s.proofCounted) = true := by
    simp [run, State.flag, busy, ready, State.proofCounted, counted, written]
  refine ⟨_, congrArg done (if_pos signs), ?_, State.get_putB _ _ _ _ (by decide) (by decide), fun j => ?_, ?_⟩
  · exact (State.get_putB_field _ _ _ _ _ (by decide)).trans (State.get_putB _ _ _ _ (by decide) (by decide))
  · have apart : PRF_SIG j ≠ PRF_STAT := by unfold PRF_SIG PRF_STAT; omega
    rw [State.rd_putB_ne _ _ _ _ _ apart, State.rd_putB_ne _ _ _ _ _ apart]
    exact State.putBytes_rd _ _ PRF_SIG_injective _ _ j.isLt _
  · refine .putB _ _ (.putB _ _ (.putBytes .refl fun i hi => ?_) List.mem_cons_self) List.mem_cons_self
    exact List.mem_cons_of_mem _ (List.mem_map.mpr ⟨i, List.mem_range.mpr hi, rfl⟩)

end

/-- Settles O44: GO comes to `State.proofBegun`, whose body holds the counter (`State.proofBody_counter`). -/
theorem readyAndProof : Obligations.ReadyAndProof := fun s =>
  ⟨fun run => ⟨execReady_ends s run, execProofGo_begins s run, execProofGo_ignored s run⟩, execProofSigned_signs s⟩

end Sys2Proof.Machine
end
section
/-! SUPPORT. Writes of Burin (R436, R444 to R448): which registers an address names, and how a write to a protected one and
to a free one goes on. -/
namespace Sys2Proof.Machine
open Sys2Proof

/-! ### Addresses -/

/-- An address below the peripheral blocks lies in none of them (R440). -/
theorem blockOf_below {a : Nat} (h : a < 0x40000000) : blockOf a = none := by
  have past (l : List (Nat × Nat)) (above : ∀ p ∈ l, 0x40000000 ≤ p.1) (i : Nat) : blockFrom a l i = none := by
    induction l generalizing i with
    | nil => rfl
    | cons p r ih =>
      rw [blockFrom_cons_of_notMem (.inl (Nat.lt_of_lt_of_le h (above p List.mem_cons_self)))]
      exact ih (fun q m => above q (List.mem_cons_of_mem _ m)) _
  exact past blockRanges (by decide) 0

theorem blockOf_of_isProtected {a : Nat} (h : isProtected a = true) :
    ∃ blk d ix, blockOf a = some blk ∧ regAt a = some (d, ix) ∧ d.guard = .prot := by
  unfold isProtected at h
  split at h
  · rename_i d ix named
    cases hb : blockOf a with
    | none => simp [regAt, hb] at named
    | some blk => exact ⟨blk, d, ix, rfl, named, by simpa using h⟩
  · cases h

/-- A register of an array, by its place (R440). -/
theorem index_of_array {d : RegDef} {n st i : Nat} (dims : d.dims = [(n, st)]) (h : i < n) (pos : 0 < st) :
    d.index (d.base + st * i) = some [i] := by
  simp [RegDef.index, dims, dimIndex, pos, h]

/-- Among registers of which the first are all protected, an address that one of those has names a protected one. -/
theorem findIn_prot {a : Nat} {l r : List RegDef} (all : ∀ d ∈ l, d.guard = .prot) {d : RegDef} (m : d ∈ l)
    (h : (d.index a).isSome) : ∃ x, findIn a (l ++ r) = some x ∧ x.1.guard = .prot := by
  induction l with
  | nil => cases m
  | cons e l ih =>
    rw [List.cons_append, findIn]
    cases own : e.index a with
    | some ix => exact ⟨(e, ix), rfl, all e List.mem_cons_self⟩
    | none =>
      obtain rfl | later := List.mem_cons.mp m
      · rw [own] at h
        cases h
      · exact ih (fun x hx => all x (List.mem_cons_of_mem _ hx)) later

/-- An address of an array among the protected registers at the head of a block is protected (R444). -/
theorem isProtected_of_array {a blk n st i : Nat} {l r : List RegDef} {d : RegDef} (hb : blockOf a = some blk)
    (regs : blockRegs blk = l ++ r) (all : ∀ d ∈ l, d.guard = .prot) (m : d ∈ l) (dims : d.dims = [(n, st)]) (hi : i < n)
    (pos : 0 < st) (ha : a = d.base + st * i) : isProtected a = true := by
  obtain ⟨x, named, prot⟩ := findIn_prot (r := r) all m (a := a) (by rw [ha, index_of_array dims hi pos]; rfl)
  simp [isProtected, regAt, hb, regs, named, prot]

/-! ### The unlock rule (R444, R447) -/

section
variable (s : State)

theorem State.protBlocked_locked (src blk : Nat) (lock : s.get SYS_PROT SYS_PROT_LOCK = 1) :
    s.protBlocked src blk = some 3 := if_pos (by simp [State.flag, lock])
theorem State.protBlocked_closed (src blk : Nat) (lock : s.get SYS_PROT SYS_PROT_LOCK = 0) (closed : s.windowNow = none) :
    s.protBlocked src blk = some 1 := by
  simp [State.protBlocked, State.flag, lock, closed]
theorem State.protBlocked_open (src blk : Nat) (w : Window) (lock : s.get SYS_PROT SYS_PROT_LOCK = 0)
    (stands : s.windowNow = some w) :
    s.protBlocked src blk = if w.src = src ∧ w.block = blk then none else some 2 := by
  simp [State.protBlocked, State.flag, lock, stands]

theorem State.keyGone_frame (src : Nat) : Frame [] [.sys] s (s.keyGone src) := .set_sys .refl (by decide)
theorem State.keyCancel_frame (blk a : Nat) : Frame [] [.sys] s (s.keyCancel blk a) := by
  unfold State.keyCancel
  exact .ite (s.keyGone_frame _) .refl
theorem State.keyCancel_of_ne (blk a : Nat) (h : blk ≠ 0) : s.keyCancel blk a = s := if_neg fun e => h e.1

/-- A key that a write cancels opens and closes no window. -/
theorem State.keyCancel_protBlocked (blk a src b : Nat) : (s.keyCancel blk a).protBlocked src b = s.protBlocked src b := by
  unfold State.keyCancel
  split <;> rfl
theorem State.keyCancel_actSrc (blk a : Nat) : (s.keyCancel blk a).actSrc = s.actSrc := by
  unfold State.keyCancel
  split <;> rfl

@[simp] theorem State.protRefuse_sys (code : Nat) : (s.protRefuse code).sys = s.sys :=
  State.raise_sys (s.putB SYS_UNL_STAT SYS_UNL_STAT_REFUSED true) _ _ _ _

/-- What a refusal leaves (R447), after something that writes no register. -/
theorem State.protRefuse_tells {P : List Part} {u : State} (code : Nat) (h : Frame [] P u s) :
    (s.protRefuse code).get SYS_UNL_STAT SYS_UNL_STAT_REFUSED = 1 ∧ (s.protRefuse code).raisedCode 0x86 code ∧
      EventFrame [SYS_UNL_STAT] P u (s.protRefuse code) := by
  have told : Frame [SYS_UNL_STAT] P u (s.putB SYS_UNL_STAT SYS_UNL_STAT_REFUSED true) :=
    .putB _ _ (h.mono (by simp) fun _ => id) (by decide)
  exact ⟨(State.raise_get _ _ _ _ _ _ _ (by decide) (offEvents_of_page (by decide))).trans
    (State.get_putB _ _ _ _ (by decide) (by decide)), State.raise_raised _ _ _ _ _ (by omega),
    (EventFrame.of_frame told).raise (by decide)⟩

/-! ### Writes -/

section
variable {a blk : Nat} {d : RegDef} {ix : List Nat} (v : Word)

/-- A write to a protected register crosses by the unlock rule (R444). -/
theorem State.busWrite_protected (hb : blockOf a = some blk) (hr : regAt a = some (d, ix)) (g : d.guard = .prot) :
    s.busWrite a v = (s.keyCancel blk a).protWrite blk a d ix v := by
  simp [State.busWrite, hb, hr, g]

/-- A write to a register that anyone may write is made (R443). -/
theorem State.busWrite_free (hb : blockOf a = some blk) (hr : regAt a = some (d, ix)) (g : d.guard = .free) :
    (s.busWrite a v).1 = (s.keyCancel blk a).regWrite blk a d ix v := by
  simp [State.busWrite, hb, hr, g]

/-- A protected write that the unlock rule does not pass is refused with its code (R447). -/
theorem State.busWrite_refused {code : Nat} (prot : isProtected a = true) (hb : blockOf a = some blk)
    (blocked : s.protBlocked s.actSrc blk = some code) :
    (s.busWrite a v).1 = (s.keyCancel blk a).protRefuse code := by
  obtain ⟨_, d, ix, -, hr, g⟩ := blockOf_of_isProtected prot
  rw [s.busWrite_protected v hb hr g, State.protWrite, State.keyCancel_protBlocked, State.keyCancel_actSrc, blocked]

/-- A protected write that the unlock rule passes is measured and made (R448). -/
theorem State.busWrite_made (hb : blockOf a = some blk) (hr : regAt a = some (d, ix)) (g : d.guard = .prot)
    (other : blk ≠ 0) (passed : s.protBlocked s.actSrc blk = none) :
    (s.busWrite a v).1 = ((s.windowSet s.actSrc blk).measure a v).regWrite blk a d ix v := by
  rw [s.busWrite_protected v hb hr g, s.keyCancel_of_ne _ _ other, State.protWrite, passed]

end

end

end Sys2Proof.Machine
end

section
/-! PROOF. Keys, unlock windows and the writes they guard (R83, R442 to R448), SYS_ACT, and the end of an idle session. -/
namespace Sys2Proof.Machine
open Sys2Proof

/-! ### Keys (R445 to R447) -/

section
variable (s : State)

theorem State.actSrc_lt : s.actSrc < 5 := by
  unfold State.actSrc
  split <;> omega

theorem State.keyCode_first (src b : Nat) (h : b ≤ 16) : s.keyCode src 0x4B b = none := by
  simp [State.keyCode, Nat.not_lt.mpr h]

/-- Why a second key is refused, in R447's order. -/
theorem State.keyCode_second (src b : Nat) (h : b ≤ 16) : s.keyCode src 0xB4 b =
    if s.keyWaits src b = false then some 5 else if s.flag SYS_PROT SYS_PROT_LOCK then some 3
      else if !(s.get SYS_PROT SYS_PROT_SRC_EN).testBit src || s.windowOther src then some 4 else none := by
  simp [State.keyCode, Nat.not_lt.mpr h]

theorem State.keyWrite_refused {src key b code : Nat} (h : s.keyCode src key b = some code) :
    s.keyWrite src key b = (s.keyGone src).protRefuse code := by
  unfold State.keyWrite
  rw [h]

theorem State.keyWrite_first (src b : Nat) (h : b ≤ 16) : s.keyWrite src 0x4B b =
    { s with sys := { s.sys with keys := s.sys.keys.filter (fun k => k.1 ≠ src) ++ [(src, b)] } } := by
  unfold State.keyWrite
  rw [s.keyCode_first src b h]
  rfl

theorem State.keyWrite_second {src b : Nat} (h : s.keyCode src 0xB4 b = none) :
    s.keyWrite src 0xB4 b = (s.keyGone src).windowSet src b := by
  unfold State.keyWrite
  rw [h]
  rfl

theorem State.windowSet_frame (src b : Nat) : Frame [SYS_UNL_STAT] [.sys] s (s.windowSet src b) :=
  .wr _ (.set_sys .refl (by decide)) (by decide)

/-- What SYS_UNL_STAT shows of a window as it opens (R450). -/
theorem State.windowSet_shows (src b : Nat) (hs : src < 8) (hb : b < 32) :
    (s.windowSet src b).get SYS_UNL_STAT SYS_UNL_STAT_OPEN = 1 ∧
    (s.windowSet src b).get SYS_UNL_STAT SYS_UNL_STAT_SRC = src ∧
    (s.windowSet src b).get SYS_UNL_STAT SYS_UNL_STAT_BLOCK = b := by
  refine ⟨?_, ?_, ?_⟩ <;> refine (State.get_wr_same _ _ _ _).trans ?_
  · rw [getF_setF_ne _ _ _ _ (by decide), getF_setF_ne _ _ _ _ (by decide), getF_setF_ne _ _ _ _ (by decide),
      getF_setF _ _ _ (by decide)]
    rfl
  · rw [getF_setF_ne _ _ _ _ (by decide), getF_setF_ne _ _ _ _ (by decide), getF_setF _ _ _ (by decide)]
    exact Nat.mod_eq_of_lt hs
  · rw [getF_setF_ne _ _ _ _ (by decide), getF_setF _ _ _ (by decide)]
    exact Nat.mod_eq_of_lt hb

theorem execFirstKey_waits (run : s.burinReaches = true) (b : BitVec 5) (h : b.toNat ≤ 16) :
    Answers (.firstKey b) s fun t => (s.actSrc, b.toNat) ∈ t.sys.keys ∧ t.sys.window = s.sys.window ∧
      (∀ k ∈ t.sys.keys, k.1 = s.actSrc → k.2 = b.toNat) ∧ (∀ k ∈ s.sys.keys, k.1 ≠ s.actSrc → k ∈ t.sys.keys) ∧
      Frame [] [.sys] s t := by
  have waits := (congrArg done (if_pos run) : exec (.firstKey b) s = _).trans
    (congrArg done (s.keyWrite_first s.actSrc b.toNat h))
  refine ⟨_, waits, by simp, rfl, fun k m own => ?_, fun k m other => ?_, .set_sys .refl (by decide)⟩
  · obtain old | new := List.mem_append.mp m
    · exact absurd own (by simpa using (List.mem_filter.mp old).2)
    · rw [List.mem_singleton.mp new]
  · exact List.mem_append_left _ (List.mem_filter.mpr ⟨m, by simpa using other⟩)

theorem execUnlock_eq (run : s.burinReaches = true) (b : BitVec 5) :
    exec (.unlock b) s = done (s.keyWrite s.actSrc 0xB4 b.toNat) := congrArg done (if_pos run)

theorem execUnlock_opens (run : s.burinReaches = true) (b : BitVec 5) (h : b.toNat ≤ 16)
    (waits : s.keyWaits s.actSrc b.toNat = true) (lock : s.get SYS_PROT SYS_PROT_LOCK = 0)
    (enabled : (s.get SYS_PROT SYS_PROT_SRC_EN).testBit s.actSrc = true) (free : s.windowOther s.actSrc = false) :
    Answers (.unlock b) s fun t =>
        t.sys.window = some ⟨s.actSrc, b.toNat, s.opt.ms + 10 * max 1 (s.get SYS_PROT SYS_PROT_UNL_T)⟩ ∧
        t.get SYS_UNL_STAT SYS_UNL_STAT_OPEN = 1 ∧ t.get SYS_UNL_STAT SYS_UNL_STAT_SRC = s.actSrc ∧
        t.get SYS_UNL_STAT SYS_UNL_STAT_BLOCK = b.toNat ∧ (∀ k ∈ t.sys.keys, k.1 ≠ s.actSrc) ∧
        Frame [SYS_UNL_STAT] [.sys] s t := by
  have accepted : s.keyCode s.actSrc 0xB4 b.toNat = none := by
    simp [s.keyCode_second _ _ h, waits, State.flag, lock, enabled, free]
  obtain ⟨opened, src, block⟩ := (s.keyGone s.actSrc).windowSet_shows s.actSrc b.toNat
    (Nat.lt_trans s.actSrc_lt (by decide)) b.isLt
  exact ⟨_, (execUnlock_eq s run b).trans (congrArg done (s.keyWrite_second accepted)), rfl, opened, src, block,
    fun k m => by simpa using (List.mem_filter.mp m).2,
    ((s.keyGone_frame _).mono (by simp) fun _ => id).trans (State.windowSet_frame _ _ _)⟩

/-- A second key that is refused opens no window, and tells why (R447). -/
theorem execUnlock_refused (run : s.burinReaches = true) (b : BitVec 5) {code : Nat}
    (h : s.keyCode s.actSrc 0xB4 b.toNat = some code) :
    Answers (.unlock b) s fun t => t.sys.window = s.sys.window ∧ t.get SYS_UNL_STAT SYS_UNL_STAT_REFUSED = 1 ∧
        t.raisedCode 0x86 code ∧ EventFrame [SYS_UNL_STAT] [.sys] s t :=
  ⟨_, (execUnlock_eq s run b).trans (congrArg done (s.keyWrite_refused h)),
    by simp [State.keyGone], (s.keyGone s.actSrc).protRefuse_tells code (s.keyGone_frame _)⟩

/-! ### The end of a window (R446) -/

theorem State.closeWindow_shows : s.closeWindow.sys.window = none ∧ s.closeWindow.get SYS_UNL_STAT SYS_UNL_STAT_OPEN = 0 ∧
    s.closeWindow.get SYS_UNL_STAT SYS_UNL_STAT_LEFT = 0 :=
  ⟨rfl, (State.get_put_field _ _ _ _ _ (by decide)).trans (State.get_putB _ _ _ _ (by decide) (by decide)),
    State.get_put _ _ _ _ (by decide)⟩

theorem execClose_eq (run : s.burinReaches = true) : exec .close s = done ((s.keyGone s.actSrc).closeKey s.actSrc) :=
  congrArg done (if_pos run)

section
variable {w : Window} (stands : s.sys.window = some w)
include stands

theorem State.closeKey_eq (src : Nat) :
    (s.keyGone src).closeKey src = if w.src = src then (s.keyGone src).closeWindow else s.keyGone src := by
  have kept : (s.keyGone src).sys.window = some w := stands
  unfold State.closeKey
  rw [kept]

theorem execClose_closes (run : s.burinReaches = true) (own : w.src = s.actSrc) :
    Answers .close s fun t => t.sys.window = none ∧ t.get SYS_UNL_STAT SYS_UNL_STAT_OPEN = 0 ∧
      t.get SYS_UNL_STAT SYS_UNL_STAT_LEFT = 0 ∧ Frame [SYS_UNL_STAT] [.sys] s t := by
  obtain ⟨closed, opened, left⟩ := (s.keyGone s.actSrc).closeWindow_shows
  exact ⟨_, (execClose_eq s run).trans (congrArg done ((s.closeKey_eq stands _).trans (if_pos own))), closed, opened, left,
    ((s.keyGone_frame _).mono (by simp) fun _ => id).trans (State.closeWindow_frame _)⟩

theorem execClose_ignored (run : s.burinReaches = true) (other : w.src ≠ s.actSrc) :
    Answers .close s fun t => t.sys.window = some w ∧ Frame [] [.sys] s t :=
  ⟨_, (execClose_eq s run).trans (congrArg done ((s.closeKey_eq stands _).trans (if_neg other))), stands,
    s.keyGone_frame _⟩

theorem execUnlockWindowExpiry_closes (run : s.inRun = true) (ended : w.until_ ≤ s.opt.ms) :
    Answers .unlockWindowExpiry s fun t => t.sys.window = none ∧
      t.get SYS_UNL_STAT SYS_UNL_STAT_OPEN = 0 ∧ t.sys.keys = s.sys.keys ∧ Frame [SYS_UNL_STAT] [.sys] s t := by
  obtain ⟨closed, opened, -⟩ := s.closeWindow_shows
  exact ⟨_, congrArg done (if_pos (by simp [run, stands, ended])), closed, opened, rfl, State.closeWindow_frame s⟩

end

/-! ### Protected writes (R444, R447, R448) -/

theorem State.inRun_of_burinReaches (run : s.burinReaches = true) : s.inRun = true := by
  unfold State.burinReaches at run
  exact (Bool.and_eq_true_iff.mp run).1

/-- PROTECTED_WRITE that the unlock rule does not pass. -/
theorem execProtectedWrite_refused (run : s.burinReaches = true) (a v : Word) (prot : isProtected a.toNat = true)
    {code : Nat} (blocked : ∀ blk, blockOf a.toNat = some blk → s.protBlocked s.actSrc blk = some code) :
    Answers (.protectedWrite a v) s fun t => t.get SYS_UNL_STAT SYS_UNL_STAT_REFUSED = 1 ∧ t.raisedCode 0x86 code ∧
      EventFrame [SYS_UNL_STAT] [.sys] s t := by
  obtain ⟨blk, d, ix, hb, -, -⟩ := blockOf_of_isProtected prot
  have refused := s.busWrite_refused v prot hb (blocked blk hb)
  exact ⟨_, (congrArg done (if_pos (by simp [run, prot]))).trans (congrArg done refused),
    State.protRefuse_tells _ code (s.keyCancel_frame blk a.toNat)⟩

/-- A command that is a write to a protected register beyond block 0, where the unlock rule does not pass it. -/
theorem State.answers_protRefused {c : Instr} {a block code : Nat} {v : Word} (e : exec c s = done (s.busWrite a v).1)
    (prot : isProtected a = true) (hb : blockOf a = some block) (other : block ≠ 0)
    (blocked : s.protBlocked s.actSrc block = some code) :
    Answers c s fun t => t.get SYS_UNL_STAT SYS_UNL_STAT_REFUSED = 1 ∧ t.raisedCode 0x86 code ∧
      EventFrame [SYS_UNL_STAT] [] s t := by
  have refused := s.busWrite_refused v prot hb blocked
  rw [s.keyCancel_of_ne _ _ other] at refused
  exact ⟨_, e.trans (congrArg done refused), s.protRefuse_tells code .refl⟩

end

/-! The registers of the commands that are protected writes (R444). -/

theorem SEQ_LABEL_protected (i : Fin 64) : isProtected (SEQ_LABEL i) = true ∧ blockOf (SEQ_LABEL i) = some 12 := by
  revert i; decide
theorem FLT_FORCE_protected (i : Fin 8) : isProtected (FLT_FORCE i) = true ∧ blockOf (FLT_FORCE i) = some 2 := by
  revert i; decide
theorem RTC_TRIM_protected : isProtected RTC_TRIM = true ∧ blockOf RTC_TRIM = some 14 := by decide
theorem STEP_protected (i : Fin 6144) : isProtected (STEP i) = true ∧ blockOf (STEP i) = some 12 := by
  have inside : blockOf (STEP i) = some 12 := by
    unfold blockOf blockRanges STEP
    iterate 12 refine (blockFrom_cons_of_notMem (.inr (by omega))).trans ?_
    exact blockFrom_cons_of_mem (by omega) (by omega)
  exact ⟨isProtected_of_array (l := [regDefSTEP]) inside rfl (by decide) List.mem_cons_self rfl i.isLt (by decide) rfl,
    inside⟩
theorem CTX_protected (i : Fin 160) (k : Fin 5) :
    isProtected (CTX_SRC i + 4 * k) = true ∧ blockOf (CTX_SRC i + 4 * k) = some 10 := by
  have inside : blockOf (CTX_SRC i + 4 * k) = some 10 := by
    unfold blockOf blockRanges CTX_SRC
    iterate 10 refine (blockFrom_cons_of_notMem (.inr (by omega))).trans ?_
    exact blockFrom_cons_of_mem (by omega) (by omega)
  have shape : ∀ k : Fin 5, (blockRegs10[k]).dims = [(160, 0x20)] ∧ (blockRegs10[k]).base = CTX_SRC 0 + 4 * k ∧
    blockRegs10[k] ∈ blockRegs10.take 5 := by decide
  obtain ⟨dims, base, m⟩ := shape k
  have place : CTX_SRC i + 4 * k = (blockRegs10[k]).base + 0x20 * i := by
    rw [base]
    unfold CTX_SRC
    omega
  exact ⟨isProtected_of_array (r := blockRegs10.drop 5) inside rfl (by decide) m dims i.isLt (by decide) place, inside⟩
theorem LOOP_PROT_named (m : Fin 4) :
    blockOf (LOOP_PROT m) = some 5 ∧ regAt (LOOP_PROT m) = some (regDefLOOP_PROT, [m.val]) := by
  revert m; decide
theorem SEQ_FLAG_SET_named : blockOf SEQ_FLAG_SET = some 12 ∧ regAt SEQ_FLAG_SET = some (regDefSEQ_FLAG_SET, []) := by
  decide

/-! ### A measured write (R83, R448) -/

section
variable (s : State)

/-- A register of which every bit may be written takes the word (R5). -/
theorem State.written_of_rw (a : Nat) (d : RegDef) (v : Word) (writable : d.bits .rw = BitVec.allOnes 32)
    (w1c : d.bits .w1c = 0#32) (w1s : d.bits .w1s = 0#32) : s.written a d v = v := by
  have all : s.storeBits a d = BitVec.allOnes 32 := by
    unfold State.storeBits
    rw [writable, BitVec.allOnes_or]
  unfold State.written
  dsimp only
  rw [all, w1c, w1s, BitVec.not_allOnes, BitVec.and_allOnes, BitVec.and_zero, BitVec.and_zero, BitVec.zero_or,
    BitVec.not_zero, BitVec.and_allOnes, BitVec.or_zero]

theorem State.lock_of_open (a : Nat) (d : RegDef) (h : d.bits .rwl = 0) : s.lock a d = s := if_pos (by simp [h])

theorem State.measure_raised (a : Nat) (v : Word) : (s.measure a v).raisedCode 0x15 4 :=
  State.raise_raised _ _ _ _ _ (by decide)

@[simp] theorem State.measure_sys (a : Nat) (v : Word) : (s.measure a v).sys = s.sys := State.raise_sys _ _ _ _ _

/-- R83: a register beyond the stencil store is measured into MR2 with its address and its word. -/
theorem State.measure_mr (a : Nat) (v : Word) (h : ¬(a < STEP 6144 ∧ STEP 0 ≤ a)) :
    (s.measure a v).mr =
      s.mr.set 2 (digestBV (sha256 (bytesLE 32 s.mr[2].toNat ++ sha256 (bytesLE 4 a ++ bytesLE 4 v.toNat)))) := by
  unfold State.measure measRecord
  simp [h]

theorem State.measure_frame (a : Nat) (v : Word) (h : ¬(a < STEP 6144 ∧ STEP 0 ≤ a)) :
    EventFrame [mrCnt 2] [.mr] s (s.measure a v) := by
  unfold State.measure
  rw [if_neg h]
  exact .raise (.of_frame (s.extend_frame 2 _)) (by decide)

/-- The protections of a loop take a word as it is written (R143). -/
theorem State.regWrite_LOOP_PROT (m : Fin 4) (v : Word) :
    s.regWrite 5 (LOOP_PROT m) regDefLOOP_PROT [m.val] v = s.wr (LOOP_PROT m) v := by
  have plain : s.writePe (LOOP_PROT m) [m.val] v v = s.wr (LOOP_PROT m) v := by
    have phCfg : LOOP_PROT m ≠ PH_CFG m := by unfold LOOP_PROT PH_CFG; omega
    have phCtl : LOOP_PROT m ≠ PH_CTL m := by unfold LOOP_PROT PH_CTL; omega
    have ctl : LOOP_PROT m ≠ LOOP_CTL m := by unfold LOOP_PROT LOOP_CTL; omega
    have vset : LOOP_PROT m ≠ LOOP_VSET m := by unfold LOOP_PROT LOOP_VSET; omega
    have fsw : LOOP_PROT m ≠ LOOP_FSW m := by unfold LOOP_PROT LOOP_FSW; omega
    have dsh : LOOP_PROT m ≠ LOOP_DSH m 0 := by unfold LOOP_PROT LOOP_DSH; omega
    have coef : LOOP_PROT m ≠ LOOP_COEF m 0 0 := by unfold LOOP_PROT LOOP_COEF; omega
    simp [State.writePe, phCfg, phCtl, ctl, vset, fsw, dsh, coef]
  unfold State.regWrite
  rw [State.written_of_rw _ _ _ _ (by decide) (by decide) (by decide), State.lock_of_open _ _ _ (by decide)]
  exact plain

theorem execProtectedWrite_measures (run : s.burinReaches = true) (m : Fin 4) (v : Word) (u : Nat)
    (lock : s.get SYS_PROT SYS_PROT_LOCK = 0) (stands : s.sys.window = some ⟨s.actSrc, 5, u⟩) (ahead : s.opt.ms < u) :
    Answers (.protectedWrite (BitVec.ofNat 32 (LOOP_PROT m)) v) s fun t => t.rd (LOOP_PROT m) = v ∧
      t.mr[2] = digestBV (sha256 (bytesLE 32 s.mr[2].toNat ++ sha256 (bytesLE 4 (LOOP_PROT m) ++ bytesLE 4 v.toNat))) ∧
      t.sys.window = some ⟨s.actSrc, 5, s.opt.ms + 10 * max 1 (s.get SYS_PROT SYS_PROT_UNL_T)⟩ ∧ t.raisedCode 0x15 4 ∧
      EventFrame [LOOP_PROT m, SYS_UNL_STAT, mrCnt 2] [.mr, .sys] s t := by
  obtain ⟨block, named⟩ := LOOP_PROT_named m
  have address : (BitVec.ofNat 32 (LOOP_PROT m)).toNat = LOOP_PROT m := Nat.mod_eq_of_lt (by unfold LOOP_PROT; omega)
  have beyond : ¬(LOOP_PROT m < STEP 6144 ∧ STEP 0 ≤ LOOP_PROT m) := by unfold LOOP_PROT STEP; omega
  have current : s.windowNow = some ⟨s.actSrc, 5, u⟩ := by simp [State.windowNow, stands, ahead]
  have passed : s.protBlocked s.actSrc 5 = none := by simp [s.protBlocked_open _ _ _ lock current]
  have prot : isProtected (LOOP_PROT m) = true := by unfold isProtected; rw [named]; rfl
  have made := s.busWrite_made v block named rfl (by decide) passed
  rw [State.regWrite_LOOP_PROT] at made
  have goes : exec (.protectedWrite (BitVec.ofNat 32 (LOOP_PROT m)) v) s =
      done (((s.windowSet s.actSrc 5).measure (LOOP_PROT m) v).wr (LOOP_PROT m) v) := by
    refine (congrArg done (if_pos (by simp [run, address, prot]))).trans (congrArg done ?_)
    rw [address]
    exact made
  refine ⟨_, goes, State.rd_wr_same _ _ _, ?_, ?_, (KeepsRaised.of_flt rfl) _ _ (State.measure_raised _ _ _), ?_⟩
  · rw [State.wr_mr, State.measure_mr _ _ _ beyond]
    exact Vector.getElem_set_self _
  · rw [State.wr_sys, State.measure_sys]
    rfl
  · have opened : EventFrame [LOOP_PROT m, SYS_UNL_STAT, mrCnt 2] [.mr, .sys] s (s.windowSet s.actSrc 5) :=
      .of_frame ((s.windowSet_frame _ _).mono (by simp) (by simp))
    exact .wr _ (opened.trans ((State.measure_frame _ _ _ beyond).mono (by simp) (by simp))) List.mem_cons_self

/-! ### Writes to memory and to free registers (R436, R443) -/

theorem execRegisterWrite_eq (run : s.burinReaches = true) (a v : Word) :
    exec (.registerWrite a v) s = done (s.busWrite a.toNat v).1 := congrArg done (if_pos run)

theorem execRegisterWrite_dtcm (run : s.burinReaches = true) (a v : Word) (own : s.actSrc = 0)
    (lo : 0x20000000 ≤ a.toNat) (hi : a.toNat < 0x20020000) :
    Answers (.registerWrite a v) s fun t => memWord t.dtcm (a.toNat - 0x20000000) = v.toNat ∧
      (∀ b, b < a.toNat - 0x20000000 ∨ a.toNat - 0x20000000 + 4 ≤ b → memByte t.dtcm b = memByte s.dtcm b) ∧
      Frame [] [.dtcm] s t := by
  have written : (s.busWrite a.toNat v).1 =
      { s with dtcm := memWrite s.dtcm (a.toNat - 0x20000000) (bytesLE 4 v.toNat) } := by
    have high : ¬ a.toNat < 0x40000 := by omega
    unfold State.busWrite
    rw [blockOf_below (show a.toNat < 0x40000000 by omega)]
    dsimp only
    rw [if_neg (not_not.mpr own), if_neg high, if_pos ⟨lo, hi⟩]
  generalize a.toNat - 0x20000000 = off at written ⊢
  exact ⟨_, (execRegisterWrite_eq s run a v).trans (congrArg done written), memWord_memWrite _ _ _,
    fun b => memByte_memWrite_word _ _ _ _, .set_dtcm .refl (by decide)⟩

/-- R245: a write of SEQ_FLAG_SET sets the bits that it has at 1. -/
theorem State.regWrite_SEQ_FLAG_SET (v : Word) :
    s.regWrite 12 SEQ_FLAG_SET regDefSEQ_FLAG_SET [] v = s.flagsSet v :=
  State.lock_of_open _ _ _ (by decide)

theorem execRegisterWrite_flags (run : s.burinReaches = true) (a v : Word) (flags : a.toNat = SEQ_FLAG_SET) :
    Answers (.registerWrite a v) s fun t => t.rd SEQ_FLAGS = s.rd SEQ_FLAGS ||| v ∧ Frame [SEQ_FLAGS] [] s t := by
  obtain ⟨block, named⟩ := SEQ_FLAG_SET_named
  have written := s.busWrite_free v block named rfl
  rw [s.keyCancel_of_ne _ _ (by decide), State.regWrite_SEQ_FLAG_SET] at written
  exact ⟨_, (execRegisterWrite_eq s run a v).trans (congrArg done (by rw [flags, written]; rfl)), State.rd_wr_same _ _ _,
    .wr _ .refl (by decide)⟩

theorem execRegisterWrite_unmapped (run : s.burinReaches = true) (a v : Word) (port : s.actSrc ≠ 0)
    (nothing : blockOf a.toNat = none) : Answers (.registerWrite a v) s fun t => t = s :=
  ⟨_, execRegisterWrite_eq s run a v, by simp [State.busWrite, nothing, port]⟩

/-! ### SYS_ACT (R442) -/

theorem execSysActWrite_sets (run : s.burinReaches = true) (v : BitVec 3) (h : s.actSrc = 0 ∨ v = 0) :
    Answers (.sysActWrite v) s fun t => t.get SYS_ACT SYS_ACT_SRC = v.toNat ∧ Frame [SYS_ACT] [] s t := by
  have narrow : v.toNat % 8 = v.toNat := Nat.mod_eq_of_lt v.isLt
  have made : s.actWrite v.toNat = s.put SYS_ACT SYS_ACT_SRC (v.toNat % 8) := if_neg fun ⟨port, other⟩ => by
    obtain own | zero := h
    · exact port own
    · exact other (by rw [zero]; rfl)
  refine ⟨_, (congrArg done (if_pos run)).trans (congrArg done made), ?_, .put _ _ .refl (by decide)⟩
  rw [State.get_put _ _ _ _ (by decide), narrow]
  exact narrow

theorem execSysActWrite_ignored (run : s.burinReaches = true) (v : BitVec 3) (port : s.actSrc ≠ 0) (other : v ≠ 0) :
    Answers (.sysActWrite v) s fun t => t = s := by
  have kept : s.actWrite v.toNat = s := if_pos ⟨port, fun e => other (BitVec.eq_of_toNat_eq (by
    rwa [Nat.mod_eq_of_lt v.isLt] at e))⟩
  exact ⟨_, congrArg done (if_pos run), kept⟩

/-! ### Sessions (R432) -/

theorem execSessionTimeout_ends (run : s.burinReaches = true) (x : Session) (cfg : s.fw.cfg = some x)
    (idle : x.last + 60000 ≤ s.opt.ms) (img : s.fw.img = none) :
    Answers .sessionTimeout s fun t => t = { s with fw := { s.fw with cfg := none } } := by
  have ended : s.sessionOver s.fw.cfg = true := by simp [State.sessionOver, cfg, idle]
  have other : s.sessionOver s.fw.img = false := by simp [State.sessionOver, img]
  refine ⟨_, congrArg done (if_pos (by simp [run, ended])), ?_⟩
  simp [ended, other]

end

/-- Settles O48: keys come to `State.keyWrite`, writes to `State.busWrite`; one that is refused tells its code
(`State.protRefuse_tells`), and one that is made is measured first. -/
theorem unlockWindows : Obligations.UnlockWindows := by
  intro s run
  refine ⟨fun b h => ⟨execFirstKey_waits s run b h, execUnlock_opens s run b h, fun waits lock => ?_, fun absent => ?_⟩,
    fun w stands => ⟨execClose_closes s stands run, execClose_ignored s stands run,
      execUnlockWindowExpiry_closes s stands (s.inRun_of_burinReaches run)⟩,
    fun a v prot => ⟨fun lock => ?_, fun lock closed => ?_, fun w lock stands other => ?_⟩, ?_,
    fun m v u lock stands ahead => execProtectedWrite_measures s run m v u lock stands ahead,
    fun a v => ⟨execRegisterWrite_dtcm s run a v, execRegisterWrite_flags s run a v, execRegisterWrite_unmapped s run a v⟩,
    fun v => ⟨fun own => execSysActWrite_sets s run v (.inl own), fun _ zero => by
      subst zero
      exact execSysActWrite_sets s run 0 (.inr rfl),
      execSysActWrite_ignored s run v⟩,
    execSessionTimeout_ends s run⟩
  · exact execUnlock_refused s run b (by simp [s.keyCode_second _ _ h, waits, State.flag, lock])
  · exact execUnlock_refused s run b (by simp [s.keyCode_second _ _ h, absent])
  · exact execProtectedWrite_refused s run a v prot fun blk _ => s.protBlocked_locked _ blk lock
  · exact execProtectedWrite_refused s run a v prot fun blk _ => s.protBlocked_closed _ blk lock closed
  · refine execProtectedWrite_refused s run a v prot fun blk hb => ?_
    rw [s.protBlocked_open _ _ w lock stands]
    refine if_neg fun ⟨src, block⟩ => ?_
    obtain apart | apart := other
    · exact apart src
    · exact apart (by rw [hb, block])
  · rintro c block code (⟨rfl, i, v, rfl⟩ | ⟨rfl, i, v, rfl⟩ | ⟨rfl, i, k, v, rfl⟩ | ⟨rfl, v, rfl⟩ | ⟨rfl, n, rfl⟩) blocked
    · exact s.answers_protRefused (congrArg done (if_pos run)) (SEQ_LABEL_protected i).1 (SEQ_LABEL_protected i).2
        (by decide) blocked
    · exact s.answers_protRefused (congrArg done (if_pos run)) (STEP_protected i).1 (STEP_protected i).2 (by decide) blocked
    · exact s.answers_protRefused (congrArg done (if_pos run)) (CTX_protected i k).1 (CTX_protected i k).2 (by decide)
        blocked
    · exact s.answers_protRefused (congrArg done (if_pos run)) RTC_TRIM_protected.1 RTC_TRIM_protected.2 (by decide) blocked
    · have place := FLT_FORCE_protected ⟨n.toNat / 32, by omega⟩
      exact s.answers_protRefused (congrArg done (if_pos run)) place.1 place.2 (by decide) blocked

end Sys2Proof.Machine
end
section
/-! SUPPORT. The execution of a host command that waits (R409, R412, R413): what the firmware performs, and what becomes of
its answer at and past the deadline (R391, R392). -/
namespace Sys2Proof.Machine
open Sys2Proof

section
variable {s : State} {k : Fin 96} {c : HostCmd} {code : Nat}

/-- What it takes to be the command that firmware executes next. -/
theorem State.Front.parts (h : s.Front code c k) : tagOf c.tag.toNat = some k ∧ s.tags[k].st = .queued ∧
    s.tags[k].port = c.port ∧ s.waitingFor k = some (cmdPacket code c) ∧ s.isNext k c.port (cmdPacket code c) = true := by
  obtain ⟨tag, next⟩ := h
  have parts := next
  simp only [State.isNext, Bool.and_eq_true, beq_iff_eq] at parts
  obtain ⟨⟨⟨-, port⟩, waits⟩, -⟩ := parts
  have queued : s.tags[k].st = .queued := by
    by_contra other
    rw [State.waitingFor, if_neg fun e => other (beq_iff_eq.mp e)] at waits
    cases waits
  exact ⟨by rw [tag]; exact dif_pos k.isLt, queued, port, waits, next⟩

/-- The command that firmware executes next is performed. -/
theorem State.Front.hostCommand (h : s.Front code c k) (ports : List Port) (ok : List Word → Bool)
    (run : State → Port → List Word → State × Reply) :
    s.hostCommand code ports c ok run = s.perform k ports c.payload ok run := by
  obtain ⟨tag, -, port, waits, next⟩ := h.parts
  have waiting : (s.tags[k].port == c.port && s.waitingFor k == some (cmdPacket code c)) = true := by
    rw [port, waits, beq_self_eq_true, beq_self_eq_true]
    rfl
  unfold State.hostCommand
  rw [tag]
  dsimp only
  rw [if_pos waiting, if_pos next]

/-- A command with a payload that is not its own is answered 0x01 (R409). -/
theorem State.Front.perform_malformed (h : s.Front code c k) {ports : List Port} {ok : List Word → Bool}
    {run : State → Port → List Word → State × Reply} (may : s.permitted ports c.port = true) (bad : ok c.payload = false) :
    s.perform k ports c.payload ok run = (s.takePacket k).reply k c.port 0x01 [] := by
  obtain ⟨-, -, port, -, -⟩ := h.parts
  unfold State.perform
  dsimp only
  rw [port, may, bad]
  rfl

/-- An answer that comes at its deadline or later is discarded (R391, R392). -/
theorem State.reply_overdue (s : State) (k : Fin 96) (p : Port) (status : Nat) (pay : List Word)
    (late : s.tags[k].due ≤ s.clk.frames) : (s.reply k p status pay).tags = s.tags := by
  have refused : ¬ s.accepts k p = true := by
    rw [State.accepts, decide_eq_false (Nat.not_lt.mpr late), Bool.and_false]
    decide
  unfold State.reply
  rw [if_neg refused]
  split <;> rfl

end

/-! ### A response and its tag (R383, R384, R391) -/

theorem State.port_updPort (s : State) (p : Port) (f : PortSt → PortSt) : (s.updPort p f).port p = f (s.port p) :=
  Vector.getElem_set_self _

section
variable {R : List Nat} {P : List Part} {s t : State}

theorem Frame.pump {p : Port} (h : Frame R P s t) (m : Part.ports ∈ P) (r : PORT_STAT p ∈ R) (q : NOTE_STAT p ∈ R) :
    Frame R P s (t.pump p) := by
  unfold State.pump
  split
  · exact h
  · exact .ite (.updPort h m r q) h
theorem Frame.place {p : Port} {ws : List Word} {tag : Option Nat} (h : Frame R P s t) (m : Part.ports ∈ P)
    (r : PORT_STAT p ∈ R) (q : NOTE_STAT p ∈ R) : Frame R P s (t.place p ws tag) :=
  .pump (.updPort h m r q) m r q

/-- A notice that enters ahead of the responses displaces none. -/
theorem State.mem_out_pump {p : Port} {i : Item} (m : i ∈ (s.port p).out) : i ∈ ((s.pump p).port p).out := by
  unfold State.pump
  split
  · exact m
  · split
    · rw [State.port_updPort]
      exact List.mem_cons_of_mem _ m
    · exact m
theorem State.mem_out_place (p : Port) (ws : List Word) (tag : Option Nat) :
    s.item p ws tag false ∈ ((s.place p ws tag).port p).out := by
  refine State.mem_out_pump ?_
  rw [State.port_updPort]
  exact List.mem_append_right _ (List.mem_singleton.mpr rfl)

/-- The registers of a port's configuration are none of those that an answer writes. -/
theorem PORT_CFG_notMem_answerRegs (p q : Port) (k : Fin 96) : PORT_CFG p ∉ answerRegs q k := by
  have below : k.val / 32 < 3 := by omega
  cases p <;> cases q <;> simp [answerRegs, PORT_CFG, TAG_BUSY, PORT_STAT, NOTE_STAT] <;> omega

theorem Frame.crcPort {q : Port} {k : Fin 96} (h : Frame (answerRegs q k) P s t) (p : Port) : t.crcPort p = s.crcPort p := by
  have pec : ∀ p, t.flag (PORT_CFG p) PORT_CFG_PEC = s.flag (PORT_CFG p) PORT_CFG_PEC := fun p =>
    h.flag _ _ (PORT_CFG_notMem_answerRegs p q k)
  cases p <;> simp [State.crcPort, pec]

end

section
variable (s : State) (k : Fin 96) (status : Nat) (pay : List Word)

theorem State.answer_frame : Frame (answerRegs s.tags[k].port k) [.ports, .tags] s (s.answer k status pay) :=
  .place (.tagState .refl (by decide) List.mem_cons_self) (by decide) (by simp [answerRegs]) (by simp [answerRegs])

/-- R391: the answer's response waits with its CRC word, and its tag is ANSWERED. -/
theorem State.answer_answered : (s.answer k status pay).Answered k s.tags[k].port s.tags[k].cls status pay := by
  have placed : Frame (answerRegs s.tags[k].port k) [.ports] (s.tagState k .answered) (s.answer k status pay) :=
    .place .refl (by decide) (by simp [answerRegs]) (by simp [answerRegs])
  refine ⟨?_, _, State.mem_out_place _ _ _, rfl, rfl, ?_⟩
  · rw [show (s.answer k status pay).tags = (s.tagState k .answered).tags from placed.same .tags (by decide)]
    exact congrArg TagSt.st (Vector.getElem_set_self _)
  · rw [placed.crcPort]
    rfl

/-- A response in time to a tag of its port is accepted (R391). -/
theorem State.reply_answers (p : Port) (queued : s.tags[k].st = .queued) (port : s.tags[k].port = p)
    (early : s.clk.frames < s.tags[k].due) : s.reply k p status pay = s.answer k status pay :=
  if_pos (by rw [State.accepts, queued, port, decide_eq_true early]; simp)

theorem State.takePacket_frame : Frame (answerRegs s.tags[k].port k) [.ports, .fw] s (s.takePacket k) := by
  have unheld : Frame (answerRegs s.tags[k].port k) [.ports, .fw] s { s with fw := { s.fw with
      taken := s.fw.taken.filter (fun x => !(x.1 == s.tags[k].port && hasTag k x.2)) } } := .set_fw .refl (by decide)
  unfold State.takePacket
  exact unheld.updPort (by decide) (by simp [answerRegs]) (by simp [answerRegs])

end

end Sys2Proof.Machine
end

section
/-! PROOF. PROOF of a host (R431): the statement has the wrong length answered whatever the deadline is, and the deadline
has passed where the tag's frame has come. -/
namespace Sys2Proof.Machine
open Sys2Proof

/-- A PROOF of the wrong length before its deadline is answered 0x01 (R409). -/
theorem execProof_malformed {s : State} {c : HostCmd} {k : Fin 96} (may : s.permitted portsABCE c.port = true)
    (front : s.Front 0x60 c k) (wrong : c.payload.length ≠ 4) (early : s.clk.frames < s.tags[k].due) :
    Answers (.proof c) s fun t => t.Answered k c.port s.tags[k].cls 0x01 [] ∧
      Frame (answerRegs c.port k) answerParts s t := by
  have malformed : words 4 c.payload = false := by simpa [words] using wrong
  obtain ⟨-, queued, port, -, -⟩ := front.parts
  have taken := s.takePacket_frame k
  have answered := (s.takePacket k).answer_frame k 0x01 []
  have told := (s.takePacket k).answer_answered k 0x01 []
  rw [port] at taken
  rw [show (s.takePacket k).tags[k].port = c.port from port] at answered told
  refine ⟨_, congrArg done ((front.hostCommand _ _ _).trans ((front.perform_malformed may malformed).trans
    ((s.takePacket k).reply_answers k 0x01 [] c.port queued port early))), told, ?_⟩
  exact (taken.mono (fun _ => id) (by decide)).trans (answered.mono (fun _ => id) (by decide))

/-- A PROOF of the wrong length whose deadline has passed is not answered: its tag stays as it is (R391, R392). -/
theorem execProof_overdue {s : State} {c : HostCmd} {k : Fin 96} (may : s.permitted portsABCE c.port = true)
    (front : s.Front 0x60 c k) (wrong : c.payload.length ≠ 4) (late : s.tags[k].due ≤ s.clk.frames) :
    Answers (.proof c) s fun t => t.tags = s.tags := by
  have malformed : words 4 c.payload = false := by simpa [words] using wrong
  exact ⟨_, congrArg done ((front.hostCommand _ _ _).trans (front.perform_malformed may malformed)),
    State.reply_overdue (s.takePacket k) _ _ _ _ late⟩

/-- A PROOF with no nonce. -/
def emptyProof : HostCmd := ⟨.a, 0, 0, []⟩

/-- A part whose firmware holds such a PROOF in frame 0, the frame of its deadline. -/
def overdueState : State :=
  { State.reset with
    power := .run, layers := true, proc := { mode := .firmware }, tags := State.reset.tags.set 0 { st := .queued },
    fw := { taken := [(.a, cmdPacket 0x60 emptyProof)] } }

theorem overdueState_front : overdueState.Front 0x60 emptyProof 0 := ⟨rfl, by decide⟩

/-- Refutes O55: the statement asks for no premise that the deadline of the tag lies ahead. In `overdueState` it has come,
and the firmware's answer of 0x01 to a PROOF of the wrong length is discarded (R391), so that the tag stays QUEUED;
with a deadline ahead the answer is given (`execProof_malformed`). -/
theorem not_proofCommand : ¬ Obligations.ProofCommand := by
  intro h
  obtain ⟨-, -, wrong⟩ := h overdueState emptyProof 0 (by decide) overdueState_front
  obtain ⟨t, e, ⟨answered, -⟩, -⟩ := wrong (by decide)
  obtain ⟨u, e', kept⟩ := execProof_overdue (by decide) overdueState_front (by decide) (by decide)
  obtain rfl : t = u := Host.Outcome.next.inj (e.symm.trans e')
  rw [kept] at answered
  exact absurd answered (by decide)

end Sys2Proof.Machine
end

section
/-! SUPPORT. The phase engine's shared operations: which registers and parts each may change, and what it leaves of a loop's
registers (R98, R99, R109, R128). -/
namespace Sys2Proof.Machine
open Sys2Proof

/-! ### Registers of phases and loops -/

theorem phStat_mem (n : Fin 16) : PH_STAT n ∈ phStats := List.mem_map_of_mem (List.mem_finRange n)
theorem loopStat_mem (m : Fin 4) : LOOP_STAT m ∈ loopStats := List.mem_map_of_mem (List.mem_finRange m)
theorem loopStat_notMem_phStats : ∀ m : Fin 4, LOOP_STAT m ∉ phStats := by decide
theorem loopCtl_notMem_phStats : ∀ m : Fin 4, LOOP_CTL m ∉ phStats := by decide
theorem loopCtl_ne_loopStat (m : Nat) : LOOP_CTL m ≠ LOOP_STAT m := by unfold LOOP_CTL LOOP_STAT; omega
theorem phStat_ne_loopStat : ∀ (n : Fin 16) (m : Fin 4), PH_STAT n ≠ LOOP_STAT m := by decide
theorem phStat_ne_loopCtl : ∀ (n : Fin 16) (m : Fin 4), PH_STAT n ≠ LOOP_CTL m := by decide
theorem phStat_inj {n k : Fin 16} (h : n ≠ k) : PH_STAT n ≠ PH_STAT k := fun e =>
  h (Fin.ext (by unfold PH_STAT at e; omega))
theorem loopStat_inj {m k : Fin 4} (h : m ≠ k) : LOOP_STAT m ≠ LOOP_STAT k := fun e =>
  h (Fin.ext (by unfold LOOP_STAT at e; omega))

/-- The blocks above the interrupt controller's lie off what a raise writes (R440). -/
theorem offEvents_above {a : Nat} (h : 0x40005000 ≤ a) : offEvents a := by unfold offEvents; omega
theorem offEvents_loopStat (m : Nat) : offEvents (LOOP_STAT m) := offEvents_above (Nat.le_add_right_of_le (by decide))
theorem offEvents_loopCtl (m : Nat) : offEvents (LOOP_CTL m) := offEvents_above (Nat.le_add_right_of_le (by decide))
theorem offEvents_phStat (n : Nat) : offEvents (PH_STAT n) := offEvents_above (Nat.le_add_right_of_le (by decide))
theorem offEvents_phCtl (n : Nat) : offEvents (PH_CTL n) := offEvents_above (Nat.le_add_right_of_le (by decide))
theorem offEvents_phCfg (n : Nat) : offEvents (PH_CFG n) := offEvents_above (Nat.le_add_right_of_le (by decide))

theorem State.get_raise_loopStat (s : State) (e c h : Nat) (d : List Byte) (m : Nat) (f : Fld) (he : e < 256) :
    (s.raise e c h d).get (LOOP_STAT m) f = s.get (LOOP_STAT m) f := s.raise_get e c h d _ f he (offEvents_loopStat m)
theorem State.get_raise_loopCtl (s : State) (e c h : Nat) (d : List Byte) (m : Nat) (f : Fld) (he : e < 256) :
    (s.raise e c h d).get (LOOP_CTL m) f = s.get (LOOP_CTL m) f := s.raise_get e c h d _ f he (offEvents_loopCtl m)
theorem State.get_raise_phStat (s : State) (e c h : Nat) (d : List Byte) (n : Nat) (f : Fld) (he : e < 256) :
    (s.raise e c h d).get (PH_STAT n) f = s.get (PH_STAT n) f := s.raise_get e c h d _ f he (offEvents_phStat n)

/-! ### One loop and one phase of the state

The statements speak of the entry of an index of `Fin`, and the proofs keep that form: they leave out `Fin.getElem_fin`. -/

/-- The entry of an index reads what was set there. -/
@[simp] theorem getElem_set_fin {α : Type} {n : Nat} (v : Vector α n) (i : Fin n) (x : α) : (v.set i x)[i] = x :=
  Vector.getElem_set_self _
/-- The entry of another index stays as it was. -/
theorem getElem_set_fin_ne {α : Type} {n : Nat} (v : Vector α n) {i j : Fin n} (x : α) (h : i ≠ j) :
    (v.set i x)[j] = v[j] := Vector.getElem_set_ne i.isLt j.isLt fun e => h (Fin.ext e)
theorem State.updLoop_loop (s : State) (m : Fin 4) (f : LoopSt → LoopSt) : (s.updLoop m f).loops[m] = f s.loops[m] :=
  Vector.getElem_set_self _
theorem State.updLoop_loop_ne (s : State) {m k : Fin 4} (f : LoopSt → LoopSt) (h : k ≠ m) :
    (s.updLoop k f).loops[m] = s.loops[m] := getElem_set_fin_ne _ _ h
theorem State.updPhase_phase (s : State) (n : Fin 16) (f : PhaseSt → PhaseSt) :
    (s.updPhase n f).phases[n] = f s.phases[n] := Vector.getElem_set_self _

/-! ### What the operations may change -/

section
variable {R : List Nat} {P : List Part} {s t : State}

theorem Frame.setPh {n : Fin 16} {st : Nat} (h : Frame R P s t) (r : PH_STAT n ∈ R) : Frame R P s (t.setPh n st) :=
  h.put _ _ r
theorem Frame.unspace {l : List (Fin 16)} (h : Frame R P s t) (p : Part.phases ∈ P) : Frame R P s (t.unspace l) := by
  induction l generalizing t with
  | nil => exact h
  | cons n r ih => exact ih (.ite h (h.updPhase p))
theorem Frame.numberSlots {per n0 n1 k : Nat} {l : List (Fin 16)} (h : Frame R P s t) (p : Part.phases ∈ P)
    (r : ∀ n : Fin 16, PH_STAT n ∈ R) : Frame R P s (numberSlots per n0 n1 l k t) := by
  induction l generalizing k t with
  | nil => exact h
  | cons n l ih => exact ih ((h.put _ _ (r n)).updPhase p)
theorem Frame.reslot {m : Fin 4} (h : Frame R P s t) (p : Part.phases ∈ P) (r : ∀ n : Fin 16, PH_STAT n ∈ R)
    (q : LOOP_STAT m ∈ R) : Frame R P s (t.reslot m) :=
  .put _ _ (.put _ _ (.numberSlots (h.unspace p) p r) q) q
theorem Frame.phasesOff {l : List (Fin 16)} (h : Frame R P s t) (p : Part.phases ∈ P)
    (r : ∀ n : Fin 16, PH_STAT n ∈ R) : Frame R P s (t.phasesOff l) := by
  induction l generalizing t with
  | nil => exact h
  | cons n l ih => exact ih (.updPhase (.ite (h.setPh (r n)) h) p)
theorem Frame.joinPhases {l : List (Fin 16)} (h : Frame R P s t) (r : ∀ n : Fin 16, PH_STAT n ∈ R) :
    Frame R P s (t.joinPhases l) := by
  induction l generalizing t with
  | nil => exact h
  | cons n l ih => exact ih (.ite (h.setPh (r n)) h)
theorem Frame.dropClaims {l : List (Fin 16)} (h : Frame R P s t) (p : Part.phases ∈ P) :
    Frame R P s (t.dropClaims l) := by
  induction l generalizing t with
  | nil => exact h
  | cons n l ih => exact ih (h.updPhase p)
theorem Frame.newPeriod {m : Fin 4} {was now ramp : Nat} {l : List (Fin 16)} (h : Frame R P s t) (p : Part.phases ∈ P) :
    Frame R P s (t.newPeriod m was now ramp l) := by
  induction l generalizing t with
  | nil => exact h
  | cons n l ih => exact ih (h.updPhase p)

end

/-- The registers that the stop of a loop writes. -/
abbrev stopRegs (m : Fin 4) : List Nat := LOOP_CTL m :: LOOP_STAT m :: phStats

theorem phStat_mem_stopRegs (m : Fin 4) (n : Fin 16) : PH_STAT n ∈ stopRegs m :=
  List.mem_cons_of_mem _ (List.mem_cons_of_mem _ (phStat_mem n))

section
variable (s : State) (m : Fin 4)

theorem State.reslot_frame : Frame (LOOP_STAT m :: phStats) [.phases] s (s.reslot m) :=
  .reslot .refl (by decide) (fun n => List.mem_cons_of_mem _ (phStat_mem n)) List.mem_cons_self
theorem State.phasesOff_frame (l : List (Fin 16)) : Frame phStats [.phases] s (s.phasesOff l) :=
  .phasesOff .refl (by decide) phStat_mem
theorem State.joinPhases_frame (l : List (Fin 16)) : Frame phStats [] s (s.joinPhases l) := .joinPhases .refl phStat_mem

@[simp] theorem State.reslot_loops : (s.reslot m).loops = s.loops := (s.reslot_frame m).same .loops (by decide)
@[simp] theorem State.reslot_flt : (s.reslot m).flt = s.flt := (s.reslot_frame m).same .flt (by decide)
@[simp] theorem State.phasesOff_loops (l : List (Fin 16)) : (s.phasesOff l).loops = s.loops :=
  (s.phasesOff_frame l).same .loops (by decide)
@[simp] theorem State.joinPhases_loops (l : List (Fin 16)) : (s.joinPhases l).loops = s.loops :=
  (s.joinPhases_frame l).same .loops (by decide)

@[simp] theorem State.phasesOff_get_loopStat (l : List (Fin 16)) (f : Fld) :
    (s.phasesOff l).get (LOOP_STAT m) f = s.get (LOOP_STAT m) f := (s.phasesOff_frame l).get _ _ (loopStat_notMem_phStats m)
@[simp] theorem State.joinPhases_get_loopStat (l : List (Fin 16)) (f : Fld) :
    (s.joinPhases l).get (LOOP_STAT m) f = s.get (LOOP_STAT m) f :=
  (s.joinPhases_frame l).get _ _ (loopStat_notMem_phStats m)
@[simp] theorem State.reslot_get_loopCtl (f : Fld) : (s.reslot m).get (LOOP_CTL m) f = s.get (LOOP_CTL m) f :=
  (s.reslot_frame m).get _ _ (by simp [loopCtl_ne_loopStat, loopCtl_notMem_phStats])

/-- The spacing of a loop's phases writes NACT and SPARES of LOOP_STAT and none of its lower fields. -/
theorem State.reslot_get_loopStat (f : Fld) (h : f.lo + f.w ≤ 8) :
    (s.reslot m).get (LOOP_STAT m) f = s.get (LOOP_STAT m) f := by
  have slots : Frame phStats [.phases] s (numberSlots s.loops[m].per (s.get (LOOP_STAT m) LOOP_STAT_NACT)
      (s.interleave m).length (s.interleave m) 0 (s.unspace (s.phasesOf m))) :=
    .numberSlots (.unspace .refl (by decide)) (by decide) phStat_mem
  calc (s.reslot m).get (LOOP_STAT m) f
      = (numberSlots s.loops[m].per (s.get (LOOP_STAT m) LOOP_STAT_NACT) (s.interleave m).length (s.interleave m) 0
          (s.unspace (s.phasesOf m))).get (LOOP_STAT m) f :=
        (State.get_put_field _ _ _ _ _ (.inr (h.trans (by decide)))).trans
          (State.get_put_field _ _ _ _ _ (.inr (h.trans (by decide))))
    _ = s.get (LOOP_STAT m) f := slots.get _ _ (loopStat_notMem_phStats m)

/-! ### The stop of a loop (R102, R109) -/

/-- A loop that has stopped (R109). -/
def LoopSt.halted (l : LoopSt) : LoopSt :=
  { l with run := .off, started := false, ovArmed := false, pgOnce := false, rearmWait := false, join := false,
           stgEnFall := l.stgEn, pgRun := 0, shedRun := 0, vref := 0, v0 := 0, delay := 0, braked := false, ocSums := 0,
           pendEn := none }

/-- LOOP_STAT of a loop that has stopped: ON, RAMP, APF and BRAKE read 0. -/
def haltedStat (w : Word) : Word :=
  setF (setF (setF (setF w LOOP_STAT_ON 0) LOOP_STAT_RAMP 0) LOOP_STAT_APF 0) LOOP_STAT_BRAKE 0

/-- The first part of a stop: the loop and its LOOP_STAT. -/
def State.haltBegun : State := (s.updLoop m LoopSt.halted).wr (LOOP_STAT m) (haltedStat (s.rd (LOOP_STAT m)))

theorem State.loopHalt_eq : s.loopHalt m =
    (((s.haltBegun m).phasesOff ((s.haltBegun m).phasesOf m)).putB (LOOP_CTL m) LOOP_CTL_EN false).reslot m := by
  unfold State.loopHalt
  rfl

@[simp] theorem State.haltBegun_loops : (s.haltBegun m).loops = (s.updLoop m LoopSt.halted).loops := rfl
theorem State.haltBegun_frame : Frame [LOOP_STAT m] [.loops] s (s.haltBegun m) :=
  .wr _ (.updLoop .refl (by decide)) (by simp)
theorem State.loopHalt_frame : Frame (stopRegs m) [.loops, .phases] s (s.loopHalt m) := by
  rw [State.loopHalt_eq]
  have begun : Frame (stopRegs m) [.loops, .phases] s (s.haltBegun m) :=
    (s.haltBegun_frame m).mono (by simp) (by decide)
  exact .reslot (.putB _ _ (begun.phasesOff (by decide) (phStat_mem_stopRegs m)) (by simp)) (by decide)
    (phStat_mem_stopRegs m) (by simp)

@[simp] theorem State.loopHalt_loops : (s.loopHalt m).loops = (s.updLoop m LoopSt.halted).loops := by
  simp [State.loopHalt_eq]
@[simp] theorem State.loopHalt_flt : (s.loopHalt m).flt = s.flt := (s.loopHalt_frame m).same .flt (by decide)

theorem State.loopHalt_get_loopStat (f : Fld) (h : f.lo + f.w ≤ 8) :
    (s.loopHalt m).get (LOOP_STAT m) f = getF (haltedStat (s.rd (LOOP_STAT m))) f := by
  rw [State.loopHalt_eq, State.reslot_get_loopStat _ _ _ h, State.get_putB_ne _ _ _ _ _ _ (loopCtl_ne_loopStat m).symm,
    State.phasesOff_get_loopStat, State.haltBegun, State.get_wr_same]

/-- ON of a stopped loop reads 0 (R109). -/
theorem State.loopHalt_on : (s.loopHalt m).get (LOOP_STAT m) LOOP_STAT_ON = 0 := by
  simp (disch := decide) [State.loopHalt_get_loopStat, haltedStat, getF_setF, getF_setF_ne]
/-- RAMP of a stopped loop reads 0 (R109). -/
theorem State.loopHalt_ramp : (s.loopHalt m).get (LOOP_STAT m) LOOP_STAT_RAMP = 0 := by
  simp (disch := decide) [State.loopHalt_get_loopStat, haltedStat, getF_setF, getF_setF_ne]
/-- A stop as such leaves PG as it is. -/
theorem State.loopHalt_pg : (s.loopHalt m).get (LOOP_STAT m) LOOP_STAT_PG = s.get (LOOP_STAT m) LOOP_STAT_PG := by
  rw [State.loopHalt_get_loopStat _ _ _ (by decide)]
  simp (disch := decide) [haltedStat, getF_setF_ne, State.get]
/-- EN of a stopped loop reads 0 (R109). -/
theorem State.loopHalt_en : (s.loopHalt m).get (LOOP_CTL m) LOOP_CTL_EN = 0 := by
  rw [State.loopHalt_eq, State.reslot_get_loopCtl, State.get_putB _ _ _ _ (by decide) (by decide)]
  rfl

end

end Sys2Proof.Machine
end

section
/-! PROOF. The start and the stop of a loop (R102, R106, R108 to R110): one lemma per step, and the statement. -/
namespace Sys2Proof.Machine
open Sys2Proof

/-- The engines run only in RUN, while MAIN runs. -/
theorem State.engines_inRun {s : State} (on : s.engines = true) : s.inRun = true := by
  simp only [State.engines, Bool.and_eq_true] at on
  exact on.1.1

section
variable (s : State) (m : Fin 4) (on : s.engines = true)

/-! ### Enable (R108, R110) -/

/-- The enable of a loop is honoured. -/
def State.enableTaken : State := s.updLoop m (fun l => { l with pendEn := none })

/-- The loop in its stage enable delay (R108). -/
def State.delayBegun : State :=
  s.updLoop m (fun l =>
    { l with run := .stageDelay, vref := 0, v0 := 0, delay := s.get (LOOP_CTL m) LOOP_CTL_TSTG, late := 0, ton := 0,
             braked := false, ocSums := 0, target := 800 + s.get (LOOP_VSET m) LOOP_VSET_CODE, started := false,
             e1 := 0, e2 := 0, e3 := 0, y1 := 0, y2 := 0, y3 := 0, ovArmed := false, pgOnce := false, pgRun := 0,
             shedRun := 0, rearmWait := false, join := false, stgEn := true, stgEnFall := false, disturbed := true })

/-- LOOP_STAT of a loop that starts (R108). -/
def State.startShown : State := (s.putB (LOOP_STAT m) LOOP_STAT_ON true).putB (LOOP_STAT m) LOOP_STAT_RAMP true

/-- A start as a whole (R108, R128). -/
def State.loopStarted : State :=
  let t := (s.delayBegun m).startShown m
  (t.joinPhases (t.phasesOf m)).reslot m

theorem State.startShown_get_on : (s.startShown m).get (LOOP_STAT m) LOOP_STAT_ON = 1 := by
  simp (disch := decide) [State.startShown, State.get_putB_field, State.get_putB]
theorem State.startShown_get_ramp : (s.startShown m).get (LOOP_STAT m) LOOP_STAT_RAMP = 1 := by
  simp (disch := decide) [State.startShown, State.get_putB]

theorem State.loopStarted_loops : (s.loopStarted m).loops = (s.delayBegun m).loops := by
  simp [State.loopStarted, State.startShown]
theorem State.loopStarted_get_loopStat (f : Fld) (h : f.lo + f.w ≤ 8) :
    (s.loopStarted m).get (LOOP_STAT m) f = ((s.delayBegun m).startShown m).get (LOOP_STAT m) f := by
  rw [State.loopStarted, State.reslot_get_loopStat _ _ _ h, State.joinPhases_get_loopStat]
theorem State.loopStarted_frame : Frame (LOOP_STAT m :: phStats) [.loops, .phases] s (s.loopStarted m) := by
  have shown : Frame (LOOP_STAT m :: phStats) [.loops, .phases] s ((s.delayBegun m).startShown m) :=
    .putB _ _ (.putB _ _ (.updLoop .refl (by decide)) (by simp)) (by simp)
  exact .reslot (shown.joinPhases fun n => by simp [phStat_mem]) (by decide) (fun n => by simp [phStat_mem]) (by simp)

section
variable (asked : s.loops[m].pendEn = some true) (due : s.loops[m].askAt < s.clk.frames) (off : s.loops[m].run = .off)
include on asked due off

/-- What LOOP_ENABLE comes to for a loop that is off: a refusal, or a start. -/
theorem execLoopEnable_eq : exec (.loopEnable m) s = done (s.latchChange (
    if s.enableRefused m then ((s.enableTaken m).putB (LOOP_CTL m) LOOP_CTL_EN false).raise 0x37 0x02 m
    else (s.enableTaken m).loopStarted m)) := by
  have honoured : (s.engines && s.loops[m].pendEn == some true && decide (s.loops[m].askAt < s.clk.frames)) = true := by
    simp [-Fin.getElem_fin, on, asked, due]
  have idle : ¬ ((s.enableTaken m).loops[m].run == .on || (s.enableTaken m).loops[m].run == .stageDelay) = true := by
    simp [-Fin.getElem_fin, State.enableTaken, off]
  exact congrArg done ((if_pos honoured).trans (congrArg s.latchChange (if_neg idle)))

/-- R110: an enable that is refused. -/
theorem execLoopEnable_refuses (refused : s.enableRefused m = true) :
    Answers (.loopEnable m) s fun t => t.get (LOOP_CTL m) LOOP_CTL_EN = 0 ∧ t.loops[m].run = .off ∧
      t.loops[m].pendEn = none ∧ t.raisedCode 0x37 0x02 ∧ EventFrame [LOOP_CTL m] [.snap, .loops] s t := by
  have e := execLoopEnable_eq s m on asked due off
  rw [if_pos refused] at e
  refine ⟨_, e, ?_, ?_, ?_, KeepsRaised.of_flt rfl _ _ (State.raise_raised _ _ _ _ _ (by decide)),
    .latchChange (.raise (.putB _ _ (.updLoop .refl (by decide)) (by simp)) (by decide)) (by decide)⟩
  · simp (disch := decide) [State.get_raise_loopCtl, State.get_putB]
  · simp [-Fin.getElem_fin, State.enableTaken, off]
  · simp [-Fin.getElem_fin, State.enableTaken]

/-- R108: an enable that begins the stage enable delay. -/
theorem execLoopEnable_starts (taken : s.enableRefused m = false) :
    Answers (.loopEnable m) s fun t => t.loops[m].run = .stageDelay ∧ t.loops[m].vref = 0 ∧
      t.loops[m].target = 800 + s.get (LOOP_VSET m) LOOP_VSET_CODE ∧ t.loops[m].stgEn = true ∧
      t.loops[m].delay = s.get (LOOP_CTL m) LOOP_CTL_TSTG ∧
      t.loops[m].started = false ∧ t.get (LOOP_STAT m) LOOP_STAT_ON = 1 ∧ t.get (LOOP_STAT m) LOOP_STAT_RAMP = 1 ∧
      Frame (LOOP_STAT m :: phStats) [.snap, .loops, .phases] s t := by
  have e := execLoopEnable_eq s m on asked due off
  rw [if_neg (by simp [taken])] at e
  have loops : (s.latchChange ((s.enableTaken m).loopStarted m)).loops = ((s.enableTaken m).delayBegun m).loops :=
    by rw [State.latchChange_loops, State.loopStarted_loops]
  have begun : Frame (LOOP_STAT m :: phStats) [.loops, .phases] s ((s.enableTaken m).loopStarted m) :=
    (Frame.updLoop .refl (by decide)).trans (State.loopStarted_frame _ m)
  refine ⟨_, e, ?_, ?_, ?_, ?_, ?_, ?_, ?_, ?_, .latchChange (begun.mono (fun _ => id) (by decide)) (by decide)⟩
  case refine_7 =>
    rw [State.latchChange_get, State.loopStarted_get_loopStat _ _ _ (by decide), State.startShown_get_on]
  case refine_8 =>
    rw [State.latchChange_get, State.loopStarted_get_loopStat _ _ _ (by decide), State.startShown_get_ramp]
  all_goals
    rw [loops]
    simp [-Fin.getElem_fin, State.delayBegun, State.enableTaken]

end

/-! ### The steps of a start (R102, R106, R108) -/

include on

/-- R102, R108: the stage enable delay ends. -/
theorem execStageEnableDelayEnd_starts (run : s.loops[m].run = .stageDelay) (ends : s.loops[m].delay ≤ 1) :
    Answers (.stageEnableDelayEnd m) s fun t => t.loops[m].run = .on ∧ t.loops[m].vref = s.loops[m].vref ∧
      Frame [] [.loops] s t := by
  have g : (s.engines && s.loops[m].run == .stageDelay && decide (s.loops[m].delay ≤ 1)) = true := by
    simp [-Fin.getElem_fin, on, run, ends]
  exact ⟨_, congrArg done (if_pos g), by simp, by simp, .updLoop .refl (by decide)⟩

/-- R106, R108: the reference ramp ends. -/
theorem execReferenceRampEnd_arms (run : s.loops[m].run = .on) (ramps : s.get (LOOP_STAT m) LOOP_STAT_RAMP = 1)
    (near : s.rampNear m = true) :
    Answers (.referenceRampEnd m) s fun t => t.loops[m].vref = s.loops[m].target ∧ t.loops[m].ovArmed = true ∧
      t.get (LOOP_STAT m) LOOP_STAT_RAMP = 0 ∧ Frame [LOOP_STAT m] [.loops] s t := by
  have g : (s.engines && s.loops[m].run == .on && s.flag (LOOP_STAT m) LOOP_STAT_RAMP && s.rampNear m) = true := by
    simp [-Fin.getElem_fin, on, run, State.flag, ramps, near]
  exact ⟨_, congrArg done (if_pos g), by simp, by simp, State.get_putB _ _ _ _ (by decide) (by decide),
    .putB _ _ (.updLoop .refl (by decide)) (by simp)⟩

/-- R108: PG is set. -/
theorem execLoopPgSet_sets (run : s.loops[m].run = .on) (clear : s.get (LOOP_STAT m) LOOP_STAT_PG = 0)
    (runs : max 1 (s.get (LOOP_CTL m) LOOP_CTL_PG_FILT) ≤ s.loops[m].pgRun) :
    Answers (.loopPgSet m) s fun t => t.get (LOOP_STAT m) LOOP_STAT_PG = 1 ∧ t.loops[m].pgOnce = true ∧
      t.raisedCode (0x30 + m) 0x08 ∧ EventFrame [LOOP_STAT m] [.snap, .loops] s t := by
  have g : (s.engines && s.loops[m].run == .on && !s.flag (LOOP_STAT m) LOOP_STAT_PG &&
      decide (max 1 (s.get (LOOP_CTL m) LOOP_CTL_PG_FILT) ≤ s.loops[m].pgRun)) = true := by
    simpa [-Fin.getElem_fin, on, run, State.flag, clear] using runs
  refine ⟨_, congrArg done (if_pos g), ?_, ?_, KeepsRaised.of_flt rfl _ _ (State.raise_raised _ _ _ _ _ (by omega)),
    .latchChange (.raise (.putB _ _ (.updLoop .refl (by decide)) (by simp)) (by omega)) (by decide)⟩
  · rw [State.latchChange_get, State.get_raise_loopStat _ _ _ _ _ _ _ (by omega),
      State.get_putB _ _ _ _ (by decide) (by decide)]
    rfl
  · simp

omit on

/-! ### Disable and the steps of a stop (R102, R109) -/

/-- The disable of a loop is honoured: PG and EN read 0 from its tick on (R109). -/
def State.disableTaken : State :=
  ((s.updLoop m (fun l => { l with pendEn := none })).putB (LOOP_STAT m) LOOP_STAT_PG false).putB (LOOP_CTL m)
    LOOP_CTL_EN false

theorem State.disableTaken_frame : Frame [LOOP_CTL m, LOOP_STAT m] [.loops] s (s.disableTaken m) :=
  .putB _ _ (.putB _ _ (.updLoop .refl (by decide)) (by simp)) (by simp)
theorem State.disableTaken_pg : (s.disableTaken m).get (LOOP_STAT m) LOOP_STAT_PG = 0 := by
  rw [State.disableTaken, State.get_putB_ne _ _ _ _ _ _ (loopCtl_ne_loopStat m).symm,
    State.get_putB _ _ _ _ (by decide) (by decide)]
  rfl
theorem State.disableTaken_en : (s.disableTaken m).get (LOOP_CTL m) LOOP_CTL_EN = 0 :=
  State.get_putB _ _ _ _ (by decide) (by decide)
theorem State.disableTaken_softStop :
    (s.disableTaken m).get (LOOP_CTL m) LOOP_CTL_SOFT_STOP = s.get (LOOP_CTL m) LOOP_CTL_SOFT_STOP := by
  rw [State.disableTaken, State.get_putB_field _ _ _ _ _ (by decide),
    State.get_putB_ne _ _ _ _ _ _ (loopCtl_ne_loopStat m), State.updLoop_get]

/-- LOOP_STAT of a loop that stops softly: ON and RAMP read 1, APF and BRAKE 0. -/
def softStopStat (w : Word) : Word :=
  setF (setF (setF (setF w LOOP_STAT_ON 1) LOOP_STAT_RAMP 1) LOOP_STAT_APF 0) LOOP_STAT_BRAKE 0

/-- The first part of a soft stop: the loop and its LOOP_STAT (R109). -/
def State.softStopBegun : State :=
  (s.updLoop m (fun l =>
    { l with run := .softStop, target := 0, ovArmed := false, pgOnce := false, pgRun := 0, join := false })).wr
    (LOOP_STAT m) (softStopStat (s.rd (LOOP_STAT m)))

/-- A soft stop as it begins (R109, R128). -/
def State.softStopped : State :=
  let t := s.softStopBegun m
  (t.phasesOff (t.phasesOf m)).reslot m

theorem State.softStopped_frame : Frame (LOOP_STAT m :: phStats) [.loops, .phases] s (s.softStopped m) := by
  have begun : Frame (LOOP_STAT m :: phStats) [.loops, .phases] s (s.softStopBegun m) :=
    .wr _ (.updLoop .refl (by decide)) (by simp)
  exact .reslot (begun.phasesOff (by decide) fun n => by simp [phStat_mem]) (by decide) (fun n => by simp [phStat_mem])
    (by simp)
theorem State.softStopped_loops : (s.softStopped m).loops = (s.softStopBegun m).loops := by simp [State.softStopped]
theorem State.softStopped_get_loopStat (f : Fld) (h : f.lo + f.w ≤ 8) :
    (s.softStopped m).get (LOOP_STAT m) f = getF (softStopStat (s.rd (LOOP_STAT m))) f := by
  rw [State.softStopped, State.reslot_get_loopStat _ _ _ h, State.phasesOff_get_loopStat, State.softStopBegun,
    State.get_wr_same]
theorem State.softStopped_on : (s.softStopped m).get (LOOP_STAT m) LOOP_STAT_ON = 1 := by
  simp (disch := decide) [State.softStopped_get_loopStat, softStopStat, getF_setF, getF_setF_ne]
theorem State.softStopped_ramp : (s.softStopped m).get (LOOP_STAT m) LOOP_STAT_RAMP = 1 := by
  simp (disch := decide) [State.softStopped_get_loopStat, softStopStat, getF_setF, getF_setF_ne]
theorem State.softStopped_pg : (s.softStopped m).get (LOOP_STAT m) LOOP_STAT_PG = s.get (LOOP_STAT m) LOOP_STAT_PG := by
  rw [State.softStopped_get_loopStat _ _ _ (by decide)]
  simp (disch := decide) [softStopStat, getF_setF_ne, State.get]
theorem State.softStopped_en : (s.softStopped m).get (LOOP_CTL m) LOOP_CTL_EN = s.get (LOOP_CTL m) LOOP_CTL_EN :=
  (s.softStopped_frame m).get _ _ (by simp [loopCtl_ne_loopStat, loopCtl_notMem_phStats])

section
variable (asked : s.loops[m].pendEn = some false) (due : s.loops[m].askAt < s.clk.frames) (run : s.loops[m].run = .on)
include on asked due run

/-- What LOOP_DISABLE comes to for a loop that is on: a soft stop, or a stop. -/
theorem execLoopDisable_eq : exec (.loopDisable m) s = done (s.latchChange (
    if (s.disableTaken m).flag (LOOP_CTL m) LOOP_CTL_SOFT_STOP then (s.disableTaken m).softStopped m
    else (s.disableTaken m).loopHalt m)) := by
  have honoured : (s.engines && s.loops[m].pendEn == some false && decide (s.loops[m].askAt < s.clk.frames)) = true := by
    simp [-Fin.getElem_fin, on, asked, due]
  have running : ¬ ((s.updLoop m (fun l => { l with pendEn := none })).loops[m].run == .off) = true := by
    simp [-Fin.getElem_fin, run]
  exact congrArg done ((if_pos honoured).trans (congrArg s.latchChange (if_neg running)))

/-- R109: a disable with a soft stop. -/
theorem execLoopDisable_ramps (soft : s.get (LOOP_CTL m) LOOP_CTL_SOFT_STOP = 1) :
    Answers (.loopDisable m) s fun t => t.loops[m].run = .softStop ∧ t.loops[m].target = 0 ∧
      t.loops[m].vref = s.loops[m].vref ∧ t.get (LOOP_CTL m) LOOP_CTL_EN = 0 ∧ t.get (LOOP_STAT m) LOOP_STAT_PG = 0 ∧
      t.get (LOOP_STAT m) LOOP_STAT_ON = 1 ∧ t.get (LOOP_STAT m) LOOP_STAT_RAMP = 1 ∧
      Frame (LOOP_CTL m :: LOOP_STAT m :: phStats) [.snap, .loops, .phases] s t := by
  have e := execLoopDisable_eq s m on asked due run
  rw [if_pos (by simp [State.flag, State.disableTaken_softStop, soft])] at e
  have loops : (s.latchChange ((s.disableTaken m).softStopped m)).loops = ((s.disableTaken m).softStopBegun m).loops := by
    rw [State.latchChange_loops, State.softStopped_loops]
  have stopped : Frame (stopRegs m) [.snap, .loops, .phases] s ((s.disableTaken m).softStopped m) :=
    ((s.disableTaken_frame m).mono (by simp) (by decide)).trans
      ((State.softStopped_frame _ m).mono (fun _ => List.mem_cons_of_mem _) (by decide))
  refine ⟨_, e, ?_, ?_, ?_, ?_, ?_, ?_, ?_, stopped.latchChange (by decide)⟩
  case refine_4 => rw [State.latchChange_get, State.softStopped_en, State.disableTaken_en]
  case refine_5 => rw [State.latchChange_get, State.softStopped_pg, State.disableTaken_pg]
  case refine_6 => rw [State.latchChange_get, State.softStopped_on]
  case refine_7 => rw [State.latchChange_get, State.softStopped_ramp]
  all_goals
    rw [loops]
    simp [-Fin.getElem_fin, State.softStopBegun, State.disableTaken]

/-- R109: a disable without a soft stop. -/
theorem execLoopDisable_halts (hard : s.get (LOOP_CTL m) LOOP_CTL_SOFT_STOP = 0) :
    Answers (.loopDisable m) s fun t => t.loops[m].run = .off ∧ t.loops[m].stgEnFall = s.loops[m].stgEn ∧
      t.get (LOOP_CTL m) LOOP_CTL_EN = 0 ∧ t.get (LOOP_STAT m) LOOP_STAT_PG = 0 ∧ t.get (LOOP_STAT m) LOOP_STAT_ON = 0 ∧
      t.get (LOOP_STAT m) LOOP_STAT_RAMP = 0 ∧
      Frame (LOOP_CTL m :: LOOP_STAT m :: phStats) [.snap, .loops, .phases] s t := by
  have e := execLoopDisable_eq s m on asked due run
  rw [if_neg (by simp [State.flag, State.disableTaken_softStop, hard])] at e
  have stopped : Frame (stopRegs m) [.snap, .loops, .phases] s ((s.disableTaken m).loopHalt m) :=
    ((s.disableTaken_frame m).mono (by simp) (by decide)).trans
      ((State.loopHalt_frame _ m).mono (fun _ => id) (by decide))
  refine ⟨_, e, ?_, ?_, ?_, ?_, ?_, ?_, stopped.latchChange (by decide)⟩
  case refine_3 => rw [State.latchChange_get, State.loopHalt_en]
  case refine_4 => rw [State.latchChange_get, State.loopHalt_pg, State.disableTaken_pg]
  case refine_5 => rw [State.latchChange_get, State.loopHalt_on]
  case refine_6 => rw [State.latchChange_get, State.loopHalt_ramp]
  all_goals simp [-Fin.getElem_fin, LoopSt.halted, State.disableTaken]

end

include on

/-- R109: the soft stop ends. -/
theorem execSoftStopEnd_halts (run : s.loops[m].run = .softStop) (near : s.rampNear m = true) :
    Answers (.softStopEnd m) s fun t => t.loops[m].run = .off ∧ t.loops[m].vref = 0 ∧
      t.loops[m].stgEnFall = s.loops[m].stgEn ∧ t.get (LOOP_STAT m) LOOP_STAT_ON = 0 ∧
      t.get (LOOP_STAT m) LOOP_STAT_RAMP = 0 ∧ Frame (LOOP_CTL m :: LOOP_STAT m :: phStats) [.loops, .phases] s t := by
  have g : (s.engines && s.loops[m].run == .softStop && s.rampNear m) = true := by simp [-Fin.getElem_fin, on, run, near]
  refine ⟨_, congrArg done (if_pos g), ?_, ?_, ?_, s.loopHalt_on m, s.loopHalt_ramp m, s.loopHalt_frame m⟩
  all_goals simp [-Fin.getElem_fin, LoopSt.halted]

/-- R102: STG_EN falls. -/
theorem execStgEnDeassert_falls (falls : s.loops[m].stgEnFall = true) :
    Answers (.stgEnDeassert m) s fun t => t.loops[m].stgEn = false ∧ t.loops[m].stgEnFall = false ∧
      Frame [] [.loops] s t := by
  have g : (s.inRun && s.loops[m].stgEnFall) = true := by simp [-Fin.getElem_fin, State.engines_inRun on, falls]
  exact ⟨_, congrArg done (if_pos g), by simp, by simp, .updLoop .refl (by decide)⟩

end

/-- Settles O21: an enable comes to a refusal or to `State.loopStarted`, a disable to `State.softStopped` or
`State.loopHalt`, and so does the end of a soft stop; the other steps write the loop and its LOOP_STAT alone. -/
theorem loopStartStop : Obligations.LoopStartStop := fun s m on =>
  ⟨execLoopEnable_refuses s m on, execLoopEnable_starts s m on, execStageEnableDelayEnd_starts s m on,
    execReferenceRampEnd_arms s m on, execLoopPgSet_sets s m on, execLoopDisable_ramps s m on,
    execLoopDisable_halts s m on, execSoftStopEnd_halts s m on, execStgEnDeassert_falls s m on⟩

end Sys2Proof.Machine
end

section
/-! SUPPORT. SYNC_IN over the loops (R121, R122): what each loop of a list comes to, and what SYNC_STAT shows. -/
namespace Sys2Proof.Machine
open Sys2Proof

/-! ### SYNC_IN qualifies (R121) -/

section
variable (s : State) (ps : List Nat) (errs : Vector (BitVec 17) 4)

/-- The measured periods are good for a loop: they agree, and each lies in the loop's range (R121). -/
def State.syncGood (m : Fin 4) : Bool := periodsAgree ps && ps.all (s.syncFits m)

/-- A loop that begins to follow SYNC_IN (R121). -/
def LoopSt.follow (l : LoopSt) (err : Int) (p : Nat) : LoopSt :=
  { l with syncOn := true, held := false, phErr := err, perTo := p, perOld := l.per, perAcc := 0 }

/-- What SYNC_IN does to one loop. -/
def State.syncLoop (m : Fin 4) : State :=
  if !s.flag (LOOP_FSW m) LOOP_FSW_SYNC_EN then s
  else if s.syncGood ps m then
    (s.updLoop m (fun l => l.follow errs[m].toInt (ps.getLastD 0))).putB SYNC_STAT SYNC_STAT_QUAL true
  else s.putB SYNC_STAT SYNC_STAT_RANGE_ERR true

theorem State.syncLoops_cons (m : Fin 4) (r : List (Fin 4)) :
    s.syncLoops ps errs (m :: r) = (s.syncLoop ps errs m).syncLoops ps errs r := rfl

theorem State.syncLoop_frame (m : Fin 4) : Frame [SYNC_STAT] [.loops] s (s.syncLoop ps errs m) := by
  unfold State.syncLoop
  exact .ite .refl (.ite (.putB _ _ (.updLoop .refl (by decide)) (by decide)) (.putB _ _ .refl (by decide)))
theorem State.syncLoops_frame (l : List (Fin 4)) : Frame [SYNC_STAT] [.loops] s (s.syncLoops ps errs l) := by
  induction l generalizing s with
  | nil => exact .refl
  | cons m r ih => exact (s.syncLoop_frame ps errs m).trans (ih _)

theorem loopFsw_ne_syncStat (m : Nat) : LOOP_FSW m ≠ SYNC_STAT := by unfold LOOP_FSW SYNC_STAT; omega

section
variable {s} {t : State} (h : Frame [SYNC_STAT] [.loops] s t) (m : Fin 4)
include h

/-- Whether a loop follows SYNC_IN at all, and in which range, does not lie in SYNC_STAT. -/
theorem Frame.syncEn : t.flag (LOOP_FSW m) LOOP_FSW_SYNC_EN = s.flag (LOOP_FSW m) LOOP_FSW_SYNC_EN :=
  h.flag _ _ (by simp [loopFsw_ne_syncStat])
theorem Frame.syncGood : t.syncGood ps m = s.syncGood ps m := by
  have fits : t.syncFits m = s.syncFits m := by
    funext p
    rw [State.syncFits, State.syncFits, h.get _ _ (by simp [loopFsw_ne_syncStat]), h.get SYNC_CFG _ (by decide)]
  rw [State.syncGood, State.syncGood, fits]

end

/-- A field of SYNC_STAT beside QUAL and RANGE_ERR stays as it is. -/
theorem State.syncLoop_get (m : Fin 4) (f : Fld) (q : f.lo + f.w ≤ 1 ∨ 4 ≤ f.lo) :
    (s.syncLoop ps errs m).get SYNC_STAT f = s.get SYNC_STAT f := by
  have off : ∀ g ∈ [SYNC_STAT_QUAL, SYNC_STAT_RANGE_ERR], g.lo + g.w ≤ f.lo ∨ f.lo + f.w ≤ g.lo := by
    intro g hg
    have : 1 ≤ g.lo ∧ g.lo + g.w ≤ 4 := by revert g; decide
    omega
  unfold State.syncLoop
  split
  · rfl
  · split
    · exact State.get_putB_field _ _ _ _ _ (off _ (by decide))
    · exact State.get_putB_field _ _ _ _ _ (off _ (by decide))
theorem State.syncLoops_get (l : List (Fin 4)) (f : Fld) (q : f.lo + f.w ≤ 1 ∨ 4 ≤ f.lo) :
    (s.syncLoops ps errs l).get SYNC_STAT f = s.get SYNC_STAT f := by
  induction l generalizing s with
  | nil => rfl
  | cons m r ih => rw [State.syncLoops_cons, ih, State.syncLoop_get _ _ _ _ _ q]

/-- QUAL reads 1 after a loop that follows, and stays as it was otherwise. -/
theorem State.syncLoop_qual (m : Fin 4) : (s.syncLoop ps errs m).get SYNC_STAT SYNC_STAT_QUAL =
    if s.flag (LOOP_FSW m) LOOP_FSW_SYNC_EN && s.syncGood ps m then 1 else s.get SYNC_STAT SYNC_STAT_QUAL := by
  cases en : s.flag (LOOP_FSW m) LOOP_FSW_SYNC_EN <;> cases good : s.syncGood ps m <;>
    simp (disch := decide) [State.syncLoop, en, good, State.get_putB, State.get_putB_field]
/-- RANGE_ERR reads 1 after a loop that would follow and cannot, and stays as it was otherwise. -/
theorem State.syncLoop_rangeErr (m : Fin 4) : (s.syncLoop ps errs m).get SYNC_STAT SYNC_STAT_RANGE_ERR =
    if s.flag (LOOP_FSW m) LOOP_FSW_SYNC_EN && !s.syncGood ps m then 1 else s.get SYNC_STAT SYNC_STAT_RANGE_ERR := by
  cases en : s.flag (LOOP_FSW m) LOOP_FSW_SYNC_EN <;> cases good : s.syncGood ps m <;>
    simp (disch := decide) [State.syncLoop, en, good, State.get_putB, State.get_putB_field]

theorem State.syncLoops_qual (l : List (Fin 4)) : (s.syncLoops ps errs l).get SYNC_STAT SYNC_STAT_QUAL =
    if l.any (fun m => s.flag (LOOP_FSW m) LOOP_FSW_SYNC_EN && s.syncGood ps m) then 1
    else s.get SYNC_STAT SYNC_STAT_QUAL := by
  induction l generalizing s with
  | nil => rfl
  | cons m r ih =>
    have h := s.syncLoop_frame ps errs m
    simp only [State.syncLoops_cons, ih, h.syncEn, h.syncGood, State.syncLoop_qual, List.any_cons]
    by_cases c : (s.flag (LOOP_FSW m) LOOP_FSW_SYNC_EN && s.syncGood ps m) = true
    · simp only [c, if_true, ite_self, Bool.true_or]
    · simp only [c, Bool.false_or, Bool.false_eq_true, if_false]
theorem State.syncLoops_rangeErr (l : List (Fin 4)) : (s.syncLoops ps errs l).get SYNC_STAT SYNC_STAT_RANGE_ERR =
    if l.any (fun m => s.flag (LOOP_FSW m) LOOP_FSW_SYNC_EN && !s.syncGood ps m) then 1
    else s.get SYNC_STAT SYNC_STAT_RANGE_ERR := by
  induction l generalizing s with
  | nil => rfl
  | cons m r ih =>
    have h := s.syncLoop_frame ps errs m
    simp only [State.syncLoops_cons, ih, h.syncEn, h.syncGood, State.syncLoop_rangeErr, List.any_cons]
    by_cases c : (s.flag (LOOP_FSW m) LOOP_FSW_SYNC_EN && !s.syncGood ps m) = true
    · simp only [c, if_true, ite_self, Bool.true_or]
    · simp only [c, Bool.false_or, Bool.false_eq_true, if_false]

/-- SYNC_IN changes no loop but the one it is about. -/
theorem State.syncLoop_loop_ne {m k : Fin 4} (h : k ≠ m) : (s.syncLoop ps errs k).loops[m] = s.loops[m] := by
  cases en : s.flag (LOOP_FSW k) LOOP_FSW_SYNC_EN <;> cases good : s.syncGood ps k <;>
    simp [-Fin.getElem_fin, State.syncLoop, en, good, getElem_set_fin_ne _ _ h]
theorem State.syncLoop_loop (m : Fin 4) : (s.syncLoop ps errs m).loops[m] =
    if s.flag (LOOP_FSW m) LOOP_FSW_SYNC_EN && s.syncGood ps m then
      s.loops[m].follow errs[m].toInt (ps.getLastD 0) else s.loops[m] := by
  cases en : s.flag (LOOP_FSW m) LOOP_FSW_SYNC_EN <;> cases good : s.syncGood ps m <;>
    simp [-Fin.getElem_fin, State.syncLoop, en, good]

/-- Each loop of a list follows SYNC_IN where it is to and its periods are good; every other one stays as it was. -/
theorem State.syncLoops_loop (m : Fin 4) {l : List (Fin 4)} (once : l.Nodup) : (s.syncLoops ps errs l).loops[m] =
    if m ∈ l ∧ (s.flag (LOOP_FSW m) LOOP_FSW_SYNC_EN && s.syncGood ps m) = true then
      s.loops[m].follow errs[m].toInt (ps.getLastD 0) else s.loops[m] := by
  induction l generalizing s with
  | nil => rfl
  | cons k r ih =>
    obtain ⟨out, once⟩ := List.nodup_cons.mp once
    have h := s.syncLoop_frame ps errs k
    rw [State.syncLoops_cons, ih _ once, h.syncEn, h.syncGood]
    by_cases e : k = m
    · subst e
      simp [-Fin.getElem_fin, out, State.syncLoop_loop]
    · simp [-Fin.getElem_fin, Ne.symm e, State.syncLoop_loop_ne s ps errs e]

end

/-! ### SYNC_IN is lost (R122) -/

section
variable (s : State) (ret : Bool)

/-- A loop that leaves SYNC_IN: HOLD keeps the period reached, RETURN slews to PER (R122). -/
def LoopSt.leave (l : LoopSt) (per : Nat) : LoopSt :=
  if l.syncOn then
    { l with syncOn := false, held := !ret, perTo := if ret then per else l.per, perOld := l.per, perAcc := 0 }
  else l

theorem LoopSt.leave_syncOn (l : LoopSt) (per : Nat) : (l.leave ret per).syncOn = false := by
  unfold LoopSt.leave; split <;> simp_all
theorem LoopSt.leave_per (l : LoopSt) (per : Nat) : (l.leave ret per).per = l.per := by
  unfold LoopSt.leave; split <;> rfl
theorem LoopSt.leave_perTo (l : LoopSt) (per : Nat) (on : l.syncOn = true) :
    (l.leave ret per).perTo = if ret then per else l.per := by
  rw [LoopSt.leave, if_pos on]

/-- What the loss of SYNC_IN does to one loop. -/
def State.unsyncLoop (m : Fin 4) : State :=
  (s.putB (LOOP_STAT m) LOOP_STAT_SYNCED false).updLoop m (fun l => l.leave ret (s.get (LOOP_FSW m) LOOP_FSW_PER))

theorem State.unsync_cons (m : Fin 4) (r : List (Fin 4)) :
    s.unsync ret (m :: r) = (s.unsyncLoop ret m).unsync ret r := rfl

theorem State.unsyncLoop_synced (m : Fin 4) : (s.unsyncLoop ret m).get (LOOP_STAT m) LOOP_STAT_SYNCED = 0 := by
  rw [State.unsyncLoop, State.updLoop_get, State.get_putB _ _ _ _ (by decide) (by decide)]
  rfl

/-- SYNCED of a loop reads 0 once it read 0. -/
theorem State.unsync_synced_zero (l : List (Fin 4)) (m : Fin 4) (h : s.get (LOOP_STAT m) LOOP_STAT_SYNCED = 0) :
    (s.unsync ret l).get (LOOP_STAT m) LOOP_STAT_SYNCED = 0 := by
  induction l generalizing s with
  | nil => exact h
  | cons k r ih =>
    refine ih (s.unsyncLoop ret k) ?_
    by_cases e : m = k
    · subst e
      exact s.unsyncLoop_synced ret m
    · rw [State.unsyncLoop, State.updLoop_get, State.get_putB_ne _ _ _ _ _ _ (loopStat_inj e), h]
theorem State.unsync_synced {l : List (Fin 4)} {m : Fin 4} (h : m ∈ l) :
    (s.unsync ret l).get (LOOP_STAT m) LOOP_STAT_SYNCED = 0 := by
  induction l generalizing s with
  | nil => exact absurd h (List.not_mem_nil)
  | cons k r ih =>
    rcases List.mem_cons.mp h with rfl | h
    · exact State.unsync_synced_zero (s.unsyncLoop ret m) _ _ _ (s.unsyncLoop_synced ret m)
    · exact ih _ h

theorem loopFsw_ne_loopStat (m k : Fin 4) : LOOP_FSW m ≠ LOOP_STAT k := by unfold LOOP_FSW LOOP_STAT; omega

/-- Each loop of a list leaves SYNC_IN; every other one stays as it was. -/
theorem State.unsync_loop (m : Fin 4) {l : List (Fin 4)} (once : l.Nodup) : (s.unsync ret l).loops[m] =
    if m ∈ l then s.loops[m].leave ret (s.get (LOOP_FSW m) LOOP_FSW_PER) else s.loops[m] := by
  induction l generalizing s with
  | nil => rfl
  | cons k r ih =>
    obtain ⟨out, once⟩ := List.nodup_cons.mp once
    have per : (s.unsyncLoop ret k).get (LOOP_FSW m) LOOP_FSW_PER = s.get (LOOP_FSW m) LOOP_FSW_PER :=
      State.get_putB_ne _ _ _ _ _ _ (loopFsw_ne_loopStat m k)
    rw [State.unsync_cons, ih _ once, per]
    by_cases e : k = m
    · subst e
      simp [-Fin.getElem_fin, out, State.unsyncLoop]
    · have other : (s.unsyncLoop ret k).loops[m] = s.loops[m] := State.updLoop_loop_ne _ _ e
      simp [-Fin.getElem_fin, Ne.symm e, other]

end

theorem mem_allFin {n : Nat} (k : Fin n) : k ∈ allFin n := List.mem_finRange k
theorem nodup_allFin (n : Nat) : (allFin n).Nodup := List.nodup_finRange n

end Sys2Proof.Machine
end

section
/-! PROOF. The control of a loop (R106, R111 to R113, R119, R121, R122): one lemma per command, and the statement. -/
namespace Sys2Proof.Machine
open Sys2Proof

section
variable (s : State) (m : Fin 4) (on : s.engines = true)

/-! ### The compensator (R111, R112) -/

theorem State.clampY_nonneg (y : Int) : 0 ≤ s.clampY m y := by
  unfold State.clampY
  dsimp only
  split
  · exact le_refl _
  · split <;> omega
theorem State.clampY_le (y : Int) : s.clampY m y ≤ (s.get (LOOP_PWM m) LOOP_PWM_DMAX * 2 ^ s.dsh m * 256 : Nat) := by
  unfold State.clampY
  dsimp only
  split
  · exact Int.natCast_nonneg _
  · split <;> omega

/-- A loop after an update of its compensator with an error (R111, R115). -/
def State.compensated (e : Int) : State :=
  s.updLoop m (fun _ =>
    { s.loops[m] with
      e1 := e, e2 := s.loops[m].e1, e3 := s.loops[m].e2, y1 := s.compY m s.loops[m] e, y2 := s.loops[m].y1,
      y3 := s.loops[m].y2, ton := s.onTime m (s.compY m s.loops[m] e),
      duty := min 65535 ((s.compY m s.loops[m] e).toNat / 2 ^ s.dsh m) })

/-- The periods that begin with the update (R116). -/
def State.compensatedPeriod (e : Int) : State :=
  (s.compensated m e).newPeriod m s.loops[m].ton (s.onTime m (s.compY m s.loops[m] e))
    (max 1 ((s.compensated m e).get (LOOP_SHED m) LOOP_SHED_RAMP)) ((s.compensated m e).phasesOf m)

theorem State.compensatedPeriod_frame (e : Int) : Frame [] [.loops, .phases] s (s.compensatedPeriod m e) :=
  .newPeriod (.updLoop .refl (by decide)) (by decide)
theorem State.compensatedPeriod_loops (e : Int) : (s.compensatedPeriod m e).loops = (s.compensated m e).loops :=
  (Frame.newPeriod (R := []) (P := [.phases]) .refl (by decide)).same .loops (by decide)

include on

/-- R111, R112: an update of a compensator that has started. -/
theorem execCompensatorUpdate_updates (c1 c2 c3 c4 : BitVec 9) (run : s.loops[m].run = .on)
    (started : s.loops[m].started = true) (apf : s.get (LOOP_STAT m) LOOP_STAT_APF = 0)
    (brake : s.get (LOOP_STAT m) LOOP_STAT_BRAKE = 0) :
    Answers (.compensatorUpdate m c1 c2 c3 c4) s fun t =>
      t.loops[m].e1 = -(c1.toInt + c2.toInt + c3.toInt + c4.toInt) ∧ t.loops[m].e2 = s.loops[m].e1 ∧
      t.loops[m].e3 = s.loops[m].e2 ∧ t.loops[m].y1 = s.compY m s.loops[m] (errorOf c1 c2 c3 c4) ∧
      0 ≤ t.loops[m].y1 ∧ t.loops[m].y1 ≤ (s.get (LOOP_PWM m) LOOP_PWM_DMAX * 2 ^ s.dsh m * 256 : Nat) ∧
      t.loops[m].y2 = s.loops[m].y1 ∧ t.loops[m].y3 = s.loops[m].y2 ∧ t.loops[m].ton = s.onTime m t.loops[m].y1 ∧
      Frame [] [.loops, .phases] s t := by
  have g : (s.engines && (s.loops[m].run == .on || s.loops[m].run == .softStop) &&
      !s.flag (LOOP_STAT m) LOOP_STAT_APF && !s.flag (LOOP_STAT m) LOOP_STAT_BRAKE &&
      (s.loops[m].started || decide (0 < errorOf c1 c2 c3 c4))) = true := by
    simp [-Fin.getElem_fin, on, run, started, State.flag, apf, brake]
  have updates : exec (.compensatorUpdate m c1 c2 c3 c4) s = done (s.compensatedPeriod m (errorOf c1 c2 c3 c4)) := by
    refine congrArg done ((if_pos g).trans ?_)
    dsimp only
    rw [if_pos started]
    rfl
  refine ⟨_, updates, ?_⟩
  simp only [State.compensatedPeriod_loops, State.compensated, State.updLoop_loop, true_and]
  exact ⟨rfl, s.clampY_nonneg m _, s.clampY_le m _, s.compensatedPeriod_frame m _⟩

omit on in
/-- R108, R136, R140: before the first positive error, and during a fire or a brake, nothing is computed. -/
theorem execCompensatorUpdate_waits (c1 c2 c3 c4 : BitVec 9) (fresh : s.loops[m].started = false)
    (waits : errorOf c1 c2 c3 c4 ≤ 0 ∨ s.get (LOOP_STAT m) LOOP_STAT_APF = 1 ∨ s.get (LOOP_STAT m) LOOP_STAT_BRAKE = 1) :
    Answers (.compensatorUpdate m c1 c2 c3 c4) s fun t => t = s := by
  have g : ¬ (s.engines && (s.loops[m].run == .on || s.loops[m].run == .softStop) &&
      !s.flag (LOOP_STAT m) LOOP_STAT_APF && !s.flag (LOOP_STAT m) LOOP_STAT_BRAKE &&
      (s.loops[m].started || decide (0 < errorOf c1 c2 c3 c4))) = true := by
    simp only [Bool.and_eq_true, Bool.or_eq_true, Bool.not_eq_true', decide_eq_true_eq, State.flag, bne_eq_false_iff_eq,
      fresh, Bool.false_eq_true, false_or]
    omega
  exact ⟨_, congrArg done (if_neg g), rfl⟩

/-! ### Setpoint, banks and period (R106, R113, R119) -/

/-- R106: a new setpoint moves the target. -/
theorem execLoopSetpointChange_ramps (asked : s.loops[m].pendCode = true) (due : s.loops[m].askAt < s.clk.frames)
    (run : s.loops[m].run = .on) :
    Answers (.loopSetpointChange m) s fun t => t.loops[m].target = 800 + s.get (LOOP_VSET m) LOOP_VSET_CODE ∧
      t.loops[m].vref = s.loops[m].vref ∧ t.loops[m].pendCode = false ∧
      t.get (LOOP_STAT m) LOOP_STAT_RAMP = (if s.loops[m].vref = 800 + s.get (LOOP_VSET m) LOOP_VSET_CODE then 0 else 1) ∧
      Frame [LOOP_STAT m] [.snap, .loops] s t := by
  have honoured : (s.engines && s.loops[m].pendCode && decide (s.loops[m].askAt < s.clk.frames)) = true := by
    simp [-Fin.getElem_fin, on, asked, due]
  have running : ((s.updLoop m (fun l => { l with pendCode := false })).loops[m].run == .on ||
      (s.updLoop m (fun l => { l with pendCode := false })).loops[m].run == .stageDelay) = true := by
    simp [-Fin.getElem_fin, run]
  refine ⟨_, congrArg done ((if_pos honoured).trans (congrArg s.latchChange (if_pos running))), ?_, ?_, ?_, ?_,
    .latchChange (.putB _ _ (.updLoop (.updLoop .refl (by decide)) (by decide)) (by simp)) (by decide)⟩
  case refine_4 =>
    rw [State.latchChange_get, State.get_putB _ _ _ _ (by decide) (by decide)]
    by_cases there : s.loops[m].vref = 800 + s.get (LOOP_VSET m) LOOP_VSET_CODE <;>
      simp [-Fin.getElem_fin, there]
  all_goals simp [-Fin.getElem_fin]

/-- R113: a swap of the banks is asked for. -/
theorem execSwapReq_asks : Answers (.swapReq m) s (fun t => t.get (LOOP_BANK m) LOOP_BANK_SWAP_REQ = 1 ∧
    t.get (LOOP_BANK m) LOOP_BANK_ACTIVE = s.get (LOOP_BANK m) LOOP_BANK_ACTIVE ∧ Frame [LOOP_BANK m] [] s t) :=
  ⟨_, congrArg done (if_pos (State.engines_inRun on)), State.get_putB _ _ _ _ (by decide) (by decide),
    State.get_putB_field _ _ _ _ _ (by decide), .putB _ _ .refl (by simp)⟩

/-- R119: a new period. -/
theorem execPeriodChange_slews (asked : s.loops[m].pendPer = true) (due : s.loops[m].askAt < s.clk.frames)
    (sync : s.loops[m].syncOn = false) (held : s.loops[m].held = false) :
    Answers (.periodChange m) s fun t => t.loops[m].perTo = s.get (LOOP_FSW m) LOOP_FSW_PER ∧ t.loops[m].pendPer = false ∧
      t.loops[m].per = (if s.loops[m].perAtOnce then s.get (LOOP_FSW m) LOOP_FSW_PER else s.loops[m].per) ∧
      Frame [] [.snap, .loops] s t := by
  have honoured : (s.engines && s.loops[m].pendPer && decide (s.loops[m].askAt < s.clk.frames)) = true := by
    simp [-Fin.getElem_fin, on, asked, due]
  refine ⟨_, congrArg done (if_pos honoured), ?_, ?_, ?_, .latchChange (.updLoop .refl (by decide)) (by decide)⟩
  all_goals
    cases once : s.loops[m].perAtOnce <;> simp [-Fin.getElem_fin, sync, held, once]

/-! ### Synchronisation (R121, R122) -/

/-- R121: a loop is synchronised. -/
theorem execSynced_shows (errs : Vector (BitVec 17) 16) (sync : s.loops[m].syncOn = true)
    (there : s.loops[m].per = s.loops[m].perTo) (clear : s.get (LOOP_STAT m) LOOP_STAT_SYNCED = 0)
    (small : ∀ k : Fin 16, errs[k].toInt.natAbs ≤ 64) (near : s.loops[m].phErr.natAbs ≤ 64 + s.loops[m].pullStep) :
    Answers (.synced m errs) s fun t => t.get (LOOP_STAT m) LOOP_STAT_SYNCED = 1 ∧ t.raisedCode 0x35 0x01 ∧
      t.loops[m].phErr = errs[15].toInt ∧ EventFrame [LOOP_STAT m] [.loops] s t := by
  have all : errs.toList.all (fun e => decide (e.toInt.natAbs ≤ 64)) = true := by
    refine List.all_eq_true.mpr fun e h => decide_eq_true ?_
    obtain ⟨i, lt, rfl⟩ := List.getElem_of_mem h
    simpa using small ⟨i, by simpa using lt⟩
  have g : (s.engines && s.loops[m].syncOn && s.loops[m].per == s.loops[m].perTo &&
      !s.flag (LOOP_STAT m) LOOP_STAT_SYNCED && errs.toList.all (fun e => decide (e.toInt.natAbs ≤ 64)) &&
      decide (s.loops[m].phErr.natAbs ≤ 64 + s.loops[m].pullStep)) = true := by
    simp only [on, sync, there, State.flag, clear, all, near, decide_true, beq_self_eq_true, bne_self_eq_false,
      Bool.not_false, Bool.and_self]
  refine ⟨_, congrArg done (if_pos g), ?_, State.raise_raised _ _ _ _ _ (by decide), ?_,
    .raise (.putB _ _ (.updLoop .refl (by decide)) (by simp)) (by decide)⟩
  · rw [State.get_raise_loopStat _ _ _ _ _ _ _ (by decide), State.get_putB _ _ _ _ (by decide) (by decide)]
    rfl
  · simp

section
variable (p1 p2 p3 p4 : BitVec 16) (errs : Vector (BitVec 17) 4)

/-- The four measured periods (R121). -/
abbrev periodsOf : List Nat := [p1.toNat, p2.toNat, p3.toNat, p4.toNat]

/-- What SYNC_STAT shows at once of four measured periods: SYNC_IN is present, with the newest period (R121). -/
def State.syncSeen : State := (s.putB SYNC_STAT SYNC_STAT_PRESENT true).put SYNC_STAT SYNC_STAT_PER p4.toNat

/-- What four measured periods come to, but for the raise (R121). -/
def State.syncMeasured : State := (s.syncSeen p4).syncLoops (periodsOf p1 p2 p3 p4) errs (allFin 4)

omit on

theorem State.syncSeen_frame : Frame [SYNC_STAT] [.loops] s (s.syncSeen p4) :=
  .put _ _ (.putB _ _ .refl (by decide)) (by decide)
theorem State.syncMeasured_frame : Frame [SYNC_STAT] [.loops] s (s.syncMeasured p1 p2 p3 p4 errs) :=
  (s.syncSeen_frame p4).trans (State.syncLoops_frame _ _ _ _)
theorem State.syncMeasured_present : (s.syncMeasured p1 p2 p3 p4 errs).get SYNC_STAT SYNC_STAT_PRESENT = 1 := by
  rw [State.syncMeasured, State.syncLoops_get _ _ _ _ _ (by decide), State.syncSeen,
    State.get_put_field _ _ _ _ _ (by decide), State.get_putB _ _ _ _ (by decide) (by decide)]
  rfl
theorem State.syncMeasured_per : (s.syncMeasured p1 p2 p3 p4 errs).get SYNC_STAT SYNC_STAT_PER = p4.toNat := by
  rw [State.syncMeasured, State.syncLoops_get _ _ _ _ _ (by decide), State.syncSeen,
    State.get_put _ _ _ _ (by decide)]
  exact Nat.mod_eq_of_lt p4.isLt
theorem State.syncMeasured_qual (en : s.flag (LOOP_FSW m) LOOP_FSW_SYNC_EN = true)
    (good : s.syncGood (periodsOf p1 p2 p3 p4) m = true) :
    (s.syncMeasured p1 p2 p3 p4 errs).get SYNC_STAT SYNC_STAT_QUAL = 1 := by
  have h := s.syncSeen_frame p4
  rw [State.syncMeasured, State.syncLoops_qual]
  exact if_pos (List.any_eq_true.mpr ⟨m, mem_allFin m, by rw [h.syncEn, h.syncGood, en, good]; rfl⟩)
theorem State.syncMeasured_rangeErr (en : s.flag (LOOP_FSW m) LOOP_FSW_SYNC_EN = true)
    (bad : s.syncGood (periodsOf p1 p2 p3 p4) m = false) :
    (s.syncMeasured p1 p2 p3 p4 errs).get SYNC_STAT SYNC_STAT_RANGE_ERR = 1 := by
  have h := s.syncSeen_frame p4
  rw [State.syncMeasured, State.syncLoops_rangeErr]
  exact if_pos (List.any_eq_true.mpr ⟨m, mem_allFin m, by rw [h.syncEn, h.syncGood, en, bad]; rfl⟩)
theorem State.syncMeasured_loop : (s.syncMeasured p1 p2 p3 p4 errs).loops[m] =
    if (s.flag (LOOP_FSW m) LOOP_FSW_SYNC_EN && s.syncGood (periodsOf p1 p2 p3 p4) m) = true then
      s.loops[m].follow errs[m].toInt p4.toNat else s.loops[m] := by
  have h := s.syncSeen_frame p4
  rw [State.syncMeasured, State.syncLoops_loop _ _ _ _ (nodup_allFin 4), h.syncEn, h.syncGood]
  simp [-Fin.getElem_fin, mem_allFin, State.syncSeen]

include on

/-- What SYNC_QUALIFIED comes to (R121). -/
theorem execSyncQualified_eq : exec (.syncQualified p1 p2 p3 p4 errs) s = done (
    if (allFin 4).any (fun k => s.flag (LOOP_FSW k) LOOP_FSW_SYNC_EN && !s.syncGood (periodsOf p1 p2 p3 p4) k) then
      (s.syncMeasured p1 p2 p3 p4 errs).raise 0x35 0x02
    else s.syncMeasured p1 p2 p3 p4 errs) := congrArg done (if_pos on)

/-- R121: SYNC_IN qualifies. -/
theorem execSyncQualified_follows (en : s.get (LOOP_FSW m) LOOP_FSW_SYNC_EN = 1)
    (agree : periodsAgree [p1.toNat, p2.toNat, p3.toNat, p4.toNat] = true)
    (fit : ∀ k : Fin 4, [p1.toNat, p2.toNat, p3.toNat, p4.toNat].all (s.syncFits k) = true) :
    Answers (.syncQualified p1 p2 p3 p4 errs) s fun t => t.loops[m].syncOn = true ∧ t.loops[m].perTo = p4.toNat ∧
      t.loops[m].phErr = errs[m].toInt ∧
      t.loops[m].per = s.loops[m].per ∧ t.get SYNC_STAT SYNC_STAT_QUAL = 1 ∧ t.get SYNC_STAT SYNC_STAT_PRESENT = 1 ∧
      t.get SYNC_STAT SYNC_STAT_PER = p4.toNat ∧ Frame [SYNC_STAT] [.loops] s t := by
  have follows : s.flag (LOOP_FSW m) LOOP_FSW_SYNC_EN = true := by rw [State.flag, en]; rfl
  have good : ∀ k, s.syncGood (periodsOf p1 p2 p3 p4) k = true := fun k => by rw [State.syncGood, agree, fit k]; rfl
  have none : ¬ (allFin 4).any (fun k => s.flag (LOOP_FSW k) LOOP_FSW_SYNC_EN &&
      !s.syncGood (periodsOf p1 p2 p3 p4) k) = true := by simp [good]
  have loop := (s.syncMeasured_loop m p1 p2 p3 p4 errs).trans (if_pos (by rw [follows, good m]; rfl))
  refine ⟨_, (execSyncQualified_eq s on p1 p2 p3 p4 errs).trans (congrArg done (if_neg none)), ?_, ?_, ?_, ?_,
    s.syncMeasured_qual m p1 p2 p3 p4 errs follows (good m), s.syncMeasured_present p1 p2 p3 p4 errs,
    s.syncMeasured_per p1 p2 p3 p4 errs, s.syncMeasured_frame p1 p2 p3 p4 errs⟩
  all_goals
    rw [loop]
    rfl

/-- R121: SYNC_IN errs. -/
theorem execSyncQualified_errs (en : s.get (LOOP_FSW m) LOOP_FSW_SYNC_EN = 1)
    (apart : periodsAgree [p1.toNat, p2.toNat, p3.toNat, p4.toNat] = false) :
    Answers (.syncQualified p1 p2 p3 p4 errs) s fun t => t.loops[m] = s.loops[m] ∧
      t.get SYNC_STAT SYNC_STAT_RANGE_ERR = 1 ∧ t.raisedCode 0x35 0x02 ∧ EventFrame [SYNC_STAT] [.loops] s t := by
  have follows : s.flag (LOOP_FSW m) LOOP_FSW_SYNC_EN = true := by rw [State.flag, en]; rfl
  have bad : s.syncGood (periodsOf p1 p2 p3 p4) m = false := by rw [State.syncGood, apart]; rfl
  have some : (allFin 4).any (fun k => s.flag (LOOP_FSW k) LOOP_FSW_SYNC_EN &&
      !s.syncGood (periodsOf p1 p2 p3 p4) k) = true :=
    List.any_eq_true.mpr ⟨m, mem_allFin m, by rw [follows, bad]; rfl⟩
  refine ⟨_, (execSyncQualified_eq s on p1 p2 p3 p4 errs).trans (congrArg done (if_pos some)), ?_, ?_,
    State.raise_raised _ _ _ _ _ (by decide), .raise (.of_frame (s.syncMeasured_frame p1 p2 p3 p4 errs)) (by decide)⟩
  · simp only [State.raise_loops]
    exact (s.syncMeasured_loop m p1 p2 p3 p4 errs).trans (if_neg (by rw [bad, Bool.and_false]; decide))
  · rw [State.raise_get _ _ _ _ _ _ _ (by decide) (offEvents_of_page (by decide))]
    exact s.syncMeasured_rangeErr m p1 p2 p3 p4 errs follows bad

end

/-- What SYNC_STAT shows of a SYNC_IN that is lost (R122). -/
def State.syncGone : State :=
  (((s.putB SYNC_STAT SYNC_STAT_LOST true).putB SYNC_STAT SYNC_STAT_PRESENT false).putB
    SYNC_STAT SYNC_STAT_QUAL false).put SYNC_STAT SYNC_STAT_PER 0

/-- What the loss of SYNC_IN comes to, but for the raise (R122). -/
def State.syncLeft : State := s.syncGone.unsync (s.flag SYNC_CFG SYNC_CFG_LOSS_MODE) (allFin 4)

omit on in
theorem State.syncGone_frame : Frame [SYNC_STAT] [] s s.syncGone :=
  .put _ _ (.putB _ _ (.putB _ _ (.putB _ _ .refl (by decide)) (by decide)) (by decide)) (by decide)
omit on in
theorem State.syncLeft_frame : EventFrame (SYNC_STAT :: loopStats) [.loops] s s.syncLeft :=
  .unsync (.of_frame (s.syncGone_frame.mono (by simp) (by simp))) (by decide) fun k =>
    List.mem_cons_of_mem _ (loopStat_mem k)
omit on in
theorem State.syncLeft_get (f : Fld) : s.syncLeft.get SYNC_STAT f = s.syncGone.get SYNC_STAT f :=
  (EventFrame.unsync (P := [.loops]) .refl (by decide) loopStat_mem).get _ _ (by decide) (offEvents_of_page (by decide))
omit on in
theorem State.syncLeft_loop : s.syncLeft.loops[m] =
    s.loops[m].leave (s.flag SYNC_CFG SYNC_CFG_LOSS_MODE) (s.get (LOOP_FSW m) LOOP_FSW_PER) := by
  rw [State.syncLeft, State.unsync_loop _ _ _ (nodup_allFin 4), if_pos (mem_allFin m),
    s.syncGone_frame.get _ _ (by simp [loopFsw_ne_syncStat])]
  rfl

/-- What SYNC_LOST comes to of a SYNC_IN that had qualified (R122). -/
theorem execSyncLost_eq (qual : s.get SYNC_STAT SYNC_STAT_QUAL = 1) : exec .syncLost s = done (s.syncLeft.raise 0x34 0) := by
  have g : (s.engines && s.flag SYNC_STAT SYNC_STAT_QUAL) = true := by rw [State.flag, on, qual]; rfl
  have mode : s.syncGone.flag SYNC_CFG SYNC_CFG_LOSS_MODE = s.flag SYNC_CFG SYNC_CFG_LOSS_MODE :=
    s.syncGone_frame.flag _ _ (by decide)
  rw [State.syncLeft, ← mode]
  exact congrArg done (if_pos g)

/-- R122: SYNC_IN is lost. -/
theorem execSyncLost_leaves (qual : s.get SYNC_STAT SYNC_STAT_QUAL = 1) :
    Answers .syncLost s fun t => t.get SYNC_STAT SYNC_STAT_LOST = 1 ∧ t.get SYNC_STAT SYNC_STAT_QUAL = 0 ∧
      t.get SYNC_STAT SYNC_STAT_PRESENT = 0 ∧ t.get (LOOP_STAT m) LOOP_STAT_SYNCED = 0 ∧
      t.loops[m].syncOn = false ∧ t.loops[m].per = s.loops[m].per ∧
      (s.loops[m].syncOn = true → t.loops[m].perTo =
        (if s.get SYNC_CFG SYNC_CFG_LOSS_MODE = 0 then s.loops[m].per else s.get (LOOP_FSW m) LOOP_FSW_PER)) ∧
      t.raisedCode 0x34 0 ∧ EventFrame (SYNC_STAT :: loopStats) [.loops] s t := by
  have stat : ∀ f, (s.syncLeft.raise 0x34 0).get SYNC_STAT f = s.syncGone.get SYNC_STAT f := fun f =>
    (State.raise_get _ _ _ _ _ _ _ (by decide) (offEvents_of_page (by decide))).trans (s.syncLeft_get f)
  have loop : (s.syncLeft.raise 0x34 0).loops[m] =
      s.loops[m].leave (s.flag SYNC_CFG SYNC_CFG_LOSS_MODE) (s.get (LOOP_FSW m) LOOP_FSW_PER) := by
    simp only [State.raise_loops]
    exact s.syncLeft_loop m
  refine ⟨_, execSyncLost_eq s on qual, ?_, ?_, ?_, ?_, ?_, ?_, fun sync => ?_, State.raise_raised _ _ _ _ _ (by decide),
    s.syncLeft_frame.raise (by decide)⟩
  case refine_4 =>
    rw [State.get_raise_loopStat _ _ _ _ _ _ _ (by decide), State.syncLeft, State.unsync_synced _ _ (mem_allFin m)]
  case refine_5 => rw [loop, LoopSt.leave_syncOn]
  case refine_6 => rw [loop, LoopSt.leave_per]
  case refine_7 =>
    rw [loop, LoopSt.leave_perTo _ _ _ sync, State.flag]
    by_cases hold : s.get SYNC_CFG SYNC_CFG_LOSS_MODE = 0 <;> simp [-Fin.getElem_fin, hold]
  all_goals
    rw [stat]
    simp (disch := decide) [State.syncGone, State.get_put_field, State.get_putB_field, State.get_putB]

end

/-- Settles O22: a change of setpoint or period writes the loop alone, an update comes to `State.compensatedPeriod`, the
measured periods of SYNC_IN to `State.syncMeasured` and its loss to `State.syncLeft`. -/
theorem loopControl : Obligations.LoopControl := fun s m on =>
  ⟨execLoopSetpointChange_ramps s m on, execCompensatorUpdate_updates s m on,
    fun c1 c2 c3 c4 _ fresh waits => execCompensatorUpdate_waits s m c1 c2 c3 c4 fresh waits, execSwapReq_asks s m on,
    execPeriodChange_slews s m on, execSynced_shows s m on, execSyncQualified_follows s m on,
    execSyncQualified_errs s m on, execSyncLost_leaves s m on⟩

end Sys2Proof.Machine
end

section
/-! SUPPORT. The stop of a loop by a protection and the fence of a phase (R143, R147): what each may change, what stays
raised, and what becomes of each phase. -/
namespace Sys2Proof.Machine
open Sys2Proof

theorem phCfg_notMem_stopRegs : ∀ (n : Fin 16) (m : Fin 4), PH_CFG n ∉ stopRegs m := by decide
theorem phCtl_notMem_stopRegs : ∀ (n : Fin 16) (m : Fin 4), PH_CTL n ∉ stopRegs m := by decide
theorem phCfg_ne_phCtl (n k : Nat) : PH_CFG n ≠ PH_CTL k := by unfold PH_CFG PH_CTL; omega
theorem phStat_ne_phCtl (n k : Nat) : PH_STAT n ≠ PH_CTL k := by unfold PH_STAT PH_CTL; omega
theorem phCfg_ne_phStat (n k : Nat) : PH_CFG n ≠ PH_STAT k := by unfold PH_CFG PH_STAT; omega

/-! ### The stop of a loop by a protection (R143, R144) -/

section
variable (s : State) (m : Fin 4)

theorem State.losePG_frame : EventFrame [LOOP_STAT m] [] s (s.losePG m) := by
  unfold State.losePG
  exact .ite (.raise (.putB _ _ .refl (by simp)) (by omega)) .refl
theorem State.losePG_keepsRaised : KeepsRaised s (s.losePG m) := by
  unfold State.losePG
  exact .ite (KeepsRaised.refl.putB.raise) .refl
theorem State.losePG_pg : (s.losePG m).get (LOOP_STAT m) LOOP_STAT_PG = 0 := by
  unfold State.losePG
  split
  · rw [State.get_raise_loopStat _ _ _ _ _ _ _ (by omega), State.get_putB _ _ _ _ (by decide) (by decide)]
    rfl
  · rename_i clear
    simpa [State.flag] using clear
/-- R144: a PG that stood is told to be lost. -/
theorem State.losePG_raised (stood : s.get (LOOP_STAT m) LOOP_STAT_PG = 1) : (s.losePG m).raisedCode (0x30 + m) 0x07 := by
  rw [State.losePG, if_pos (by rw [State.flag, stood]; rfl)]
  exact State.raise_raised _ _ _ _ _ (by omega)
@[simp] theorem State.losePG_loops : (s.losePG m).loops = s.loops := (s.losePG_frame m).same .loops (by decide) (by decide)

theorem State.loopStop_frame : EventFrame (stopRegs m) [.loops, .phases] s (s.loopStop m) :=
  ((s.losePG_frame m).mono (by simp) (by simp)).trans (.of_frame (State.loopHalt_frame _ m))
theorem State.loopStop_keepsRaised : KeepsRaised s (s.loopStop m) :=
  (s.losePG_keepsRaised m).trans (.of_flt (State.loopHalt_flt _ m))
@[simp] theorem State.loopStop_loops : (s.loopStop m).loops = (s.updLoop m LoopSt.halted).loops := by
  simp [State.loopStop]
theorem State.loopStop_raised (stood : s.get (LOOP_STAT m) LOOP_STAT_PG = 1) :
    (s.loopStop m).raisedCode (0x30 + m) 0x07 :=
  KeepsRaised.of_flt (State.loopHalt_flt _ m) _ _ (s.losePG_raised m stood)
theorem State.loopStop_pg : (s.loopStop m).get (LOOP_STAT m) LOOP_STAT_PG = 0 :=
  (State.loopHalt_pg _ m).trans (s.losePG_pg m)
theorem State.loopStop_on : (s.loopStop m).get (LOOP_STAT m) LOOP_STAT_ON = 0 := State.loopHalt_on _ m
theorem State.loopStop_en : (s.loopStop m).get (LOOP_CTL m) LOOP_CTL_EN = 0 := State.loopHalt_en _ m

end

/-! ### What becomes of a phase while another is acted on, or its loop stops -/

/-- Of PH_STAT of a phase, the operations on its loop and on other phases change no attribution and no substitution, and
its state only among those that are neither unused nor fenced (R128). -/
structure SamePhase (n : Fin 16) (s t : State) : Prop where
  fenced : t.phState n = phFenced ↔ s.phState n = phFenced
  unused : t.phState n = phUnused ↔ s.phState n = phUnused
  subst : t.get (PH_STAT n) PH_STAT_SUBST = s.get (PH_STAT n) PH_STAT_SUBST
  fault : t.get (PH_STAT n) PH_STAT_STG_FAULT = s.get (PH_STAT n) PH_STAT_STG_FAULT

namespace SamePhase
variable {n : Fin 16} {s t u : State}

theorem refl : SamePhase n s s := ⟨.rfl, .rfl, rfl, rfl⟩
theorem trans (h : SamePhase n s t) (g : SamePhase n t u) : SamePhase n s u :=
  ⟨g.fenced.trans h.fenced, g.unused.trans h.unused, g.subst.trans h.subst, g.fault.trans h.fault⟩
theorem ite {c : Prop} {_ : Decidable c} (h : SamePhase n s t) (g : SamePhase n s u) :
    SamePhase n s (if c then t else u) := by split <;> assumption
/-- What leaves the fields that are asked of PH_STAT. -/
theorem of_get (h : ∀ f ∈ [PH_STAT_STATE, PH_STAT_SUBST, PH_STAT_STG_FAULT], t.get (PH_STAT n) f = s.get (PH_STAT n) f) :
    SamePhase n s t := by
  have state : t.phState n = s.phState n := h _ (by decide)
  exact ⟨by rw [state], by rw [state], h _ (by decide), h _ (by decide)⟩
/-- What writes other registers. -/
theorem of_frame {R : List Nat} {P : List Part} (h : EventFrame R P s t) (r : PH_STAT n ∉ R) : SamePhase n s t :=
  of_get fun _ _ => h.get _ _ r (offEvents_phStat n)
theorem put_slot (k : Fin 16) (v : Nat) : SamePhase n s (s.put (PH_STAT k) PH_STAT_SLOT v) := by
  refine of_get fun f hf => ?_
  by_cases e : n = k
  · subst e
    refine State.get_put_field _ _ _ _ _ ?_
    revert f; decide
  · exact State.get_put_ne _ _ _ _ _ _ (phStat_inj e)
/-- An active, shedding or shed phase that becomes off. -/
theorem setPh_off (k : Fin 16) (h : s.phState k = phActive ∨ s.phState k = phShedding ∨ s.phState k = phShed) :
    SamePhase n s (s.setPh k phOff) := by
  by_cases e : n = k
  · subst e
    have off : (s.setPh n phOff).phState n = phOff := State.get_put _ _ _ _ (by decide)
    have used : s.phState n ≠ phFenced ∧ s.phState n ≠ phUnused := by
      rcases h with h | h | h <;> rw [h] <;> decide
    exact ⟨iff_of_false (by rw [off]; decide) used.1, iff_of_false (by rw [off]; decide) used.2,
      State.get_put_field _ _ _ _ _ (by decide), State.get_put_field _ _ _ _ _ (by decide)⟩
  · exact of_get fun _ _ => State.get_put_ne _ _ _ _ _ _ (phStat_inj e)

theorem unspace (h : SamePhase n s t) (l : List (Fin 16)) : SamePhase n s (t.unspace l) :=
  h.trans (.of_frame (R := []) (P := [.phases]) (.of_frame (.unspace .refl (by decide))) (by simp))
theorem numberSlots (h : SamePhase n s t) (per n0 n1 k : Nat) (l : List (Fin 16)) :
    SamePhase n s (numberSlots per n0 n1 l k t) := by
  induction l generalizing k t with
  | nil => exact h
  | cons j r ih =>
    refine ih (t := (t.put (PH_STAT j) PH_STAT_SLOT k).updPhase j _) ?_ (k + 1)
    exact h.trans ((put_slot j k).trans (.of_get fun _ _ => rfl))
theorem put_loopStat (h : SamePhase n s t) (m : Fin 4) (f : Fld) (v : Nat) : SamePhase n s (t.put (LOOP_STAT m) f v) :=
  h.trans (.of_get fun _ _ => State.get_put_ne _ _ _ _ _ _ (phStat_ne_loopStat n m))
theorem reslot (h : SamePhase n s t) (m : Fin 4) : SamePhase n s (t.reslot m) :=
  (((h.unspace _).numberSlots _ _ _ _ _).put_loopStat m _ _).put_loopStat m _ _
theorem phasesOff (h : SamePhase n s t) (l : List (Fin 16)) : SamePhase n s (t.phasesOff l) := by
  induction l generalizing t with
  | nil => exact h
  | cons k r ih =>
    have off : SamePhase n t (if t.phState k == phActive || t.phState k == phShedding || t.phState k == phShed then
        t.setPh k phOff else t) := by
      split
      · rename_i c
        exact setPh_off k (by simpa [or_assoc] using c)
      · exact .refl
    exact ih ((h.trans off).trans (.of_get fun _ _ => rfl))
theorem loopHalt (h : SamePhase n s t) (m : Fin 4) : SamePhase n s (t.loopHalt m) := by
  have begun : SamePhase n s (t.haltBegun m) :=
    h.trans (.of_frame (.of_frame (t.haltBegun_frame m)) (by simp [phStat_ne_loopStat]))
  rw [State.loopHalt_eq]
  exact .reslot ((begun.phasesOff _).trans (.of_get fun _ _ => State.get_putB_ne _ _ _ _ _ _ (phStat_ne_loopCtl n m))) m
theorem loopStop (h : SamePhase n s t) (m : Fin 4) : SamePhase n s (t.loopStop m) :=
  .loopHalt (h.trans (.of_frame (t.losePG_frame m) (by simp [phStat_ne_loopStat]))) m
theorem raise (h : SamePhase n s t) (e c i : Nat) (d : List Byte) (k : e < 256) : SamePhase n s (t.raise e c i d) :=
  h.trans (.of_frame (R := []) (P := []) (.raise .refl k) (by simp))

end SamePhase

/-! ### The fence of a phase (R147) -/

section
variable (s : State) (n : Fin 16) (m : Fin 4)

/-- A phase becomes fenced, with nothing under way (R128, R147). -/
def State.phaseFenced : State :=
  (s.setPh n phFenced).updPhase n (fun p =>
    { p with claim := if s.phState n == phSpare then none else some (s.phState n), askAt := s.clk.frames, firing := false,
             cut := false, postFire := false, shedJ := 0, ocRun := 0, fullRun := 0, ocHold := 0, imbRun := 0,
             imbSaid := false, imbHeld := false })

/-- Its substitution is over, and the fence is told (R147). -/
def State.fenceTold : State := ((s.phaseFenced n).putB (PH_STAT n) PH_STAT_SUBST false).raise (0x20 + n) 0x04

/-- The first part of a fence: the phase itself, its event, and what its loop counts (R147). -/
def State.fenceMarked : State :=
  ((s.fenceTold n).put (LOOP_STAT (s.loopOf n)) LOOP_STAT_SPARES ((s.fenceTold n).sparesOf (s.loopOf n)).length).updLoop
    (s.loopOf n) (fun l => { l with shedRun := 0, disturbed := l.disturbed || s.phState n == phShedding })

/-- A loop that a fence has left bare is stopped as by loop overcurrent (R147). -/
def State.bareStopped : State :=
  if s.loops[m].run != .off && s.loopBare m then
    (((s.raise (0x30 + m) 0x06).loopStop m).dropClaims (s.phasesOf m)).reslot m
  else s

/-- STG_EN of a loop all of whose phases are fenced is low (R147). -/
def State.stgDropped : State :=
  if (s.phasesOf m).all (fun k => s.phState k == phFenced) then
    s.updLoop m (fun l => { l with stgEn := false, stgEnFall := false })
  else s

theorem State.fencePhase_eq (used : s.phState n ≠ phUnused) (unfenced : s.phState n ≠ phFenced) :
    s.fencePhase n = ((s.fenceMarked n).bareStopped (s.loopOf n)).stgDropped (s.loopOf n) := by
  unfold State.fencePhase
  exact if_neg (by simp [used, unfenced])

theorem State.phaseFenced_frame : Frame [PH_STAT n] [.phases] s (s.phaseFenced n) :=
  .updPhase (.put _ _ .refl (by simp)) (by decide)
theorem State.phaseFenced_get (f : Fld) (h : 3 ≤ f.lo) : (s.phaseFenced n).get (PH_STAT n) f = s.get (PH_STAT n) f :=
  State.get_put_field _ _ _ _ _ (.inl h)
theorem State.phaseFenced_state : (s.phaseFenced n).phState n = phFenced := State.get_put _ _ _ _ (by decide)

theorem State.fenceTold_frame : EventFrame [PH_STAT n] [.phases] s (s.fenceTold n) :=
  .raise (.putB _ _ (.of_frame (s.phaseFenced_frame n)) (by simp)) (by omega)
theorem State.fenceTold_get (f : Fld) (h : f.lo + f.w ≤ 3 ∨ 4 ≤ f.lo) :
    (s.fenceTold n).get (PH_STAT n) f = (s.phaseFenced n).get (PH_STAT n) f := by
  rw [State.fenceTold, State.get_raise_phStat _ _ _ _ _ _ _ (by omega)]
  exact State.get_putB_field _ _ _ _ _ h.symm
theorem State.fenceTold_subst : (s.fenceTold n).get (PH_STAT n) PH_STAT_SUBST = 0 := by
  rw [State.fenceTold, State.get_raise_phStat _ _ _ _ _ _ _ (by omega), State.get_putB _ _ _ _ (by decide) (by decide)]
  rfl
theorem State.fenceTold_raised : (s.fenceTold n).raisedCode (0x20 + n) 0x04 := State.raise_raised _ _ _ _ _ (by omega)
theorem State.fenceTold_keepsRaised : KeepsRaised s (s.fenceTold n) :=
  .raise (.putB (.of_flt ((s.phaseFenced_frame n).same .flt (by decide))))

/-- The counts of the loop lie in none of the registers of phases. -/
theorem State.fenceMarked_get (k : Fin 16) (f : Fld) :
    (s.fenceMarked n).get (PH_STAT k) f = (s.fenceTold n).get (PH_STAT k) f :=
  State.get_put_ne _ _ _ _ _ _ (phStat_ne_loopStat k _)
theorem State.fenceMarked_frame : EventFrame (stopRegs (s.loopOf n)) [.loops, .phases] s (s.fenceMarked n) :=
  .updLoop (.put _ _ ((s.fenceTold_frame n).mono (by simp [phStat_mem]) (by simp)) (by simp)) (by decide)
theorem State.fenceMarked_state : (s.fenceMarked n).phState n = phFenced :=
  (s.fenceMarked_get n n _).trans ((s.fenceTold_get n _ (by decide)).trans (s.phaseFenced_state n))
theorem State.fenceMarked_subst : (s.fenceMarked n).get (PH_STAT n) PH_STAT_SUBST = 0 :=
  (s.fenceMarked_get n n _).trans (s.fenceTold_subst n)
theorem State.fenceMarked_fault :
    (s.fenceMarked n).get (PH_STAT n) PH_STAT_STG_FAULT = s.get (PH_STAT n) PH_STAT_STG_FAULT :=
  (s.fenceMarked_get n n _).trans ((s.fenceTold_get n _ (by decide)).trans (s.phaseFenced_get n _ (by decide)))
theorem State.fenceMarked_raised : (s.fenceMarked n).raisedCode (0x20 + n) 0x04 := s.fenceTold_raised n
theorem State.fenceMarked_keepsRaised : KeepsRaised s (s.fenceMarked n) := s.fenceTold_keepsRaised n
/-- The marks of a fence are of its own phase. -/
theorem State.fenceMarked_other {k : Fin 16} (h : k ≠ n) : SamePhase k s (s.fenceMarked n) :=
  .of_get fun f _ => (s.fenceMarked_get n k f).trans
    ((s.fenceTold_frame n).get _ _ (by simpa using phStat_inj h) (offEvents_phStat k))

theorem State.bareStopped_frame : EventFrame (stopRegs m) [.loops, .phases] s (s.bareStopped m) := by
  have raised : EventFrame (stopRegs m) [.loops, .phases] s (s.raise (0x30 + m) 0x06) := .raise .refl (by omega)
  have dropped : Frame (stopRegs m) [.loops, .phases] ((s.raise (0x30 + m) 0x06).loopStop m)
      ((((s.raise (0x30 + m) 0x06).loopStop m).dropClaims (s.phasesOf m)).reslot m) :=
    .reslot (.dropClaims .refl (by decide)) (by decide) (phStat_mem_stopRegs m) (by simp)
  exact .ite ((raised.trans (State.loopStop_frame _ m)).trans (.of_frame dropped)) .refl
theorem State.bareStopped_keepsRaised : KeepsRaised s (s.bareStopped m) := by
  have dropped : ((s.raise (0x30 + m) 0x06).loopStop m |>.dropClaims (s.phasesOf m)).flt =
      ((s.raise (0x30 + m) 0x06).loopStop m).flt :=
    (Frame.dropClaims (R := []) (P := [.phases]) .refl (by decide)).same .flt (by decide)
  exact .ite ((KeepsRaised.refl.raise.trans (State.loopStop_keepsRaised _ m)).trans
    (.of_flt ((State.reslot_flt _ m).trans dropped))) .refl
theorem State.bareStopped_same (k : Fin 16) : SamePhase k s (s.bareStopped m) := by
  have stopped : SamePhase k s ((s.raise (0x30 + m) 0x06).loopStop m) :=
    .loopStop (.raise .refl _ _ _ _ (by omega)) m
  have dropped : SamePhase k s (((s.raise (0x30 + m) 0x06).loopStop m).dropClaims (s.phasesOf m)) :=
    stopped.trans (.of_frame (R := []) (P := [.phases]) (.of_frame (.dropClaims .refl (by decide))) (by simp))
  exact .ite (dropped.reslot m) .refl

theorem State.stgDropped_frame : Frame [] [.loops] s (s.stgDropped m) := .ite (.updLoop .refl (by decide)) .refl
theorem State.stgDropped_same (k : Fin 16) : SamePhase k s (s.stgDropped m) :=
  .of_frame (.of_frame (s.stgDropped_frame m)) (by simp)

/-- A fence writes the registers of its phase's loop and of the phases alone (R147). -/
theorem State.fencePhase_frame : EventFrame (stopRegs (s.loopOf n)) [.loops, .phases] s (s.fencePhase n) := by
  by_cases idle : s.phState n = phUnused ∨ s.phState n = phFenced
  · rw [State.fencePhase, if_pos (by simpa using idle)]
    exact .refl
  · obtain ⟨used, unfenced⟩ := not_or.mp idle
    rw [s.fencePhase_eq n used unfenced]
    exact ((s.fenceMarked_frame n).trans (State.bareStopped_frame _ _)).trans
      (.of_frame ((State.stgDropped_frame _ _).mono (by simp) (by decide)))
theorem State.fencePhase_keepsRaised : KeepsRaised s (s.fencePhase n) := by
  by_cases idle : s.phState n = phUnused ∨ s.phState n = phFenced
  · rw [State.fencePhase, if_pos (by simpa using idle)]
    exact .refl
  · obtain ⟨used, unfenced⟩ := not_or.mp idle
    rw [s.fencePhase_eq n used unfenced]
    exact ((s.fenceMarked_keepsRaised n).trans (State.bareStopped_keepsRaised _ _)).trans
      (.of_flt ((State.stgDropped_frame _ _).same .flt (by decide)))
/-- A fence leaves every other phase among the same states. -/
theorem State.fencePhase_other {k : Fin 16} (h : k ≠ n) : SamePhase k s (s.fencePhase n) := by
  by_cases idle : s.phState n = phUnused ∨ s.phState n = phFenced
  · rw [State.fencePhase, if_pos (by simpa using idle)]
    exact .refl
  · obtain ⟨used, unfenced⟩ := not_or.mp idle
    rw [s.fencePhase_eq n used unfenced]
    exact ((s.fenceMarked_other n h).trans (State.bareStopped_same _ _ k)).trans (State.stgDropped_same _ _ k)

section
variable (used : s.phState n ≠ phUnused) (unfenced : s.phState n ≠ phFenced)
include used unfenced

/-- What follows the marks of a fence leaves the phase as it is marked. -/
theorem State.fencePhase_marked : SamePhase n (s.fenceMarked n) (s.fencePhase n) := by
  rw [s.fencePhase_eq n used unfenced]
  exact (State.bareStopped_same _ _ n).trans (State.stgDropped_same _ _ n)
theorem State.fencePhase_state : (s.fencePhase n).phState n = phFenced :=
  (s.fencePhase_marked n used unfenced).fenced.mpr (s.fenceMarked_state n)
theorem State.fencePhase_subst : (s.fencePhase n).get (PH_STAT n) PH_STAT_SUBST = 0 :=
  (s.fencePhase_marked n used unfenced).subst.trans (s.fenceMarked_subst n)
theorem State.fencePhase_fault :
    (s.fencePhase n).get (PH_STAT n) PH_STAT_STG_FAULT = s.get (PH_STAT n) PH_STAT_STG_FAULT :=
  (s.fencePhase_marked n used unfenced).fault.trans (s.fenceMarked_fault n)
theorem State.fencePhase_raised : (s.fencePhase n).raisedCode (0x20 + n) 0x04 := by
  rw [s.fencePhase_eq n used unfenced]
  exact ((State.bareStopped_keepsRaised _ _).trans (.of_flt ((State.stgDropped_frame _ _).same .flt (by decide)))) _ _
    (s.fenceMarked_raised n)

end

end

/-! ### The attribution of a stage fault (R103, R145) -/

section
variable (s : State) (n : Fin 16)

/-- The stage fault of a phase: it is fenced, with its flag and its events (R145, R147). -/
structure Attributed (n : Fin 16) (t : State) : Prop where
  fenced : t.phState n = phFenced
  fault : t.get (PH_STAT n) PH_STAT_STG_FAULT = 1
  raised : t.raisedCode (0x20 + n) 0x01
  told : t.raisedCode (0x20 + n) 0x04

/-- A phase that a stage fault can be attributed to: wired to a loop, in use and not fenced (R103). -/
structure Attributable (n : Fin 16) (s : State) : Prop where
  role : s.phRole n ≠ 0
  used : s.phState n ≠ phUnused
  unfenced : s.phState n ≠ phFenced

/-- The flag and the first event of an attribution. -/
def State.faultShown : State := (s.putB (PH_STAT n) PH_STAT_STG_FAULT true).raise (0x20 + n) 0x01

theorem State.faultShown_frame : EventFrame [PH_STAT n] [] s (s.faultShown n) :=
  .raise (.putB _ _ .refl (by simp)) (by omega)
theorem State.faultShown_state : (s.faultShown n).phState n = s.phState n :=
  (State.get_raise_phStat _ _ _ _ _ _ _ (by omega)).trans (State.get_putB_field _ _ _ _ _ (by decide))
theorem State.faultShown_fault : (s.faultShown n).get (PH_STAT n) PH_STAT_STG_FAULT = 1 :=
  (State.get_raise_phStat _ _ _ _ _ _ _ (by omega)).trans (State.get_putB _ _ _ _ (by decide) (by decide))
theorem State.faultShown_raised : (s.faultShown n).raisedCode (0x20 + n) 0x01 := State.raise_raised _ _ _ _ _ (by omega)

/-- What the attribution of a stage fault does to the phase named (R103, R145). -/
def State.blamed : State :=
  if s.phRole n == 0 || s.phState n == phFenced then s else (s.faultShown n).fencePhase n

theorem State.attributeAll_cons (mask : BitVec 16) (r : List (Fin 16)) :
    s.attributeAll mask (n :: r) = (if mask.getLsbD n then s.blamed n else s).attributeAll mask r := rfl

theorem State.blamed_keepsRaised : KeepsRaised s (s.blamed n) := by
  unfold State.blamed
  exact .ite .refl ((KeepsRaised.refl.putB.raise).trans (State.fencePhase_keepsRaised _ n))
theorem State.blamed_role (k : Fin 16) : (s.blamed n).phRole k = s.phRole k := by
  unfold State.blamed
  split
  · rfl
  · have shown : (s.faultShown n).phRole k = s.phRole k :=
      (s.faultShown_frame n).get _ _ (by simp [phCfg_ne_phStat]) (offEvents_phCfg k)
    exact ((State.fencePhase_frame _ n).get _ _ (phCfg_notMem_stopRegs k _) (offEvents_phCfg k)).trans shown
theorem State.blamed_other {k : Fin 16} (h : k ≠ n) : SamePhase k s (s.blamed n) := by
  have shown : SamePhase k s (s.faultShown n) := .of_frame (s.faultShown_frame n) (by simpa using phStat_inj h)
  unfold State.blamed
  exact .ite .refl (shown.trans (State.fencePhase_other _ n h))
theorem State.blamed_attributed (h : Attributable n s) : Attributed n (s.blamed n) := by
  obtain ⟨role, used, unfenced⟩ := h
  have state := s.faultShown_state n
  rw [← state] at used unfenced
  have e : s.blamed n = (s.faultShown n).fencePhase n := if_neg (by simp [role, ← state, unfenced])
  rw [e]
  exact ⟨State.fencePhase_state _ n used unfenced,
    (State.fencePhase_fault _ n used unfenced).trans (s.faultShown_fault n),
    State.fencePhase_keepsRaised _ n _ _ (s.faultShown_raised n), State.fencePhase_raised _ n used unfenced⟩

variable {s} {n}

/-- An attribution stands through those of other phases, and is not made again. -/
theorem Attributed.blamed (h : Attributed n s) (k : Fin 16) : Attributed n (s.blamed k) := by
  by_cases e : n = k
  · subst e
    rw [State.blamed, if_pos (by simp [h.fenced])]
    exact h
  · have same := s.blamed_other k e
    exact ⟨same.fenced.mpr h.fenced, same.fault.trans h.fault, s.blamed_keepsRaised k _ _ h.raised,
      s.blamed_keepsRaised k _ _ h.told⟩
theorem Attributed.attributeAll (h : Attributed n s) (mask : BitVec 16) (l : List (Fin 16)) :
    Attributed n (s.attributeAll mask l) := by
  induction l generalizing s with
  | nil => exact h
  | cons k r ih =>
    rw [State.attributeAll_cons]
    refine ih ?_
    split
    · exact h.blamed k
    · exact h
/-- The attribution of another phase's fault keeps a phase open to its own. -/
theorem Attributable.blamed (h : Attributable n s) {k : Fin 16} (e : n ≠ k) : Attributable n (s.blamed k) := by
  have same := s.blamed_other k e
  exact ⟨(s.blamed_role k n).symm ▸ h.role, mt same.unused.mp h.used, mt same.fenced.mp h.unfenced⟩
/-- R103, R145: each phase named is fenced by its fault, whichever phases are named with it. -/
theorem Attributable.attributeAll (h : Attributable n s) {mask : BitVec 16} (named : mask.getLsbD n = true)
    {l : List (Fin 16)} (m : n ∈ l) : Attributed n (s.attributeAll mask l) := by
  induction l generalizing s with
  | nil => exact absurd m List.not_mem_nil
  | cons k r ih =>
    rw [State.attributeAll_cons]
    by_cases e : n = k
    · subst e
      rw [if_pos named]
      exact (s.blamed_attributed n h).attributeAll mask r
    · have m : n ∈ r := (List.mem_cons.mp m).resolve_left e
      split
      · exact ih (h.blamed e) m
      · exact ih h m

end

end Sys2Proof.Machine
end

section
/-! PROOF. The protections of loops and phases (R103, R104, R117, R143, R145, R147): one lemma per protection, and the
statement. -/
namespace Sys2Proof.Machine
open Sys2Proof

/-- The engines run only where the protections that act in analogue are armed. -/
theorem State.engines_analog {s : State} (on : s.engines = true) : s.analog = true := by
  simp only [State.engines, State.inRun, State.analog, Bool.and_eq_true] at on ⊢
  tauto

section
variable (s : State) (m : Fin 4) (n : Fin 16)

/-! ### Stage faults (R103, R145, R146) -/

theorem State.unattributed_frame (l : List (Fin 4)) : EventFrame [] [] s (s.unattributed l) := by
  induction l generalizing s with
  | nil => exact .refl
  | cons k r ih =>
    have told : EventFrame [] [] s (if s.loopOn k then s.raise (0x30 + k) 0x0A else s) :=
      .ite (.raise .refl (by omega)) .refl
    exact told.trans (ih _)
theorem State.unattributed_keepsRaised (l : List (Fin 4)) : KeepsRaised s (s.unattributed l) := by
  induction l generalizing s with
  | nil => exact .refl
  | cons k r ih =>
    have told : KeepsRaised s (if s.loopOn k then s.raise (0x30 + k) 0x0A else s) := .ite KeepsRaised.refl.raise .refl
    exact told.trans (ih _)
/-- R103: a fault that no phase is named for is told of each loop that is on. -/
theorem State.unattributed_raised {l : List (Fin 4)} (h : m ∈ l) (run : s.loopOn m = true) :
    (s.unattributed l).raisedCode (0x30 + m) 0x0A := by
  induction l generalizing s with
  | nil => exact absurd h List.not_mem_nil
  | cons k r ih =>
    unfold State.unattributed
    rcases List.mem_cons.mp h with rfl | h
    · rw [if_pos run]
      exact State.unattributed_keepsRaised _ _ _ _ (State.raise_raised _ _ _ _ _ (by omega))
    · refine ih _ h ?_
      split
      · rwa [State.loopOn, State.raise_loops]
      · exact run

/-- A stage fault is shown (R103). -/
def State.stgFlt : State := s.putB PE_STAT PE_STAT_STG_FLT true
/-- It is shown that no phase is named for it (R103). -/
def State.stgFltUnattributed : State := (s.stgFlt.putB PE_STAT PE_STAT_FLT_UNATTR true).unattributed (allFin 4)

theorem peStat_ne_phStat (k : Nat) : PE_STAT ≠ PH_STAT k := by unfold PE_STAT PH_STAT; omega
theorem State.stgFlt_frame : Frame [PE_STAT] [] s s.stgFlt := .putB _ _ .refl (by decide)
theorem State.stgFlt_flag : s.stgFlt.get PE_STAT PE_STAT_STG_FLT = 1 := State.get_putB _ _ _ _ (by decide) (by decide)
theorem peStat_notMem_stopRegs : ∀ m : Fin 4, PE_STAT ∉ stopRegs m := by decide
theorem phCfg_ne_peStat (n : Nat) : PH_CFG n ≠ PE_STAT := by unfold PH_CFG PE_STAT; omega

/-- The attribution of phases' faults leaves what PE_STAT shows. -/
theorem State.blamed_get_peStat (f : Fld) : (s.blamed n).get PE_STAT f = s.get PE_STAT f := by
  unfold State.blamed
  split
  · rfl
  · have shown : (s.faultShown n).get PE_STAT f = s.get PE_STAT f :=
      (s.faultShown_frame n).get _ _ (by simp [peStat_ne_phStat]) (offEvents_of_page (by decide))
    exact ((State.fencePhase_frame _ n).get _ _ (peStat_notMem_stopRegs _) (offEvents_of_page (by decide))).trans shown
theorem State.attributeAll_get_peStat (mask : BitVec 16) (l : List (Fin 16)) (f : Fld) :
    (s.attributeAll mask l).get PE_STAT f = s.get PE_STAT f := by
  induction l generalizing s with
  | nil => rfl
  | cons k r ih =>
    rw [State.attributeAll_cons, ih]
    split
    · exact s.blamed_get_peStat k f
    · rfl

/-- What STG_FLT_N_ASSERTED comes to (R103). -/
theorem execStgFltNAsserted_eq (full : BitVec 16) (on : s.engines = true) : exec (.stgFltNAsserted full) s = done (
    if (allFin 16).any (fun n => full.getLsbD n && s.phRole n != 0 && s.phState n != phFenced) then
      s.stgFlt.attributeAll full (allFin 16)
    else s.stgFltUnattributed) := congrArg done (if_pos on)

/-- R103: a stage fault that no phase is named for. -/
theorem execStgFltNAsserted_unattributed (full : BitVec 16) (on : s.engines = true)
    (unnamed : ∀ k : Fin 16, full.getLsbD k = true → s.phRole k = 0 ∨ s.phState k = phFenced) :
    Answers (.stgFltNAsserted full) s fun t => t.get PE_STAT PE_STAT_STG_FLT = 1 ∧
      t.get PE_STAT PE_STAT_FLT_UNATTR = 1 ∧ (s.loopOn m = true → t.raisedCode (0x30 + m) 0x0A) ∧
      EventFrame [PE_STAT] [] s t := by
  have none : ¬ (allFin 16).any (fun n => full.getLsbD n && s.phRole n != 0 && s.phState n != phFenced) = true := by
    simpa [mem_allFin, or_iff_not_imp_left] using unnamed
  have kept : ∀ f, s.stgFltUnattributed.get PE_STAT f = (s.stgFlt.putB PE_STAT PE_STAT_FLT_UNATTR true).get PE_STAT f :=
    fun f => (State.unattributed_frame _ _).get _ _ (by simp) (offEvents_of_page (by decide))
  have shown : Frame [PE_STAT] [] s (s.stgFlt.putB PE_STAT PE_STAT_FLT_UNATTR true) := s.stgFlt_frame.putB _ _ (by decide)
  refine ⟨_, (execStgFltNAsserted_eq s full on).trans (congrArg done (if_neg none)), ?_, ?_, fun run => ?_,
    (EventFrame.of_frame shown).trans ((State.unattributed_frame _ _).mono (by simp) (by simp))⟩
  · rw [kept, State.get_putB_field _ _ _ _ _ (by decide), State.stgFlt_flag]
  · rw [kept, State.get_putB _ _ _ _ (by decide) (by decide)]
    rfl
  · exact State.unattributed_raised _ _ (mem_allFin m) run

/-- R103, R145, R147: a stage fault that names a phase. -/
theorem execStgFltNAsserted_attributed (full : BitVec 16) (on : s.engines = true) (named : full.getLsbD n = true)
    (role : s.phRole n ≠ 0) (unfenced : s.phState n ≠ phFenced) (used : s.phState n ≠ phUnused) :
    Answers (.stgFltNAsserted full) s fun t => t.get PE_STAT PE_STAT_STG_FLT = 1 ∧
      t.get (PH_STAT n) PH_STAT_STG_FAULT = 1 ∧ t.phState n = phFenced ∧ t.raisedCode (0x20 + n) 0x01 ∧
      t.raisedCode (0x20 + n) 0x04 := by
  have some : (allFin 16).any (fun n => full.getLsbD n && s.phRole n != 0 && s.phState n != phFenced) = true :=
    List.any_eq_true.mpr ⟨n, mem_allFin n, by simp [named, role, unfenced]⟩
  have state : s.stgFlt.phState n = s.phState n := s.stgFlt_frame.get _ _ (by simpa using (peStat_ne_phStat n).symm)
  have ready : Attributable n s.stgFlt := by
    refine ⟨?_, state ▸ used, state ▸ unfenced⟩
    rwa [State.phRole, s.stgFlt_frame.get _ _ (by simp [phCfg_ne_peStat])]
  obtain ⟨fenced, fault, raised, told⟩ := ready.attributeAll named (mem_allFin n)
  exact ⟨_, (execStgFltNAsserted_eq s full on).trans (congrArg done (if_pos some)),
    (State.attributeAll_get_peStat _ _ _ _).trans s.stgFlt_flag, fault, fenced, raised, told⟩

/-! ### IMON samples (R104, R129, R143) -/

theorem State.sumTaken_frame (k : Fin 16) : Frame [] [.loops] s (s.sumTaken k m) := by
  unfold State.sumTaken
  exact .ite (.updLoop .refl (by decide)) .refl
@[simp] theorem State.sumTaken_phases (k : Fin 16) : (s.sumTaken k m).phases = s.phases :=
  (s.sumTaken_frame m k).same .phases (by decide)

/-- A phase after a sample within the converter's range, above its limit or not (R104, R143). -/
def PhaseSt.sampled (p : PhaseSt) (code : Nat) (i : Int) (beyond : Bool) : PhaseSt :=
  { p with
    code := code, cur := i, sum := p.sum + code, num := p.num + 1, peak := if p.num = 0 || p.peak < i then i else p.peak,
    ocRun := if beyond then p.ocRun + 1 else 0, fullRun := 0, ocHold := if beyond then 2 else p.ocHold,
    firing := p.firing && !beyond, cut := p.cut || p.firing && beyond, ocSaid := p.ocSaid || beyond }

/-- A sample above the limit of its phase is shown, and told once in a frame (R143). -/
def State.overcurrentShown (said : Bool) : State :=
  let t := s.putB (PH_STAT n) PH_STAT_OC true
  if said then t else t.raise (0x20 + n) 0x02

/-- A sample that a check of the phase's current heeds and that lies above PH_OCL (R129, R143). -/
def State.beyondLimit (code : Nat) : Bool :=
  s.phState n != phFenced && decide (s.phOcl (s.loopOf n) < s.imonCurrent n code)

/-- A sample within the converter's range, but for the loop's sum (R104, R143). -/
def State.sampleTaken (code : Nat) : State :=
  let t := s.updPhase n (fun p => p.sampled code (s.imonCurrent n code) (s.beyondLimit n code))
  if s.beyondLimit n code then t.overcurrentShown n s.phases[n].ocSaid else t

section
variable (c : BitVec 10) (on : s.engines = true) (role : s.phRole n ≠ 0) (gain : s.get (PH_IMON n) PH_IMON_GAIN ≠ 0)
  (low : c.toNat ≠ 0) (high : c.toNat ≠ 1023)
include on role gain low high

/-- What a sample within the converter's range comes to (R104). -/
theorem execImonSample_eq : exec (.imonSample n c) s =
    done ((s.sampleTaken n c.toNat).sumTaken n ((s.sampleTaken n c.toNat).loopOf n)) := by
  have g : (s.engines && s.phRole n != 0) = true := by simp [on, role]
  refine congrArg done ((if_pos g).trans ?_)
  have full : (c.toNat == 1023) = false := by simpa using high
  have zero : (c.toNat == 0) = false := by simpa using low
  simp only [if_neg gain, full, zero, Bool.or_false, Bool.false_and, Bool.and_false, Bool.false_eq_true, if_false]
  rfl

/-- R104: a sample that no check of the phase's current heeds, or within PH_OCL, is taken and nothing else. -/
theorem execImonSample_within (within : s.beyondLimit n c.toNat = false) :
    Answers (.imonSample n c) s fun t =>
      t.phases[n] = s.phases[n].sampled c.toNat (s.imonCurrent n c.toNat) false ∧ Frame [] [.phases, .loops] s t := by
  have taken : s.sampleTaken n c.toNat =
      s.updPhase n (fun p => p.sampled c.toNat (s.imonCurrent n c.toNat) false) := by simp [State.sampleTaken, within]
  refine ⟨_, execImonSample_eq s n c on role gain low high, ?_, ?_⟩
  · simp only [State.sumTaken_phases, taken, State.updPhase_phase]
  · rw [taken]
    exact (Frame.updPhase .refl (by decide)).trans ((State.sumTaken_frame _ _ _).mono (by simp) (by decide))

/-- R104: a sample within PH_OCL. -/
theorem execImonSample_normal (within : s.imonCurrent n c.toNat ≤ s.phOcl (s.loopOf n)) :
    Answers (.imonSample n c) s fun t => t.phases[n].code = c.toNat ∧ t.phases[n].cur = s.imonCurrent n c.toNat ∧
      t.phases[n].ocRun = 0 ∧ t.phases[n].num = s.phases[n].num + 1 ∧ Frame [] [.phases, .loops] s t := by
  obtain ⟨t, e, phase, frame⟩ := execImonSample_within s n c on role gain low high (by simp [State.beyondLimit, within])
  exact ⟨t, e, by rw [phase]; rfl, by rw [phase]; rfl, by rw [phase]; rfl, by rw [phase]; rfl, frame⟩

/-- R129: a sample of a fenced phase. -/
theorem execImonSample_fenced (fenced : s.phState n = phFenced) :
    Answers (.imonSample n c) s fun t => t.phases[n].code = c.toNat ∧ t.phases[n].cur = s.imonCurrent n c.toNat ∧
      t.phases[n].ocRun = 0 ∧ Frame [] [.phases, .loops] s t := by
  obtain ⟨t, e, phase, frame⟩ := execImonSample_within s n c on role gain low high (by simp [State.beyondLimit, fenced])
  exact ⟨t, e, by rw [phase]; rfl, by rw [phase]; rfl, by rw [phase]; rfl, frame⟩

omit on role gain low high in
theorem State.overcurrentShown_frame (said : Bool) : EventFrame [PH_STAT n] [] s (s.overcurrentShown n said) := by
  have shown : EventFrame [PH_STAT n] [] s (s.putB (PH_STAT n) PH_STAT_OC true) := .putB _ _ .refl (by simp)
  exact .ite shown (shown.raise (by omega))
omit on role gain low high in
theorem State.overcurrentShown_flag (said : Bool) : (s.overcurrentShown n said).get (PH_STAT n) PH_STAT_OC = 1 := by
  have shown : (s.putB (PH_STAT n) PH_STAT_OC true).get (PH_STAT n) PH_STAT_OC = 1 :=
    State.get_putB _ _ _ _ (by decide) (by decide)
  unfold State.overcurrentShown
  split
  · exact shown
  · rw [State.get_raise_phStat _ _ _ _ _ _ _ (by omega), shown]

/-- R143: a sample of an unfenced phase above PH_OCL. -/
theorem execImonSample_beyond (unfenced : s.phState n ≠ phFenced)
    (beyond : s.phOcl (s.loopOf n) < s.imonCurrent n c.toNat) :
    Answers (.imonSample n c) s fun t => t.phases[n].ocRun = s.phases[n].ocRun + 1 ∧ t.phases[n].ocHold = 2 ∧
      t.phases[n].firing = false ∧ t.get (PH_STAT n) PH_STAT_OC = 1 ∧
      (s.phases[n].ocSaid = false → t.raisedCode (0x20 + n) 0x02) ∧ EventFrame [PH_STAT n] [.phases, .loops] s t := by
  have above : s.beyondLimit n c.toNat = true := by simp [State.beyondLimit, unfenced, beyond]
  have taken : s.sampleTaken n c.toNat = (s.updPhase n (fun p =>
      p.sampled c.toNat (s.imonCurrent n c.toNat) true)).overcurrentShown n s.phases[n].ocSaid := by
    simp [-Fin.getElem_fin, State.sampleTaken, above]
  have summed := State.sumTaken_frame (s.sampleTaken n c.toNat) ((s.sampleTaken n c.toNat).loopOf n) n
  have shown : EventFrame [PH_STAT n] [.phases, .loops] s (s.sampleTaken n c.toNat) := by
    rw [taken]
    exact (EventFrame.updPhase .refl (by decide)).trans ((State.overcurrentShown_frame _ n _).mono (by simp) (by simp))
  have phase : (s.sampleTaken n c.toNat).phases[n] = s.phases[n].sampled c.toNat (s.imonCurrent n c.toNat) true := by
    have kept := (State.overcurrentShown_frame (s.updPhase n (fun p =>
      p.sampled c.toNat (s.imonCurrent n c.toNat) true)) n s.phases[n].ocSaid).same .phases (by decide) (by decide)
    simp only [taken, show State.phases _ = _ from kept, State.updPhase_phase]
  refine ⟨_, execImonSample_eq s n c on role gain low high, ?_, ?_, ?_, ?_, fun fresh => ?_,
    shown.trans (.of_frame (summed.mono (by simp) (by decide)))⟩
  case refine_4 => rw [summed.get _ _ (by simp), taken, State.overcurrentShown_flag]
  case refine_5 =>
    refine KeepsRaised.of_flt (summed.same .flt (by decide)) _ _ ?_
    rw [taken, fresh]
    exact State.raise_raised _ _ _ _ _ (by omega)
  all_goals
    simp only [State.sumTaken_phases, phase, PhaseSt.sampled, Bool.not_true, Bool.and_false, if_true]

end

/-! ### Fences (R143, R147) -/

section
variable (unfenced : s.phState n ≠ phFenced) (used : s.phState n ≠ phUnused)
include unfenced used

/-- R143: eight samples in a row above PH_OCL fence the phase. -/
theorem execPersistentPhaseOvercurrent_fences (on : s.engines = true) (run : 8 ≤ s.phases[n].ocRun) :
    Answers (.persistentPhaseOvercurrent n) s fun t =>
      t.phState n = phFenced ∧ t.get (PH_STAT n) PH_STAT_SUBST = 0 ∧ t.raisedCode (0x20 + n) 0x04 ∧
      EventFrame (LOOP_CTL (s.loopOf n) :: LOOP_STAT (s.loopOf n) :: phStats) [.phases, .loops] s t := by
  have g : (s.engines && decide (8 ≤ s.phases[n].ocRun)) = true := by simp [-Fin.getElem_fin, on, run]
  exact ⟨_, congrArg done (if_pos g), s.fencePhase_state n used unfenced, s.fencePhase_subst n used unfenced,
    s.fencePhase_raised n used unfenced, (s.fencePhase_frame n).mono (fun _ => id) (by decide)⟩

/-- R147: a phase is fenced by a write of PH_CTL. -/
theorem execFence_fences (run : s.inRun = true) : Answers (.fence n) s fun t =>
    t.phState n = phFenced ∧ t.get (PH_CTL n) PH_CTL_FENCE = 1 ∧ t.raisedCode (0x20 + n) 0x04 ∧
    EventFrame (PH_CTL n :: LOOP_CTL (s.loopOf n) :: LOOP_STAT (s.loopOf n) :: phStats) [.phases, .loops] s t := by
  have asked : Frame [PH_CTL n] [] s (s.putB (PH_CTL n) PH_CTL_FENCE true) := .putB _ _ .refl (by simp)
  have state : (s.putB (PH_CTL n) PH_CTL_FENCE true).phState n = s.phState n :=
    asked.get _ _ (by simpa using phStat_ne_phCtl n n)
  have loop : (s.putB (PH_CTL n) PH_CTL_FENCE true).loopOf n = s.loopOf n := by
    have wired : (s.putB (PH_CTL n) PH_CTL_FENCE true).phLoop n = s.phLoop n :=
      asked.get _ _ (by simpa using phCfg_ne_phCtl n n)
    simp only [State.loopOf, wired]
  rw [← state] at unfenced used
  have fenced := (s.putB (PH_CTL n) PH_CTL_FENCE true).fencePhase_frame n
  refine ⟨_, congrArg done (if_pos run), State.fencePhase_state _ n used unfenced, ?_,
    State.fencePhase_raised _ n used unfenced, ?_⟩
  · exact (fenced.get _ _ (phCtl_notMem_stopRegs n _) (offEvents_phCtl n)).trans
      (State.get_putB _ _ _ _ (by decide) (by decide))
  · rw [loop] at fenced
    exact (EventFrame.of_frame (asked.mono (by simp) (by simp))).trans
      (fenced.mono (fun _ => List.mem_cons_of_mem _) (by decide))

end

/-! ### Protections of a loop (R102, R143, R144) -/

/-- R143: a loop is stopped by overcurrent. -/
theorem execLoopOvercurrent_stops (on : s.engines = true) (run : s.loops[m].run ≠ .off) (sums : 4 ≤ s.loops[m].ocSums) :
    Answers (.loopOvercurrent m) s fun t => t.loops[m].run = .off ∧ t.get (LOOP_CTL m) LOOP_CTL_EN = 0 ∧
      t.get (LOOP_STAT m) LOOP_STAT_PG = 0 ∧ t.get (LOOP_STAT m) LOOP_STAT_ON = 0 ∧ t.raisedCode (0x30 + m) 0x03 ∧
      (s.get (LOOP_STAT m) LOOP_STAT_PG = 1 → t.raisedCode (0x30 + m) 0x07) ∧
      EventFrame (LOOP_CTL m :: LOOP_STAT m :: phStats) [.phases, .loops] s t := by
  have g : (s.engines && s.loops[m].run != .off && decide (4 ≤ s.loops[m].ocSums)) = true := by
    simp [-Fin.getElem_fin, on, run, sums]
  have told : EventFrame (stopRegs m) [.loops, .phases] s (s.raise (0x30 + m) 0x03) := .raise .refl (by omega)
  refine ⟨_, congrArg done (if_pos g), ?_, State.loopStop_en _ m, State.loopStop_pg _ m, State.loopStop_on _ m,
    State.loopStop_keepsRaised _ m _ _ (State.raise_raised _ _ _ _ _ (by omega)), fun stood => ?_,
    (told.trans (State.loopStop_frame _ m)).mono (fun _ => id) (by decide)⟩
  · simp [-Fin.getElem_fin, LoopSt.halted]
  · exact State.loopStop_raised _ m ((State.get_raise_loopStat _ _ _ _ _ _ _ (by omega)).trans stood)

/-- R143: a loop is stopped by overvoltage, its outputs held low. -/
theorem execLoopOvervoltage_holds (on : s.engines = true) (run : s.loops[m].run ≠ .off) (armed : s.loops[m].ovArmed = true) :
    Answers (.loopOvervoltage m) s fun t => t.loops[m].run = .off ∧ t.loops[m].ovHold = true ∧
      t.loops[m].stgEnFall = false ∧ t.get (LOOP_CTL m) LOOP_CTL_EN = 0 ∧ t.get (LOOP_STAT m) LOOP_STAT_PG = 0 ∧
      t.raisedCode (0x30 + m) 0x01 ∧ EventFrame (LOOP_CTL m :: LOOP_STAT m :: phStats) [.phases, .loops] s t := by
  have g : (s.analog && s.loops[m].run != .off && s.loops[m].ovArmed) = true := by
    simp [-Fin.getElem_fin, State.engines_analog on, run, armed]
  have told : EventFrame (stopRegs m) [.loops, .phases] s (s.raise (0x30 + m) 0x01) := .raise .refl (by omega)
  have held := ((told.trans (State.loopStop_frame _ m)).updLoop (k := m)
    (f := fun l => { l with ovHold := true, stgEnFall := false }) (by decide))
  refine ⟨_, congrArg done (if_pos g), ?_, ?_, ?_, ?_, ?_,
    KeepsRaised.of_flt (State.updLoop_flt _ _ _) _ _
      (State.loopStop_keepsRaised _ m _ _ (State.raise_raised _ _ _ _ _ (by omega))),
    held.mono (fun _ => id) (by decide)⟩
  case refine_4 => rw [State.updLoop_get, State.loopStop_en]
  case refine_5 => rw [State.updLoop_get, State.loopStop_pg]
  all_goals simp [-Fin.getElem_fin, LoopSt.halted]

/-- R102, R143: the outputs of a loop are held low no longer. -/
theorem execOvervoltageHoldEnd_ends (run : s.inRun = true) (held : s.loops[m].ovHold = true) :
    Answers (.overvoltageHoldEnd m) s fun t => t.loops[m].ovHold = false ∧ t.loops[m].stgEnFall = s.loops[m].stgEn ∧
      Frame [] [.loops] s t := by
  have g : (s.inRun && s.loops[m].ovHold) = true := by simp [-Fin.getElem_fin, run, held]
  exact ⟨_, congrArg done (if_pos g), by simp, by simp, .updLoop .refl (by decide)⟩

/-- R143: an undervoltage clears PG, and the loop goes on. -/
theorem execLoopUndervoltage_clears (on : s.engines = true) (run : s.loops[m].run = .on) (armed : s.loops[m].pgOnce = true)
    (ramp : s.get (LOOP_STAT m) LOOP_STAT_RAMP = 0) :
    Answers (.loopUndervoltage m) s fun t => t.loops[m].run = .on ∧ t.get (LOOP_STAT m) LOOP_STAT_PG = 0 ∧
      t.raisedCode (0x30 + m) 0x02 ∧ (s.get (LOOP_STAT m) LOOP_STAT_PG = 1 → t.raisedCode (0x30 + m) 0x07) ∧
      EventFrame [LOOP_STAT m] [.loops] s t := by
  have g : (s.analog && s.loops[m].run == .on && s.loops[m].pgOnce && !s.flag (LOOP_STAT m) LOOP_STAT_RAMP) = true := by
    simp [-Fin.getElem_fin, State.engines_analog on, run, armed, State.flag, ramp]
  have told : EventFrame [LOOP_STAT m] [] s (s.raise (0x30 + m) 0x02) := .raise .refl (by omega)
  refine ⟨_, congrArg done (if_pos g), ?_, State.losePG_pg _ m,
    KeepsRaised.of_flt (State.updLoop_flt _ _ _) _ _
      (State.losePG_keepsRaised _ m _ _ (State.raise_raised _ _ _ _ _ (by omega))),
    fun stood => KeepsRaised.of_flt (State.updLoop_flt _ _ _) _ _
      (State.losePG_raised _ m ((State.get_raise_loopStat _ _ _ _ _ _ _ (by omega)).trans stood)),
    .updLoop ((told.trans (State.losePG_frame _ m)).mono (fun _ => id) (by simp)) (by decide)⟩
  simp [-Fin.getElem_fin, run]

/-! ### The DLL (R117) -/

/-- R117: the 50th failure in a row of the DLL's calibration. -/
theorem execDllCalFail_tells (on : s.engines = true) (fails : 50 ≤ s.get DLL_STAT DLL_STAT_FAIL_CNT)
    (fresh : s.pe.dllSaid = false) :
    Answers .dllCalFail s fun t => t.get DLL_STAT DLL_STAT_CAL_FAIL = 1 ∧ t.pe.dllSaid = true ∧ t.raisedCode 0x36 0 ∧
      EventFrame [DLL_STAT] [.pe] s t := by
  have g : (s.engines && decide (50 ≤ s.get DLL_STAT DLL_STAT_FAIL_CNT) && !s.pe.dllSaid) = true := by
    simp [on, fails, fresh]
  refine ⟨_, congrArg done (if_pos g), ?_, ?_, State.raise_raised _ _ _ _ _ (by decide),
    .raise (.putB _ _ (.set_pe .refl (by decide)) (by decide)) (by decide)⟩
  · rw [State.raise_get _ _ _ _ _ _ _ (by decide) (offEvents_of_page (by decide)),
      State.get_putB _ _ _ _ (by decide) (by decide)]
    rfl
  · rw [State.raise_pe, State.putB_pe]

end

/-- Settles O24: a fence comes to `State.fencePhase`, whose marks on the phase outlast what it does to the loop
(`SamePhase`), a stop of a loop to `State.loopStop`, and each other protection to its flag and its event. -/
theorem loopProtections : Obligations.LoopProtections := fun s m n =>
  ⟨execStgFltNAsserted_unattributed s m, execStgFltNAsserted_attributed s n,
    fun c on role _ gain low high within => execImonSample_normal s n c on role gain low high within,
    fun c on role unfenced gain low high beyond =>
      execImonSample_beyond s n c on role gain low high unfenced beyond,
    fun c on role fenced gain low high => execImonSample_fenced s n c on role gain low high fenced,
    fun unfenced used => ⟨execPersistentPhaseOvercurrent_fences s n unfenced used,
      execFence_fences s n unfenced used⟩,
    execLoopOvercurrent_stops s m, execLoopOvervoltage_holds s m, execOvervoltageHoldEnd_ends s m,
    execLoopUndervoltage_clears s m, execDllCalFail_tells s⟩

end Sys2Proof.Machine
end

section
/-! SUPPORT. Phases that fire, join and are substituted (R128, R134, R138, R148): what the spacing of a loop leaves of a
phase, and what each operation over the phases of a loop does to one of them. -/
namespace Sys2Proof.Machine
open Sys2Proof

/-! ### The spacing of a loop's phases (R98, R99) -/

/-- The spacing of a loop changes, of a phase, its slot in PH_STAT and its place in the interleave alone (R98, R99). -/
structure Respaced (n : Fin 16) (s t : State) : Prop where
  stat : ∀ f : Fld, f.lo + f.w ≤ 4 ∨ 8 ≤ f.lo → t.get (PH_STAT n) f = s.get (PH_STAT n) f
  phase : ∃ spaced gap, t.phases[n] = { s.phases[n] with spaced := spaced, gap := gap }

namespace Respaced
variable {n : Fin 16} {s t u : State}

theorem refl : Respaced n s s := ⟨fun _ _ => rfl, _, _, rfl⟩
theorem trans (h : Respaced n s t) (g : Respaced n t u) : Respaced n s u := by
  obtain ⟨_, _, e⟩ := h.phase
  obtain ⟨a, b, d⟩ := g.phase
  exact ⟨fun f o => (g.stat f o).trans (h.stat f o), a, b, by rw [d, e]⟩
/-- What writes neither PH_STAT nor the phases. -/
theorem of_frame {R : List Nat} {P : List Part} (h : Frame R P s t) (r : PH_STAT n ∉ R) (p : Part.phases ∉ P) :
    Respaced n s t := by
  have same : t.phases = s.phases := h.same .phases p
  exact ⟨fun f _ => h.get _ f r, s.phases[n].spaced, s.phases[n].gap, by rw [same]⟩
theorem put_slot (k : Fin 16) (v : Nat) : Respaced n s (s.put (PH_STAT k) PH_STAT_SLOT v) := by
  refine ⟨fun f o => ?_, _, _, rfl⟩
  by_cases e : n = k
  · subst e
    exact State.get_put_field _ _ _ _ _ o.symm
  · exact State.get_put_ne _ _ _ _ _ _ (phStat_inj e)
theorem updPhase (k : Fin 16) {f : PhaseSt → PhaseSt} (h : ∀ p, ∃ a b, f p = { p with spaced := a, gap := b }) :
    Respaced n s (s.updPhase k f) := by
  refine ⟨fun _ _ => rfl, ?_⟩
  by_cases e : k = n
  · subst e
    rw [State.updPhase_phase]
    exact h _
  · exact ⟨_, _, getElem_set_fin_ne _ _ e⟩
theorem ite {c : Prop} {_ : Decidable c} (h : Respaced n s t) (g : Respaced n s u) :
    Respaced n s (if c then t else u) := by split <;> assumption

theorem unspace (h : Respaced n s t) (l : List (Fin 16)) : Respaced n s (t.unspace l) := by
  induction l generalizing t with
  | nil => exact h
  | cons k r ih => exact ih (.ite h (h.trans (.updPhase k fun _ => ⟨_, _, rfl⟩)))
theorem numberSlots (h : Respaced n s t) (per n0 n1 k : Nat) (l : List (Fin 16)) :
    Respaced n s (numberSlots per n0 n1 l k t) := by
  induction l generalizing k t with
  | nil => exact h
  | cons j r ih => exact ih ((h.trans (.put_slot j k)).trans (.updPhase j fun _ => ⟨_, _, rfl⟩)) _
theorem put_loopStat (h : Respaced n s t) (m : Fin 4) (f : Fld) (v : Nat) : Respaced n s (t.put (LOOP_STAT m) f v) :=
  h.trans (.of_frame (R := [LOOP_STAT m]) (P := []) (.put _ _ .refl (by simp)) (by simp [phStat_ne_loopStat]) (by simp))
theorem reslot (h : Respaced n s t) (m : Fin 4) : Respaced n s (t.reslot m) :=
  (((h.unspace _).numberSlots _ _ _ _ _).put_loopStat m _ _).put_loopStat m _ _

theorem state (h : Respaced n s t) : t.phState n = s.phState n := h.stat _ (by decide)

end Respaced

/-! ### The recount of a loop after a change of N or a substitution (R99, R130) -/

section
variable (s : State) (m : Fin 4) (n : Fin 16)

/-- The loop after a change of its phases: the count of R130 begins anew, and the phases are re-spaced (R99). -/
def State.recounted : State := ((s.disturb m).updLoop m (fun l => { l with shedRun := 0 })).reslot m

theorem State.recounted_frame : Frame (LOOP_STAT m :: phStats) [.loops, .phases] s (s.recounted m) :=
  .reslot (.updLoop (.updLoop .refl (by decide)) (by decide)) (by decide) (fun k => by simp [phStat_mem]) (by simp)
theorem State.recounted_respaced : Respaced n s (s.recounted m) := by
  have counted : Frame [] [.loops] s ((s.disturb m).updLoop m (fun l => { l with shedRun := 0 })) :=
    .updLoop (.updLoop .refl (by decide)) (by decide)
  exact .reslot (.of_frame counted (by simp) (by simp)) m
theorem State.recounted_shedRun : (s.recounted m).loops[m].shedRun = 0 := by
  simp only [State.recounted, State.reslot_loops, State.updLoop_loop]
/-- What was raised stays raised through a recount that is latched with its tick. -/
theorem State.recounted_raised {old : State} {e c : Nat} (h : s.raisedCode e c) :
    (old.latchChange (s.recounted m)).raisedCode e c := by
  have kept : KeepsRaised s (s.recounted m) := .of_flt ((s.recounted_frame m).same .flt (by decide))
  exact (kept.trans (.of_flt (State.latchChange_flt old _))) _ _ h

end

/-! ### What the operations over a loop's phases may change -/

section
variable {R : List Nat} {P : List Part} {s t : State}

theorem Frame.fire {arm : Bool} {l : List (Fin 16)} (h : Frame R P s t) (p : Part.phases ∈ P)
    (r : ∀ n : Fin 16, PH_STAT n ∈ R) : Frame R P s (t.fire arm l) := by
  induction l generalizing t with
  | nil => exact h
  | cons n l ih => exact ih (.ite ((h.setPh (r n)).updPhase p) (.ite (h.updPhase p) h))
theorem Frame.fireOver {l : List (Fin 16)} (h : Frame R P s t) (p : Part.phases ∈ P) : Frame R P s (t.fireOver l) := by
  induction l generalizing t with
  | nil => exact h
  | cons n l ih => exact ih (h.updPhase p)
theorem Frame.unshed {l : List (Fin 16)} (h : Frame R P s t) (r : ∀ n : Fin 16, PH_STAT n ∈ R) :
    Frame R P s (t.unshed l) := by
  induction l generalizing t with
  | nil => exact h
  | cons n l ih => exact ih (.ite (h.setPh (r n)) h)
theorem Frame.shedOn {periods : Nat} {l : List (Fin 16)} (h : Frame R P s t) (p : Part.phases ∈ P) :
    Frame R P s (t.shedOn periods l) := by
  induction l generalizing t with
  | nil => exact h
  | cons n l ih => exact ih (.ite (h.updPhase p) h)

end

/-! ### All-phases-fire (R128, R134) -/

theorem State.setPh_state (s : State) (n : Fin 16) {st : Nat} (h : st < 8) : (s.setPh n st).phState n = st :=
  (State.get_put _ _ _ _ (by decide)).trans (Nat.mod_eq_of_lt h)
theorem State.setPh_state_ne (s : State) {n k : Fin 16} (st : Nat) (h : n ≠ k) :
    (s.setPh k st).phState n = s.phState n := State.get_put_ne _ _ _ _ _ _ (phStat_inj h)

section
variable (s : State) (arm : Bool) (n k : Fin 16)

/-- What a fire does to one phase (R128, R134). -/
def State.firePhase : State :=
  if s.phState n == phActive || s.phState n == phShedding then
    (s.setPh n phActive).updPhase n (fun p => { p with firing := true, cut := false, shedJ := 0 })
  else if s.phState n == phShed && arm then s.updPhase n (fun p => { p with firing := true, cut := false })
  else s

theorem State.fire_cons (r : List (Fin 16)) : s.fire arm (n :: r) = (s.firePhase arm n).fire arm r := rfl

/-- A phase that a fire takes as active: it is active or shedding (R134). -/
def State.Fires : Prop := s.phState n = phActive ∨ s.phState n = phShedding

/-- A phase that fires, and is active (R128, R134). -/
structure Firing (n : Fin 16) (t : State) : Prop where
  state : t.phState n = phActive
  firing : t.phases[n].firing = true

variable {s n}

theorem State.Fires.firing (h : s.Fires n) : Firing n (s.firePhase arm n) := by
  have taken : (s.phState n == phActive || s.phState n == phShedding) = true := by simpa [State.Fires] using h
  rw [State.firePhase, if_pos taken]
  exact ⟨State.setPh_state _ _ (by decide), by rw [State.updPhase_phase]⟩

variable {k}

/-- What a fire does to one phase leaves the others as they were. -/
theorem State.firePhase_state_ne (e : n ≠ k) : (s.firePhase arm k).phState n = s.phState n := by
  unfold State.firePhase
  split
  · exact State.setPh_state_ne _ _ e
  · split <;> rfl
theorem State.firePhase_phase_ne (e : n ≠ k) : (s.firePhase arm k).phases[n] = s.phases[n] := by
  unfold State.firePhase
  split
  · exact getElem_set_fin_ne _ _ e.symm
  · split
    · exact getElem_set_fin_ne _ _ e.symm
    · rfl

variable (k)

theorem Firing.firePhase (h : Firing n s) : Firing n (s.firePhase arm k) := by
  by_cases e : n = k
  · subst e
    exact State.Fires.firing arm (.inl h.state)
  · exact ⟨(State.firePhase_state_ne arm e).trans h.state, by rw [State.firePhase_phase_ne arm e, h.firing]⟩
theorem Firing.fire (h : Firing n s) (l : List (Fin 16)) : Firing n (s.fire arm l) := by
  induction l generalizing s with
  | nil => exact h
  | cons k r ih => exact ih (h.firePhase arm k)
/-- R128, R134: each active or shedding phase of a loop fires, and is active. -/
theorem State.Fires.fire (h : s.Fires n) {l : List (Fin 16)} (i : n ∈ l) : Firing n (s.fire arm l) := by
  induction l generalizing s with
  | nil => exact absurd i List.not_mem_nil
  | cons k r ih =>
    rw [State.fire_cons]
    by_cases e : n = k
    · subst e
      exact (h.firing arm).fire arm r
    · refine ih ?_ ((List.mem_cons.mp i).resolve_left e)
      rwa [State.Fires, State.firePhase_state_ne arm e]

end

/-! ### Shed phases join (R128, R138) -/

section
variable {s : State} {n : Fin 16}

theorem State.unshed_cons (s : State) (k : Fin 16) (r : List (Fin 16)) :
    s.unshed (k :: r) = (if s.phState k == phShed then s.setPh k phActive else s).unshed r := rfl
/-- An active phase stays active. -/
theorem State.unshed_active (h : s.phState n = phActive) (l : List (Fin 16)) : (s.unshed l).phState n = phActive := by
  induction l generalizing s with
  | nil => exact h
  | cons k r ih =>
    refine ih ?_
    split
    · by_cases e : n = k
      · subst e
        exact State.setPh_state _ _ (by decide)
      · rw [State.setPh_state_ne _ _ e, h]
    · exact h
/-- R128, R138: each shed phase of a loop joins. -/
theorem State.unshed_joins (h : s.phState n = phShed) {l : List (Fin 16)} (i : n ∈ l) :
    (s.unshed l).phState n = phActive := by
  induction l generalizing s with
  | nil => exact absurd i List.not_mem_nil
  | cons k r ih =>
    rw [State.unshed_cons]
    by_cases e : n = k
    · subst e
      rw [if_pos (by simp [h])]
      exact State.unshed_active (State.setPh_state _ _ (by decide)) r
    · refine ih ?_ ((List.mem_cons.mp i).resolve_left e)
      split
      · rw [State.setPh_state_ne _ _ e, h]
      · exact h

end

/-! ### A spare comes in (R148, R149) -/

section
variable (s : State) (m : Fin 4) (n k : Fin 16) (pos st : Nat)

theorem State.bringIn_frame : EventFrame [PH_STAT k] [.phases] s (s.bringIn m k pos st) :=
  .raise (.putB _ _ (.updPhase (.of_frame (.setPh .refl (by simp))) (by decide)) (by simp)) (by omega)
/-- R128, R148: the spare enters the state of the phase replaced, shedding taken as active. -/
theorem State.bringIn_state (h : st < 8) :
    (s.bringIn m k pos st).phState k = if st = phShedding then phActive else st := by
  have entered : (if st == phShedding then phActive else st) < 8 := by
    split
    · decide
    · exact h
  calc (s.bringIn m k pos st).phState k
      = (s.setPh k (if st == phShedding then phActive else st)).phState k :=
        (State.get_raise_phStat _ _ _ _ _ _ _ (by omega)).trans (State.get_putB_field _ _ _ _ _ (by decide))
    _ = if st = phShedding then phActive else st := (s.setPh_state k entered).trans (by simp only [beq_iff_eq])
theorem State.bringIn_subst : (s.bringIn m k pos st).get (PH_STAT k) PH_STAT_SUBST = 1 :=
  (State.get_raise_phStat _ _ _ _ _ _ _ (by omega)).trans (State.get_putB _ _ _ _ (by decide) (by decide))
theorem State.bringIn_pos : (s.bringIn m k pos st).phases[k].pos = pos := by
  simp only [State.bringIn, State.raise_phases, State.putB_phases, State.updPhase_phase]
theorem State.bringIn_phase_ne (e : k ≠ n) : (s.bringIn m k pos st).phases[n] = s.phases[n] := by
  simp only [State.bringIn, State.raise_phases, State.putB_phases]
  exact getElem_set_fin_ne _ _ e
theorem State.bringIn_raised : (s.bringIn m k pos st).raisedCode (0x20 + k) 0x05 :=
  State.raise_raised _ _ _ _ _ (by omega)

/-- The claim of a fenced phase is taken up (R148). -/
def State.claimTaken : State := s.updPhase n (fun p => { p with claim := none })

theorem State.claimTaken_phase : (s.claimTaken n).phases[n] = { s.phases[n] with claim := none } := s.updPhase_phase n _

variable {s m n k st}

/-- R148: the one fenced phase of a loop with a spare gets the spare of the lowest number. -/
theorem State.substClaims_spare {r : List (Fin 16)} (claim : s.phases[n].claim = some st)
    (spare : s.sparesOf m = k :: r) :
    s.substClaims m [n] = (s.claimTaken n).bringIn m k s.phases[n].pos st := by
  have there : (s.claimTaken n).sparesOf m = k :: r := spare
  have place : (s.claimTaken n).phases[n].pos = s.phases[n].pos := by rw [State.claimTaken_phase]
  unfold State.claimTaken at there place ⊢
  simp only [State.substClaims, claim, there, place]
/-- R149: without a spare its slot is closed. -/
theorem State.substClaims_none (claim : s.phases[n].claim = some st) (bare : s.sparesOf m = []) :
    s.substClaims m [n] = (s.claimTaken n).raise (0x30 + m) 0x06 := by
  have there : (s.claimTaken n).sparesOf m = [] := bare
  unfold State.claimTaken at there ⊢
  simp only [State.substClaims, claim, there]
/-- R150: a phase for which no spare is asked is left alone. -/
theorem State.substReqs_unasked (h : s.phases[n].substReq = false) : s.substReqs m [n] = s := by
  unfold State.substReqs
  exact if_pos (by rw [h]; rfl)

end

end Sys2Proof.Machine
end

section
/-! PROOF. Transients and spares (R130 to R142, R148 to R150): one lemma per command, and the statement. -/
namespace Sys2Proof.Machine
open Sys2Proof

section
variable (s : State) (m : Fin 4) (n : Fin 16)

/-! ### All-phases-fire (R134 to R138) -/

/-- A loop whose undershoot comparator trips: a brake has ended, and its shed phases are to join (R137, R138, R151). -/
def LoopSt.tripped (l : LoopSt) (braking shed : Bool) : LoopSt :=
  let l := if braking then { l with e1 := 0, e2 := 0, e3 := 0 } else l
  { l with fires := l.fires + 1, join := l.join || shed, disturbed := true, shedRun := 0 }

theorem LoopSt.tripped_fires (l : LoopSt) (braking shed : Bool) : (l.tripped braking shed).fires = l.fires + 1 := by
  cases braking <;> rfl

/-- The first part of a fire: the loop, and its LOOP_STAT (R137). -/
def State.fireShown : State :=
  ((s.putB (LOOP_STAT m) LOOP_STAT_BRAKE false).putB (LOOP_STAT m) LOOP_STAT_APF true).updLoop m (fun l =>
    l.tripped (s.flag (LOOP_STAT m) LOOP_STAT_BRAKE) ((s.phasesOf m).any (fun k => s.phState k == phShed)))

/-- A fire as it begins (R134). -/
def State.fireBegun : State :=
  ((s.fireShown m).fire ((s.fireShown m).flag (LOOP_APF m) LOOP_APF_ARM_SHED) (s.phasesOf m)).reslot m

theorem State.fireShown_frame : Frame [LOOP_STAT m] [.loops] s (s.fireShown m) :=
  .updLoop (.putB _ _ (.putB _ _ .refl (by simp)) (by simp)) (by decide)
theorem State.fireBegun_frame : Frame (LOOP_STAT m :: phStats) [.loops, .phases] s (s.fireBegun m) :=
  .reslot (.fire ((s.fireShown_frame m).mono (by simp) (by decide)) (by decide) fun k => by simp [phStat_mem])
    (by decide) (fun k => by simp [phStat_mem]) (by simp)
theorem State.fireBegun_get_loopStat (f : Fld) (h : f.lo + f.w ≤ 8) :
    (s.fireBegun m).get (LOOP_STAT m) f = (s.fireShown m).get (LOOP_STAT m) f :=
  (State.reslot_get_loopStat _ _ _ h).trans
    ((Frame.fire (R := phStats) (P := [.phases]) .refl (by decide) phStat_mem).get _ _ (loopStat_notMem_phStats m))
theorem State.fireBegun_loops : (s.fireBegun m).loops = (s.fireShown m).loops :=
  (State.reslot_loops _ m).trans
    ((Frame.fire (R := phStats) (P := [.phases]) .refl (by decide) phStat_mem).same .loops (by decide))
/-- R134, R138: each active or shedding phase of the loop fires, and is active. -/
theorem State.fireBegun_firing (h : s.Fires n) (i : n ∈ s.phasesOf m) : Firing n (s.fireBegun m) := by
  have ready : (s.fireShown m).Fires n := by
    have state : (s.fireShown m).phState n = s.phState n :=
      (s.fireShown_frame m).get _ _ (by simp [phStat_ne_loopStat])
    rwa [State.Fires, state]
  obtain ⟨state, firing⟩ := ready.fire ((s.fireShown m).flag (LOOP_APF m) LOOP_APF_ARM_SHED) i
  have spaced : Respaced n _ (s.fireBegun m) := .reslot .refl m
  obtain ⟨_, _, phase⟩ := spaced.phase
  exact ⟨spaced.state.trans state, by rw [phase, ← firing]⟩

/-- R134, R137, R138: the undershoot comparator trips. -/
theorem execUndershootTrip_fires (on : s.engines = true) (run : s.loops[m].run = .on) (armed : s.loops[m].pgOnce = true)
    (en : s.get (LOOP_CTL m) LOOP_CTL_APF_EN = 1) (apf : s.get (LOOP_STAT m) LOOP_STAT_APF = 0)
    (rearmed : s.loops[m].rearmWait = false) :
    Answers (.undershootTrip m) s fun t => t.get (LOOP_STAT m) LOOP_STAT_APF = 1 ∧
      t.get (LOOP_STAT m) LOOP_STAT_BRAKE = 0 ∧ t.loops[m].fires = s.loops[m].fires + 1 ∧
      (n ∈ s.phasesOf m → s.phState n = phActive ∨ s.phState n = phShedding →
        t.phState n = phActive ∧ t.phases[n].firing = true) ∧
      Frame (LOOP_STAT m :: phStats) [.loops, .phases] s t := by
  have g : (s.power == .run && !s.clk.bothLost && s.clk.inForce && s.loops[m].run == .on && s.loops[m].pgOnce &&
      s.flag (LOOP_CTL m) LOOP_CTL_APF_EN && !s.flag (LOOP_STAT m) LOOP_STAT_APF && !s.loops[m].rearmWait) = true := by
    have here := State.engines_analog on
    simp only [State.analog, Bool.and_eq_true] at here
    simp [-Fin.getElem_fin, here, run, armed, State.flag, en, apf, rearmed]
  have fires : exec (.undershootTrip m) s = done (s.fireBegun m) := congrArg done (if_pos g)
  refine ⟨_, fires, ?_, ?_, ?_, fun i h => ?_, s.fireBegun_frame m⟩
  · rw [State.fireBegun_get_loopStat _ _ _ (by decide), State.fireShown, State.updLoop_get,
      State.get_putB _ _ _ _ (by decide) (by decide)]
    rfl
  · rw [State.fireBegun_get_loopStat _ _ _ (by decide), State.fireShown, State.updLoop_get,
      State.get_putB_field _ _ _ _ _ (by decide), State.get_putB _ _ _ _ (by decide) (by decide)]
    rfl
  · simp only [State.fireBegun_loops, State.fireShown, State.updLoop_loop, LoopSt.tripped_fires, State.putB_loops]
  · obtain ⟨state, firing⟩ := s.fireBegun_firing m n h i
    exact ⟨state, firing⟩

/-- A loop whose fire ends at a frame, with the preset of its history (R132, R136, R137). -/
def LoopSt.preset (l : LoopSt) (y : Int) (hold : Nat) : LoopSt :=
  { l with e1 := 0, e2 := 0, e3 := 0, y1 := y, y2 := y, y3 := y, rearmWait := true, holdoff := some hold }

/-- A fire as it ends (R132, R136). -/
def State.fireEnded : State :=
  ((s.updLoop m (fun l =>
    l.preset (s.clampY m (s.loops[m].y1 + (s.get (LOOP_APF m) LOOP_APF_IPRE * 2 ^ s.dsh m * 16 : Nat)))
      (s.clk.frames + 500 * (s.get (LOOP_SHED m) LOOP_SHED_HOLD + 1)))).putB
    (LOOP_STAT m) LOOP_STAT_APF false).fireOver (s.phasesOf m)

theorem State.fireOver_frame (l : List (Fin 16)) : Frame [] [.phases] s (s.fireOver l) := .fireOver .refl (by decide)
@[simp] theorem State.fireOver_loops (l : List (Fin 16)) : (s.fireOver l).loops = s.loops :=
  (s.fireOver_frame l).same .loops (by decide)
theorem State.fireEnded_loop : (s.fireEnded m).loops[m] =
    s.loops[m].preset (s.clampY m (s.loops[m].y1 + (s.get (LOOP_APF m) LOOP_APF_IPRE * 2 ^ s.dsh m * 16 : Nat)))
      (s.clk.frames + 500 * (s.get (LOOP_SHED m) LOOP_SHED_HOLD + 1)) := by
  simp only [State.fireEnded, State.fireOver_loops, State.putB_loops, State.updLoop_loop]

/-- R132, R136: a fire ends. -/
theorem execFireEnd_presets (run : s.inRun = true) (apf : s.get (LOOP_STAT m) LOOP_STAT_APF = 1) :
    Answers (.fireEnd m) s fun t => t.get (LOOP_STAT m) LOOP_STAT_APF = 0 ∧ t.loops[m].rearmWait = true ∧
      t.loops[m].e1 = 0 ∧ t.loops[m].e2 = 0 ∧ t.loops[m].e3 = 0 ∧
      t.loops[m].y1 = s.clampY m (s.loops[m].y1 + (s.get (LOOP_APF m) LOOP_APF_IPRE * 2 ^ s.dsh m * 16 : Nat)) ∧
      t.loops[m].y2 = t.loops[m].y1 ∧ t.loops[m].y3 = t.loops[m].y1 ∧
      t.loops[m].holdoff = some (s.clk.frames + 500 * (s.get (LOOP_SHED m) LOOP_SHED_HOLD + 1)) ∧
      Frame [LOOP_STAT m] [.loops, .phases] s t := by
  have g : (s.power == .run && !s.clk.bothLost && s.flag (LOOP_STAT m) LOOP_STAT_APF) = true := by
    simp only [State.inRun, Bool.and_eq_true] at run
    simp [run, State.flag, apf]
  have ends : exec (.fireEnd m) s = done (s.fireEnded m) := congrArg done (if_pos g)
  have stat : (s.fireEnded m).get (LOOP_STAT m) LOOP_STAT_APF = 0 :=
    ((State.fireOver_frame _ _).get _ _ (by simp)).trans (State.get_putB _ _ _ _ (by decide) (by decide))
  refine ⟨_, ends, stat, ?_⟩
  rw [s.fireEnded_loop m]
  exact ⟨rfl, rfl, rfl, rfl, rfl, rfl, rfl, rfl,
    .fireOver (.putB _ _ (.updLoop .refl (by decide)) (by simp)) (by decide)⟩

/-- R137: the comparator re-arms. -/
theorem execUndershootRearm_rearms (above since : BitVec 20) (run : s.inRun = true)
    (waits : s.loops[m].rearmWait = true) (apf : s.get (LOOP_STAT m) LOOP_STAT_APF = 0)
    (stood : s.loops[m].per ≤ above.toNat) (passed : s.loops[m].per ≤ since.toNat) :
    Answers (.undershootRearm m above since) s fun t => t.loops[m].rearmWait = false ∧ Frame [] [.loops] s t := by
  have g : (s.inRun && s.loops[m].rearmWait && !s.flag (LOOP_STAT m) LOOP_STAT_APF &&
      decide (s.loops[m].per ≤ above.toNat ∧ s.loops[m].per ≤ since.toNat)) = true := by
    simp [-Fin.getElem_fin, run, waits, State.flag, apf, stood, passed]
  exact ⟨_, congrArg done (if_pos g), by simp, .updLoop .refl (by decide)⟩

/-- The shed phases of a loop have joined, but for the new spacing (R138). -/
def State.shedJoined : State := ((s.updLoop m (fun l => { l with join := false })).unshed (s.phasesOf m)).disturb m

@[simp] theorem State.unshed_loops (l : List (Fin 16)) : (s.unshed l).loops = s.loops :=
  (Frame.unshed (R := phStats) (P := []) .refl phStat_mem).same .loops (by decide)
theorem State.shedJoined_frame : Frame (LOOP_STAT m :: phStats) [.loops, .phases] s (s.shedJoined m) := by
  have joined : Frame (LOOP_STAT m :: phStats) [.loops, .phases] s
      ((s.updLoop m (fun l => { l with join := false })).unshed (s.phasesOf m)) :=
    .unshed (.updLoop .refl (by decide)) fun k => by simp [phStat_mem]
  unfold State.shedJoined State.disturb
  exact joined.updLoop (by decide)
theorem State.shedJoined_join : (s.shedJoined m).loops[m].join = false := by
  simp only [State.shedJoined, State.disturb, State.updLoop_loop, State.unshed_loops]

/-- R128, R138: the shed phases of a loop join at the first tick after a fire. -/
theorem execShedPhasesJoin_joins (on : s.engines = true) (join : s.loops[m].join = true)
    (apf : s.get (LOOP_STAT m) LOOP_STAT_APF = 0) :
    Answers (.shedPhasesJoin m) s fun t => t.loops[m].join = false ∧
      (n ∈ s.phasesOf m → s.phState n = phShed → t.phState n = phActive) ∧
      Frame (LOOP_STAT m :: phStats) [.snap, .loops, .phases] s t := by
  have g : (s.engines && s.loops[m].join && !s.flag (LOOP_STAT m) LOOP_STAT_APF) = true := by
    simp [-Fin.getElem_fin, on, join, State.flag, apf]
  have joins : exec (.shedPhasesJoin m) s = done (s.latchChange ((s.shedJoined m).reslot m)) := congrArg done (if_pos g)
  refine ⟨_, joins, ?_, fun i shed => ?_, .latchChange (.reslot ((s.shedJoined_frame m).mono (fun _ => id) (by decide))
    (by decide) (fun k => by simp [phStat_mem]) (by simp)) (by decide)⟩
  · simp only [State.latchChange_loops, State.reslot_loops, State.shedJoined_join]
  · exact (Respaced.refl.reslot m).state.trans
      (State.unshed_joins (s := s.updLoop m fun l => { l with join := false }) shed i)

/-- R132: the re-shed hold-off ends. -/
theorem execReshedHoldoffEnd_ends (f : Nat) (run : s.inRun = true) (hold : s.loops[m].holdoff = some f)
    (due : f ≤ s.clk.frames) :
    Answers (.reshedHoldoffEnd m) s fun t => t.loops[m].holdoff = none ∧ Frame [] [.loops] s t := by
  refine ⟨s.updLoop m (fun l => { l with holdoff := none }), congrArg done (if_pos ?_), by simp,
    .updLoop .refl (by decide)⟩
  simp only [run, hold, due, decide_true, Bool.and_self]

/-! ### Braking (R139, R140) -/

/-- R139: a code at or above OTH starts a brake. -/
theorem execBrakeStart_brakes (code : BitVec 9) (since : BitVec 20) (on : s.engines = true) (run : s.loops[m].run = .on)
    (armed : s.loops[m].pgOnce = true) (en : s.get (LOOP_CTL m) LOOP_CTL_BRAKE_EN = 1)
    (apfEn : s.get (LOOP_CTL m) LOOP_CTL_APF_EN = 1) (rested : s.loops[m].braked = true → s.loops[m].per ≤ since.toNat)
    (apf : s.get (LOOP_STAT m) LOOP_STAT_APF = 0) (brake : s.get (LOOP_STAT m) LOOP_STAT_BRAKE = 0)
    (high : (s.get (LOOP_BRAKE m) LOOP_BRAKE_OTH : Nat) ≤ code.toInt) :
    Answers (.brakeStart m code since) s fun t => t.get (LOOP_STAT m) LOOP_STAT_BRAKE = 1 ∧ t.est.braked = true ∧
      Frame [LOOP_STAT m] [.loops, .est] s t := by
  have rest : (!s.loops[m].braked || decide (s.loops[m].per ≤ since.toNat)) = true := by
    rw [Bool.or_eq_true, Bool.not_eq_true', decide_eq_true_eq]
    exact (Bool.eq_false_or_eq_true _).symm.imp_right rested
  have g : (s.engines && s.loops[m].run == .on && s.loops[m].pgOnce && s.flag (LOOP_CTL m) LOOP_CTL_BRAKE_EN &&
      s.flag (LOOP_CTL m) LOOP_CTL_APF_EN && !s.flag (LOOP_STAT m) LOOP_STAT_APF &&
      !s.flag (LOOP_STAT m) LOOP_STAT_BRAKE && (!s.loops[m].braked || decide (s.loops[m].per ≤ since.toNat)) &&
      decide ((s.get (LOOP_BRAKE m) LOOP_BRAKE_OTH : Nat) ≤ code.toInt)) = true := by
    rw [rest]
    simp [-Fin.getElem_fin, on, run, armed, State.flag, en, apfEn, apf, brake, high]
  exact ⟨_, congrArg done (if_pos g), State.get_putB _ _ _ _ (by decide) (by decide), rfl,
    .updEst (.updLoop (.putB _ _ .refl (by simp)) (by decide)) (by decide)⟩

section
variable (periods : Nat)

theorem State.brakeOver_frame : Frame [LOOP_STAT m] [.loops, .phases] s (s.brakeOver m periods) :=
  .shedOn (.updLoop (.putB _ _ .refl (by simp)) (by decide)) (by decide)
theorem State.shedOn_frame (l : List (Fin 16)) : Frame [] [.phases] s (s.shedOn periods l) := .shedOn .refl (by decide)
@[simp] theorem State.shedOn_loops (l : List (Fin 16)) : (s.shedOn periods l).loops = s.loops :=
  (s.shedOn_frame periods l).same .loops (by decide)
theorem State.brakeOver_brake : (s.brakeOver m periods).get (LOOP_STAT m) LOOP_STAT_BRAKE = 0 :=
  ((State.shedOn_frame _ _ _).get _ _ (by simp)).trans (State.get_putB _ _ _ _ (by decide) (by decide))
/-- R140: the error history is 0, and the y history is kept. -/
theorem State.brakeOver_loop :
    (s.brakeOver m periods).loops[m] = { s.loops[m] with e1 := 0, e2 := 0, e3 := 0, braked := true } := by
  simp only [State.brakeOver, State.shedOn_loops, State.updLoop_loop, State.putB_loops]

end

/-- R140: a code at or below OTH / 2 ends a brake. -/
theorem execBrakeEnd_ends (code : BitVec 9) (periods : Fin 64) (run : s.inRun = true)
    (brake : s.get (LOOP_STAT m) LOOP_STAT_BRAKE = 1)
    (below : 2 * code.toInt ≤ (s.get (LOOP_BRAKE m) LOOP_BRAKE_OTH : Nat)) :
    Answers (.brakeEnd m code periods) s fun t => t.get (LOOP_STAT m) LOOP_STAT_BRAKE = 0 ∧ t.loops[m].e1 = 0 ∧
      t.loops[m].e2 = 0 ∧ t.loops[m].e3 = 0 ∧ t.loops[m].y1 = s.loops[m].y1 ∧
      t.loops[m].braked = true ∧ Frame [LOOP_STAT m] [.loops, .phases] s t := by
  have g : (s.inRun && s.flag (LOOP_STAT m) LOOP_STAT_BRAKE &&
      decide (2 * code.toInt ≤ (s.get (LOOP_BRAKE m) LOOP_BRAKE_OTH : Nat))) = true := by
    simp [run, State.flag, brake, below]
  have ends : exec (.brakeEnd m code periods) s = done (s.brakeOver m periods) := congrArg done (if_pos g)
  refine ⟨_, ends, s.brakeOver_brake m periods, ?_⟩
  rw [s.brakeOver_loop m periods]
  exact ⟨rfl, rfl, rfl, rfl, rfl, s.brakeOver_frame m periods⟩

/-- R140: the longest brake ends. -/
theorem execBrakeTmax_ends (periods : Fin 64) (run : s.inRun = true) (brake : s.get (LOOP_STAT m) LOOP_STAT_BRAKE = 1) :
    Answers (.brakeTmax m periods) s fun t => t.get (LOOP_STAT m) LOOP_STAT_BRAKE = 0 ∧ t.loops[m].e1 = 0 ∧
      t.raisedCode (0x30 + m) 0x05 ∧ EventFrame [LOOP_STAT m] [.loops, .phases] s t := by
  have g : (s.inRun && s.flag (LOOP_STAT m) LOOP_STAT_BRAKE) = true := by simp [run, State.flag, brake]
  refine ⟨(s.brakeOver m periods).raise (0x30 + m) 0x05, congrArg done (if_pos g), ?_, ?_,
    State.raise_raised _ _ _ _ _ (by omega), .raise (.of_frame (s.brakeOver_frame m periods)) (by omega)⟩
  · rw [State.get_raise_loopStat _ _ _ _ _ _ _ (by omega), s.brakeOver_brake m periods]
  · simp only [State.raise_loops, s.brakeOver_loop m periods]

/-! ### Shedding and imbalance (R131, R141) -/

/-- A phase whose shedding ramp has ended, with its event (R128, R131). -/
def State.phaseShed : State :=
  ((s.setPh n phShed).updPhase n (fun p => { p with shedJ := 0, ton := 0 })).raise (0x20 + n) 0x07

theorem State.phaseShed_frame : EventFrame [PH_STAT n] [.phases] s (s.phaseShed n) :=
  .raise (.updPhase (.of_frame (.setPh .refl (by simp))) (by decide)) (by omega)
theorem State.phaseShed_state : (s.phaseShed n).phState n = phShed :=
  (State.get_raise_phStat _ _ _ _ _ _ _ (by omega)).trans (s.setPh_state n (by decide))
theorem State.phaseShed_raised : (s.phaseShed n).raisedCode (0x20 + n) 0x07 := State.raise_raised _ _ _ _ _ (by omega)
theorem State.phaseShed_ton : (s.phaseShed n).phases[n].ton = 0 := by
  simp only [State.phaseShed, State.raise_phases, State.updPhase_phase]

/-- R128, R131: a phase is shed at the first tick after its ramp. -/
theorem execPhaseShed_sheds (on : s.engines = true) (state : s.phState n = phShedding)
    (ramp : max 1 (s.get (LOOP_SHED (s.loopOf n)) LOOP_SHED_RAMP) ≤ s.phases[n].shedJ) :
    Answers (.phaseShed n) s fun t => t.phState n = phShed ∧ t.phases[n].ton = 0 ∧ t.loops[s.loopOf n].shedRun = 0 ∧
      t.raisedCode (0x20 + n) 0x07 ∧
      EventFrame (LOOP_STAT (s.loopOf n) :: phStats) [.snap, .loops, .phases] s t := by
  have g : (s.engines && s.phState n == phShedding &&
      decide (max 1 (s.get (LOOP_SHED (s.loopOf n)) LOOP_SHED_RAMP) ≤ s.phases[n].shedJ)) = true := by
    rw [on, state, decide_eq_true ramp]
    rfl
  have sheds : exec (.phaseShed n) s = done (s.latchChange ((s.phaseShed n).recounted (s.loopOf n))) :=
    congrArg done (if_pos g)
  have spaced := (s.phaseShed n).recounted_respaced (s.loopOf n) n
  obtain ⟨_, _, phase⟩ := spaced.phase
  have marked : EventFrame (LOOP_STAT (s.loopOf n) :: phStats) [.snap, .loops, .phases] s (s.phaseShed n) :=
    (s.phaseShed_frame n).mono (by simp [phStat_mem]) (by decide)
  refine ⟨_, sheds, spaced.state.trans (s.phaseShed_state n), ?_, ?_,
    State.recounted_raised _ _ (s.phaseShed_raised n),
    .latchChange (marked.trans (.of_frame ((State.recounted_frame _ _).mono (fun _ => id) (by decide)))) (by decide)⟩
  · simp only [State.latchChange_phases, phase, s.phaseShed_ton n]
  · simp only [State.latchChange_loops, State.recounted_shedRun]

/-- The imbalance of a phase is shown and told (R141). -/
def State.imbTold : State :=
  ((s.putB (PH_STAT n) PH_STAT_IMB true).raise (0x20 + n) 0x03).updPhase n (fun p => { p with imbSaid := true })
/-- An imbalance that is reported only (R142). -/
def State.imbReported : State := s.updPhase n (fun p => { p with imbHeld := false })

theorem loopImb_ne_phStat (m : Nat) (n : Fin 16) : LOOP_IMB m ≠ PH_STAT n := by unfold LOOP_IMB PH_STAT; omega
theorem offEvents_loopImb (m : Nat) : offEvents (LOOP_IMB m) := offEvents_above (Nat.le_add_right_of_le (by decide))
theorem State.imbTold_frame : EventFrame [PH_STAT n] [.phases] s (s.imbTold n) :=
  .updPhase (.raise (.putB _ _ .refl (by simp)) (by omega)) (by decide)
theorem State.imbTold_get (f : Fld) :
    (s.imbTold n).get (PH_STAT n) f = (s.putB (PH_STAT n) PH_STAT_IMB true).get (PH_STAT n) f :=
  State.get_raise_phStat _ _ _ _ _ _ _ (by omega)
theorem State.imbTold_state : (s.imbTold n).phState n = s.phState n :=
  (s.imbTold_get n _).trans (State.get_putB_field _ _ _ _ _ (by decide))
theorem State.imbTold_imb : (s.imbTold n).get (PH_STAT n) PH_STAT_IMB = 1 :=
  (s.imbTold_get n _).trans (State.get_putB _ _ _ _ (by decide) (by decide))
theorem State.imbTold_said : (s.imbTold n).phases[n].imbSaid = true := by
  simp only [State.imbTold, State.updPhase_phase]
theorem State.imbTold_raised : (s.imbTold n).raisedCode (0x20 + n) 0x03 := State.raise_raised _ _ _ _ _ (by omega)

/-- R141: a phase's imbalance is told, and with ACT 0 nothing else follows. -/
theorem execImbalance_tells (on : s.engines = true) (state : s.phState n = phActive)
    (reached : s.imbReached (s.loopOf n) n = true) (fresh : s.phases[n].imbSaid = false)
    (act : s.get (LOOP_IMB (s.loopOf n)) LOOP_IMB_ACT = 0) :
    Answers (.imbalance n) s fun t => t.phState n = phActive ∧ t.get (PH_STAT n) PH_STAT_IMB = 1 ∧
      t.phases[n].imbSaid = true ∧ t.raisedCode (0x20 + n) 0x03 ∧ EventFrame [PH_STAT n] [.snap, .phases] s t := by
  have g : (s.engines && s.phState n == phActive && s.imbReached (s.loopOf n) n) = true := by
    rw [on, state, reached]
    rfl
  have kept : (s.imbTold n).get (LOOP_IMB (s.loopOf n)) LOOP_IMB_ACT = 0 :=
    ((s.imbTold_frame n).get _ _ (by simp [loopImb_ne_phStat]) (offEvents_loopImb _)).trans act
  have only : (!(s.imbTold n).flag (LOOP_IMB (s.loopOf n)) LOOP_IMB_ACT ||
      ((s.imbTold n).sparesOf (s.loopOf n)).isEmpty) = true := by
    rw [State.flag, kept]
    rfl
  have tells : exec (.imbalance n) s = done (s.latchChange ((s.imbTold n).imbReported n)) := by
    have told : (if s.phases[n].imbSaid then s else s.imbTold n) = s.imbTold n := if_neg (by rw [fresh]; decide)
    rw [← told] at only
    exact congrArg done ((if_pos g).trans (congrArg s.latchChange ((if_pos only).trans
      (congrArg (State.imbReported · n) told))))
  refine ⟨_, tells, (s.imbTold_state n).trans state, s.imbTold_imb n, ?_, s.imbTold_raised n,
    .latchChange (.updPhase ((s.imbTold_frame n).mono (fun _ => id) (by decide)) (by decide)) (by decide)⟩
  simp only [State.latchChange_phases, State.imbReported, State.updPhase_phase, s.imbTold_said n]

/-! ### Substitution (R148 to R150) -/

/-- R150: a spare is asked for. -/
theorem execSubstReq_asks (run : s.inRun = true) :
    Answers (.substReq n) s fun t => t.phases[n].substReq = true ∧ t.phases[n].askAt = s.clk.frames ∧
      Frame [] [.phases] s t :=
  ⟨_, congrArg done (if_pos run), by simp, by simp, .updPhase .refl (by decide)⟩

section
variable (st : Nat) (on : s.engines = true) (asks : s.askers m = [n]) (claim : s.phases[n].claim = some st)
  (unasked : s.phases[n].substReq = false)
include on asks

/-- What SUBSTITUTION comes to where one phase of the loop is concerned (R148 to R150). -/
theorem execSubstitution_eq :
    exec (.substitution m) s = done (s.latchChange (((s.substClaims m [n]).substReqs m [n]).recounted m)) := by
  have g : (s.engines && !(s.askers m).isEmpty) = true := by rw [on, asks]; rfl
  refine congrArg done ((if_pos g).trans ?_)
  simp only [asks, List.foldl_cons, List.foldl_nil, insertPos]
  rfl

include claim unasked

/-- R148: a spare takes the place of a fenced phase. -/
theorem execSubstitution_spare (k : Fin 16) (r : List (Fin 16)) (lt : st < 8) (spare : s.sparesOf m = k :: r)
    (other : k ≠ n) :
    Answers (.substitution m) s fun t => t.phState k = (if st = phShedding then phActive else st) ∧
      t.get (PH_STAT k) PH_STAT_SUBST = 1 ∧ t.phases[k].pos = s.phases[n].pos ∧ t.phases[n].claim = none ∧
      t.raisedCode (0x20 + k) 0x05 ∧ EventFrame (LOOP_STAT m :: phStats) [.snap, .loops, .phases] s t := by
  have kept : ((s.claimTaken n).bringIn m k s.phases[n].pos st).phases[n] = { s.phases[n] with claim := none } :=
    (State.bringIn_phase_ne _ _ _ _ _ _ other).trans (s.claimTaken_phase n)
  have e := execSubstitution_eq s m n on asks
  rw [State.substClaims_spare claim spare, State.substReqs_unasked (by rw [kept, unasked])] at e
  have there := State.recounted_respaced ((s.claimTaken n).bringIn m k s.phases[n].pos st) m
  obtain ⟨_, _, phase⟩ := (there k).phase
  obtain ⟨_, _, replaced⟩ := (there n).phase
  have marked : EventFrame (LOOP_STAT m :: phStats) [.snap, .loops, .phases] s
      ((s.claimTaken n).bringIn m k s.phases[n].pos st) :=
    (EventFrame.updPhase .refl (by decide)).trans
      ((State.bringIn_frame _ _ _ _ _).mono (by simp [phStat_mem]) (by decide))
  refine ⟨_, e, (there k).state.trans (State.bringIn_state _ _ _ _ _ lt),
    ((there k).stat _ (by decide)).trans (State.bringIn_subst _ _ _ _ _), ?_, ?_,
    State.recounted_raised _ _ (State.bringIn_raised _ _ _ _ _),
    .latchChange (marked.trans (.of_frame ((State.recounted_frame _ _).mono (fun _ => id) (by decide)))) (by decide)⟩
  · simp only [State.latchChange_phases, phase, State.bringIn_pos]
  · simp only [State.latchChange_phases, replaced, kept]

/-- R149: without a spare the slot of a fenced phase is closed. -/
theorem execSubstitution_none (bare : s.sparesOf m = []) :
    Answers (.substitution m) s fun t => t.phases[n].claim = none ∧ t.raisedCode (0x30 + m) 0x06 ∧
      EventFrame (LOOP_STAT m :: phStats) [.snap, .loops, .phases] s t := by
  have kept : ((s.claimTaken n).raise (0x30 + m) 0x06).phases[n] = { s.phases[n] with claim := none } := by
    rw [State.raise_phases, State.claimTaken_phase]
  have e := execSubstitution_eq s m n on asks
  rw [State.substClaims_none claim bare, State.substReqs_unasked (by rw [kept, unasked])] at e
  obtain ⟨_, _, phase⟩ := (State.recounted_respaced ((s.claimTaken n).raise (0x30 + m) 0x06) m n).phase
  have marked : EventFrame (LOOP_STAT m :: phStats) [.snap, .loops, .phases] s
      ((s.claimTaken n).raise (0x30 + m) 0x06) := .raise (.updPhase .refl (by decide)) (by omega)
  refine ⟨_, e, ?_, State.recounted_raised _ _ (State.raise_raised _ _ _ _ _ (by omega)),
    .latchChange (marked.trans (.of_frame ((State.recounted_frame _ _).mono (fun _ => id) (by decide)))) (by decide)⟩
  simp only [State.latchChange_phases, phase, kept]

end

end

/-- Settles O25: a fire comes to `State.fireBegun` and its end to `State.fireEnded`, the end of a brake to
`State.brakeOver`, and a shed phase or a substitution to the phase concerned and `State.recounted`, which changes of
each phase its slot alone (`Respaced`); the other commands write their own loop or phase and its flags. -/
theorem loopTransients : Obligations.LoopTransients := fun s m n =>
  ⟨execUndershootTrip_fires s m n, execFireEnd_presets s m, execUndershootRearm_rearms s m,
    execShedPhasesJoin_joins s m n, execReshedHoldoffEnd_ends s m, execBrakeStart_brakes s m, execBrakeEnd_ends s m,
    execBrakeTmax_ends s m, execPhaseShed_sheds s n, execImbalance_tells s n, execSubstReq_asks s n,
    fun st k r on asks claim unasked => execSubstitution_spare s m n st on asks claim unasked k r,
    execSubstitution_none s m n⟩

end Sys2Proof.Machine
end

section
/-! SUPPORT. The shared operations of the integrated regulators: what starting, stopping and losing power good each leave
of a regulator's state and of its REG_STAT and REG_CTL (R155 to R157, R162, R163). -/
namespace Sys2Proof.Machine
open Sys2Proof

/-! ### A regulator's event source, registers and state -/

theorem regEsn_lt (r : Fin 14) : regEsn r < 256 := by unfold regEsn; omega

theorem regCtl_ne_regStat (i j : Nat) : REG_CTL i ≠ REG_STAT j := by unfold REG_CTL REG_STAT; omega
theorem regProt_ne_regStat (i j : Nat) : REG_PROT i ≠ REG_STAT j := by unfold REG_PROT REG_STAT; omega
theorem offEvents_regStat (i : Nat) : offEvents (REG_STAT i) := offEvents_above (Nat.le_add_right_of_le (by decide))
theorem offEvents_regCtl (i : Nat) : offEvents (REG_CTL i) := offEvents_above (Nat.le_add_right_of_le (by decide))
theorem offEvents_regProt (i : Nat) : offEvents (REG_PROT i) := offEvents_above (Nat.le_add_right_of_le (by decide))

theorem State.updReg_reg (s : State) (r : Fin 14) (f : RegSt → RegSt) : (s.updReg r f).regul[r] = f s.regul[r] :=
  Vector.getElem_set_self _

section
variable (s : State) (r : Fin 14)

theorem State.get_raise_regStat (c h i : Nat) (d : List Byte) (f : Fld) :
    (s.raise (regEsn r) c h d).get (REG_STAT i) f = s.get (REG_STAT i) f :=
  s.raise_get _ _ _ _ _ _ (regEsn_lt r) (offEvents_regStat i)
theorem State.get_raise_regCtl (c h i : Nat) (d : List Byte) (f : Fld) :
    (s.raise (regEsn r) c h d).get (REG_CTL i) f = s.get (REG_CTL i) f :=
  s.raise_get _ _ _ _ _ _ (regEsn_lt r) (offEvents_regCtl i)
/-- A regulator's ESN is no monitor event, so that every code of it is told (R311). -/
theorem State.raise_regRaised (c h : Nat) (d : List Byte) : (s.raise (regEsn r) c h d).raisedCode (regEsn r) c :=
  State.raise_raised _ _ _ _ _ (by unfold regEsn; omega)

/-! ### Switched off (R157) -/

/-- A regulator whose switches have turned off. -/
def RegSt.switchedOff (x : RegSt) (run : RegRun) : RegSt :=
  { x with run := run, vref := 0, vfrac := 0, ovArmed := false, uvArmed := false, pgRun := 0, limRun := 0,
           limSeen := false, uvNow := false, sink := false, pendEn := none }

/-- REG_STAT of a regulator whose switches have turned off. -/
def switchedOffStat (w : Word) : Word :=
  setF (setF (setF (setF w REG_STAT_ON 0) REG_STAT_SS 0) REG_STAT_LIMIT 0) REG_STAT_PG 0

variable (run : RegRun)

theorem State.regSwitchOff_eq : s.regSwitchOff r run =
    (s.updReg r (fun x => x.switchedOff run)).wr (REG_STAT r) (switchedOffStat (s.rd (REG_STAT r))) := rfl
theorem State.regSwitchOff_frame : Frame [REG_STAT r] [.regul] s (s.regSwitchOff r run) :=
  .wr _ (.updReg .refl (by decide)) (by simp)
theorem State.regSwitchOff_reg : (s.regSwitchOff r run).regul[r] = s.regul[r].switchedOff run :=
  Vector.getElem_set_self _
theorem State.regSwitchOff_get (f : Fld) :
    (s.regSwitchOff r run).get (REG_STAT r) f = getF (switchedOffStat (s.rd (REG_STAT r))) f := State.get_wr_same _ _ _ _
theorem State.regSwitchOff_on : (s.regSwitchOff r run).get (REG_STAT r) REG_STAT_ON = 0 := by
  simp (disch := decide) [State.regSwitchOff_get, switchedOffStat, getF_setF, getF_setF_ne]
theorem State.regSwitchOff_ss : (s.regSwitchOff r run).get (REG_STAT r) REG_STAT_SS = 0 := by
  simp (disch := decide) [State.regSwitchOff_get, switchedOffStat, getF_setF, getF_setF_ne]
theorem State.regSwitchOff_pg : (s.regSwitchOff r run).get (REG_STAT r) REG_STAT_PG = 0 := by
  simp (disch := decide) [State.regSwitchOff_get, switchedOffStat, getF_setF]
/-- The fields of REG_STAT other than ON, SS, PG and LIMIT stay as they were. -/
theorem State.regSwitchOff_get_other (f : Fld) (low : 3 ≤ f.lo) (apart : f.lo + f.w ≤ 9 ∨ 10 ≤ f.lo) :
    (s.regSwitchOff r run).get (REG_STAT r) f = s.get (REG_STAT r) f := by
  have on : REG_STAT_ON.lo + REG_STAT_ON.w ≤ f.lo := (by decide : _ ≤ 3).trans low
  have ss : REG_STAT_SS.lo + REG_STAT_SS.w ≤ f.lo := (by decide : _ ≤ 3).trans low
  have pg : REG_STAT_PG.lo + REG_STAT_PG.w ≤ f.lo := low
  rw [State.regSwitchOff_get, switchedOffStat, getF_setF_ne _ _ _ _ (.inl pg),
    getF_setF_ne _ REG_STAT_LIMIT _ _ apart.symm, getF_setF_ne _ _ _ _ (.inl ss), getF_setF_ne _ _ _ _ (.inl on)]
  rfl

/-! ### Off with EN reading 0 (R157, R162) -/

theorem State.regHalt_frame : Frame [REG_STAT r, REG_CTL r] [.regul] s (s.regHalt r) :=
  .putB _ _ ((s.regSwitchOff_frame r .off).mono (by simp) (by simp)) (by simp)
theorem State.regHalt_reg : (s.regHalt r).regul[r] = s.regul[r].switchedOff .off := s.regSwitchOff_reg r .off
theorem State.regHalt_flt : (s.regHalt r).flt = s.flt := rfl
theorem State.regHalt_en : (s.regHalt r).get (REG_CTL r) REG_CTL_EN = 0 := State.get_putB _ _ _ _ (by decide) (by decide)
theorem State.regHalt_get_regStat (f : Fld) :
    (s.regHalt r).get (REG_STAT r) f = (s.regSwitchOff r .off).get (REG_STAT r) f :=
  State.get_putB_ne _ _ _ _ _ _ (regCtl_ne_regStat _ _).symm

/-! ### PG is lost (R163) -/

theorem State.regLosePG_frame : EventFrame [REG_STAT r] [] s (s.regLosePG r) :=
  .ite (.raise (.putB _ _ .refl (by simp)) (regEsn_lt r)) .refl
theorem State.regLosePG_keepsRaised : KeepsRaised s (s.regLosePG r) := .ite (.raise (.putB .refl)) .refl
theorem State.regLosePG_regul : (s.regLosePG r).regul = s.regul :=
  (s.regLosePG_frame r).same .regul (by decide) (by decide)
theorem State.regLosePG_pg : (s.regLosePG r).get (REG_STAT r) REG_STAT_PG = 0 := by
  unfold State.regLosePG
  split
  · rw [State.get_raise_regStat, State.get_putB _ _ _ _ (by decide) (by decide)]
    rfl
  · next clear => simpa [State.flag] using clear
theorem State.regLosePG_get_other (f : Fld) (apart : f.lo + f.w ≤ 2 ∨ 3 ≤ f.lo) :
    (s.regLosePG r).get (REG_STAT r) f = s.get (REG_STAT r) f := by
  unfold State.regLosePG
  split
  · rw [State.get_raise_regStat, State.get_putB_field _ _ REG_STAT_PG _ _ apart.symm]
  · rfl
theorem State.regLosePG_raised (stood : s.get (REG_STAT r) REG_STAT_PG = 1) :
    (s.regLosePG r).raisedCode (regEsn r) 0x05 := by
  rw [State.regLosePG, if_pos (by rw [State.flag, stood]; rfl)]
  exact State.raise_regRaised _ _ _ _ _

/-! ### A stop by a protection (R162, R163) -/

variable (code hi : Nat)

/-- A protection's event as it is told, with the loss of PG that comes with it. -/
def State.regTold : State := (s.raise (regEsn r) code hi).regLosePG r

theorem State.regTold_frame : EventFrame [REG_STAT r] [] s (s.regTold r code hi) :=
  .trans (.raise .refl (regEsn_lt r)) (State.regLosePG_frame _ r)
theorem State.regTold_regul : (s.regTold r code hi).regul = s.regul :=
  (s.regTold_frame r code hi).same .regul (by decide) (by decide)
theorem State.regTold_get_other (f : Fld) (apart : f.lo + f.w ≤ 2 ∨ 3 ≤ f.lo) :
    (s.regTold r code hi).get (REG_STAT r) f = s.get (REG_STAT r) f :=
  (State.regLosePG_get_other _ r f apart).trans (s.get_raise_regStat r ..)
theorem State.regTold_raised : (s.regTold r code hi).raisedCode (regEsn r) code :=
  State.regLosePG_keepsRaised _ r _ _ (s.raise_regRaised r ..)
theorem State.regTold_lost (stood : s.get (REG_STAT r) REG_STAT_PG = 1) :
    (s.regTold r code hi).raisedCode (regEsn r) 0x05 :=
  State.regLosePG_raised _ r ((s.get_raise_regStat r ..).trans stood)

theorem State.regStop_frame : EventFrame [REG_STAT r, REG_CTL r] [.regul] s (s.regStop r code hi) :=
  ((s.regTold_frame r code hi).mono (by simp) (by simp)).trans (.of_frame (State.regHalt_frame _ r))
theorem State.regStop_reg : (s.regStop r code hi).regul[r] = s.regul[r].switchedOff .off := by
  rw [State.regStop, State.regHalt_reg, ← State.regTold, State.regTold_regul]
theorem State.regStop_en : (s.regStop r code hi).get (REG_CTL r) REG_CTL_EN = 0 := State.regHalt_en _ r
theorem State.regStop_pg : (s.regStop r code hi).get (REG_STAT r) REG_STAT_PG = 0 :=
  (State.regHalt_get_regStat _ r _).trans (State.regSwitchOff_pg _ r _)
/-- The flags of the protections stay as they were. -/
theorem State.regStop_get_other (f : Fld) (low : 3 ≤ f.lo) (apart : f.lo + f.w ≤ 9 ∨ 10 ≤ f.lo) :
    (s.regStop r code hi).get (REG_STAT r) f = s.get (REG_STAT r) f :=
  (State.regHalt_get_regStat _ r _).trans ((State.regSwitchOff_get_other _ r _ f low apart).trans
    (s.regTold_get_other r code hi f (.inr low)))
theorem State.regStop_raised : (s.regStop r code hi).raisedCode (regEsn r) code := s.regTold_raised r code hi
theorem State.regStop_lost (stood : s.get (REG_STAT r) REG_STAT_PG = 1) :
    (s.regStop r code hi).raisedCode (regEsn r) 0x05 := s.regTold_lost r code hi stood

/-! ### The start check and the start ramp (R155, R156) -/

theorem State.inputUv_frame : EventFrame [REG_STAT r, REG_CTL r] [.regul] s (s.inputUv r) :=
  .raise (.putB _ _ (.putB _ _ (.of_frame (s.regHalt_frame r)) (by simp)) (by simp)) (regEsn_lt r)
theorem State.inputUv_reg : (s.inputUv r).regul[r] = s.regul[r].switchedOff .off := by
  simp only [State.inputUv, State.raise_regul, State.putB_regul, State.regHalt_reg]
theorem State.inputUv_en : (s.inputUv r).get (REG_CTL r) REG_CTL_EN = 0 := by
  rw [State.inputUv, State.get_raise_regCtl, State.get_putB_ne _ _ _ _ _ _ (regCtl_ne_regStat _ _),
    State.get_putB_ne _ _ _ _ _ _ (regCtl_ne_regStat _ _), State.regHalt_en]
theorem State.inputUv_uv : (s.inputUv r).get (REG_STAT r) REG_STAT_UV = 1 := by
  rw [State.inputUv, State.get_raise_regStat, State.get_putB_field _ _ _ _ _ (by decide),
    State.get_putB _ _ _ _ (by decide) (by decide)]
  rfl
theorem State.inputUv_inuv : (s.inputUv r).get (REG_STAT r) REG_STAT_INUV = 1 := by
  rw [State.inputUv, State.get_raise_regStat, State.get_putB _ _ _ _ (by decide) (by decide)]
  rfl
theorem State.inputUv_retries :
    (s.inputUv r).get (REG_STAT r) REG_STAT_RETRIES = s.get (REG_STAT r) REG_STAT_RETRIES := by
  rw [State.inputUv, State.get_raise_regStat, State.get_putB_field _ _ _ _ _ (by decide),
    State.get_putB_field _ _ _ _ _ (by decide), State.regHalt_get_regStat,
    State.regSwitchOff_get_other _ _ _ _ (by decide) (by decide)]
theorem State.inputUv_raised : (s.inputUv r).raisedCode (regEsn r) 0x02 := State.raise_regRaised _ r ..

/-- A regulator at the start of its ramp to a setpoint. -/
def RegSt.started (x : RegSt) (setpoint : Nat) : RegSt :=
  { x with run := .starting, vref := 0, vfrac := 0, target := setpoint, span := setpoint, ovArmed := false,
           uvArmed := false, sink := false, cmpSeen := false, pgRun := 0, limRun := 0, limSeen := false, uvNow := false }

theorem State.regStart_frame : Frame [REG_STAT r] [.regul] s (s.regStart r) :=
  .putB _ _ (.putB _ _ (.updReg .refl (by decide)) (by simp)) (by simp)
theorem State.regStart_reg : (s.regStart r).regul[r] = s.regul[r].started (s.regSetpoint r) :=
  Vector.getElem_set_self _
theorem State.regStart_on : (s.regStart r).get (REG_STAT r) REG_STAT_ON = 1 := by
  rw [State.regStart, State.get_putB_field _ _ _ _ _ (by decide), State.get_putB _ _ _ _ (by decide) (by decide)]
  rfl
theorem State.regStart_ss : (s.regStart r).get (REG_STAT r) REG_STAT_SS = 1 :=
  State.get_putB _ _ _ _ (by decide) (by decide)
theorem State.regStart_retries :
    (s.regStart r).get (REG_STAT r) REG_STAT_RETRIES = s.get (REG_STAT r) REG_STAT_RETRIES := by
  rw [State.regStart, State.get_putB_field _ _ _ _ _ (by decide), State.get_putB_field _ _ _ _ _ (by decide),
    State.updReg_get]

end

end Sys2Proof.Machine
end

section
/-! PROOF. The start and the stop of a regulator (R155 to R158, R163, R164): one lemma per command and outcome, and the
statement. -/
namespace Sys2Proof.Machine
open Sys2Proof

section
variable (s : State) (r : Fin 14) (on : s.engines = true)

/-! ### Enable (R155, R170) -/

/-- A request to enable or to disable a regulator is honoured. -/
def State.regEnableTaken : State := s.updReg r (fun x => { x with pendEn := none })

theorem State.regEnableTaken_frame : Frame [REG_STAT r] [.regul] s (s.regEnableTaken r) := .updReg .refl (by decide)
theorem State.regEnableTaken_otLatched : (s.regEnableTaken r).otLatched r = s.otLatched r := by
  have sensor : (s.regEnableTaken r).regul[r].otAt = s.regul[r].otAt := by
    simp [-Fin.getElem_fin, State.regEnableTaken]
  unfold State.otLatched
  rw [sensor]
  rfl

section
variable (vin : BitVec 16) (asked : s.regul[r].pendEn = some true) (due : s.regul[r].askAt < s.clk.frames)
  (off : s.regul[r].run = .off) (cool : s.otLatched r = false)
include on asked due off cool

/-- What REG_ENABLE comes to for a regulator that is off and cool: the UV fault of the start check, or a start. -/
theorem execRegEnable_eq : exec (.regEnable r vin) s = done (s.latchChange (
    if vin.toNat < s.startMin r then (s.regEnableTaken r).inputUv r else (s.regEnableTaken r).regStart r)) := by
  have honoured : (s.engines && s.regul[r].pendEn == some true && decide (s.regul[r].askAt < s.clk.frames)) = true := by
    simp [-Fin.getElem_fin, on, asked, due]
  have idle : ¬ ((s.regEnableTaken r).regOn r || (s.regEnableTaken r).regul[r].run == .retryWait) = true := by
    simp [-Fin.getElem_fin, State.regOn, State.regEnableTaken, off]
  have sensor : ¬ (s.regEnableTaken r).otLatched r = true := by simp [s.regEnableTaken_otLatched, cool]
  exact congrArg done ((if_pos honoured).trans (congrArg s.latchChange ((if_neg idle).trans (if_neg sensor))))

/-- R155, R156: an enable that passes the start check. -/
theorem execRegEnable_starts (enough : s.startMin r ≤ vin.toNat) :
    Answers (.regEnable r vin) s fun t => t.regul[r].run = .starting ∧ t.regul[r].target = s.regSetpoint r ∧
      t.regul[r].vref = 0 ∧ t.get (REG_STAT r) REG_STAT_ON = 1 ∧ t.get (REG_STAT r) REG_STAT_SS = 1 ∧
      Frame [REG_STAT r] [.snap, .regul] s t := by
  have e := execRegEnable_eq s r on vin asked due off cool
  rw [if_neg (by omega)] at e
  have reg : ((s.regEnableTaken r).regStart r).regul[r] = (s.regEnableTaken r).regul[r].started (s.regSetpoint r) :=
    State.regStart_reg _ r
  exact ⟨_, e, congrArg RegSt.run reg, congrArg RegSt.target reg, congrArg RegSt.vref reg, State.regStart_on _ r,
    State.regStart_ss _ r,
    .latchChange (((s.regEnableTaken_frame r).trans (State.regStart_frame _ r)).mono (by simp) (by simp)) (by simp)⟩

/-- R155: an enable that fails the start check. -/
theorem execRegEnable_inputUv (low : vin.toNat < s.startMin r) :
    Answers (.regEnable r vin) s fun t => t.regul[r].run = .off ∧ t.get (REG_CTL r) REG_CTL_EN = 0 ∧
      t.get (REG_STAT r) REG_STAT_UV = 1 ∧ t.get (REG_STAT r) REG_STAT_INUV = 1 ∧ t.raisedCode (regEsn r) 0x02 ∧
      EventFrame [REG_STAT r, REG_CTL r] [.snap, .regul] s t := by
  have e := execRegEnable_eq s r on vin asked due off cool
  rw [if_pos low] at e
  have taken : EventFrame [REG_STAT r, REG_CTL r] [.regul] s (s.regEnableTaken r) :=
    .of_frame ((s.regEnableTaken_frame r).mono (by simp) (by simp))
  exact ⟨_, e, congrArg RegSt.run (State.inputUv_reg _ r), State.inputUv_en _ r, State.inputUv_uv _ r,
    State.inputUv_inuv _ r, State.inputUv_raised _ r,
    .latchChange ((taken.trans (State.inputUv_frame _ r)).mono (by simp) (by simp)) (by simp)⟩

end

/-! ### The ramp, power good and a new setpoint (R156, R158) -/

include on

/-- R156, R158: the reference reaches its target. -/
theorem execRegRampEnd_ends (drives : s.regOn r = true) (ramps : s.get (REG_STAT r) REG_STAT_SS = 1)
    (near : s.refNear r = true) :
    Answers (.regRampEnd r) s fun t => t.regul[r].run = .running ∧ t.regul[r].vref = s.regul[r].target ∧
      t.regul[r].ovArmed = (regKind r != .sw) ∧ t.get (REG_STAT r) REG_STAT_SS = 0 ∧
      Frame [REG_STAT r] [.regul] s t := by
  have g : (s.engines && s.regOn r && s.flag (REG_STAT r) REG_STAT_SS && s.refNear r) = true := by
    simp [on, drives, State.flag, ramps, near]
  refine ⟨_, congrArg done (if_pos g), ?_, ?_, ?_, State.get_putB _ _ _ _ (by decide) (by decide),
    .putB _ _ (.updReg .refl (by decide)) (by simp)⟩
  all_goals simp [-Fin.getElem_fin]

/-- R156: the fifth result in a row sets PG. -/
theorem execRegPgSet_sets (run : s.regul[r].run = .running) (clear : s.get (REG_STAT r) REG_STAT_PG = 0)
    (five : 5 ≤ s.regul[r].pgRun) :
    Answers (.regPgSet r) s fun t => t.get (REG_STAT r) REG_STAT_PG = 1 ∧ t.regul[r].uvArmed = true ∧
      t.regul[r].pgSince = s.clk.frames ∧ t.raisedCode (regEsn r) 0x06 ∧
      EventFrame [REG_STAT r] [.snap, .regul] s t := by
  have g : (s.engines && s.regul[r].run == .running && !s.flag (REG_STAT r) REG_STAT_PG &&
      decide (5 ≤ s.regul[r].pgRun)) = true := by
    simp [-Fin.getElem_fin, on, run, State.flag, clear, five]
  refine ⟨_, congrArg done (if_pos g), ?_, ?_, ?_, KeepsRaised.of_flt rfl _ _ (State.raise_regRaised _ r ..),
    .latchChange (.raise (.putB _ _ (.updReg .refl (by decide)) (by simp)) (regEsn_lt r)) (by decide)⟩
  · rw [State.latchChange_get, State.get_raise_regStat, State.get_putB _ _ _ _ (by decide) (by decide)]
    rfl
  all_goals simp [-Fin.getElem_fin]

/-- R158: a new setpoint retargets the reference where it stands. -/
theorem execRegSetpointChange_retargets (asked : s.regul[r].pendCode = true) (due : s.regul[r].askAt < s.clk.frames)
    (drives : s.regOn r = true) (kind : regKind r ≠ .sw) :
    Answers (.regSetpointChange r) s fun t => t.regul[r].target = s.regSetpoint r ∧
      t.regul[r].vref = s.regul[r].vref ∧ t.get (REG_STAT r) REG_STAT_SS =
        (if s.regul[r].vref = s.regSetpoint r ∧ s.regul[r].run ≠ .starting then 0 else 1) ∧
      Frame [REG_STAT r] [.snap, .regul] s t := by
  have honoured : (s.engines && s.regul[r].pendCode && decide (s.regul[r].askAt < s.clk.frames)) = true := by
    simp [-Fin.getElem_fin, on, asked, due]
  have reg := s.updReg_reg r (fun x => { x with pendCode := false })
  have moves : ((s.updReg r (fun x => { x with pendCode := false })).regOn r && regKind r != .sw) = true := by
    rw [State.regOn] at drives
    simpa only [State.regOn, reg, Bool.and_eq_true, bne_iff_ne] using And.intro drives kind
  refine ⟨_, congrArg done ((if_pos honoured).trans (congrArg s.latchChange (if_pos moves))), ?_, ?_, ?_,
    .latchChange (.putB _ _ (.updReg (.updReg .refl (by decide)) (by decide)) (by simp)) (by decide)⟩
  case refine_3 =>
    rw [State.latchChange_get, State.get_putB _ _ _ _ (by decide) (by decide), reg]
    by_cases stands : s.regul[r].vref = s.regSetpoint r ∧ s.regul[r].run ≠ .starting
    · simp [-Fin.getElem_fin, stands]
    · rw [if_neg stands, if_pos]
      simpa [-Fin.getElem_fin, imp_iff_not_or] using stands
  all_goals simp [-Fin.getElem_fin]

/-! ### Disable (R157) -/

/-- R157: a disable. -/
theorem execRegDisable_halts (asked : s.regul[r].pendEn = some false) (due : s.regul[r].askAt < s.clk.frames) :
    Answers (.regDisable r) s fun t => t.regul[r].run = .off ∧ t.get (REG_CTL r) REG_CTL_EN = 0 ∧
      t.get (REG_STAT r) REG_STAT_ON = 0 ∧ t.get (REG_STAT r) REG_STAT_PG = 0 ∧ t.get (REG_STAT r) REG_STAT_SS = 0 ∧
      Frame [REG_STAT r, REG_CTL r] [.snap, .regul] s t := by
  have g : (s.engines && s.regul[r].pendEn == some false && decide (s.regul[r].askAt < s.clk.frames)) = true := by
    simp [-Fin.getElem_fin, on, asked, due]
  refine ⟨_, congrArg done (if_pos g), congrArg RegSt.run (s.regHalt_reg r), s.regHalt_en r, ?_, ?_, ?_,
    .latchChange ((s.regHalt_frame r).mono (by simp) (by simp)) (by simp)⟩
  · exact (s.regHalt_get_regStat r _).trans (s.regSwitchOff_on r _)
  · exact (s.regHalt_get_regStat r _).trans (s.regSwitchOff_pg r _)
  · exact (s.regHalt_get_regStat r _).trans (s.regSwitchOff_ss r _)

/-! ### Retries (R164) -/

section
variable (vin : BitVec 16) (waits : s.regul[r].run = .retryWait) (past : s.regul[r].retryAt ≤ s.clk.frames)
include waits past

/-- What the end of a retry wait comes to: off where EN reads 0, else the start check and a counted restart. -/
theorem execRetryWaitEnd_eq : exec (.retryWaitEnd r vin) s = done (s.latchChange (
    if !s.flag (REG_CTL r) REG_CTL_EN then s.regHalt r
    else if vin.toNat < s.startMin r then s.inputUv r
    else (s.bump (REG_STAT r) REG_STAT_RETRIES).regStart r)) := by
  have g : (s.engines && s.regul[r].run == .retryWait && decide (s.regul[r].retryAt ≤ s.clk.frames)) = true := by
    simp [-Fin.getElem_fin, on, waits, past]
  exact congrArg done (if_pos g)

/-- R164: a restart that passes the start check is counted. -/
theorem execRetryWaitEnd_restarts (enabled : s.get (REG_CTL r) REG_CTL_EN = 1) (enough : s.startMin r ≤ vin.toNat) :
    Answers (.retryWaitEnd r vin) s fun t => t.regul[r].run = .starting ∧
      t.get (REG_STAT r) REG_STAT_RETRIES =
        min (s.get (REG_STAT r) REG_STAT_RETRIES + 1) (2 ^ REG_STAT_RETRIES.w - 1) ∧
      Frame [REG_STAT r] [.snap, .regul] s t := by
  have e := execRetryWaitEnd_eq s r on vin waits past
  rw [if_neg (by simp [State.flag, enabled]), if_neg (by omega)] at e
  have counted : Frame [REG_STAT r] [.regul] s (s.bump (REG_STAT r) REG_STAT_RETRIES) := .bump _ .refl (by simp)
  refine ⟨_, e, ?_, ?_,
    .latchChange ((counted.trans (State.regStart_frame _ r)).mono (by simp) (by simp)) (by simp)⟩
  · rw [State.latchChange_regul, State.regStart_reg]
    rfl
  · rw [State.latchChange_get, State.regStart_retries, State.get_bump _ _ _ (by decide)]

/-- R155, R164: a restart that fails the start check is not counted. -/
theorem execRetryWaitEnd_inputUv (enabled : s.get (REG_CTL r) REG_CTL_EN = 1) (low : vin.toNat < s.startMin r) :
    Answers (.retryWaitEnd r vin) s fun t => t.regul[r].run = .off ∧
      t.get (REG_STAT r) REG_STAT_RETRIES = s.get (REG_STAT r) REG_STAT_RETRIES ∧
      t.get (REG_STAT r) REG_STAT_INUV = 1 ∧ t.raisedCode (regEsn r) 0x02 ∧
      EventFrame [REG_STAT r, REG_CTL r] [.snap, .regul] s t := by
  have e := execRetryWaitEnd_eq s r on vin waits past
  rw [if_neg (by simp [State.flag, enabled]), if_pos low] at e
  exact ⟨_, e, congrArg RegSt.run (s.inputUv_reg r), s.inputUv_retries r, s.inputUv_inuv r, s.inputUv_raised r,
    .latchChange ((s.inputUv_frame r).mono (by simp) (by simp)) (by simp)⟩

/-- R164: a write of EN = 0 has ended the wait without a restart. -/
theorem execRetryWaitEnd_halts (disabled : s.get (REG_CTL r) REG_CTL_EN = 0) :
    Answers (.retryWaitEnd r vin) s fun t => t.regul[r].run = .off ∧ t.get (REG_CTL r) REG_CTL_EN = 0 ∧
      Frame [REG_STAT r, REG_CTL r] [.snap, .regul] s t := by
  have e := execRetryWaitEnd_eq s r on vin waits past
  rw [if_pos (by simp [State.flag, disabled])] at e
  exact ⟨_, e, congrArg RegSt.run (s.regHalt_reg r), s.regHalt_en r,
    .latchChange ((s.regHalt_frame r).mono (by simp) (by simp)) (by simp)⟩

end

/-- R164: a second of PG resets the retries. -/
theorem execRetriesReset_resets (stands : s.get (REG_STAT r) REG_STAT_PG = 1)
    (second : s.regul[r].pgSince + 50000 ≤ s.clk.frames) :
    Answers (.retriesReset r) s fun t => t.get (REG_STAT r) REG_STAT_RETRIES = 0 ∧ Frame [REG_STAT r] [.snap] s t := by
  have g : (s.engines && s.flag (REG_STAT r) REG_STAT_PG &&
      decide (s.regul[r].pgSince + 50000 ≤ s.clk.frames)) = true := by
    simp [-Fin.getElem_fin, on, State.flag, stands, second]
  exact ⟨_, congrArg done (if_pos g), State.get_put _ _ _ _ (by decide), .latchChange (.put _ _ .refl (by simp)) (by simp)⟩

end

/-- Settles O26: an enable and the end of a retry wait come to `State.regStart` or, below the start minimum, to
`State.inputUv`; a disable, and a retry wait whose EN reads 0, to `State.regHalt`; the other steps write the regulator
and its REG_STAT alone. -/
theorem regulatorStartStop : Obligations.RegulatorStartStop := fun s r on =>
  ⟨execRegEnable_starts s r on, execRegEnable_inputUv s r on, execRegRampEnd_ends s r on, execRegPgSet_sets s r on,
    execRegDisable_halts s r on, execRegSetpointChange_retargets s r on, execRetryWaitEnd_restarts s r on,
    execRetryWaitEnd_inputUv s r on, execRetryWaitEnd_halts s r on, execRetriesReset_resets s r on⟩

end Sys2Proof.Machine
end

section
/-! PROOF. The protections of a regulator (R162 to R164, R170): one lemma per protection, and the statement. -/
namespace Sys2Proof.Machine
open Sys2Proof

section
variable (s : State) (r : Fin 14)

/-! ### A flag of REG_STAT that a protection sets before it stops the regulator -/

section
variable (f : Fld) (code hi : Nat)

/-- A regulator that a protection stops, with the protection's flag set (R162). -/
def State.flaggedStop : State := (s.putB (REG_STAT r) f true).regStop r code hi

theorem State.flaggedStop_frame : EventFrame [REG_STAT r, REG_CTL r] [.regul] s (s.flaggedStop r f code hi) :=
  .trans (.putB _ _ .refl (by simp)) (State.regStop_frame _ r code hi)
theorem State.flaggedStop_reg : (s.flaggedStop r f code hi).regul[r] = s.regul[r].switchedOff .off :=
  State.regStop_reg _ r code hi
theorem State.flaggedStop_flag (low : 3 ≤ f.lo) (apart : f.lo + f.w ≤ 9 ∨ 10 ≤ f.lo) (fits : f.lo + f.w ≤ 32)
    (bit : f.w = 1) : (s.flaggedStop r f code hi).get (REG_STAT r) f = 1 :=
  (State.regStop_get_other _ r code hi f low apart).trans (State.get_putB _ _ _ _ fits bit)
theorem State.flaggedStop_lost (low : 3 ≤ f.lo) (stood : s.get (REG_STAT r) REG_STAT_PG = 1) :
    (s.flaggedStop r f code hi).raisedCode (regEsn r) 0x05 :=
  State.regStop_lost _ r code hi ((State.get_putB_field _ _ _ REG_STAT_PG _ (.inr low)).trans stood)

end

/-! ### A limit that acts, and overcurrent as it is told (R162, R164) -/

/-- A limit acts: LIMIT is set, and the regulator is as the limited cycle or tick leaves it (R162). -/
def State.limited (f : RegSt → RegSt) : State := (s.updReg r f).putB (REG_STAT r) REG_STAT_LIMIT true

theorem State.limited_shows (f : RegSt → RegSt) (seen : (f s.regul[r]).limSeen = true)
    (run : (f s.regul[r]).run = s.regul[r].run) :
    (s.limited r f).get (REG_STAT r) REG_STAT_LIMIT = 1 ∧ (s.limited r f).regul[r].limSeen = true ∧
      (s.limited r f).regul[r].run = s.regul[r].run ∧ Frame [REG_STAT r] [.regul] s (s.limited r f) := by
  refine ⟨State.get_putB _ _ _ _ (by decide) (by decide), ?_, ?_, .putB _ _ (.updReg .refl (by decide)) (by simp)⟩
  · rw [State.limited, State.putB_regul, State.updReg_reg, seen]
  · rw [State.limited, State.putB_regul, State.updReg_reg, run]

/-- Overcurrent as it is shown and told, before the regulator stops (R164). -/
def State.overcurrentTold : State := (s.putB (REG_STAT r) REG_STAT_OC true).regTold r 0x03 0

theorem State.overcurrentTold_frame : EventFrame [REG_STAT r] [] s (s.overcurrentTold r) :=
  .trans (.putB _ _ .refl (by simp)) (State.regTold_frame _ r 0x03 0)
theorem State.overcurrentTold_oc : (s.overcurrentTold r).get (REG_STAT r) REG_STAT_OC = 1 :=
  (State.regTold_get_other _ r 0x03 0 _ (by decide)).trans (State.get_putB _ _ _ _ (by decide) (by decide))
theorem State.overcurrentTold_retries :
    (s.overcurrentTold r).get (REG_STAT r) REG_STAT_RETRIES = s.get (REG_STAT r) REG_STAT_RETRIES :=
  (State.regTold_get_other _ r 0x03 0 _ (by decide)).trans (State.get_putB_field _ _ _ _ _ (by decide))
theorem State.overcurrentTold_prot (f : Fld) : (s.overcurrentTold r).get (REG_PROT r) f = s.get (REG_PROT r) f :=
  (s.overcurrentTold_frame r).get _ _ (by simp [regProt_ne_regStat]) (offEvents_regProt r)
theorem State.overcurrentTold_raised : (s.overcurrentTold r).raisedCode (regEsn r) 0x03 := State.regTold_raised _ r 0x03 0

/-! ### Overvoltage, a reversed switch and over-temperature (R162, R170) -/

variable (on : s.engines = true)
include on

/-- R162: overvoltage. -/
theorem execRegOvervoltage_stops (v : BitVec 20) (drives : s.regOn r = true) (armed : s.regul[r].ovArmed = true)
    (high : above v.toNat (s.refLow r) (s.ovPermille r) = true) :
    Answers (.regOvervoltage r v) s fun t => t.regul[r].run = .off ∧ t.get (REG_CTL r) REG_CTL_EN = 0 ∧
      t.get (REG_STAT r) REG_STAT_OV = 1 ∧ t.get (REG_STAT r) REG_STAT_PG = 0 ∧ t.raisedCode (regEsn r) 0x01 ∧
      (s.get (REG_STAT r) REG_STAT_PG = 1 → t.raisedCode (regEsn r) 0x05) ∧
      EventFrame [REG_STAT r, REG_CTL r] [.regul] s t := by
  have g : (s.analog && s.regOn r && s.regul[r].ovArmed && above v.toNat (s.refLow r) (s.ovPermille r)) = true := by
    simp [-Fin.getElem_fin, State.engines_analog on, drives, armed, high]
  refine ⟨(s.flaggedStop r REG_STAT_OV 0x01 0).updReg r (fun x => { x with sink := decide (r.val < 6) }),
    congrArg done (if_pos g), ?_, State.regStop_en _ r 0x01 0, ?_, State.regStop_pg _ r 0x01 0,
    KeepsRaised.of_flt (State.updReg_flt _ _ _) _ _ (State.regStop_raised _ r 0x01 0),
    fun stood => KeepsRaised.of_flt (State.updReg_flt _ _ _) _ _ (s.flaggedStop_lost r _ 0x01 0 (by decide) stood),
    .updReg (s.flaggedStop_frame r _ 0x01 0) (by decide)⟩
  · rw [State.updReg_reg, State.flaggedStop_reg]
    rfl
  · exact s.flaggedStop_flag r _ 0x01 0 (by decide) (by decide) (by decide) (by decide)

/-- R162: a load switch whose output stands above its input. -/
theorem execSwReverseCurrent_stops (k : Fin 4) (v : BitVec 20) (vin : BitVec 16) (switch : r.val = 10 + k.val)
    (run : s.regul[r].run ≠ .off) (reversed : 8 * (vin.toNat + 50) < v.toNat) :
    Answers (.swReverseCurrent k v vin) s fun t => t.regul[r].run = .off ∧ t.get (REG_CTL r) REG_CTL_EN = 0 ∧
      t.get (REG_STAT r) REG_STAT_OV = 1 ∧ t.get (REG_STAT r) REG_STAT_PG = 0 ∧ t.raisedCode (regEsn r) 0x01 ∧
      EventFrame [REG_STAT r, REG_CTL r] [.regul] s t := by
  obtain ⟨n, lt⟩ := r
  obtain rfl : n = 10 + k.val := switch
  have g : (s.analog && s.regul[(⟨10 + k, lt⟩ : Fin 14)].run != .off &&
      decide (8 * (vin.toNat + 50) < v.toNat)) = true := by
    simp [-Fin.getElem_fin, State.engines_analog on, run, reversed]
  exact ⟨s.flaggedStop _ REG_STAT_OV 0x01 0, congrArg done (if_pos g), congrArg RegSt.run (s.flaggedStop_reg _ _ 0x01 0),
    State.regStop_en _ _ 0x01 0, s.flaggedStop_flag _ _ 0x01 0 (by decide) (by decide) (by decide) (by decide),
    State.regStop_pg _ _ 0x01 0, State.regStop_raised _ _ 0x01 0, s.flaggedStop_frame _ _ 0x01 0⟩

/-- R162, R170: over-temperature. -/
theorem execRegOverTemperature_stops : Answers (.regOverTemperature r) s fun t =>
    t.regul[r].run = .off ∧ t.get (REG_CTL r) REG_CTL_EN = 0 ∧ t.get (REG_STAT r) REG_STAT_OT = 1 ∧
      t.regul[r].otAt = some s.clk.frames ∧ t.raisedCode (regEsn r) 0x04 ∧
      EventFrame [REG_STAT r, REG_CTL r] [.regul] s t := by
  have reg := (State.flaggedStop_reg (s.updReg r (fun x => { x with otAt := some s.clk.frames })) r REG_STAT_OT 0x04 0).trans
    (congrArg (RegSt.switchedOff · .off) (s.updReg_reg r _))
  exact ⟨State.flaggedStop _ r REG_STAT_OT 0x04 0, congrArg done (if_pos (State.engines_analog on)),
    congrArg RegSt.run reg, State.regStop_en _ r 0x04 0,
    State.flaggedStop_flag _ r _ 0x04 0 (by decide) (by decide) (by decide) (by decide), congrArg RegSt.otAt reg,
    State.regStop_raised _ r 0x04 0, .trans (.updReg .refl (by decide)) (State.flaggedStop_frame _ r _ 0x04 0)⟩

/-! ### Undervoltage (R156, R162) -/

section
variable (v : BitVec 20) (vin : BitVec 16) (drives : s.regOn r = true)
  (low : below v.toNat (if regKind r = .sw then vin.toNat else s.refHigh r) (s.uvPermille r) = true)
include drives low

/-- What REG_UNDERVOLTAGE comes to: the comparator is asserted. -/
theorem execRegUndervoltage_eq : exec (.regUndervoltage r v vin) s = done (s.uvAssert r) := by
  have g : (s.analog && s.regOn r &&
      below v.toNat (if regKind r == .sw then vin.toNat else s.refHigh r) (s.uvPermille r)) = true := by
    simpa [State.engines_analog on, drives] using low
  exact congrArg done (if_pos g)

/-- R162: an undervoltage while the comparator is armed clears PG, and the regulator goes on. -/
theorem execRegUndervoltage_clears (armed : s.regul[r].uvArmed = true) :
    Answers (.regUndervoltage r v vin) s fun t => t.regul[r].run = s.regul[r].run ∧ t.get (REG_STAT r) REG_STAT_UV = 1 ∧
      t.get (REG_STAT r) REG_STAT_PG = 0 ∧ t.raisedCode (regEsn r) 0x02 ∧
      (s.get (REG_STAT r) REG_STAT_PG = 1 → t.raisedCode (regEsn r) 0x05) ∧ EventFrame [REG_STAT r] [.regul] s t := by
  have e := execRegUndervoltage_eq s r on v vin drives low
  rw [State.uvAssert, if_pos (by rw [State.updReg_reg]; exact armed)] at e
  refine ⟨_, e, ?_, ?_, State.regLosePG_pg _ r, State.regTold_raised _ r 0x02 0, fun stood => ?_, ?_⟩
  · rw [State.regLosePG_regul, State.raise_regul, State.putB_regul, State.updReg_reg]
  · exact (State.regTold_get_other _ r 0x02 0 _ (by decide)).trans (State.get_putB _ _ _ _ (by decide) (by decide))
  · exact State.regTold_lost _ r 0x02 0 ((State.get_putB_field _ _ _ _ _ (by decide)).trans stood)
  · exact .trans (.putB _ _ (.updReg .refl (by decide)) (by simp)) ((State.regTold_frame _ r 0x02 0).mono (by simp) (by simp))

/-- R156: an undervoltage while the comparator is not armed holds back PG. -/
theorem execRegUndervoltage_holdsBack (unarmed : s.regul[r].uvArmed = false) :
    Answers (.regUndervoltage r v vin) s fun t => t.regul[r].uvNow = true ∧ t.regul[r].pgRun = 0 ∧
      Frame [] [.regul] s t := by
  have e := execRegUndervoltage_eq s r on v vin drives low
  rw [State.uvAssert, if_neg (by rw [State.updReg_reg]; simp [-Fin.getElem_fin, unarmed])] at e
  exact ⟨_, e, by simp, by simp, .updReg .refl (by decide)⟩

end

/-! ### Overcurrent (R162, R164) -/

/-- R162: a limit of a buck or of an LDO only sets LIMIT. -/
theorem execCurrentLimit_shows (drives : s.regOn r = true) (c : Instr) (i : BitVec 16) (reached : s.ilim r ≤ i.toNat)
    (limits : (∃ (b : Fin 6) (again : Bool), b.val = r.val ∧ c = .peakCurrentLimit b i again) ∨
      ∃ k : Fin 4, 6 + k.val = r.val ∧ c = .ldCurrentLimit k i) :
    Answers c s fun t => t.get (REG_STAT r) REG_STAT_LIMIT = 1 ∧ t.regul[r].limSeen = true ∧
      t.regul[r].run = s.regul[r].run ∧ Frame [REG_STAT r] [.regul] s t := by
  have g : (s.engines && s.regOn r && decide (s.ilim r ≤ i.toNat)) = true := by simp [on, drives, reached]
  obtain ⟨n, lt⟩ := r
  rcases limits with ⟨b, again, buck, rfl⟩ | ⟨k, ldo, rfl⟩
  · obtain rfl : b.val = n := buck
    exact ⟨_, congrArg done (if_pos g), s.limited_shows _ _ rfl rfl⟩
  · obtain rfl : 6 + k.val = n := ldo
    exact ⟨_, congrArg done (if_pos g), s.limited_shows _ _ rfl rfl⟩

section
variable (i : BitVec 16) (drives : s.regOn r = true) (lasts : s.limPersists r i.toNat = true)
include drives lasts

/-- What a persistent overcurrent comes to, in the words of the state before it: off, the last retry, or a retry wait. -/
theorem execRegPersistentOvercurrent_eq : exec (.regPersistentOvercurrent r i) s = done (
    if s.get (REG_PROT r) REG_PROT_OC_MODE = 0 then (s.overcurrentTold r).regHalt r
    else if s.get (REG_STAT r) REG_STAT_RETRIES = s.get (REG_PROT r) REG_PROT_RETRY_MAX then
      ((s.overcurrentTold r).regHalt r).raise (regEsn r) 0x07
    else ((s.overcurrentTold r).regSwitchOff r .retryWait).updReg r (fun x =>
      { x with retryAt := (s.overcurrentTold r).clk.frames + 500, pendEn := (s.overcurrentTold r).regul[r].pendEn })) := by
  have g : (s.engines && s.regOn r && s.limPersists r i.toNat) = true := by simp [on, drives, lasts]
  rw [← s.overcurrentTold_retries r, ← s.overcurrentTold_prot r REG_PROT_OC_MODE,
    ← s.overcurrentTold_prot r REG_PROT_RETRY_MAX]
  refine congrArg done ((if_pos g).trans (if_congr ?_ rfl rfl))
  simp [State.overcurrentTold, State.regTold, State.flag]

/-- R162, R164: a persistent overcurrent where no retries are made. -/
theorem execRegPersistentOvercurrent_halts (mode : s.get (REG_PROT r) REG_PROT_OC_MODE = 0) :
    Answers (.regPersistentOvercurrent r i) s fun t => t.regul[r].run = .off ∧ t.get (REG_CTL r) REG_CTL_EN = 0 ∧
      t.get (REG_STAT r) REG_STAT_OC = 1 ∧ t.raisedCode (regEsn r) 0x03 ∧
      EventFrame [REG_STAT r, REG_CTL r] [.regul] s t := by
  have e := execRegPersistentOvercurrent_eq s r on i drives lasts
  rw [if_pos mode] at e
  exact ⟨_, e, congrArg RegSt.run (State.regHalt_reg _ r), State.regHalt_en _ r,
    (State.regHalt_get_regStat _ r _).trans ((State.regSwitchOff_get_other _ r _ _ (by decide) (by decide)).trans
      (s.overcurrentTold_oc r)), s.overcurrentTold_raised r,
    ((s.overcurrentTold_frame r).mono (by simp) (by simp)).trans (.of_frame (State.regHalt_frame _ r))⟩

/-- R164: a persistent overcurrent with retries left is off for 10 ms. -/
theorem execRegPersistentOvercurrent_waits (mode : s.get (REG_PROT r) REG_PROT_OC_MODE = 1)
    (left : s.get (REG_STAT r) REG_STAT_RETRIES ≠ s.get (REG_PROT r) REG_PROT_RETRY_MAX) :
    Answers (.regPersistentOvercurrent r i) s fun t => t.regul[r].run = .retryWait ∧
      t.regul[r].retryAt = s.clk.frames + 500 ∧ t.get (REG_STAT r) REG_STAT_OC = 1 ∧
      t.get (REG_STAT r) REG_STAT_ON = 0 ∧ t.raisedCode (regEsn r) 0x03 ∧ EventFrame [REG_STAT r] [.regul] s t := by
  have e := execRegPersistentOvercurrent_eq s r on i drives lasts
  rw [if_neg (by omega), if_neg left] at e
  have frames : (s.overcurrentTold r).clk = s.clk := (s.overcurrentTold_frame r).same .clk (by decide) (by decide)
  refine ⟨_, e, ?_, ?_, (State.regSwitchOff_get_other _ r .retryWait _ (by decide) (by decide)).trans
      (s.overcurrentTold_oc r), State.regSwitchOff_on _ r .retryWait, s.overcurrentTold_raised r,
    .updReg (((s.overcurrentTold_frame r).mono (by simp) (by simp)).trans
      (.of_frame (State.regSwitchOff_frame _ r .retryWait))) (by decide)⟩
  · rw [State.updReg_reg, State.regSwitchOff_reg]
    rfl
  · rw [State.updReg_reg, frames]

/-- R164: a persistent overcurrent after the last retry. -/
theorem execRegPersistentOvercurrent_exhausted (mode : s.get (REG_PROT r) REG_PROT_OC_MODE = 1)
    (spent : s.get (REG_STAT r) REG_STAT_RETRIES = s.get (REG_PROT r) REG_PROT_RETRY_MAX) :
    Answers (.regPersistentOvercurrent r i) s fun t => t.regul[r].run = .off ∧ t.get (REG_CTL r) REG_CTL_EN = 0 ∧
      t.raisedCode (regEsn r) 0x07 ∧ EventFrame [REG_STAT r, REG_CTL r] [.regul] s t := by
  have e := execRegPersistentOvercurrent_eq s r on i drives lasts
  rw [if_neg (by omega), if_pos spent] at e
  refine ⟨_, e, ?_, (State.get_raise_regCtl _ r ..).trans (State.regHalt_en _ r), State.raise_regRaised _ r ..,
    .raise (((s.overcurrentTold_frame r).mono (by simp) (by simp)).trans (.of_frame (State.regHalt_frame _ r)))
      (regEsn_lt r)⟩
  rw [State.raise_regul, State.regHalt_reg]
  rfl

end

end

/-- Settles O27: every protection that turns a regulator off comes to `State.regStop` with its flag, or, for overcurrent,
to what `execRegPersistentOvercurrent_eq` tells apart; an undervoltage comes to `State.regLosePG`, a limit to LIMIT. -/
theorem regulatorProtections : Obligations.RegulatorProtections := fun s r on =>
  ⟨execRegOvervoltage_stops s r on, execSwReverseCurrent_stops s r on,
    fun v vin drives armed low => execRegUndervoltage_clears s r on v vin drives low armed,
    fun v vin drives unarmed low => execRegUndervoltage_holdsBack s r on v vin drives low unarmed,
    execCurrentLimit_shows s r on, execRegPersistentOvercurrent_halts s r on, execRegPersistentOvercurrent_waits s r on,
    execRegPersistentOvercurrent_exhausted s r on, execRegOverTemperature_stops s r on⟩

end Sys2Proof.Machine
end

section
/-! PROOF. The sweep of the bucks' segments (R166 to R170): what a segment's turn comes to, one lemma per outcome, and the
statement. What it says of a fenced segment that is passed over, of a measurement in which a protection acted, and of a
drift compared as measured is the model's choice (log 18). -/
namespace Sys2Proof.Machine
open Sys2Proof

/-! ### The registers of a switch's segments -/

theorem segStat_ne_segDrift (i j : Nat) (k : Fin 9) : SEG_STAT i ≠ SEG_DRIFT j k := by
  unfold SEG_STAT SEG_DRIFT; omega
theorem segStat_ne_regStat (i : Nat) (r : Fin 14) : SEG_STAT i ≠ REG_STAT r := by unfold SEG_STAT REG_STAT; omega
theorem segStat_ne_regCtl (i : Nat) (r : Fin 14) : SEG_STAT i ≠ REG_CTL r := by unfold SEG_STAT REG_CTL; omega
theorem segDrift_ne_regStat (i k : Nat) (r : Fin 14) : SEG_DRIFT i k ≠ REG_STAT r := by
  unfold SEG_DRIFT REG_STAT; omega
theorem segDrift_ne_regCtl (i k : Nat) (r : Fin 14) : SEG_DRIFT i k ≠ REG_CTL r := by
  unfold SEG_DRIFT REG_CTL; omega
theorem offEvents_segStat (i : Nat) : offEvents (SEG_STAT i) := offEvents_above (by unfold SEG_STAT; omega)
theorem offEvents_segDrift (i k : Nat) : offEvents (SEG_DRIFT i k) := offEvents_above (by unfold SEG_DRIFT; omega)

section
variable (s : State) (sw : Fin 12) (k : Fin 9) (x : SegMeas)

/-! ### What a segment's turn comes to (R167, R168) -/

/-- The outcome of a segment's turn: passed over, postponed, or judged. -/
def State.segOutcome : State :=
  if !s.seg.turnOn || s.segGone sw k then s
  else if segUnfit (segReg sw) x then s.segPostpone sw k
  else s.segJudge sw k x

theorem State.segTurn_frame (i j : Nat) : Frame [] [.seg] s (s.segTurn i j) := .set_seg .refl (by decide)
theorem State.turnSwitch_eq (switch : s.seg.s = sw.val) : (⟨s.seg.s % 12, by omega⟩ : Fin 12) = sw :=
  Fin.ext (by simp only [switch]; omega)
theorem State.turnSegment_eq (segment : s.seg.k = k.val) : (⟨s.seg.k % 9, by omega⟩ : Fin 9) = k :=
  Fin.ext (by simp only [segment]; omega)
theorem State.segNext_eq_segTurn (early : s.seg.k < 8) : s.segNext = s.segTurn s.seg.s (s.seg.k + 1) := if_pos early

/-- A measurement that a segment cannot have yet joins the postponed ones. -/
theorem State.segPostpone_eq (fresh : ∀ p ∈ s.seg.postponed, ¬(p.s = sw.val ∧ p.k = k.val)) :
    s.segPostpone sw k =
      { s.putB IR_SWEEP IR_SWEEP_POSTPONED true with
        seg := { s.seg with postponed := s.seg.postponed ++ [⟨sw, k, s.opt.ms, s.clk.frames, false⟩] } } := by
  refine if_neg ?_
  simpa using fresh

/-- The measurement of a segment is no longer postponed. -/
def State.segUnpostponed : State :=
  { s with seg := { s.seg with postponed := s.seg.postponed.filter (fun p => !(p.s == sw.val && p.k == k.val)) } }

/-- A completed measurement as it is kept, with its drift (R166). -/
def State.segMeasured : State :=
  ({ s.segUnpostponed sw k with freeCtr := s.freeCtr + 1 } : State).wr (SEG_DRIFT sw k)
    (setF (setF 0 SEG_DRIFT_DRIFT (satI 16 (s.segDrift sw k x.ron.toNat))) SEG_DRIFT_RON x.ron.toNat)

theorem State.segMeasured_frame : Frame [SEG_DRIFT sw k] [.seg, .freeCtr] s (s.segMeasured sw k x) := by
  have unpostponed : Frame [SEG_DRIFT sw k] [.seg, .freeCtr] s (s.segUnpostponed sw k) := .set_seg .refl (by decide)
  exact .wr _ (unpostponed.set_freeCtr (by decide)) (by simp)
theorem State.segMeasured_seg : (s.segMeasured sw k x).seg =
    { s.seg with postponed := s.seg.postponed.filter (fun p => !(p.s == sw.val && p.k == k.val)) } := rfl
theorem State.segMeasured_ron : (s.segMeasured sw k x).get (SEG_DRIFT sw k) SEG_DRIFT_RON = x.ron.toNat := by
  rw [State.segMeasured, State.get_wr_same, getF_setF _ _ _ (by decide)]
  exact Nat.mod_eq_of_lt x.ron.isLt

/-- A segment that conducts while it is off is shown, and stops its buck (R168). -/
def State.segStuck : State :=
  (s.putB (SEG_STAT sw) SEG_STAT_STUCK true).regStop (segReg sw) 0x0A (segPayload sw k)

theorem State.segStuck_frame :
    EventFrame [SEG_STAT sw, REG_STAT (segReg sw), REG_CTL (segReg sw)] [.regul] s (s.segStuck sw k) :=
  .trans (.putB _ _ .refl (by simp)) ((State.regStop_frame _ (segReg sw) 0x0A (segPayload sw k)).mono (by simp) (by simp))
theorem State.segStuck_stuck : (s.segStuck sw k).get (SEG_STAT sw) SEG_STAT_STUCK = 1 :=
  ((State.regStop_frame _ (segReg sw) 0x0A (segPayload sw k)).get _ _ (by simp [segStat_ne_regStat, segStat_ne_regCtl])
    (offEvents_segStat sw)).trans (State.get_putB _ _ _ _ (by decide) (by decide))
theorem State.segStuck_seg : (s.segStuck sw k).seg = s.seg := (s.segStuck_frame sw k).same .seg (by decide) (by decide)
theorem State.segStuck_ron : (s.segStuck sw k).get (SEG_DRIFT sw k) SEG_DRIFT_RON = s.get (SEG_DRIFT sw k) SEG_DRIFT_RON :=
  (s.segStuck_frame sw k).get _ _
    (by simp [(segStat_ne_segDrift _ _ k).symm, segDrift_ne_regStat, segDrift_ne_regCtl]) (offEvents_segDrift sw k)
theorem State.segStuck_run : (s.segStuck sw k).regul[segReg sw].run = .off :=
  congrArg RegSt.run (State.regStop_reg _ (segReg sw) 0x0A (segPayload sw k))
theorem State.segStuck_en : (s.segStuck sw k).get (REG_CTL (segReg sw)) REG_CTL_EN = 0 :=
  State.regStop_en _ (segReg sw) 0x0A (segPayload sw k)
theorem State.segStuck_raised : (s.segStuck sw k).raisedCode (regEsn (segReg sw)) 0x0A :=
  State.regStop_raised _ (segReg sw) 0x0A (segPayload sw k)

/-- R168: a stuck segment's drift is kept, and its buck stops. -/
theorem State.segJudge_stuck (stuck : 20 < x.offCur) : s.segJudge sw k x = (s.segMeasured sw k x).segStuck sw k :=
  if_pos stuck
/-- R168: of a segment within every limit the drift is kept, and nothing follows. -/
theorem State.segJudge_healthy (off : x.offCur ≤ 20) (share : 5 ≤ x.share) (sound : s.driftOver sw k x.ron.toNat 30 ≤ 0)
    (unworn : s.driftOver sw k x.ron.toNat (s.get IR_CFG IR_CFG_WEAR_WARN) < 0) :
    s.segJudge sw k x = s.segMeasured sw k x := by
  have kept : ¬ (decide (0 < s.driftOver sw k x.ron.toNat 30) || decide (x.share < 5)) = true := by
    simp [sound, share]
  have unwarned : ¬ (decide (0 ≤ s.driftOver sw k x.ron.toNat (s.get IR_CFG IR_CFG_WEAR_WARN)) &&
      !(s.segMeasured sw k x).seg.warned.contains (sw.val, k.val)) = true := by
    simp [not_le.mpr unworn]
  exact (if_neg (by omega)).trans ((if_neg kept).trans (if_neg unwarned))

/-! ### A fence that brings the spare in (R169) -/

/-- With the spare in for one of the first eight segments a switch has the 6 that its buck needs (R169). -/
theorem popcount_spared : ∀ k : Fin 9, k.val < 8 → ¬ popcount (511 - 2 ^ k.val) 9 < 6 := by decide
theorem spared_eq : ∀ k : Fin 9, k.val < 8 → (255 - 2 ^ k.val) ||| 256 = 511 - 2 ^ k.val := by decide
theorem testBit_firstEight : ∀ k : Fin 9, k.val < 8 → (255 : Nat).testBit k.val = true := by decide

/-- R169: the fence of one of the first eight segments of a sound switch brings its spare in. -/
theorem State.applyFence_spare (inUse : s.get (SEG_STAT sw) SEG_STAT_IN_USE = 255)
    (unfenced : s.get (SEG_STAT sw) SEG_STAT_FENCED = 0) (first : k.val < 8) (spare : (sw.val, 8) ∉ s.seg.waiting) :
    s.applyFence sw k =
      (({ s with seg := { s.seg with waiting := s.seg.waiting.filter (fun p => p != (sw.val, k.val)) } } : State).put
        (SEG_STAT sw) SEG_STAT_IN_USE (511 - 2 ^ k.val)).put (SEG_STAT sw) SEG_STAT_FENCED (2 ^ k.val) := by
  have takes : (s.segSpare sw && k != 8) = true := by
    have other : k ≠ 8 := fun e => by simp [e] at first
    have ninth : Nat.testBit 255 8 = false := by decide
    simp [State.segSpare, State.segGone, inUse, unfenced, spare, other, ninth]
  unfold State.applyFence
  simp only [takes, inUse, testBit_firstEight k first, if_true, spared_eq k first, if_neg (popcount_spared k first)]
  exact congrArg (State.put _ _ _) ((congrArg (· ||| 2 ^ k.val) unfenced).trans (Nat.zero_or _))

variable (on : s.engines = true)
include on

/-! ### The start of the sweep (R167) -/

/-- R167: the sweep of an hour starts. -/
theorem execSweepStart_starts (enabled : s.get IR_CFG IR_CFG_SWEEP_EN = 1) (hour : s.seg.hour < s.opt.ms / 3600000) :
    Answers .sweepStart s fun t => t.get IR_SWEEP IR_SWEEP_RUNNING = 1 ∧ t.seg.s = 0 ∧ t.seg.k = 0 ∧
      t.seg.hour = s.opt.ms / 3600000 ∧ Frame [IR_SWEEP] [.seg] s t := by
  have g : (s.engines && s.flag IR_CFG IR_CFG_SWEEP_EN && decide (s.seg.hour < s.opt.ms / 3600000)) = true := by
    simp [on, State.flag, enabled, hour]
  exact ⟨_, congrArg done (if_pos g), State.get_putB _ _ _ _ (by decide) (by decide), rfl, rfl, rfl,
    .putB _ _ (.set_seg (.set_seg .refl (by decide)) (by decide)) (by simp)⟩

/-! ### A segment's turn -/

section
variable (running : s.get IR_SWEEP IR_SWEEP_RUNNING = 1) (switch : s.seg.s = sw.val) (segment : s.seg.k = k.val)
  (due : s.seg.turnAt + 50 ≤ s.clk.frames)
include running switch segment due

/-- What SEGMENT_MEASUREMENT comes to at the turn of a segment: its outcome, and the next turn. -/
theorem execSegmentMeasurement_eq :
    exec (.segmentMeasurement x) s = done (s.latchChange (s.segOutcome sw k x).segNext) := by
  have g : (s.engines && s.flag IR_SWEEP IR_SWEEP_RUNNING && decide (s.seg.turnAt + 50 ≤ s.clk.frames)) = true := by
    simp [on, State.flag, running, due]
  refine congrArg done ((if_pos g).trans ?_)
  change s.latchChange (s.segOutcome ⟨s.seg.s % 12, _⟩ ⟨s.seg.k % 9, _⟩ x).segNext = _
  rw [s.turnSwitch_eq sw switch, s.turnSegment_eq k segment]

/-- R167: a segment whose buck was off at its turn is passed over. -/
theorem execSegmentMeasurement_passes (early : k.val < 8) (off : s.seg.turnOn = false) :
    Answers (.segmentMeasurement x) s fun t => t.seg.s = sw.val ∧ t.seg.k = k.val + 1 ∧
      t.seg.turnAt = s.clk.frames ∧ t.seg.turnOn = s.regOn (segReg sw) ∧ t.seg.postponed = s.seg.postponed ∧
      Frame [] [.snap, .seg] s t := by
  have e := execSegmentMeasurement_eq s sw k x on running switch segment due
  have passed : s.segOutcome sw k x = s := if_pos (by simp [off])
  rw [passed, State.segNext_eq_segTurn _ (by omega)] at e
  exact ⟨_, e, switch, congrArg (· + 1) segment, rfl, congrArg (fun i => s.regOn (segReg i)) (s.turnSwitch_eq sw switch), rfl,
    .latchChange ((s.segTurn_frame _ _).mono (by simp) (by simp)) (by simp)⟩

/-- R167: too little current, a skipping buck or a protection that acts postpones a segment's measurement. -/
theorem execSegmentMeasurement_postpones (early : k.val < 8) (turnOn : s.seg.turnOn = true) (used : s.segGone sw k = false)
    (unfit : x.skipped = true ∨ x.acted = true ∨ x.load < (if regKind (segReg sw) = .hb then 300 else 200))
    (fresh : ∀ p ∈ s.seg.postponed, ¬(p.s = sw.val ∧ p.k = k.val)) :
    Answers (.segmentMeasurement x) s fun t => t.get IR_SWEEP IR_SWEEP_POSTPONED = 1 ∧ t.seg.k = k.val + 1 ∧
      t.seg.postponed = s.seg.postponed ++ [⟨sw.val, k.val, s.opt.ms, s.clk.frames, false⟩] ∧
      Frame [IR_SWEEP] [.snap, .seg] s t := by
  have e := execSegmentMeasurement_eq s sw k x on running switch segment due
  have turns : ¬ (!s.seg.turnOn || s.segGone sw k) = true := by simp [turnOn, used]
  have unmade : segUnfit (segReg sw) x = true := by simpa [segUnfit, or_assoc] using unfit
  have outcome : s.segOutcome sw k x = s.segPostpone sw k := (if_neg turns).trans (if_pos unmade)
  rw [outcome, State.segPostpone_eq s sw k fresh, State.segNext_eq_segTurn _ (by simp only; omega)] at e
  have told : Frame [IR_SWEEP] [.snap, .seg] s (s.putB IR_SWEEP IR_SWEEP_POSTPONED true) := .putB _ _ .refl (by simp)
  exact ⟨_, e, (s.get_putB IR_SWEEP IR_SWEEP_POSTPONED true (by decide) (by decide) :), congrArg (· + 1) segment, rfl,
    .latchChange (.set_seg (told.set_seg (by simp)) (by simp)) (by simp)⟩

/-- R168: a segment that conducts while it is off stops its buck. -/
theorem execSegmentMeasurement_stops (early : k.val < 8) (turnOn : s.seg.turnOn = true) (used : s.segGone sw k = false)
    (fit : segUnfit (segReg sw) x = false) (stuck : 20 < x.offCur) :
    Answers (.segmentMeasurement x) s fun t => t.get (SEG_STAT sw) SEG_STAT_STUCK = 1 ∧
      t.regul[segReg sw].run = .off ∧ t.get (REG_CTL (segReg sw)) REG_CTL_EN = 0 ∧ t.seg.k = k.val + 1 ∧
      t.get (SEG_DRIFT sw k) SEG_DRIFT_RON = x.ron.toNat ∧ t.raisedCode (regEsn (segReg sw)) 0x0A ∧
      EventFrame [SEG_STAT sw, SEG_DRIFT sw k, REG_STAT (segReg sw), REG_CTL (segReg sw)]
        [.snap, .seg, .regul, .freeCtr] s t := by
  have e := execSegmentMeasurement_eq s sw k x on running switch segment due
  have turns : ¬ (!s.seg.turnOn || s.segGone sw k) = true := by simp [turnOn, used]
  have outcome : s.segOutcome sw k x = s.segJudge sw k x := (if_neg turns).trans (if_neg (by simp [fit]))
  have place : ((s.segMeasured sw k x).segStuck sw k).seg.k = k.val := by
    rw [State.segStuck_seg, State.segMeasured_seg, ← segment]
  rw [outcome, State.segJudge_stuck s sw k x stuck, State.segNext_eq_segTurn _ (by omega), place] at e
  have ron := (State.segStuck_ron (s.segMeasured sw k x) sw k).trans (s.segMeasured_ron sw k x)
  have measured : EventFrame [SEG_STAT sw, SEG_DRIFT sw k, REG_STAT (segReg sw), REG_CTL (segReg sw)]
      [.snap, .seg, .regul, .freeCtr] s (s.segMeasured sw k x) :=
    .of_frame ((s.segMeasured_frame sw k x).mono (by simp) (by simp))
  have stopped := measured.trans ((State.segStuck_frame _ sw k).mono (by simp) (by simp))
  have flag := State.segStuck_stuck (s.segMeasured sw k x) sw k
  have run := State.segStuck_run (s.segMeasured sw k x) sw k
  have en := State.segStuck_en (s.segMeasured sw k x) sw k
  have raised := State.segStuck_raised (s.segMeasured sw k x) sw k
  generalize (s.segMeasured sw k x).segStuck sw k = u at e ron stopped flag run en raised
  exact ⟨_, e, flag, run, en, rfl, ron, KeepsRaised.of_flt rfl _ _ raised,
    .latchChange (.set_seg stopped (by simp)) (by simp)⟩

end

/-- R167: after the last segment the sweep is complete and counted. -/
theorem execSegmentMeasurement_completes (running : s.get IR_SWEEP IR_SWEEP_RUNNING = 1) (last : s.seg.s = 11)
    (eighth : s.seg.k = 8) (due : s.seg.turnAt + 50 ≤ s.clk.frames) (off : s.seg.turnOn = false) :
    Answers (.segmentMeasurement x) s fun t => t.seg.k = 0 ∧ t.seg.s = 0 ∧ t.get IR_SWEEP IR_SWEEP_RUNNING = 0 ∧
      t.get IR_SWEEP IR_SWEEP_COUNT = (s.get IR_SWEEP IR_SWEEP_COUNT + 1) % 2 ^ IR_SWEEP_COUNT.w ∧
      Frame [IR_SWEEP] [.snap, .seg] s t := by
  have e := execSegmentMeasurement_eq s 11 8 x on running last eighth due
  have passed : s.segOutcome 11 8 x = s := if_pos (by simp [off])
  rw [passed, State.segNext, if_neg (by omega), if_neg (by omega)] at e
  refine ⟨_, e, rfl, rfl, ?_, State.get_put _ _ _ _ (by decide),
    .latchChange (.put _ _ (.putB _ _ (.set_seg .refl (by decide)) (by simp)) (by simp)) (by simp)⟩
  rw [State.latchChange_get, State.get_put_field _ _ _ _ _ (by decide), State.get_putB _ _ _ _ (by decide) (by decide)]
  rfl

/-! ### Postponed measurements (R167) -/

/-- R167, R168: a postponed measurement that is made at last. -/
theorem execSegmentRetry_measures
    (due : ∃ p ∈ s.seg.postponed, p.s = sw.val ∧ p.k = k.val ∧ p.tried + 50000 ≤ s.clk.frames)
    (drives : s.regOn (segReg sw) = true) (fit : segUnfit (segReg sw) x = false) (off : x.offCur ≤ 20)
    (share : 5 ≤ x.share) (sound : s.driftOver sw k x.ron.toNat 30 ≤ 0)
    (unworn : s.driftOver sw k x.ron.toNat (s.get IR_CFG IR_CFG_WEAR_WARN) < 0) :
    Answers (.segmentRetry sw k x) s fun t =>
      t.seg = { s.seg with postponed := s.seg.postponed.filter (fun p => !(p.s == sw.val && p.k == k.val)) } ∧
      t.get (SEG_DRIFT sw k) SEG_DRIFT_RON = x.ron.toNat ∧ Frame [SEG_DRIFT sw k] [.snap, .seg, .freeCtr] s t := by
  have g : (s.engines && s.seg.postponed.any (fun p =>
      p.s == sw.val && p.k == k.val && decide (p.tried + 50000 ≤ s.clk.frames))) = true := by
    simpa [on, and_assoc] using due
  have made : ¬ (!s.regOn (segReg sw) || segUnfit (segReg sw) x) = true := by simp [drives, fit]
  have e : exec (.segmentRetry sw k x) s = done (s.latchChange (s.segJudge sw k x)) :=
    congrArg done ((if_pos g).trans (congrArg s.latchChange (if_neg made)))
  rw [State.segJudge_healthy s sw k x off share sound unworn] at e
  exact ⟨_, e, s.segMeasured_seg sw k x, s.segMeasured_ron sw k x,
    .latchChange ((s.segMeasured_frame sw k x).mono (by simp) (by simp)) (by simp)⟩

/-- R167: a measurement postponed for two hours is reported. -/
theorem execSegmentPostponed2h_reports (since tried : Nat)
    (only : s.seg.postponed = [⟨sw.val, k.val, since, tried, false⟩]) (hours : since + 7200000 ≤ s.opt.ms) :
    Answers (.segmentPostponed2h sw k) s fun t => t.seg.postponed = [⟨sw.val, k.val, since, tried, true⟩] ∧
      t.raisedCode 0x47 0 ∧ EventFrame [] [.seg] s t := by
  have g : (s.engines && s.seg.postponed.any (fun p =>
      p.s == sw.val && p.k == k.val && !p.said && decide (p.since + 7200000 ≤ s.opt.ms))) = true := by
    simp [on, only, hours]
  refine ⟨_, congrArg done (if_pos g), ?_, State.raise_raised _ _ _ _ _ (by decide),
    .raise (.set_seg .refl (by decide)) (by decide)⟩
  simp [only, hours]

/-! ### A decided fence (R169) -/

/-- R169: a decided fence takes effect at the switch's off boundary. -/
theorem execSegmentFenceApplied_spares (rest : List (Nat × Nat)) (waits : s.seg.waiting = (sw.val, k.val) :: rest)
    (inUse : s.get (SEG_STAT sw) SEG_STAT_IN_USE = 255) (unfenced : s.get (SEG_STAT sw) SEG_STAT_FENCED = 0)
    (first : k.val < 8) (spare : (sw.val, 8) ∉ s.seg.waiting) :
    Answers (.segmentFenceApplied sw) s fun t => t.get (SEG_STAT sw) SEG_STAT_FENCED = 2 ^ k.val ∧
      t.get (SEG_STAT sw) SEG_STAT_IN_USE = 511 - 2 ^ k.val ∧ (sw.val, k.val) ∉ t.seg.waiting ∧
      Frame [SEG_STAT sw] [.seg] s t := by
  have found : s.seg.waiting.find? (fun p => p.1 == sw.val) = some (sw.val, k.val) := by simp [waits]
  have e : exec (.segmentFenceApplied sw) s = done (s.applyFence sw ⟨k.val % 9, by omega⟩) := by
    change execSegmentFenceApplied sw s = _
    rw [execSegmentFenceApplied, found]
    exact congrArg done (if_pos on)
  have segment : (⟨k.val % 9, by omega⟩ : Fin 9) = k := Fin.ext (Nat.mod_eq_of_lt k.isLt)
  rw [segment, State.applyFence_spare s sw k inUse unfenced first spare] at e
  have bits : 2 ^ k.val < 2 ^ 9 := Nat.pow_lt_pow_right (by decide) k.isLt
  refine ⟨_, e, ?_, ?_, by simp, .put _ _ (.put _ _ (.set_seg .refl (by decide)) (by simp)) (by simp)⟩
  · rw [State.get_put _ _ _ _ (by decide)]
    exact Nat.mod_eq_of_lt bits
  · rw [State.get_put_field _ _ _ _ _ (by decide), State.get_put _ _ _ _ (by decide)]
    exact Nat.mod_eq_of_lt ((Nat.sub_le 511 _).trans_lt (by decide))

end

/-- Settles O28: a segment's turn comes to `State.segOutcome` and the next turn, a judged measurement that is stuck or
healthy to what `State.segMeasured` keeps of it, and a fence of a sound switch to its spare. -/
theorem segmentSweep : Obligations.SegmentSweep := fun s sw k on =>
  ⟨execSweepStart_starts s on,
    fun x running switch segment early due off =>
      execSegmentMeasurement_passes s sw k x on running switch segment due early off,
    fun x => execSegmentMeasurement_completes s x on,
    fun x running switch segment early due turnOn used unfit fresh =>
      execSegmentMeasurement_postpones s sw k x on running switch segment due early turnOn used unfit fresh,
    fun x running switch segment early due turnOn used fit stuck =>
      execSegmentMeasurement_stops s sw k x on running switch segment due early turnOn used fit stuck,
    fun x => execSegmentRetry_measures s sw k x on, execSegmentPostponed2h_reports s sw k on,
    execSegmentFenceApplied_spares s sw k on⟩

end Sys2Proof.Machine
end

section
/-! SUPPORT. The shared operations of the feeds and the power path (R175 to R183): what a hand-over, a gate that goes off,
a disqualification and a quarantine leave of FEED_STAT and PATH_STAT. -/
namespace Sys2Proof.Machine
open Sys2Proof

/-! ### Registers of the feeds -/

theorem offEvents_feedStat (i : Nat) : offEvents (FEED_STAT i) := offEvents_above (by unfold FEED_STAT; omega)
theorem feedStat_ne_pathStat (i : Nat) : FEED_STAT i ≠ PATH_STAT := by unfold FEED_STAT PATH_STAT; omega
theorem feedStat_ne_feedCfg (i k : Nat) : FEED_STAT i ≠ FEED_CFG k := by unfold FEED_STAT FEED_CFG; omega
theorem feedCfg_ne_pathStat (i : Nat) : FEED_CFG i ≠ PATH_STAT := by unfold FEED_CFG PATH_STAT; omega
theorem feedStat_ne_downStat (i : Fin 2) : FEED_STAT i ≠ SEQ_THR_STAT thDown := by
  revert i; decide

/-- The engines run only while MAIN is not stopped. -/
theorem State.engines_unstopped {s : State} (on : s.engines = true) : s.clk.stopped = false := by
  have run := State.engines_inRun on
  simp only [State.inRun, Bool.and_eq_true, Bool.not_eq_true'] at run
  exact run.1.2

theorem State.engines_power {s : State} (on : s.engines = true) : (s.power == .run) = true := by
  have run := State.engines_inRun on
  simp only [State.inRun, Bool.and_eq_true] at run
  exact run.1.1

/-! ### The hand-over (R180) -/

section
variable {s t u : State} (x : Fin 2)

theorem State.anyQualified_eq_of_get
    (h : ∀ i : Nat, t.get (FEED_STAT i) FEED_STAT_STATE = s.get (FEED_STAT i) FEED_STAT_STATE) :
    t.anyQualified = s.anyQualified := by
  simp only [State.anyQualified, State.feedIsQual, State.feedState, h]

theorem State.handOver_frame : Frame [PATH_STAT] [.chg, .est] s s.handOver := by
  unfold State.handOver
  exact .ite (.updEst (.updChg (.putB _ _ (.put _ _ .refl (by decide)) (by decide)) (by decide)) (by decide)) .refl

/-- A hand-over leaves what the feeds show. -/
theorem State.handOver_get_feedStat (i : Nat) (f : Fld) : s.handOver.get (FEED_STAT i) f = s.get (FEED_STAT i) f :=
  State.handOver_frame.get _ _ (by simpa using feedStat_ne_pathStat i)

theorem State.handOver_handsOver : s.HandsOver s.handOver := by
  have feeds : s.handOver.anyQualified = s.anyQualified := State.anyQualified_eq_of_get fun i => s.handOver_get_feedStat i _
  unfold State.HandsOver
  rw [feeds]
  by_cases h : (s.path = pathOnFeed ∨ s.path = pathReturning) ∧ s.anyQualified = false
  · rw [if_pos h, State.handOver, if_pos (by simpa using h)]
    exact (State.get_putB_field _ _ _ _ _ (by decide)).trans (State.get_put _ _ _ _ (by decide))
  · rw [if_neg h]
    exact congrArg State.path (if_neg (by simpa using h))

/-- What came before, with the path as it was, changes nothing of the hand-over. -/
theorem State.HandsOver.of_path (h : u.HandsOver t) (e : u.path = s.path) : s.HandsOver t := by
  unfold State.HandsOver at h ⊢
  rwa [← e]

end

/-! ### A gate that goes off (R177) -/

section
variable (s : State) (x : Fin 2)

theorem State.feedOff_frame (st : Nat) : Frame [FEED_STAT x] [] s (s.feedOff x st) :=
  .putB _ _ (.put _ _ .refl (by simp)) (by simp)
theorem State.feedOff_state (st : Nat) : (s.feedOff x st).feedState x = st % 4 :=
  (State.get_putB_field _ _ _ _ _ (by decide)).trans (State.get_put _ _ _ _ (by decide))
theorem State.feedOff_gate (st : Nat) : (s.feedOff x st).get (FEED_STAT x) FEED_STAT_GATE_ON = 0 :=
  State.get_putB _ _ _ _ (by decide) (by decide)

/-! ### A disqualification (R177, R178) -/

/-- The state that a disqualification leads to. -/
def State.disqState : Nat := if s.quarantines x then feedQuarantined else feedAbsent

/-- A disqualification's marks on the feed: counted, the gate off, its flag set. -/
def State.feedDropped (flag : Fld) : State :=
  (((s.updFeed x (fun f => { f with disqs := s.disqTimes x })).feedOff x (s.disqState x)).put (FEED_STAT x) FEED_STAT_DISQ
    (min 15 (s.disqTimes x).length)).putB (FEED_STAT x) flag true

/-- The quarantine that the last disqualification of the window begins. -/
def State.quarantined : State :=
  (((s.updFeed x (fun f => { f with quarEnd := s.opt.ms + secMs (s.latchedF PATH_CFG PATH_CFG_QUAR_T) })).putB (FEED_STAT x)
    FEED_STAT_QUAR true).put (FEED_STAT x) FEED_STAT_QUAR_LEFT (secMs (s.latchedF PATH_CFG PATH_CFG_QUAR_T) / 1000)).raise
    (0x48 + x) 5

/-- A disqualification but for the hand-over that it may begin. -/
def State.disqualified (flag : Fld) (code : Nat) : State :=
  if s.quarantines x then ((s.feedDropped x flag).raise (0x48 + x) code).quarantined x
  else (s.feedDropped x flag).raise (0x48 + x) code

theorem State.disqualify_eq (flag : Fld) (code : Nat) : s.disqualify x flag code = (s.disqualified x flag code).handOver := rfl

theorem State.feedDropped_frame (flag : Fld) : Frame [FEED_STAT x] [.feeds] s (s.feedDropped x flag) := by
  have off := State.feedOff_frame (s.updFeed x (fun f => { f with disqs := s.disqTimes x })) x (s.disqState x)
  exact .putB _ _ (.put _ _ ((Frame.updFeed .refl (by decide)).trans (off.mono (fun _ => id) (by simp))) (by simp)) (by simp)
theorem State.quarantined_frame : EventFrame [FEED_STAT x] [.feeds] s (s.quarantined x) :=
  .raise (.put _ _ (.putB _ _ (.updFeed .refl (by decide)) (by simp)) (by simp)) (by omega)
theorem State.disqualified_frame (flag : Fld) (code : Nat) :
    EventFrame [FEED_STAT x] [.feeds] s (s.disqualified x flag code) := by
  have dropped : EventFrame [FEED_STAT x] [.feeds] s ((s.feedDropped x flag).raise (0x48 + x) code) :=
    .raise (.of_frame (s.feedDropped_frame x flag)) (by omega)
  exact .ite (dropped.trans (State.quarantined_frame _ x)) dropped

/-- A raise leaves FEED_STAT as it is. -/
theorem State.get_raise_feedStat (e c h : Nat) (d : List Byte) (f : Fld) (he : e < 256) :
    (s.raise e c h d).get (FEED_STAT x) f = s.get (FEED_STAT x) f :=
  State.raise_get _ _ _ _ _ _ _ he (offEvents_feedStat x)

/-- A quarantine leaves the fields below its own. -/
theorem State.quarantined_get (f : Fld) (h : f.lo + f.w ≤ 11) :
    (s.quarantined x).get (FEED_STAT x) f = s.get (FEED_STAT x) f := by
  have own : FEED_STAT_QUAR.lo = 11 ∧ FEED_STAT_QUAR_LEFT.lo = 16 := by decide
  unfold State.quarantined
  rw [State.get_raise_feedStat _ _ _ _ _ _ _ (by omega), State.get_put_field _ _ _ _ _ (by omega),
    State.get_putB_field _ _ _ _ _ (by omega), State.updFeed_get]

theorem State.disqualify_get (flag : Fld) (code : Nat) (f : Fld) (h : f.lo + f.w ≤ 11) :
    (s.disqualify x flag code).get (FEED_STAT x) f = (s.feedDropped x flag).get (FEED_STAT x) f := by
  have raised : ((s.feedDropped x flag).raise (0x48 + x) code).get (FEED_STAT x) f =
      (s.feedDropped x flag).get (FEED_STAT x) f := State.get_raise_feedStat _ _ _ _ _ _ _ (by omega)
  rw [State.disqualify_eq, State.handOver_get_feedStat, State.disqualified]
  split
  · rw [State.quarantined_get _ x f h, raised]
  · exact raised

theorem State.disqualify_handsOver (flag : Fld) (code : Nat) : s.HandsOver (s.disqualify x flag code) :=
  State.handOver_handsOver.of_path
    ((s.disqualified_frame x flag code).get _ _ (by simpa using (feedStat_ne_pathStat x).symm) (offEvents_of_page (by decide)))

theorem State.disqualify_frame (flag : Fld) (code : Nat) :
    EventFrame [FEED_STAT x, PATH_STAT] [.feeds, .chg, .est] s (s.disqualify x flag code) :=
  ((s.disqualified_frame x flag code).mono (by simp) (by simp)).trans
    (.of_frame (State.handOver_frame.mono (by simp) (by simp)))

/-- What a disqualification shows: its flag, one of FEED_STAT's bits 8 to 10, the gate off, and the state it leads to. -/
theorem State.disqualify_shows (flag : Fld) (code : Nat) (lo : 8 ≤ flag.lo) (hi : flag.lo ≤ 10) (w : flag.w = 1) :
    (s.disqualify x flag code).get (FEED_STAT x) flag = 1 ∧
    (s.disqualify x flag code).get (FEED_STAT x) FEED_STAT_GATE_ON = 0 ∧
    (s.disqualify x flag code).feedState x = s.disqState x := by
  have fields : FEED_STAT_STATE.lo + FEED_STAT_STATE.w = 2 ∧ FEED_STAT_GATE_ON.lo + FEED_STAT_GATE_ON.w = 3 ∧
      FEED_STAT_DISQ.lo = 4 := by decide
  refine ⟨?_, ?_, ?_⟩
  · rw [s.disqualify_get x flag code _ (by omega)]
    exact State.get_putB _ _ _ _ (by omega) w
  · rw [s.disqualify_get x flag code _ (by omega), State.feedDropped, State.get_putB_field _ _ _ _ _ (by omega),
      State.get_put_field _ _ _ _ _ (by omega), State.feedOff_gate]
  · refine (s.disqualify_get x flag code _ (by omega)).trans ?_
    rw [State.feedDropped, State.get_putB_field _ _ _ _ _ (by omega), State.get_put_field _ _ _ _ _ (by omega)]
    refine (State.feedOff_state _ x _).trans (Nat.mod_eq_of_lt ?_)
    unfold State.disqState
    split <;> decide

end

end Sys2Proof.Machine
end

section
/-! PROOF. The feeds (R175 to R180): one lemma per transition, and the statement. -/
namespace Sys2Proof.Machine
open Sys2Proof

section
variable (s : State) (x : Fin 2)

/-! ### Window and qualification (R176, R177) -/

/-- R177: an enabled feed in its window begins to qualify. -/
theorem execFeedWindowEntry_qualifies (on : s.engines = true) (absent : s.feedState x = feedAbsent)
    (en : s.flag (FEED_CFG x) FEED_CFG_EN = true) (inside : s.feedInWindow x = true) :
    Answers (.feedWindowEntry x) s fun t => t.feedState x = feedQualifying ∧ t.feeds[x].qualAt = s.clk.frames ∧
      Frame [FEED_STAT x] [.snap, .feeds] s t := by
  have g : (s.engines && s.feedState x == feedAbsent && s.flag (FEED_CFG x) FEED_CFG_EN && s.feedInWindow x) = true := by
    simp [on, absent, en, inside]
  exact ⟨_, congrArg done (if_pos g), State.get_put _ _ _ _ (by decide), by simp,
    .latchChange (.updFeed (.put _ _ .refl (by simp)) (by decide)) (by decide)⟩

/-- The feed is qualified, its gate on. -/
def State.feedTaken : State :=
  (((s.put (FEED_STAT x) FEED_STAT_STATE feedQualified).putB (FEED_STAT x) FEED_STAT_GATE_ON true).updFeed x
    (fun f => { f with lagRun := 0 })).raise (0x48 + x) 1

/-- A qualified feed lets the path return from the battery (R180). -/
def State.pathReturns : State := if s.path = pathOnBattery then s.put PATH_STAT PATH_STAT_PATH pathReturning else s

theorem State.feedTaken_frame : EventFrame [FEED_STAT x] [.feeds] s (s.feedTaken x) :=
  .raise (.updFeed (.putB _ _ (.put _ _ .refl (by simp)) (by simp)) (by decide)) (by omega)
theorem State.feedTaken_state : (s.feedTaken x).feedState x = feedQualified :=
  (State.get_raise_feedStat _ _ _ _ _ _ _ (by omega)).trans
    ((State.get_putB_field _ _ _ _ _ (by decide)).trans (State.get_put _ _ _ _ (by decide)))
theorem State.feedTaken_gate : (s.feedTaken x).get (FEED_STAT x) FEED_STAT_GATE_ON = 1 :=
  (State.get_raise_feedStat _ _ _ _ _ _ _ (by omega)).trans (State.get_putB _ _ _ _ (by decide) (by decide))

theorem State.pathReturns_frame : Frame [PATH_STAT] [] s s.pathReturns := .ite (.put _ _ .refl (by simp)) .refl
theorem State.pathReturns_path : s.pathReturns.path = if s.path = pathOnBattery then pathReturning else s.path := by
  unfold State.pathReturns
  split
  · exact State.get_put _ _ _ _ (by decide)
  · rfl

theorem State.downAbort_frame : EventFrame [SEQ_THR_STAT thDown] [.seq] s s.downAbort := by
  unfold State.downAbort State.thRaise
  exact .ite (.updSeq (.updThr (.wr _ (.raise .refl (by decide)) (by simp)) (by decide)) (by decide)) .refl

/-- R177, R180, R260: a feed that has stood in its window is qualified. -/
theorem execFeedQualified_qualifies (on : s.engines = true) (qualifying : s.feedState x = feedQualifying)
    (stood : s.feeds[x].qualAt + 50 * max 1 (s.latchedF PATH_CFG PATH_CFG_FEED_QUAL) ≤ s.clk.frames) :
    Answers (.feedQualified x) s fun t => t.feedState x = feedQualified ∧ t.get (FEED_STAT x) FEED_STAT_GATE_ON = 1 ∧
      t.path = (if s.path = pathOnBattery then pathReturning else s.path) ∧
      EventFrame [FEED_STAT x, PATH_STAT, SEQ_THR_STAT thDown] [.snap, .feeds, .seq] s t := by
  have g : (s.engines && s.feedState x == feedQualifying &&
      decide (s.feeds[x].qualAt + 50 * max 1 (s.latchedF PATH_CFG PATH_CFG_FEED_QUAL) ≤ s.clk.frames)) = true := by
    simp [-Fin.getElem_fin, on, qualifying, stood]
  have e : exec (.feedQualified x) s = done (s.latchChange (s.feedTaken x).pathReturns.downAbort) :=
    congrArg done (if_pos g)
  have taken := s.feedTaken_frame x
  have returns := (s.feedTaken x).pathReturns_frame
  have aborts := (s.feedTaken x).pathReturns.downAbort_frame
  have feed (f : Fld) : (s.feedTaken x).pathReturns.downAbort.get (FEED_STAT x) f = (s.feedTaken x).get (FEED_STAT x) f :=
    (aborts.get _ _ (by simpa using feedStat_ne_downStat x) (offEvents_feedStat x)).trans
      (returns.get _ _ (by simpa using feedStat_ne_pathStat x))
  have path : (s.feedTaken x).path = s.path :=
    taken.get _ _ (by simpa using (feedStat_ne_pathStat x).symm) (offEvents_of_page (by decide))
  refine ⟨_, e, (feed _).trans (s.feedTaken_state x), (feed _).trans (s.feedTaken_gate x), ?_,
    .latchChange ((taken.mono (by simp) (by simp)).trans ((EventFrame.of_frame (returns.mono (by simp) (by simp))).trans
      (aborts.mono (by simp) (by simp)))) (by simp)⟩
  refine (aborts.get _ _ (by decide) (offEvents_of_page (by decide))).trans ?_
  exact ((s.feedTaken x).pathReturns_path).trans (by rw [path])

/-! ### Disqualification and quarantine (R177 to R179) -/

/-- While MAIN runs, a feed that leaves its window is disqualified at once (R197). -/
theorem State.feedLeaves_eq (on : s.engines = true) (flag : Fld) (code : Nat) :
    s.feedLeaves x flag code = s.disqualify x flag code := if_neg (by simp [State.engines_unstopped on])

/-- What a command answers that comes to a disqualification under one of the flags of FEED_STAT's bits 8 to 10. -/
theorem answers_of_disqualify {c : Instr} {flag : Fld} {code : Nat} (e : exec c s = done (s.disqualify x flag code))
    (lo : 8 ≤ flag.lo) (hi : flag.lo ≤ 10) (w : flag.w = 1) :
    Answers c s fun t => t.get (FEED_STAT x) flag = 1 ∧ t.get (FEED_STAT x) FEED_STAT_GATE_ON = 0 ∧
      t.feedState x = (if s.quarantines x then feedQuarantined else feedAbsent) ∧ s.HandsOver t ∧
      EventFrame [FEED_STAT x, PATH_STAT] [.feeds, .chg, .est] s t := by
  obtain ⟨shown, gate, state⟩ := s.disqualify_shows x flag code lo hi w
  exact ⟨_, e, shown, gate, state, s.disqualify_handsOver x _ _, s.disqualify_frame x _ _⟩

/-- R177: a feed that leaves its window is disqualified. -/
theorem feedLeaves_disqualifies (on : s.engines = true) (inside : s.feedIn x = true) (v : BitVec 16) (d : BitVec 8) :
    ∀ c ∈ [(Instr.feedUvDisqualification x v d, FEED_STAT_UV), (Instr.feedOvCutoff x v, FEED_STAT_OV)],
    (c.2 = FEED_STAT_UV → v.toNat < s.feedUv x ∧ s.deglitch x ≤ d.toNat) → (c.2 = FEED_STAT_OV → s.feedOv x < v.toNat) →
    Answers c.1 s fun t => t.get (FEED_STAT x) c.2 = 1 ∧ t.get (FEED_STAT x) FEED_STAT_GATE_ON = 0 ∧
      t.feedState x = (if s.quarantines x then feedQuarantined else feedAbsent) ∧ s.HandsOver t ∧
      EventFrame [FEED_STAT x, PATH_STAT] [.feeds, .chg, .est] s t := by
  have analog := State.engines_analog on
  simp only [List.forall_mem_cons, List.not_mem_nil, IsEmpty.forall_iff, implies_true, and_true, forall_const]
  constructor
  · intro low _
    have e : exec (.feedUvDisqualification x v d) s = done (s.disqualify x FEED_STAT_UV 2) :=
      congrArg done ((if_pos (by simp [analog, inside, low])).trans (s.feedLeaves_eq x on _ _))
    exact answers_of_disqualify s x e (by decide) (by decide) (by decide)
  · intro _ high
    have e : exec (.feedOvCutoff x v) s = done (s.disqualify x FEED_STAT_OV 3) :=
      congrArg done ((if_pos (by simp [analog, inside, high])).trans (s.feedLeaves_eq x on _ _))
    exact answers_of_disqualify s x e (by decide) (by decide) (by decide)

/-- R179: a feed to which FEEDBUS does not rise is disqualified. -/
theorem execInrushFailed_disqualifies (on : s.engines = true) (qualified : s.feedIsQual x = true)
    (lags : 5000 ≤ s.feeds[x].lagRun) :
    Answers (.inrushFailed x) s fun t => t.get (FEED_STAT x) FEED_STAT_INRUSH = 1 ∧
      t.get (FEED_STAT x) FEED_STAT_GATE_ON = 0 ∧
      t.feedState x = (if s.quarantines x then feedQuarantined else feedAbsent) ∧ s.HandsOver t ∧
      EventFrame [FEED_STAT x, PATH_STAT] [.feeds, .chg, .est] s t := by
  have g : (s.engines && s.feedIsQual x && decide (5000 ≤ s.feeds[x].lagRun)) = true := by
    simp [-Fin.getElem_fin, on, qualified, lags]
  exact answers_of_disqualify s x (code := 4) (congrArg done (if_pos g)) (by decide) (by decide) (by decide)

/-- The feed at the end of its quarantine: ABSENT, with no disqualification counted. -/
def State.feedFreed : State :=
  ((((s.feedOff x feedAbsent).put (FEED_STAT x) FEED_STAT_DISQ 0).put (FEED_STAT x) FEED_STAT_QUAR_LEFT 0).updFeed x
    (fun f => { f with disqs := [] })).raise (0x48 + x) 6

theorem State.feedFreed_frame : EventFrame [FEED_STAT x] [.feeds] s (s.feedFreed x) := by
  have off : Frame [FEED_STAT x] [.feeds] s (s.feedOff x feedAbsent) := (s.feedOff_frame x _).mono (fun _ => id) (by simp)
  exact .raise (.updFeed (.put _ _ (.put _ _ (.of_frame off) (by simp)) (by simp)) (by decide)) (by omega)
/-- The fields below the count are as when the gate went off. -/
theorem State.feedFreed_get (f : Fld) (below : f.lo + f.w ≤ 4) :
    (s.feedFreed x).get (FEED_STAT x) f = (s.feedOff x feedAbsent).get (FEED_STAT x) f := by
  have own : FEED_STAT_DISQ.lo = 4 ∧ FEED_STAT_QUAR_LEFT.lo = 16 := by decide
  rw [State.feedFreed, State.get_raise_feedStat _ _ _ _ _ _ _ (by omega), State.updFeed_get,
    State.get_put_field _ _ _ _ _ (by omega), State.get_put_field _ _ _ _ _ (by omega)]

/-- R177: a quarantine ends. -/
theorem execQuarantineEnd_ends (on : s.engines = true) (quarantined : s.feedState x = feedQuarantined)
    (ended : s.feeds[x].quarEnd ≤ s.opt.ms) :
    Answers (.quarantineEnd x) s fun t => t.feedState x = feedAbsent ∧ t.get (FEED_STAT x) FEED_STAT_GATE_ON = 0 ∧
      t.get (FEED_STAT x) FEED_STAT_DISQ = 0 ∧ t.feeds[x].disqs = [] ∧ EventFrame [FEED_STAT x] [.feeds] s t := by
  have g : (s.engines && s.feedState x == feedQuarantined && decide (s.feeds[x].quarEnd ≤ s.opt.ms)) = true := by
    simp [-Fin.getElem_fin, on, quarantined, ended]
  refine ⟨_, congrArg done (if_pos g), (s.feedFreed_get x _ (by decide)).trans (s.feedOff_state x _),
    (s.feedFreed_get x _ (by decide)).trans (s.feedOff_gate x _), ?_, by simp, s.feedFreed_frame x⟩
  refine (State.get_raise_feedStat _ _ _ _ _ _ _ (by omega)).trans ?_
  rw [State.updFeed_get, State.get_put_field _ _ _ _ _ (by decide)]
  exact State.get_put _ _ _ _ (by decide)

/-! ### Disabling and reverse blocking (R175, R177) -/

/-- R177: EN of a feed is written 0. -/
theorem execFeedDisable_disables (on : s.engines = true) :
    Answers (.feedDisable x) s fun t => t.get (FEED_CFG x) FEED_CFG_EN = 0 ∧ t.feedState x = feedAbsent ∧
      t.get (FEED_STAT x) FEED_STAT_GATE_ON = 0 ∧ s.HandsOver t ∧
      Frame [FEED_CFG x, FEED_STAT x, PATH_STAT] [.chg, .est] s t := by
  have written : Frame [FEED_CFG x] [] s (s.putB (FEED_CFG x) FEED_CFG_EN false) := .putB _ _ .refl (by simp)
  have off := (s.putB (FEED_CFG x) FEED_CFG_EN false).feedOff_frame x feedAbsent
  have state := (s.putB (FEED_CFG x) FEED_CFG_EN false).feedOff_state x feedAbsent
  have gate := (s.putB (FEED_CFG x) FEED_CFG_EN false).feedOff_gate x feedAbsent
  have en : (s.putB (FEED_CFG x) FEED_CFG_EN false).get (FEED_CFG x) FEED_CFG_EN = 0 :=
    State.get_putB _ _ _ _ (by decide) (by decide)
  have cleared := off.put (a := FEED_STAT x) FEED_STAT_QUAR_LEFT 0 (by simp)
  refine ⟨_, congrArg done (if_pos (State.engines_inRun on)), ?_, ?_, ?_, State.handOver_handsOver.of_path ?_,
    (written.mono (by simp) (by simp)).trans ((cleared.mono (by simp) (by simp)).trans
      (State.handOver_frame.mono (by simp) (by simp)))⟩
  · exact ((State.handOver_frame.get _ _ (by simpa using feedCfg_ne_pathStat x)).trans
      (cleared.get _ _ (by simpa using (feedStat_ne_feedCfg x x).symm))).trans en
  · exact ((State.handOver_get_feedStat _ _).trans (State.get_put_field _ _ _ _ _ (by decide))).trans state
  · exact ((State.handOver_get_feedStat _ _).trans (State.get_put_field _ _ _ _ _ (by decide))).trans gate
  · exact (cleared.get _ _ (by simpa using (feedStat_ne_pathStat x).symm)).trans
      (written.get _ _ (by simpa using (feedCfg_ne_pathStat x).symm))

/-- R175: reverse blocking changes no feed's state. -/
theorem execReverseBlocking_marks (on : s.engines = true) (qualified : s.feedIsQual x = true) :
    Answers (.reverseBlocking x) s fun t =>
      t = { s with feeds := s.feeds.set x { s.feeds[x] with revSeen := true } } :=
  ⟨_, congrArg done (if_pos (by rw [State.engines_power on, qualified]; rfl)), rfl⟩

end

/-- Settles O9: each transition writes the feed's own state and gate, and a disqualification or a disabling ends in
`State.handOver`, which hands the path over when no feed stays qualified. -/
theorem feedStates : Obligations.FeedStates := fun s x on =>
  ⟨execFeedWindowEntry_qualifies s x on, execFeedQualified_qualifies s x on, feedLeaves_disqualifies s x on,
    execInrushFailed_disqualifies s x on, execQuarantineEnd_ends s x on, execFeedDisable_disables s x on,
    execReverseBlocking_marks s x on⟩

end Sys2Proof.Machine
end

section
/-! SUPPORT. The charger's shared operations (R182, R188 to R190): what a change of state, a taken or an ignored command and
the start of the timers leave of CHG_STAT and of the charger's own state. -/
namespace Sys2Proof.Machine
open Sys2Proof

/-! ### The evaluation of a phase (R189) -/

/-- The phase evaluation rests on the lowest cell and on what the last tick put in force. -/
theorem State.chgEval_congr {s t : State} (cell : t.rd GG_CELL_EXT = s.rd GG_CELL_EXT) (snap : t.snap = s.snap) :
    t.chgEval = s.chgEval := by
  have lowest : t.lowestCell = s.lowestCell := congrArg (getF · GG_CELL_EXT_MIN) cell
  have below (mv : Nat) : t.lowBelow mv = s.lowBelow mv := by rw [State.lowBelow, lowest, State.lowBelow]
  have latched (a : Nat) (f : Fld) : t.latchedF a f = s.latchedF a f := by
    simp only [State.latchedF, State.latched, snap]
  simp only [State.chgEval, below, latched]

/-- The phases that it may choose. -/
theorem State.chgEval_cases (s : State) : s.chgEval = chgTrickle ∨ s.chgEval = chgPre ∨ s.chgEval = chgCC := by
  unfold State.chgEval
  split
  · exact .inl rfl
  · split
    · exact .inr (.inl rfl)
    · exact .inr (.inr rfl)

theorem State.chgEval_lt (s : State) : s.chgEval < 16 := by
  obtain e | e | e := s.chgEval_cases <;> rw [e] <;> decide
theorem State.chgEval_ne_zch (s : State) : s.chgEval ≠ chgZch := by
  obtain e | e | e := s.chgEval_cases <;> rw [e] <;> decide

/-- A charging state is none of the others. -/
theorem ne_of_charging {st other : Nat} (on : charging st = true) (off : charging other = false) : other ≠ st := by
  rintro rfl
  exact absurd (on.symm.trans off) (by decide)

/-! ### A change of state (R188) -/

/-- The charger's runs and marks at the entry to a state. -/
def ChgSt.entered (c : ChgSt) : ChgSt := { c with exitRun := 0, shortRun := 0, shortSaid := false, zeroHold := false }

section
variable (s : State) (st : Nat)

/-- CHG_STAT as it shows another state, and the runs that begin with it. -/
def State.chgShown : State :=
  (s.wr CHG_STAT (setF (setF (s.rd CHG_STAT) CHG_STAT_STATE st) CHG_STAT_HOLD_REL 0)).updChg ChgSt.entered

/-- A change to another state up to its event. -/
def State.chgEntered : State :=
  let t := if st == chgZch then s.chgShown st else (s.chgShown st).putB CHG_STAT CHG_STAT_ZCH_OK false
  if st == chgIdle then t.put CHG_STAT CHG_STAT_LOOP 3 else t

theorem State.chgTo_eq_self (h : st = s.chgState) : s.chgTo st = s := if_pos (by simp [h])
theorem State.chgTo_eq_raise (h : st ≠ s.chgState) : s.chgTo st = (s.chgEntered st).raise 0x4E (st + 16 * s.chgState) :=
  if_neg (by simp [h])

/-- A raise leaves CHG_STAT as it is. -/
theorem State.get_raise_chgStat (e c h : Nat) (d : List Byte) (f : Fld) (he : e < 256) :
    (s.raise e c h d).get CHG_STAT f = s.get CHG_STAT f := State.get_raise_off _ _ _ _ _ _ _ he (by decide)

/-- Of CHG_STAT, an entry writes LOOP and ZCH_OK besides STATE and HOLD_REL. -/
theorem State.chgEntered_get (f : Fld) (h : f.lo + f.w ≤ 4 ∨ 6 ≤ f.lo ∧ f.lo + f.w ≤ 7 ∨ 8 ≤ f.lo) :
    (s.chgEntered st).get CHG_STAT f = (s.chgShown st).get CHG_STAT f := by
  have own : CHG_STAT_LOOP = ⟨4, 2⟩ ∧ CHG_STAT_ZCH_OK = ⟨7, 1⟩ := ⟨rfl, rfl⟩
  obtain ⟨loop, ok⟩ := own
  simp only [State.chgEntered, State.ite_get, loop, ok]
  rw [State.get_put_field _ _ _ _ _ (by simp only; omega), State.ite_get,
    State.get_putB_field _ _ _ _ _ (by simp only; omega), ite_self, ite_self]

theorem State.chgTo_state (h : st < 16) : (s.chgTo st).chgState = st := by
  by_cases same : st = s.chgState
  · rw [s.chgTo_eq_self st same, ← same]
  · rw [s.chgTo_eq_raise st same, State.chgState, State.get_raise_chgStat _ _ _ _ _ _ (by decide),
      State.chgEntered_get _ _ _ (by decide), State.chgShown, State.updChg_get, State.get_wr_same,
      getF_setF_ne _ _ _ _ (by decide), getF_setF _ _ _ (by decide)]
    exact Nat.mod_eq_of_lt h

/-- SUSP and the flags above HOLD_REL outlast a change of state. -/
theorem State.chgTo_get (f : Fld) (h : 6 ≤ f.lo ∧ f.lo + f.w ≤ 7 ∨ 9 ≤ f.lo) :
    (s.chgTo st).get CHG_STAT f = s.get CHG_STAT f := by
  by_cases same : st = s.chgState
  · rw [s.chgTo_eq_self st same]
  · have own : CHG_STAT_STATE.lo + CHG_STAT_STATE.w = 4 ∧ CHG_STAT_HOLD_REL.lo = 8 ∧ CHG_STAT_HOLD_REL.w = 1 := by decide
    rw [s.chgTo_eq_raise st same, State.get_raise_chgStat _ _ _ _ _ _ (by decide),
      State.chgEntered_get _ _ _ (by omega), State.chgShown, State.updChg_get, State.get_wr_same,
      getF_setF_ne _ _ _ _ (by omega), getF_setF_ne _ _ _ _ (by omega)]
    rfl

/-- A change to another state clears HOLD_REL. -/
theorem State.chgTo_holdRel (h : st ≠ s.chgState) : (s.chgTo st).get CHG_STAT CHG_STAT_HOLD_REL = 0 := by
  rw [s.chgTo_eq_raise st h, State.get_raise_chgStat _ _ _ _ _ _ (by decide), State.chgEntered_get _ _ _ (by decide),
    State.chgShown, State.updChg_get, State.get_wr_same, getF_setF _ _ _ (by decide)]
  exact Nat.zero_mod _

theorem State.chgTo_chg : (s.chgTo st).chg = if st = s.chgState then s.chg else s.chg.entered := by
  split
  · next same => rw [s.chgTo_eq_self st same]
  · next other =>
    rw [s.chgTo_eq_raise st other, State.raise_chg]
    simp only [State.chgEntered, State.ite_chg, State.put_chg, State.putB_chg, ite_self]
    rfl

@[simp] theorem State.chgTo_safeOn : (s.chgTo st).chg.safeOn = s.chg.safeOn := by rw [State.chgTo_chg]; split <;> rfl
@[simp] theorem State.chgTo_preOn : (s.chgTo st).chg.preOn = s.chg.preOn := by rw [State.chgTo_chg]; split <;> rfl
@[simp] theorem State.chgTo_safeMs : (s.chgTo st).chg.safeMs = s.chg.safeMs := by rw [State.chgTo_chg]; split <;> rfl
@[simp] theorem State.chgTo_preMs : (s.chgTo st).chg.preMs = s.chg.preMs := by rw [State.chgTo_chg]; split <;> rfl

/-- R188: a change to another state raises ESN 0x4E with the new and the previous one. -/
theorem State.chgTo_raised (h : st ≠ s.chgState) : (s.chgTo st).raisedCode 0x4E (st + 16 * s.chgState) := by
  rw [s.chgTo_eq_raise st h]
  exact State.raise_raised _ _ _ _ _ (by omega)

/-! ### Resumption, commands and timers (R182, R188, R191) -/

theorem State.chgResume_frame : EventFrame [CHG_STAT] [.chg] s s.chgResume := by
  have free : EventFrame [CHG_STAT] [.chg] s (s.putB CHG_STAT CHG_STAT_SUSP false) := .putB _ _ .refl (by simp)
  unfold State.chgResume
  exact .ite ((free.updChg (by simp)).chgTo (by simp) (by simp)) (.ite (free.updChg (by simp)) free)

/-- The charger resumes. -/
theorem State.chgResume_susp : s.chgResume.get CHG_STAT CHG_STAT_SUSP = 0 := by
  have free : (s.putB CHG_STAT CHG_STAT_SUSP false).get CHG_STAT CHG_STAT_SUSP = 0 :=
    State.get_putB _ _ _ _ (by decide) (by decide)
  simp only [State.chgResume, State.ite_get, State.updChg_get, free, ite_self]
  rw [State.chgTo_get _ _ _ (by decide), State.updChg_get, free, ite_self]

theorem State.chgTaken_frame : Frame [] [.chg] s s.chgTaken := .updChg .refl (by simp)
theorem State.chgIgnored_frame : EventFrame [] [.chg] s s.chgIgnored := .raise (.updChg .refl (by simp)) (by decide)
theorem State.timersStart_frame : Frame [CHG_TIME] [.chg] s s.timersStart := .wr _ (.updChg .refl (by simp)) (by simp)
theorem State.chgWaits_frame : Frame [CHG_STAT] [] s s.chgWaits := .ite .refl (.putB _ _ .refl (by simp))

/-- A charger that waits for the path keeps its state. -/
theorem State.chgWaits_state : s.chgWaits.chgState = s.chgState := by
  unfold State.chgWaits
  split
  · rfl
  · exact State.get_putB_field _ _ _ _ _ (by decide)
@[simp] theorem State.chgWaits_chg : s.chgWaits.chg = s.chg := (State.chgWaits_frame s).same .chg (by simp)
theorem State.chgWaits_susp (off : s.path ≠ pathOnFeed) : s.chgWaits.get CHG_STAT CHG_STAT_SUSP = 1 := by
  rw [State.chgWaits, if_neg (by simpa using off), State.get_putB _ _ _ _ (by decide) (by decide)]
  rfl

theorem mevStat_ne_chgTime (i : Nat) : MEV_STAT i ≠ CHG_TIME := by unfold MEV_STAT CHG_TIME; omega

/-- The start of the timers changes no cause of R190. -/
theorem State.timersStart_mevCause : s.timersStart.mevCause = s.mevCause := by
  have kept (a : Nat) (f : Fld) (m : a ≠ CHG_TIME) : s.timersStart.get a f = s.get a f :=
    s.timersStart_frame.get a f (by simpa using m)
  simp only [State.mevCause, State.mevStands, State.stopNamed, State.flag, kept _ _ (mevStat_ne_chgTime _),
    kept CHG_STOPEV _ (by decide)]

end

end Sys2Proof.Machine
end

section
/-! PROOF. The power path (R180 to R184, R346): one lemma per command, and the statement. -/
namespace Sys2Proof.Machine
open Sys2Proof

section
variable (s : State)

/-! ### The battery declared (R180, R182) -/

/-- PATH_STAT of a path on the battery, the hand-over counted. -/
def State.batteryShown : State := (s.put PATH_STAT PATH_STAT_PATH pathOnBattery).bump PATH_STAT PATH_STAT_HANDOVERS
/-- The charger is suspended. -/
def State.chgSuspended : State := s.putB CHG_STAT CHG_STAT_SUSP true

theorem State.batteryShown_path : s.batteryShown.path = pathOnBattery :=
  (State.get_bump_field _ _ _ _ (by decide)).trans (State.get_put _ _ _ _ (by decide))
theorem State.batteryShown_count : s.batteryShown.get PATH_STAT PATH_STAT_HANDOVERS =
    min (s.get PATH_STAT PATH_STAT_HANDOVERS + 1) 255 := by
  rw [State.batteryShown, State.get_bump _ _ _ (by decide), State.get_put_field _ _ _ _ _ (by decide)]
  rfl

/-- R180, R182: the hand-over ends on the battery. -/
theorem execOnBatteryDeclared_declares (on : s.engines = true) (hands : s.path = pathHandover)
    (past : s.chg.handAt < s.clk.frames) :
    Answers .onBatteryDeclared s fun t => t.path = pathOnBattery ∧ t.get CHG_STAT CHG_STAT_SUSP = 1 ∧
      t.get PATH_STAT PATH_STAT_HANDOVERS = min (s.get PATH_STAT PATH_STAT_HANDOVERS + 1) 255 ∧
      t.raisedCode 0x4A 0 ∧ EventFrame [PATH_STAT, CHG_STAT] [.snap] s t := by
  have g : (s.engines && s.path == pathHandover && decide (s.chg.handAt < s.clk.frames)) = true := by
    simp [on, hands, past]
  have e : exec .onBatteryDeclared s = done (s.latchChange (s.batteryShown.chgSuspended.raise 0x4A 0
      (s.batteryShown.get PATH_STAT PATH_STAT_HANDOVERS))) := congrArg done (if_pos g)
  have shown (f : Fld) : (s.batteryShown.chgSuspended.raise 0x4A 0
      (s.batteryShown.get PATH_STAT PATH_STAT_HANDOVERS)).get PATH_STAT f = s.batteryShown.get PATH_STAT f :=
    (State.get_raise_off _ _ _ _ _ _ _ (by decide) (by decide)).trans (State.get_putB_ne _ _ _ _ _ _ (by decide))
  refine ⟨_, e, (shown _).trans s.batteryShown_path, ?_, (shown _).trans s.batteryShown_count,
    KeepsRaised.of_flt rfl _ _ (State.raise_raised _ _ _ _ _ (by decide)),
    .latchChange (.raise (.putB _ _ (.bump _ (.put _ _ .refl (by simp)) (by simp)) (by simp)) (by decide)) (by simp)⟩
  exact (State.get_raise_chgStat _ _ _ _ _ _ (by decide)).trans (State.get_putB _ _ _ _ (by decide) (by decide))

/-! ### The return to a feed (R180 to R182, R346) -/

/-- PATH_STAT of a path on a feed, BOW disarmed. -/
def State.feedShown : State :=
  (s.put PATH_STAT PATH_STAT_PATH pathOnFeed).putB PATH_STAT PATH_STAT_BOW_ARMED false
/-- A return up to the refused records: the charger resumes, NV writing is free again, and the event. -/
def State.feedReturned : State := s.feedShown.chgResume.nvUnblock.raise 0x4B 0

theorem State.feedShown_path : s.feedShown.path = pathOnFeed :=
  (State.get_putB_field _ _ _ _ _ (by decide)).trans (State.get_put _ _ _ _ (by decide))
theorem State.feedShown_armed : s.feedShown.get PATH_STAT PATH_STAT_BOW_ARMED = 0 :=
  State.get_putB _ _ _ _ (by decide) (by decide)

/-- What the event and the block's end leave of a register that the resumption has written. -/
theorem State.feedReturned_get (a : Nat) (f : Fld) (h : a ≠ PLATE_STAT) (k : a / 0x1000 ≠ 0x40002 ∧ a / 0x1000 ≠ 0x40004) :
    s.feedReturned.get a f = s.feedShown.chgResume.get a f :=
  (State.get_raise_off _ _ _ _ _ _ _ (by decide) k).trans (State.get_putB_ne _ _ _ _ _ _ h)
theorem State.feedReturned_pathStat (f : Fld) : s.feedReturned.get PATH_STAT f = s.feedShown.get PATH_STAT f :=
  (s.feedReturned_get _ _ (by decide) (by decide)).trans
    (s.feedShown.chgResume_frame.get _ _ (by decide) (offEvents_of_page (by decide)))
theorem State.feedReturned_frame : EventFrame [PATH_STAT, CHG_STAT, PLATE_STAT] [.chg] s s.feedReturned := by
  have shown : EventFrame [PATH_STAT, CHG_STAT, PLATE_STAT] [.chg] s s.feedShown :=
    .putB _ _ (.put _ _ .refl (by simp)) (by simp)
  exact .raise (.putB _ _ (shown.trans (s.feedShown.chgResume_frame.mono (by simp) (by simp))) (by simp)) (by decide)

/-- R180 to R182, R346: the path returns to a feed. -/
theorem execReturnToFeed_returns (on : s.engines = true) (returning : s.path = pathReturning) (up : s.busUp = true) :
    Answers .returnToFeed s fun t => t.path = pathOnFeed ∧ t.get PATH_STAT PATH_STAT_BOW_ARMED = 0 ∧
      t.get CHG_STAT CHG_STAT_SUSP = 0 ∧ t.get PLATE_STAT PLATE_STAT_BLOCKED = 0 ∧ t.raisedCode 0x4B 0 ∧
      EventFrame [PATH_STAT, CHG_STAT, PLATE_STAT] [.snap, .chg, .gg, .nv] s t := by
  have g : (s.engines && s.path == pathReturning && s.busUp) = true := by simp [on, returning, up]
  have e : exec .returnToFeed s = done (s.latchChange (s.feedReturned.gaugeRetry s.feedReturned.gg.refused)) :=
    congrArg done (if_pos g)
  have retried : Frame [] [.gg, .nv] s.feedReturned (s.feedReturned.gaugeRetry s.feedReturned.gg.refused) :=
    Frame.refl.gaugeRetry (by simp) (by simp)
  have kept (a : Nat) (f : Fld) := retried.get a f (by simp)
  refine ⟨_, e, (kept _ _).trans ((s.feedReturned_pathStat _).trans s.feedShown_path),
    (kept _ _).trans ((s.feedReturned_pathStat _).trans s.feedShown_armed),
    (kept _ _).trans ((s.feedReturned_get _ _ (by decide) (by decide)).trans s.feedShown.chgResume_susp),
    (kept _ _).trans ?_, KeepsRaised.of_flt (retried.same .flt (by simp)) _ _ (State.raise_raised _ _ _ _ _ (by decide)),
    .latchChange ((s.feedReturned_frame.mono (by simp) (by simp)).trans (.of_frame (retried.mono (by simp) (by simp))))
      (by simp)⟩
  exact (State.get_raise_off _ _ _ _ _ _ _ (by decide) (by decide)).trans (State.get_putB _ _ _ _ (by decide) (by decide))

/-! ### BOW (R183, R346) -/

/-- The trip of BOW with its event. -/
def State.bowTripped : State :=
  ((s.updChg (fun c => { c with bowDone := true })).putB PATH_STAT PATH_STAT_BOW true).raise 0x4C 0

theorem State.nvBlock_frame : EventFrame [PLATE_STAT] [.nv] s s.nvBlock :=
  .putB _ _ (.updPlate (.updNv .refl (by simp))) (by simp)

/-- R183, R346: the first crossing of an arming trips BOW and blocks NV writing. -/
theorem execBowTrip_trips (run : s.power = .run) (armed : s.flag PATH_STAT PATH_STAT_BOW_ARMED = true)
    (first : s.chg.bowDone = false) (v : BitVec 16) (low : v.toNat < s.bowLevel) :
    Answers (.bowTrip v) s fun t => t.get PATH_STAT PATH_STAT_BOW = 1 ∧ t.get PLATE_STAT PLATE_STAT_BLOCKED = 1 ∧
      t.chg.bowDone = true ∧ t.raisedCode 0x4C 0 ∧ EventFrame [PATH_STAT, PLATE_STAT] [.chg, .nv] s t := by
  have g : (s.power == .run && s.flag PATH_STAT PATH_STAT_BOW_ARMED && !s.chg.bowDone &&
      decide (v.toNat < s.bowLevel)) = true := by
    rw [run, armed, first, decide_eq_true low]
    rfl
  have e : exec (.bowTrip v) s = done s.bowTripped.nvBlock := congrArg done (if_pos g)
  have blocked := s.bowTripped.nvBlock_frame
  have tripped : EventFrame [PATH_STAT, PLATE_STAT] [.chg, .nv] s s.bowTripped :=
    .raise (.putB _ _ (.updChg .refl (by simp)) (by simp)) (by decide)
  refine ⟨_, e, ?_, State.get_putB _ _ _ _ (by decide) (by decide), ?_,
    KeepsRaised.of_flt rfl _ _ (State.raise_raised _ _ _ _ _ (by decide)), tripped.trans (blocked.mono (by simp) (by simp))⟩
  · exact (blocked.get _ _ (by decide) (offEvents_of_page (by decide))).trans
      ((State.get_raise_off _ _ _ _ _ _ _ (by decide) (by decide)).trans (State.get_putB _ _ _ _ (by decide) (by decide)))
  · have chg : s.bowTripped.nvBlock.chg = s.bowTripped.chg := blocked.same .chg (by simp) (by decide)
    rw [chg, State.bowTripped, State.raise_chg]
    rfl

/-! ### UP's start inhibit (R184, R257) -/

/-- R184, R257: VSYS has risen, and UP is held by FAULT_N alone or runs. -/
theorem execUpInhibitRelease_releases (on : s.engines = true) (held : s.thState thUp = thHeld)
    (vsys : s.seq.heldVsys = true) (risen : s.vsysStarts = true) :
    Answers .upInhibitRelease s fun t => t.get PATH_STAT PATH_STAT_UP_INHIB = 0 ∧ t.seq.heldVsys = false ∧
      t.thState thUp = (if s.seq.heldFn then thHeld else thRunning) ∧
      Frame [PATH_STAT, SEQ_THR_STAT thUp] [.snap, .seq] s t := by
  have g : (s.engines && s.thState thUp == thHeld && s.seq.heldVsys && s.vsysStarts) = true := by
    simp [on, held, vsys, risen]
  have freed : Frame [PATH_STAT, SEQ_THR_STAT thUp] [.snap, .seq] s
      ((s.updSeq (fun q => { q with heldVsys := false })).putB PATH_STAT PATH_STAT_UP_INHIB false) :=
    .putB _ _ (.updSeq .refl (by simp)) (by simp)
  have shown : ((s.updSeq (fun q => { q with heldVsys := false })).putB PATH_STAT PATH_STAT_UP_INHIB false).get PATH_STAT
      PATH_STAT_UP_INHIB = 0 := State.get_putB _ _ _ _ (by decide) (by decide)
  by_cases fault : s.seq.heldFn = true
  · refine ⟨_, congrArg done ((if_pos g).trans (congrArg s.latchChange (if_pos fault))), shown, rfl, ?_,
      freed.latchChange (by simp)⟩
    rw [if_pos fault, ← held]
    exact State.get_putB_ne _ _ _ _ _ _ (by decide)
  · refine ⟨_, congrArg done ((if_pos g).trans (congrArg s.latchChange (if_neg fault))),
      (State.get_put_ne _ _ _ _ _ _ (by decide)).trans shown, rfl, ?_, .latchChange (freed.put _ _ (by simp)) (by simp)⟩
    rw [if_neg fault]
    exact State.get_put _ _ _ _ (by decide)

end

/-- Settles O10: each command writes its fields of PATH_STAT; a return also resumes the charger and retries the refused
records, and a trip of BOW blocks NV writing. -/
theorem pathStates : Obligations.PathStates := fun s =>
  ⟨execOnBatteryDeclared_declares s, execReturnToFeed_returns s, execBowTrip_trips s, execUpInhibitRelease_releases s⟩

end Sys2Proof.Machine
end

section
/-! PROOF. The charger's commands (R188, R197): one lemma per command, and the statement. That a START while the path is
not ON_FEED suspends the charger in every case is the model's choice (log 19). -/
namespace Sys2Proof.Machine
open Sys2Proof

section
variable (s : State)

/-! ### Commands that the state accepts (R188, R189) -/

/-- R188, R189: START resets both timers and charging begins in the phase evaluated. -/
theorem execChgStart_starts (due : s.chgDue 1 = true) (from_ : s.chgState ∈ [chgIdle, chgZch, chgSafeHold])
    (pack : s.chg.packId = true) (cell : s.cellCause = false) (mev : s.mevCause = false) :
    Answers .chgStart s fun t => t.chgState = s.chgEval ∧ t.chg.safeOn = true ∧ t.chg.safeMs = 0 ∧ t.chg.preMs = 0 ∧
      (s.path ≠ pathOnFeed → t.get CHG_STAT CHG_STAT_SUSP = 1) ∧ EventFrame [CHG_STAT, CHG_TIME] [.snap, .chg] s t := by
  have started : Frame [CHG_TIME] [.chg] s s.chgTaken.timersStart :=
    (s.chgTaken_frame.mono (by simp) (fun _ => id)).trans (State.timersStart_frame _)
  have eval : s.chgTaken.timersStart.chgEval = s.chgEval :=
    State.chgEval_congr (started.rd _ (by decide)) (started.same .snap (by simp))
  have accepts : ((s.chgTaken.chgState == chgIdle || s.chgTaken.chgState == chgZch || s.chgTaken.chgState == chgSafeHold) &&
      s.chgTaken.chg.packId) = true := by
    simpa [State.chgTaken, State.chgState, pack, or_assoc] using from_
  have causes : ¬ (s.chgTaken.timersStart.cellCause || s.chgTaken.timersStart.mevCause) = true := by
    rw [State.timersStart_mevCause]
    simpa using ⟨cell, mev⟩
  have e : exec .chgStart s = done (s.latchChange (s.chgTaken.timersStart.chgTo s.chgTaken.timersStart.chgEval).chgWaits) :=
    congrArg done ((if_pos due).trans (congrArg s.latchChange ((if_pos accepts).trans
      (congrArg State.chgWaits (if_neg causes)))))
  rw [eval] at e
  have entered : EventFrame [CHG_STAT, CHG_TIME] [.chg] s (s.chgTaken.timersStart.chgTo s.chgEval) :=
    (EventFrame.of_frame (started.mono (by simp) (fun _ => id))).chgTo (by simp) (by simp)
  refine ⟨_, e, (State.chgWaits_state _).trans (State.chgTo_state _ _ s.chgEval_lt), ?_, ?_, ?_,
    fun off => State.chgWaits_susp _ fun on => off (Eq.trans ?_ on),
    .latchChange ((entered.mono (fun _ => id) (by simp)).trans (.of_frame ((State.chgWaits_frame _).mono (by simp) (by simp))))
      (by simp)⟩
  case refine_4 => exact (entered.get _ _ (by decide) (offEvents_of_page (by decide))).symm
  all_goals
    simp only [State.latchChange_chg, State.chgWaits_chg, State.chgTo_safeOn, State.chgTo_safeMs, State.chgTo_preMs]
    rfl

/-- R188: TERMINATE stops the safety timer, and the charger holds zero current. -/
theorem execChgTerminate_terminates (due : s.chgDue 2 = true) (on : charging s.chgState = true) (early : s.safeDone = false) :
    Answers .chgTerminate s fun t => t.chgState = chgZch ∧ t.chg.safeOn = false ∧
      t.get CHG_STAT CHG_STAT_HOLD_REL = 0 ∧ t.raisedCode 0x4E (chgZch + 16 * s.chgState) ∧
      EventFrame [CHG_STAT] [.snap, .chg] s t := by
  have running : ¬ s.chgTaken.safeDone = true := by
    change ¬ s.safeDone = true
    simp [early]
  have e : exec .chgTerminate s =
      done (s.latchChange ((s.chgTaken.updChg (fun c => { c with safeOn := false })).chgTo chgZch)) :=
    congrArg done ((if_pos due).trans (congrArg s.latchChange ((if_pos on).trans
      (congrArg (fun u : State => (u.updChg (fun c => { c with safeOn := false })).chgTo chgZch) (if_neg running)))))
  have other : chgZch ≠ s.chgState := ne_of_charging on (by decide)
  refine ⟨_, e, State.chgTo_state _ _ (by decide), ?_, State.chgTo_holdRel _ _ other,
    KeepsRaised.of_flt rfl _ _ (State.chgTo_raised _ _ other),
    .latchChange (.chgTo (.updChg (.updChg .refl (by simp)) (by simp)) (by simp) (by simp)) (by simp)⟩
  simp

/-- R188: HOLD pauses both timers. -/
theorem execChgHold_holds (due : s.chgDue 3 = true) (on : charging s.chgState = true) :
    Answers .chgHold s fun t => t.chgState = chgZch ∧ t.get CHG_STAT CHG_STAT_HOLD_REL = 1 ∧
      t.chg.safeMs = s.chg.safeMs ∧ t.chg.preMs = s.chg.preMs ∧ t.chg.safeOn = s.chg.safeOn ∧
      EventFrame [CHG_STAT] [.snap, .chg] s t := by
  have e : exec .chgHold s = done (s.latchChange ((s.chgTaken.chgTo chgZch).putB CHG_STAT CHG_STAT_HOLD_REL true)) :=
    congrArg done ((if_pos due).trans (congrArg s.latchChange (if_pos on)))
  refine ⟨_, e, ?_, State.get_putB _ _ _ _ (by decide) (by decide), ?_, ?_, ?_,
    .latchChange (.putB _ _ (.chgTo (.updChg .refl (by simp)) (by simp) (by simp)) (by simp)) (by simp)⟩
  case refine_1 =>
    exact (State.get_putB_field _ _ _ _ _ (by decide)).trans (State.chgTo_state _ _ (by decide))
  all_goals simp [State.chgTaken]

/-- R188: RELEASE leaves the ZCH that HOLD entered by the phase evaluation. -/
theorem execChgRelease_releases (due : s.chgDue 4 = true) (zch : s.chgState = chgZch)
    (hold : s.flag CHG_STAT CHG_STAT_HOLD_REL = true) :
    Answers .chgRelease s fun t => t.chgState = s.chgEval ∧ t.get CHG_STAT CHG_STAT_HOLD_REL = 0 ∧
      t.chg.safeMs = s.chg.safeMs ∧ EventFrame [CHG_STAT] [.snap, .chg] s t := by
  have accepts : (s.chgTaken.chgState == chgZch && s.chgTaken.flag CHG_STAT CHG_STAT_HOLD_REL) = true := by
    change (s.chgState == chgZch && s.flag CHG_STAT CHG_STAT_HOLD_REL) = true
    simp [zch, hold]
  have e : exec .chgRelease s = done (s.latchChange (s.chgTaken.chgTo s.chgEval)) :=
    congrArg done ((if_pos due).trans (congrArg s.latchChange (if_pos accepts)))
  have other : s.chgEval ≠ s.chgTaken.chgState := zch ▸ s.chgEval_ne_zch
  refine ⟨_, e, State.chgTo_state _ _ s.chgEval_lt, State.chgTo_holdRel _ _ other, ?_,
    .latchChange (.chgTo (.updChg .refl (by simp)) (by simp) (by simp)) (by simp)⟩
  simp [State.chgTaken]

/-- R188, R197: STOP ends charging and both timers. -/
theorem execChgStop_stops (due : s.chgDue 5 = true) (pack : s.chgState ≠ chgNoPack) (qualified : s.chgState ≠ chgPackQual) :
    Answers .chgStop s fun t => t.chgState = chgIdle ∧ t.chg.safeOn = false ∧ t.chg.preOn = false ∧
      EventFrame [CHG_STAT] [.snap, .chg] s t := by
  have accepts : ¬ (s.chgTaken.chgState == chgNoPack || s.chgTaken.chgState == chgPackQual) = true := by
    change ¬ (s.chgState == chgNoPack || s.chgState == chgPackQual) = true
    simp [pack, qualified]
  have e : exec .chgStop s = done (s.latchChange
      ((s.chgTaken.updChg (fun c => { c with safeOn := false, preOn := false, ramp := none })).chgTo chgIdle)) :=
    congrArg done ((if_pos due).trans (congrArg s.latchChange (if_neg accepts)))
  refine ⟨_, e, State.chgTo_state _ _ (by decide), ?_, ?_,
    .latchChange (.chgTo (.updChg (.updChg .refl (by simp)) (by simp)) (by simp) (by simp)) (by simp)⟩
  all_goals simp

/-! ### Commands that it does not accept (R188) -/

/-- What a command answers that is taken and ignored: the charger's state is kept, and ESN 0x56 raised. -/
theorem answers_of_chgIgnored {c : Instr} (e : exec c s = done (s.latchChange s.chgTaken.chgIgnored)) :
    Answers c s fun t => t.chgState = s.chgState ∧ t.raisedCode 0x56 0 ∧ EventFrame [] [.snap, .chg] s t :=
  ⟨_, e, State.get_raise_chgStat _ _ _ _ _ _ (by decide),
    KeepsRaised.of_flt rfl _ _ (State.raise_raised _ _ _ _ _ (by decide)),
    .latchChange (((EventFrame.of_frame s.chgTaken_frame).trans (State.chgIgnored_frame _)).mono (by simp) (by simp)) (by simp)⟩

/-- R188: TERMINATE and HOLD are ignored while the charger is not charging. -/
theorem terminate_hold_ignored (off : charging s.chgState = false) :
    ∀ c ∈ [(Instr.chgTerminate, 2), (.chgHold, 3)], s.chgDue c.2 = true →
      Answers c.1 s fun t => t.chgState = s.chgState ∧ t.raisedCode 0x56 0 ∧ EventFrame [] [.snap, .chg] s t := by
  have refuses : ¬ charging s.chgTaken.chgState = true := by
    change ¬ charging s.chgState = true
    simp [off]
  simp only [List.forall_mem_cons, List.not_mem_nil, IsEmpty.forall_iff, implies_true, and_true]
  exact ⟨fun due => answers_of_chgIgnored s (congrArg done ((if_pos due).trans (congrArg s.latchChange (if_neg refuses)))),
    fun due => answers_of_chgIgnored s (congrArg done ((if_pos due).trans (congrArg s.latchChange (if_neg refuses))))⟩

end

/-- Settles O11: a command that the state accepts comes to `State.chgTo` after its timers, any other to
`State.chgIgnored`. -/
theorem chargerCommands : Obligations.ChargerCommands := fun s =>
  ⟨execChgStart_starts s, execChgTerminate_terminates s, execChgHold_holds s, execChgRelease_releases s,
    execChgStop_stops s, terminate_hold_ignored s⟩

end Sys2Proof.Machine
end

section
/-! PROOF. The charger's transitions (R188 to R195): the removal of the pack, which publishes where a learning cycle is open
(R218, R228, R231), so that the frame of the statement fails. -/
namespace Sys2Proof.Machine
open Sys2Proof

/-! ### A learning cycle that is dropped (R218, R228, R231) -/

/-- The registers that a dropped learning cycle writes: its flags, and what its LEARN record has published. -/
def learnRegs : List Nat := [GG_EFLAGS, GG_SOC, GG_QREF_LO, GG_QREF_HI]

section
variable (s : State)

/-- R218: what is published sets GG_QREF to the count. -/
theorem State.publish_qref : s.publish.rd GG_QREF_LO = BitVec.ofNat 32 (wrapI 64 s.gg.qraw) :=
  (State.rd_putB_ne _ _ _ _ _ (by decide)).trans ((State.rd_wr_ne _ _ _ _ (by decide)).trans (State.rd_wr_same _ _ _))
theorem State.publish_frame : Frame learnRegs [.gg] s s.publish :=
  .putB _ _ (.put64 _ (.updGg (.wr _ .refl (by decide)) (by simp)) (by decide) (by decide)) (by decide)

/-- What follows the publishing of a record. -/
theorem State.estRecord_frame (type : Nat) : EventFrame [] [.gg, .est, .nv] s.publish (s.estRecord type) := by
  have written : EventFrame [] [.gg, .est, .nv] s.publish (s.publish.gaugeWrite type) :=
    EventFrame.refl.gaugeWrite (by decide) (by decide)
  unfold State.estRecord
  exact written.updEst (by decide)

theorem State.learnDrop_frame (code : Nat) : EventFrame learnRegs [.gg, .est, .nv] s (s.learnDrop code) := by
  have failed : EventFrame learnRegs [.gg, .est, .nv] s (s.learnFail code) := EventFrame.refl.learnFail (by simp) (by decide)
  exact .ite ((failed.trans (.of_frame ((State.publish_frame _).mono (fun _ => id) (by simp)))).trans
    ((State.estRecord_frame _ 3).mono (by simp) (fun _ => id))) .refl

/-- R231: the LEARN record of a dropped cycle publishes, so that GG_QREF becomes the count. -/
theorem State.learnDrop_qref (code : Nat) (learning : s.est.learn.isSome = true) :
    (s.learnDrop code).rd GG_QREF_LO = BitVec.ofNat 32 (wrapI 64 s.gg.qraw) := by
  have failed : EventFrame [GG_EFLAGS] [.est] s (s.learnFail code) := EventFrame.refl.learnFail (by simp) (by simp)
  have gg : (s.learnFail code).gg = s.gg := failed.same .gg (by simp) (by decide)
  rw [State.learnDrop, if_pos learning, (State.estRecord_frame _ 3).rd _ (by simp) (offEvents_of_page (by decide)),
    State.publish_qref, gg]

end

/-! ### The removal of the pack (R188, R193, R228) -/

section
variable (s : State) (how : Removal)

/-- A removal that is found: PACK_ID is open, and the event (R193). -/
def State.removalTold : State :=
  ((if how == .byId then s.updChg (fun c => { c with packId := false }) else s).putB CHG_STAT CHG_STAT_NOPACK true).raise 0x50
    (if how == .byId then 1 else 2)

/-- The charge phase is abandoned, with the REMOVAL record (R231). -/
def State.packGone : State :=
  ((s.updChg (fun c => { c with safeOn := false, preOn := false, ramp := none })).chgTo chgNoPack).gaugeWrite 4

theorem State.removalTold_frame : EventFrame [CHG_STAT] [.chg] s (s.removalTold how) :=
  .raise (.putB _ _ (.ite (.updChg .refl (by simp)) .refl) (by simp)) (by decide)
theorem State.packGone_frame : EventFrame [CHG_STAT] [.chg, .gg, .nv] s s.packGone :=
  .gaugeWrite (.chgTo (.updChg .refl (by simp)) (by simp) (by simp)) (by simp) (by simp)

/-- PACK_REMOVED in the states that the statement names: the event, the learning cycle, the charge phase. -/
theorem execPackRemoved_eq (on : s.engines = true)
    (from_ : s.chgState ∈ [chgIdle, chgTrickle, chgPre, chgCC, chgCV, chgZch, chgPackQual]) (path : s.path = pathOnFeed)
    (found : s.removalFound how = true) :
    exec (.packRemoved how) s = done ((s.removalTold how).learnDrop 0x05).packGone := by
  have g : (s.engines && s.removalFound how) = true := by rw [on, found]; rfl
  have kept : ((s.removalTold how).learnDrop 0x05).path = s.path :=
    ((State.learnDrop_frame _ 0x05).get _ _ (by decide) (offEvents_of_page (by decide))).trans
      ((s.removalTold_frame how).get _ _ (by decide) (offEvents_of_page (by decide)))
  have leaves : (s.chgState == chgPackQual || ((s.chgState == chgIdle || charging s.chgState || s.chgState == chgZch) &&
      ((s.removalTold how).learnDrop 0x05).path == pathOnFeed)) = true := by
    rw [kept, path]
    revert from_
    generalize s.chgState = st
    revert st
    decide
  exact congrArg done ((if_pos g).trans (if_pos leaves))

/-- The frame that O12 gives a removal holds with what a dropped cycle publishes added to it. -/
theorem execPackRemoved_frame (on : s.engines = true)
    (from_ : s.chgState ∈ [chgIdle, chgTrickle, chgPre, chgCC, chgCV, chgZch, chgPackQual]) (path : s.path = pathOnFeed)
    (found : s.removalFound how = true) :
    Answers (.packRemoved how) s fun t => EventFrame (CHG_STAT :: learnRegs) [.chg, .est, .gg, .nv] s t :=
  ⟨_, execPackRemoved_eq s how on from_ path found,
    (((s.removalTold_frame how).mono (by simp) (by simp)).trans ((State.learnDrop_frame _ 0x05).mono (by simp +contextual)
      (by simp))).trans ((State.packGone_frame _).mono (by simp) (by simp))⟩

/-- With a learning cycle open, a removal sets GG_QREF to the count. -/
theorem removal_qref (learning : s.est.learn.isSome = true) :
    ((s.removalTold how).learnDrop 0x05).packGone.rd GG_QREF_LO = BitVec.ofNat 32 (wrapI 64 s.gg.qraw) := by
  have told := s.removalTold_frame how
  have est : (s.removalTold how).est = s.est := told.same .est (by simp) (by decide)
  have gg : (s.removalTold how).gg = s.gg := told.same .gg (by simp) (by decide)
  rw [(State.packGone_frame _).rd _ (by decide) (offEvents_of_page (by decide)),
    State.learnDrop_qref _ _ (by rw [est, learning]), gg]

end

/-- A configured part in RUN and IDLE on a feed, with a count of 1, GG_QREF at 0 and a learning cycle open. -/
def learningIdle : State :=
  { State.reset.put PATH_STAT PATH_STAT_PATH pathOnFeed with
    power := .run, clk := { inForce := true, cfgCopy := some 0 }, gg := { qraw := 1 },
    est := { learn := some ⟨0, 0, [], 0, true, 0⟩ } }

/-- Refutes O12: the clause of the pack's removal lists CHG_STAT and GG_EFLAGS alone, but a removal drops an open learning
cycle with its LEARN record (R228, R231), and what the record publishes goes to GG_SOC and GG_QREF (R218). From
`learningIdle` the removal sets GG_QREF_LO from 0 to 1; with those registers added the frame holds
(`execPackRemoved_frame`). -/
theorem not_chargerTransitions : ¬ Obligations.ChargerTransitions := by
  intro h
  obtain ⟨-, -, -, -, -, -, removal, -⟩ := h learningIdle rfl
  obtain ⟨t, e, -, -, -, -, frame⟩ := removal (by decide) rfl .byId rfl
  have reached := (execPackRemoved_eq learningIdle .byId rfl (by decide) rfl rfl).symm.trans e
  obtain rfl := Host.Outcome.next.inj reached
  have kept := frame.rd GG_QREF_LO (by decide) (offEvents_of_page (by decide))
  rw [removal_qref learningIdle .byId rfl] at kept
  exact absurd kept (by decide)

end Sys2Proof.Machine
end

section
/-! SUPPORT. The estimator's operations (R218 to R235): what an update may change, one lemma per operation. -/
namespace Sys2Proof.Machine
open Sys2Proof

/-- The registers of the estimator's outputs. -/
def estRegs : List Nat := [GG_SOC, GG_QREF_LO, GG_QREF_HI, GG_EFLAGS, GG_FCC, GG_HEALTH, GG_TIME]
/-- The parts that an update writes: the gauge's count and records, the estimator, and a request to the charger (R223). -/
def estParts : List Part := [.gg, .est, .nv, .chg, .freeCtr]

/-- From `s` to `t` nothing changes but what an update of the estimator writes and what a raise writes. -/
abbrev EstFrame (s t : State) : Prop := EventFrame estRegs estParts s t

namespace EstFrame
variable {s t : State}

/-! ### State operations -/

theorem wr {a : Nat} {v : Word} (h : EstFrame s t) (r : a ∈ estRegs := by decide) : EstFrame s (t.wr a v) :=
  EventFrame.wr v h r
theorem put {a : Nat} {f : Fld} {v : Nat} (h : EstFrame s t) (r : a ∈ estRegs := by decide) : EstFrame s (t.put a f v) :=
  EventFrame.put f v h r
theorem putB {a : Nat} {f : Fld} {b : Bool} (h : EstFrame s t) (r : a ∈ estRegs := by decide) :
    EstFrame s (t.putB a f b) := EventFrame.putB f b h r
theorem updEst {f : EstSt → EstSt} (h : EstFrame s t) : EstFrame s (t.updEst f) := EventFrame.updEst h (by decide)
theorem updChg {f : ChgSt → ChgSt} (h : EstFrame s t) : EstFrame s (t.updChg f) := EventFrame.updChg h (by decide)
theorem raise {e c hi : Nat} {d : List Byte} (h : EstFrame s t) (n : e < 256 := by decide) :
    EstFrame s (t.raise e c hi d) := EventFrame.raise h n

/-! ### Corrections and records (R218, R220, R231) -/

theorem correct {soc band : Int} (h : EstFrame s t) : EstFrame s (t.correct soc band) := by
  unfold State.correct; exact h.updEst
theorem publish (h : EstFrame s t) : EstFrame s t.publish :=
  h.trans (.of_frame (t.publish_frame.mono (by decide) (by decide)))
theorem estRecord {type : Nat} (h : EstFrame s t) : EstFrame s (t.estRecord type) :=
  h.publish.trans ((t.estRecord_frame type).mono (by decide) (by decide))
theorem estPublish (h : EstFrame s t) : EstFrame s t.estPublish := .ite h.publish.estRecord h.publish

/-! ### Learning (R227 to R229) -/

theorem learnDrop {code : Nat} (h : EstFrame s t) : EstFrame s (t.learnDrop code) :=
  h.trans ((t.learnDrop_frame code).mono (by decide) (by decide))
theorem learnWrong {dq : Int} (h : EstFrame s t) : EstFrame s (t.learnWrong dq) := by
  unfold State.learnWrong
  split
  · exact h
  · dsimp only
    split
    · exact h.updEst.learnDrop
    · exact h.updEst
theorem learnEnd {l : Learn} {soc : Int} (h : EstFrame s t) : EstFrame s (t.learnEnd l soc) := by
  unfold State.learnEnd
  exact .ite h.learnDrop (.ite h.learnDrop h.put.put.putB.putB.updEst.estRecord.raise)
theorem learnStart {soc : Int} (h : EstFrame s t) : EstFrame s (t.learnStart soc) := by
  unfold State.learnStart
  exact .ite h.putB.updEst.raise h
theorem learnOwed (h : EstFrame s t) : EstFrame s t.learnOwed := by
  unfold State.learnOwed
  exact .ite h.updEst.estRecord h

/-! ### Readings and seeds (R221, R233 to R235) -/

theorem restReading (h : EstFrame s t) : EstFrame s t.restReading := by
  unfold State.restReading
  extract_lets m band read corrected taken ended
  have read' : EstFrame s read := h.updEst
  have taken' : EstFrame s taken := .ite read'.correct.putB.raise.estRecord read'
  refine .ite (learnStart ?_) taken'
  unfold ended
  split
  · exact taken'.learnEnd
  · exact taken'
theorem seed {v : Int} (h : EstFrame s t) : EstFrame s (t.seed v) := by
  unfold State.seed
  exact h.put.wr.correct.putB.raise.estRecord
theorem stale {code : Nat} (h : EstFrame s t) : EstFrame s (t.stale code) := by
  unfold State.stale
  exact h.putB.putB.raise.estRecord
theorem reinserted {v : Int} (h : EstFrame s t) : EstFrame s (t.reinserted v) := by
  unfold State.reinserted
  exact .ite h.updEst.seed h.updEst.correct.stale
theorem compareSwap (h : EstFrame s t) : EstFrame s t.compareSwap := by
  unfold State.compareSwap
  exact .ite h (.ite h.updEst.stale h.updEst)

/-! ### The start (R218, R232) -/

theorem tornRecords {l : List Nat} (h : EstFrame s t) : EstFrame s (t.tornRecords l) := by
  induction l generalizing t with
  | nil => exact h
  | cons k r ih => exact ih (.ite h.raise h)
theorem coldEstimator (h : EstFrame s t) : EstFrame s t.coldEstimator := by
  unfold State.coldEstimator
  extract_lets torn told
  have told' : EstFrame s told := .ite h.tornRecords.raise h.tornRecords
  split
  · extract_lets kept f flags last lost dq running owed
    have last' : EstFrame s last := told'.put.wr.put.put.put
    have owed' : EstFrame s owed := .learnOwed (.updEst (.ite last'.put.raise last'))
    exact .ite (.ite owed'.seed owed') owed'.updEst
  · exact .ite told'.updEst.seed told'.updEst
theorem warmEstimator (h : EstFrame s t) : EstFrame s t.warmEstimator := by
  unfold State.warmEstimator
  exact h.updEst.learnOwed

/-! ### The parts of an update (R221 to R226) -/

theorem estStart (h : EstFrame s t) : EstFrame s t.estStart := .ite h (.ite h.coldEstimator h.warmEstimator)
theorem grow (h : EstFrame s t) : EstFrame s t.grow := by
  unfold State.grow
  exact h.updEst.learnWrong
theorem estReinsert (h : EstFrame s t) : EstFrame s t.estReinsert := by
  unfold State.estReinsert
  split
  · exact h.reinserted
  · exact h
theorem estCompare (h : EstFrame s t) : EstFrame s t.estCompare := .ite h.compareSwap h
theorem estRest (h : EstFrame s t) : EstFrame s t.estRest := .ite (.ite h h.restReading) h.updEst
theorem manufacture (h : EstFrame s t) : EstFrame s t.manufacture := by
  unfold State.manufacture
  exact .ite (.ite (.ite h.updChg.updEst h) (.ite h h.updEst)) (.ite h.updChg.updEst h)
theorem fallback (h : EstFrame s t) : EstFrame s t.fallback := by
  unfold State.fallback
  exact .ite h.putB (.ite (.ite h.putB.learnDrop (.ite h.putB.learnDrop.correct h.putB.learnDrop)) h)
theorem impedance (h : EstFrame s t) : EstFrame s t.impedance := by
  unfold State.impedance
  dsimp only
  split
  · exact h.updEst
  · exact .ite (.ite h.updEst.updEst h.updEst.updEst.put.raise) h.updEst
theorem times (h : EstFrame s t) : EstFrame s t.times := by
  unfold State.times
  exact h.wr
theorem estWork (h : EstFrame s t) : EstFrame s t.estWork :=
  h.estStart.grow.estReinsert.estCompare.estRest.manufacture.fallback.impedance.times
theorem freeUsed {n : Nat} (h : EstFrame s t) : EstFrame s (t.freeUsed n) := h.set_freeCtr (by decide)

end EstFrame

end Sys2Proof.Machine
end

section
/-! PROOF. An update of the estimator (R218, R220, R222): what it publishes, and the statement. -/
namespace Sys2Proof.Machine
open Sys2Proof

/-! ### Bounds of what is published -/

theorem clampSoc_le (v : Int) : clampSoc v ≤ 1000000 := by
  unfold clampSoc
  split
  · decide
  · split <;> omega
theorem roundDiv_100_le {v c : Int} (h : v ≤ 100 * c) (_pos : 0 ≤ c) : roundDiv v 100 ≤ c := by
  unfold roundDiv
  split <;> omega
theorem satN_le {w c : Nat} {v : Int} (h : v ≤ c) : satN w v ≤ c := by
  unfold satN
  split <;> omega

/-- R218, R220, R222: what a publishing leaves: a state of charge of at most 100 %, a band of at most 50 %, GG_QREF at the
count, and FROZEN clear. -/
structure State.Published (s : State) : Prop where
  soc : s.get GG_SOC GG_SOC_SOC ≤ 10000
  band : s.get GG_SOC GG_SOC_BAND ≤ 5000
  qref : s.gg.qref = s.gg.qraw
  frozen : s.get GG_EFLAGS GG_EFLAGS_FROZEN = 0

section
variable (s : State)

theorem State.socNow_le : s.socNow ≤ 1000000 := clampSoc_le _
theorem State.bandNow_le : s.bandNow ≤ 500000 := min_le_left _ _

/-- Burin's write of GG_SOC is what GG_SOC reads (R218). -/
theorem State.socWrite_soc (v : Word) : (s.socWrite v).rd GG_SOC = v :=
  (State.rd_putB_ne _ _ _ _ _ (by decide)).trans ((State.rd_wr_ne _ _ _ _ (by decide)).trans
    ((State.rd_wr_ne _ _ _ _ (by decide)).trans (State.rd_wr_same _ _ _)))
theorem State.publish_soc : s.publish.get GG_SOC GG_SOC_SOC ≤ 10000 := by
  rw [State.get, State.publish, State.socWrite_soc, getF_setF_ne _ _ _ _ (by decide), getF_setF _ _ _ (by decide)]
  exact (Nat.mod_le _ _).trans (satN_le (roundDiv_100_le s.socNow_le (by decide)))
theorem State.publish_band : s.publish.get GG_SOC GG_SOC_BAND ≤ 5000 := by
  rw [State.get, State.publish, State.socWrite_soc, getF_setF _ _ _ (by decide)]
  exact (Nat.mod_le _ _).trans (satN_le (roundDiv_100_le s.bandNow_le (by decide)))
theorem State.publish_published : s.publish.Published :=
  ⟨s.publish_soc, s.publish_band, rfl, State.get_putB _ _ _ _ (by decide) (by decide)⟩

/-- A record leaves the count and its reference as they are (R231). -/
theorem State.gaugeWrite_counts (type : Nat) :
    (s.gaugeWrite type).gg.qref = s.gg.qref ∧ (s.gaugeWrite type).gg.qraw = s.gg.qraw := by
  unfold State.gaugeWrite
  dsimp only
  split
  · simp
  · exact ⟨rfl, rfl⟩
theorem State.estRecord_published (type : Nat) : (s.estRecord type).Published := by
  obtain ⟨soc, band, qref, frozen⟩ := s.publish_published
  obtain ⟨keptRef, keptRaw⟩ := s.publish.gaugeWrite_counts type
  have kept (a : Nat) (f : Fld) (off : offEvents a) : (s.estRecord type).get a f = s.publish.get a f :=
    (s.estRecord_frame type).get a f (by simp) off
  constructor
  · rwa [kept _ _ (offEvents_of_page (by decide))]
  · rwa [kept _ _ (offEvents_of_page (by decide))]
  · exact keptRef.trans (qref.trans keptRaw.symm)
  · rwa [kept _ _ (offEvents_of_page (by decide))]
theorem State.estPublish_published : s.estPublish.Published := by
  unfold State.estPublish
  split
  · exact State.estRecord_published _ _
  · exact s.publish_published

/-- What the estimator notes for itself leaves what is published. -/
theorem State.Published.noted {s : State} (h : s.Published) (f : EstSt → EstSt) (n : Nat) :
    ((s.updEst f).freeUsed n).Published := ⟨h.soc, h.band, h.qref, h.frozen⟩

/-- ESTIMATOR_UPDATE where it is due (R218). -/
theorem execEstimatorUpdate_eq (on : s.engines = true) (firmware : s.proc.mode = .firmware)
    (ready : s.flag BOOT_STAT BOOT_STAT_READY = true) (due : s.estDue = true) :
    exec .estimatorUpdate s =
      done ((s.estWork.estPublish.updEst (fun e => { e with updAt := some s.clk.frames })).freeUsed 16) :=
  congrArg done (if_pos (by simp [on, firmware, ready, due]))

end

/-- Settles O14: an update ends with a publishing, or with a record that publishes again, and each of its operations stays
within `EstFrame`. -/
theorem estimatorUpdate : Obligations.EstimatorUpdate := by
  intro s on firmware ready due
  obtain ⟨soc, band, qref, frozen⟩ :=
    s.estWork.estPublish_published.noted (fun e => { e with updAt := some s.clk.frames }) 16
  exact ⟨_, execEstimatorUpdate_eq s on firmware ready due, soc, band, qref, frozen,
    EstFrame.freeUsed (EstFrame.updEst (EstFrame.estPublish (EstFrame.estWork .refl)))⟩

end Sys2Proof.Machine
end

section
/-! PROOF. The gauge's events (R205, R208, R211, R212, R216 to R218, R231): its wake takes the raises that waited, so that
one of a number past the event sources breaks the frame of the statement. -/
namespace Sys2Proof.Machine
open Sys2Proof

section
variable (s : State) (src : Nat)

/-- A wake up to the raises that waited, after its bits in PWR_WAKE_SRC and PWR_STATE. -/
theorem State.woken_rest : Frame ctxStats [.power, .ctx, .th, .adc]
    ((s.putB PWR_WAKE_SRC (bitF src) true).putB PWR_STATE PWR_STATE_WARM true) (s.woken src) := by
  have rest : Frame ctxStats [.power, .ctx, .th, .adc]
      ((s.putB PWR_WAKE_SRC (bitF src) true).putB PWR_STATE PWR_STATE_WARM true)
      ((s.putB PWR_WAKE_SRC (bitF src) true).putB PWR_STATE PWR_STATE_WARM true).contextsReset :=
    .contextsReset .refl (by decide) fun _ => id
  have on := (rest.updTh (f := fun t => { t with on := false, last := none }) (by decide)).set_power (a := .run) (by decide)
  unfold State.woken
  exact .ite (on.updAdc (by decide)) on
theorem State.woken_power : (s.woken src).power = .run := by
  unfold State.woken
  generalize ((s.putB PWR_WAKE_SRC (bitF src) true).putB PWR_STATE PWR_STATE_WARM true).contextsReset = t
  dsimp only
  split <;> rfl
theorem State.woken_numbered (n : s.HeldNumbered) : (s.woken src).HeldNumbered := fun h m =>
  n h (by rwa [(s.woken_frame src).same .flt (by decide)] at m)

/-- What the raises that waited and the watchdog's start leave of a wake. -/
theorem State.wake_raised (n : s.HeldNumbered) : EventFrame [WD_SEQ, WD_STAT] [.wd] (s.woken src) (s.wake src) := by
  rw [State.wake_eq]
  exact ((State.raiseHeld_frame _ (s.woken_numbered src n)).mono (by simp) (by simp)).trans
    (.of_frame (State.burinWoken_frame _))
theorem State.wake_power (n : s.HeldNumbered) : (s.wake src).power = .run := by
  have kept : (s.wake src).power = (s.woken src).power := (s.wake_raised src n).same .power (by decide) (by decide)
  rw [kept, State.woken_power]
theorem State.wake_get (n : s.HeldNumbered) (a : Nat) (f : Fld) (wd : a ∉ [WD_SEQ, WD_STAT]) (ctx : a ∉ ctxStats)
    (off : offEvents a) : (s.wake src).get a f =
      ((s.putB PWR_WAKE_SRC (bitF src) true).putB PWR_STATE PWR_STATE_WARM true).get a f :=
  ((s.wake_raised src n).get a f wd off).trans ((s.woken_rest src).get a f ctx)

/-- A wake with the stray raise waiting writes to WD_CFG. -/
theorem State.wake_stray (held : s.flt.held = [strayRaise]) (clear : s.get strayInfo FLT_INFO_COUNT = 0) :
    (s.wake src).get strayInfo FLT_INFO_COUNT = 1 := by
  have woken := s.woken_frame src
  have off : strayInfo ∉ PWR_WAKE_SRC :: PWR_STATE :: ctxStats := by decide
  rw [State.wake_eq, (State.burinWoken_frame _).get _ _ (by decide)]
  exact State.raiseHeld_stray _ ((congrArg FltSt.held (woken.same .flt (by decide))).trans held)
    ((woken.get _ _ off).trans clear)

end

section
variable (s : State)

/-- GAUGE_WAKE where the gauge has requested it (R208). -/
theorem execGaugeWake_eq (standby : s.power = .standby) (beyond : 2 ≤ s.gg.wakeRun)
    (enabled : s.flag PWR_WAKE_EN PWR_WAKE_EN_GAUGE = true) :
    exec .gaugeWake s = done ((s.raiseLater 0x63 0 0).wake 5) :=
  congrArg done (if_pos (by simp [standby, beyond, enabled]))

/-- R208: the clause of the gauge's wake holds where every raise that waits has the number of an event source. -/
theorem execGaugeWake_wakes (n : s.HeldNumbered) (standby : s.power = .standby) (beyond : 2 ≤ s.gg.wakeRun)
    (enabled : s.flag PWR_WAKE_EN PWR_WAKE_EN_GAUGE = true) :
    Answers .gaugeWake s fun t => t.power = .run ∧ t.get PWR_WAKE_SRC (bitF 5) = 1 ∧
      t.get PWR_STATE PWR_STATE_WARM = 1 ∧ (0x63, 0, 0) ∈ t.opt.firstTick ∧
      EventFrame (PWR_WAKE_SRC :: PWR_STATE :: WD_SEQ :: WD_STAT :: ctxStats) [.power, .ctx, .th, .adc, .wd, .opt] s t := by
  have woken := (s.raiseLater 0x63 0 0).wake_frame 5 n
  have later : EventFrame (PWR_WAKE_SRC :: PWR_STATE :: WD_SEQ :: WD_STAT :: ctxStats)
      [.power, .ctx, .th, .adc, .wd, .opt] s (s.raiseLater 0x63 0 0) := .updOpt .refl (by decide)
  refine ⟨_, execGaugeWake_eq s standby beyond enabled, State.wake_power _ 5 n, ?_, ?_, ?_,
    later.trans (woken.mono (fun _ => id) (by decide))⟩
  · rw [State.wake_get (s.raiseLater 0x63 0 0) 5 n _ _ (by decide) (by decide) (offEvents_of_page (by decide)),
      State.get_putB_ne _ _ _ _ _ _ (by decide)]
    exact State.get_putB _ _ _ _ (by decide) (by decide)
  · rw [State.wake_get (s.raiseLater 0x63 0 0) 5 n _ _ (by decide) (by decide) (offEvents_of_page (by decide))]
    exact State.get_putB _ _ _ _ (by decide) (by decide)
  · have kept : ((s.raiseLater 0x63 0 0).wake 5).opt = (s.raiseLater 0x63 0 0).opt :=
      woken.same .opt (by decide) (by decide)
    rw [kept]
    exact List.mem_append_right _ List.mem_cons_self

end

/-- A part in STANDBY whose gauge requests a wake, with a stray raise waiting. -/
def strayGauge : State :=
  { State.reset.putB PWR_WAKE_EN PWR_WAKE_EN_GAUGE true with
    power := .standby, gg := { wakeRun := 2 }, flt := { held := [strayRaise] } }

/-- Refutes O13: the clause of the gauge's wake asks for no premise on the raises that waited in STANDBY, and they may
carry any number. From `strayGauge`, where one of number 0x200 waits, the wake writes WD_CFG, which is none of the
registers of the clause's frame; with every number below 256 the clause holds (`execGaugeWake_wakes`). -/
theorem not_gaugeEvents : ¬ Obligations.GaugeEvents := by
  intro h
  obtain ⟨-, -, -, -, -, -, -, -, wakes, -⟩ := h strayGauge
  obtain ⟨t, e, -, -, -, -, frame⟩ := wakes rfl (by decide) rfl
  have reached := (execGaugeWake_eq strayGauge rfl (by decide) rfl).symm.trans e
  obtain rfl := Host.Outcome.next.inj reached
  have kept := frame.get strayInfo FLT_INFO_COUNT (by decide) (offEvents_of_page (by decide))
  rw [State.wake_stray _ 5 rfl rfl] at kept
  exact absurd kept (by decide)

end Sys2Proof.Machine
end

section
/-! SUPPORT. The sequencer's shared operations (R239 to R255): what the settling of a frame's starts, a step that is spent,
a step to another index, a wait and the end of a thread each leave. -/
namespace Sys2Proof.Machine
open Sys2Proof

/-! ### Registers and states of threads -/

theorem offEvents_thrStat (t : Fin 4) : offEvents (SEQ_THR_STAT t) := offEvents_above (by unfold SEQ_THR_STAT; omega)
theorem thrStat_ne {t u : Fin 4} (h : t ≠ u) : SEQ_THR_STAT t ≠ SEQ_THR_STAT u := by
  unfold SEQ_THR_STAT
  omega
theorem thrStat_ne_seqStat (t : Fin 4) : SEQ_THR_STAT t ≠ SEQ_STAT := by unfold SEQ_THR_STAT SEQ_STAT; omega
theorem thrStat_ne_pathStat (t : Fin 4) : SEQ_THR_STAT t ≠ PATH_STAT := by unfold SEQ_THR_STAT PATH_STAT; omega
theorem thrStat_ne_plateChain (t : Fin 4) : SEQ_THR_STAT t ≠ PLATE_CHAIN := by
  unfold SEQ_THR_STAT PLATE_CHAIN
  omega
theorem thrStat_ne_plateStat (t : Fin 4) : SEQ_THR_STAT t ≠ PLATE_STAT := by unfold SEQ_THR_STAT PLATE_STAT; omega

theorem State.updThr_thr (s : State) (t : Fin 4) (f : ThrSt → ThrSt) : (s.updThr t f).seq.thr[t] = f s.seq.thr[t] :=
  Vector.getElem_set_self _

/-- A raise leaves what the threads show. -/
theorem State.raise_thrStat (s : State) (e c h : Nat) (d : List Byte) (t : Fin 4) (f : Fld) (he : e < 256) :
    (s.raise e c h d).get (SEQ_THR_STAT t) f = s.get (SEQ_THR_STAT t) f :=
  State.raise_get _ _ _ _ _ _ _ he (offEvents_thrStat t)

/-! ### The starts of a frame are settled (R254, R256, R258) -/

section
variable (s : State)

theorem State.driveFn_frame : EventFrame [SEQ_STAT] [.seq] s s.driveFn := by
  unfold State.driveFn
  exact .ite (.raise (.updSeq (.putB _ _ .refl (by decide)) (by decide)) (by decide)) .refl
theorem State.tellFault_frame : EventFrame [SEQ_STAT] [.seq] s s.tellFault := by
  unfold State.tellFault
  split
  · exact .ite (.trans (.raise (.updSeq .refl (by decide)) (by decide)) (State.driveFn_frame _))
      (.raise (.updSeq .refl (by decide)) (by decide))
  · exact .refl
theorem State.tellDown_frame : EventFrame [] [.seq] s s.tellDown := by
  unfold State.tellDown
  split
  · exact .raise (.updSeq .refl (by decide)) (by decide)
  · exact .refl
theorem State.seqSettle_frame : EventFrame [SEQ_STAT] [.seq] s s.seqSettle :=
  s.tellFault_frame.trans ((State.tellDown_frame _).mono (by simp) fun _ => id)

theorem State.seqSettle_clk : s.seqSettle.clk = s.clk := s.seqSettle_frame.same .clk (by decide) (by decide)
theorem State.seqSettle_thrStat (t : Fin 4) (f : Fld) :
    s.seqSettle.get (SEQ_THR_STAT t) f = s.get (SEQ_THR_STAT t) f :=
  s.seqSettle_frame.get _ _ (by simpa using thrStat_ne_seqStat t) (offEvents_thrStat t)

end

/-! ### A thread takes its turn, and spends a step (R239, R241) -/

section
variable (s : State) (t : Fin 4)

theorem State.seqTake_frame : Frame [] [.seq, .clk] s.seqSettle (s.seqTake t) :=
  .set_clk (.updSeq .refl (by decide)) (by decide)
theorem State.seqTake_frames : (s.seqTake t).clk.frames = s.clk.frames :=
  (congrArg ClkSt.frames s.seqSettle_clk : s.seqSettle.clk.frames = s.clk.frames)
theorem State.seqTake_thrStat (f : Fld) : (s.seqTake t).get (SEQ_THR_STAT t) f = s.get (SEQ_THR_STAT t) f :=
  s.seqSettle_thrStat t f

theorem State.stepSpent_frame : Frame [] [.seq, .clk] s.seqSettle (s.stepSpent t) := .updThr (s.seqTake_frame t) (by decide)
theorem State.stepSpent_frames : (s.stepSpent t).clk.frames = s.clk.frames := s.seqTake_frames t
theorem State.stepSpent_thrStat (f : Fld) : (s.stepSpent t).get (SEQ_THR_STAT t) f = s.get (SEQ_THR_STAT t) f :=
  s.seqTake_thrStat t f
theorem State.stepSpent_thPc : (s.stepSpent t).thPc t = s.thPc t := s.stepSpent_thrStat t _

/-- A step that is due is spent, and its word acts. -/
theorem State.stepRow_due {op : Nat} {f : State → Word → State} (due : s.stepDue t op = true) :
    s.stepRow t op f = f (s.stepSpent t) (s.stepWord t) := if_pos due

/-- The thread that executes a step is RUNNING. -/
theorem State.running_of_stepDue {op : Nat} (due : s.stepDue t op = true) : s.thState t = thRunning := by
  simp only [State.stepDue, State.stepsLeft, Bool.and_eq_true, beq_iff_eq] at due
  exact due.1.2.1

end

/-! ### The next step, and a thread that waits (R242, R248, R249) -/

section
variable (s : State) (t : Fin 4)

theorem State.thGoto_below {i : Nat} (h : i < 6144) : s.thGoto t i = s.put (SEQ_THR_STAT t) SEQ_THR_STAT_PC i :=
  if_neg (Nat.not_le.mpr h)
theorem State.thNext_below (h : s.thPc t + 1 < 6144) :
    s.thNext t = s.put (SEQ_THR_STAT t) SEQ_THR_STAT_PC (s.thPc t + 1) := s.thGoto_below t h

section
variable (h : s.thPc t + 1 < 6144)
include h

theorem State.thNext_pc : (s.thNext t).thPc t = s.thPc t + 1 := by
  rw [s.thNext_below t h]
  exact (State.get_put _ _ _ _ (by decide)).trans (Nat.mod_eq_of_lt (Nat.lt_trans h (by decide)))
/-- Every field of the thread but its step index stands. -/
theorem State.thNext_thrStat {f : Fld}
    (apart : SEQ_THR_STAT_PC.lo + SEQ_THR_STAT_PC.w ≤ f.lo ∨ f.lo + f.w ≤ SEQ_THR_STAT_PC.lo) :
    (s.thNext t).get (SEQ_THR_STAT t) f = s.get (SEQ_THR_STAT t) f := by
  rw [s.thNext_below t h]
  exact State.get_put_field _ _ _ _ _ apart
theorem State.thNext_seq : (s.thNext t).seq = s.seq := by rw [s.thNext_below t h]; rfl
theorem State.thNext_flt : (s.thNext t).flt = s.flt := by rw [s.thNext_below t h]; rfl
theorem State.thNext_frame : Frame [SEQ_THR_STAT t] [] s (s.thNext t) := by
  rw [s.thNext_below t h]
  exact .put _ _ .refl (by simp)

end

theorem State.setThState_thState {v : Nat} (h : v < 4) : (s.setThState t v).thState t = v :=
  (State.get_put _ _ _ _ (by decide)).trans (Nat.mod_eq_of_lt h)
theorem State.setThState_thPc (v : Nat) : (s.setThState t v).thPc t = s.thPc t := State.get_put_field _ _ _ _ _ (by decide)
theorem State.setThState_frame (v : Nat) : Frame [SEQ_THR_STAT t] [] s (s.setThState t v) := .put _ _ .refl (by simp)

theorem State.waitOver_thState (b : Bool) : (s.waitOver t b).thState t = thRunning :=
  State.setThState_thState _ _ (by decide)
theorem State.waitOver_thPc (b : Bool) : (s.waitOver t b).thPc t = s.thPc t :=
  (State.setThState_thPc _ _ _).trans (State.get_putB_field _ _ _ _ _ (by decide))
theorem State.waitOver_timeout (b : Bool) :
    (s.waitOver t b).get (SEQ_THR_STAT t) SEQ_THR_STAT_TO = if b then 1 else 0 :=
  (State.get_put_field _ _ _ _ _ (by decide)).trans (State.get_putB _ _ _ _ (by decide) (by decide))
theorem State.waitOver_frame (b : Bool) : Frame [SEQ_THR_STAT t] [] s (s.waitOver t b) :=
  .put _ _ (.putB _ _ .refl (by simp)) (by simp)

theorem State.waitAt_thState (w : Wait) (n : Nat) : (s.waitAt t w n).thState t = thWaiting :=
  State.setThState_thState _ _ (by decide)
theorem State.waitAt_thPc (w : Wait) (n : Nat) : (s.waitAt t w n).thPc t = s.thPc t := State.setThState_thPc _ _ _
theorem State.waitAt_thr (w : Wait) (n : Nat) : (s.waitAt t w n).seq.thr[t] =
    { s.seq.thr[t] with wait := w, waitAt := s.clk.frames, waitFor := n } :=
  State.updThr_thr s t fun x => { x with wait := w, waitAt := s.clk.frames, waitFor := n }
theorem State.waitAt_frame (w : Wait) (n : Nat) : Frame [SEQ_THR_STAT t] [.seq] s (s.waitAt t w n) :=
  .put _ _ (.updThr .refl (by decide)) (by simp)

end

/-! ### The end of a thread (R253, R254) -/

section
variable (s : State) (t : Fin 4) (code : Nat)

/-- The thread is shown IDLE with the code of its end. -/
def State.thShut : State :=
  ((s.thRaise t code).wr (SEQ_THR_STAT t) (setF (setF (setF ((s.thRaise t code).rd (SEQ_THR_STAT t)) SEQ_THR_STAT_STATE
    thIdle) SEQ_THR_STAT_DEPTH 0) SEQ_THR_STAT_END code)).updThr t (fun x => { x with stack := [] })

theorem State.upUnhold_frame : Frame [PATH_STAT] [.seq] s (s.upUnhold t) := by
  unfold State.upUnhold
  exact .ite (.putB _ _ (.updSeq .refl (by decide)) (by simp)) .refl
theorem State.upUnhold_fnEdge : (s.upUnhold t).seq.fnEdge = s.seq.fnEdge := by
  unfold State.upUnhold
  split <;> rfl
theorem State.upUnhold_flt : (s.upUnhold t).flt = s.flt := by
  unfold State.upUnhold
  split <;> rfl

/-- An end by another code than HALT's starts no minimum off time (R260). -/
theorem State.thEnd_eq (h : code ≠ 2) : s.thEnd t code = (s.thShut t code).upUnhold t := if_neg (by simp [h])

theorem State.thShut_frame : EventFrame [SEQ_THR_STAT t] [.seq] s (s.thShut t code) :=
  .updThr (.wr _ (.raise .refl (by omega)) (by simp)) (by decide)
theorem State.thShut_get (f : Fld) : (s.thShut t code).get (SEQ_THR_STAT t) f =
    getF (setF (setF (setF ((s.thRaise t code).rd (SEQ_THR_STAT t)) SEQ_THR_STAT_STATE thIdle) SEQ_THR_STAT_DEPTH 0)
      SEQ_THR_STAT_END code) f := State.get_wr_same _ _ _ _

section
variable (h : code ≠ 2)
include h

theorem State.thEnd_thrStat (f : Fld) :
    (s.thEnd t code).get (SEQ_THR_STAT t) f = (s.thShut t code).get (SEQ_THR_STAT t) f := by
  rw [s.thEnd_eq t code h]
  exact (State.upUnhold_frame _ t).get _ _ (by simpa using thrStat_ne_pathStat t)
theorem State.thEnd_thState : (s.thEnd t code).thState t = thIdle := by
  refine ((s.thEnd_thrStat t code h _).trans (s.thShut_get t code _)).trans ?_
  rw [getF_setF_ne _ _ _ _ (by decide), getF_setF_ne _ _ _ _ (by decide), getF_setF _ _ _ (by decide)]
  rfl
theorem State.thEnd_code (small : code < 16) : (s.thEnd t code).get (SEQ_THR_STAT t) SEQ_THR_STAT_END = code := by
  refine ((s.thEnd_thrStat t code h _).trans (s.thShut_get t code _)).trans ?_
  rw [getF_setF _ _ _ (by decide)]
  exact Nat.mod_eq_of_lt small
theorem State.thEnd_frame : EventFrame [SEQ_THR_STAT t, PATH_STAT] [.seq] s (s.thEnd t code) := by
  rw [s.thEnd_eq t code h]
  exact ((s.thShut_frame t code).mono (by simp) fun _ => id).trans
    (.of_frame ((State.upUnhold_frame _ t).mono (by simp) fun _ => id))
theorem State.thEnd_fnEdge : (s.thEnd t code).seq.fnEdge = s.seq.fnEdge := by
  rw [s.thEnd_eq t code h, State.upUnhold_fnEdge]
  exact (congrArg SeqSt.fnEdge (State.raise_seq s _ _ _ _) : (s.thRaise t code).seq.fnEdge = s.seq.fnEdge)
theorem State.thEnd_keepsRaised : KeepsRaised s (s.thEnd t code) := by
  rw [s.thEnd_eq t code h]
  exact (KeepsRaised.refl.raise.trans (.of_flt rfl)).trans (.of_flt (State.upUnhold_flt _ t))
theorem State.thEnd_raised : (s.thEnd t code).raisedCode (0x78 + t) code := by
  have told : (s.thShut t code).raisedCode (0x78 + t) code := State.raise_raised s _ _ _ _ (by omega)
  rw [s.thEnd_eq t code h]
  exact (KeepsRaised.of_flt (State.upUnhold_flt _ t)) _ _ told

end

end

end Sys2Proof.Machine
end

section
/-! PROOF. The steps that wait (R248, R249, R262): a step is spent against the starts of its frame settled, and the thread is
then held at it or goes on to the next. One lemma per row, and the statement. -/
namespace Sys2Proof.Machine
open Sys2Proof

/-! ### A wait that is over -/

section
variable (s : State) (t : Fin 4)

theorem State.waitOver_next_thPc (b : Bool) (inside : s.thPc t + 1 < 6144) :
    ((s.waitOver t b).thNext t).thPc t = s.thPc t + 1 := by
  rw [← s.waitOver_thPc t b] at inside ⊢
  exact State.thNext_pc _ t inside
theorem State.waitOver_next_thrStat (b : Bool) (inside : s.thPc t + 1 < 6144) {f : Fld}
    (apart : SEQ_THR_STAT_PC.lo + SEQ_THR_STAT_PC.w ≤ f.lo ∨ f.lo + f.w ≤ SEQ_THR_STAT_PC.lo) :
    ((s.waitOver t b).thNext t).get (SEQ_THR_STAT t) f = (s.waitOver t b).get (SEQ_THR_STAT t) f :=
  State.thNext_thrStat _ t (by rwa [s.waitOver_thPc t b]) apart

/-- A thread whose wait is over runs at its next step, and TO tells how the wait ended. -/
theorem State.waitOver_next_shows (b : Bool) (inside : s.thPc t + 1 < 6144) :
    ((s.waitOver t b).thNext t).thState t = thRunning ∧ ((s.waitOver t b).thNext t).thPc t = s.thPc t + 1 ∧
      ((s.waitOver t b).thNext t).get (SEQ_THR_STAT t) SEQ_THR_STAT_TO = (if b then 1 else 0) ∧
      Frame [SEQ_THR_STAT t] [] s ((s.waitOver t b).thNext t) :=
  ⟨(s.waitOver_next_thrStat t b inside (by decide)).trans (s.waitOver_thState t b), s.waitOver_next_thPc t b inside,
    (s.waitOver_next_thrStat t b inside (by decide)).trans (s.waitOver_timeout t b),
    (s.waitOver_frame t b).trans (State.thNext_frame _ t (by rwa [s.waitOver_thPc t b]))⟩

/-- A thread that passes a barrier runs at its next step, and the pass is kept with its frame (R262). -/
theorem State.barrierPass_shows (bar : Nat) (inside : s.thPc t + 1 < 6144) :
    (s.barrierPass t bar).thState t = thRunning ∧ (s.barrierPass t bar).thPc t = s.thPc t + 1 ∧
      (s.barrierPass t bar).seq.thr[t].passed = some (bar, s.clk.frames) ∧
      Frame [SEQ_THR_STAT t] [.seq] s (s.barrierPass t bar) := by
  have place : ((s.waitOver t false).updThr t fun x => { x with passed := some (bar, s.clk.frames) }).thPc t = s.thPc t :=
    s.waitOver_thPc t false
  have below := place.symm ▸ inside
  refine ⟨(State.thNext_thrStat _ t below (by decide)).trans (s.waitOver_thState t false),
    (State.thNext_pc _ t below).trans (congrArg (· + 1) place), ?_,
    Frame.trans (.updThr ((s.waitOver_frame t false).mono (fun _ => id) (by simp)) (by decide))
      ((State.thNext_frame _ t below).mono (fun _ => id) (by simp))⟩
  have kept : (s.barrierPass t bar).seq = _ := State.thNext_seq _ t below
  rw [kept, State.updThr_thr]

/-- A thread that is held stays at its step. -/
theorem State.waitAt_shows (w : Wait) (n : Nat) :
    (s.waitAt t w n).thState t = thWaiting ∧ (s.waitAt t w n).thPc t = s.thPc t ∧
      (s.waitAt t w n).seq.thr[t].wait = w ∧ (s.waitAt t w n).seq.thr[t].waitAt = s.clk.frames ∧
      (s.waitAt t w n).seq.thr[t].waitFor = n := by
  rw [s.waitAt_thr t w n]
  exact ⟨s.waitAt_thState t w n, s.waitAt_thPc t w n, rfl, rfl, rfl⟩

/-- What a step changes after it is spent is changed against the settled starts of its frame. -/
theorem State.stepSpent_then {R : List Nat} {P : List Part} {u : State} (h : Frame R P (s.stepSpent t) u)
    (sub : ∀ p, p ∈ P → p ∈ [Part.seq, .clk]) : Frame R [.seq, .clk] s.seqSettle u :=
  ((s.stepSpent_frame t).mono (by simp) fun _ => id).trans (h.mono (fun _ => id) sub)

/-! ### WAIT (R248) -/

theorem execWait_holds (due : s.stepDue t 4 = true) (long : stepFrames (s.stepWord t) ≠ 0) :
    Answers (.wait t) s fun u => u.thState t = thWaiting ∧ u.thPc t = s.thPc t ∧ u.seq.thr[t].wait = .time ∧
      u.seq.thr[t].waitAt = s.clk.frames ∧ u.seq.thr[t].waitFor = stepFrames (s.stepWord t) ∧
      Frame [SEQ_THR_STAT t] [.seq, .clk] s.seqSettle u := by
  have e : exec (.wait t) s = done ((s.stepSpent t).waitAt t .time (stepFrames (s.stepWord t))) :=
    congrArg done ((s.stepRow_due t due).trans (if_neg long))
  obtain ⟨state, pc, wait, since, frames⟩ := (s.stepSpent t).waitAt_shows t .time (stepFrames (s.stepWord t))
  exact ⟨_, e, state, pc.trans (s.stepSpent_thPc t), wait, since.trans (s.stepSpent_frames t), frames,
    s.stepSpent_then t (State.waitAt_frame _ t _ _) (by simp)⟩

section
variable (inside : s.thPc t + 1 < 6144)
include inside

/-- After a step is spent the thread has the same step to go on to. -/
theorem State.stepSpent_inside : (s.stepSpent t).thPc t + 1 < 6144 := (s.stepSpent_thPc t).symm ▸ inside

/-- A step that is spent and does nothing else lets the thread run on. -/
theorem State.stepSpent_next_shows {op : Nat} (due : s.stepDue t op = true) :
    ((s.stepSpent t).thNext t).thState t = thRunning ∧ ((s.stepSpent t).thNext t).thPc t = s.thPc t + 1 ∧
      Frame [SEQ_THR_STAT t] [.seq, .clk] s.seqSettle ((s.stepSpent t).thNext t) := by
  have below := s.stepSpent_inside t inside
  exact ⟨((State.thNext_thrStat _ t below (by decide)).trans (s.stepSpent_thrStat t _)).trans
      (s.running_of_stepDue t due),
    (State.thNext_pc _ t below).trans (congrArg (· + 1) (s.stepSpent_thPc t)),
    s.stepSpent_then t (State.thNext_frame _ t below) (by simp)⟩

theorem execWait_passes (due : s.stepDue t 4 = true) (short : stepFrames (s.stepWord t) = 0) :
    Answers (.wait t) s fun u => u.thState t = thRunning ∧ u.thPc t = s.thPc t + 1 ∧
      Frame [SEQ_THR_STAT t] [.seq, .clk] s.seqSettle u :=
  ⟨_, congrArg done ((s.stepRow_due t due).trans (if_pos short)), s.stepSpent_next_shows t inside due⟩

theorem execWaitExpiry_resumes (turn : s.seqTurn t = true) (held : s.thState t = thWaiting)
    (time : s.seq.thr[t].wait = .time) (elapsed : s.seq.thr[t].waitAt + s.seq.thr[t].waitFor ≤ s.clk.frames) :
    Answers (.waitExpiry t) s fun u => u.thState t = thRunning ∧ u.thPc t = s.thPc t + 1 ∧
      Frame [SEQ_THR_STAT t] [.seq, .clk] s.seqSettle u := by
  have due : (s.seqTurn t && s.thState t == thWaiting && s.seq.thr[t].wait == .time &&
      decide (s.seq.thr[t].waitAt + s.seq.thr[t].waitFor ≤ s.clk.frames)) = true := by
    simp [-Fin.getElem_fin, turn, held, time, elapsed]
  have e : exec (.waitExpiry t) s = done (((s.seqTake t).setThState t thRunning).thNext t) := congrArg done (if_pos due)
  have place : ((s.seqTake t).setThState t thRunning).thPc t = s.thPc t :=
    (State.setThState_thPc _ t _).trans (s.seqTake_thrStat t _)
  have below := place.symm ▸ inside
  exact ⟨_, e, (State.thNext_thrStat _ t below (by decide)).trans (State.setThState_thState _ t (by decide)),
    (State.thNext_pc _ t below).trans (congrArg (· + 1) place),
    ((s.seqTake_frame t).mono (by simp) fun _ => id).trans (((State.setThState_frame _ t _).trans
      (State.thNext_frame _ t below)).mono (fun _ => id) (by simp))⟩

/-! ### WAIT_UNTIL (R249) -/

/-- The spent step's wait is over without a timeout, or with one. -/
theorem State.stepSpent_waitOver_shows (b : Bool) :
    (((s.stepSpent t).waitOver t b).thNext t).thState t = thRunning ∧
      (((s.stepSpent t).waitOver t b).thNext t).thPc t = s.thPc t + 1 ∧
      (((s.stepSpent t).waitOver t b).thNext t).get (SEQ_THR_STAT t) SEQ_THR_STAT_TO = (if b then 1 else 0) ∧
      Frame [SEQ_THR_STAT t] [.seq, .clk] s.seqSettle (((s.stepSpent t).waitOver t b).thNext t) := by
  obtain ⟨state, pc, timeout, frame⟩ := (s.stepSpent t).waitOver_next_shows t b (s.stepSpent_inside t inside)
  exact ⟨state, pc.trans (congrArg (· + 1) (s.stepSpent_thPc t)), timeout, s.stepSpent_then t frame (by simp)⟩

theorem execWaitUntil_passes (due : s.stepDue t 5 = true)
    (holds : (s.stepSpent t).cond t (stepCond (s.stepWord t)) = true) :
    Answers (.waitUntil t) s fun u => u.thState t = thRunning ∧ u.thPc t = s.thPc t + 1 ∧
      u.get (SEQ_THR_STAT t) SEQ_THR_STAT_TO = 0 ∧ Frame [SEQ_THR_STAT t] [.seq, .clk] s.seqSettle u :=
  ⟨_, congrArg done ((s.stepRow_due t due).trans (if_pos holds)), s.stepSpent_waitOver_shows t inside false⟩

theorem execWaitUntilSatisfied_passes (due : s.waitDue t .until = true)
    (holds : s.cond t (stepCond (s.stepWord t)) = true) :
    Answers (.waitUntilSatisfied t) s fun u => u.thState t = thRunning ∧ u.thPc t = s.thPc t + 1 ∧
      u.get (SEQ_THR_STAT t) SEQ_THR_STAT_TO = 0 ∧ Frame [SEQ_THR_STAT t] [.seq, .clk] s.seqSettle u :=
  ⟨_, congrArg done (if_pos (by rw [due, holds]; rfl)), s.stepSpent_waitOver_shows t inside false⟩

/-! ### BARRIER (R262) -/

theorem State.stepSpent_barrierPass_shows (bar : Nat) :
    ((s.stepSpent t).barrierPass t bar).thState t = thRunning ∧
      ((s.stepSpent t).barrierPass t bar).thPc t = s.thPc t + 1 ∧
      ((s.stepSpent t).barrierPass t bar).seq.thr[t].passed = some (bar, s.clk.frames) ∧
      Frame [SEQ_THR_STAT t] [.seq, .clk] s.seqSettle ((s.stepSpent t).barrierPass t bar) := by
  obtain ⟨state, pc, passed, frame⟩ := (s.stepSpent t).barrierPass_shows t bar (s.stepSpent_inside t inside)
  rw [s.stepSpent_frames t] at passed
  exact ⟨state, pc.trans (congrArg (· + 1) (s.stepSpent_thPc t)), passed, s.stepSpent_then t frame (by simp)⟩

theorem execBarrier_passes (due : s.stepDue t 13 = true)
    (isOpen : (s.stepSpent t).barrierOpen (stepBits (s.stepWord t) 16 8) = true) :
    Answers (.barrier t) s fun u => u.thState t = thRunning ∧ u.thPc t = s.thPc t + 1 ∧
      u.seq.thr[t].passed = some (stepBits (s.stepWord t) 16 8, s.clk.frames) ∧
      Frame [SEQ_THR_STAT t] [.seq, .clk] s.seqSettle u :=
  ⟨_, congrArg done ((s.stepRow_due t due).trans (if_pos isOpen)), s.stepSpent_barrierPass_shows t inside _⟩

theorem execBarrierPass_passes (due : s.waitDue t .barrier = true)
    (isOpen : s.barrierOpen (stepBits (s.stepWord t) 16 8) = true) :
    Answers (.barrierPass t) s fun u => u.thState t = thRunning ∧ u.thPc t = s.thPc t + 1 ∧
      u.seq.thr[t].passed = some (stepBits (s.stepWord t) 16 8, s.clk.frames) ∧
      Frame [SEQ_THR_STAT t] [.seq, .clk] s.seqSettle u :=
  ⟨_, congrArg done (if_pos (by rw [due, isOpen]; rfl)), s.stepSpent_barrierPass_shows t inside _⟩

end

theorem execWaitUntil_holds (due : s.stepDue t 5 = true)
    (fails : (s.stepSpent t).cond t (stepCond (s.stepWord t)) = false) :
    Answers (.waitUntil t) s fun u => u.thState t = thWaiting ∧ u.thPc t = s.thPc t ∧ u.seq.thr[t].wait = .until ∧
      u.seq.thr[t].waitAt = s.clk.frames ∧ Frame [SEQ_THR_STAT t] [.seq, .clk] s.seqSettle u := by
  have e : exec (.waitUntil t) s = done ((s.stepSpent t).waitAt t .until (stepFrames (s.stepWord t))) :=
    congrArg done ((s.stepRow_due t due).trans (if_neg (by simp [fails])))
  obtain ⟨state, pc, wait, since, -⟩ := (s.stepSpent t).waitAt_shows t .until (stepFrames (s.stepWord t))
  exact ⟨_, e, state, pc.trans (s.stepSpent_thPc t), wait, since.trans (s.stepSpent_frames t),
    s.stepSpent_then t (State.waitAt_frame _ t _ _) (by simp)⟩

theorem execBarrier_holds (due : s.stepDue t 13 = true)
    (shut : (s.stepSpent t).barrierOpen (stepBits (s.stepWord t) 16 8) = false) :
    Answers (.barrier t) s fun u => u.thState t = thWaiting ∧ u.thPc t = s.thPc t ∧ u.seq.thr[t].wait = .barrier ∧
      Frame [SEQ_THR_STAT t] [.seq, .clk] s.seqSettle u := by
  have e : exec (.barrier t) s = done ((s.stepSpent t).waitAt t .barrier (stepFrames (s.stepWord t))) :=
    congrArg done ((s.stepRow_due t due).trans (if_neg (by simp [shut])))
  obtain ⟨state, pc, wait, -⟩ := (s.stepSpent t).waitAt_shows t .barrier (stepFrames (s.stepWord t))
  exact ⟨_, e, state, pc.trans (s.stepSpent_thPc t), wait, s.stepSpent_then t (State.waitAt_frame _ t _ _) (by simp)⟩

/-! ### Timeouts (R249) -/

/-- A snapshot writes the chain's number and SNAP_BUSY, or tells that it is skipped. -/
theorem State.snapshot_frame (esn tag hi : Nat) (h : esn < 256) :
    EventFrame [PLATE_CHAIN, PLATE_STAT] [] s (s.snapshot esn tag hi) := by
  unfold State.snapshot
  exact .ite (.raise .refl h) (.putB _ _ (.put _ _ (.updPlate .refl) (by simp)) (by simp))

/-- The thread goes on after a timeout: it is told, and of DOWN and FAULT a snapshot is taken first (R249). -/
def State.timeoutTold : State :=
  if t = thDown ∨ t = thFault then (s.snapshot (0x78 + t) 0xFFFF (s.thPc t)).thRaise t 5 else s.thRaise t 5

theorem State.timeoutTold_frame : EventFrame [PLATE_CHAIN, PLATE_STAT] [] s (s.timeoutTold t) :=
  .ite (.raise (s.snapshot_frame _ _ _ (by omega)) (by omega)) (.raise .refl (by omega))
theorem State.timeoutTold_raised : (s.timeoutTold t).raisedCode (0x78 + t) 5 := by
  unfold State.timeoutTold
  split <;> exact State.raise_raised _ _ _ _ _ (by omega)
theorem State.timeoutTold_thrStat (f : Fld) : (s.timeoutTold t).get (SEQ_THR_STAT t) f = s.get (SEQ_THR_STAT t) f :=
  (s.timeoutTold_frame t).get _ _ (by simpa using ⟨thrStat_ne_plateChain t, thrStat_ne_plateStat t⟩)
    (offEvents_thrStat t)

section
variable (due : s.waitDue t .until = true) (bounded : s.seq.thr[t].waitFor ≠ 0)
  (elapsed : s.seq.thr[t].waitAt + s.seq.thr[t].waitFor ≤ s.clk.frames)
  (fails : s.cond t (stepCond (s.stepWord t)) = false)
include due bounded elapsed fails

/-- The evaluation at which the wait runs out. -/
theorem State.waitTimeout_due : ((s.waitDue t .until || s.waitDue t .barrier) && s.seq.thr[t].waitFor != 0 &&
    decide (s.seq.thr[t].waitAt + s.seq.thr[t].waitFor ≤ s.clk.frames) && !s.waitMet t) = true := by
  have wait : s.seq.thr[t].wait = .until := by
    simp only [State.waitDue, Bool.and_eq_true, beq_iff_eq] at due
    exact due.1.1.2
  have unmet : s.waitMet t = false := by
    unfold State.waitMet
    rw [wait]
    exact fails
  simp [-Fin.getElem_fin, due, bounded, elapsed, unmet]

theorem execWaitTimeout_ends (act : stepToAct (s.stepWord t) = true) (down : t ≠ thDown) (fault : t ≠ thFault) :
    Answers (.waitTimeout t) s fun u => u.thState t = thIdle ∧ u.get (SEQ_THR_STAT t) SEQ_THR_STAT_END = 6 ∧
      u.raisedCode (0x78 + t) 6 ∧ EventFrame [SEQ_THR_STAT t, PATH_STAT] [.seq, .clk] s.seqSettle u := by
  have e : exec (.waitTimeout t) s = done (((s.stepSpent t).waitOver t true).thEnd t 6) :=
    congrArg done ((if_pos (s.waitTimeout_due t due bounded elapsed fails)).trans
      ((if_neg (by simp [down, fault])).trans (if_pos act)))
  have timeout : EventFrame [SEQ_THR_STAT t, PATH_STAT] [.seq, .clk] s.seqSettle ((s.stepSpent t).waitOver t true) :=
    .of_frame ((s.stepSpent_then t (State.waitOver_frame _ t true) (by simp)).mono (by simp) fun _ => id)
  exact ⟨_, e, State.thEnd_thState _ t 6 (by decide), State.thEnd_code _ t 6 (by decide) (by decide),
    State.thEnd_raised _ t 6 (by decide),
    timeout.trans ((State.thEnd_frame _ t 6 (by decide)).mono (fun _ => id) (by simp))⟩

theorem execWaitTimeout_goesOn (inside : s.thPc t + 1 < 6144)
    (cont : stepToAct (s.stepWord t) = false ∨ t = thDown ∨ t = thFault) :
    Answers (.waitTimeout t) s fun u => u.thState t = thRunning ∧ u.thPc t = s.thPc t + 1 ∧
      u.get (SEQ_THR_STAT t) SEQ_THR_STAT_TO = 1 ∧ u.raisedCode (0x78 + t) 5 ∧
      EventFrame [SEQ_THR_STAT t, PLATE_CHAIN, PLATE_STAT] [.seq, .clk] s.seqSettle u := by
  have e : exec (.waitTimeout t) s = done ((((s.stepSpent t).waitOver t true).timeoutTold t).thNext t) := by
    refine congrArg done ((if_pos (s.waitTimeout_due t due bounded elapsed fails)).trans ?_)
    unfold State.timeoutTold
    by_cases strong : t = thDown ∨ t = thFault
    · rw [if_pos strong]
      exact if_pos (by simpa using strong)
    · have away : stepToAct (s.stepWord t) = false := cont.resolve_right strong
      rw [if_neg strong]
      exact (if_neg (by simpa using strong)).trans (if_neg (by simp [away]))
  have told (f : Fld) := ((s.stepSpent t).waitOver t true).timeoutTold_thrStat t f
  have place : (((s.stepSpent t).waitOver t true).timeoutTold t).thPc t = s.thPc t :=
    ((told _).trans (State.waitOver_thPc _ t true)).trans (s.stepSpent_thPc t)
  have below := place.symm ▸ inside
  have waited : EventFrame [SEQ_THR_STAT t, PLATE_CHAIN, PLATE_STAT] [.seq, .clk] s.seqSettle
      ((s.stepSpent t).waitOver t true) :=
    .of_frame ((s.stepSpent_then t (State.waitOver_frame _ t true) (by simp)).mono (by simp) fun _ => id)
  exact ⟨_, e, ((State.thNext_thrStat _ t below (by decide)).trans (told _)).trans (State.waitOver_thState _ t true),
    (State.thNext_pc _ t below).trans (congrArg (· + 1) place),
    ((State.thNext_thrStat _ t below (by decide)).trans (told _)).trans (State.waitOver_timeout _ t true),
    (KeepsRaised.of_flt (State.thNext_flt _ t below)) _ _ (State.timeoutTold_raised _ t),
    (waited.trans ((State.timeoutTold_frame _ t).mono (by simp) (by simp))).trans
      (.of_frame ((State.thNext_frame _ t below).mono (by simp) (by simp)))⟩

end

end

/-- Settles O30: each row is a step that is spent, or a wait that is judged, and then a thread held at its step
(`State.waitAt_shows`) or gone on to the next (`State.thNext_pc`), changed against the settled starts of its frame. -/
theorem stencilWaits : Obligations.StencilWaits := fun s t inside =>
  ⟨execWait_holds s t, execWait_passes s t inside, execWaitExpiry_resumes s t inside, execWaitUntil_passes s t inside,
    execWaitUntil_holds s t, execWaitUntilSatisfied_passes s t inside, execBarrier_passes s t inside,
    execBarrier_holds s t, execBarrierPass_passes s t inside, fun due bounded elapsed fails =>
      ⟨execWaitTimeout_ends s t due bounded elapsed fails,
        execWaitTimeout_goesOn s t due bounded elapsed fails inside⟩⟩

end Sys2Proof.Machine
end

section
/-! PROOF. Writes of the stencil store and of its labels (R83, R242, R264, R448): each passes the unlock rule, is measured,
and is then judged at its target. -/
namespace Sys2Proof.Machine
open Sys2Proof

/-! ### Registers of the store -/

theorem STEP_named (i : Fin 6144) : regAt (STEP i) = some (regDefSTEP, [i.val]) := by
  have own : regDefSTEP.index (STEP i) = some [i.val] := index_of_array (d := regDefSTEP) rfl i.isLt (by decide)
  unfold regAt
  rw [(STEP_protected i).2]
  change findIn (STEP i) (regDefSTEP :: _) = _
  rw [findIn, own]
theorem SEQ_LABEL_named (k : Fin 64) : regAt (SEQ_LABEL k) = some (regDefSEQ_LABEL, [k.val]) := by
  revert k
  decide
theorem offEvents_step (i : Nat) : offEvents (STEP i) := offEvents_above (by unfold STEP; omega)
theorem step_inStore (i : Fin 6144) : STEP i < STEP 6144 ∧ STEP 0 ≤ STEP i := by unfold STEP; omega
theorem label_offStore (k : Fin 64) : ¬(SEQ_LABEL k < STEP 6144 ∧ STEP 0 ≤ SEQ_LABEL k) := by
  unfold SEQ_LABEL STEP
  omega

section
variable (s : State)

/-! ### The store and the labels judge a write (R242, R264) -/

theorem State.regWrite_STEP (i : Fin 6144) (v : Word) :
    s.regWrite 12 (STEP i) regDefSTEP [i.val] v = s.storeWrite i v := by
  have place : finOf 6144 i.val = i := Fin.ext (Nat.mod_eq_of_lt i.isLt)
  unfold State.regWrite
  rw [State.lock_of_open _ _ _ (by decide)]
  exact (if_pos ⟨rfl, i.isLt⟩).trans (congrArg (s.storeWrite · v) place)
theorem State.regWrite_SEQ_LABEL (k : Fin 64) (v : Word) :
    s.regWrite 12 (SEQ_LABEL k) regDefSEQ_LABEL [k.val] v = s.labelWrite k v := by
  have place : finOf 64 k.val = k := Fin.ext (Nat.mod_eq_of_lt k.isLt)
  have other : ¬(SEQ_LABEL k = STEP k ∧ k.val < 6144) := fun e => absurd e.1 (by unfold SEQ_LABEL STEP; omega)
  unfold State.regWrite
  rw [State.lock_of_open _ _ _ (by decide)]
  exact ((if_neg other).trans (if_pos rfl)).trans (congrArg (s.labelWrite · v) place)

theorem State.storeIgnored_frame : EventFrame [SEQ_STAT] [] s s.storeIgnored :=
  .raise (.putB _ _ .refl (by decide)) (by decide)
theorem State.storeIgnored_shown : s.storeIgnored.get SEQ_STAT SEQ_STAT_WR_IGN = 1 :=
  (State.get_raise_off _ _ _ _ _ _ _ (by decide) (by decide)).trans (State.get_putB _ _ _ _ (by decide) (by decide))
theorem State.storeIgnored_raised : s.storeIgnored.raisedCode 0x7F 3 := State.raise_raised _ _ _ _ _ (by decide)
theorem State.storeIgnored_mr : s.storeIgnored.mr = s.mr := State.raise_mr _ _ _ _ _

theorem State.storeWrite_takes (i : Fin 6144) {v : Word} (idle : ∀ h : Fin 4, s.thState h = thIdle)
    (ok : stepOk v = true) : s.storeWrite i v = s.wr (STEP i) (stepHeld v) := if_pos (by simp [idle, ok])
theorem State.storeWrite_ignores (i : Fin 6144) {v : Word}
    (h : (∃ h : Fin 4, s.thState h ≠ thIdle) ∨ stepOk v = false) :
    s.storeWrite i v = s.storeIgnored := by
  refine if_neg fun both => ?_
  obtain ⟨idle, ok⟩ := Bool.and_eq_true_iff.mp both
  obtain ⟨k, busy⟩ | bad := h
  · exact busy (by simpa using List.all_eq_true.mp idle k (List.mem_finRange k))
  · simp [bad] at ok

/-! ### A write that the unlock rule passes is measured first (R83, R448) -/

theorem State.measure_store_mr (i : Fin 6144) (v : Word) : (s.measure (STEP i) v).mr[3] =
    digestBV (sha256 (bytesLE 32 s.mr[3].toNat ++ sha256 (bytesLE 4 i.val ++ bytesLE 4 v.toNat))) := by
  have place : (STEP i - STEP 0) / 4 = i.val := by unfold STEP; omega
  unfold State.measure measRecord
  rw [State.raise_mr, if_pos (step_inStore i), if_pos (step_inStore i), place]
  exact Vector.getElem_set_self _
theorem State.measure_store_frame (i : Fin 6144) (v : Word) : EventFrame [mrCnt 3] [.mr] s (s.measure (STEP i) v) := by
  unfold State.measure
  rw [if_pos (step_inStore i)]
  exact .raise (.of_frame (s.extend_frame 3 _)) (by decide)

/-- A write of the store as it reaches its target: the window is timed anew, and MR3 is extended. -/
def State.storeMeasured (i : Fin 6144) (v : Word) : State := (s.windowSet s.actSrc 12).measure (STEP i) v
/-- A write of a label as it reaches its target. -/
def State.labelMeasured (k : Fin 64) (v : Word) : State := (s.windowSet s.actSrc 12).measure (SEQ_LABEL k) v

theorem State.storeMeasured_frame (i : Fin 6144) (v : Word) :
    EventFrame [SYS_UNL_STAT, mrCnt 3] [.mr, .sys] s (s.storeMeasured i v) :=
  (EventFrame.of_frame ((s.windowSet_frame _ _).mono (by simp) (by simp))).trans
    ((State.measure_store_frame _ i v).mono (by simp) (by simp))
theorem State.labelMeasured_frame (k : Fin 64) (v : Word) :
    EventFrame [SYS_UNL_STAT, mrCnt 2] [.mr, .sys] s (s.labelMeasured k v) :=
  (EventFrame.of_frame ((s.windowSet_frame _ _).mono (by simp) (by simp))).trans
    ((State.measure_frame _ _ v (label_offStore k)).mono (by simp) (by simp))
theorem State.storeMeasured_thState (i : Fin 6144) (v : Word) (h : Fin 4) : (s.storeMeasured i v).thState h = s.thState h :=
  (s.storeMeasured_frame i v).get _ _ (by
    simp only [List.mem_cons, List.not_mem_nil, or_false, not_or]
    unfold SEQ_THR_STAT SYS_UNL_STAT mrCnt
    omega) (offEvents_thrStat h)

theorem execStencilStoreWrite_eq (run : s.burinReaches = true) (i : Fin 6144) (v : Word)
    (passed : s.protBlocked s.actSrc 12 = none) :
    exec (.stencilStoreWrite i v) s = done ((s.storeMeasured i v).storeWrite i v) := by
  have made := s.busWrite_made v (STEP_protected i).2 (STEP_named i) rfl (by decide) passed
  exact (congrArg done (if_pos run)).trans (congrArg done (made.trans (State.regWrite_STEP _ i v)))
theorem execLabelWrite_eq (k : Fin 64) (v : Word) (unlocked : s.Unlocked 12) :
    exec (.labelWrite k v) s = done ((s.labelMeasured k v).labelWrite k v) := by
  obtain ⟨run, passed⟩ := unlocked
  have made := s.busWrite_made v (SEQ_LABEL_protected k).2 (SEQ_LABEL_named k) rfl (by decide) passed
  exact (congrArg done (if_pos run)).trans (congrArg done (made.trans (State.regWrite_SEQ_LABEL _ k v)))

/-! ### Labels (R242) -/

theorem execLabelWrite_takes (k : Fin 64) (v : Word) (unlocked : s.Unlocked 12) (inside : getF v SEQ_LABEL_STEP < 6144) :
    Answers (.labelWrite k v) s fun u => u.get (SEQ_LABEL k) SEQ_LABEL_STEP = getF v SEQ_LABEL_STEP ∧
      EventFrame [SEQ_LABEL k, SYS_UNL_STAT, mrCnt 2] [.sys, .mr] s u := by
  refine ⟨_, (execLabelWrite_eq s k v unlocked).trans (congrArg done (if_pos inside)), ?_,
    .wr _ ((s.labelMeasured_frame k v).mono (by simp) (by simp)) (by simp)⟩
  rw [State.get_wr_same, getF_setF _ _ _ (by decide)]
  exact Nat.mod_eq_of_lt (Nat.lt_trans inside (by decide))
theorem execLabelWrite_ignores (k : Fin 64) (v : Word) (unlocked : s.Unlocked 12)
    (beyond : 6144 ≤ getF v SEQ_LABEL_STEP) :
    Answers (.labelWrite k v) s fun u => u.get SEQ_STAT SEQ_STAT_WR_IGN = 1 ∧ u.raisedCode 0x7F 3 ∧
      EventFrame [SEQ_STAT, SYS_UNL_STAT, mrCnt 2] [.sys, .mr] s u :=
  ⟨_, (execLabelWrite_eq s k v unlocked).trans (congrArg done (if_neg (Nat.not_lt.mpr beyond))),
    State.storeIgnored_shown _, State.storeIgnored_raised _,
    ((s.labelMeasured_frame k v).mono (by simp) (by simp)).trans ((State.storeIgnored_frame _).mono (by simp) (by simp))⟩

/-! ### Steps (R264) -/

/-- The source's own window for the sequencer's block passes its writes. -/
theorem State.protBlocked_own (lock : s.get SYS_PROT SYS_PROT_LOCK = 0) {u : Nat}
    (stands : s.sys.window = some ⟨s.actSrc, 12, u⟩) (ahead : s.opt.ms < u) : s.protBlocked s.actSrc 12 = none := by
  have current : s.windowNow = some ⟨s.actSrc, 12, u⟩ := by simp [State.windowNow, stands, ahead]
  simp [s.protBlocked_open _ _ _ lock current]

section
variable (run : s.burinReaches = true) (lock : s.get SYS_PROT SYS_PROT_LOCK = 0) (i : Fin 6144) (v : Word)
include run lock

theorem execStencilStoreWrite_refused (closed : s.sys.window = none) :
    Answers (.stencilStoreWrite i v) s fun t => t.get SYS_UNL_STAT SYS_UNL_STAT_REFUSED = 1 ∧ t.raisedCode 0x86 1 ∧
      EventFrame [SYS_UNL_STAT] [] s t := by
  have away : s.windowNow = none := by simp [State.windowNow, closed]
  exact s.answers_protRefused (congrArg done (if_pos run)) (STEP_protected i).1 (STEP_protected i).2 (by decide)
    (s.protBlocked_closed _ _ lock away)

section
variable (u : Nat) (stands : s.sys.window = some ⟨s.actSrc, 12, u⟩) (ahead : s.opt.ms < u)
include stands ahead

theorem execStencilStoreWrite_takes (idle : ∀ h : Fin 4, s.thState h = thIdle) (ok : stepOk v = true) :
    Answers (.stencilStoreWrite i v) s fun t => t.rd (STEP i) = stepHeld v ∧ t.raisedCode 0x15 4 ∧
      t.mr[3] = digestBV (sha256 (bytesLE 32 s.mr[3].toNat ++ sha256 (bytesLE 4 i.val ++ bytesLE 4 v.toNat))) ∧
      EventFrame [STEP i, SYS_UNL_STAT, mrCnt 3] [.mr, .sys] s t := by
  have taken := (s.storeMeasured i v).storeWrite_takes i (fun h => (s.storeMeasured_thState i v h).trans (idle h)) ok
  have passed := s.protBlocked_own lock stands ahead
  exact ⟨_, (execStencilStoreWrite_eq s run i v passed).trans (congrArg done taken), State.rd_wr_same _ _ _,
    (KeepsRaised.of_flt rfl) _ _ (State.measure_raised _ _ _), State.measure_store_mr _ i v,
    .wr _ ((s.storeMeasured_frame i v).mono (by simp) fun _ => id) List.mem_cons_self⟩

theorem execStencilStoreWrite_ignores (h : (∃ h : Fin 4, s.thState h ≠ thIdle) ∨ stepOk v = false) :
    Answers (.stencilStoreWrite i v) s fun t =>
      t.rd (STEP i) = s.rd (STEP i) ∧ t.get SEQ_STAT SEQ_STAT_WR_IGN = 1 ∧ t.raisedCode 0x7F 3 ∧
      t.mr[3] = digestBV (sha256 (bytesLE 32 s.mr[3].toNat ++ sha256 (bytesLE 4 i.val ++ bytesLE 4 v.toNat))) ∧
      EventFrame [SEQ_STAT, SYS_UNL_STAT, mrCnt 3] [.mr, .sys] s t := by
  have passed := s.protBlocked_own lock stands ahead
  have ignored := (s.storeMeasured i v).storeWrite_ignores i (v := v) (h.imp_left fun ⟨k, busy⟩ =>
    ⟨k, by rwa [s.storeMeasured_thState i v k]⟩)
  have frame : EventFrame [SEQ_STAT, SYS_UNL_STAT, mrCnt 3] [.mr, .sys] s (s.storeMeasured i v).storeIgnored :=
    ((s.storeMeasured_frame i v).mono (by simp) fun _ => id).trans ((State.storeIgnored_frame _).mono (by simp) (by simp))
  have apart : STEP i ∉ [SEQ_STAT, SYS_UNL_STAT, mrCnt 3] := by
    simp only [List.mem_cons, List.not_mem_nil, or_false, not_or]
    unfold STEP SEQ_STAT SYS_UNL_STAT mrCnt
    omega
  refine ⟨_, (execStencilStoreWrite_eq s run i v passed).trans (congrArg done ignored),
    frame.rd _ apart (offEvents_step i), State.storeIgnored_shown _, State.storeIgnored_raised _, ?_, frame⟩
  rw [State.storeIgnored_mr]
  exact State.measure_store_mr _ i v

end

end

end

/-- Settles O49: a write inside its window comes to `State.storeWrite` after it is measured, and one outside is refused by
the unlock rule (`State.answers_protRefused`). -/
theorem stencilStore : Obligations.StencilStore := fun s i v run lock =>
  ⟨execStencilStoreWrite_refused s run lock i v, fun u stands ahead =>
    ⟨execStencilStoreWrite_takes s run lock i v u stands ahead,
      execStencilStoreWrite_ignores s run lock i v u stands ahead⟩⟩

end Sys2Proof.Machine
end

section
/-! SUPPORT. Starts of threads (R254 to R260): what a start leaves of its thread, of the threads that it ends, and what the
settling of a start tells. -/
namespace Sys2Proof.Machine
open Sys2Proof

/-! ### A thread begins at a label (R242, R254) -/

section
variable (s : State) (t : Fin 4) (l : Nat)

@[simp] theorem State.updSeq_thState (f : SeqSt → SeqSt) : (s.updSeq f).thState t = s.thState t := rfl
@[simp] theorem State.updSeq_thPc (f : SeqSt → SeqSt) : (s.updSeq f).thPc t = s.thPc t := rfl
/-- What is noted of a start, beside the registers and in SEQ_STAT, leaves what the threads show. -/
theorem State.updSeq_putB_thrStat (f : SeqSt → SeqSt) (g x : Fld) (b : Bool) :
    ((s.updSeq f).putB SEQ_STAT g b).get (SEQ_THR_STAT t) x = s.get (SEQ_THR_STAT t) x :=
  State.get_putB_ne _ _ _ _ _ _ (thrStat_ne_seqStat t)

theorem State.thEnter_get (f : Fld) : (s.thEnter t l).get (SEQ_THR_STAT t) f =
    getF (setF (setF (setF (setF (s.rd (SEQ_THR_STAT t)) SEQ_THR_STAT_STATE thRunning) SEQ_THR_STAT_DEPTH 0)
      SEQ_THR_STAT_COMMITTED 0) SEQ_THR_STAT_PC (s.labelStep l)) f := State.get_wr_same _ _ _ _
theorem State.thEnter_thState : (s.thEnter t l).thState t = thRunning := by
  refine (s.thEnter_get t l _).trans ?_
  rw [getF_setF_ne _ _ _ _ (by decide), getF_setF_ne _ _ _ _ (by decide), getF_setF_ne _ _ _ _ (by decide),
    getF_setF _ _ _ (by decide)]
  rfl
theorem State.thEnter_thPc (inside : s.labelStep l < 6144) : (s.thEnter t l).thPc t = s.labelStep l := by
  refine (s.thEnter_get t l _).trans ?_
  rw [getF_setF _ _ _ (by decide)]
  exact Nat.mod_eq_of_lt (Nat.lt_trans inside (by decide))
theorem State.thEnter_stack : (s.thEnter t l).seq.thr[t].stack = [] :=
  congrArg ThrSt.stack (State.updThr_thr (s.wr _ _) t fun x => { x with stack := [] })
theorem State.thEnter_frame : Frame [SEQ_THR_STAT t] [.seq] s (s.thEnter t l) := by
  unfold State.thEnter
  exact .updThr (.wr _ .refl (by simp)) (by decide)

theorem State.thBegin_thState : (s.thBegin t l).thState t = thRunning :=
  (State.raise_thrStat _ _ _ _ _ t _ (by omega)).trans (s.thEnter_thState t l)
theorem State.thBegin_thPc (inside : s.labelStep l < 6144) : (s.thBegin t l).thPc t = s.labelStep l :=
  (State.raise_thrStat _ _ _ _ _ t _ (by omega)).trans (s.thEnter_thPc t l inside)
theorem State.thBegin_stack : (s.thBegin t l).seq.thr[t].stack = [] := by
  rw [State.thBegin, State.raise_seq]
  exact s.thEnter_stack t l
theorem State.thBegin_raised : (s.thBegin t l).raisedCode (0x78 + t) 1 := State.raise_raised _ _ _ _ _ (by omega)
theorem State.thBegin_frame : EventFrame [SEQ_THR_STAT t] [.seq] s (s.thBegin t l) :=
  .raise (.of_frame (s.thEnter_frame t l)) (by omega)

end

/-! ### UP is held, or runs (R184, R257, R259) -/

section
variable (s : State)

/-- What the last tick latched decides whether VSYS lets UP start. -/
theorem State.vsysStarts_of_snap {u : State} (h : u.snap = s.snap) : u.vsysStarts = s.vsysStarts := by
  unfold State.vsysStarts State.latchedF State.latched
  rw [h]
theorem State.labelStep_of_snap {u : State} (h : u.snap = s.snap) (l : Nat) : u.labelStep l = s.labelStep l := by
  unfold State.labelStep State.latchedF State.latched
  rw [h]
/-- A begin of UP leaves what holds it. -/
theorem State.thBegin_vsysStarts (t : Fin 4) (l : Nat) : (s.thBegin t l).vsysStarts = s.vsysStarts :=
  s.vsysStarts_of_snap ((s.thBegin_frame t l).same .snap (by decide) (by decide))
theorem State.fnHolds_of_frame {R : List Nat} {P : List Part} {u : State} (h : EventFrame R P s u) (fn : SEQ_FN ∉ R)
    (stat : u.get SEQ_STAT SEQ_STAT_FN_IN = s.get SEQ_STAT SEQ_STAT_FN_IN) : u.fnHolds = s.fnHolds := by
  unfold State.fnHolds
  rw [h.flag SEQ_FN _ fn (offEvents_of_page (by decide)), u.flag_eq, stat]
  rfl

theorem State.upHold_free (vsys : s.vsysStarts = true) (fn : s.fnHolds = false) :
    s.upHold = s.updSeq fun q => { q with heldVsys := false, heldFn := false } := by
  simp [State.upHold, vsys, fn]

/-- UP is held by VSYS, and the hold is told. -/
def State.vsysTold : State :=
  ((s.updSeq fun q => { q with heldVsys := true, heldFn := s.fnHolds }).putB PATH_STAT PATH_STAT_UP_INHIB true).raise 0x4D 0
/-- A hold by FAULT_N is told besides. -/
def State.holdTold : State := if s.fnHolds then s.vsysTold.raise 0x7C 4 else s.vsysTold

theorem State.upHold_low (vsys : s.vsysStarts = false) : s.upHold = s.holdTold.setThState thUp thHeld := by
  simp [State.upHold, vsys, State.holdTold, State.vsysTold]

theorem State.vsysTold_frame : EventFrame [PATH_STAT] [.seq] s s.vsysTold :=
  .raise (.putB _ _ (.updSeq .refl (by decide)) (by simp)) (by decide)
theorem State.holdTold_frame : EventFrame [PATH_STAT] [.seq] s s.holdTold := by
  unfold State.holdTold
  exact .ite (.raise s.vsysTold_frame (by decide)) s.vsysTold_frame
theorem State.holdTold_of_vsysTold : KeepsRaised s.vsysTold s.holdTold := .ite (.raise .refl) .refl
theorem State.holdTold_keepsRaised : KeepsRaised s s.holdTold :=
  (KeepsRaised.raise (.of_flt rfl) : KeepsRaised s s.vsysTold).trans s.holdTold_of_vsysTold
theorem State.holdTold_raised : s.holdTold.raisedCode 0x4D 0 :=
  s.holdTold_of_vsysTold _ _ (State.raise_raised _ _ _ _ _ (by decide))
theorem State.holdTold_seq : s.holdTold.seq = { s.seq with heldVsys := true, heldFn := s.fnHolds } := by
  have vsys : s.vsysTold.seq = { s.seq with heldVsys := true, heldFn := s.fnHolds } := State.raise_seq _ _ _ _ _
  unfold State.holdTold
  split
  · rw [State.raise_seq, vsys]
  · exact vsys
theorem State.holdTold_inhibit : s.holdTold.get PATH_STAT PATH_STAT_UP_INHIB = 1 := by
  have vsys : s.vsysTold.get PATH_STAT PATH_STAT_UP_INHIB = 1 :=
    (State.get_raise_off _ _ _ _ _ _ _ (by decide) (by decide)).trans (State.get_putB _ _ _ _ (by decide) (by decide))
  unfold State.holdTold
  split
  · exact (State.get_raise_off _ _ _ _ _ _ _ (by decide) (by decide)).trans vsys
  · exact vsys

end

/-! ### UP and USER end with a start of DOWN or FAULT (R254, R265) -/

section
variable (s : State) (t : Fin 4)

/-- A thread that has begun is ended with code 4. -/
def State.thCleared : State := if s.thState t = thIdle then s else s.thEnd t 4

theorem State.thCleared_thState : (s.thCleared t).thState t = thIdle := by
  unfold State.thCleared
  split
  · assumption
  · exact s.thEnd_thState t 4 (by decide)
theorem State.thCleared_frame : EventFrame [SEQ_THR_STAT t, PATH_STAT] [.seq] s (s.thCleared t) :=
  .ite .refl (s.thEnd_frame t 4 (by decide))
theorem State.thCleared_keepsRaised : KeepsRaised s (s.thCleared t) := .ite .refl (s.thEnd_keepsRaised t 4 (by decide))
theorem State.thCleared_raised (begun : s.thState t ≠ thIdle) : (s.thCleared t).raisedCode (0x78 + t) 4 := by
  rw [State.thCleared, if_neg begun]
  exact s.thEnd_raised t 4 (by decide)
theorem State.thCleared_fnEdge : (s.thCleared t).seq.fnEdge = s.seq.fnEdge := by
  unfold State.thCleared
  split
  · rfl
  · exact s.thEnd_fnEdge t 4 (by decide)

/-- The registers that a start of DOWN or FAULT writes for the threads that it ends. -/
def preemptRegs : List Nat := [SEQ_THR_STAT thUp, SEQ_THR_STAT thUser, PATH_STAT]

theorem State.preempt_eq : s.preempt = (s.thCleared thUp).thCleared thUser := rfl
theorem State.preempt_frame : EventFrame preemptRegs [.seq] s s.preempt := by
  rw [s.preempt_eq]
  exact ((s.thCleared_frame thUp).mono (by decide) fun _ => id).trans
    ((State.thCleared_frame _ thUser).mono (by decide) fun _ => id)
theorem State.preempt_user : s.preempt.thState thUser = thIdle := State.thCleared_thState _ thUser
theorem State.preempt_up : s.preempt.thState thUp = thIdle :=
  ((State.thCleared_frame _ thUser).get _ _ (by decide) (offEvents_thrStat thUp)).trans (s.thCleared_thState thUp)
theorem State.preempt_keepsRaised : KeepsRaised s s.preempt :=
  (s.thCleared_keepsRaised thUp).trans (State.thCleared_keepsRaised _ thUser)
theorem State.preempt_raised (begun : s.thState thUp ≠ thIdle) : s.preempt.raisedCode 0x78 4 :=
  State.thCleared_keepsRaised _ thUser _ _ (s.thCleared_raised thUp begun)
theorem State.preempt_fnEdge : s.preempt.seq.fnEdge = s.seq.fnEdge :=
  (State.thCleared_fnEdge _ thUser).trans (s.thCleared_fnEdge thUp)
theorem State.preempt_clk : s.preempt.clk = s.clk := s.preempt_frame.same .clk (by decide) (by decide)
theorem State.preempt_labelStep (l : Nat) : s.preempt.labelStep l = s.labelStep l :=
  s.labelStep_of_snap (s.preempt_frame.same .snap (by decide) (by decide)) l

/-- UP and USER are ended, and the thread stands at its label. -/
theorem State.preempt_thEnter_shows (l : Nat) (inside : s.labelStep l < 6144) (up : t ≠ thUp) (user : t ≠ thUser) :
    (s.preempt.thEnter t l).thState t = thRunning ∧ (s.preempt.thEnter t l).thPc t = s.labelStep l ∧
      (s.preempt.thEnter t l).thState thUp = thIdle ∧ (s.preempt.thEnter t l).thState thUser = thIdle := by
  have entered := s.preempt.thEnter_frame t l
  refine ⟨State.thEnter_thState _ t l, ?_, (entered.get _ _ ?_).trans s.preempt_up,
    (entered.get _ _ ?_).trans s.preempt_user⟩
  · rw [← s.preempt_labelStep l] at inside ⊢
    exact State.thEnter_thPc _ t l inside
  · simpa using (thrStat_ne up).symm
  · simpa using (thrStat_ne user).symm

end

/-! ### DOWN and FAULT start (R254 to R256) -/

section
variable (s : State) (l : Nat) (inside : s.labelStep l < 6144)

section
variable (idle : s.thState thDown = thIdle) (fault : s.thRuns thFault = false)
include idle fault

theorem State.startDown_eq : s.startDown l = (s.preempt.thEnter thDown l).updSeq fun q =>
    { q with downAt := some s.preempt.clk.frames, aborted := false, downWas := s.rd (SEQ_THR_STAT thDown), tellDown := some l,
             resumeAt := s.preempt.labelStep (s.preempt.latchedF SEQ_DOWN SEQ_DOWN_RESUME) } :=
  if_neg (by simp [idle, fault])

include inside in
theorem State.startDown_shows : (s.startDown l).thState thDown = thRunning ∧
    (s.startDown l).thPc thDown = s.labelStep l ∧
    (s.startDown l).thState thUp = thIdle ∧ (s.startDown l).thState thUser = thIdle ∧
    (s.startDown l).seq.downAt = some s.clk.frames ∧ (s.startDown l).seq.tellDown = some l ∧
    (s.thState thUp ≠ thIdle → (s.startDown l).raisedCode 0x78 4) ∧
    EventFrame [SEQ_THR_STAT thUp, SEQ_THR_STAT thDown, SEQ_THR_STAT thUser, PATH_STAT] [.seq] s (s.startDown l) := by
  obtain ⟨state, pc, up, user⟩ := s.preempt_thEnter_shows thDown l inside (by decide) (by decide)
  rw [s.startDown_eq l idle fault, s.preempt_clk]
  exact ⟨(State.updSeq_thState ..).trans state, (State.updSeq_thPc ..).trans pc, (State.updSeq_thState ..).trans up,
    (State.updSeq_thState ..).trans user, rfl, rfl, fun begun => (KeepsRaised.of_flt rfl) _ _ (s.preempt_raised begun),
    .updSeq ((s.preempt_frame.mono (by decide) fun _ => id).trans
      (.of_frame ((State.thEnter_frame _ thDown l).mono (by decide) fun _ => id))) (by decide)⟩

end

section
variable (cause esn : Nat) (fresh : s.faultFresh = false) (idle : s.thState thFault = thIdle)
  (down : s.thRuns thDown = false)
include fresh idle down

theorem State.startFault_eq : s.startFault l cause esn = ((s.preempt.thEnter thFault l).updSeq fun q =>
    { q with faultAt := some s.clk.frames, faultBy := cause, faultEsn := esn,
             tellFault := some l }).putB SEQ_STAT SEQ_STAT_UP_PEND false := by
  have stale : s.downFresh = false := by
    simp only [State.thRuns, Bool.or_eq_false_iff] at down
    unfold State.downFresh
    rw [down.1]
    rfl
  simp [State.startFault, fresh, idle, down, stale]

include inside in
theorem State.startFault_shows : (s.startFault l cause esn).thState thFault = thRunning ∧
    (s.startFault l cause esn).thPc thFault = s.labelStep l ∧ (s.startFault l cause esn).thState thUp = thIdle ∧
    (s.startFault l cause esn).thState thUser = thIdle ∧ (s.startFault l cause esn).seq.tellFault = some l ∧
    (s.startFault l cause esn).seq.faultBy = cause ∧ (s.startFault l cause esn).get SEQ_STAT SEQ_STAT_UP_PEND = 0 := by
  obtain ⟨state, pc, up, user⟩ := s.preempt_thEnter_shows thFault l inside (by decide) (by decide)
  rw [s.startFault_eq l cause esn fresh idle down]
  exact ⟨(State.updSeq_putB_thrStat ..).trans state, (State.updSeq_putB_thrStat ..).trans pc,
    (State.updSeq_putB_thrStat ..).trans up, (State.updSeq_putB_thrStat ..).trans user, rfl, rfl,
    State.get_putB _ _ _ _ (by decide) (by decide)⟩
theorem State.startFault_frame :
    EventFrame [SEQ_THR_STAT thUp, SEQ_THR_STAT thFault, SEQ_THR_STAT thUser, PATH_STAT, SEQ_STAT] [.seq] s
      (s.startFault l cause esn) := by
  rw [s.startFault_eq l cause esn fresh idle down]
  exact .putB _ _ (.updSeq ((s.preempt_frame.mono (by decide) fun _ => id).trans
    (.of_frame ((State.thEnter_frame _ thFault l).mono (by decide) fun _ => id))) (by decide)) (by decide)
theorem State.startFault_keepsRaised : KeepsRaised s (s.startFault l cause esn) := by
  rw [s.startFault_eq l cause esn fresh idle down]
  exact s.preempt_keepsRaised.trans (.of_flt rfl)
theorem State.startFault_fnEdge : (s.startFault l cause esn).seq.fnEdge = s.seq.fnEdge := by
  rw [s.startFault_eq l cause esn fresh idle down]
  exact s.preempt_fnEdge
/-- FAULT_N is driven only when the start is settled (R258). -/
theorem State.startFault_fnDrive :
    (s.startFault l cause esn).get SEQ_STAT SEQ_STAT_FN_DRIVE = s.get SEQ_STAT SEQ_STAT_FN_DRIVE := by
  rw [s.startFault_eq l cause esn fresh idle down, State.get_putB_field _ _ _ _ _ (by decide), State.updSeq_get,
    (State.thEnter_frame _ thFault l).get _ _ (by decide)]
  exact s.preempt_frame.get _ _ (by decide) (offEvents_of_page (by decide))

end

end

/-! ### The settling of starts (R254, R256, R258) -/

section
variable (s : State)

theorem State.driveFn_keepsRaised : KeepsRaised s s.driveFn := .ite (.raise (.of_flt rfl)) .refl
theorem State.tellDown_keepsRaised : KeepsRaised s s.tellDown := by
  unfold State.tellDown
  split
  · exact .raise (.of_flt rfl)
  · exact .refl
theorem State.tellDown_raised {l : Nat} (due : s.seq.tellDown = some l) : s.tellDown.raisedCode 0x79 1 := by
  have told : s.tellDown = (s.updSeq fun q => { q with tellDown := none }).raise 0x79 1 l := by
    unfold State.tellDown
    rw [due]
  rw [told]
  exact State.raise_raised _ _ _ _ _ (by decide)
theorem State.tellDown_told : s.tellDown.seq.tellDown = none := by
  unfold State.tellDown
  split
  · rw [State.raise_seq]
    rfl
  · assumption
theorem State.tellDown_fault : s.tellDown.seq.tellFault = s.seq.tellFault ∧ s.tellDown.seq.fnAt = s.seq.fnAt := by
  unfold State.tellDown
  split
  · rw [State.raise_seq]
    exact ⟨rfl, rfl⟩
  · exact ⟨rfl, rfl⟩

/-- The label of FAULT's start is raised. -/
def State.faultLabelled (l : Nat) : State := (s.updSeq fun q => { q with tellFault := none }).raise 0x7A 1 l

section
variable {l : Nat} (due : s.seq.tellFault = some l)
include due

theorem State.tellFault_eq :
    s.tellFault = if s.seq.faultBy < 2 then (s.faultLabelled l).driveFn else s.faultLabelled l := by
  unfold State.tellFault
  rw [due]
  change (if (s.faultLabelled l).seq.faultBy < 2 then _ else _) = _
  rw [State.faultLabelled, State.raise_seq]
  rfl
theorem State.tellFault_raised : s.tellFault.raisedCode 0x7A 1 := by
  have labelled : (s.faultLabelled l).raisedCode 0x7A 1 := State.raise_raised _ _ _ _ _ (by decide)
  rw [s.tellFault_eq due]
  split
  · exact State.driveFn_keepsRaised _ _ _ labelled
  · exact labelled
theorem State.tellFault_told : s.tellFault.seq.tellFault = none := by
  have labelled : (s.faultLabelled l).seq.tellFault = none := by
    rw [State.faultLabelled, State.raise_seq]
    rfl
  have driven : (s.faultLabelled l).driveFn.seq.tellFault = none := by
    unfold State.driveFn
    split
    · rw [State.raise_seq]
      exact labelled
    · exact labelled
  rw [s.tellFault_eq due]
  split <;> assumption

/-- A start of FAULT by this part asserts FAULT_N where it is to be driven and is not yet (R258). -/
theorem State.tellFault_drives (own : s.seq.faultBy < 2) (drive : s.get SEQ_FN SEQ_FN_DRIVE = 1)
    (released : s.get SEQ_STAT SEQ_STAT_FN_DRIVE = 0) : s.tellFault.get SEQ_STAT SEQ_STAT_FN_DRIVE = 1 ∧
      s.tellFault.seq.fnAt = s.clk.frames ∧ s.tellFault.raisedCode 0x7C 1 := by
  have asks : ((s.faultLabelled l).flag SEQ_FN SEQ_FN_DRIVE &&
      !(s.faultLabelled l).flag SEQ_STAT SEQ_STAT_FN_DRIVE) = true := by
    have kept (a : Nat) (f : Fld) (k : a / 0x1000 ≠ 0x40002 ∧ a / 0x1000 ≠ 0x40004) :
        (s.faultLabelled l).get a f = s.get a f := State.get_raise_off _ _ _ _ _ _ _ (by decide) k
    rw [State.flag_eq, State.flag_eq, kept _ _ (by decide), kept _ _ (by decide), drive, released]
    rfl
  rw [s.tellFault_eq due, if_pos own, State.driveFn, if_pos asks]
  refine ⟨(State.get_raise_off _ _ _ _ _ _ _ (by decide) (by decide)).trans
    (State.get_putB _ _ _ _ (by decide) (by decide)), ?_, State.raise_raised _ _ _ _ _ (by decide)⟩
  rw [State.raise_seq]
  exact (congrArg ClkSt.frames (State.raise_clk _ _ _ _ _) : (s.faultLabelled l).clk.frames = _)

end

end

end Sys2Proof.Machine
end

section
/-! PROOF. Starts and stops of threads (R242, R254, R255, R257, R260, R261): one lemma per command and outcome, and the
statement. A start of DOWN or FAULT stands untold until the frame's starts are settled (`State.seqSettle`, log 38). -/
namespace Sys2Proof.Machine
open Sys2Proof

/-! ### Commands of a thread (R254, R255) -/

section
variable (s : State)

/-- The command of a thread takes effect, and whether it is refused is kept. -/
def State.cmdTaken (t : Fin 4) (refused : Bool) : State := s.updThr t fun x => { x with cmd := none, refused := refused }

theorem State.cmdTaken_frame (t : Fin 4) (b : Bool) : Frame [] [.seq] s (s.cmdTaken t b) := .updThr .refl (by decide)
/-- What follows the command as it is taken at its tick is all that changes beside it. -/
theorem State.cmdTaken_latched {t : Fin 4} {b : Bool} {R : List Nat} {u : State}
    (h : EventFrame R [.seq] (s.cmdTaken t b) u) : EventFrame R [.snap, .seq] s (s.latchChange u) :=
  .latchChange ((EventFrame.of_frame ((s.cmdTaken_frame t b).mono (by simp) (by simp))).trans
    (h.mono (fun _ => id) (by simp))) (by simp)
theorem State.cmdTaken_refused (t : Fin 4) (b : Bool) : (s.cmdTaken t b).seq.thr[t].refused = b :=
  congrArg ThrSt.refused (s.updThr_thr t fun x => { x with cmd := none, refused := b })
theorem State.cmdTaken_faultFresh (b : Bool) : (s.cmdTaken thFault b).faultFresh = s.faultFresh := by
  have steps : (s.cmdTaken thFault b).seq.thr[thFault].steps = s.seq.thr[thFault].steps := by
    rw [State.cmdTaken, State.updThr_thr]
  unfold State.faultFresh
  rw [steps]
  rfl

/-- A raise after the command is taken leaves that it was refused. -/
theorem State.cmdTaken_thRaise_refused (t : Fin 4) (code : Nat) :
    ((s.cmdTaken t true).thRaise t code).seq.thr[t].refused = true := by
  rw [State.thRaise, State.raise_seq]
  exact s.cmdTaken_refused t true

theorem State.thStart_up (l : Nat) : s.thStart thUp l = s.startUp l := if_pos rfl
theorem State.thStart_down (l : Nat) : s.thStart thDown l = s.startDown l :=
  (if_neg (by decide)).trans (if_pos rfl)
theorem State.thStart_fault (l : Nat) : s.thStart thFault l = s.startFault l 1 0 :=
  (if_neg (by decide)).trans ((if_neg (by decide)).trans (if_pos rfl))
theorem State.thStart_user (l : Nat) : s.thStart thUser l = s.startUser l :=
  (if_neg (by decide)).trans ((if_neg (by decide)).trans (if_neg (by decide)))

/-- What a stop does before it ends a thread: UP is pending no more, and a start of DOWN is told. -/
def State.stopBegun (t : Fin 4) : State :=
  if t = thUp then s.putB SEQ_STAT SEQ_STAT_UP_PEND false else if t = thDown then s.tellDown else s

theorem State.stopBegun_frame (t : Fin 4) : EventFrame [SEQ_STAT] [.seq] s (s.stopBegun t) :=
  .ite (.putB _ _ .refl (by simp)) (.ite (s.tellDown_frame.mono (by simp) fun _ => id) .refl)
theorem State.stopBegun_thrStat (t : Fin 4) (f : Fld) :
    (s.stopBegun t).get (SEQ_THR_STAT t) f = s.get (SEQ_THR_STAT t) f :=
  (s.stopBegun_frame t).get _ _ (by simpa using thrStat_ne_seqStat t) (offEvents_thrStat t)

/-- A stop ends a thread that has begun, but a committed DOWN and FAULT (R255). -/
theorem State.thStop_ends {t : Fin 4} (begun : s.thState t ≠ thIdle) (fault : t ≠ thFault)
    (uncommitted : t = thDown → s.get (SEQ_THR_STAT t) SEQ_THR_STAT_COMMITTED = 0) :
    s.thStop t = (s.stopBegun t).thEnd t 3 := by
  have state : (s.stopBegun t).thState t ≠ thIdle := fun e => begun ((s.stopBegun_thrStat t _).symm.trans e)
  have allowed : ¬(t = thDown ∧ (s.stopBegun t).flag (SEQ_THR_STAT t) SEQ_THR_STAT_COMMITTED = true) := by
    rintro ⟨down, set⟩
    rw [State.flag_eq, s.stopBegun_thrStat, uncommitted down] at set
    cases set
  refine (if_neg state).trans (if_neg ?_)
  change ¬(decide (t = thDown) && (s.stopBegun t).flag (SEQ_THR_STAT t) SEQ_THR_STAT_COMMITTED ||
    decide (t = thFault)) = true
  simpa [fault] using allowed

/-- The raise of the event is answered. -/
def State.downAnswered (esn : BitVec 8) : State :=
  { s with flt := { s.flt with downDue := s.flt.downDue.filter fun n => n ≠ esn.toNat } }

variable (on : s.engines = true) (now : s.startsNow = true)
include on now

section
variable {t : Fin 4} (vacant : s.seq.thr[t].cmd = none)
include vacant

theorem State.seqDue_of_none (c : Nat × Option Nat) : s.seqDue t c = true := by
  unfold State.seqDue
  rw [on, now, vacant]
  rfl
theorem execSeqStart_eq (l : Fin 64) : exec (.seqStart t true l) s =
    done (s.latchChange ((s.cmdTaken t (s.startRefused t)).thStart t l)) :=
  congrArg done (if_pos (s.seqDue_of_none on now vacant _))
theorem execSeqStop_eq : exec (.seqStop t) s = done (s.latchChange ((s.cmdTaken t (s.stopRefused t)).thStop t)) :=
  congrArg done (if_pos (s.seqDue_of_none on now vacant _))

end

variable (l : Fin 64)

/-! ### USER and UP -/

theorem execSeqStart_startsUser (vacant : s.seq.thr[thUser].cmd = none) (inside : s.labelStep l < 6144)
    (idle : s.thState thUser = thIdle) :
    Answers (.seqStart thUser true l) s fun u => u.thState thUser = thRunning ∧
      u.thPc thUser = s.labelStep l ∧ u.seq.thr[thUser].stack = [] ∧ u.raisedCode 0x7B 1 ∧
      EventFrame [SEQ_THR_STAT thUser] [.snap, .seq] s u := by
  have begins : (s.cmdTaken thUser (s.startRefused thUser)).startUser l =
      (s.cmdTaken thUser (s.startRefused thUser)).thBegin thUser l := by
    have rests : (s.cmdTaken thUser (s.startRefused thUser)).thState thUser = thIdle := idle
    exact if_neg (by simp [rests])
  have e := execSeqStart_eq s on now vacant l
  rw [State.thStart_user, begins] at e
  exact ⟨_, e, State.thBegin_thState _ thUser l, State.thBegin_thPc _ thUser l inside, State.thBegin_stack _ thUser l,
    State.thBegin_raised _ thUser l,
    s.cmdTaken_latched (State.thBegin_frame _ thUser l)⟩

theorem execSeqStart_refusesUser (vacant : s.seq.thr[thUser].cmd = none) (busy : s.thState thUser ≠ thIdle) :
    Answers (.seqStart thUser true l) s fun u => u.thState thUser = s.thState thUser ∧ u.raisedCode 0x7B 8 ∧
      u.seq.thr[thUser].refused = true ∧ EventFrame [] [.snap, .seq] s u := by
  have refused : s.startRefused thUser = true := by simpa [State.startRefused, thUp, thDown, thFault, thUser] using busy
  have still : (s.cmdTaken thUser true).thState thUser ≠ thIdle := busy
  have raises : (s.cmdTaken thUser true).startUser l = (s.cmdTaken thUser true).thRaise thUser 8 :=
    if_pos (by simpa using still)
  have e := execSeqStart_eq s on now vacant l
  rw [refused, State.thStart_user, raises] at e
  exact ⟨_, e, State.raise_thrStat _ _ _ _ _ thUser _ (by decide), State.raise_raised _ _ _ _ _ (by decide),
    s.cmdTaken_thRaise_refused thUser 8, s.cmdTaken_latched (.raise .refl (by decide))⟩

section
variable (vacant : s.seq.thr[thUp].cmd = none) (taken : s.upRefused = false)
include vacant taken

/-- A start of UP that is taken begins it, and looks whether it is held. -/
theorem execSeqStart_up : exec (.seqStart thUp true l) s =
    done (s.latchChange ((s.cmdTaken thUp (s.startRefused thUp)).thBegin thUp l).upHold) := by
  have begins : (s.cmdTaken thUp (s.startRefused thUp)).startUp l =
      ((s.cmdTaken thUp (s.startRefused thUp)).thBegin thUp l).upHold := by
    have allowed : (s.cmdTaken thUp (s.startRefused thUp)).upRefused = false := taken
    exact if_neg (by simp [allowed])
  rw [execSeqStart_eq s on now vacant l, State.thStart_up, begins]

theorem execSeqStart_startsUp (inside : s.labelStep l < 6144) (vsys : s.vsysStarts = true) (fn : s.fnHolds = false) :
    Answers (.seqStart thUp true l) s fun u => u.thState thUp = thRunning ∧
      u.thPc thUp = s.labelStep l ∧ u.raisedCode 0x78 1 ∧ EventFrame [SEQ_THR_STAT thUp] [.snap, .seq] s u := by
  have begun := (s.cmdTaken thUp (s.startRefused thUp)).thBegin_frame thUp l
  have free := State.upHold_free ((s.cmdTaken thUp (s.startRefused thUp)).thBegin thUp l)
    ((State.thBegin_vsysStarts _ thUp l).trans vsys)
    ((State.fnHolds_of_frame _ begun (by decide) (begun.get _ _ (by decide) (offEvents_of_page (by decide)))).trans fn)
  have e := execSeqStart_up s on now l vacant taken
  rw [free] at e
  exact ⟨_, e, State.thBegin_thState _ thUp l, State.thBegin_thPc _ thUp l inside,
    (KeepsRaised.of_flt rfl) _ _ (State.thBegin_raised _ thUp l),
    s.cmdTaken_latched (.updSeq begun (by simp))⟩

theorem execSeqStart_holdsUp (vsys : s.vsysStarts = false) :
    Answers (.seqStart thUp true l) s fun u => u.thState thUp = thHeld ∧ u.get PATH_STAT PATH_STAT_UP_INHIB = 1 ∧
      u.seq.heldVsys = true ∧ u.raisedCode 0x78 1 ∧ u.raisedCode 0x4D 0 ∧
      EventFrame [SEQ_THR_STAT thUp, PATH_STAT] [.snap, .seq] s u := by
  have low := State.upHold_low ((s.cmdTaken thUp (s.startRefused thUp)).thBegin thUp l)
    ((State.thBegin_vsysStarts _ thUp l).trans vsys)
  have e := execSeqStart_up s on now l vacant taken
  rw [low] at e
  refine ⟨_, e, State.setThState_thState _ thUp (by decide),
    (State.get_put_ne _ _ _ _ _ _ (by decide)).trans (State.holdTold_inhibit _),
    congrArg SeqSt.heldVsys (State.holdTold_seq _),
    (KeepsRaised.of_flt rfl) _ _ (State.holdTold_keepsRaised _ _ _ (State.thBegin_raised _ thUp l)),
    (KeepsRaised.of_flt rfl) _ _ (State.holdTold_raised _), s.cmdTaken_latched (t := thUp) (b := s.startRefused thUp) (.put _ _ ?_ (by simp))⟩
  exact ((State.thBegin_frame _ thUp l).mono (by simp) fun _ => id).trans
    ((State.holdTold_frame _).mono (by simp) fun _ => id)

end

/-! ### DOWN and FAULT -/

theorem execSeqStart_startsDown (vacant : s.seq.thr[thDown].cmd = none) (inside : s.labelStep l < 6144)
    (idle : s.thState thDown = thIdle) (fault : s.thRuns thFault = false) :
    Answers (.seqStart thDown true l) s fun u => u.thState thDown = thRunning ∧
      u.thPc thDown = s.labelStep l ∧ u.thState thUp = thIdle ∧ u.thState thUser = thIdle ∧
      u.seq.downAt = some s.clk.frames ∧ u.seq.tellDown = some l.val ∧
      (s.thState thUp ≠ thIdle → u.raisedCode 0x78 4) ∧
      EventFrame [SEQ_THR_STAT thUp, SEQ_THR_STAT thDown, SEQ_THR_STAT thUser, PATH_STAT] [.snap, .seq] s u := by
  obtain ⟨state, pc, up, user, since, tell, ended, frame⟩ :=
    (s.cmdTaken thDown (s.startRefused thDown)).startDown_shows l inside idle fault
  have e := execSeqStart_eq s on now vacant l
  rw [State.thStart_down] at e
  exact ⟨_, e, state, pc, up, user, since, tell, ended,
    s.cmdTaken_latched frame⟩

theorem execSeqStart_startsFault (vacant : s.seq.thr[thFault].cmd = none) (inside : s.labelStep l < 6144)
    (fresh : s.faultFresh = false) (idle : s.thState thFault = thIdle) (down : s.thRuns thDown = false) :
    Answers (.seqStart thFault true l) s fun u => u.thState thFault = thRunning ∧
      u.thPc thFault = s.labelStep l ∧ u.thState thUp = thIdle ∧ u.thState thUser = thIdle ∧
      u.seq.tellFault = some l.val ∧ u.seq.faultBy = 1 ∧ u.get SEQ_STAT SEQ_STAT_UP_PEND = 0 ∧
      EventFrame [SEQ_THR_STAT thUp, SEQ_THR_STAT thFault, SEQ_THR_STAT thUser, PATH_STAT, SEQ_STAT] [.snap, .seq] s u := by
  have stale := (s.cmdTaken_faultFresh (s.startRefused thFault)).trans fresh
  obtain ⟨state, pc, up, user, tell, cause, pend⟩ :=
    (s.cmdTaken thFault (s.startRefused thFault)).startFault_shows l inside 1 0 stale idle down
  have e := execSeqStart_eq s on now vacant l
  rw [State.thStart_fault] at e
  exact ⟨_, e, state, pc, up, user, tell, cause, pend,
    s.cmdTaken_latched (State.startFault_frame _ l 1 0 stale idle down)⟩

/-! ### DOWN by an event, and UP by itself (R260, R261) -/

theorem execDownStartByEvent_starts (inside : s.labelStep l < 6144) (esn : BitVec 8) (raised : esn.toNat ∈ s.flt.downDue)
    (idle : s.thState thDown = thIdle) (fault : s.thRuns thFault = false) (entry : s.entryLabel thDown = l.val) :
    Answers (.downStartByEvent esn) s fun u => u.thState thDown = thRunning ∧
      u.thPc thDown = s.labelStep l ∧ u.thState thUp = thIdle ∧ u.seq.tellDown = some l.val ∧
      EventFrame [SEQ_THR_STAT thUp, SEQ_THR_STAT thDown, SEQ_THR_STAT thUser, PATH_STAT] [.seq] s u := by
  have due : (s.engines && s.startsNow && s.flt.downDue.contains esn.toNat) = true := by simp [on, now, raised]
  have e : exec (.downStartByEvent esn) s = done ((s.downAnswered esn).startDown l) :=
    congrArg done ((if_pos due).trans (congrArg (s.downAnswered esn).startDown entry))
  obtain ⟨state, pc, up, -, -, tell, -, frame⟩ := (s.downAnswered esn).startDown_shows l inside idle fault
  exact ⟨_, e, state, pc, up, tell, EventFrame.trans (.set_flt .refl) frame⟩

theorem execAutoUpStart_starts (inside : s.labelStep l < 6144) (pend : s.get SEQ_STAT SEQ_STAT_UP_PEND = 1)
    (taken : s.upRefused = false) (feed : s.latchedQualified 0 = true) (vsys : s.vsysStarts = true)
    (fn : s.fnHolds = false) (entry : s.entryLabel thUp = l.val) :
    Answers .autoUpStart s fun u => u.thState thUp = thRunning ∧ u.thPc thUp = s.labelStep l ∧
      u.get SEQ_STAT SEQ_STAT_UP_PEND = 0 ∧ u.raisedCode 0x78 1 ∧ u.raisedCode 0x78 0x0D ∧
      EventFrame [SEQ_STAT, SEQ_THR_STAT thUp] [.snap, .seq] s u := by
  have due : (s.engines && s.startsNow && s.flag SEQ_STAT SEQ_STAT_UP_PEND && !s.upRefused &&
      (s.latchedQualified 0 || s.latchedQualified 1)) = true := by simp [on, now, State.flag_eq, pend, taken, feed]
  have e : exec .autoUpStart s = done (s.latchChange
      (((s.putB SEQ_STAT SEQ_STAT_UP_PEND false).thBegin thUp l).thRaise thUp 0x0D).upHold) :=
    congrArg done ((if_pos due).trans (congrArg (fun n => s.latchChange
      (((s.putB SEQ_STAT SEQ_STAT_UP_PEND false).thBegin thUp n).thRaise thUp 0x0D).upHold) entry))
  have begun := (s.putB SEQ_STAT SEQ_STAT_UP_PEND false).thBegin_frame thUp l
  have told : EventFrame [SEQ_THR_STAT thUp] [.seq] (s.putB SEQ_STAT SEQ_STAT_UP_PEND false)
      (((s.putB SEQ_STAT SEQ_STAT_UP_PEND false).thBegin thUp l).thRaise thUp 0x0D) := .raise begun (by decide)
  have stat (f : Fld) := told.get SEQ_STAT f (by decide) (offEvents_of_page (by decide))
  have free := State.upHold_free (((s.putB SEQ_STAT SEQ_STAT_UP_PEND false).thBegin thUp l).thRaise thUp 0x0D)
    ((State.vsysStarts_of_snap _ (told.same .snap (by decide) (by decide))).trans vsys)
    ((State.fnHolds_of_frame _ told (by decide) (stat _)).trans ((State.fnHolds_of_frame s
      (.of_frame (.putB (R := [SEQ_STAT]) (P := []) _ _ .refl (by simp))) (by decide)
      (State.get_putB_field _ _ _ _ _ (by decide))).trans fn))
  rw [free] at e
  exact ⟨_, e, (State.raise_thrStat _ _ _ _ _ thUp _ (by decide)).trans (State.thBegin_thState _ thUp l),
    (State.raise_thrStat _ _ _ _ _ thUp _ (by decide)).trans (State.thBegin_thPc _ thUp l inside),
    (stat _).trans (State.get_putB _ _ _ _ (by decide) (by decide)),
    (KeepsRaised.of_flt rfl) _ _ (KeepsRaised.refl.raise _ _ (State.thBegin_raised _ thUp l)),
    (KeepsRaised.of_flt rfl) _ _ (State.raise_raised _ _ _ _ _ (by decide)),
    .latchChange (.updSeq ((EventFrame.putB _ _ .refl (by simp)).trans (told.mono (by simp) (by simp))) (by simp))
      (by simp)⟩

/-! ### Stops (R254, R255) -/

theorem execSeqStop_ends (t : Fin 4) (vacant : s.seq.thr[t].cmd = none) (begun : s.thState t ≠ thIdle)
    (fault : t ≠ thFault) (uncommitted : t = thDown → s.get (SEQ_THR_STAT t) SEQ_THR_STAT_COMMITTED = 0) :
    Answers (.seqStop t) s fun u => u.thState t = thIdle ∧ u.get (SEQ_THR_STAT t) SEQ_THR_STAT_END = 3 ∧
      u.raisedCode (0x78 + t) 3 ∧ EventFrame [SEQ_THR_STAT t, SEQ_STAT, PATH_STAT] [.snap, .seq] s u := by
  have ends := (s.cmdTaken t (s.stopRefused t)).thStop_ends begun fault uncommitted
  refine ⟨_, (execSeqStop_eq s on now vacant).trans (congrArg (done ∘ s.latchChange) ends),
    State.thEnd_thState _ t 3 (by decide), State.thEnd_code _ t 3 (by decide) (by decide),
    State.thEnd_raised _ t 3 (by decide), s.cmdTaken_latched (t := t) (b := s.stopRefused t) ?_⟩
  exact ((State.stopBegun_frame _ t).mono (by simp) fun _ => id).trans
    ((State.thEnd_frame _ t 3 (by decide)).mono (by simp) fun _ => id)

theorem execSeqStop_refusesFault (vacant : s.seq.thr[thFault].cmd = none) (begun : s.thState thFault ≠ thIdle) :
    Answers (.seqStop thFault) s fun u => u.thState thFault = s.thState thFault ∧ u.raisedCode 0x7A 8 ∧
      u.seq.thr[thFault].refused = true ∧ EventFrame [] [.snap, .seq] s u := by
  have refused : s.stopRefused thFault = true := by simp [State.stopRefused, begun]
  have raises : (s.cmdTaken thFault true).thStop thFault = (s.cmdTaken thFault true).thRaise thFault 8 :=
    (if_neg begun).trans (if_pos (by simp))
  have e := execSeqStop_eq s on now vacant
  rw [refused, raises] at e
  exact ⟨_, e, State.raise_thrStat _ _ _ _ _ thFault _ (by decide), State.raise_raised _ _ _ _ _ (by decide),
    s.cmdTaken_thRaise_refused thFault 8, s.cmdTaken_latched (.raise .refl (by decide))⟩

end

/-! ### The settling of a start (R254, R256, R258) -/

section
variable (s : State) {l : Nat}

theorem State.seqSettle_down (due : s.seq.tellDown = some l) (fault : s.seq.tellFault = none) :
    s.seqSettle.raisedCode 0x79 1 ∧ s.seqSettle.seq.tellDown = none := by
  have told : s.tellFault = s := by unfold State.tellFault; rw [fault]
  unfold State.seqSettle
  rw [told]
  exact ⟨s.tellDown_raised due, s.tellDown_told⟩

theorem State.seqSettle_fault (due : s.seq.tellFault = some l) :
    s.seqSettle.raisedCode 0x7A 1 ∧ s.seqSettle.seq.tellFault = none ∧
      (s.seq.faultBy < 2 → s.get SEQ_FN SEQ_FN_DRIVE = 1 → s.get SEQ_STAT SEQ_STAT_FN_DRIVE = 0 →
        s.seqSettle.get SEQ_STAT SEQ_STAT_FN_DRIVE = 1 ∧ s.seqSettle.seq.fnAt = s.clk.frames ∧
        s.seqSettle.raisedCode 0x7C 1) := by
  obtain ⟨fault, fnAt⟩ := s.tellFault.tellDown_fault
  have keeps := s.tellFault.tellDown_keepsRaised
  refine ⟨keeps _ _ (s.tellFault_raised due), fault.trans (s.tellFault_told due), fun own drive released => ?_⟩
  obtain ⟨driven, since, raised⟩ := s.tellFault_drives due own drive released
  exact ⟨(s.tellFault.tellDown_frame.get _ _ (by simp) (offEvents_of_page (by decide))).trans driven, fnAt.trans since,
    keeps _ _ raised⟩

end

/-- Settles O31: a start comes to `State.thBegin`, `State.startDown` or `State.startFault`, a stop to `State.thEnd`, after the
command is taken (`State.cmdTaken`); what is refused only raises. -/
theorem threadStarts : Obligations.ThreadStarts := fun s l on now inside =>
  ⟨fun vacant => execSeqStart_startsUser s on now l vacant inside, execSeqStart_refusesUser s on now l,
    fun vacant taken => execSeqStart_startsUp s on now l vacant taken inside, execSeqStart_holdsUp s on now l,
    fun vacant => execSeqStart_startsDown s on now l vacant inside,
    fun vacant => execSeqStart_startsFault s on now l vacant inside,
    s.seqSettle_down, s.seqSettle_fault, execSeqStop_ends s on now, execSeqStop_refusesFault s on now,
    execDownStartByEvent_starts s on now l inside, execAutoUpStart_starts s on now l inside⟩

end Sys2Proof.Machine
end

section
/-! PROOF. FAULT_N, the hold of UP, the minimum off time, the sibling's status and the flags (R242, R245, R256, R258 to R260,
R263): one lemma per command, and the statement. -/
namespace Sys2Proof.Machine
open Sys2Proof

section
variable (s : State)

/-! ### FAULT_N (R256, R258, R259) -/

/-- An edge of FAULT_N from another part is told before it starts FAULT. -/
def State.edgeTold : State := (s.updSeq fun q => { q with fnEdge := false }).raise 0x7C 2

theorem State.edgeTold_seq : s.edgeTold.seq = { s.seq with fnEdge := false } := State.raise_seq _ _ _ _ _
theorem State.edgeTold_frame : EventFrame [] [.seq] s s.edgeTold := .raise (.updSeq .refl (by decide)) (by decide)
theorem State.edgeTold_thState (t : Fin 4) : s.edgeTold.thState t = s.thState t :=
  s.edgeTold_frame.get _ _ (by simp) (offEvents_thrStat t)
theorem State.edgeTold_thRuns (t : Fin 4) : s.edgeTold.thRuns t = s.thRuns t := by
  unfold State.thRuns
  rw [s.edgeTold_thState t]
theorem State.edgeTold_faultFresh : s.edgeTold.faultFresh = s.faultFresh := by
  have clk : s.edgeTold.clk = s.clk := s.edgeTold_frame.same .clk (by decide) (by decide)
  unfold State.faultFresh
  rw [s.edgeTold_thState, s.edgeTold_seq, clk]

theorem execFaultNEdge_starts (on : s.engines = true) (now : s.startsNow = true) (edge : s.seq.fnEdge = true)
    (fresh : s.faultFresh = false) (idle : s.thState thFault = thIdle) (down : s.thRuns thDown = false) (l : Fin 64)
    (label : s.latchedF SEQ_FN SEQ_FN_LABEL = l.val) (inside : s.labelStep l < 6144) :
    Answers .faultNEdge s fun u => u.thState thFault = thRunning ∧ u.thPc thFault = s.labelStep l ∧
      u.seq.fnEdge = false ∧ u.thState thUp = thIdle ∧
      u.get SEQ_STAT SEQ_STAT_FN_DRIVE = s.get SEQ_STAT SEQ_STAT_FN_DRIVE ∧ u.raisedCode 0x7C 2 ∧
      u.seq.tellFault = some l.val ∧ u.seq.faultBy = 2 := by
  have due : (s.engines && s.startsNow && s.seq.fnEdge) = true := by rw [on, now, edge]; rfl
  have snap : s.edgeTold.snap = s.snap := s.edgeTold_frame.same .snap (by decide) (by decide)
  have named : s.edgeTold.latchedF SEQ_FN SEQ_FN_LABEL = l.val := by
    unfold State.latchedF State.latched at label ⊢
    rwa [snap]
  have e : exec .faultNEdge s = done (s.latchChange (s.edgeTold.startFault l 2 0)) :=
    congrArg done ((if_pos due).trans (congrArg (fun n => s.latchChange (s.edgeTold.startFault n 2 0)) named))
  have place := s.labelStep_of_snap snap l
  have stale := s.edgeTold_faultFresh.trans fresh
  have still := (s.edgeTold_thState thFault).trans idle
  have rests := (s.edgeTold_thRuns thDown).trans down
  obtain ⟨state, pc, up, -, tell, cause, -⟩ := s.edgeTold.startFault_shows l (place.symm ▸ inside) 2 0 stale still rests
  refine ⟨_, e, state, pc.trans place, ?_, up, ?_,
    s.edgeTold.startFault_keepsRaised l 2 0 stale still rests _ _ (State.raise_raised _ _ _ _ _ (by decide)), tell, cause⟩
  · exact (s.edgeTold.startFault_fnEdge l 2 0 stale still rests).trans (congrArg SeqSt.fnEdge s.edgeTold_seq)
  · exact (s.edgeTold.startFault_fnDrive l 2 0 stale still rests).trans
      (s.edgeTold_frame.get _ _ (by simp) (offEvents_of_page (by decide)))

theorem execFaultNRelease_releases (on : s.engines = true) (driven : s.get SEQ_STAT SEQ_STAT_FN_DRIVE = 1)
    (idle : s.thState thFault = thIdle) (held : s.seq.fnAt + max 2 (s.get SEQ_FN SEQ_FN_HOLD) ≤ s.clk.frames) :
    Answers .faultNRelease s fun u => u.get SEQ_STAT SEQ_STAT_FN_DRIVE = 0 ∧ u.raisedCode 0x7C 3 ∧
      EventFrame [SEQ_STAT] [] s u := by
  have due : (s.engines && s.flag SEQ_STAT SEQ_STAT_FN_DRIVE && s.thState thFault == thIdle &&
      decide (s.seq.fnAt + max 2 (s.get SEQ_FN SEQ_FN_HOLD) ≤ s.clk.frames)) = true := by
    rw [State.flag_eq, on, driven, idle, decide_eq_true held]
    rfl
  exact ⟨_, congrArg done (if_pos due),
    (State.get_raise_off _ _ _ _ _ _ _ (by decide) (by decide)).trans (State.get_putB _ _ _ _ (by decide) (by decide)),
    State.raise_raised _ _ _ _ _ (by decide), .raise (.putB _ _ .refl (by simp)) (by decide)⟩

theorem execUpHeldRelease_runs (on : s.engines = true) (held : s.thState thUp = thHeld) (fn : s.seq.heldFn = true)
    (vsys : s.seq.heldVsys = false) (released : s.latchedF SEQ_STAT SEQ_STAT_FN_IN = 0) :
    Answers .upHeldRelease s fun u => u.thState thUp = thRunning ∧ u.seq.heldFn = false ∧
      Frame [SEQ_THR_STAT thUp] [.snap, .seq] s u := by
  have due : (s.engines && s.thState thUp == thHeld && s.seq.heldFn && s.latchedF SEQ_STAT SEQ_STAT_FN_IN == 0) = true := by
    rw [on, held, fn, released]
    rfl
  have free : ¬(s.updSeq fun q => { q with heldFn := false }).seq.heldVsys = true := by simp [vsys]
  exact ⟨_, congrArg done ((if_pos due).trans (congrArg s.latchChange (if_neg free))),
    State.setThState_thState _ thUp (by decide), rfl,
    .latchChange (.put _ _ (.updSeq .refl (by simp)) (by simp)) (by simp)⟩

/-! ### The minimum off time and the sibling (R260, R263) -/

theorem execMinOffEnd_ends (on : s.engines = true) (stands : s.get SEQ_STAT SEQ_STAT_MIN_OFF = 1)
    (elapsed : s.seq.minOffEnd ≤ s.clk.frames) :
    Answers .minOffEnd s fun u => u.get SEQ_STAT SEQ_STAT_MIN_OFF = 0 ∧
      u.get SEQ_STAT SEQ_STAT_UP_PEND =
        (if s.get SEQ_DOWN SEQ_DOWN_AUTO_UP = 1 then 1 else s.get SEQ_STAT SEQ_STAT_UP_PEND) ∧
      Frame [SEQ_STAT] [.snap] s u := by
  have due : (s.engines && s.flag SEQ_STAT SEQ_STAT_MIN_OFF && decide (s.seq.minOffEnd ≤ s.clk.frames)) = true := by
    rw [State.flag_eq, on, stands, decide_eq_true elapsed]
    rfl
  have ended : (s.putB SEQ_STAT SEQ_STAT_MIN_OFF false).get SEQ_STAT SEQ_STAT_MIN_OFF = 0 :=
    State.get_putB _ _ _ _ (by decide) (by decide)
  have freed : Frame [SEQ_STAT] [.snap] s (s.putB SEQ_STAT SEQ_STAT_MIN_OFF false) := .putB _ _ .refl (by simp)
  have auto : (s.putB SEQ_STAT SEQ_STAT_MIN_OFF false).flag SEQ_DOWN SEQ_DOWN_AUTO_UP =
      (s.get SEQ_DOWN SEQ_DOWN_AUTO_UP != 0) := freed.flag _ _ (by decide)
  by_cases up : s.get SEQ_DOWN SEQ_DOWN_AUTO_UP = 1
  · rw [up] at auto
    refine ⟨_, congrArg done ((if_pos due).trans (congrArg s.latchChange (if_pos auto))),
      (State.get_putB_field _ _ _ _ _ (by decide)).trans ended, ?_, .latchChange (.putB _ _ freed (by simp)) (by simp)⟩
    rw [if_pos up]
    exact State.get_putB _ _ _ _ (by decide) (by decide)
  · have off : s.get SEQ_DOWN SEQ_DOWN_AUTO_UP = 0 := by
      have bit : s.get SEQ_DOWN SEQ_DOWN_AUTO_UP < 2 := Nat.mod_lt _ (by decide)
      omega
    rw [off] at auto
    refine ⟨_, congrArg done ((if_pos due).trans (congrArg s.latchChange (if_neg (by rw [auto]; decide)))), ended, ?_,
      freed.latchChange (by simp)⟩
    rw [if_neg up]
    exact State.get_putB_field _ _ _ _ _ (by decide)

theorem execSiblingStatusLost_tells (run : s.inRun = true) (ok : s.get SEQ_STAT SEQ_STAT_SIB_OK = 1)
    (old : 8 ≤ s.seq.sibAge) :
    Answers .siblingStatusLost s fun u => u.get SEQ_STAT SEQ_STAT_SIB_OK = 0 ∧ u.raisedCode 0x7F 1 ∧
      EventFrame [SEQ_STAT] [] s u := by
  have due : (s.inRun && s.flag SEQ_STAT SEQ_STAT_SIB_OK && decide (8 ≤ s.seq.sibAge)) = true := by
    rw [State.flag_eq, run, ok, decide_eq_true old]
    rfl
  exact ⟨_, congrArg done (if_pos due),
    (State.get_raise_off _ _ _ _ _ _ _ (by decide) (by decide)).trans (State.get_putB _ _ _ _ (by decide) (by decide)),
    State.raise_raised _ _ _ _ _ (by decide), .raise (.putB _ _ .refl (by simp)) (by decide)⟩

/-! ### Flags (R245) -/

theorem execSeqFlagSet_sets (w : Word) (run : s.inRun = true) :
    Answers (.seqFlagSet w) s fun u => u.rd SEQ_FLAGS = s.rd SEQ_FLAGS ||| w ∧ Frame [SEQ_FLAGS] [] s u :=
  ⟨_, congrArg done (if_pos run), State.rd_wr_same _ _ _, .wr _ .refl (by simp)⟩
theorem execSeqFlagClr_clears (w : Word) (run : s.inRun = true) :
    Answers (.seqFlagClr w) s fun u => u.rd SEQ_FLAGS = s.rd SEQ_FLAGS &&& ~~~w ∧ Frame [SEQ_FLAGS] [] s u :=
  ⟨_, congrArg done (if_pos run), State.rd_wr_same _ _ _, .wr _ .refl (by simp)⟩

end

/-- Settles O32: each event writes its fields of the sequencer's registers; an edge of FAULT_N is told and starts FAULT
(`State.startFault_shows`), and a write of a label is measured first (`State.labelMeasured`). -/
theorem sequencerService : Obligations.SequencerService := fun s =>
  ⟨execFaultNEdge_starts s, execFaultNRelease_releases s, execUpHeldRelease_runs s, execMinOffEnd_ends s,
    execSiblingStatusLost_tells s, fun w run => ⟨execSeqFlagSet_sets s w run, execSeqFlagClr_clears s w run⟩,
    execLabelWrite_takes s, execLabelWrite_ignores s⟩

end Sys2Proof.Machine
end

section
/-! PROOF. The steps that do not wait (R246): an ENABLE of a loop of which an enable is already asked changes nothing, which
the statement leaves out of its premises. -/
namespace Sys2Proof.Machine
open Sys2Proof

/-! ### What the settling of starts and a spent step leave of the fences (R316) -/

theorem State.noteDown_fenced (s : State) (e : Nat) : (s.noteDown e).flt.fenced = s.flt.fenced := by
  unfold State.noteDown
  split <;> rfl
/-- A raise that is taken leaves the fences of the frame. -/
theorem State.raiseNow_fenced (s : State) (e c h : Nat) (d : List Byte) (b : Bool) :
    (s.raiseNow e c h d b).flt.fenced = s.flt.fenced := by
  unfold State.raiseNow
  dsimp only
  have f := State.doorbell_flt s (BitVec.ofNat 32 (e * 2 ^ 24 + (c % 256 + 256 * h) % 2 ^ 24))
  generalize s.doorbell (BitVec.ofNat 32 (e * 2 ^ 24 + (c % 256 + 256 * h) % 2 ^ 24)) = t at f ⊢
  rw [← f]
  split
  · rfl
  · split
    all_goals
      simp only [State.toPlate_flt, State.noteDown_fenced, State.ackClear_flt]
      rfl
theorem State.raise_fenced (s : State) (e c h : Nat) (d : List Byte) : (s.raise e c h d).flt.fenced = s.flt.fenced := by
  unfold State.raise State.raiseWith
  split
  · rfl
  · exact State.raiseNow_fenced _ _ _ _ _ _

section
variable (s : State)

theorem State.tellDown_fenced : s.tellDown.flt.fenced = s.flt.fenced := by
  unfold State.tellDown
  split
  · exact State.raise_fenced _ _ _ _ _
  · rfl
theorem State.driveFn_fenced : s.driveFn.flt.fenced = s.flt.fenced := by
  unfold State.driveFn
  split
  · exact State.raise_fenced _ _ _ _ _
  · rfl
theorem State.tellFault_fenced : s.tellFault.flt.fenced = s.flt.fenced := by
  unfold State.tellFault
  split
  · dsimp only
    split
    · exact (State.driveFn_fenced _).trans (State.raise_fenced _ _ _ _ _)
    · exact State.raise_fenced _ _ _ _ _
  · rfl
theorem State.stepSpent_fenced (t : Fin 4) : (s.stepSpent t).flt.fenced = s.flt.fenced :=
  (s.tellFault.tellDown_fenced).trans s.tellFault_fenced
theorem State.stepSpent_loops (t : Fin 4) : (s.stepSpent t).loops = s.loops :=
  Part.Same.trans (p := .loops) (s.seqSettle_frame.same .loops (by decide) (by decide))
    ((s.stepSpent_frame t).same .loops (by decide))
theorem loopCtl_ne_seqStat (m : Fin 4) : LOOP_CTL m ≠ SEQ_STAT := by unfold LOOP_CTL SEQ_STAT; omega
theorem loopCtl_ne_thrStat (m t : Fin 4) : LOOP_CTL m ≠ SEQ_THR_STAT t := by unfold LOOP_CTL SEQ_THR_STAT; omega
theorem State.stepSpent_loopCtl (t m : Fin 4) (f : Fld) : (s.stepSpent t).get (LOOP_CTL m) f = s.get (LOOP_CTL m) f :=
  ((s.stepSpent_frame t).get _ _ (by simp)).trans
    (s.seqSettle_frame.get _ _ (by simpa using loopCtl_ne_seqStat m) (offEvents_loopCtl m))

end

/-! ### ENABLE of a loop (R246, R316) -/

section
variable (s : State) (t m : Fin 4) (due : s.stepDue t 1 = true)
  (names : railOf (stepRail (s.stepWord t)) = some (.loop m)) (inside : s.thPc t + 1 < 6144)

section
include due names

theorem execEnable_eq : exec (.enable t) s = done (((s.stepSpent t).railWrite (.loop m) true).thNext t) := by
  refine congrArg done ((s.stepRow_due t due).trans ?_)
  rw [names]

/-- R246: a loop that is to be enabled at the next tick already is left as it stands, whatever its EN reads. -/
theorem execEnable_passes (asked : s.loops[m].pendEn = some true) :
    exec (.enable t) s = done ((s.stepSpent t).thNext t) := by
  have already : (s.stepSpent t).railEn (.loop m) = true := by
    unfold State.railEn
    dsimp only
    rw [s.stepSpent_loops t, asked]
    rfl
  have left : (s.stepSpent t).railWrite (.loop m) true = s.stepSpent t := if_pos (by simp [already])
  exact (execEnable_eq s t m due names).trans (by rw [left])

end

include due names inside

/-- R246: the clause of ENABLE holds of every loop of which no enable is asked. -/
theorem execEnable_enables (idle : s.get (LOOP_CTL m) LOOP_CTL_EN = 0) (clear : s.flt.fenced = [])
    (unasked : s.loops[m].pendEn ≠ some true) :
    Answers (.enable t) s fun u => u.thPc t = s.thPc t + 1 ∧ u.get (LOOP_CTL m) LOOP_CTL_EN = 1 ∧
      u.loops[m].pendEn = some true ∧ u.loops[m].askAt = s.clk.frames ∧
      Frame [SEQ_THR_STAT t, LOOP_CTL m] [.seq, .clk, .loops] s.seqSettle u := by
  have off : (s.stepSpent t).railEn (.loop m) = false := by
    have reads : (s.stepSpent t).flag (LOOP_CTL m) LOOP_CTL_EN = false := by
      rw [State.flag_eq, s.stepSpent_loopCtl, idle]
      rfl
    unfold State.railEn
    dsimp only
    rw [s.stepSpent_loops t, reads]
    cases h : s.loops[m].pendEn with
    | none => rfl
    | some b =>
      cases b with
      | false => rfl
      | true => exact absurd h unasked
  have written : (s.stepSpent t).railWrite (.loop m) true = (s.stepSpent t).loopEnWrite m true :=
    if_neg (by simp [off, s.stepSpent_fenced t, clear])
  have e := execEnable_eq s t m due names
  rw [written] at e
  have place : ((s.stepSpent t).loopEnWrite m true).thPc t = s.thPc t :=
    (State.get_putB_ne _ _ _ _ _ _ (loopCtl_ne_thrStat m t).symm).trans (s.stepSpent_thPc t)
  have below := place.symm ▸ inside
  have next := State.thNext_frame _ t below
  have loops : (((s.stepSpent t).loopEnWrite m true).thNext t).loops[m] =
      { s.loops[m] with pendEn := some true, askAt := s.clk.frames } := by
    rw [(next.same .loops (by decide) : _ = _), ← s.stepSpent_frames t, ← s.stepSpent_loops t]
    exact State.updLoop_loop _ m _
  refine ⟨_, e, (State.thNext_pc _ t below).trans (congrArg (· + 1) place),
    (next.get _ _ (by simpa using loopCtl_ne_thrStat m t)).trans (State.get_putB _ _ _ _ (by decide) (by decide)),
    by rw [loops], by rw [loops], ?_⟩
  have spent : Frame [SEQ_THR_STAT t, LOOP_CTL m] [.seq, .clk, .loops] s.seqSettle (s.stepSpent t) :=
    (s.stepSpent_frame t).mono (by simp) (by simp)
  exact Frame.trans (.updLoop (spent.putB _ _ (by simp)) (by simp)) (next.mono (by simp) (by simp))

end

/-- A part in RUN whose thread UP stands at ENABLE of loop 0, with an enable of that loop asked while its EN reads 0. -/
def askedLoop : State :=
  { (State.reset.put (SEQ_THR_STAT thUp) SEQ_THR_STAT_STATE thRunning).wr (STEP 0) 0x10000000 with
    power := .run, clk := { inForce := true, cfgCopy := some 0, stage := .threads },
    loops := Vector.replicate 4 { pendEn := some true } }

/-- Refutes O29: the clause of ENABLE asks that EN reads 0, but not that no enable of the loop is asked yet, and the model
takes a loop for enabled from the asking on (R246, `State.railEn`). In `askedLoop` the step goes on and leaves EN at 0; of
every loop of which no enable is asked the clause holds (`execEnable_enables`). -/
theorem not_stencilSteps : ¬ Obligations.StencilSteps := by
  intro h
  obtain ⟨-, -, -, steps, -⟩ := h askedLoop thUp
  obtain ⟨enables, -⟩ := steps (by decide) (by decide)
  have due : askedLoop.stepDue thUp 1 = true := by decide
  have names : railOf (stepRail (askedLoop.stepWord thUp)) = some (.loop 0) := by decide
  obtain ⟨u, e, -, reads, -⟩ := enables 0 due names (by decide) rfl
  have reached := (execEnable_passes askedLoop thUp 0 due names rfl).symm.trans e
  obtain rfl := Host.Outcome.next.inj reached
  have below := askedLoop.stepSpent_inside thUp (by decide)
  rw [(State.thNext_frame _ thUp below).get _ _ (by decide), askedLoop.stepSpent_loopCtl] at reads
  exact absurd reads (by decide)

end Sys2Proof.Machine
end

section
/-! PROOF. The thermal model (R281 to R286, R288): what a step integrates, and that what follows the integration moves no
temperature while the cross-check is off; the fall of the level. -/
namespace Sys2Proof.Machine
open Sys2Proof

/-! ### What follows the integration (R283 to R286, R288) -/

/-- From `s` to `t` a step goes on with the temperatures and powers that it has integrated, and lowers no level. -/
structure StepGoesOn (s t : State) : Prop where
  last : t.th.last = s.th.last
  steps : t.th.steps = s.th.steps
  temp : ∀ k : Fin 40, t.th.nodes[k].t = s.th.nodes[k].t
  power : ∀ k : Fin 40, t.th.nodes[k].p = s.th.nodes[k].p
  level : s.th.level ≤ t.th.level
  frame : EventFrame [TH_STAT] [.th] s t

namespace StepGoesOn
variable {s t u : State}

theorem refl : StepGoesOn s s := ⟨rfl, rfl, fun _ => rfl, fun _ => rfl, Nat.le_refl _, .refl⟩
theorem trans (h : StepGoesOn s t) (g : StepGoesOn t u) : StepGoesOn s u :=
  ⟨g.last.trans h.last, g.steps.trans h.steps, fun k => (g.temp k).trans (h.temp k),
    fun k => (g.power k).trans (h.power k), Nat.le_trans h.level g.level, h.frame.trans g.frame⟩
theorem foldl {α : Type} {f : State → α → State} (g : ∀ x a, StepGoesOn x (f x a)) (l : List α) (s : State) :
    StepGoesOn s (l.foldl f s) := by
  induction l generalizing s with
  | nil => exact .refl
  | cons a r ih => exact (g s a).trans (ih _)
/-- What changes neither node nor count, and lowers no level. -/
theorem updTh {f : ThSt → ThSt} (last : (f s.th).last = s.th.last) (steps : (f s.th).steps = s.th.steps)
    (nodes : (f s.th).nodes = s.th.nodes) (level : s.th.level ≤ (f s.th).level) : StepGoesOn s (s.updTh f) :=
  ⟨last, steps, fun k => by rw [State.updTh_th, nodes], fun k => by rw [State.updTh_th, nodes], level,
    .updTh .refl List.mem_cons_self⟩

end StepGoesOn

/-- From `s` to `u` a node's events are told, and the model is left as it is. -/
structure NodeTold (s u : State) : Prop where
  th : u.th = s.th
  frame : EventFrame [TH_STAT] [.th] s u

namespace NodeTold
variable {s u : State}

theorem refl : NodeTold s s := ⟨rfl, .refl⟩
theorem raise {e c h : Nat} {d : List Byte} (k : NodeTold s u) (he : e < 256) : NodeTold s (u.raise e c h d) :=
  ⟨(State.raise_th _ _ _ _ _).trans k.th, k.frame.raise he⟩
theorem shown {f : Fld} {b : Bool} (k : NodeTold s u) : NodeTold s (u.putB TH_STAT f b) :=
  ⟨k.th, k.frame.putB _ _ List.mem_cons_self⟩
theorem raiseIf {c : Prop} [Decidable c] {e x h : Nat} {d : List Byte} (k : NodeTold s u) (he : e < 256) :
    NodeTold s (if c then u.raise e x h d else u) := by
  split
  · exact k.raise he
  · exact k
theorem ite {c : Prop} [Decidable c] {t : State} (k : NodeTold s t) (h : NodeTold s u) :
    NodeTold s (if c then t else u) := by split <;> assumption

end NodeTold

section
variable (s : State)

theorem State.packagePower_goesOn : StepGoesOn s s.packagePower := .updTh rfl rfl rfl (Nat.le_refl _)

/-- R283: with XCHK_EN at 0 the cross-check counts runs alone. -/
theorem State.crossCheck_goesOn (off : s.latchedF TH_CFG TH_CFG_XCHK_EN = 0) : StepGoesOn s s.crossCheck := by
  have counts : s.crossCheck = s.updTh _ := if_pos off
  rw [counts]
  exact .updTh rfl rfl rfl (Nat.le_refl _)

theorem nodeRise_t (steps : Nat) (n : NodeSt) : (nodeRise steps n).t = n.t := rfl
theorem nodeRise_p (steps : Nat) (n : NodeSt) : (nodeRise steps n).p = n.p := rfl

theorem State.rises_goesOn : StepGoesOn s s.rises := by
  have node (k : Fin 40) : s.rises.th.nodes[k] = nodeRise s.th.steps s.th.nodes[k] := Vector.getElem_map ..
  exact ⟨rfl, rfl, fun k => by rw [node, nodeRise_t], fun k => by rw [node, nodeRise_p], Nat.le_refl _,
    .updTh .refl List.mem_cons_self⟩

/-- R288: a node out of use says nothing; of another the events are told, and what has been said is noted in it. -/
theorem State.nodeEvents_cases (i : Fin 40) : s.nodeEvents i = s ∨ ∃ u n, NodeTold s u ∧ n.t = s.th.nodes[i].t ∧
    n.p = s.th.nodes[i].p ∧ s.nodeEvents i = u.updTh (fun t => { t with nodes := t.nodes.set i n }) := by
  unfold State.nodeEvents
  dsimp only
  split
  · exact .inl rfl
  · refine .inr ⟨_, _, ?_, ?_, ?_, rfl⟩
    · exact .raiseIf (.raiseIf (.raiseIf (.ite (.raise (.shown .refl) (by decide)) (.ite (.shown .refl) .refl))
        (by decide)) (by decide)) (by decide)
    · rfl
    · rfl

theorem State.nodeEvents_goesOn (i : Fin 40) : StepGoesOn s (s.nodeEvents i) := by
  obtain same | ⟨u, n, told, temp, power, noted⟩ := s.nodeEvents_cases i
  · rw [same]
    exact .refl
  · have th : (s.nodeEvents i).th = { s.th with nodes := s.th.nodes.set i n } := by
      rw [noted, State.updTh_th, told.th]
    have node (k : Fin 40) : (s.nodeEvents i).th.nodes[k] = if i.val = k.val then n else s.th.nodes[k] := by
      rw [th]
      exact Vector.getElem_set i.isLt k.isLt
    have kept (k : Fin 40) : (s.nodeEvents i).th.nodes[k].t = s.th.nodes[k].t ∧
        (s.nodeEvents i).th.nodes[k].p = s.th.nodes[k].p := by
      rw [node]
      split
      · next same =>
        obtain rfl := Fin.ext same
        exact ⟨temp, power⟩
      · exact ⟨rfl, rfl⟩
    have frame : EventFrame [TH_STAT] [.th] s (s.nodeEvents i) := by
      rw [noted]
      exact told.frame.updTh List.mem_cons_self
    exact ⟨by rw [th], by rw [th], fun k => (kept k).1, fun k => (kept k).2, by rw [th], frame⟩

/-- R285: a demand above the level raises it, and no other changes it. -/
theorem State.throttle_goesOn : StepGoesOn s s.throttle := by
  unfold State.throttle
  dsimp only
  refine .updTh ?_ ?_ ?_ ?_
  · split <;> rfl
  · split <;> rfl
  · split <;> rfl
  · split
    · next above => exact Nat.le_of_lt above
    · exact Nat.le_refl _

/-- A step reads what the last tick has latched, and keeps it. -/
theorem State.latchedF_inStep {t : State} (h : EventFrame [TH_STAT] [.th] s t) (a : Nat) (f : Fld) :
    t.latchedF a f = s.latchedF a f := by
  have snap : t.snap = s.snap := h.same .snap (by decide) (by decide)
  unfold State.latchedF State.latched
  rw [snap]

/-- All that follows the integration in a step. -/
def State.stepRest : State := ((allFin 40).foldl State.nodeEvents s.packagePower.crossCheck.rises).throttle

theorem State.stepRest_goesOn (off : s.latchedF TH_CFG TH_CFG_XCHK_EN = 0) : StepGoesOn s s.stepRest := by
  have unchecked := (s.latchedF_inStep s.packagePower_goesOn.frame TH_CFG TH_CFG_XCHK_EN).trans off
  have risen : StepGoesOn s s.packagePower.crossCheck.rises :=
    (s.packagePower_goesOn.trans (State.crossCheck_goesOn _ unchecked)).trans (State.rises_goesOn _)
  exact (risen.trans (.foldl State.nodeEvents_goesOn _ _)).trans (State.throttle_goesOn _)

/-! ### The integration (R281) -/

/-- The boundary temperature of a step, with 24 fractional bits (R279). -/
def State.stepBoundary : Int := (getFI (s.latched TH_AMB) TH_AMB_AMB + s.th.ofs) * (2 ^ 17 : Nat)

/-- The temperature that a step gives a node (R281). -/
def State.stepTemp (k : Fin 40) : Int :=
  if k.val = 39 ∨ s.latchedF (TH_NODE k) TH_NODE_CAP = 0 then s.stepBoundary
  else s.th.nodes[k].t + roundDiv (s.th.nodes[k].sum * (2 ^ 20 : Nat) -
    100 * nodeFlow ((s.th.nodes.toList.map (·.t)).set 39 s.stepBoundary) k s.links)
      (3125000 * s.latchedF (TH_NODE k) TH_NODE_CAP)

theorem State.integrate_temp (k : Fin 40) : s.integrate.th.nodes[k].t = s.stepTemp k := by
  unfold State.integrate State.stepTemp State.stepBoundary
  simp
theorem State.integrate_steps : s.integrate.th.steps = s.th.steps + 1 := rfl
theorem State.integrate_level : s.integrate.th.level = s.th.level := by
  unfold State.integrate
  rw [State.updTh_th]
theorem State.integrate_frame : EventFrame [TH_STAT] [.th] s s.integrate := by
  unfold State.integrate
  exact .updTh .refl List.mem_cons_self
theorem State.integrate_power (k : Fin 40) : s.integrate.th.nodes[k].p = roundDiv s.th.nodes[k].sum 16000 := by
  unfold State.integrate
  simp

/-! ### The commands -/

/-- A state of which the model has taken the step of the present frame. -/
def State.stepMarked : State := s.updTh (fun t => { t with last := some s.clk.frames })

/-- The mark of the frame is no part of what a step integrates. -/
theorem State.stepMarked_temp (k : Fin 40) : s.stepMarked.stepTemp k = s.stepTemp k := rfl
theorem State.stepMarked_integrate_last : s.stepMarked.integrate.th.last = some s.clk.frames := rfl
theorem State.stepMarked_frame : EventFrame [TH_STAT] [.th] s s.stepMarked := .updTh .refl List.mem_cons_self

theorem execThermalStep_eq (on : s.engines = true) (runs : s.th.on = true)
    (en : s.latchedF TH_CFG TH_CFG_EN ≠ 0) (turn : s.frmNum % 16 = 0) (first : s.th.last ≠ some s.clk.frames) :
    exec .thermalStep s = done s.stepMarked.integrate.stepRest :=
  congrArg done (if_pos (by simp [on, runs, en, turn, first]))

theorem execThermalStep_integrates (on : s.engines = true) (runs : s.th.on = true)
    (en : s.latchedF TH_CFG TH_CFG_EN ≠ 0) (turn : s.frmNum % 16 = 0) (first : s.th.last ≠ some s.clk.frames)
    (off : s.latchedF TH_CFG TH_CFG_XCHK_EN = 0) :
    Answers .thermalStep s fun t => t.th.last = some s.clk.frames ∧ t.th.steps = s.th.steps + 1 ∧
      (∀ k : Fin 40, t.th.nodes[k].t = s.stepTemp k ∧ t.th.nodes[k].p = roundDiv s.th.nodes[k].sum 16000) ∧
      s.th.level ≤ t.th.level ∧ EventFrame [TH_STAT] [.th] s t := by
  have integrated := s.stepMarked_frame.trans (State.integrate_frame _)
  have unchecked := (s.latchedF_inStep integrated TH_CFG TH_CFG_XCHK_EN).trans off
  have rest := State.stepRest_goesOn _ unchecked
  exact ⟨_, execThermalStep_eq s on runs en turn first,
    rest.last.trans s.stepMarked_integrate_last, rest.steps.trans (State.integrate_steps _),
    fun k => ⟨(rest.temp k).trans ((State.integrate_temp _ k).trans (s.stepMarked_temp k)),
      (rest.power k).trans (State.integrate_power _ k)⟩,
    Nat.le_trans (Nat.le_of_eq (State.integrate_level _).symm) rest.level, integrated.trans rest.frame⟩

theorem execThermalStep_once (last : s.th.last = some s.clk.frames) : Answers .thermalStep s fun t => t = s :=
  ⟨s, congrArg done (if_neg (by simp [last])), rfl⟩

theorem execThrottleFall_falls (on : s.engines = true) (runs : s.th.on = true) (throttled : 0 < s.th.level)
    (dwelt : 125 * max 1 (s.latchedF TH_CFG TH_CFG_DWELL) ≤ s.th.dwell) :
    Answers .throttleFall s fun t => t.th.level + 1 = s.th.level ∧ t.th.dwell = 0 ∧ Frame [] [.th] s t :=
  ⟨_, congrArg done (if_pos (by simpa [on, runs, throttled] using dwelt)), Nat.sub_add_cancel throttled, rfl,
    .updTh .refl List.mem_cons_self⟩

end

/-- Settles O34: `State.integrate_temp` is the step of a node, and what follows the integration keeps it (`StepGoesOn`). The
rounding of the quotient, the count of steps and the sum of powers are the model's choices (log 14, log 25), and so is
that a second step of a frame changes nothing (log 3). -/
theorem thermalModel : Obligations.ThermalModel := fun s =>
  ⟨execThermalStep_integrates s, execThermalStep_once s, execThrottleFall_falls s⟩

end Sys2Proof.Machine
end

section
/-! PROOF. Writes of the contexts' configuration words (R83, R272, R275, R277, R448): each passes the unlock rule, is
measured, and is then judged by the context that it would leave. -/
namespace Sys2Proof.Machine
open Sys2Proof

/-! ### Registers of the contexts -/

/-- An address between two registers of an array names none of it. -/
theorem index_between {a : Nat} {d : RegDef} {n st i : Nat} (dims : d.dims = [(n, st)]) (past : d.base + st * i < a)
    (short : a < d.base + st * i + st) : d.index a = none := by
  obtain ⟨r, rfl⟩ := Nat.exists_eq_add_of_lt past
  have inner : (d.base + st * i + r + 1 - d.base) % st = r + 1 := by
    rw [show d.base + st * i + r + 1 - d.base = st * i + (r + 1) by omega, Nat.mul_add_mod, Nat.mod_eq_of_lt (by omega)]
  unfold RegDef.index
  rw [if_neg (by omega), dims, dimIndex, inner]
  simp [dimIndex]

/-- Among registers the first that an address names is found. -/
theorem findIn_after {a : Nat} {l r : List RegDef} {d : RegDef} {ix : List Nat} (before : ∀ e ∈ l, e.index a = none)
    (own : d.index a = some ix) : findIn a (l ++ d :: r) = some (d, ix) := by
  induction l with
  | nil => rw [List.nil_append, findIn, own]
  | cons e l ih =>
    rw [List.cons_append, findIn, before e List.mem_cons_self]
    exact ih fun x m => before x (List.mem_cons_of_mem _ m)

/-- The definition of the `k`th configuration word of a context. -/
def ctxRegDef (k : Fin 5) : RegDef := blockRegs10[k]

theorem ctxRegDef_base (k : Fin 5) : (ctxRegDef k).base = CTX_SRC 0 + 4 * k := by revert k; decide
theorem ctxRegDef_dims (k : Fin 5) : (ctxRegDef k).dims = [(160, 0x20)] := by revert k; decide
theorem ctxRegDef_guard (k : Fin 5) : (ctxRegDef k).guard = .prot := by revert k; decide
theorem ctxRegDef_open (k : Fin 5) : (ctxRegDef k).bits .rwl = 0 := by revert k; decide
theorem blockRegs10_split (k : Fin 5) : blockRegs10 = blockRegs10.take k ++ ctxRegDef k :: blockRegs10.drop (k + 1) := by
  revert k; decide
theorem blockRegs10_before (k : Fin 5) : ∀ e ∈ blockRegs10.take k, e.dims = [(160, 0x20)] ∧
    e.base < (ctxRegDef k).base ∧ (ctxRegDef k).base < e.base + 0x20 := by
  revert k; decide

theorem ctxWord_place (i : Fin 160) (k : Fin 5) : CTX_SRC i + 4 * k = (ctxRegDef k).base + 0x20 * i := by
  rw [ctxRegDef_base]
  unfold CTX_SRC
  omega
theorem CTX_named (i : Fin 160) (k : Fin 5) : regAt (CTX_SRC i + 4 * k) = some (ctxRegDef k, [i.val]) := by
  have own : (ctxRegDef k).index (CTX_SRC i + 4 * k) = some [i.val] := by
    rw [ctxWord_place]
    exact index_of_array (ctxRegDef_dims k) i.isLt (by decide)
  have others : ∀ e ∈ blockRegs10.take k, e.index (CTX_SRC i + 4 * k) = none := fun e m => by
    obtain ⟨dims, above, below⟩ := blockRegs10_before k e m
    rw [ctxWord_place]
    exact index_between (i := i.val) dims (by omega) (by omega)
  unfold regAt
  rw [(CTX_protected i k).2]
  change findIn _ blockRegs10 = _
  rw [blockRegs10_split k]
  exact findIn_after others own

theorem ctxWord_offStore (i : Fin 160) (k : Fin 5) :
    ¬(CTX_SRC i + 4 * k < STEP 6144 ∧ STEP 0 ≤ CTX_SRC i + 4 * k) := by
  unfold CTX_SRC STEP
  omega
theorem ctxWord_ne_stat (i : Fin 160) (k : Fin 5) : CTX_SRC i + 4 * k ≠ CTX_STAT i := by
  unfold CTX_SRC CTX_STAT
  omega
/-- What a measured write of block 10 changes beside its target is no register of a context. -/
theorem ctxBlock_offMeasure {a : Nat} (h : a < 0x4001D400) (above : 0x4001C000 ≤ a) :
    a ∉ [SYS_UNL_STAT, mrCnt 2] ∧ offEvents a := by
  refine ⟨?_, offEvents_above (by omega)⟩
  simp only [List.mem_cons, List.not_mem_nil, or_false, not_or]
  unfold SYS_UNL_STAT mrCnt
  omega

section
variable (s : State) (i : Fin 160) (k : Fin 5) (v : Word)

/-! ### The judgement of a word (R275) -/

/-- A context returned to NORMAL: its status, its counts and its anchors start anew (R275). -/
def State.ctxNormal : State :=
  (s.wr (CTX_STAT i) (setF (setF (setF (s.rd (CTX_STAT i)) CTX_STAT_STATE 0) CTX_STAT_RATE 0) CTX_STAT_FCNT 0)).updCtx i
    (fun _ => {})

theorem State.ctxNormal_frame : Frame [CTX_STAT i] [.ctx] s (s.ctxNormal i) :=
  .updCtx (.wr _ .refl List.mem_cons_self) List.mem_cons_self
theorem State.ctxNormal_shows : (s.ctxNormal i).get (CTX_STAT i) CTX_STAT_STATE = 0 ∧
    (s.ctxNormal i).get (CTX_STAT i) CTX_STAT_FCNT = 0 ∧ (s.ctxNormal i).get (CTX_STAT i) CTX_STAT_RATE = 0 := by
  refine ⟨?_, ?_, ?_⟩ <;> refine (State.get_wr_same _ _ _ _).trans ?_
  · rw [getF_setF_ne _ _ _ _ (by decide), getF_setF_ne _ _ _ _ (by decide), getF_setF _ _ _ (by decide)]
    rfl
  · rw [getF_setF _ _ _ (by decide)]
    rfl
  · rw [getF_setF_ne _ _ _ _ (by decide), getF_setF _ _ _ (by decide)]
    rfl

/-- The context stays valid with the word written (R268, R270, R272, R275). -/
def State.ctxStays : Bool :=
  ctxWordsOk (s.ctxAfter i k v 0) (s.ctxAfter i k v 1) (s.ctxAfter i k v 3) (s.ctxAfter i k v 4)

/-- A write of a context's word that is ignored (R275). -/
def State.ctxIgnored : State := (s.putB MON_STAT MON_STAT_WR_IGN true).raise 0x77 1 i

theorem State.ctxIgnored_frame : EventFrame [MON_STAT] [] s (s.ctxIgnored i) :=
  .raise (.putB _ _ .refl List.mem_cons_self) (by decide)
theorem State.ctxIgnored_shown : (s.ctxIgnored i).get MON_STAT MON_STAT_WR_IGN = 1 :=
  (State.get_raise_off _ _ _ _ _ _ _ (by decide) (by decide)).trans (State.get_putB _ _ _ _ (by decide) (by decide))
theorem State.ctxIgnored_raised : (s.ctxIgnored i).raisedCode 0x77 1 := State.raise_raised _ _ _ _ _ (by decide)

/-- The words whose write restarts a context: its source and its gate (R275). -/
theorem ctxWord_restarts (k : Fin 5) : (decide (k.val = 0) || decide (k.val = 4)) = true ↔ k = 0 ∨ k = 4 := by
  revert k
  decide
theorem State.contextWrite_restarts (stays : s.ctxStays i k v = true) (h : k = 0 ∨ k = 4) :
    s.contextWrite i k v = (s.wr (CTX_SRC i + 4 * k) (v &&& ctxWordMask k)).ctxNormal i :=
  (if_pos stays).trans (if_pos ((ctxWord_restarts k).mpr h))
theorem State.contextWrite_keepsState (stays : s.ctxStays i k v = true) (h : k ≠ 0 ∧ k ≠ 4) :
    s.contextWrite i k v = s.wr (CTX_SRC i + 4 * k) (v &&& ctxWordMask k) :=
  (if_pos stays).trans (if_neg fun e => absurd ((ctxWord_restarts k).mp e) (not_or.mpr h))
theorem State.contextWrite_ignores (leaves : s.ctxStays i k v = false) : s.contextWrite i k v = s.ctxIgnored i :=
  if_neg (Bool.eq_false_iff.mp leaves)

/-! ### The write reaches its target measured (R83, R448) -/

theorem State.regWrite_CTX : s.regWrite 10 (CTX_SRC i + 4 * k) (ctxRegDef k) [i.val] v = s.contextWrite i k v := by
  have word : (CTX_SRC i + 4 * k - CTX_SRC i) / 4 = k.val := by omega
  have inside : (CTX_SRC i + 4 * k - CTX_SRC i) / 4 < 5 ∧ CTX_SRC i ≤ CTX_SRC i + 4 * k ∧
      CTX_SRC i + 4 * k < CTX_SRC 160 := by
    unfold CTX_SRC
    omega
  have place : finOf 160 i.val = i := Fin.ext (Nat.mod_eq_of_lt i.isLt)
  unfold State.regWrite
  rw [State.lock_of_open _ _ _ (ctxRegDef_open k)]
  exact (dif_pos inside).trans (congrArg₂ (s.contextWrite · · v) place (Fin.ext word))

/-- A write of a context's word as it reaches its target: the window is timed anew, and MR2 is extended. -/
def State.ctxMeasured : State := (s.windowSet s.actSrc 10).measure (CTX_SRC i + 4 * k) v

theorem State.ctxMeasured_frame : EventFrame [SYS_UNL_STAT, mrCnt 2] [.sys, .mr] s (s.ctxMeasured i k v) :=
  (EventFrame.of_frame ((s.windowSet_frame _ _).mono (by simp) (by simp))).trans
    ((State.measure_frame _ _ v (ctxWord_offStore i k)).mono (by simp) (by simp))
/-- Every register of a context reaches the judgement as it was. -/
theorem State.ctxMeasured_rd {a : Nat} (above : CTX_SRC i ≤ a) (below : a < CTX_SRC i + 0x20) :
    (s.ctxMeasured i k v).rd a = s.rd a := by
  have inside : a < 0x4001D400 ∧ 0x4001C000 ≤ a := by
    unfold CTX_SRC at above below
    omega
  obtain ⟨unmeasured, off⟩ := ctxBlock_offMeasure inside.1 inside.2
  exact (s.ctxMeasured_frame i k v).rd a unmeasured off
theorem State.ctxMeasured_after {j : Nat} (h : j < 5) : (s.ctxMeasured i k v).ctxAfter i k v j = s.ctxAfter i k v j := by
  unfold State.ctxAfter
  rw [s.ctxMeasured_rd i k v (by omega) (by omega)]
theorem State.ctxMeasured_stays : (s.ctxMeasured i k v).ctxStays i k v = s.ctxStays i k v := by
  unfold State.ctxStays
  iterate 4 rw [s.ctxMeasured_after i k v (by decide)]

theorem execContextWrite_eq (unlocked : s.Unlocked 10) :
    exec (.contextWrite i k v) s = done ((s.ctxMeasured i k v).contextWrite i k v) := by
  obtain ⟨run, passed⟩ := unlocked
  have made := s.busWrite_made v (CTX_protected i k).2 (CTX_named i k) (ctxRegDef_guard k) (by decide) passed
  exact (congrArg done (if_pos run)).trans (congrArg done (made.trans (State.regWrite_CTX _ i k v)))

/-! ### The command (R275) -/

theorem execContextWrite_takes (unlocked : s.Unlocked 10) (stays : s.ctxStays i k v = true) :
    Answers (.contextWrite i k v) s fun t => t.rd (CTX_SRC i + 4 * k) = v &&& ctxWordMask k ∧
      (k = 0 ∨ k = 4 → t.get (CTX_STAT i) CTX_STAT_STATE = 0 ∧ t.get (CTX_STAT i) CTX_STAT_FCNT = 0 ∧
        t.get (CTX_STAT i) CTX_STAT_RATE = 0) ∧
      (k ≠ 0 → k ≠ 4 → t.rd (CTX_STAT i) = s.rd (CTX_STAT i)) ∧
      EventFrame [CTX_SRC i + 4 * k, CTX_STAT i, SYS_UNL_STAT, mrCnt 2] [.ctx, .sys, .mr] s t := by
  have judged := (s.ctxMeasured_stays i k v).trans stays
  have e := execContextWrite_eq s i k v unlocked
  have written : EventFrame [CTX_SRC i + 4 * k, CTX_STAT i, SYS_UNL_STAT, mrCnt 2] [.ctx, .sys, .mr] s
      ((s.ctxMeasured i k v).wr (CTX_SRC i + 4 * k) (v &&& ctxWordMask k)) :=
    .wr _ ((s.ctxMeasured_frame i k v).mono (by simp) (by simp)) List.mem_cons_self
  by_cases h : k = 0 ∨ k = 4
  · rw [State.contextWrite_restarts _ i k v judged h] at e
    have restarted := State.ctxNormal_frame ((s.ctxMeasured i k v).wr (CTX_SRC i + 4 * k) (v &&& ctxWordMask k)) i
    have word := restarted.rd _ (mt List.mem_singleton.mp (ctxWord_ne_stat i k))
    exact ⟨_, e, word.trans (State.rd_wr_same _ _ _), fun _ => State.ctxNormal_shows _ i,
      fun source gate => absurd h (not_or.mpr ⟨source, gate⟩),
      written.trans (.of_frame (restarted.mono (by simp) (by simp)))⟩
  · rw [State.contextWrite_keepsState _ i k v judged (not_or.mp h)] at e
    have stat := s.ctxMeasured_rd i k v (a := CTX_STAT i) (by unfold CTX_SRC CTX_STAT; omega)
      (by unfold CTX_SRC CTX_STAT; omega)
    exact ⟨_, e, State.rd_wr_same _ _ _, fun restarts => absurd restarts h,
      fun _ _ => (State.rd_wr_ne _ _ _ _ (ctxWord_ne_stat i k).symm).trans stat, written⟩

theorem execContextWrite_ignores (unlocked : s.Unlocked 10) (leaves : s.ctxStays i k v = false) :
    Answers (.contextWrite i k v) s fun t => t.get MON_STAT MON_STAT_WR_IGN = 1 ∧ t.raisedCode 0x77 1 ∧
      EventFrame [MON_STAT, SYS_UNL_STAT, mrCnt 2] [.sys, .mr] s t := by
  have ignored := State.contextWrite_ignores _ i k v ((s.ctxMeasured_stays i k v).trans leaves)
  exact ⟨_, (execContextWrite_eq s i k v unlocked).trans (congrArg done ignored), State.ctxIgnored_shown _ i,
    State.ctxIgnored_raised _ i, ((s.ctxMeasured_frame i k v).mono (by simp) fun _ => id).trans
      ((State.ctxIgnored_frame _ i).mono (by simp) (by simp))⟩

end

/-- Settles O35: a write that the unlock rule passes comes measured to `State.contextWrite`, which judges the context that
it would leave (`State.ctxStays`). -/
theorem contextWrites : Obligations.ContextWrites := fun s i k v unlocked =>
  ⟨execContextWrite_takes s i k v unlocked, execContextWrite_ignores s i k v unlocked⟩

end Sys2Proof.Machine
end

section
/-! PROOF. The converters (R295 to R298): an urgent conversion made under FORCE before REF_READY carries UNSETTLED, which
the statement denies of every result. -/
namespace Sys2Proof.Machine
open Sys2Proof

/-! ### The result word (R295) -/

section
variable (code : Nat) (unsettled redone stale : Bool) (core frame : Nat)

theorem getF_resultWord_code :
    getF (resultWord code unsettled redone stale core frame) ⟨0, 16⟩ = code % 2 ^ 16 := by
  unfold resultWord
  iterate 5 rw [getF_setF_ne _ _ _ _ (by decide)]
  exact getF_setF _ _ _ (by decide)
theorem getF_resultWord_unsettled :
    getF (resultWord code unsettled redone stale core frame) fldUnsettled = if unsettled then 1 else 0 := by
  unfold resultWord
  iterate 4 rw [getF_setF_ne _ _ _ _ (by decide)]
  rw [getF_setF _ _ _ (by decide)]
  cases unsettled <;> rfl

end

/-! ### The registers of the urgent requests (R308) -/

section
variable (q : Fin 2) (j : Fin 8)

theorem urgRes_ne_urg : ADC_URG_RES q j ≠ ADC_URG q j := by unfold ADC_URG ADC_URG_RES; omega
theorem urg_ne_urgDone : ADC_URG q j ≠ ADC_URG_DONE := by unfold ADC_URG ADC_URG_DONE; omega
theorem urgRes_ne_urgDone : ADC_URG_RES q j ≠ ADC_URG_DONE := by unfold ADC_URG_RES ADC_URG_DONE; omega

end

/-! ### The result of an urgent request (R296 to R298) -/

section
variable (s : State) (q : Fin 2) (j : Fin 8)

/-- The word that an uncorrected urgent conversion publishes. -/
def State.urgentWord (raw : BitVec 16) : Word :=
  resultWord raw.toNat (!s.adcReady) false (s.adc.failed.contains (s.coreOf q)) (s.coreOf q) s.frmNum

/-- The request at the front of its sequence is served with a result word. -/
def State.urgentServed (w : Word) : State :=
  (((s.wr (ADC_URG_RES q j) w).updUrgent q (fun l => l.drop 1)).putB (ADC_URG q j) ADC_URG_PEND false).putB
    ADC_URG_DONE (bitF (8 * q + j)) true

variable (w : Word)

theorem State.urgentServed_pend : (s.urgentServed q j w).get (ADC_URG q j) ADC_URG_PEND = 0 :=
  (State.get_putB_ne _ _ _ _ _ _ (urg_ne_urgDone q j)).trans (State.get_putB _ _ _ _ (by decide) rfl)
theorem State.urgentServed_done : (s.urgentServed q j w).get ADC_URG_DONE (bitF (8 * q + j)) = 1 :=
  State.get_putB _ _ _ _ (by dsimp only [bitF]; omega) rfl
theorem State.urgentServed_result (f : Fld) : (s.urgentServed q j w).get (ADC_URG_RES q j) f = getF w f := by
  unfold State.urgentServed
  rw [State.get_putB_ne _ _ _ _ _ _ (urgRes_ne_urgDone q j), State.get_putB_ne _ _ _ _ _ _ (urgRes_ne_urg q j)]
  exact State.get_wr_same _ _ _ _
theorem State.urgentServed_queue : (s.urgentServed q j w).adc.queue[q] = s.adc.queue[q].drop 1 :=
  Vector.getElem_set_self q.isLt
theorem State.urgentServed_frame :
    Frame [ADC_URG q j, ADC_URG_RES q j, ADC_URG_DONE] [.adc] s (s.urgentServed q j w) :=
  .putB _ _ (.putB _ _ (.updAdc (.wr _ .refl (by simp)) (by simp)) (by simp)) (by simp)

end

section
variable (s : State) (q : Fin 2) (j : Fin 8) (raw : BitVec 16) (r : List Nat)
  (on : s.engines = true) (waits : s.get (ADC_URG q j) ADC_URG_PEND = 1) (runs : s.adcRuns = true)
  (unfenced : s.coreFenced (s.coreOf q) = false) (kept : s.seqLost q = false) (front : s.adc.queue[q] = j.val :: r)
  (inFrame : j.val ∉ s.adc.seqs[q].later) (plain : s.get (ADC_URG q j) ADC_URG_CAL_EN = 0)
include on waits runs unfenced kept front inFrame plain

theorem execUrgentResult_eq : exec (.urgentResult q j raw) s = done (s.urgentServed q j (s.urgentWord q raw)) := by
  have pends : s.flag (ADC_URG q j) ADC_URG_PEND = true := by rw [State.flag_eq, waits]; rfl
  have due : (s.engines && s.flag (ADC_URG q j) ADC_URG_PEND && s.adcRuns && !s.coreFenced (s.coreOf q) &&
      !s.seqLost q && s.adc.queue[q].head? == some j.val && !s.adc.seqs[q].later.contains j.val) = true := by
    simpa [on, pends, runs, unfenced, kept, front] using inFrame
  have code : s.adcCode (s.coreOf q) (s.get (ADC_URG q j) ADC_URG_INPUT)
      (s.get (ADC_URG q j) ADC_URG_CAL_EN != 0) raw.toNat = raw.toNat := if_neg (by simp [plain])
  exact congrArg done ((if_pos due).trans (congrArg (fun c => s.urgentServed q j (resultWord c (!s.adcReady) false
    (s.adc.failed.contains (s.coreOf q)) (s.coreOf q) s.frmNum)) code))

/-- R298: the clause of an urgent result holds with UNSETTLED at 1 where the conversion was made before REF_READY. -/
theorem execUrgentResult_serves :
    Answers (.urgentResult q j raw) s fun t => t.get (ADC_URG q j) ADC_URG_PEND = 0 ∧
      t.get ADC_URG_DONE (bitF (8 * q + j)) = 1 ∧ t.get (ADC_URG_RES q j) ⟨0, 16⟩ = raw.toNat ∧
      t.get (ADC_URG_RES q j) fldUnsettled = (if s.adcReady then 0 else 1) ∧ t.adc.queue[q] = r ∧
      Frame [ADC_URG q j, ADC_URG_RES q j, ADC_URG_DONE] [.adc] s t := by
  refine ⟨_, execUrgentResult_eq s q j raw r on waits runs unfenced kept front inFrame plain,
    s.urgentServed_pend q j _, s.urgentServed_done q j _, ?_, ?_, ?_, s.urgentServed_frame q j _⟩
  · rw [State.urgentServed_result, State.urgentWord, getF_resultWord_code]
    exact Nat.mod_eq_of_lt raw.isLt
  · rw [State.urgentServed_result, State.urgentWord, getF_resultWord_unsettled]
    cases s.adcReady <;> rfl
  · rw [State.urgentServed_queue, front]
    rfl

end

/-- A configured part in RUN that converts under FORCE before REF_READY, with request 0 of sequence 0 waiting. -/
def forcedUrgent : State :=
  { (State.reset.wr (ADC_URG 0 0) (setF 0 ADC_URG_PEND 1)).putB ADC_CFG ADC_CFG_FORCE true with
    power := .run, clk := { inForce := true, cfgCopy := some 0 }, adc := { queue := Vector.replicate 2 [0] } }

/-- Refutes O33: the clause of an urgent result asks that the cores convert (`State.adcRuns`), which they also do under
FORCE before REF_READY, and every result of that time carries UNSETTLED (R298). In `forcedUrgent` the result reads
UNSETTLED 1; with the bit told by REF_READY the clause holds (`execUrgentResult_serves`). -/
theorem not_converters : ¬ Obligations.Converters := by
  intro h
  obtain ⟨-, -, -, result, -⟩ := h forcedUrgent 0 0
  have plain : forcedUrgent.get (ADC_URG 0 0) ADC_URG_CAL_EN = 0 := by decide
  have waits : forcedUrgent.get (ADC_URG 0 0) ADC_URG_PEND = 1 := by decide
  have runs : forcedUrgent.adcRuns = true := by decide
  have unfenced : forcedUrgent.coreFenced (forcedUrgent.coreOf 0) = false := by decide
  have kept : forcedUrgent.seqLost 0 = false := by decide
  have inFrame : 0 ∉ forcedUrgent.adc.seqs[0].later := by decide
  obtain ⟨t, e, -, -, -, settled, -⟩ := result 0 [] rfl waits runs unfenced kept rfl inFrame plain
  obtain ⟨u, reached, -, -, -, unsettled, -⟩ :=
    execUrgentResult_serves forcedUrgent 0 0 0 [] rfl waits runs unfenced kept rfl inFrame plain
  obtain rfl := Host.Outcome.next.inj (reached.symm.trans e)
  rw [settled] at unsettled
  exact absurd unsettled (by decide)

end Sys2Proof.Machine
end

section
/-! PROOF. The step of the block (log 1, log 3): it takes the front command off the queue, every command goes on, and every
step keeps the canonical forms. -/
namespace Sys2Proof.Machine
open Sys2Proof

section
variable {s t : State} {c : Instr} {r : List Instr}

/-- On an empty queue a step answers the state itself (log 1). -/
theorem step_of_empty (h : s.pending = []) : step s = .next s := by
  unfold step
  rw [h]
/-- A command at the front of the queue is what a step runs. -/
theorem step_of_front (h : s.pending = c :: r) : step s = exec c { s with pending := r } := by
  unfold step
  rw [h]

/-- A step that goes on keeps what its command keeps, of the state without that command. -/
theorem step_keeps_of_front (h : s.pending = c :: r) (e : step s = .next t) : Keeps { s with pending := r } t :=
  exec_keeps c _ t ((step_of_front h).symm.trans e)

/-- The canonical forms do not speak of the queue, and every command keeps them. -/
theorem step_wf (e : step s = .next t) (w : s.Wf) : t.Wf := by
  cases h : s.pending with
  | nil =>
    rw [step_of_empty h] at e
    cases e
    exact w
  | cons c r => exact (step_keeps_of_front h e).wf w

end

/-- No meaning faults and none refuses (log 3): each ends in `done`. -/
theorem exec_goes (c : Instr) (s : State) : Goes (exec c s) := by
  cases c
  all_goals exact ⟨_, rfl⟩

/-- Settles O1: a step runs the command at the front. -/
theorem stepRunsFront : Obligations.StepRunsFront := fun _ _ _ h => step_of_front h

/-- Settles O2: with an empty queue a step leaves the state as it is. -/
theorem stepIdles : Obligations.StepIdles := fun _ h => step_of_empty h

/-- Settles O3: no command reads or writes the queue (`exec_keeps`). -/
theorem stepTakesOneCommand : Obligations.StepTakesOneCommand := fun _ _ _ _ h e => (step_keeps_of_front h e).pending

/-- Settles O4: every command goes on (`exec_goes`), with the queue as it was (`exec_keeps`). -/
theorem everyCommandGoesOn : Obligations.EveryCommandGoesOn := fun c s => by
  obtain ⟨t, e⟩ := exec_goes c s
  exact ⟨t, e, (exec_keeps c s t e).pending⟩

/-- Settles O6: every command keeps the canonical forms, and so does the step that runs it (`step_wf`). -/
theorem stepKeepsForm : Obligations.StepKeepsForm := fun _ _ => step_wf

end Sys2Proof.Machine
end

section
/-! PROOF. A write of PH_CFG (R97, R128, R129, R445, R447): what every measured write leaves before its target, and how the
phase engine judges and takes the word. -/
namespace Sys2Proof.Machine
open Sys2Proof

/-! ### A protected write as it reaches its target (R83, R448) -/

section
variable (s : State) (block a : Nat) (v : Word)

/-- The window is timed anew, and MR2 is extended. -/
def State.measured : State := (s.windowSet s.actSrc block).measure a v

theorem State.measured_frame (off : ¬(a < STEP 6144 ∧ STEP 0 ≤ a)) :
    EventFrame [SYS_UNL_STAT, mrCnt 2] [.sys, .mr] s (s.measured block a v) :=
  (EventFrame.of_frame ((s.windowSet_frame _ _).mono (by simp) (by simp))).trans
    ((State.measure_frame _ a v off).mono (by simp) (by simp))

/-- A command that is a write to a protected register beyond block 0, where the unlock rule passes it. -/
theorem State.exec_protMade {c : Instr} {block a : Nat} {v : Word} {d : RegDef} {ix : List Nat}
    (e : exec c s = done (s.busWrite a v).1) (hb : blockOf a = some block) (hr : regAt a = some (d, ix))
    (g : d.guard = .prot) (other : block ≠ 0) (passed : s.protBlocked s.actSrc block = none) :
    exec c s = done ((s.measured block a v).regWrite block a d ix v) :=
  e.trans (congrArg done (s.busWrite_made v hb hr g other passed))

end

/-! ### The register -/

theorem PH_CFG_named (n : Fin 16) :
    blockOf (PH_CFG n) = some 5 ∧ regAt (PH_CFG n) = some (regDefPH_CFG, [n.val]) := by
  revert n; decide
theorem PH_CFG_protected (n : Fin 16) : isProtected (PH_CFG n) = true := by
  unfold isProtected
  rw [(PH_CFG_named n).2]
  rfl
theorem phCfg_offStore (n : Fin 16) : ¬(PH_CFG n < STEP 6144 ∧ STEP 0 ≤ PH_CFG n) := by unfold PH_CFG STEP; omega
theorem phCfg_unmeasured (n : Fin 16) : PH_CFG n ∉ [SYS_UNL_STAT, mrCnt 2] := by revert n; decide
theorem phStat_unmeasured (n : Fin 16) : PH_STAT n ∉ [SYS_UNL_STAT, mrCnt 2] := by revert n; decide
theorem phCfg_notMem_loopStat (n : Fin 16) (m : Fin 4) : PH_CFG n ∉ LOOP_STAT m :: phStats := by revert n m; decide

section
variable (s : State) (n : Fin 16) (v : Word)

theorem State.regWrite_PH_CFG : s.regWrite 5 (PH_CFG n) regDefPH_CFG [n.val] v = s.phCfgWrite n v := by
  unfold State.regWrite
  rw [State.lock_of_open _ _ _ (by decide)]
  exact (if_pos rfl).trans (congrArg (s.phCfgWrite · v) (Fin.ext (Nat.mod_eq_of_lt n.isLt)))

/-! ### The judgement (R97) -/

/-- The word that a write of PH_CFG stores: its three fields. -/
def phCfgWord (v : Word) : Word :=
  setF (setF (setF 0 PH_CFG_ROLE (getF v PH_CFG_ROLE)) PH_CFG_LOOP (getF v PH_CFG_LOOP)) PH_CFG_POS (getF v PH_CFG_POS)

theorem getF_phCfgWord : getF (phCfgWord v) PH_CFG_ROLE = getF v PH_CFG_ROLE ∧
    getF (phCfgWord v) PH_CFG_LOOP = getF v PH_CFG_LOOP ∧ getF (phCfgWord v) PH_CFG_POS = getF v PH_CFG_POS := by
  have small : ∀ f : Fld, getF v f % 2 ^ f.w = getF v f := fun f => Nat.mod_mod _ _
  unfold phCfgWord
  refine ⟨?_, ?_, ?_⟩
  · rw [getF_setF_ne _ _ _ _ (by decide), getF_setF_ne _ _ _ _ (by decide), getF_setF _ _ _ (by decide), small]
  · rw [getF_setF_ne _ _ _ _ (by decide), getF_setF _ _ _ (by decide), small]
  · rw [getF_setF _ _ _ (by decide), small]

/-- The loop that a word names. -/
def phCfgLoop (v : Word) : Fin 4 := ⟨getF v PH_CFG_LOOP % 4, by omega⟩

theorem phCfgLoop_of_val {m : Fin 4} (h : m.val = getF v PH_CFG_LOOP) : phCfgLoop v = m :=
  Fin.ext (show getF v PH_CFG_LOOP % 4 = m.val by omega)

/-- A write of PH_CFG that is ignored (R97). -/
def State.phCfgIgnored : State := (s.putB PE_STAT PE_STAT_CFG_IGN true).raise 0x37 0x01 n
/-- A write of PH_CFG that is taken (R97, R128). -/
def State.phCfgTaken : State :=
  ((((s.wr (PH_CFG n) (phCfgWord v)).takeRole n).reslot (s.loopOf n)).reslot (phCfgLoop v))

theorem State.phCfgWrite_ignores
    (h : getF v PH_CFG_ROLE = 3 ∨ s.loopOn (s.loopOf n) = true ∨ ∃ m : Fin 4, m.val = getF v PH_CFG_LOOP ∧ s.loopOn m = true) :
    s.phCfgWrite n v = s.phCfgIgnored n := by
  refine if_pos ?_
  obtain role | before | ⟨m, names, after⟩ := h
  · simp [role]
  · have : s.loopOn ⟨s.phLoop n % 4, by omega⟩ = true := before
    simp [this]
  · have : s.loopOn ⟨getF v PH_CFG_LOOP % 4, by omega⟩ = true := phCfgLoop_of_val v names ▸ after
    simp [this]

theorem State.phCfgWrite_takes (role : getF v PH_CFG_ROLE ≠ 3) (off : ∀ m : Fin 4, s.loopOn m = false) :
    s.phCfgWrite n v = s.phCfgTaken n v :=
  if_neg (by simp [role, off])

theorem State.phCfgIgnored_shows : (s.phCfgIgnored n).get PE_STAT PE_STAT_CFG_IGN = 1 ∧
    (s.phCfgIgnored n).raisedCode 0x37 0x01 ∧ EventFrame [PE_STAT] [] s (s.phCfgIgnored n) :=
  ⟨(State.get_raise_off _ _ _ _ _ _ _ (by decide) (by decide)).trans (State.get_putB _ _ _ _ (by decide) (by decide)),
    State.raise_raised _ _ _ _ _ (by decide), .raise (.putB _ _ .refl (by decide)) (by decide)⟩

/-! ### The role that a phase takes (R128, R129) -/

/-- The state of PH_STAT that a role gives (R128). -/
def roleState (role : Nat) : Nat := if role = 1 then phOff else if role = 2 then phSpare else phUnused

theorem roleState_lt (role : Nat) : roleState role < 2 ^ PH_STAT_STATE.w := by
  unfold roleState
  split
  · decide
  · split <;> decide

theorem State.takeRole_eq : s.takeRole n =
    if s.phState n = phFenced then s.updPhase n (fun p => { p with pos := s.get (PH_CFG n) PH_CFG_POS })
    else (s.updPhase n (fun p => { p with pos := s.get (PH_CFG n) PH_CFG_POS })).setPh n (roleState (s.phRole n)) := by
  have role : (match s.phRole n with | 1 => phOff | 2 => phSpare | _ => phUnused) = roleState (s.phRole n) := by
    unfold roleState
    split <;> simp_all
  unfold State.takeRole
  by_cases f : s.phState n = phFenced
  · rw [if_pos f]
    exact if_pos (beq_iff_eq.mpr f)
  · rw [if_neg f, ← role]
    exact if_neg (mt beq_iff_eq.mp f)

theorem State.takeRole_state :
    (s.takeRole n).phState n = if s.phState n = phFenced then phFenced else roleState (s.phRole n) := by
  rw [s.takeRole_eq]
  split
  · assumption
  · exact (State.get_put _ _ _ _ (by decide)).trans (Nat.mod_eq_of_lt (roleState_lt _))
theorem State.takeRole_pos : (s.takeRole n).phases[n].pos = s.get (PH_CFG n) PH_CFG_POS := by
  have taken : (s.takeRole n).phases = (s.updPhase n (fun p => { p with pos := s.get (PH_CFG n) PH_CFG_POS })).phases := by
    rw [s.takeRole_eq]
    split <;> rfl
  rw [taken, State.updPhase_phase]
theorem State.takeRole_frame : Frame phStats [.phases] s (s.takeRole n) := by
  rw [s.takeRole_eq]
  exact .ite (.updPhase .refl (by decide)) (.setPh (.updPhase .refl (by decide)) (phStat_mem n))

/-- A phase whose PH_CFG is written reads its word, its state and its position; its loops are numbered anew. -/
theorem State.phCfgTaken_shows : (s.phCfgTaken n v).rd (PH_CFG n) = phCfgWord v ∧
    (s.phCfgTaken n v).phState n = (if s.phState n = phFenced then phFenced else roleState (getF v PH_CFG_ROLE)) ∧
    (s.phCfgTaken n v).phases[n].pos = getF v PH_CFG_POS ∧
    Frame (PH_CFG n :: phStats ++ loopStats) [.phases] s (s.phCfgTaken n v) := by
  obtain ⟨role, -, pos⟩ := getF_phCfgWord v
  let w := s.wr (PH_CFG n) (phCfgWord v)
  have word : w.rd (PH_CFG n) = phCfgWord v := State.rd_wr_same _ _ _
  have stat : w.phState n = s.phState n := State.get_wr_ne _ _ _ _ _ (phCfg_ne_phStat n n).symm
  have spaced : Respaced n (w.takeRole n) (s.phCfgTaken n v) := (Respaced.refl.reslot _).reslot _
  have numbered (u : State) (m : Fin 4) := u.reslot_frame m
  obtain ⟨_, _, phase⟩ := spaced.phase
  refine ⟨?_, ?_, ?_, ?_⟩
  · refine ((numbered _ _).rd _ (phCfg_notMem_loopStat n _)).trans (((numbered _ _).rd _ (phCfg_notMem_loopStat n _)).trans ?_)
    exact ((w.takeRole_frame n).rd _ fun m => phCfg_notMem_loopStat n 0 (List.mem_cons_of_mem _ m)).trans word
  · rw [spaced.state, State.takeRole_state, stat, State.phRole, State.get, word, role]
  · rw [phase]
    show (w.takeRole n).phases[n].pos = _
    rw [State.takeRole_pos, State.get, word, pos]
  · have shown : ∀ m : Fin 4, ∀ a ∈ LOOP_STAT m :: phStats, a ∈ PH_CFG n :: phStats ++ loopStats := fun m a h => by
      obtain rfl | h := List.mem_cons.mp h
      · exact List.mem_append_right _ (loopStat_mem m)
      · exact List.mem_append_left _ (List.mem_cons_of_mem _ h)
    have written : Frame (PH_CFG n :: phStats ++ loopStats) [.phases] s w := .wr _ .refl List.mem_cons_self
    exact ((written.trans ((w.takeRole_frame n).mono (fun a h => shown 0 a (List.mem_cons_of_mem _ h)) fun _ => id)).trans
      ((numbered _ _).mono (shown _) fun _ => id)).trans ((numbered _ _).mono (shown _) fun _ => id)

/-! ### The command (R97, R445, R447) -/

theorem execPhCfgWrite_eq (run : s.burinReaches = true) (passed : s.protBlocked s.actSrc 5 = none) :
    exec (.phCfgWrite n v) s = done ((s.measured 5 (PH_CFG n) v).phCfgWrite n v) := by
  obtain ⟨block, named⟩ := PH_CFG_named n
  rw [s.exec_protMade (c := .phCfgWrite n v) (congrArg done (if_pos run)) block named rfl (by decide) passed, State.regWrite_PH_CFG]

theorem execPhCfgWrite_refused (run : s.burinReaches = true) {k : Nat} (blocked : s.protBlocked s.actSrc 5 = some k) :
    Answers (.phCfgWrite n v) s fun t => t.get SYS_UNL_STAT SYS_UNL_STAT_REFUSED = 1 ∧ t.raisedCode 0x86 k ∧
      t.mr = s.mr ∧ EventFrame [SYS_UNL_STAT] [] s t := by
  obtain ⟨t, e, shown, raised, frame⟩ := s.answers_protRefused (c := .phCfgWrite n v) (congrArg done (if_pos run))
    (PH_CFG_protected n) (PH_CFG_named n).1 (by decide) blocked
  exact ⟨t, e, shown, raised, frame.same .mr (by decide) (by decide), frame⟩

section
variable {s n v}

theorem execPhCfgWrite_ignores (run : s.burinReaches = true) (passed : s.protBlocked s.actSrc 5 = none)
    (h : getF v PH_CFG_ROLE = 3 ∨ s.loopOn (s.loopOf n) = true ∨ ∃ m : Fin 4, m.val = getF v PH_CFG_LOOP ∧ s.loopOn m = true) :
    Answers (.phCfgWrite n v) s fun t => t.get PE_STAT PE_STAT_CFG_IGN = 1 ∧ t.raisedCode 0x37 0x01 ∧
      EventFrame [PE_STAT, SYS_UNL_STAT, mrCnt 2] [.sys, .mr] s t := by
  have frame := s.measured_frame 5 (PH_CFG n) v (phCfg_offStore n)
  have loops : (s.measured 5 (PH_CFG n) v).loops = s.loops := frame.same .loops (by decide) (by decide)
  have of : (s.measured 5 (PH_CFG n) v).loopOf n = s.loopOf n :=
    Fin.ext (congrArg (· % 4) (frame.get _ _ (phCfg_unmeasured n) (offEvents_phCfg n)))
  have e := execPhCfgWrite_eq s n v run passed
  rw [State.phCfgWrite_ignores _ n v (by simpa only [State.loopOn, loops, of] using h)] at e
  obtain ⟨shown, raised, ignored⟩ := (s.measured 5 (PH_CFG n) v).phCfgIgnored_shows n
  exact ⟨_, e, shown, raised, (frame.mono (by simp) fun _ => id).trans (ignored.mono (by simp) (by simp))⟩

theorem execPhCfgWrite_takes (run : s.burinReaches = true) (passed : s.protBlocked s.actSrc 5 = none)
    (role : getF v PH_CFG_ROLE ≠ 3) (off : ∀ m : Fin 4, s.loopOn m = false) :
    Answers (.phCfgWrite n v) s fun t => t.get (PH_CFG n) PH_CFG_ROLE = getF v PH_CFG_ROLE ∧
      t.get (PH_CFG n) PH_CFG_LOOP = getF v PH_CFG_LOOP ∧ t.get (PH_CFG n) PH_CFG_POS = getF v PH_CFG_POS ∧
      t.phState n = (if s.phState n = phFenced then phFenced else if getF v PH_CFG_ROLE = 1 then phOff
        else if getF v PH_CFG_ROLE = 2 then phSpare else phUnused) ∧
      t.phases[n].pos = getF v PH_CFG_POS ∧
      EventFrame (PH_CFG n :: SYS_UNL_STAT :: mrCnt 2 :: phStats ++ loopStats) [.phases, .sys, .mr] s t := by
  have frame := s.measured_frame 5 (PH_CFG n) v (phCfg_offStore n)
  have loops : (s.measured 5 (PH_CFG n) v).loops = s.loops := frame.same .loops (by decide) (by decide)
  have stat : (s.measured 5 (PH_CFG n) v).phState n = s.phState n :=
    frame.get _ _ (phStat_unmeasured n) (offEvents_phStat n)
  have e := execPhCfgWrite_eq s n v run passed
  rw [State.phCfgWrite_takes _ n v role (by simpa only [State.loopOn, loops] using off)] at e
  obtain ⟨word, state, pos, taken⟩ := (s.measured 5 (PH_CFG n) v).phCfgTaken_shows n v
  rw [stat] at state
  obtain ⟨fRole, fLoop, fPos⟩ := getF_phCfgWord v
  have more : PH_CFG n :: (phStats ++ loopStats) ⊆ PH_CFG n :: SYS_UNL_STAT :: mrCnt 2 :: (phStats ++ loopStats) :=
    List.cons_subset_cons _ (List.subset_cons_of_subset _ (List.subset_cons_self _ _))
  exact ⟨_, e, by rw [State.get, word, fRole], by rw [State.get, word, fLoop], by rw [State.get, word, fPos], state, pos,
    (frame.mono (by simp) (by simp)).trans ((EventFrame.of_frame taken).mono (fun _ h => more h) (by simp))⟩

end

end

/-- Settles O23: a write that the unlock rule passes comes measured to `State.phCfgWrite`, which ignores it or comes to
`State.phCfgTaken`. -/
theorem phaseConfiguration : Obligations.PhaseConfiguration := fun s n v run =>
  ⟨fun _ blocked => execPhCfgWrite_refused s n v run blocked, fun passed =>
    ⟨execPhCfgWrite_ignores run passed, execPhCfgWrite_takes run passed⟩⟩

end Sys2Proof.Machine
end

section
/-! PROOF. The watchdog (R328 to R334): the end of a period, a check-in as it is judged, and the pulse of WD_OUT. -/
namespace Sys2Proof.Machine
open Sys2Proof

/-- A number of `n` bits with one more bit set has `n` bits. -/
theorem add_two_pow_lt {d k n : Nat} (h : d < 2 ^ n) (hk : k < n) (clear : d.testBit k = false) : d + 2 ^ k < 2 ^ n := by
  have split : 2 ^ n = 2 ^ k * (2 * 2 ^ (n - k - 1)) := by
    rw [← Nat.pow_succ', ← Nat.pow_add]
    congr 1
    omega
  have even : d / 2 ^ k % 2 = 0 := by simpa [Nat.testBit_eq_decide_div_mod_eq] using clear
  have small : d / 2 ^ k < 2 * 2 ^ (n - k - 1) := Nat.div_lt_of_lt_mul (split ▸ h)
  rw [split]
  refine Nat.lt_of_lt_of_le ?_ (Nat.mul_le_mul_left (2 ^ k) (show d / 2 ^ k + 2 ≤ _ by omega))
  have := Nat.lt_mul_div_succ d (Nat.two_pow_pos k)
  rw [Nat.mul_add] at this ⊢
  omega

section
variable (s : State)

/-- An event at a clock of the frame changes nothing else (log 27). -/
theorem State.clockAt_frame (c : Nat) : Frame [] [.clk] s (s.clockAt c) := .set_clk .refl (by decide)

/-! ### Periods (R328, R331) -/

theorem State.wdPeriod_frame (first : Bool) (clocks : Int) : Frame [WD_STAT] [.wd] s (s.wdPeriod first clocks) :=
  .wr _ (.updWd .refl (by decide)) (by decide)
theorem State.wdPeriod_shows (first : Bool) (clocks : Int) :
    (s.wdPeriod first clocks).get WD_STAT WD_STAT_DONE = 0 ∧ (s.wdPeriod first clocks).get WD_STAT WD_STAT_OPEN = 0 := by
  refine ⟨?_, ?_⟩ <;> refine (State.get_wr_same _ _ _ _).trans ?_
  · rw [getF_setF_ne _ _ _ _ (by decide), getF_setF_ne _ _ _ _ (by decide), getF_setF _ _ _ (by decide)]
    rfl
  · rw [getF_setF_ne _ _ _ _ (by decide), getF_setF _ _ _ (by decide)]
    rfl

/-- The next period, as it begins where one that was no first period was served (R331). -/
def State.wdNext : State := (s.wr WD_SEQ (s.rd WD_SEQ + 1)).wdPeriod false (s.wd.clocks - s.wdLimit)

theorem State.wdEnd_served (service : s.proc.mode ≠ .rom) (later : s.wd.first = false)
    (complete : s.wd.required &&& s.get WD_STAT WD_STAT_DONE = s.wd.required) : s.wdEnd = (none, s.wdNext) := by
  refine (if_neg (by simpa using service)).trans ((if_pos (by simpa [wdComplete] using complete)).trans ?_)
  rw [later]
  rfl
theorem State.wdEnd_missing (service : s.proc.mode ≠ .rom)
    (missing : s.wd.required &&& s.get WD_STAT WD_STAT_DONE ≠ s.wd.required) :
    ∃ info, s.wdEnd = (some (1, info), s) :=
  ⟨_, (if_neg (by simpa using service)).trans (if_neg (by simpa [wdComplete] using missing))⟩
theorem State.wdLimit_service (service : s.proc.mode ≠ .rom) : s.wdLimit = 100000 * s.wd.period :=
  if_neg (by simpa using service)

theorem execWatchdogPeriodEnd_eq (run : s.inRun = true) (counts : s.wd.running = true) (ends : s.wdEndsNow = true) :
    exec .watchdogPeriodEnd s = done (State.wdSettle s.atEnd.wdEnd) :=
  congrArg done (if_pos (by simp [run, counts, ends]))

section
variable {s}

theorem execWatchdogPeriodEnd_serves (run : s.inRun = true) (counts : s.wd.running = true)
    (service : s.proc.mode ≠ .rom) (ends : s.wdEndsNow = true) (later : s.wd.first = false)
    (complete : s.wd.required &&& s.get WD_STAT WD_STAT_DONE = s.wd.required) :
    Answers .watchdogPeriodEnd s fun t => t.rd WD_SEQ = s.rd WD_SEQ + 1 ∧ t.wd.running = true ∧
      t.wd.clocks = s.wd.clocks - 100000 * s.wd.period ∧ t.wd.first = false ∧
      t.wd.period = s.wdClamp (s.get WD_CFG WD_CFG_PERIOD) ∧ t.get WD_STAT WD_STAT_DONE = 0 ∧
      t.get WD_STAT WD_STAT_OPEN = 0 ∧ Frame [WD_SEQ, WD_STAT] [.wd, .clk] s t := by
  have e := execWatchdogPeriodEnd_eq s run counts ends
  rw [s.atEnd.wdEnd_served service later complete] at e
  let u := s.atEnd.wr WD_SEQ (s.atEnd.rd WD_SEQ + 1)
  have counted : Frame [WD_SEQ] [.clk] s u := .wr _ ((s.clockAt_frame _).mono (by simp) fun _ => id) (by decide)
  have next : Frame [WD_STAT] [.wd] u s.atEnd.wdNext := u.wdPeriod_frame _ _
  obtain ⟨clear, shut⟩ := u.wdPeriod_shows false (s.atEnd.wd.clocks - s.atEnd.wdLimit)
  have settings : u.wdClamp (u.get WD_CFG WD_CFG_PERIOD) = s.wdClamp (s.get WD_CFG WD_CFG_PERIOD) := by
    unfold State.wdClamp
    iterate 3 rw [counted.get _ _ (by decide)]
  refine ⟨_, e, (next.rd _ (by decide)).trans (State.rd_wr_same _ _ _), rfl, ?_, rfl, settings, clear, shut,
    (counted.mono (by simp) (by simp)).trans (next.mono (by simp) (by simp))⟩
  show s.wd.clocks - (s.wdLimit : Int) = _
  rw [s.wdLimit_service service]
  push_cast
  rfl

theorem execWatchdogPeriodEnd_expires (run : s.inRun = true) (counts : s.wd.running = true)
    (service : s.proc.mode ≠ .rom) (ends : s.wdEndsNow = true)
    (missing : s.wd.required &&& s.get WD_STAT WD_STAT_DONE ≠ s.wd.required) :
    Answers .watchdogPeriodEnd s fun t => t.proc.mode = .held ∧ t.get WD_LAST WD_LAST_CODE = 1 ∧
      t.get WD_STAT WD_STAT_OUT = 1 ∧ t.raisedCode 0x18 1 ∧ s.ProcReset t RST_CAUSE_WDOG := by
  obtain ⟨info, verdict⟩ := s.atEnd.wdEnd_missing service missing
  have e := execWatchdogPeriodEnd_eq s run counts ends
  rw [verdict] at e
  obtain ⟨held, code, out, raised, leaves⟩ := s.atEnd.wdFire_procReset 1 info (by decide)
  exact ⟨_, e, held, code, out, raised, .before (WatchdogFrame.clockAt _).frame offRails_watchdogRegs (by decide) leaves⟩

end

/-! ### A check-in inside a period (R330, R331) -/

section
variable (w : Word) (src : Nat)

/-- Before clock E a word is judged as it is. -/
theorem State.wdJudge_inside (early : s.wdElapsed < s.wdLimit) : s.wdJudge w src = s.wdWord w src :=
  if_neg (by simp [early])

/-- R330: a word with a wrong key is ignored. -/
theorem State.wdWord_wrongKey (counts : s.wd.running = true) (key : getF w ⟨16, 16⟩ ≠ 0x5A3C) :
    s.wdWord w src = (none, s.wdIgnore 1 (getF w ⟨0, 8⟩) src) := by
  unfold State.wdWord
  simp [counts, key]

theorem State.wdIgnore_shows (code slot : Nat) : (s.wdIgnore code slot src).get WD_STAT WD_STAT_IGN = 1 ∧
    (s.wdIgnore code slot src).get WD_STAT WD_STAT_DONE = s.get WD_STAT WD_STAT_DONE ∧
    (s.wdIgnore code slot src).raisedCode 0x19 code ∧ EventFrame [WD_STAT] [] s (s.wdIgnore code slot src) :=
  ⟨(State.get_raise_off _ _ _ _ _ _ _ (by decide) (by decide)).trans (State.get_putB _ _ _ _ (by decide) (by decide)),
    (State.get_raise_off _ _ _ _ _ _ _ (by decide) (by decide)).trans (State.get_putB_field _ _ _ _ _ (by decide)),
    State.raise_raised _ _ _ _ _ (by omega), .raise (.putB _ _ .refl (by decide)) (by decide)⟩

/-- The bit of a slot set, and what WD_STAT.OPEN then shows. -/
def State.wdMarked (slot : Nat) : State :=
  (s.put WD_STAT WD_STAT_DONE (s.get WD_STAT WD_STAT_DONE + 2 ^ slot)).wdWindow

theorem State.wdMarked_frame (slot : Nat) : Frame [WD_STAT] [] s (s.wdMarked slot) :=
  .putB _ _ (.put _ _ .refl (by decide)) (by decide)
theorem State.wdMarked_done {slot : Nat} (h : slot < 16) (fresh : (s.get WD_STAT WD_STAT_DONE).testBit slot = false) :
    (s.wdMarked slot).get WD_STAT WD_STAT_DONE = s.get WD_STAT WD_STAT_DONE + 2 ^ slot := by
  have width : s.get WD_STAT WD_STAT_DONE < 2 ^ 16 := Nat.mod_lt _ (by decide)
  refine (State.get_putB_field _ _ _ _ _ (by decide)).trans ((State.get_put _ _ _ _ (by decide)).trans ?_)
  exact Nat.mod_eq_of_lt (add_two_pow_lt width h fresh)
theorem State.wdMarked_open (slot : Nat) (counts : s.wd.running = true)
    (opened : (windowAt s.wd.period (s.get WD_FUSE1 WD_FUSE1_WIN) : Int) ≤ s.wdElapsed) :
    (s.wdMarked slot).flag WD_STAT WD_STAT_OPEN = true := by
  have fuse : (s.put WD_STAT WD_STAT_DONE (s.get WD_STAT WD_STAT_DONE + 2 ^ slot)).get WD_FUSE1 WD_FUSE1_WIN =
      s.get WD_FUSE1 WD_FUSE1_WIN := State.get_put_ne _ _ _ _ _ _ (by decide)
  have shows : (s.wdMarked slot).get WD_STAT WD_STAT_OPEN = 1 := by
    refine (State.get_putB _ _ _ _ (by decide) (by decide)).trans (if_pos ?_)
    rw [fuse]
    exact Bool.and_eq_true_iff.mpr ⟨counts, decide_eq_true opened⟩
  simp [State.flag, shows]

/-- A word with the key, for an enabled slot, from the slot's owner. -/
structure State.WdOwned : Prop where
  counts : s.wd.running = true
  key : getF w ⟨16, 16⟩ = 0x5A3C
  slot : getF w ⟨0, 8⟩ < 16
  enabled : s.wd.enabled.testBit (getF w ⟨0, 8⟩) = true
  owner : ownerIn s.wd.own0 s.wd.own1 (getF w ⟨0, 8⟩) = src

/-- R331: the second check-in of a slot in its period. -/
theorem State.wdWord_second (own : s.WdOwned w src)
    (again : (s.get WD_STAT WD_STAT_DONE).testBit (getF w ⟨0, 8⟩) = true) :
    s.wdWord w src = (some (3, getF w ⟨0, 8⟩), s) := by
  obtain ⟨counts, key, slot, enabled, owner⟩ := own
  unfold State.wdWord
  simp [counts, key, slot, enabled, owner, again]

/-- R331: a check-in in order, with the window open, is no expiry. -/
theorem State.wdWord_inOrder (own : s.WdOwned w src)
    (fresh : (s.get WD_STAT WD_STAT_DONE).testBit (getF w ⟨0, 8⟩) = false)
    (sequence : getF w ⟨8, 8⟩ = (s.rd WD_SEQ).toNat % 256)
    (opened : (windowAt s.wd.period (s.get WD_FUSE1 WD_FUSE1_WIN) : Int) ≤ s.wdElapsed) :
    s.wdWord w src = (none, s.wdMarked (getF w ⟨0, 8⟩)) := by
  have shown := s.wdMarked_open (getF w ⟨0, 8⟩) own.counts opened
  obtain ⟨counts, key, slot, enabled, owner⟩ := own
  unfold State.wdMarked at shown ⊢
  unfold State.wdWord
  simp [counts, key, slot, enabled, owner, fresh, sequence, shown]

end

/-! ### WD_CHECKIN_WRITE -/

section
variable {s} {w : Word} {k : BitVec 12}

theorem execWdCheckinWrite_eq (run : s.inRun = true) (mode : s.proc.mode = .firmware) (own : s.actSrc = 0)
    (early : (s.clockAt k.toNat).wdElapsed < s.wdLimit) :
    exec (.wdCheckinWrite w k) s = done (State.wdSettle ((s.clockAt k.toNat).wdWord w 0)) := by
  have reaches : s.burinReaches = true := by simp [State.burinReaches, run, mode]
  have source : s.checkinSource = 0 := if_pos own
  refine (congrArg done (if_pos reaches)).trans (congrArg (fun r => done (State.wdSettle r)) ?_)
  rw [source]
  exact (s.clockAt k.toNat).wdJudge_inside w 0 early

theorem execWdCheckinWrite_ignores (run : s.inRun = true) (mode : s.proc.mode = .firmware) (own : s.actSrc = 0)
    (counts : s.wd.running = true) (early : (s.clockAt k.toNat).wdElapsed < s.wdLimit) (key : getF w ⟨16, 16⟩ ≠ 0x5A3C) :
    Answers (.wdCheckinWrite w k) s fun t => t.get WD_STAT WD_STAT_IGN = 1 ∧
      t.get WD_STAT WD_STAT_DONE = s.get WD_STAT WD_STAT_DONE ∧ t.raisedCode 0x19 1 ∧ EventFrame [WD_STAT] [.clk] s t := by
  have e := execWdCheckinWrite_eq (w := w) run mode own early
  rw [State.wdWord_wrongKey (s.clockAt k.toNat) w 0 counts key] at e
  obtain ⟨ign, kept, raised, frame⟩ := (s.clockAt k.toNat).wdIgnore_shows 0 1 (getF w ⟨0, 8⟩)
  exact ⟨_, e, ign, kept, raised,
    (EventFrame.of_frame ((s.clockAt_frame _).mono (by simp) fun _ => id)).trans (frame.mono (fun _ => id) (by simp))⟩

theorem execWdCheckinWrite_marks (run : s.inRun = true) (mode : s.proc.mode = .firmware) (act : s.actSrc = 0)
    (early : (s.clockAt k.toNat).wdElapsed < s.wdLimit) (own : s.WdOwned w 0)
    (fresh : (s.get WD_STAT WD_STAT_DONE).testBit (getF w ⟨0, 8⟩) = false)
    (sequence : getF w ⟨8, 8⟩ = (s.rd WD_SEQ).toNat % 256)
    (opened : (windowAt s.wd.period (s.get WD_FUSE1 WD_FUSE1_WIN) : Int) ≤ (s.clockAt k.toNat).wdElapsed) :
    Answers (.wdCheckinWrite w k) s fun t =>
      t.get WD_STAT WD_STAT_DONE = s.get WD_STAT WD_STAT_DONE + 2 ^ getF w ⟨0, 8⟩ ∧ Frame [WD_STAT] [.clk] s t := by
  have e := execWdCheckinWrite_eq (w := w) run mode act early
  rw [State.wdWord_inOrder (s.clockAt k.toNat) w 0 ⟨own.counts, own.key, own.slot, own.enabled, own.owner⟩ fresh
    sequence opened] at e
  exact ⟨_, e, (s.clockAt k.toNat).wdMarked_done own.slot fresh,
    ((s.clockAt_frame _).mono (by simp) fun _ => id).trans (((s.clockAt k.toNat).wdMarked_frame _).mono (fun _ => id) (by simp))⟩

theorem execWdCheckinWrite_expires (run : s.inRun = true) (mode : s.proc.mode = .firmware) (act : s.actSrc = 0)
    (early : (s.clockAt k.toNat).wdElapsed < s.wdLimit) (own : s.WdOwned w 0)
    (again : (s.get WD_STAT WD_STAT_DONE).testBit (getF w ⟨0, 8⟩) = true) :
    Answers (.wdCheckinWrite w k) s fun t => t.proc.mode = .held ∧ t.get WD_LAST WD_LAST_CODE = 3 ∧
      t.raisedCode 0x18 3 ∧ s.ProcReset t RST_CAUSE_WDOG := by
  have e := execWdCheckinWrite_eq (w := w) run mode act early
  rw [State.wdWord_second (s.clockAt k.toNat) w 0 ⟨own.counts, own.key, own.slot, own.enabled, own.owner⟩ again] at e
  obtain ⟨held, code, -, raised, leaves⟩ := (s.clockAt k.toNat).wdFire_procReset 3 (getF w ⟨0, 8⟩) (by decide)
  exact ⟨_, e, held, code, raised, .before (WatchdogFrame.clockAt _).frame offRails_watchdogRegs (by decide) leaves⟩

/-- R334: the pulse of WD_OUT ends. -/
theorem execWdOutPulseEnd_ends (run : s.inRun = true) (out : s.get WD_STAT WD_STAT_OUT = 1) (spent : s.wd.outLeft = 0) :
    Answers .wdOutPulseEnd s fun t => t.get WD_STAT WD_STAT_OUT = 0 ∧ Frame [WD_STAT] [] s t := by
  have clocked : s.clk.bothLost = false := by
    have parts := run
    simp only [State.inRun, Bool.and_eq_true, Bool.not_eq_true'] at parts
    exact parts.2
  have due : (s.inRun && s.flag WD_STAT WD_STAT_OUT && s.wd.outLeft == 0) = true := by simp [run, State.flag, out, spent]
  exact ⟨_, congrArg done ((if_neg (by simp [clocked])).trans (if_pos due)),
    State.get_putB _ _ _ _ (by decide) (by decide), .putB _ _ .refl (by decide)⟩

end

end

/-- Settles O18: the end of a period comes to `State.wdNext` or to an expiry, and a check-in inside a period to what
`State.wdWord` says of it. -/
theorem watchdog : Obligations.Watchdog := fun _ run =>
  ⟨fun counts service ends later complete => execWatchdogPeriodEnd_serves run counts service ends later complete,
    fun counts service ends missing => execWatchdogPeriodEnd_expires run counts service ends missing,
    fun _ _ mode act counts early =>
      ⟨execWdCheckinWrite_ignores run mode act counts early, fun key slot enabled owner =>
        ⟨execWdCheckinWrite_marks run mode act early ⟨counts, key, slot, enabled, owner⟩,
          execWdCheckinWrite_expires run mode act early ⟨counts, key, slot, enabled, owner⟩⟩⟩,
    fun out spent => execWdOutPulseEnd_ends run out spent⟩

end Sys2Proof.Machine
end

section
/-! PROOF. The fault collector (R312, R313, R315, R316, R323): clearing and forcing a sticky bit, and the reaction to one
raise. -/
namespace Sys2Proof.Machine
open Sys2Proof

/-! ### A word with one bit set -/

theorem getLsbD_oneBit {b i : Nat} (h : i < 32) : (1#32 <<< b).getLsbD i = decide (i = b) := by
  rw [BitVec.getLsbD_shiftLeft, BitVec.getLsbD_one]
  by_cases e : i = b
  · subst e
    simp [h]
  · by_cases lt : i < b
    · simp [lt, e]
    · have : i - b ≠ 0 := by omega
      simp [e, this]

/-- What a write does bit by bit it does once for a word with one bit set. -/
theorem foldl_oneBit {α : Type} (f : α → Nat → α) (x : α) {b : Nat} (h : b < 32) :
    (List.range 32).foldl (fun y i => if (1#32 <<< b).getLsbD i then f y i else y) x = f x b := by
  have upTo : ∀ n ≤ 32, (List.range n).foldl (fun y i => if (1#32 <<< b).getLsbD i then f y i else y) x =
      if b < n then f x b else x := fun n => by
    induction n with
    | zero => exact fun _ => rfl
    | succ n ih =>
      intro small
      rw [List.range_succ, List.foldl_append, ih (by omega), List.foldl_cons, List.foldl_nil, getLsbD_oneBit (by omega)]
      by_cases e : n = b
      · subst e
        simp
      · have : b < n + 1 ↔ b < n := by omega
        simp [e, this]
  rw [upTo 32 (Nat.le_refl _), if_pos h]

/-! ### Clearing (R312) -/

section
variable (s : State)

/-- A sticky bit cleared, with its count, its class and its acknowledge. -/
def State.cleared (n : Nat) : State :=
  let u := s.putB (FLT_STICKY (n / 32)) (bitF (n % 32)) false
  { u.wr (FLT_INFO n) (setF (setF (setF (u.rd (FLT_INFO n)) FLT_INFO_COUNT 0) FLT_INFO_CLS 0) FLT_INFO_FORCED 0) with
    acks := s.acks.filter (fun k => k ≠ n) }

theorem State.clearOne_clears {n : Nat} (h : s.clearIgnored n = false) : s.clearOne n = s.cleared n :=
  if_neg (by simp [h])
theorem State.clearOne_ignores {n : Nat} (h : s.clearIgnored n = true) : s.clearOne n = s := if_pos h

theorem State.stickyClear_one (w : Fin 8) (b : Fin 32) : s.stickyClear w (1#32 <<< b.val) = s.clearOne (32 * w + b) :=
  foldl_oneBit (fun (u : State) i => u.clearOne (32 * w.val + i)) s b.isLt

theorem fltSticky_ne_info (w : Fin 8) (n : Nat) : FLT_STICKY w ≠ FLT_INFO n := by unfold FLT_STICKY FLT_INFO; omega

theorem State.cleared_frame (n : Nat) : Frame [FLT_STICKY (n / 32), FLT_INFO n] [.acks] s (s.cleared n) :=
  .set_acks (.wr _ (.putB _ _ .refl (by simp)) (by simp)) (by decide)
theorem State.cleared_shows {n : Nat} (w : Fin 8) (h : n / 32 = w) :
    (s.cleared n).get (FLT_STICKY w) (bitF (n % 32)) = 0 ∧ (s.cleared n).get (FLT_INFO n) FLT_INFO_COUNT = 0 ∧
      (s.cleared n).get (FLT_INFO n) FLT_INFO_CLS = 0 ∧ n ∉ (s.cleared n).acks := by
  refine ⟨?_, ?_, ?_, ?_⟩
  · refine (State.get_wr_ne _ _ _ _ _ (fltSticky_ne_info w n)).trans ?_
    rw [h]
    exact State.get_putB _ _ _ _ (show n % 32 + 1 ≤ 32 by omega) rfl
  · refine (State.get_wr_same _ _ _ _).trans ?_
    rw [getF_setF_ne _ _ _ _ (by decide), getF_setF_ne _ _ _ _ (by decide), getF_setF _ _ _ (by decide)]
    rfl
  · refine (State.get_wr_same _ _ _ _).trans ?_
    rw [getF_setF_ne _ _ _ _ (by decide), getF_setF _ _ _ (by decide)]
    rfl
  · simp [State.cleared]

theorem execStickyClear_eq (run : s.inRun = true) (w : Fin 8) (b : Fin 32) :
    exec (.stickyClear w (1#32 <<< b.val)) s = done (s.clearOne (32 * w + b)) :=
  (congrArg done (if_pos run)).trans (congrArg done (s.stickyClear_one w b))

theorem execStickyClear_clears (run : s.inRun = true) (w : Fin 8) (b : Fin 32) (h : s.clearIgnored (32 * w + b) = false) :
    Answers (.stickyClear w (1#32 <<< b.val)) s fun t => t.get (FLT_STICKY w) (bitF b) = 0 ∧
      t.get (FLT_INFO (32 * w + b)) FLT_INFO_COUNT = 0 ∧ t.get (FLT_INFO (32 * w + b)) FLT_INFO_CLS = 0 ∧
      (32 * w + b : Nat) ∉ t.acks ∧ Frame [FLT_STICKY w, FLT_INFO (32 * w + b)] [.acks] s t := by
  have word : (32 * w + b : Nat) / 32 = w := by omega
  have bit : (32 * w + b : Nat) % 32 = b := by omega
  have e := execStickyClear_eq s run w b
  rw [s.clearOne_clears h] at e
  obtain ⟨sticky, count, cls, ack⟩ := s.cleared_shows w word
  have frame := s.cleared_frame (32 * w + b)
  rw [bit] at sticky
  rw [word] at frame
  exact ⟨_, e, sticky, count, cls, ack, frame⟩

/-! ### Forcing (R313) -/

/-- A forced raise is raised with its code, whatever its ESN. -/
theorem State.raiseWith_forced (e c h : Nat) (d : List Byte) : (s.raiseWith e c h d true).raisedCode e c := by
  unfold State.raisedCode State.raiseWith
  split
  · exact .inr ⟨_, List.mem_append_right _ (List.mem_singleton.mpr rfl), rfl, rfl⟩
  · obtain ⟨cls, window⟩ := s.raiseNow_window e c h d true (by simp)
    rw [window]
    exact .inl (addWin_mem _ _ _ _ _)

theorem State.forceMark_frame (n : Nat) : EventFrame [] [.freeCtr] s (s.forceMark n) := by
  unfold State.forceMark
  exact .ite (.addMark (.set_freeCtr .refl (by decide))) .refl
theorem State.forceMark_flt (n : Nat) : (s.forceMark n).flt = s.flt := by
  unfold State.forceMark
  split <;> rfl
theorem State.forceRaise_shows {n : Nat} (small : n < 256) (h : esnReserved n = false) :
    (s.forceRaise n).raisedCode n 0xFF ∧ EventFrame [] [.freeCtr] s (s.forceRaise n) := by
  unfold State.forceRaise
  rw [if_neg (by simp [h])]
  exact ⟨KeepsRaised.of_flt (State.forceMark_flt _ n) _ _ (s.raiseWith_forced _ _ _ _),
    (EventFrame.raiseWith .refl small).trans (State.forceMark_frame _ n)⟩

theorem FLT_FORCE_named (i : Fin 8) : regAt (FLT_FORCE i) = some (regDefFLT_FORCE, [i.val]) := by
  revert i; decide
theorem fltForce_ne_sticky (i k : Fin 8) : FLT_FORCE i ≠ FLT_STICKY k := by unfold FLT_FORCE FLT_STICKY; omega
theorem fltForce_offStore (i : Fin 8) : ¬(FLT_FORCE i < STEP 6144 ∧ STEP 0 ≤ FLT_FORCE i) := by
  unfold FLT_FORCE STEP; omega

theorem State.regWrite_FLT_FORCE (i : Fin 8) (b : Fin 32) :
    s.regWrite 2 (FLT_FORCE i) regDefFLT_FORCE [i.val] (1#32 <<< b.val) = s.forceRaise (32 * i + b) := by
  unfold State.regWrite
  rw [State.lock_of_open _ _ _ (by decide)]
  have place : finOf 8 i.val = i := Fin.ext (Nat.mod_eq_of_lt i.isLt)
  refine (if_neg (fltForce_ne_sticky i i)).trans ((if_pos rfl).trans ?_)
  rw [show [i.val].getD 0 0 = i.val from rfl, place]
  exact foldl_oneBit (fun u j => u.forceRaise (32 * i + j)) s b.isLt

theorem execForceRaise_eq (n : BitVec 8) (unlocked : s.Unlocked 2) : ∃ i : Fin 8,
    exec (.forceRaise n) s = done ((s.measured 2 (FLT_FORCE i) (1#32 <<< (n.toNat % 32))).forceRaise n.toNat) := by
  obtain ⟨run, passed⟩ := unlocked
  have esn : n.toNat < 256 := n.isLt
  let i : Fin 8 := ⟨n.toNat / 32, by omega⟩
  refine ⟨i, ?_⟩
  rw [s.exec_protMade (c := .forceRaise n) (congrArg done (if_pos run)) (FLT_FORCE_protected i).2 (FLT_FORCE_named i) rfl
    (by decide) passed]
  refine congrArg done ((State.regWrite_FLT_FORCE _ i ⟨n.toNat % 32, by omega⟩).trans ?_)
  exact congrArg _ (show 32 * (n.toNat / 32) + n.toNat % 32 = n.toNat by omega)

theorem execForceRaise_raises (n : BitVec 8) (unlocked : s.Unlocked 2) (h : esnReserved n.toNat = false) :
    Answers (.forceRaise n) s fun t => t.raisedCode n.toNat 0xFF ∧
      EventFrame [SYS_UNL_STAT, mrCnt 2] [.freeCtr, .sys, .mr] s t := by
  obtain ⟨i, e⟩ := execForceRaise_eq s n unlocked
  obtain ⟨raised, frame⟩ := (s.measured 2 (FLT_FORCE i) (1#32 <<< (n.toNat % 32))).forceRaise_shows n.isLt h
  exact ⟨_, e, raised, ((s.measured_frame 2 _ _ (fltForce_offStore i)).mono (fun _ => id) (by simp)).trans
    (frame.mono (by simp) (by simp))⟩

theorem execForceRaise_ignores (n : BitVec 8) (unlocked : s.Unlocked 2) (h : esnReserved n.toNat = true) :
    Answers (.forceRaise n) s fun t => EventFrame [SYS_UNL_STAT, mrCnt 2] [.sys, .mr] s t := by
  obtain ⟨i, e⟩ := execForceRaise_eq s n unlocked
  rw [State.forceRaise, if_pos h] at e
  exact ⟨_, e, s.measured_frame 2 _ _ (fltForce_offStore i)⟩

/-! ### VREG (R323) -/

theorem execVregOutOfRange_raises (b : Bool) (run : s.inRun = true) (force : s.clk.inForce = true) :
    Answers (.vregOutOfRange b) s fun t => t.raisedCode (if b then 0x06 else 0x05) 0 ∧ EventFrame [] [] s t := by
  have esn : (if b then 0x06 else 0x05) < 0xA0 := by cases b <;> decide
  exact ⟨_, congrArg done (if_pos (by simp [run, force])), State.raise_raised _ _ _ _ _ (by omega),
    .raise .refl (by omega)⟩

/-! ### A raise leaves the configuration of the collector (R310, R323) -/

section
variable {a : Nat}

theorem State.doorbell_rd_offIc (w : Word) (ic : a < 0x40004000 ∨ 0x40005000 ≤ a) : (s.doorbell w).rd a = s.rd a := by
  have stat : a ≠ IC_STAT := by unfold IC_STAT; omega
  have small : (w >>> 24).toNat < 256 := by
    rw [BitVec.toNat_ushiftRight, Nat.shiftRight_eq_div_pow]
    have := w.isLt
    omega
  have ovf : a ≠ IC_OVF (w >>> 24).toNat := by unfold IC_OVF; omega
  unfold State.doorbell
  dsimp only
  split
  · rfl
  split
  · exact State.rd_putB_ne _ _ _ _ _ stat
  split
  · rfl
  split
  · exact (s.icOverflow_frame _).rd a (by simpa using ovf)
  · rfl

theorem State.raiseNow_rd_ne {e : Nat} (c h : Nat) (d : List Byte) (b : Bool) (ic : a < 0x40004000 ∨ 0x40005000 ≤ a)
    (sticky : a ≠ FLT_STICKY (e / 32)) (info : a ≠ FLT_INFO e) : (s.raiseNow e c h d b).rd a = s.rd a := by
  have rung := s.doorbell_rd_offIc (BitVec.ofNat 32 (e * 2 ^ 24 + (c % 256 + 256 * h) % 2 ^ 24)) ic
  unfold State.raiseNow
  dsimp only
  generalize s.doorbell (BitVec.ofNat 32 (e * 2 ^ 24 + (c % 256 + 256 * h) % 2 ^ 24)) = u at rung ⊢
  have stored (cls : Nat) : ((((u.putB (FLT_STICKY (e / 32)) (bitF (e % 32)) true).wr (FLT_INFO e)
      ((u.putB (FLT_STICKY (e / 32)) (bitF (e % 32)) true).infoWord e c cls b)).ackClear e cls).noteDown e).rd a = s.rd a := by
    rw [State.noteDown_rd, State.ackClear_rd, State.rd_wr_ne _ _ _ _ info, State.rd_putB_ne _ _ _ _ _ sticky, rung]
  split
  · exact rung
  split
  all_goals exact stored _

/-- Of the collector's registers a raise writes the ESN's sticky word and FLT_INFO. -/
theorem State.raise_rd_ne {e : Nat} (c h : Nat) (d : List Byte) (ic : a < 0x40004000 ∨ 0x40005000 ≤ a)
    (sticky : a ≠ FLT_STICKY (e / 32)) (info : a ≠ FLT_INFO e) : (s.raise e c h d).rd a = s.rd a := by
  unfold State.raise State.raiseWith
  split
  · rfl
  · exact s.raiseNow_rd_ne c h d false ic sticky info

end

theorem State.raise_rd_fltCfg {e n : Nat} (c h : Nat) (d : List Byte) (he : e < 256) (hn : n < 256) :
    (s.raise e c h d).rd (FLT_CFG n) = s.rd (FLT_CFG n) :=
  s.raise_rd_ne c h d (by unfold FLT_CFG; omega) (by unfold FLT_CFG FLT_STICKY; omega) (by unfold FLT_CFG FLT_INFO; omega)

section
variable {n : Nat} (hn : n < 256)
include hn

theorem fltCfg_notMem_seq (t : Fin 4) : FLT_CFG n ≠ SEQ_THR_STAT t ∧ FLT_CFG n ≠ PATH_STAT ∧ FLT_CFG n ≠ SEQ_STAT := by
  unfold FLT_CFG SEQ_THR_STAT PATH_STAT SEQ_STAT
  omega

theorem State.thCleared_fltCfg (t : Fin 4) : (s.thCleared t).rd (FLT_CFG n) = s.rd (FLT_CFG n) := by
  obtain ⟨thr, path, -⟩ := fltCfg_notMem_seq hn t
  unfold State.thCleared
  split
  · rfl
  · rw [s.thEnd_eq t 4 (by decide), (State.upUnhold_frame _ t).rd _ (by simpa using path)]
    exact (State.rd_wr_ne _ _ _ _ thr).trans (s.raise_rd_fltCfg _ _ _ (by omega) hn)

theorem State.startFault_fltCfg (l cause esn : Nat) (fresh : s.faultFresh = false) (idle : s.thState thFault = thIdle)
    (down : s.thRuns thDown = false) : (s.startFault l cause esn).rd (FLT_CFG n) = s.rd (FLT_CFG n) := by
  obtain ⟨thr, -, stat⟩ := fltCfg_notMem_seq hn thFault
  rw [s.startFault_eq l cause esn fresh idle down]
  refine (State.rd_putB_ne _ _ _ _ _ stat).trans (((State.thEnter_frame _ thFault l).rd _ (by simpa using thr)).trans ?_)
  rw [s.preempt_eq, State.thCleared_fltCfg _ hn, State.thCleared_fltCfg _ hn]

end

/-! ### The reaction to a raise (R315, R316) -/

/-- The window as it is taken: a raise made meanwhile waits for the next (R58). -/
def State.windowTaken : State :=
  { s with flt := { s.flt with window := [] }, clk := { s.clk with stage := .reacted } }

theorem execFaultReaction_one (r : WinRaise) (on : s.engines = true) (stage : s.clk.stage = .contexts)
    (window : s.flt.window = [r]) : exec .faultReaction s = done (s.windowTaken.react r).tellFault := by
  refine (congrArg done (if_pos (by simp [on, stage]))).trans ?_
  show done (s.flt.window.foldl State.react s.windowTaken).tellFault = _
  rw [window]
  rfl

section
variable (r : WinRaise)

theorem State.reactNote_none (note : s.get (FLT_CFG r.esn) FLT_CFG_NOTE = 0) : s.reactNote r = s := by
  simp [State.reactNote, allPorts, note]
theorem State.reactFence_none (low : r.esn < 0xA0) : s.reactFence r = s :=
  if_neg (by simp [low])
theorem State.reactFence_rail (high : 0xA0 ≤ r.esn) (h : r.forced = true ∨ ∃ c ∈ r.codes, 1 ≤ c ∧ c ≤ 4)
    (kind : s.get (MEV_FENCE (r.esn - 0xA0)) MEV_FENCE_KIND = 1) : s.reactFence r =
      { s with flt := { s.flt with fenced := s.flt.fenced ++ [s.get (MEV_FENCE (r.esn - 0xA0)) MEV_FENCE_TARGET] } } := by
  refine (if_pos (by simpa [high] using h)).trans ?_
  simp only [kind]
theorem State.reactFault_none (en : s.get (FLT_CFG r.esn) FLT_CFG_FAULT_EN = 0) (cls : r.cls < 2) : s.reactFault r = s :=
  if_neg (by simp [State.flag, en, cls])
theorem State.reactFault_starts
    (h : (s.get (FLT_CFG r.esn) FLT_CFG_FAULT_EN = 1 ∧ s.selected r = true) ∨ 2 ≤ r.cls) :
    s.reactFault r = s.startFault (s.get (FLT_CFG r.esn) FLT_CFG_LABEL) 0 r.esn :=
  if_pos (by
    obtain ⟨en, chosen⟩ | cls := h
    · simp [State.flag, en, chosen]
    · simp [cls])

/-- The settling of a start of FAULT leaves its cause. -/
theorem State.tellFault_cause : s.tellFault.seq.faultBy = s.seq.faultBy ∧ s.tellFault.seq.faultEsn = s.seq.faultEsn := by
  have driven (u : State) : u.driveFn.seq.faultBy = u.seq.faultBy ∧ u.driveFn.seq.faultEsn = u.seq.faultEsn := by
    unfold State.driveFn
    split
    · rw [State.raise_seq]
      exact ⟨rfl, rfl⟩
    · exact ⟨rfl, rfl⟩
  cases due : s.seq.tellFault with
  | none =>
    unfold State.tellFault
    rw [due]
    exact ⟨rfl, rfl⟩
  | some l =>
    have labelled : (s.faultLabelled l).seq = { s.seq with tellFault := none } := State.raise_seq _ _ _ _ _
    rw [s.tellFault_eq due]
    split
    · obtain ⟨cause, esn⟩ := driven (s.faultLabelled l)
      rw [labelled] at cause esn
      exact ⟨cause, esn⟩
    · rw [labelled]
      exact ⟨rfl, rfl⟩

section
variable {s r}

/-- R315: a raise that selects FAULT starts it at its label. -/
theorem execFaultReaction_starts (l : Fin 64) (on : s.engines = true) (stage : s.clk.stage = .contexts)
    (fresh : s.faultFresh = false) (window : s.flt.window = [r]) (low : r.esn < 0xA0)
    (note : s.get (FLT_CFG r.esn) FLT_CFG_NOTE = 0)
    (selects : (s.get (FLT_CFG r.esn) FLT_CFG_FAULT_EN = 1 ∧ s.selected r = true) ∨ 2 ≤ r.cls)
    (idle : s.thState thFault = thIdle) (down : s.thRuns thDown = false)
    (label : s.get (FLT_CFG r.esn) FLT_CFG_LABEL = l.val) (inside : s.labelStep l < 6144) :
    Answers .faultReaction s fun t => t.thState thFault = thRunning ∧ t.thPc thFault = s.labelStep l ∧
      t.thState thUp = thIdle ∧ t.seq.faultBy = 0 ∧ t.seq.faultEsn = r.esn ∧ t.clk.stage = .reacted ∧
      t.raisedCode 0x7A 1 := by
  let u := s.windowTaken.startFault l 0 r.esn
  have kept : u.get (FLT_CFG r.esn) FLT_CFG_NOTE = 0 := by
    rw [State.get, s.windowTaken.startFault_fltCfg (by omega) l 0 r.esn fresh idle down]
    exact note
  have reacts : s.windowTaken.react r = u := by
    have starts : s.windowTaken.reactFault r = u :=
      (s.windowTaken.reactFault_starts r selects).trans (congrArg (s.windowTaken.startFault · 0 r.esn) label)
    rw [State.react, starts, State.reactFence_none u r low, State.reactNote_none u r kept]
  have e := execFaultReaction_one s r on stage window
  rw [reacts] at e
  obtain ⟨state, pc, up, -, due, cause, -⟩ := s.windowTaken.startFault_shows l inside 0 r.esn fresh idle down
  have told := u.tellFault_frame
  obtain ⟨by_, esn⟩ := u.tellFault_cause
  have begun : u.seq.faultEsn = r.esn := by
    show (s.windowTaken.startFault l 0 r.esn).seq.faultEsn = _
    rw [s.windowTaken.startFault_eq l 0 r.esn fresh idle down]
    rfl
  have clk : u.clk = s.windowTaken.clk :=
    (s.windowTaken.startFault_frame l 0 r.esn fresh idle down).same .clk (by decide) (by decide)
  have toldClk : u.tellFault.clk = u.clk := told.same .clk (by decide) (by decide)
  have thread (h : Fin 4) (f : Fld) : u.tellFault.get (SEQ_THR_STAT h) f = u.get (SEQ_THR_STAT h) f :=
    told.get _ _ (by revert h; decide) (offEvents_thrStat h)
  refine ⟨_, e, (thread _ _).trans state, (thread _ _).trans pc, (thread _ _).trans up, by_.trans cause, esn.trans begun, ?_,
    u.tellFault_raised due⟩
  rw [toldClk, clk]
  rfl

/-- R316: a monitor event's fence of a rail is noted for the tick. -/
theorem execFaultReaction_fences (on : s.engines = true) (stage : s.clk.stage = .contexts)
    (told : s.seq.tellFault = none) (window : s.flt.window = [r]) (high : 0xA0 ≤ r.esn)
    (note : s.get (FLT_CFG r.esn) FLT_CFG_NOTE = 0) (en : s.get (FLT_CFG r.esn) FLT_CFG_FAULT_EN = 0) (cls : r.cls < 2)
    (kind : s.get (MEV_FENCE (r.esn - 0xA0)) MEV_FENCE_KIND = 1) (h : r.forced = true ∨ ∃ c ∈ r.codes, 1 ≤ c ∧ c ≤ 4) :
    Answers .faultReaction s fun t => t.flt.window = [] ∧
      t.flt.fenced = s.flt.fenced ++ [s.get (MEV_FENCE (r.esn - 0xA0)) MEV_FENCE_TARGET] ∧ Frame [] [.flt, .clk] s t := by
  have e := execFaultReaction_one s r on stage window
  have reacts : s.windowTaken.react r = s.windowTaken.reactFence r :=
    (congrArg (fun u : State => (u.reactFence r).reactNote r) (s.windowTaken.reactFault_none r en cls)).trans
      (State.reactNote_none _ r (by rw [s.windowTaken.reactFence_rail r high h kind]; exact note))
  have still (u : State) (h : u.seq.tellFault = none) : u.tellFault = u := by
    unfold State.tellFault
    rw [h]
  rw [reacts, s.windowTaken.reactFence_rail r high h kind] at e
  have taken : Frame [] [.flt, .clk] s s.windowTaken :=
    .set_clk (t := { s with flt := { s.flt with window := [] } }) (.set_flt .refl (by decide)) (by decide)
  exact ⟨_, e.trans (congrArg done (still _ told)), rfl, rfl, .set_flt taken (by decide)⟩

end

end

end

/-- Settles O36: a clear comes to `State.cleared`, a forced raise to `State.forceRaise` after its measurement, and the reaction
to one raise to the start of FAULT or to a noted fence, told as the starts are settled. -/
theorem faultCollector : Obligations.FaultCollector := fun s =>
  ⟨fun w b run h => execStickyClear_clears s run w b h,
    fun w b run h => ⟨_, execStickyClear_eq s run w b, s.clearOne_ignores h⟩,
    execForceRaise_raises s, execForceRaise_ignores s, execVregOutOfRange_raises s,
    fun _ l on stage fresh window low note selects idle down label inside =>
      execFaultReaction_starts l on stage fresh window low note selects idle down label inside,
    fun _ on stage told window high note en cls kind h =>
      execFaultReaction_fences on stage told window high note en cls kind h⟩

end Sys2Proof.Machine
end

section
/-! PROOF. What a raise leaves of the Plate, the errors that a command's reads meet (R342), and the Plate's window
(R361). -/
namespace Sys2Proof.Machine
open Sys2Proof

/-! ### A raise hands the Plate records and does nothing else to it (R317) -/

/-- Records were handed to the Plate's ingest, and the Plate is otherwise as it was. -/
def HandsPlate (s t : State) : Prop := ∃ l, t.plate = { s.plate with raised := s.plate.raised ++ l }

section
variable {s t u : State}

theorem HandsPlate.of_plate (h : t.plate = s.plate) : HandsPlate s t := ⟨[], by rw [h, List.append_nil]⟩
theorem HandsPlate.trans (h : HandsPlate s t) (g : HandsPlate t u) : HandsPlate s u := by
  obtain ⟨k, h⟩ := h
  obtain ⟨l, g⟩ := g
  exact ⟨k ++ l, by rw [g, h, List.append_assoc]⟩
theorem HandsPlate.toPlate (h : HandsPlate s t) (r : PlateRec) : HandsPlate s (t.toPlate r) := h.trans ⟨[r], rfl⟩
theorem HandsPlate.fifo (h : HandsPlate s t) : t.plate.fifo = s.plate.fifo := by obtain ⟨l, h⟩ := h; rw [h]
theorem HandsPlate.supp (h : HandsPlate s t) : t.plate.supp = s.plate.supp := by obtain ⟨l, h⟩ := h; rw [h]
theorem HandsPlate.winLatch (h : HandsPlate s t) : t.plate.winLatch = s.plate.winLatch := by obtain ⟨l, h⟩ := h; rw [h]

end

theorem State.doorbell_plate (s : State) (w : Word) : (s.doorbell w).plate = s.plate := by
  unfold State.doorbell
  dsimp only
  split
  · rfl
  split
  · rfl
  split
  · rfl
  split <;> rfl

theorem State.raise_handsPlate (s : State) (e c h : Nat) (d : List Byte) : HandsPlate s (s.raise e c h d) := by
  have rung := s.doorbell_plate (BitVec.ofNat 32 (e * 2 ^ 24 + (c % 256 + 256 * h) % 2 ^ 24))
  unfold State.raise State.raiseWith
  split
  · exact .of_plate rfl
  · unfold State.raiseNow
    dsimp only
    generalize s.doorbell (BitVec.ofNat 32 (e * 2 ^ 24 + (c % 256 + 256 * h) % 2 ^ 24)) = u at rung ⊢
    have acked (v : State) (n k : Nat) : (v.ackClear n k).plate = v.plate := by
      unfold State.ackClear
      split <;> rfl
    have noted (v : State) (n : Nat) : (v.noteDown n).plate = v.plate := by
      unfold State.noteDown
      split <;> rfl
    have stored (cls : Nat) : ((((u.putB (FLT_STICKY (e / 32)) (bitF (e % 32)) true).wr (FLT_INFO e)
        ((u.putB (FLT_STICKY (e / 32)) (bitF (e % 32)) true).infoWord e c cls false)).ackClear e cls).noteDown e).plate =
        s.plate := by
      rw [noted, acked]
      exact rung
    split
    · refine HandsPlate.toPlate ?_ _
      exact .of_plate rung
    · split
      · refine HandsPlate.toPlate ?_ _
        exact .of_plate (stored _)
      · exact .of_plate (stored _)

/-! ### Errors that a command's reads meet (R342) -/

section
variable (s : State) (l : List EccRead)

theorem State.eccFlip_frame : Frame [] [.mram] s (s.eccFlip l) := by
  induction l generalizing s with
  | nil => exact .refl
  | cons e r ih =>
    refine Frame.trans ?_ (ih _)
    split
    · rename_i i j _
      unfold State.flipWord
      exact .ite .refl (.set_mram (.mramWrite .refl (by decide)) (by decide))
    · exact .refl

theorem State.eccReads_frame : EventFrame [NV_STAT] [.nv] s (s.eccReads l) := by
  induction l generalizing s with
  | nil => exact .refl
  | cons e r ih =>
    refine EventFrame.trans ?_ (ih _)
    split
    · exact .raise (.putB _ _ .refl (by decide)) (by decide)
    · exact .nvQueue4 (.bump _ (.raise .refl (by decide)) (by decide)) (by decide)

theorem State.eccReads_handsPlate : HandsPlate s (s.eccReads l) := by
  induction l generalizing s with
  | nil => exact .of_plate rfl
  | cons e r ih =>
    refine HandsPlate.trans ?_ (ih _)
    split
    · exact State.raise_handsPlate _ _ _ _ _
    · exact (s.raise_handsPlate _ _ _ _).trans (.of_plate rfl)

end

/-! ### The Plate's window (R361) -/

section
variable (s : State)

theorem State.cursorWrite_inside {v : Nat} (h : v ≤ 983039) : s.cursorWrite v = s.put PLATE_CURSOR PLATE_CURSOR_SLOT v :=
  if_pos (by unfold plateSlots; omega)
theorem State.cursorWrite_beyond {v : Nat} (h : 983039 < v) : s.cursorWrite v = s :=
  if_neg (by unfold plateSlots; omega)

theorem execPlateCursorWrite_eq (run : s.inRun = true) (v : BitVec 20) :
    exec (.plateCursorWrite v) s = done (s.cursorWrite v.toNat) := congrArg done (if_pos run)

/-- PLATE_WIN[k] reads bytes 4k to 4k + 3 of the slot of the cursor. -/
theorem State.live_PLATE_WIN (k : Fin 16) : s.live (PLATE_WIN k) =
    BitVec.ofNat 32 (memWord s.mram.cells (plateBase + 64 * s.get PLATE_CURSOR PLATE_CURSOR_SLOT + 4 * k)) := by
  have others : ∀ a ∈ [FLT_STAT, RTC_SEC_LO, RTC_SEC_HI, RTC_DATE, RTC_TIME, RTC_OPT_LO, RTC_OPT_HI], PLATE_WIN k ≠ a := by
    revert k
    decide
  have window : PLATE_WIN 0 ≤ PLATE_WIN k ∧ PLATE_WIN k < PLATE_WIN 16 := by unfold PLATE_WIN; omega
  have place : (PLATE_WIN k - PLATE_WIN 0) / 4 = k := by unfold PLATE_WIN; omega
  simp only [List.forall_mem_cons] at others
  obtain ⟨stat, secLo, secHi, date, time, optLo, optHi, -⟩ := others
  unfold State.live Snap.word
  dsimp only
  rw [if_neg stat, if_neg secLo, if_neg secHi, if_neg date, if_neg time, if_neg optLo, if_neg optHi, if_pos window, place]
  simp [State.snapOf, List.getD]

/-- A read of PLATE_WIN[5] returns the latched half and drops it. -/
theorem State.regRead_PLATE_WIN5 {s : State} {w : Word} (h : s.plate.winLatch = some w) :
    (s.regRead (PLATE_WIN 5)).1 = w ∧ (s.regRead (PLATE_WIN 5)).2.plate.winLatch = none := by
  unfold State.regRead
  rw [if_neg (by decide), if_neg (by decide), if_pos rfl, h]
  exact ⟨rfl, rfl⟩

theorem execPlateWin4Read_latches (run : s.inRun = true) (l : List EccRead) :
    Answers (.plateWin4Read l) s fun t => t.out = [(s.eccFlip l).live (PLATE_WIN 4)] ∧
      (t.regRead (PLATE_WIN 5)).1 = (s.eccFlip l).live (PLATE_WIN 5) ∧
      (t.regRead (PLATE_WIN 5)).2.plate.winLatch = none ∧
      EventFrame [NV_STAT] [.plate, .mram, .nv, .out] s t ∧ (l = [] → Frame [] [.plate, .out] s t) := by
  let u := (s.eccFlip l).updPlate (fun p => { p with winLatch := some ((s.eccFlip l).live (PLATE_WIN 5)) })
  have latched : (u.eccReads l).plate.winLatch = some ((s.eccFlip l).live (PLATE_WIN 5)) :=
    (u.eccReads_handsPlate l).winLatch
  have e : exec (.plateWin4Read l) s = done { u.eccReads l with out := [(s.eccFlip l).live (PLATE_WIN 4)] } :=
    congrArg done (if_pos run)
  obtain ⟨half, dropped⟩ := State.regRead_PLATE_WIN5
    (s := { u.eccReads l with out := [(s.eccFlip l).live (PLATE_WIN 4)] }) latched
  refine ⟨_, e, rfl, half, dropped, ?_, fun none => ?_⟩
  · have flipped : EventFrame [NV_STAT] [.plate, .mram, .nv, .out] s u :=
      .updPlate (.of_frame ((s.eccFlip_frame l).mono (by simp) (by simp)))
    exact .set_out (flipped.trans ((u.eccReads_frame l).mono (fun _ => id) (by simp))) (by decide)
  · subst none
    exact .set_out (t := u) (.updPlate .refl (by decide)) (by decide)

end

/-- Settles O16: the word of the cursor's slot is what the register shows, and the errors met by the reads leave the latched
half. -/
theorem plateWindow : Obligations.PlateWindow := fun s run => by
  refine ⟨fun v h => ?_, fun v h => ?_, s.live_PLATE_WIN, ?_, fun l => ?_⟩
  · have e := execPlateCursorWrite_eq s run v
    rw [s.cursorWrite_inside h] at e
    refine ⟨_, e, (State.get_put _ _ _ _ (by decide)).trans (Nat.mod_eq_of_lt ?_), .put _ _ .refl (by decide)⟩
    exact v.isLt
  · exact ⟨_, (execPlateCursorWrite_eq s run v).trans (congrArg done (s.cursorWrite_beyond h)), rfl⟩
  · obtain ⟨t, e, out, first, dropped, -, frame⟩ := execPlateWin4Read_latches s run []
    exact ⟨t, e, out, first, dropped, frame rfl⟩
  · obtain ⟨t, e, out, first, dropped, frame, -⟩ := execPlateWin4Read_latches s run l
    exact ⟨t, e, out, first, dropped, frame⟩

end Sys2Proof.Machine
end

section
/-! PROOF. The commands that the port hardware executes as they arrive (R390): what becomes of a whole packet (R384, R389),
WD_CHECKIN (R429) and TELEM_READ (R419, R420). -/
namespace Sys2Proof.Machine
open Sys2Proof

/-! ### The header of a packet (R383) -/

section
variable (status tag cls len : Nat)

theorem header_toNat : (header status tag cls len).toNat =
    status % 256 * 2 ^ 24 + tag % 256 * 2 ^ 16 + cls % 16 * 2 ^ 12 + len % 4096 := by
  unfold header
  rw [BitVec.toNat_ofNat]
  omega
theorem headCode_header : headCode (header status tag cls len) = status % 256 := by
  unfold headCode
  rw [BitVec.toNat_ushiftRight, Nat.shiftRight_eq_div_pow, header_toNat]
  omega
theorem headTag_header : headTag (header status tag cls len) = tag % 256 := by
  unfold headTag
  rw [BitVec.toNat_ushiftRight, Nat.shiftRight_eq_div_pow, header_toNat]
  omega
theorem headClass_header : headClass (header status tag cls len) = cls % 16 := by
  unfold headClass
  rw [BitVec.toNat_ushiftRight, Nat.shiftRight_eq_div_pow, header_toNat]
  omega

end

/-- An address that is neither a port's nor a tag's status is none of those that an answer writes. -/
theorem notMem_answerRegs {a : Nat} {p : Port} {k : Fin 96}
    (h : a < 0x4002c008 ∨ (0x4002c419 ≤ a ∧ a < 0x4002c610) ∨ 0x4002c61c ≤ a) : a ∉ answerRegs p k := by
  have below : k.val / 32 < 3 := by omega
  have slot : p.slot ≤ 4 := by cases p <;> decide
  unfold answerRegs TAG_BUSY PORT_STAT NOTE_STAT
  simp only [List.mem_cons, List.not_mem_nil, or_false]
  omega

/-! ### A packet as it is admitted or refused (R389) -/

section
variable (s : State) (c : HostCmd) (k : Fin 96)

/-- A command whose tag is taken: it is QUEUED under its port and class with its deadline (R389, R392). -/
def State.tagTaken : State :=
  let u := s.setTag k ⟨.queued, c.port, c.cls.toNat, s.clk.frames + classFrames c.cls.toNat + 1, s.fw.admitted⟩
  { u with fw := { u.fw with admitted := u.fw.admitted + 1 } }

theorem State.tagTaken_frame : Frame (answerRegs c.port k) [.tags, .fw] s (s.tagTaken c k) :=
  .set_fw (.setTag .refl (by decide) List.mem_cons_self) (by decide)
theorem State.tagTaken_tag :
    (s.tagTaken c k).tags[k] = ⟨.queued, c.port, c.cls.toNat, s.clk.frames + classFrames c.cls.toNat + 1, s.fw.admitted⟩ :=
  Vector.getElem_set_self _

/-- The answer of the port hardware to a command whose tag is taken (R390, R391). -/
theorem State.answer_taken {u : State} (kept : u.tags[k] = (s.tagTaken c k).tags[k]) (status : Nat) (pay : List Word) :
    (u.answer k status pay).Answered k c.port c.cls.toNat status pay ∧
      Frame (answerRegs c.port k) [.ports, .tags] u (u.answer k status pay) := by
  rw [State.tagTaken_tag] at kept
  have answered := u.answer_answered k status pay
  have frame := u.answer_frame k status pay
  rw [kept] at answered frame
  exact ⟨answered, frame⟩

/-- A command comes between packets, with space for it in the FIFO of a port that a host reaches. -/
structure State.HasSpace (s : State) (c : HostCmd) : Prop where
  reaches : s.hostReaches c.port = true
  between : (s.port c.port).collect = []
  none : (s.port c.port).missed = 0
  space : (s.port c.port).inUsed + c.payload.length < 64
  fits : c.payload.length ≤ 62

variable {s c k} {code : Nat}

theorem State.HasSpace.deliver (h : s.HasSpace c) (code : Nat) :
    s.deliver c.port (cmdPacket code c) = s.arrive c.port (cmdPacket code c) true := by
  obtain ⟨reaches, between, none, space, fits⟩ := h
  have length : (cmdPacket code c).length = c.payload.length + 1 := rfl
  have enters : ¬ 64 < (s.port c.port).inUsed + (cmdPacket code c).length := by omega
  unfold State.deliver
  refine (if_neg (by simp [reaches, between, none, enters])).trans (if_neg ?_)
  omega

theorem cmdPacket_header : (cmdPacket code c).getD 0 0 = header code c.tag.toNat c.cls.toNat c.payload.length := rfl
theorem headTag_cmdPacket (h : c.tag.toNat = k.val) : headTag ((cmdPacket code c).getD 0 0) = k := by
  rw [cmdPacket_header, headTag_header, h]
  exact Nat.mod_eq_of_lt (by omega)
theorem headClass_cmdPacket : headClass ((cmdPacket code c).getD 0 0) = c.cls.toNat := by
  rw [cmdPacket_header, headClass_header]
  exact Nat.mod_eq_of_lt c.cls.isLt
theorem headCode_cmdPacket (h : code < 256) : headCode ((cmdPacket code c).getD 0 0) = code := by
  rw [cmdPacket_header, headCode_header, Nat.mod_eq_of_lt h]

/-- A packet of any words that fails a check is refused. -/
theorem State.arrive_refused {p : Port} {ws : List Word} {st : Nat} (h : s.admission p (ws.getD 0 0) true = some st) :
    s.arrive p ws true = s.refuse p (ws.getD 0 0) st := by
  unfold State.arrive
  simp only [h]

/-- A packet of any words that passes the checks takes the tag that its header names. -/
theorem State.arrive_admitted {ws : List Word} (named : tagOf (headTag (ws.getD 0 0)) = some k)
    (cls : headClass (ws.getD 0 0) = c.cls.toNat) (h : s.admission c.port (ws.getD 0 0) true = none) :
    s.arrive c.port ws true =
      if headCode (ws.getD 0 0) = codeTelemRead then (s.tagTaken c k).telemRead k (ws.drop 1)
      else if headCode (ws.getD 0 0) = codeWdCheckin then (s.tagTaken c k).hostCheckin k c.port (ws.drop 1)
      else (s.tagTaken c k).updPort c.port (fun x => { x with inq := x.inq ++ [ws] }) := by
  unfold State.arrive State.tagTaken
  simp only [h, named, cls]

theorem tagOf_cmdPacket (h : c.tag.toNat = k.val) : tagOf (headTag ((cmdPacket code c).getD 0 0)) = some k := by
  rw [headTag_cmdPacket h]
  exact dif_pos k.isLt

/-- A refusal takes no tag: its response has none, and names the command's (R389). -/
theorem State.refuse_shows (tag : c.tag.toNat = k.val) (st : Nat) :
    (∃ i ∈ ((s.refuse c.port ((cmdPacket code c).getD 0 0) st).port c.port).out,
      i.tag = none ∧ i.words.getD 0 0 = header st k c.cls.toNat 0) ∧
    Frame [PORT_STAT c.port, NOTE_STAT c.port] [.ports] s (s.refuse c.port ((cmdPacket code c).getD 0 0) st) := by
  refine ⟨⟨_, State.mem_out_place _ _ _, rfl, ?_⟩, .place .refl (by decide) (by simp) (by simp)⟩
  rw [headTag_cmdPacket tag, headClass_cmdPacket]
  unfold State.item
  split <;> rfl

end

/-! ### WD_CHECKIN (R329, R330, R429) -/

section
variable {s : State} {c : HostCmd} {k : Fin 96} {clock : BitVec 12}

/-- A WD_CHECKIN that arrives whole, before it is admitted. -/
theorem execWdCheckin_arrives (space : s.HasSpace c) : exec (.wdCheckin c clock) s =
    done ((s.clockAt clock.toNat).arrive c.port (cmdPacket codeWdCheckin c) true) := by
  have run : s.inRun = true := by
    have reaches := space.reaches
    simp only [State.hostReaches, Bool.and_eq_true] at reaches
    exact reaches.1.1
  have later : (s.clockAt clock.toNat).HasSpace c := ⟨space.reaches, space.between, space.none, space.space, space.fits⟩
  exact (congrArg done (if_pos run)).trans (congrArg done (later.deliver codeWdCheckin))

theorem execWdCheckin_admitted (space : s.HasSpace c) (tag : c.tag.toNat = k.val)
    (h : s.admission c.port ((cmdPacket codeWdCheckin c).getD 0 0) true = none) : exec (.wdCheckin c clock) s =
    done (((s.clockAt clock.toNat).tagTaken c k).hostCheckin k c.port c.payload) := by
  refine (execWdCheckin_arrives space).trans (congrArg done
    ((State.arrive_admitted (s := s.clockAt clock.toNat) (tagOf_cmdPacket tag) headClass_cmdPacket h).trans ?_))
  rw [headCode_cmdPacket (by decide), if_neg (by decide), if_pos rfl]
  rfl

/-- The state in which the watchdog judges the word. -/
theorem State.clockTaken_frame :
    Frame (answerRegs c.port k) (.clk :: answerParts) s ((s.clockAt clock.toNat).tagTaken c k) :=
  ((s.clockAt_frame _).mono (by simp) (by decide)).trans (((s.clockAt clock.toNat).tagTaken_frame c k).mono (fun _ => id) (by decide))

/-- The watchdog's registers are none of those that an answer writes. -/
theorem State.clockTaken_get {a : Nat} (f : Fld) (low : a < 0x4002c008) :
    ((s.clockAt clock.toNat).tagTaken c k).get a f = s.get a f :=
  State.clockTaken_frame.get a f (notMem_answerRegs (.inl low))

/-- R429: the answer carries DONE and the sequence as the check-in left them. -/
theorem State.checkinWord_eq {t u : State} (h : Frame (answerRegs c.port k) [.ports, .tags] u t) :
    t.checkinWord = u.checkinWord := by
  unfold State.checkinWord State.get
  rw [h.rd WD_STAT (notMem_answerRegs (.inl (by decide))), h.rd WD_SEQ (notMem_answerRegs (.inl (by decide)))]

/-- The answer after a check-in that expires nothing (R429). -/
theorem State.hostCheckin_answers {u : State} {w : Word}
    (judged : ((s.clockAt clock.toNat).tagTaken c k).wdJudge w (c.port.idx + 1) = (none, u))
    (tags : u.tags = ((s.clockAt clock.toNat).tagTaken c k).tags) :
    ((s.clockAt clock.toNat).tagTaken c k).hostCheckin k c.port [w] = u.answer k 0 [u.checkinWord] := by
  have checked : ((s.clockAt clock.toNat).tagTaken c k).wdCheckin w (c.port.idx + 1) = u := by
    unfold State.wdCheckin
    rw [judged]
    rfl
  have taken := (s.clockAt clock.toNat).tagTaken_tag c k
  rw [← tags] at taken
  unfold State.hostCheckin
  simp only [checked, taken]
  rfl

end

section
variable {s : State} {c : HostCmd} {k : Fin 96} {clock : BitVec 12} (space : s.HasSpace c) (tag : c.tag.toNat = k.val)
  (admitted : s.admission c.port ((cmdPacket codeWdCheckin c).getD 0 0) true = none)
include space tag admitted

theorem execWdCheckin_idle {w : Word} (pay : c.payload = [w]) (stands : s.wd.running = false) :
    Answers (.wdCheckin c clock) s fun t => t.Answered k c.port c.cls.toNat 0 [s.checkinWord] ∧
      Frame (answerRegs c.port k) (.clk :: answerParts) s t := by
  let u := (s.clockAt clock.toNat).tagTaken c k
  have taken : Frame (answerRegs c.port k) (.clk :: answerParts) s u := State.clockTaken_frame
  have judged : u.wdJudge w (c.port.idx + 1) = (none, u) := by
    have still : u.wd.running = false := stands
    refine (if_neg (by simp [still])).trans ?_
    unfold State.wdWord
    simp [still]
  have e := execWdCheckin_admitted (clock := clock) space tag admitted
  rw [pay, State.hostCheckin_answers judged rfl] at e
  obtain ⟨answered, frame⟩ := State.answer_taken (s.clockAt clock.toNat) c k (u := u) rfl 0 [u.checkinWord]
  have word : u.checkinWord = s.checkinWord := by
    unfold State.checkinWord State.get
    rw [taken.rd WD_STAT (notMem_answerRegs (.inl (by decide))), taken.rd WD_SEQ (notMem_answerRegs (.inl (by decide)))]
  rw [word] at answered e frame
  exact ⟨_, e, answered, taken.trans (frame.mono (fun _ => id) (by decide))⟩

theorem execWdCheckin_ignores {w : Word} (pay : c.payload = [w]) (counts : s.wd.running = true)
    (early : (s.clockAt clock.toNat).wdElapsed < s.wdLimit) (key : getF w ⟨16, 16⟩ ≠ 0x5A3C) :
    Answers (.wdCheckin c clock) s fun t => t.get WD_STAT WD_STAT_IGN = 1 ∧
      t.get WD_STAT WD_STAT_DONE = s.get WD_STAT WD_STAT_DONE ∧ t.raisedCode 0x19 1 ∧
      t.Answered k c.port c.cls.toNat 0 [t.checkinWord] ∧
      EventFrame (WD_STAT :: answerRegs c.port k) (.clk :: answerParts) s t := by
  let u := (s.clockAt clock.toNat).tagTaken c k
  let v := u.wdIgnore 1 (getF w ⟨0, 8⟩) (c.port.idx + 1)
  obtain ⟨ign, kept, raised, ignored⟩ := u.wdIgnore_shows (c.port.idx + 1) 1 (getF w ⟨0, 8⟩)
  have tags : v.tags = u.tags := ignored.same .tags (by decide) (by decide)
  have e := execWdCheckin_admitted (clock := clock) space tag admitted
  rw [pay, State.hostCheckin_answers ((u.wdJudge_inside w _ early).trans (u.wdWord_wrongKey w _ counts key)) tags] at e
  obtain ⟨answered, frame⟩ := State.answer_taken (s.clockAt clock.toNat) c k (u := v) (by rw [tags]) 0 [v.checkinWord]
  have off : WD_STAT ∉ answerRegs c.port k := notMem_answerRegs (.inl (by decide))
  refine ⟨_, e, (frame.get _ _ off).trans ign, (frame.get _ _ off).trans (kept.trans (State.clockTaken_get _ (by decide))),
    KeepsRaised.of_flt (frame.same .flt (by decide)) _ _ raised, ?_, ?_⟩
  · rw [State.checkinWord_eq frame]
    exact answered
  · exact ((EventFrame.of_frame (State.clockTaken_frame.mono (fun _ => List.mem_cons_of_mem _) fun _ => id)).trans
      (ignored.mono (by simp) (by simp))).trans (.of_frame (frame.mono (fun _ => List.mem_cons_of_mem _) (by decide)))

theorem execWdCheckin_marks {w : Word} (pay : c.payload = [w])
    (early : (s.clockAt clock.toNat).wdElapsed < s.wdLimit) (own : s.WdOwned w (c.port.idx + 1))
    (fresh : (s.get WD_STAT WD_STAT_DONE).testBit (getF w ⟨0, 8⟩) = false)
    (sequence : getF w ⟨8, 8⟩ = (s.rd WD_SEQ).toNat % 256)
    (opened : (windowAt s.wd.period (s.get WD_FUSE1 WD_FUSE1_WIN) : Int) ≤ (s.clockAt clock.toNat).wdElapsed) :
    Answers (.wdCheckin c clock) s fun t =>
      t.get WD_STAT WD_STAT_DONE = s.get WD_STAT WD_STAT_DONE + 2 ^ getF w ⟨0, 8⟩ ∧
      t.Answered k c.port c.cls.toNat 0 [t.checkinWord] ∧
      Frame (WD_STAT :: answerRegs c.port k) (.clk :: answerParts) s t := by
  let u := (s.clockAt clock.toNat).tagTaken c k
  let v := u.wdMarked (getF w ⟨0, 8⟩)
  have read (a : Nat) (f : Fld) (low : a < 0x4002c008) : u.get a f = s.get a f := State.clockTaken_get f low
  have marked : Frame [WD_STAT] [] u v := u.wdMarked_frame _
  have clear : (u.get WD_STAT WD_STAT_DONE).testBit (getF w ⟨0, 8⟩) = false := by
    rw [read _ _ (by decide)]
    exact fresh
  have counted : u.rd WD_SEQ = s.rd WD_SEQ := State.clockTaken_frame.rd _ (notMem_answerRegs (.inl (by decide)))
  have judged : u.wdJudge w (c.port.idx + 1) = (none, v) := by
    refine (u.wdJudge_inside w _ early).trans (u.wdWord_inOrder w _ ?_ clear ?_ ?_)
    · exact ⟨own.counts, own.key, own.slot, own.enabled, own.owner⟩
    · rw [counted]
      exact sequence
    · rw [read _ _ (by decide)]
      exact opened
  have e := execWdCheckin_admitted (clock := clock) space tag admitted
  rw [pay, State.hostCheckin_answers judged (marked.same .tags (by decide))] at e
  obtain ⟨answered, frame⟩ := State.answer_taken (s.clockAt clock.toNat) c k (u := v) rfl 0 [v.checkinWord]
  refine ⟨_, e, (frame.get _ _ (notMem_answerRegs (.inl (by decide)))).trans ?_, ?_, ?_⟩
  · rw [u.wdMarked_done own.slot clear, read _ _ (by decide)]
  · rw [State.checkinWord_eq frame]
    exact answered
  · exact ((State.clockTaken_frame.mono (fun _ => List.mem_cons_of_mem _) fun _ => id).trans
      (marked.mono (by simp) (by simp))).trans (frame.mono (fun _ => List.mem_cons_of_mem _) (by decide))

theorem execWdCheckin_malformed (wrong : c.payload.length ≠ 1) : Answers (.wdCheckin c clock) s fun t =>
    t.Answered k c.port c.cls.toNat 0x01 [] ∧ Frame (answerRegs c.port k) (.clk :: answerParts) s t := by
  let u := (s.clockAt clock.toNat).tagTaken c k
  have answers : u.hostCheckin k c.port c.payload = u.answer k 0x01 [] := by
    unfold State.hostCheckin
    split
    · rename_i w one
      exact absurd (by rw [one]; rfl) wrong
    · rfl
  have e := execWdCheckin_admitted (clock := clock) space tag admitted
  rw [answers] at e
  obtain ⟨answered, frame⟩ := State.answer_taken (s.clockAt clock.toNat) c k (u := u) rfl 0x01 []
  exact ⟨_, e, answered, State.clockTaken_frame.trans (frame.mono (fun _ => id) (by decide))⟩

end

/-- Settles O59: a check-in that is admitted takes its tag, is judged as a word of its port, and is answered from what the
judgement leaves. -/
theorem wdCheckinCommand : Obligations.WdCheckinCommand := fun s c k clock reaches tag between none room fits => by
  have space : s.HasSpace c := ⟨reaches, between, none, room, fits⟩
  refine ⟨fun admitted => ⟨fun w pay stands => execWdCheckin_idle space tag admitted pay stands,
    fun w pay counts early => ⟨execWdCheckin_ignores space tag admitted pay counts early, ?_⟩,
    execWdCheckin_malformed space tag admitted⟩, fun st refused => ?_⟩
  · exact fun key slot enabled owner fresh sequence opened => execWdCheckin_marks space tag admitted pay early
      ⟨counts, key, slot, enabled, owner⟩ fresh sequence opened
  · have e := execWdCheckin_arrives (clock := clock) space
    rw [State.arrive_refused (s := s.clockAt clock.toNat) refused] at e
    obtain ⟨item, frame⟩ := State.refuse_shows (s := s.clockAt clock.toNat) (code := codeWdCheckin) tag st
    exact ⟨_, e, frame.same .tags (by decide), item,
      ((s.clockAt_frame _).mono (by simp) (by decide)).trans (frame.mono (fun _ => id) (by decide))⟩

end Sys2Proof.Machine
end

section
/-! PROOF. TELEM_READ (R390, R419, R420), which the port hardware executes as it arrives. -/
namespace Sys2Proof.Machine
open Sys2Proof

/-! ### An answer stays -/

/-- What an answer needs of a later state: its port's items and configuration and the tags. -/
theorem State.Answered.of_eventFrame {R : List Nat} {P : List Part} {t u : State} {k : Fin 96} {p : Port} {cls status : Nat}
    {pay : List Word} (h : t.Answered k p cls status pay) (g : EventFrame R P t u) (ports : Part.ports ∉ P)
    (tags : Part.tags ∉ P) (config : ∀ q, PORT_CFG q ∉ R) : u.Answered k p cls status pay := by
  have pec (q : Port) : u.flag (PORT_CFG q) PORT_CFG_PEC = t.flag (PORT_CFG q) PORT_CFG_PEC := by
    unfold State.flag State.get
    rw [g.rd _ (config q) (offEvents_above (by unfold PORT_CFG; omega))]
  have crc : u.crcPort p = t.crcPort p := by
    cases p <;> simp [State.crcPort, pec]
  have kept : u.ports = t.ports := g.same .ports ports (by decide)
  have held : u.tags = t.tags := g.same .tags tags (by decide)
  unfold State.Answered State.port at h ⊢
  rw [crc, kept, held]
  exact h

theorem State.answer_tag (s : State) (k : Fin 96) (status : Nat) (pay : List Word) :
    (s.answer k status pay).tags[k] = { s.tags[k] with st := .answered } := by
  have placed : Frame (answerRegs s.tags[k].port k) [.ports] (s.tagState k .answered) (s.answer k status pay) :=
    .place .refl (by decide) (by simp [answerRegs]) (by simp [answerRegs])
  rw [show (s.answer k status pay).tags = (s.tagState k .answered).tags from placed.same .tags (by decide)]
  exact Vector.getElem_set_self _

/-! ### What telemetry reaches (R420) -/

/-- A register of D_PWR or D_BAK. -/
def telemReaches (a : Word) : Bool := domainOf a.toNat = some Domain.dPwr ∨ domainOf a.toNat = some Domain.dBak

section
variable (s : State)

theorem State.telemWord_eq (a : Word) : s.telemWord a = if telemReaches a then some (s.latched a.toNat) else none := by
  unfold State.telemWord telemReaches
  split <;> simp_all

theorem State.telemWord_isSome (a : Word) : (s.telemWord a).isSome = telemReaches a := by
  rw [State.telemWord_eq]
  split <;> simp_all

theorem State.telemWord_getD (a : Word) :
    (s.telemWord a).getD idleItem = if telemReaches a then s.latched a.toNat else 0xFFFFFFFF := by
  rw [State.telemWord_eq]
  split <;> rfl

theorem State.telemRead_addresses (k : Fin 96) {l : List Word} (h : l ≠ []) : s.telemRead k l =
    s.answer k (if l.all telemReaches then 0 else 0x0B)
      (l.map fun a => if telemReaches a then s.latched a.toNat else 0xFFFFFFFF) := by
  have all : (l.map s.telemWord).all Option.isSome = l.all telemReaches := by
    rw [List.all_map]
    exact congrArg l.all (funext s.telemWord_isSome)
  have words : (l.map s.telemWord).map (fun o => o.getD idleItem) =
      l.map fun a => if telemReaches a then s.latched a.toNat else 0xFFFFFFFF := by
    rw [List.map_map]
    exact congrArg (l.map ·) (funext s.telemWord_getD)
  refine (if_neg (by simpa using h)).trans ?_
  dsimp only
  rw [all, words]

theorem State.telemRead_empty (k : Fin 96) : s.telemRead k [] = s.answer k 0x01 [] := rfl

end

/-! ### TELEM_READ -/

/-- Admission rests on registers, tags and what the tick latched (R389). -/
theorem Frame.admission {s t : State} (h : Frame [] [.mram] s t) (p : Port) (w : Word) (ok : Bool) :
    t.admission p w ok = s.admission p w ok := by
  have get (a : Nat) (f : Fld) : t.get a f = s.get a f := h.get a f (by simp)
  have tags : t.tags = s.tags := h.same .tags (by decide)
  have snap : t.snap = s.snap := h.same .snap (by decide)
  unfold State.admission State.tagOpen State.owns State.leastClass State.latchedF State.latched State.classCap
    State.inFlight State.flag
  simp only [get, tags, snap]

/-- The errors that the reads of a command meet: those of its reads of PLATE_WIN (R342). -/
def State.telemEcc (s : State) (c : HostCmd) (l : List EccRead) : List EccRead :=
  if s.hostReaches c.port && c.payload.any isPlateWin then l else []

section
variable {s : State} {c : HostCmd} {k : Fin 96} (l : List EccRead) (space : s.HasSpace c) (tag : c.tag.toNat = k.val)
include space

theorem execTelemRead_arrives : exec (.telemRead c l) s =
    done (((s.eccFlip (s.telemEcc c l)).arrive c.port (cmdPacket codeTelemRead c) true).eccReads (s.telemEcc c l)) := by
  have flipped := s.eccFlip_frame (s.telemEcc c l)
  have ports : (s.eccFlip (s.telemEcc c l)).ports = s.ports := flipped.same .ports (by decide)
  have reached : (s.eccFlip (s.telemEcc c l)).hostReaches c.port = s.hostReaches c.port := by
    unfold State.hostReaches State.inRun
    rw [flipped.same .power (by decide), flipped.same .clk (by decide), flipped.same .layers (by decide),
      flipped.flag _ _ (by simp)]
  obtain ⟨reaches, between, none, room, fits⟩ := space
  have later : (s.eccFlip (s.telemEcc c l)).HasSpace c := by
    unfold State.port at between none room
    rw [← ports] at between none room
    exact ⟨reached.trans reaches, between, none, room, fits⟩
  exact congrArg (fun u : State => done (u.eccReads (s.telemEcc c l))) (later.deliver codeTelemRead)

include tag

theorem execTelemRead_admitted (h : s.admission c.port ((cmdPacket codeTelemRead c).getD 0 0) true = none) :
    exec (.telemRead c l) s = done ((((s.eccFlip (s.telemEcc c l)).tagTaken c k).telemRead k c.payload).eccReads
      (s.telemEcc c l)) := by
  have arrived := State.arrive_admitted (s := s.eccFlip (s.telemEcc c l)) (tagOf_cmdPacket tag) headClass_cmdPacket
    (((s.eccFlip_frame _).admission c.port _ true).trans h)
  rw [headCode_cmdPacket (by decide), if_pos rfl] at arrived
  rw [execTelemRead_arrives l space, arrived]
  rfl

theorem execTelemRead_answers (h : s.admission c.port ((cmdPacket codeTelemRead c).getD 0 0) true = none)
    (some : c.payload ≠ []) : Answers (.telemRead c l) s fun t =>
    t.Answered k c.port c.cls.toNat (if c.payload.all telemReaches then 0 else 0x0B)
      (c.payload.map fun a => if telemReaches a then s.latched a.toNat else 0xFFFFFFFF) ∧
    t.tags[k].port = c.port ∧ t.fw = { s.fw with admitted := s.fw.admitted + 1 } ∧
    EventFrame (NV_STAT :: answerRegs c.port k) (.mram :: .nv :: answerParts) s t ∧
    (s.telemEcc c l = [] → Frame (answerRegs c.port k) answerParts s t) := by
  let status := if c.payload.all telemReaches then 0 else 0x0B
  let pay := c.payload.map fun a => if telemReaches a then s.latched a.toNat else 0xFFFFFFFF
  let u := (s.eccFlip (s.telemEcc c l)).tagTaken c k
  let v := u.answer k status pay
  have flipped := s.eccFlip_frame (s.telemEcc c l)
  have snap : u.snap = s.snap := flipped.same .snap (by decide)
  have words : u.telemRead k c.payload = v := by
    rw [u.telemRead_addresses k some]
    unfold State.latched
    rw [snap]
    rfl
  have e := execTelemRead_admitted l space tag h
  rw [words] at e
  obtain ⟨answered, frame⟩ := State.answer_taken (s.eccFlip (s.telemEcc c l)) c k (u := u) rfl status pay
  have taken := (s.eccFlip (s.telemEcc c l)).tagTaken_frame c k
  have reads := v.eccReads_frame (s.telemEcc c l)
  have port : v.tags[k].port = c.port := by
    rw [u.answer_tag, (s.eccFlip (s.telemEcc c l)).tagTaken_tag]
  have admitted : u.fw = { s.fw with admitted := s.fw.admitted + 1 } := by
    show { (s.eccFlip (s.telemEcc c l)).fw with admitted := (s.eccFlip (s.telemEcc c l)).fw.admitted + 1 } = _
    rw [show (s.eccFlip (s.telemEcc c l)).fw = s.fw from flipped.same .fw (by decide)]
  refine ⟨_, e, answered.of_eventFrame reads (by decide) (by decide) (fun q => ?_), ?_, ?_, ?_, fun none => ?_⟩
  · unfold PORT_CFG NV_STAT
    simp only [List.mem_singleton]
    omega
  · rw [show (v.eccReads (s.telemEcc c l)).tags = v.tags from reads.same .tags (by decide) (by decide)]
    exact port
  · have kept : (v.eccReads (s.telemEcc c l)).fw = v.fw := reads.same .fw (by decide) (by decide)
    have fw : v.fw = u.fw := frame.same .fw (by decide)
    exact kept.trans (fw.trans admitted)
  · have whole : EventFrame (NV_STAT :: answerRegs c.port k) (.mram :: .nv :: answerParts) s v :=
      .of_frame (((flipped.mono (by simp) (by simp)).trans
        (taken.mono (fun _ => List.mem_cons_of_mem _) (by decide))).trans
        (frame.mono (fun _ => List.mem_cons_of_mem _) (by decide)))
    exact whole.trans (reads.mono (by simp) (by simp))
  · have unread : v.eccReads (s.telemEcc c l) = v := by rw [none]; rfl
    have unflipped : s.eccFlip (s.telemEcc c l) = s := by rw [none]; rfl
    rw [unread]
    rw [unflipped] at taken
    exact (taken.mono (fun _ => id) (by decide)).trans
      ((show Frame (answerRegs c.port k) [.ports, .tags] (s.tagTaken c k) v from unflipped ▸ frame).mono (fun _ => id) (by decide))

theorem execTelemRead_empty (h : s.admission c.port ((cmdPacket codeTelemRead c).getD 0 0) true = none)
    (empty : c.payload = []) : Answers (.telemRead c l) s fun t =>
    t.Answered k c.port c.cls.toNat 0x01 [] ∧ Frame (answerRegs c.port k) answerParts s t := by
  have none : s.telemEcc c l = [] := if_neg (by simp [empty])
  have e := execTelemRead_admitted l space tag h
  rw [none, empty] at e
  obtain ⟨answered, frame⟩ := State.answer_taken s c k (u := s.tagTaken c k) rfl 0x01 []
  exact ⟨_, e, answered, ((s.tagTaken_frame c k).mono (fun _ => id) (by decide)).trans (frame.mono (fun _ => id) (by decide))⟩

theorem execTelemRead_refused {st : Nat}
    (h : s.admission c.port ((cmdPacket codeTelemRead c).getD 0 0) true = some st) :
    Answers (.telemRead c l) s fun t => t.tags = s.tags ∧
      (∃ i ∈ (t.port c.port).out, i.tag = none ∧ i.words.getD 0 0 = header st k c.cls.toNat 0) ∧
      (s.telemEcc c l = [] → Frame [PORT_STAT c.port, NOTE_STAT c.port] [.ports] s t) := by
  let u := s.eccFlip (s.telemEcc c l)
  let v := u.refuse c.port ((cmdPacket codeTelemRead c).getD 0 0) st
  have flipped : Frame [] [.mram] s u := s.eccFlip_frame _
  have e := execTelemRead_arrives l space
  rw [State.arrive_refused (s := u) ((flipped.admission c.port _ true).trans h)] at e
  obtain ⟨item, frame⟩ := State.refuse_shows (s := u) (code := codeTelemRead) tag st
  have reads := v.eccReads_frame (s.telemEcc c l)
  refine ⟨_, e, ?_, ?_, fun none => ?_⟩
  · have kept : (v.eccReads (s.telemEcc c l)).tags = v.tags := reads.same .tags (by decide) (by decide)
    have placed : v.tags = u.tags := frame.same .tags (by decide)
    exact kept.trans (placed.trans (flipped.same .tags (by decide)))
  · unfold State.port
    rw [show (v.eccReads (s.telemEcc c l)).ports = v.ports from reads.same .ports (by decide) (by decide)]
    exact item
  · have unread : v.eccReads (s.telemEcc c l) = v := by rw [none]; rfl
    have unflipped : u = s := by show s.eccFlip (s.telemEcc c l) = s; rw [none]; rfl
    rw [unread]
    exact unflipped ▸ frame

end

/-- Settles O58: the words are those that `State.telemWord` gives, and the errors that the reads meet change nothing of the
answer. -/
theorem telemRead : Obligations.TelemRead := fun s c k reaches tag between none room fits => by
  have space : s.HasSpace c := ⟨reaches, between, none, room, fits⟩
  have unmet (l : List EccRead) (empty : l = []) : s.telemEcc c l = [] := by
    unfold State.telemEcc
    rw [empty]
    exact ite_self _
  refine ⟨fun admitted => ⟨fun l some => ?_, fun l => execTelemRead_empty l space tag admitted⟩, fun st l refused => ?_⟩
  · obtain ⟨t, e, answered, port, fw, frame, still⟩ := execTelemRead_answers l space tag admitted some
    unfold telemReaches at answered
    simp only [decide_eq_true_eq] at answered
    exact ⟨t, e, answered, port, fw, frame, fun empty => still (unmet l empty)⟩
  · obtain ⟨t, e, tags, item, frame⟩ := execTelemRead_refused l space tag refused
    exact ⟨t, e, tags, item, fun empty => frame (unmet l empty)⟩

end Sys2Proof.Machine
end

section
/-! PROOF. The host commands that firmware answers at once or refuses (R409, R413, R416 to R436): their statements ask for no
premise that the deadline of the command's tag lies ahead, and an answer that comes at its deadline or later is discarded
(R391, R392). -/
namespace Sys2Proof.Machine
open Sys2Proof

section
variable {s : State} {k : Fin 96} {c : HostCmd} {code : Nat}

/-- A command at its deadline that changes nothing before its answer leaves the tags: the answer is discarded. -/
theorem State.Front.overdue_tags (h : s.Front code c k) (late : s.tags[k].due ≤ s.clk.frames) {ports : List Port}
    {ok : List Word → Bool} {run : State → Port → List Word → State × Reply}
    (told : s.permitted ports c.port = true → ok c.payload = true →
      ∃ status pay, run (s.takePacket k) c.port c.payload = (s.takePacket k, .now status pay)) :
    (s.hostCommand code ports c ok run).tags = s.tags := by
  obtain ⟨-, -, port, -, -⟩ := h.parts
  have discarded (status : Nat) (pay : List Word) : ((s.takePacket k).reply k c.port status pay).tags = s.tags :=
    State.reply_overdue (s.takePacket k) k c.port status pay late
  rw [h.hostCommand]
  unfold State.perform
  dsimp only
  rw [port]
  cases may : s.permitted ports c.port with
  | false => exact discarded 0x03 []
  | true =>
    cases formed : ok c.payload with
    | false => exact discarded 0x01 []
    | true =>
      obtain ⟨status, pay, replies⟩ := told may formed
      rw [replies]
      exact discarded status pay

/-- A command whose tag stays as it was is not answered. -/
theorem State.Front.not_answered (h : s.Front code c k) {t : State} (kept : t.tags = s.tags) {p : Port} {cls status : Nat}
    {pay : List Word} : ¬ t.Answered k p cls status pay := by
  rintro ⟨answered, -⟩
  obtain ⟨-, queued, -, -, -⟩ := h.parts
  rw [kept, queued] at answered
  cases answered

/-- No answer, where a command's meaning leaves the tags. -/
theorem State.Front.not_answers (h : s.Front code c k) {i : Instr} {u : State} (e : exec i s = done u) (kept : u.tags = s.tags)
    {p : Port} {cls status : Nat} {pay : List Word} {Q : State → Prop} :
    ¬ Answers i s fun t => t.Answered k p cls status pay ∧ Q t := by
  rintro ⟨t, e', answered, -⟩
  obtain rfl : t = u := Host.Outcome.next.inj (e'.symm.trans e)
  exact h.not_answered kept answered

end

/-- A command of a port without payload, under tag 0. -/
def bareCmd (p : Port) (pay : List Word) : HostCmd := ⟨p, 0, 0, pay⟩

/-- A part whose firmware holds a command in frame 0, the frame of its deadline. -/
def overdueAt (code : Nat) (c : HostCmd) : State :=
  { State.reset with
    power := .run, layers := true, proc := { mode := .firmware },
    tags := State.reset.tags.set 0 { st := .queued, port := c.port }, fw := { taken := [(c.port, cmdPacket code c)] } }

theorem overdueAt_late (code : Nat) (c : HostCmd) : (overdueAt code c).tags[(0 : Fin 96)].due ≤ (overdueAt code c).clk.frames :=
  Nat.zero_le _

/-- Refutes O57: in `overdueAt` an AUX_XFER without payload stands at its deadline, so that its answer of 0x01 is discarded
(R391) and its tag stays QUEUED. -/
theorem not_auxCommand : ¬ Obligations.AuxCommand := by
  intro h
  have front : (overdueAt 0x80 (bareCmd .a [])).Front 0x80 (bareCmd .a []) 0 := ⟨rfl, by decide⟩
  obtain ⟨may, -⟩ := h (overdueAt 0x80 (bareCmd .a [])) (bareCmd .a []) 0 front
  obtain ⟨-, -, malformed⟩ := may (by decide)
  exact front.not_answers rfl (front.overdue_tags (overdueAt_late _ _) fun _ formed => absurd formed (by decide))
    (malformed (by decide))

/-- Refutes O56: in `overdueAt` a REG_WRITE without payload stands at its deadline, so that its answer of 0x01 is discarded
(R391) and its tag stays QUEUED. -/
theorem not_regWriteCommand : ¬ Obligations.RegWriteCommand := by
  intro h
  have front : (overdueAt 0x79 (bareCmd .a [])).Front 0x79 (bareCmd .a []) 0 := ⟨rfl, by decide⟩
  obtain ⟨may, -⟩ := h (overdueAt 0x79 (bareCmd .a [])) (bareCmd .a []) 0 front
  obtain ⟨-, -, malformed⟩ := may (by decide)
  exact front.not_answers rfl (front.overdue_tags (overdueAt_late _ _) fun _ formed => absurd formed (by decide))
    (malformed (.inl (by decide)))

/-- Refutes O51: in `overdueAt` an IDENTIFY with a payload stands at its deadline, so that its answer of 0x01 is discarded
(R391) and its tag stays QUEUED. -/
theorem not_hostQueries : ¬ Obligations.HostQueries := by
  intro h
  have front : (overdueAt 0x00 (bareCmd .a [0])).Front 0x00 (bareCmd .a [0]) 0 := ⟨rfl, by decide⟩
  obtain ⟨may, -⟩ := h (overdueAt 0x00 (bareCmd .a [0])) (bareCmd .a [0]) 0
  obtain ⟨-, malformed, -⟩ := may (by decide)
  exact front.not_answers rfl (front.overdue_tags (overdueAt_late _ _) fun _ formed => absurd formed (by decide))
    (malformed (by decide) front)

/-- Refutes O52: in `overdueAt` a RAIL_ENABLE of Port E, which may not issue it, stands at its deadline, so that its answer of
0x03 is discarded (R391) and its tag stays QUEUED. -/
theorem not_hostRails : ¬ Obligations.HostRails := by
  intro h
  have front : (overdueAt 0x20 (bareCmd .e [0])).Front 0x20 (bareCmd .e [0]) 0 := ⟨rfl, by decide⟩
  obtain ⟨-, barred, -⟩ := h (overdueAt 0x20 (bareCmd .e [0])) (bareCmd .e [0]) 0 0 rfl
  exact front.not_answers rfl (front.overdue_tags (overdueAt_late _ _) fun may _ => absurd may (by decide))
    (barred (by decide) (.railEnable _, 0x20) List.mem_cons_self front)

/-- Refutes O53: in `overdueAt` a FUSE_WD of Port A, which may not issue it, stands at its deadline, so that its answer of 0x03
is discarded (R391) and its tag stays QUEUED. -/
theorem not_hostService : ¬ Obligations.HostService := by
  intro h
  have front : (overdueAt 0x04 (bareCmd .a [])).Front 0x04 (bareCmd .a []) 0 := ⟨rfl, by decide⟩
  obtain ⟨-, -, barred⟩ := h (overdueAt 0x04 (bareCmd .a [])) (bareCmd .a []) 0
  exact front.not_answers rfl (front.overdue_tags (overdueAt_late _ _) fun may _ => absurd may (by decide))
    (barred (by decide) (.fuseWd _, 0x04) List.mem_cons_self front)

/-- Refutes O54: in `overdueAt` a CFG_WRITE of Port C with no session open stands at its deadline, so that its answer of 0x05
is discarded (R391) and its tag stays QUEUED. -/
theorem not_hostSessions : ¬ Obligations.HostSessions := by
  intro h
  let c := bareCmd .c [0, 0, 0]
  have front : (overdueAt 0x69 c).Front 0x69 c 0 := ⟨rfl, by decide⟩
  obtain ⟨-, -, writes, -⟩ := h (overdueAt 0x69 c) c 0 (by decide)
  obtain ⟨-, -, closed⟩ := writes 0 0 0 rfl (by decide)
  exact front.not_answers rfl (front.overdue_tags (overdueAt_late _ _) fun _ _ => ⟨0x05, [], rfl⟩)
    (closed (by decide) rfl front)

end Sys2Proof.Machine
end

section
/-! PROOF. AUX (R401): the start of a transfer and its four ends. -/
namespace Sys2Proof.Machine
open Sys2Proof

section
variable (s : State)

/-! ### GO -/

theorem State.auxGo_busy (busy : s.get AUX_STAT AUX_STAT_BUSY = 1) (a w r : Nat) : s.auxGo a w r = s :=
  if_pos (by simp [State.flag, busy])

/-- AUX_STAT of a transfer as it starts. -/
def State.auxStarted : Word :=
  setF (setF (setF (setF (s.rd AUX_STAT) AUX_STAT_BUSY 1) AUX_STAT_NACK 0) AUX_STAT_ARB 0) AUX_STAT_TIMEOUT 0

/-- The bytes of AUX_DATA in their order (R4). -/
def State.auxData : List Byte := (List.range 8).flatMap (fun k => bytesLE 4 (s.rd (AUX_DATA k)).toNat)

theorem State.auxData_length : s.auxData.length = 32 := by
  simp [State.auxData, List.length_flatMap, length_bytesLE]

theorem State.auxGo_idle (idle : s.get AUX_STAT AUX_STAT_BUSY = 0) (a w r : Nat) : s.auxGo a w r =
    { s.wr AUX_STAT s.auxStarted with
      aux := { s.aux with addr := a, wlen := min 32 w, rlen := min 32 r }, wire := s.auxData.take (min 32 w) } :=
  if_neg (by simp [State.flag, idle])

theorem execAuxGo_starts (reaches : s.burinReaches = true) (a : BitVec 7) (w r : BitVec 8)
    (idle : s.get AUX_STAT AUX_STAT_BUSY = 0) : Answers (.auxGo a w r) s fun t => t.get AUX_STAT AUX_STAT_BUSY = 1 ∧
      t.get AUX_STAT AUX_STAT_NACK = 0 ∧ t.get AUX_STAT AUX_STAT_ARB = 0 ∧ t.get AUX_STAT AUX_STAT_TIMEOUT = 0 ∧
      t.aux = { s.aux with addr := a.toNat, wlen := min 32 w.toNat, rlen := min 32 r.toNat } ∧
      t.wire.length = min 32 w.toNat ∧ Frame [AUX_STAT] [.aux, .wire] s t := by
  have e : exec (.auxGo a w r) s = done (s.auxGo a.toNat w.toNat r.toNat) := congrArg done (if_pos reaches)
  rw [s.auxGo_idle idle] at e
  have shows (f : Fld) : (s.wr AUX_STAT s.auxStarted).get AUX_STAT f = getF s.auxStarted f := State.get_wr_same _ _ _ _
  refine ⟨_, e, (shows _).trans ?_, (shows _).trans ?_, (shows _).trans ?_, (shows _).trans ?_, rfl, ?_, ?_⟩
  · unfold State.auxStarted
    rw [getF_setF_ne _ _ _ _ (by decide), getF_setF_ne _ _ _ _ (by decide), getF_setF_ne _ _ _ _ (by decide),
      getF_setF _ _ _ (by decide)]
    rfl
  · unfold State.auxStarted
    rw [getF_setF_ne _ _ _ _ (by decide), getF_setF_ne _ _ _ _ (by decide), getF_setF _ _ _ (by decide)]
    rfl
  · unfold State.auxStarted
    rw [getF_setF_ne _ _ _ _ (by decide), getF_setF _ _ _ (by decide)]
    rfl
  · unfold State.auxStarted
    rw [getF_setF _ _ _ (by decide)]
    rfl
  · show (s.auxData.take (min 32 w.toNat)).length = _
    rw [List.length_take, s.auxData_length]
    omega
  · have stored : Frame [AUX_STAT] [.aux, .wire] s (s.wr AUX_STAT s.auxStarted) := .wr _ .refl (by decide)
    exact .set_wire (t := { s.wr AUX_STAT s.auxStarted with
      aux := { s.aux with addr := a.toNat, wlen := min 32 w.toNat, rlen := min 32 r.toNat } })
      (stored.set_aux (by decide)) (by decide)

/-! ### The bytes that a transfer reads -/

/-- The registers of AUX_DATA. -/
def auxDataRegs : List Nat := (List.range 8).map AUX_DATA

theorem mem_auxDataRegs {k : Nat} (h : k < 32) : AUX_DATA (k / 4) ∈ auxDataRegs :=
  List.mem_map_of_mem (List.mem_range.mpr (by omega))

theorem State.auxBytes_frame {k : Nat} {l : List Byte} (h : k + l.length ≤ 32) :
    Frame auxDataRegs [] s (s.auxBytes k l) := by
  induction l generalizing s k with
  | nil => exact .refl
  | cons b r ih =>
    rw [List.length_cons] at h
    exact Frame.trans (.put _ _ .refl (mem_auxDataRegs (by omega))) (ih _ (by omega))

/-- Byte `j` of AUX_DATA. -/
def State.auxByte (j : Nat) : Nat := getF (s.rd (AUX_DATA (j / 4))) ⟨8 * (j % 4), 8⟩

theorem State.auxByte_put (j k : Nat) (b : Byte) :
    (s.put (AUX_DATA (k / 4)) ⟨8 * (k % 4), 8⟩ b.toNat).auxByte j = if j = k then b.toNat else s.auxByte j := by
  by_cases e : j = k
  · subst e
    rw [if_pos rfl]
    exact (State.get_put _ _ _ _ (show 8 * (j % 4) + 8 ≤ 32 by omega)).trans (Nat.mod_eq_of_lt b.isLt)
  · rw [if_neg e]
    by_cases reg : j / 4 = k / 4
    · unfold State.auxByte
      rw [reg]
      exact State.get_put_field _ _ _ _ _ (show 8 * (k % 4) + 8 ≤ 8 * (j % 4) ∨ 8 * (j % 4) + 8 ≤ 8 * (k % 4) by omega)
    · exact State.get_put_ne _ _ _ _ _ _ (by unfold AUX_DATA; omega)

theorem State.auxBytes_byte (k : Nat) (l : List Byte) (j : Nat) :
    (s.auxBytes k l).auxByte j = if h : k ≤ j ∧ j < k + l.length then (l[j - k]'(by omega)).toNat else s.auxByte j := by
  induction l generalizing s k with
  | nil =>
    have none : ¬ (k ≤ j ∧ j < k + ([] : List Byte).length) := by rw [List.length_nil]; omega
    rw [dif_neg none]
    rfl
  | cons b r ih =>
    refine (ih (s.put (AUX_DATA (k / 4)) ⟨8 * (k % 4), 8⟩ b.toNat) (k + 1)).trans ?_
    rw [s.auxByte_put j k b]
    by_cases e : j = k
    · subst e
      simp
    · by_cases inside : k + 1 ≤ j ∧ j < k + 1 + r.length
      · have whole : k ≤ j ∧ j < k + (b :: r).length := by rw [List.length_cons]; omega
        rw [dif_pos inside, dif_pos whole]
        simp [show j - k = (j - (k + 1)) + 1 by omega]
      · have outside : ¬ (k ≤ j ∧ j < k + (b :: r).length) := by rw [List.length_cons]; omega
        rw [dif_neg inside, dif_neg outside, if_neg e]

/-! ### The end of a transfer -/

/-- AUX_DATA with the bytes read, BUSY 0 and DONE 1. -/
def State.auxEnded (l : List Byte) : State :=
  ((s.auxBytes 0 l).putB AUX_STAT AUX_STAT_BUSY false).putB AUX_STAT AUX_STAT_DONE true

/-- The bytes that a transfer read: all of RLEN where it completes, at most those that came otherwise. -/
def State.auxRead (r : AuxEnd) (got : Nat) (bytes : Vector (BitVec 8) 32) : List Byte :=
  bytes.toList.take (if r == .completed then s.aux.rlen else min s.aux.rlen got)

theorem execAuxTransferEnd_eq {r : AuxEnd} {n : Fin 33} {bs : Vector (BitVec 8) 32} (run : s.inRun = true)
    (busy : s.get AUX_STAT AUX_STAT_BUSY = 1) (ends : s.auxEnds r = true) : exec (.auxTransferEnd r n bs) s = done
      (match r with
      | .completed => s.auxEnded (s.auxRead r n bs)
      | .nack => (s.auxEnded (s.auxRead r n bs)).putB AUX_STAT AUX_STAT_NACK true
      | .arbitration _ => ((s.auxEnded (s.auxRead r n bs)).putB AUX_STAT AUX_STAT_ARB true).raise 0x85 1
      | .timeout _ => ((s.auxEnded (s.auxRead r n bs)).putB AUX_STAT AUX_STAT_TIMEOUT true).raise 0x85 2) := by
  refine (congrArg done (if_pos (by simp [run, State.flag, busy, ends]))).trans ?_
  cases r <;> rfl

section
variable (r : AuxEnd) (n : Nat) (bs : Vector (BitVec 8) 32)

theorem State.auxRead_length : (s.auxRead r n bs).length ≤ 32 := by
  unfold State.auxRead
  rw [List.length_take, Vector.length_toList]
  omega

/-- The registers of AUX that the end of a transfer writes. -/
theorem State.auxEnded_frame : Frame (AUX_STAT :: auxDataRegs) [] s (s.auxEnded (s.auxRead r n bs)) :=
  have bytes := s.auxBytes_frame (k := 0) (l := s.auxRead r n bs) (by have := s.auxRead_length r n bs; omega)
  .putB _ _ (.putB _ _ (bytes.mono (fun _ => List.mem_cons_of_mem _) fun _ => id) List.mem_cons_self) List.mem_cons_self

theorem State.auxEnded_busy (l : List Byte) : (s.auxEnded l).get AUX_STAT AUX_STAT_BUSY = 0 :=
  (State.get_putB_field _ _ _ _ _ (by decide)).trans (State.get_putB _ _ _ _ (by decide) (by decide))
theorem State.auxEnded_done (l : List Byte) : (s.auxEnded l).get AUX_STAT AUX_STAT_DONE = 1 :=
  State.get_putB _ _ _ _ (by decide) (by decide)

/-- An end other than a completed transfer says which it is: its bit of AUX_STAT. -/
theorem State.auxEnded_says (l : List Byte) (f : Fld) (one : f.w = 1) (bit : 2 ≤ f.lo ∧ f.lo < 32) :
    ((s.auxEnded l).putB AUX_STAT f true).get AUX_STAT AUX_STAT_BUSY = 0 ∧
    ((s.auxEnded l).putB AUX_STAT f true).get AUX_STAT AUX_STAT_DONE = 1 ∧
    ((s.auxEnded l).putB AUX_STAT f true).get AUX_STAT f = 1 :=
  ⟨(State.get_putB_field _ _ _ _ _ (.inr (show 0 + 1 ≤ f.lo by omega))).trans (s.auxEnded_busy l),
    (State.get_putB_field _ _ _ _ _ (.inr (show 1 + 1 ≤ f.lo by omega))).trans (s.auxEnded_done l),
    State.get_putB _ _ _ _ (by omega) one⟩

end

section
variable {n : Fin 33} {bs : Vector (BitVec 8) 32} (run : s.inRun = true) (busy : s.get AUX_STAT AUX_STAT_BUSY = 1)
include run busy

theorem execAuxTransferEnd_completed (fits : s.aux.rlen ≤ 32) : Answers (.auxTransferEnd .completed n bs) s fun t =>
    t.get AUX_STAT AUX_STAT_BUSY = 0 ∧ t.get AUX_STAT AUX_STAT_DONE = 1 ∧
    (∀ j : Fin 32, t.auxByte j = if j.val < s.aux.rlen then bs[j].toNat else s.auxByte j) ∧
    Frame (AUX_STAT :: auxDataRegs) [] s t := by
  let l := s.auxRead .completed n bs
  have length : l.length = s.aux.rlen := by
    show (bs.toList.take s.aux.rlen).length = _
    rw [List.length_take, Vector.length_toList]
    omega
  refine ⟨_, execAuxTransferEnd_eq s run busy rfl, s.auxEnded_busy l, s.auxEnded_done l, fun j => ?_,
    s.auxEnded_frame .completed n bs⟩
  have data : AUX_DATA (j / 4) ≠ AUX_STAT := by unfold AUX_DATA AUX_STAT; omega
  refine (State.get_putB_ne _ _ _ _ _ _ data).trans ((State.get_putB_ne _ _ _ _ _ _ data).trans ?_)
  refine (s.auxBytes_byte 0 l j).trans ?_
  by_cases inside : j.val < s.aux.rlen
  · rw [dif_pos (by omega), if_pos inside]
    simp [l, State.auxRead]
  · rw [dif_neg (by omega), if_neg inside]

theorem execAuxTransferEnd_nack : Answers (.auxTransferEnd .nack n bs) s fun t => t.get AUX_STAT AUX_STAT_BUSY = 0 ∧
    t.get AUX_STAT AUX_STAT_DONE = 1 ∧ t.get AUX_STAT AUX_STAT_NACK = 1 ∧ Frame (AUX_STAT :: auxDataRegs) [] s t := by
  obtain ⟨idle, ended, told⟩ := s.auxEnded_says (s.auxRead .nack n bs) AUX_STAT_NACK rfl (by decide)
  exact ⟨_, execAuxTransferEnd_eq s run busy rfl, idle, ended, told,
    .putB _ _ (s.auxEnded_frame .nack n bs) List.mem_cons_self⟩

end

/-- An end with an error raises ESN 0x85 with its code (R401). -/
theorem execAuxTransferEnd_raises {n : Fin 33} {bs : Vector (BitVec 8) 32} {r : AuxEnd} {f : Fld} {code : Nat} (one : f.w = 1) (bit : 2 ≤ f.lo ∧ f.lo < 32)
    (e : exec (.auxTransferEnd r n bs) s = done (((s.auxEnded (s.auxRead r n bs)).putB AUX_STAT f true).raise 0x85 code)) :
    Answers (.auxTransferEnd r n bs) s fun t => t.get AUX_STAT AUX_STAT_BUSY = 0 ∧ t.get AUX_STAT AUX_STAT_DONE = 1 ∧
      t.get AUX_STAT f = 1 ∧ t.raisedCode 0x85 code ∧ EventFrame (AUX_STAT :: auxDataRegs) [] s t := by
  obtain ⟨idle, ended, told⟩ := s.auxEnded_says (s.auxRead r n bs) f one bit
  have kept (g : Fld) : (((s.auxEnded (s.auxRead r n bs)).putB AUX_STAT f true).raise 0x85 code).get AUX_STAT g =
      ((s.auxEnded (s.auxRead r n bs)).putB AUX_STAT f true).get AUX_STAT g :=
    State.raise_get _ _ _ _ _ _ _ (by decide) (offEvents_above (by decide))
  exact ⟨_, e, (kept _).trans idle, (kept _).trans ended, (kept _).trans told, State.raise_raised _ _ _ _ _ (by omega),
    .raise (.putB _ _ (.of_frame (s.auxEnded_frame r n bs)) List.mem_cons_self) (by decide)⟩

end

/-- Settles O47: a start comes to `State.auxGo_idle`, and every end to `State.auxEnded` with its bit and its raise. -/
theorem auxBus : Obligations.AuxBus := fun s => by
  refine ⟨fun a w r reaches => ⟨execAuxGo_starts s reaches a w r, fun busy => ?_⟩, fun n bs run busy =>
    ⟨execAuxTransferEnd_completed s run busy, execAuxTransferEnd_nack s run busy, fun lost tries => ?_, fun ms sto => ?_⟩⟩
  · exact ⟨_, congrArg done (if_pos reaches), s.auxGo_busy busy _ _ _⟩
  · have ends : s.auxEnds (.arbitration lost) = true := by simp [State.auxEnds, tries]
    exact execAuxTransferEnd_raises s rfl (by decide) (execAuxTransferEnd_eq s run busy ends)
  · have ends : s.auxEnds (.timeout ms) = true := decide_eq_true sto
    exact execAuxTransferEnd_raises s rfl (by decide) (execAuxTransferEnd_eq s run busy ends)

end Sys2Proof.Machine
end

section
/-! PROOF. The alarm link (R403 to R405). -/
namespace Sys2Proof.Machine
open Sys2Proof

/-! ### Its registers (R404) and its acknowledges (R405) -/

theorem mem_ackAdd (n m : Nat) (l : List Nat) : m ∈ ackAdd n l ↔ m = n ∨ m ∈ l := by
  induction l with
  | nil => simp [ackAdd]
  | cons x r ih =>
    unfold ackAdd
    split
    · simp
    · split
      · rename_i same
        simp [same]
      · rw [List.mem_cons, ih, List.mem_cons]
        exact or_left_comm

theorem mem_foldl_ackAdd (f : Nat → Nat) (m : Nat) (bits l : List Nat) :
    m ∈ bits.foldl (fun l b => ackAdd (f b) l) l ↔ m ∈ l ∨ ∃ b ∈ bits, m = f b := by
  induction bits generalizing l with
  | nil => simp
  | cons b r ih =>
    rw [List.foldl_cons, ih, mem_ackAdd]
    simp only [List.exists_mem_cons_iff]
    rw [or_comm (a := m = f b), or_assoc]

section
variable (s : State)

theorem State.dlReg_gap {a : Nat} (h : 0x36 ≤ a ∧ a < 0x40) : s.dlReg a = none := by
  unfold State.dlReg
  rw [if_neg (by omega), if_neg (by omega), if_neg (by omega), if_pos (by omega)]
theorem State.dlReg_beyond {a : Nat} (h : 0x61 ≤ a) : s.dlReg a = none := by
  unfold State.dlReg
  rw [if_neg (by omega), if_neg (by omega), if_neg (by omega), if_neg (by omega), if_neg (by omega), if_neg (by omega),
    if_neg (by omega)]

/-! ### Replies (R403) -/

theorem State.dlReply_frame (ws : List Word) (l : List Byte) : Frame [DL_STAT] [.out, .wire] s (s.dlReply ws l) :=
  .set_wire (t := { s.bump DL_STAT DL_STAT_REQS with out := ws }) (.set_out (.bump _ .refl (by decide)) (by decide)) (by decide)
theorem State.dlReply_wire (ws : List Word) (l : List Byte) : (s.dlReply ws l).wire.length = l.length + 3 := by
  unfold State.dlReply State.dlFrame
  simp
  omega

/-- A request answered by an exception (R403). -/
theorem State.answers_dlException {c : Instr} {fc code : Nat} (e : exec c s = done (s.dlException fc code)) :
    Answers c s fun t => t.out = [BitVec.ofNat 32 (0x80000000 + code)] ∧ Frame [DL_STAT] [.out, .wire] s t :=
  ⟨_, e, rfl, s.dlReply_frame _ _⟩

/-! ### Reads (R403, R404) -/

/-- The registers that a read of `n` from an address names. -/
def State.dlRegs (a n : Nat) : List (Option Nat) := (List.range n).map (fun k => s.dlReg (a + k))

/-- The reply that carries registers. -/
def State.dlRead (fc : Nat) (v : List Nat) : State :=
  { s.dlReply (v.map (BitVec.ofNat 32)) (bytesLE 1 fc ++ bytesLE 1 (2 * v.length) ++ v.flatMap dlBytes) with
    freeCtr := s.freeCtr + 1 }

section
variable {s} {input : Bool} {a n : BitVec 16} (answers : s.dlAnswers = true)
include answers

theorem execModbusReadRegisters_count (h : n.toNat = 0 ∨ 125 < n.toNat) :
    exec (.modbusReadRegisters input a n) s = done (s.dlException (if input then 4 else 3) 3) := by
  have bad : (decide (n = 0) || decide (125 < n.toNat)) = true := by
    rw [Bool.or_eq_true, decide_eq_true_eq, decide_eq_true_eq]
    exact h.imp (fun zero => BitVec.eq_of_toNat_eq zero) id
  exact (congrArg done (if_pos answers)).trans (congrArg done (if_pos bad))

theorem execModbusReadRegisters_inRange (low : 1 ≤ n.toNat) (high : n.toNat ≤ 125) :
    exec (.modbusReadRegisters input a n) s = done
      (if (s.dlRegs a.toNat n.toNat).any Option.isNone then s.dlException (if input then 4 else 3) 2
      else s.dlRead (if input then 4 else 3) ((s.dlRegs a.toNat n.toNat).map (fun o => o.getD 0))) := by
  have good : ¬(decide (n = 0) || decide (125 < n.toNat)) = true := by
    rw [Bool.or_eq_true, decide_eq_true_eq, decide_eq_true_eq]
    rintro (zero | many)
    · rw [zero] at low
      exact absurd low (by decide)
    · omega
  exact (congrArg done (if_pos answers)).trans (congrArg done (if_neg good))

theorem execModbusReadRegisters_words (low : 1 ≤ n.toNat) (high : n.toNat ≤ 125)
    (listed : ∀ k : Nat, k < n.toNat → s.dlReg (a.toNat + k) ≠ none) : Answers (.modbusReadRegisters input a n) s fun t =>
      (∀ k : Nat, k < n.toNat → t.out[k]? = (s.dlReg (a.toNat + k)).map (BitVec.ofNat 32)) ∧ t.out.length = n.toNat ∧
      t.get DL_STAT DL_STAT_REQS = min (s.get DL_STAT DL_STAT_REQS + 1) (2 ^ DL_STAT_REQS.w - 1) ∧
      t.wire.length = 2 * n.toNat + 5 ∧ Frame [DL_STAT] [.out, .wire, .freeCtr] s t := by
  let v := (s.dlRegs a.toNat n.toNat).map (fun o => o.getD 0)
  have length : v.length = n.toNat := by simp [v, State.dlRegs]
  have all : ¬(s.dlRegs a.toNat n.toNat).any Option.isNone = true := by
    simpa [State.dlRegs] using listed
  have e := execModbusReadRegisters_inRange (input := input) (a := a) answers low high
  rw [if_neg all] at e
  refine ⟨_, e, fun k inside => ?_, (List.length_map _).trans length, State.get_bump _ _ _ (by decide), ?_, ?_⟩
  · obtain ⟨x, value⟩ := Option.ne_none_iff_exists'.mp (listed k inside)
    show (v.map (BitVec.ofNat 32))[k]? = _
    simp [v, State.dlRegs, inside, value]
  · have bytes : (v.flatMap dlBytes).length = 2 * n.toNat := by
      rw [← length]
      generalize v = l
      induction l with
      | nil => rfl
      | cons x r ih => simp [dlBytes, ih]; omega
    refine (s.dlReply_wire (v.map (BitVec.ofNat 32)) _).trans ?_
    rw [List.length_append, List.length_append, length_bytesLE, length_bytesLE, bytes]
    omega
  · exact .set_freeCtr ((s.dlReply_frame _ _).mono (fun _ => id) (by simp)) (by decide)

theorem execModbusReadRegisters_unlisted (low : 1 ≤ n.toNat) (high : n.toNat ≤ 125)
    (missing : ∃ k : Nat, k < n.toNat ∧ s.dlReg (a.toNat + k) = none) :
    exec (.modbusReadRegisters input a n) s = done (s.dlException (if input then 4 else 3) 2) := by
  have any : (s.dlRegs a.toNat n.toNat).any Option.isNone = true := by
    simpa [State.dlRegs] using missing
  have e := execModbusReadRegisters_inRange (input := input) (a := a) answers low high
  rwa [if_pos any] at e

/-! ### Acknowledges and other requests (R403, R405) -/

theorem execModbusWriteAcknowledge_outside {v : BitVec 16} (h : a.toNat < 0x40 ∨ 0x4F < a.toNat) :
    exec (.modbusWriteAcknowledge a v) s = done (s.dlException 6 2) :=
  (congrArg done (if_pos answers)).trans (congrArg done (if_pos (by simpa using h)))

theorem execModbusWriteAcknowledge_acknowledges {v : BitVec 16} (low : 0x40 ≤ a.toNat) (high : a.toNat ≤ 0x4F) :
    Answers (.modbusWriteAcknowledge a v) s fun t =>
      (∀ n : Nat, n ∈ t.acks ↔ n ∈ s.acks ∨ ∃ b : Fin 16, v.getLsbD b = true ∧ n = 16 * (a.toNat - 0x40) + b.val) ∧
      t.out = [BitVec.ofNat 32 a.toNat, BitVec.ofNat 32 v.toNat] ∧ Frame [DL_STAT] [.out, .wire, .acks] s t := by
  have inside : ¬(decide (a.toNat < 0x40) || decide (0x4F < a.toNat)) = true := by
    simp only [Bool.or_eq_true, decide_eq_true_eq]
    omega
  refine ⟨_, (congrArg done (if_pos answers)).trans (congrArg done (if_neg inside)), fun m => ?_, rfl, ?_⟩
  · refine (mem_foldl_ackAdd (fun b => 16 * (a.toNat - 0x40) + b) m _ _).trans (or_congr_right ?_)
    simp only [List.mem_filter, List.mem_range]
    exact ⟨fun ⟨b, ⟨small, set⟩, at_⟩ => ⟨⟨b, small⟩, set, at_⟩, fun ⟨b, set, at_⟩ => ⟨b, ⟨b.isLt, set⟩, at_⟩⟩
  · exact (Frame.set_acks .refl (by decide)).trans ((State.dlReply_frame _ _ _).mono (fun _ => id) (by simp))

theorem execModbusBadRequest_damaged : Answers (.modbusBadRequest .damaged) s fun t =>
    t.get DL_STAT DL_STAT_ERRS = min (s.get DL_STAT DL_STAT_ERRS + 1) (2 ^ DL_STAT_ERRS.w - 1) ∧ t.aux.dlSaid = true ∧
    t.out = s.out ∧ (s.aux.dlSaid = false → t.raisedCode 0x83 2) ∧ EventFrame [DL_STAT] [.aux] s t := by
  let u := s.bump DL_STAT DL_STAT_ERRS
  have counted : u.get DL_STAT DL_STAT_ERRS = min (s.get DL_STAT DL_STAT_ERRS + 1) (2 ^ DL_STAT_ERRS.w - 1) :=
    State.get_bump _ _ _ (by decide)
  have frame : EventFrame [DL_STAT] [.aux] s u := .bump _ .refl (by decide)
  have e : exec (.modbusBadRequest .damaged) s = done
      (if s.aux.dlSaid then u else { u with aux := { u.aux with dlSaid := true } }.raise 0x83 2) :=
    congrArg done (if_pos answers)
  cases said : s.aux.dlSaid with
  | true =>
    rw [said] at e
    exact ⟨_, e, counted, said, rfl, fun unsaid => absurd unsaid (by decide), frame⟩
  | false =>
    rw [said] at e
    refine ⟨_, e, (State.raise_get _ _ _ _ _ _ _ (by decide) (offEvents_above (by decide))).trans counted, ?_, ?_,
      fun _ => State.raise_raised _ _ _ _ _ (by omega), .raise (.set_aux frame (by decide)) (by decide)⟩
    · exact congrArg AuxSt.dlSaid (State.raise_aux _ _ _ _ _)
    · exact State.raise_out _ _ _ _ _

theorem execModbusBadRequest_otherCode (fc : BitVec 8) :
    exec (.modbusBadRequest (.otherCode fc)) s = done (s.dlException fc.toNat 1) := congrArg done (if_pos answers)
theorem execModbusBadRequest_otherAddr : exec (.modbusBadRequest .otherAddr) s = done s := congrArg done (if_pos answers)

end

end

/-- Settles O46: each request comes to its reply, to an exception, or to a counted error. -/
theorem alarmLink : Obligations.AlarmLink := fun s answers =>
  ⟨⟨rfl, fun _ low high => s.dlReg_gap ⟨low, high⟩, fun _ => s.dlReg_beyond⟩,
    fun _ _ _ => ⟨execModbusReadRegisters_words answers,
      fun count => s.answers_dlException (execModbusReadRegisters_count answers count),
      fun low high missing => s.answers_dlException (execModbusReadRegisters_unlisted answers low high missing)⟩,
    fun _ _ => ⟨execModbusWriteAcknowledge_acknowledges answers,
      fun outside => s.answers_dlException (execModbusWriteAcknowledge_outside answers outside)⟩,
    execModbusBadRequest_damaged answers,
    fun fc => s.answers_dlException (execModbusBadRequest_otherCode answers fc),
    ⟨_, execModbusBadRequest_otherAddr answers, rfl⟩⟩

end Sys2Proof.Machine
end

section
/-! PROOF. The Plate (R351, R356 to R360): the ingest of one record, the end of a flood, the hourly mark, a commanded snapshot
and the rebuild of an empty Plate. -/
namespace Sys2Proof.Machine
open Sys2Proof

section
variable (s : State)

theorem State.updPlate_frame (f : PlateSt → PlateSt) : Frame [] [.plate] s (s.updPlate f) := .set_plate .refl (by decide)

/-- PLATE_STAT.LEVEL and SNAP_BUSY follow the queues; nothing else changes. -/
theorem State.plateLevel_frame : Frame [PLATE_STAT] [] s s.plateLevel :=
  .putB _ _ (.put _ _ .refl (by decide)) (by decide)
theorem State.plateLevel_flood : s.plateLevel.get PLATE_STAT PLATE_STAT_FLOOD = s.get PLATE_STAT PLATE_STAT_FLOOD :=
  (State.get_putB_field _ _ _ _ _ (by decide)).trans (State.get_put_field _ _ _ _ _ (by decide))

/-! ### The ingest (R351) -/

/-- What a record that joins the FIFO does to the Plate (R351, R353). -/
def PlateSt.joined (p : PlateSt) (r : PlateRec) : PlateSt :=
  { p with
    fifo := p.fifo ++ [⟨p.nextId, r, none⟩], nextId := p.nextId + 1,
    newest := if r.type = 1 then p.newest.filter (fun n => n.esn ≠ r.esn) ++
      [⟨r.esn, r.sev, r.key, r.last, r.rep, .fifo p.nextId⟩] else p.newest }

/-- A record of high severity joins the FIFO while it has space. -/
theorem State.accept_high {r : PlateRec} (high : 3 ≤ r.sev) (space : s.fifoHigh + s.fifoLow < 512)
    (first : s.plate.newest.find? (fun n => n.esn == r.esn) = none) : s.accept r = s.updPlate (fun p => p.joined r) := by
  unfold State.accept
  rw [first]
  refine (if_pos high).trans ((if_neg (by omega)).trans ?_)
  unfold State.newTarget PlateSt.joined
  split <;> rfl

theorem State.fifoLow_joined {r : PlateRec} (high : 3 ≤ r.sev) :
    (s.updPlate (fun p => p.joined r)).fifoLow = s.fifoLow := by
  have none : decide (r.sev < 3) = false := decide_eq_false (by omega)
  unfold State.fifoLow State.updPlate PlateSt.joined
  simp [none]

/-- The Plate as an ingest of records raised takes it up. -/
def State.ingestBegun : State :=
  { s with clk := { s.clk with stage := .reserve }, plate := { s.plate with raised := [], quiet := s.plate.quiet + 1 } }

/-- What an ingest does once its records are accepted: the acceptances counted, the mark of a cold start, the judgement of a
flood and the levels. -/
def State.ingestEnded (q : Nat) : State :=
  let u := if s.plate.quiet = 0 then s else s.updPlate (fun p => { p with quiet := q + 1 })
  let v := if u.plate.coldMark && u.flag PLATE_STAT PLATE_STAT_READY then
      (u.updPlate (fun p => { p with coldMark := false })).addMark (u.clockMark 0x93 3 3 0)
    else u
  v.floodJudge.plateLevel

theorem execPlateIngest_eq (due : s.ingestDue = true) : exec .plateIngest s =
    done ((s.ingestBegun.acceptAll (acceptOrder s.plate.raised)).ingestEnded s.plate.quiet) :=
  congrArg done (if_pos due)

/-- An acceptance that suppressed nothing, after the mark of the cold start. -/
theorem State.ingestEnded_calm {q : Nat} (counts : s.plate.quiet = q + 1) (warm : s.plate.coldMark = false) :
    s.ingestEnded q = s.floodJudge.plateLevel := by
  have counted : s.updPlate (fun p => { p with quiet := q + 1 }) = s := by rw [← counts]; rfl
  unfold State.ingestEnded
  rw [counted, ite_self]
  exact congrArg (fun u : State => u.floodJudge.plateLevel) (if_neg (by simp [warm]))

theorem execPlateIngest_high {r : PlateRec} (due : s.ingestDue = true) (raised : s.plate.raised = [r]) (high : 3 ≤ r.sev)
    (space : s.fifoHigh + s.fifoLow < 512) (first : s.plate.newest.find? (fun n => n.esn == r.esn) = none)
    (warm : s.plate.coldMark = false) :
    Answers .plateIngest s fun t => t.plate.raised = [] ∧ t.plate.fifo = s.plate.fifo ++ [⟨s.plate.nextId, r, none⟩] ∧
      t.plate.quiet = s.plate.quiet + 1 ∧
      t.plate.calm = (s.flag PLATE_STAT PLATE_STAT_FLOOD && s.fifoLow == 0 &&
        decide (max 1 (s.get PLATE_CFG PLATE_CFG_QUIET) ≤ s.plate.quiet + 1)) ∧
      t.clk.stage = .reserve ∧ Frame [PLATE_STAT] [.plate, .clk] s t := by
  let u := s.ingestBegun.updPlate (fun p => p.joined r)
  have accepted : s.ingestBegun.acceptAll (acceptOrder s.plate.raised) = u := by
    rw [raised]
    exact s.ingestBegun.accept_high high space first
  have e := execPlateIngest_eq s due
  rw [accepted, State.ingestEnded_calm u (q := s.plate.quiet) rfl warm] at e
  refine ⟨_, e, rfl, rfl, rfl, ?_, rfl, ?_⟩
  · show (u.flag PLATE_STAT PLATE_STAT_FLOOD && u.fifoLow == 0 && _) = _
    rw [show u.fifoLow = s.fifoLow from s.ingestBegun.fifoLow_joined high]
    rfl
  · have begun : Frame [] [.plate, .clk] s s.ingestBegun :=
      .set_plate (t := { s with clk := { s.clk with stage := .reserve } }) (.set_clk .refl (by decide)) (by decide)
    have judged : Frame [] [.plate, .clk] s u.floodJudge := .updPlate (begun.updPlate (by decide)) (by decide)
    exact (judged.mono (by simp) fun _ => id).trans (u.floodJudge.plateLevel_frame.mono (fun _ => id) (by simp))

/-! ### The end of a flood (R356) -/

/-- The SUPPRESSED record of the one ESN that has any, at its place in the order of ESNs. -/
theorem State.emitSupp_one {x : Supp} (supp : s.plate.supp = [x]) (l : List Nat) (once : l.Nodup) :
    s.emitSupp l = if x.esn ∈ l then (s.fifoAdd (s.suppRec x) none).wr (PLATE_SUPP x.esn) 0 else s := by
  have skips (u : State) (same : u.plate.supp = [x]) (m : List Nat) (gone : x.esn ∉ m) : u.emitSupp m = u := by
    induction m with
    | nil => rfl
    | cons n m ih =>
      rw [List.mem_cons, not_or] at gone
      unfold State.emitSupp
      rw [same]
      simp only [List.find?_cons, List.find?_nil, beq_eq_false_iff_ne.mpr gone.1]
      exact ih gone.2
  induction l with
  | nil => rfl
  | cons n l ih =>
    obtain ⟨new, once⟩ := List.nodup_cons.mp once
    by_cases here : x.esn = n
    · subst here
      rw [if_pos List.mem_cons_self]
      unfold State.emitSupp
      rw [supp]
      simp only [List.find?_cons, beq_self_eq_true]
      exact skips ((s.fifoAdd (s.suppRec x) none).wr (PLATE_SUPP x.esn) 0) supp l new
    · have e : s.emitSupp (n :: l) = s.emitSupp l := by
        rw [State.emitSupp, supp]
        simp [here]
      rw [e, ih once]
      simp [here]

theorem execFloodEnd_ends {x : Supp} (run : s.inRun = true) (flood : s.get PLATE_STAT PLATE_STAT_FLOOD = 1)
    (stage : s.clk.stage = .reserve) (calm : s.plate.calm = true) (supp : s.plate.supp = [x]) (esn : x.esn < 256) :
    Answers .floodEnd s fun t => t.get PLATE_STAT PLATE_STAT_FLOOD = 0 ∧ t.plate.supp = [] ∧
      t.plate.fifo = s.plate.fifo ++ [⟨s.plate.nextId, s.suppRec x, none⟩] ∧ t.rd (PLATE_SUPP x.esn) = 0 ∧
      t.raisedCode 0x91 0 ∧ EventFrame [PLATE_STAT, PLATE_SUPP x.esn] [] s t := by
  let u := (s.fifoAdd (s.suppRec x) none).wr (PLATE_SUPP x.esn) 0
  let v := (u.updPlate (fun p => { p with supp := [], calm := false })).putB PLATE_STAT PLATE_STAT_FLOOD false
  let w := v.raise 0x91 0 s.plate.supp.length
  have emitted : s.emitSupp (List.range 256) = u :=
    (s.emitSupp_one supp _ List.nodup_range).trans (if_pos (List.mem_range.mpr esn))
  have e : exec .floodEnd s = done w.plateLevel := by
    refine (congrArg done (if_pos (by simp [run, State.flag, flood, stage, calm]))).trans ?_
    dsimp only
    rw [emitted]
  have hands := v.raise_handsPlate 0x91 0 s.plate.supp.length []
  have supp_ne : PLATE_SUPP x.esn ≠ PLATE_STAT := by unfold PLATE_SUPP PLATE_STAT; omega
  have high : offEvents (PLATE_SUPP x.esn) := offEvents_above (by unfold PLATE_SUPP; omega)
  refine ⟨_, e, ?_, hands.supp, hands.fifo, ?_, ?_, ?_⟩
  · refine w.plateLevel_flood.trans ((State.raise_get _ _ _ _ _ _ _ (by decide) (offEvents_above (by decide))).trans ?_)
    exact State.get_putB _ _ _ _ (by decide) (by decide)
  · refine (w.plateLevel_frame.rd _ (by simpa using supp_ne)).trans ((State.raise_rd _ _ _ _ _ _ (by decide) high).trans ?_)
    exact (State.rd_putB_ne _ _ _ _ _ supp_ne).trans (State.rd_wr_same _ _ _)
  · exact State.raise_raised v _ _ _ _ (by omega)
  · have stored : EventFrame [PLATE_STAT, PLATE_SUPP x.esn] [] s v :=
      .putB _ _ (.updPlate (.wr _ (.updPlate .refl) (by simp))) (by simp)
    exact (stored.raise (by decide)).trans (.of_frame (w.plateLevel_frame.mono (by simp) fun _ => id))

/-! ### Clock marks and snapshots (R357, R359) -/

theorem execClockMarkHourly_marks (run : s.inRun = true) (due : s.opt.hourMark < s.opt.ms / 3600000)
    (space : s.plate.marks.length < 4) : Answers .clockMarkHourly s fun t =>
      t.plate.marks = s.plate.marks ++ [s.clockMark 0x93 0 0 0] ∧ t.opt.hourMark = s.opt.ms / 3600000 ∧
      t.opt.ms = s.opt.ms ∧ Frame [] [.plate, .opt] s t := by
  refine ⟨_, congrArg done (if_pos (by simp [run, due])), ?_, rfl, rfl, .addMark (.set_opt .refl (by decide)) (by decide)⟩
  exact congrArg (· ++ [s.clockMark 0x93 0 0 0]) (if_neg (by omega : ¬ 4 ≤ s.plate.marks.length))

theorem execSnap_eq (run : s.inRun = true) (tag : BitVec 16) (uncalled : s.plate.snapCmd = none) : exec (.snap tag) s =
    done ((s.updPlate (fun p => { p with snapCmd := none, snapSkip := !p.snap.isEmpty })).snapshot 0x15 tag.toNat) := by
  refine (congrArg done (if_pos (by simp [run, uncalled]))).trans ?_
  dsimp only
  rw [uncalled]
  rfl

theorem State.snapshot_frame_idle (esn tag hi : Nat) (idle : s.plate.snap = []) :
    Frame [PLATE_CHAIN, PLATE_STAT] [.plate] s (s.snapshot esn tag hi) := by
  unfold State.snapshot
  rw [if_neg (by simp [idle])]
  exact .putB _ _ (.put _ _ (.updPlate .refl (by decide)) (by decide)) (by decide)

theorem State.snapshot_shows (esn tag hi : Nat) (idle : s.plate.snap = []) : (s.snapshot esn tag hi).plate.snap ≠ [] ∧
    (s.snapshot esn tag hi).plate.snapSkip = s.plate.snapSkip ∧
    (s.snapshot esn tag hi).get PLATE_STAT PLATE_STAT_SNAP_BUSY = 1 ∧
    (s.snapshot esn tag hi).get PLATE_CHAIN PLATE_CHAIN_ID = (s.get PLATE_CHAIN PLATE_CHAIN_ID + 1) % 65536 := by
  unfold State.snapshot
  rw [if_neg (by simp [idle])]
  refine ⟨List.append_ne_nil_of_right_ne_nil _ (List.cons_ne_nil _ _), rfl, State.get_putB _ _ _ _ (by decide) (by decide), ?_⟩
  refine (State.get_putB_ne _ _ _ _ _ _ (by decide)).trans ((State.get_put _ _ _ _ (by decide)).trans ?_)
  exact Nat.mod_mod _ _

theorem execSnap_takes (run : s.inRun = true) (tag : BitVec 16) (uncalled : s.plate.snapCmd = none)
    (idle : s.plate.snap = []) : Answers (.snap tag) s fun t => t.plate.snap ≠ [] ∧
      t.get PLATE_STAT PLATE_STAT_SNAP_BUSY = 1 ∧
      t.get PLATE_CHAIN PLATE_CHAIN_ID = (s.get PLATE_CHAIN PLATE_CHAIN_ID + 1) % 65536 ∧ t.plate.snapSkip = false ∧
      Frame [PLATE_CHAIN, PLATE_STAT] [.plate] s t := by
  let u := s.updPlate (fun p => { p with snapCmd := none, snapSkip := !p.snap.isEmpty })
  obtain ⟨taken, skip, busy, chain⟩ := u.snapshot_shows 0x15 tag.toNat 0 idle
  refine ⟨_, execSnap_eq s run tag uncalled, taken, busy, chain, skip.trans ?_, ?_⟩
  · show (!s.plate.snap.isEmpty) = false
    rw [idle]
    rfl
  · exact ((s.updPlate_frame _).mono (by simp) fun _ => id).trans (u.snapshot_frame_idle _ _ _ idle)

theorem execSnap_skips (run : s.inRun = true) (tag : BitVec 16) (uncalled : s.plate.snapCmd = none)
    (held : s.plate.snap ≠ []) : Answers (.snap tag) s fun t => t.plate.snap = s.plate.snap ∧ t.plate.snapSkip = true ∧
      t.raisedCode 0x15 0x0C ∧ EventFrame [] [] s t := by
  let u := s.updPlate (fun p => { p with snapCmd := none, snapSkip := !p.snap.isEmpty })
  have full : (!s.plate.snap.isEmpty) = true := by simpa using held
  have skipped : u.snapshot 0x15 tag.toNat = u.raise 0x15 0x0C := if_pos full
  obtain ⟨l, hands⟩ := u.raise_handsPlate 0x15 0x0C 0 []
  have e := execSnap_eq s run tag uncalled
  rw [skipped] at e
  have kept : (u.raise 0x15 0x0C).plate.snap = s.plate.snap := by rw [hands]; rfl
  have skip : (u.raise 0x15 0x0C).plate.snapSkip = true := by rw [hands]; exact full
  exact ⟨_, e, kept, skip, State.raise_raised _ _ _ _ _ (by omega), .raise (.updPlate .refl) (by decide)⟩

/-! ### The rebuild of an empty Plate (R360) -/

theorem plateSevcnt_ne {i j : Nat} (h : i ≠ j) : PLATE_SEVCNT i ≠ PLATE_SEVCNT j := by unfold PLATE_SEVCNT; omega

/-- Counts of no slots are zero. -/
theorem State.countSevs_none (l : List Nat) (v : Nat) (h : v ∈ l) :
    (s.countSevs [] l).get (PLATE_SEVCNT v) PLATE_SEVCNT_COUNT = 0 := by
  have keeps (m : List Nat) (u : State) (zero : u.get (PLATE_SEVCNT v) PLATE_SEVCNT_COUNT = 0) :
      (u.countSevs [] m).get (PLATE_SEVCNT v) PLATE_SEVCNT_COUNT = 0 := by
    induction m generalizing u with
    | nil => exact zero
    | cons n m ih =>
      refine ih _ ?_
      by_cases same : v = n
      · subst same
        exact State.get_put _ _ _ _ (by decide)
      · exact (State.get_put_ne _ _ _ _ _ _ (plateSevcnt_ne same)).trans zero
  induction l generalizing s with
  | nil => cases h
  | cons n l ih =>
    by_cases here : v = n
    · subst here
      exact keeps l _ (State.get_put _ _ _ _ (by decide))
    · exact ih _ ((List.mem_cons.mp h).resolve_left here)

theorem State.countSevs_frame (l m : List Nat) : Frame (m.map PLATE_SEVCNT) [] s (s.countSevs l m) := by
  induction m generalizing s with
  | nil => exact .refl
  | cons n m ih =>
    exact Frame.trans (.put _ _ .refl List.mem_cons_self) ((ih _).mono (fun _ => List.mem_cons_of_mem _) fun _ => id)

theorem execPlateRebuildDone_empty (run : s.inRun = true) (unready : s.get PLATE_STAT PLATE_STAT_READY = 0)
    (empty : markedPlate s.mram.cells = []) : Answers (.plateRebuildDone []) s fun t =>
      t.get PLATE_STAT PLATE_STAT_READY = 1 ∧ t.get PLATE_WPTR PLATE_WPTR_SLOT = 0 ∧ t.get PLATE_STAT PLATE_STAT_FULL = 0 ∧
      ∀ v : Fin 5, t.get (PLATE_SEVCNT v) PLATE_SEVCNT_COUNT = 0 := by
  let u := (s.put PLATE_WPTR PLATE_WPTR_SLOT 0).countSevs [] (List.range 5)
  let v := u.putB PLATE_STAT PLATE_STAT_READY true
  have e : exec (.plateRebuildDone []) s = done v.plateFull := by
    refine (congrArg done (if_pos (by simp [run, State.flag, unready]))).trans ?_
    dsimp only [State.eccFlip]
    rw [empty]
    rfl
  have stat (n : Nat) : PLATE_SEVCNT n ≠ PLATE_STAT := by unfold PLATE_SEVCNT PLATE_STAT; omega
  have wptr : PLATE_WPTR ∉ (List.range 5).map PLATE_SEVCNT := by decide
  have zero (n : Fin 5) : v.get (PLATE_SEVCNT n) PLATE_SEVCNT_COUNT = 0 :=
    (State.get_putB_ne _ _ _ _ _ _ (stat n)).trans (State.countSevs_none _ _ n (List.mem_range.mpr n.isLt))
  have unfull : v.plateFull = v.putB PLATE_STAT PLATE_STAT_FULL false := by
    unfold State.plateFull
    have counts : (List.range 5).map (fun n => v.get (PLATE_SEVCNT n) PLATE_SEVCNT_COUNT) = (List.range 5).map fun _ => 0 :=
      List.map_congr_left fun n inside => zero ⟨n, List.mem_range.mp inside⟩
    rw [counts]
    rfl
  rw [unfull] at e
  refine ⟨_, e, ?_, ?_, State.get_putB _ _ _ _ (by decide) (by decide), fun n => ?_⟩
  · exact (State.get_putB_field _ _ _ _ _ (by decide)).trans (State.get_putB _ _ _ _ (by decide) (by decide))
  · refine (State.get_putB_ne _ _ _ _ _ _ (by decide)).trans ((State.get_putB_ne _ _ _ _ _ _ (by decide)).trans ?_)
    exact ((State.countSevs_frame _ _ _).get _ _ wptr).trans (State.get_put _ _ _ _ (by decide))
  · exact (State.get_putB_ne _ _ _ _ _ _ (stat n)).trans (zero n)

end

/-- Settles O15: each event of the Plate comes to what its section above says of it. -/
theorem plateEvents : Obligations.PlateEvents := fun s run =>
  ⟨fun _ due raised high space first warm => execPlateIngest_high s due raised high space first warm,
    fun _ flood stage calm supp esn => execFloodEnd_ends s run flood stage calm supp esn,
    execClockMarkHourly_marks s run, execSnap_takes s run, execSnap_skips s run, execPlateRebuildDone_empty s run⟩

end Sys2Proof.Machine
end

section
/-! PROOF. The NV engine (R340, R341, R343 to R345): one word of a job, and Burin's writes, erases and resumptions. -/
namespace Sys2Proof.Machine
open Sys2Proof

/-! ### The names of a sector (R343) -/

theorem sectorAt_unnamed (l : List (Nat × Nat)) (n : Nat) {a : Nat} (h : a ∉ l.map Prod.fst) : sectorAt l n a = a := by
  have none : l.find? (fun p => p.1 == a) = Option.none := by
    rw [List.find?_eq_none]
    intro p here same
    exact h (List.mem_map.mpr ⟨p, here, beq_iff_eq.mp same⟩)
  cases n with
  | zero => rfl
  | succ n =>
    unfold sectorAt
    rw [none]

section
variable (s : State)

/-- A sector's addresses name the sector that they name. -/
theorem State.mem_namesOf (a : Nat) : a ∈ s.namesOf a := by
  unfold State.namesOf
  refine List.mem_filter.mpr ⟨?_, beq_self_eq_true _⟩
  by_cases named : a ∈ s.mram.remap.map Prod.fst
  · exact List.mem_cons_of_mem _ named
  · rw [show s.physSector a = a from sectorAt_unnamed _ _ named]
    exact List.mem_cons_self

end

/-! ### One word under each of its addresses -/

section
variable (o : Nat) (l : List Byte) (fits : o + l.length ≤ 4096) (names : List Nat)
include fits

/-- Bytes outside the word of every name are as they were. -/
theorem memByte_foldl_outside (m : List Host.Cell) {a : Nat}
    (h : a / 4096 ∉ names ∨ a % 4096 < o ∨ o + l.length ≤ a % 4096) :
    memByte (names.foldl (fun m b => memWrite m (4096 * b + o) l) m) a = memByte m a := by
  induction names generalizing m with
  | nil => rfl
  | cons b names ih =>
    have rest : a / 4096 ∉ names ∨ a % 4096 < o ∨ o + l.length ≤ a % 4096 :=
      h.imp_left fun none => fun here => none (List.mem_cons_of_mem _ here)
    refine (ih _ rest).trans (memByte_memWrite_outside _ _ _ _ ?_)
    obtain other | offset := h
    · have : a / 4096 ≠ b := fun same => other (same ▸ List.mem_cons_self)
      omega
    · omega

/-- Each name shows the bytes written. -/
theorem memByte_foldl_inside (m : List Host.Cell) {b i : Nat} (named : b ∈ names) (h : i < l.length) :
    memByte (names.foldl (fun m b => memWrite m (4096 * b + o) l) m) (4096 * b + o + i) = l[i] := by
  induction names generalizing m with
  | nil => cases named
  | cons c names ih =>
    by_cases later : b ∈ names
    · exact ih _ later
    · obtain rfl : b = c := (List.mem_cons.mp named).resolve_right later
      refine (memByte_foldl_outside o l fits names _ (.inl ?_)).trans (memByte_memWrite_inside _ _ _ _ h)
      rwa [show (4096 * b + o + i) / 4096 = b by omega]

end

theorem memRead_eq_of_bytes (m : List Host.Cell) (l : List Byte) (a : Nat)
    (h : ∀ i, (inside : i < l.length) → memByte m (a + i) = l[i]) : memRead m a l.length = l := by
  induction l generalizing a with
  | nil => rfl
  | cons b r ih =>
    have first : memByte m a = b := h 0 (Nat.zero_lt_succ _)
    have rest : memRead m (a + 1) r.length = r := ih (a + 1) fun i inside => by
      have := h (i + 1) (Nat.succ_lt_succ inside)
      rwa [show a + 1 + i = a + (i + 1) by omega]
    show memByte m a :: memRead m (a + 1) r.length = b :: r
    rw [first, rest]

section
variable (s : State)

/-- R343: a word of MRAM reads as it was written, and every byte outside it under its names is as it was. -/
theorem State.mramWrite_word {off : Nat} (aligned : off % 8 = 0) (v : BitVec 64) :
    memRead (s.mramWrite off (wordBytes v)).mram.cells off 8 = bytesLE 8 v.toNat ∧
    ∀ a, a / 4096 ∉ s.namesOf (off / 4096) ∨ a % 4096 < off % 4096 ∨ off % 4096 + 8 ≤ a % 4096 →
      memByte (s.mramWrite off (wordBytes v)).mram.cells a = memByte s.mram.cells a := by
  have length : (wordBytes v).length = 8 := length_bytesLE 8 _
  have fits : off % 4096 + (wordBytes v).length ≤ 4096 := by omega
  refine ⟨?_, fun a outside => ?_⟩
  · have read := memRead_eq_of_bytes (s.mramWrite off (wordBytes v)).mram.cells (wordBytes v) off fun i inside => by
      have byte := memByte_foldl_inside (off % 4096) (wordBytes v) fits (s.namesOf (off / 4096)) s.mram.cells
        (s.mem_namesOf _) inside
      rwa [show 4096 * (off / 4096) + off % 4096 + i = off + i by omega] at byte
    rwa [length] at read
  · rw [← length] at outside
    exact memByte_foldl_outside (off % 4096) (wordBytes v) fits (s.namesOf (off / 4096)) s.mram.cells outside

theorem execNvWordWrite_word (run : s.inRun = true) {off : Nat} {v : BitVec 64} {r : List NvJob} {fails : Fin 4}
    (free : s.nvBlocked = false) (room : s.nv.used < 125) (job : s.nv.q1 = ⟨.words, [(off, v)], 1, 1⟩ :: r)
    (few : fails.val < 3) (aligned : off % 8 = 0) (sound : s.physSector (off / 4096) ∉ s.mram.failed) :
    Answers (.nvWordWrite fails) s fun t => t.nv.q1 = r ∧ memRead t.mram.cells off 8 = bytesLE 8 v.toNat ∧
      (∀ a, a / 4096 ∉ s.namesOf (off / 4096) ∨ a % 4096 < off % 4096 ∨ off % 4096 + 8 ≤ a % 4096 →
        memByte t.mram.cells a = memByte s.mram.cells a) ∧
      t.nv.used = s.nv.used + (fails.val + 1) ∧ Frame [] [.nv, .mram] s t := by
  let u := s.updNv (fun n => { n with q1 := r })
  have due : s.nvDue = true := by
    unfold State.nvDue
    rw [job]
    rfl
  have written : u.nvWord off v fails = u.mramWrite off (wordBytes v) :=
    (if_neg (fun listed => sound (List.contains_iff_mem.mp listed))).trans (if_pos few)
  have e : exec (.nvWordWrite fails) s = done ((u.mramWrite off (wordBytes v)).updNv
      (fun n => { n with used := n.used + wordTimes fails })) := by
    refine (congrArg done (if_pos (by simp [run, free, room, due]))).trans ?_
    dsimp only
    rw [job, ← written]
    rfl
  obtain ⟨read, kept⟩ := u.mramWrite_word aligned v
  have times : wordTimes fails = fails.val + 1 := Nat.min_eq_right (by omega)
  refine ⟨_, e, rfl, read, kept, ?_, .updNv (.mramWrite (.updNv .refl (by decide)) (by decide)) (by decide)⟩
  rw [← times]
  rfl

/-! ### Burin's commands (R344, R345) -/

/-- A register that Burin alone may write takes Burin's own write (R443). -/
theorem State.busWrite_burin {a blk : Nat} {v : Word} {d : RegDef} {ix : List Nat} (hb : blockOf a = some blk)
    (hr : regAt a = some (d, ix)) (g : d.guard = .burin) (own : s.actSrc = 0) :
    (s.busWrite a v).1 = (s.keyCancel blk a).regWrite blk a d ix v := by
  have act : (s.keyCancel blk a).actSrc = 0 := (s.keyCancel_actSrc _ _).trans own
  simp [State.busWrite, hb, hr, g, act]

theorem State.busWrite_NV_CMD (own : s.actSrc = 0) (c : Fin 4) :
    (s.busWrite NV_CMD (BitVec.ofNat 32 c)).1 = s.nvCmd c := by
  have command : getF (BitVec.ofNat 32 c) NV_CMD_CMD = c := by revert c; decide
  rw [s.busWrite_burin (blk := 13) (d := regDefNV_CMD) (ix := []) (by decide) (by decide) rfl own,
    s.keyCancel_of_ne _ _ (by decide)]
  have taken (v w : Word) : s.writePlate NV_CMD v w = s.nvCmd (getF v NV_CMD_CMD) :=
    (if_neg (by decide)).trans ((if_neg (by decide)).trans (if_pos rfl))
  exact (State.lock_of_open _ _ _ (by decide)).trans ((taken _ _).trans (congrArg s.nvCmd command))

section
variable {s} (reaches : s.burinReaches = true) (own : s.actSrc = 0)
include reaches own

theorem execNvWrite_eq : exec .nvWrite s = done s.burinWrite :=
  congrArg done ((if_pos reaches).trans (s.busWrite_NV_CMD own 1))
theorem execErase_eq : exec .erase s = done s.burinErase :=
  congrArg done ((if_pos reaches).trans (s.busWrite_NV_CMD own 2))
theorem execResume_eq : exec .resume s = done s.burinResume :=
  congrArg done ((if_pos reaches).trans (s.busWrite_NV_CMD own 3))

end

/-- A command of Burin that the engine refuses. -/
theorem State.answers_nvRefused {c : Instr} (e : exec c s = done (s.putB NV_STAT NV_STAT_REFUSED true)) :
    Answers c s fun t => t.get NV_STAT NV_STAT_REFUSED = 1 ∧ Frame [NV_STAT] [] s t :=
  ⟨_, e, State.get_putB _ _ _ _ (by decide) (by decide), .putB _ _ .refl (by decide)⟩

/-- BUSY shows a write of Burin that waits, or an erase. -/
theorem State.nvBusy_shows (h : (s.nv.q4.any (fun j => j.what == .words) || s.flag NV_JRNL_STAT NV_JRNL_STAT_ACTIVE) = true) :
    s.nvBusy.get NV_STAT NV_STAT_BUSY = 1 := by
  unfold State.nvBusy
  rw [h]
  exact State.get_putB _ _ _ _ (by decide) (by decide)
theorem State.nvBusy_frame : Frame [NV_STAT] [] s s.nvBusy := .putB _ _ .refl (by decide)

section
variable {s} (reaches : s.burinReaches = true) (own : s.actSrc = 0)
include reaches own

theorem execNvWrite_queues (free : s.nvForbidden (8 * s.get NV_ADDR NV_ADDR_WORD) = false) :
    Answers .nvWrite s fun t => t.get NV_STAT NV_STAT_BUSY = 1 ∧
      t.nv.q4 = s.nv.q4 ++ [⟨.words, [(8 * s.get NV_ADDR NV_ADDR_WORD,
        BitVec.ofNat 64 ((s.rd NV_DATA_LO).toNat + 2 ^ 32 * (s.rd NV_DATA_HI).toNat))], 1, 1⟩] ∧
      Frame [NV_STAT] [.nv] s t := by
  have e := execNvWrite_eq reaches own
  rw [show s.burinWrite = _ from if_neg (by simp [free])] at e
  exact ⟨_, e, State.nvBusy_shows _ (by simp [State.nvQueue4]), rfl,
    .putB _ _ (.nvQueue4 .refl (by decide)) (by decide)⟩

theorem execErase_starts (free : s.eraseForbidden = false) (some : s.get NV_JRNL_LEN NV_JRNL_LEN_LEN ≠ 0) :
    Answers .erase s fun t => t.get NV_JRNL_STAT NV_JRNL_STAT_ACTIVE = 1 ∧ t.get NV_JRNL_DONE NV_JRNL_DONE_DONE = 0 ∧
      t.nv.eraseWord = 0 ∧ t.get NV_STAT NV_STAT_BUSY = 1 ∧ Frame [NV_JRNL_DONE, NV_JRNL_STAT, NV_STAT] [.nv] s t := by
  let u := ((s.updNv (fun n => { n with eraseWord := 0 })).put NV_JRNL_DONE NV_JRNL_DONE_DONE 0).put NV_JRNL_STAT
    NV_JRNL_STAT_INTERRUPTED 0
  let v := u.putB NV_JRNL_STAT NV_JRNL_STAT_ACTIVE true
  have begun : Frame [NV_JRNL_DONE, NV_JRNL_STAT, NV_STAT] [.nv] s u :=
    .put _ _ (.put _ _ (.updNv .refl (by decide)) (by decide)) (by decide)
  have length : (u.get NV_JRNL_LEN NV_JRNL_LEN_LEN != 0) = true := by
    rw [begun.get _ _ (by decide)]
    exact bne_iff_ne.mpr some
  have e := execErase_eq reaches own
  rw [show s.burinErase = v.nvBusy by
    refine (if_neg (by simp [free])).trans ?_
    show (u.putB NV_JRNL_STAT NV_JRNL_STAT_ACTIVE (u.get NV_JRNL_LEN NV_JRNL_LEN_LEN != 0)).nvBusy = _
    rw [length]] at e
  have active : v.get NV_JRNL_STAT NV_JRNL_STAT_ACTIVE = 1 := State.get_putB _ _ _ _ (by decide) (by decide)
  refine ⟨_, e, (v.nvBusy_frame.get _ _ (by decide)).trans active, ?_, rfl, v.nvBusy_shows (by simp [State.flag, active]),
    .putB _ _ (.putB _ _ begun (by decide)) (by decide)⟩
  refine (v.nvBusy_frame.get _ _ (by decide)).trans ((State.get_putB_ne _ _ _ _ _ _ (by decide)).trans ?_)
  exact (State.get_put_ne _ _ _ _ _ _ (by decide)).trans (State.get_put _ _ _ _ (by decide))

theorem execResume_refuses (cut : s.get NV_JRNL_STAT NV_JRNL_STAT_INTERRUPTED = 1) (barred : s.eraseForbidden = true) :
    exec .resume s = done (s.putB NV_STAT NV_STAT_REFUSED true) :=
  (execResume_eq reaches own).trans (congrArg done ((if_neg (by simp [State.flag, cut])).trans (if_pos barred)))

theorem execResume_resumes (cut : s.get NV_JRNL_STAT NV_JRNL_STAT_INTERRUPTED = 1) (free : s.eraseForbidden = false) :
    Answers .resume s fun t => t.get NV_JRNL_STAT NV_JRNL_STAT_INTERRUPTED = 0 ∧
      t.get NV_JRNL_STAT NV_JRNL_STAT_ACTIVE = 1 ∧
      t.get NV_JRNL_DONE NV_JRNL_DONE_DONE = s.get NV_JRNL_DONE NV_JRNL_DONE_DONE ∧ t.raisedCode 0x1E 0 ∧
      EventFrame [NV_JRNL_STAT, NV_STAT] [.nv] s t := by
  let u := (((s.updNv (fun n => { n with eraseWord := 0 })).putB NV_JRNL_STAT NV_JRNL_STAT_INTERRUPTED false).putB
    NV_JRNL_STAT NV_JRNL_STAT_ACTIVE true)
  have e := (execResume_eq reaches own).trans (congrArg done ((if_neg (by simp [State.flag, cut])).trans
    (if_neg (by simp [free]))))
  have begun : EventFrame [NV_JRNL_STAT, NV_STAT] [.nv] s u :=
    .putB _ _ (.putB _ _ (.updNv .refl (by decide)) (by decide)) (by decide)
  have kept (a : Nat) (f : Fld) (off : a ≠ NV_STAT) (high : offEvents a) :
      (u.raise 0x1E 0).nvBusy.get a f = u.get a f :=
    ((State.nvBusy_frame _).get _ _ (by simpa using off)).trans (State.raise_get _ _ _ _ _ _ _ (by decide) high)
  refine ⟨_, e, (kept _ _ (by decide) (offEvents_above (by decide))).trans ?_,
    (kept _ _ (by decide) (offEvents_above (by decide))).trans (State.get_putB _ _ _ _ (by decide) (by decide)),
    (kept _ _ (by decide) (offEvents_above (by decide))).trans ?_, State.raise_raised u _ _ _ _ (by omega),
    .putB _ _ (begun.raise (by decide)) (by decide)⟩
  · exact (State.get_putB_field _ _ _ _ _ (by decide)).trans (State.get_putB _ _ _ _ (by decide) (by decide))
  · exact (State.get_putB_ne _ _ _ _ _ _ (by decide)).trans (State.get_putB_ne _ _ _ _ _ _ (by decide))

end

end

/-- Settles O37: a word is written under each name of its sector, and Burin's commands come to `State.burinWrite`,
`State.burinErase` and `State.burinResume`. -/
theorem nvEngine : Obligations.NvEngine := fun s run => by
  refine ⟨fun off v r fails free room job few aligned sound => execNvWordWrite_word s run free room job few aligned sound,
    fun reaches own => ⟨fun barred => ?_, execNvWrite_queues reaches own, fun barred => ?_, execErase_starts reaches own,
      fun cut barred => s.answers_nvRefused (execResume_refuses reaches own cut barred), execResume_resumes reaches own⟩⟩
  · exact s.answers_nvRefused ((execNvWrite_eq reaches own).trans (congrArg done (if_pos barred)))
  · exact s.answers_nvRefused ((execErase_eq reaches own).trans (congrArg done (if_pos barred)))

end Sys2Proof.Machine
end

section
/-! PROOF. The backup domain (R366, R368 to R370, R372, R373, R375, R376). -/
namespace Sys2Proof.Machine
open Sys2Proof

section
variable (s : State)

/-! ### Setting and loading the calendar (R370) -/

/-- The seconds of RTC_SET_LO and RTC_SET_HI. -/
def State.setWhole : Nat := (s.rd RTC_SET_LO).toNat + 2 ^ 32 * s.get RTC_SET_HI RTC_SET_HI_SEC

theorem execSet_crosses (run : s.inRun = true) (inRange : s.setWhole ≤ 6311433599) : Answers .set s fun t =>
    t.opt.setCross = some (256 * s.setWhole + s.get RTC_SET_HI RTC_SET_HI_SUB) ∧ t.bak = s.bak ∧ Frame [] [.opt] s t := by
  have e : exec .set s = done s.rtcSet := congrArg done (if_pos run)
  rw [show s.rtcSet = _ from if_neg (Nat.not_lt.mpr inRange)] at e
  exact ⟨_, e, rfl, rfl, .updOpt .refl (by decide)⟩

theorem execSet_ignores (run : s.inRun = true) (beyond : 6311433599 < s.setWhole) : Answers .set s fun t =>
    t.get RTC_STAT RTC_STAT_SET_IGN = 1 ∧ Frame [RTC_STAT] [] s t := by
  have e : exec .set s = done s.rtcSet := congrArg done (if_pos run)
  rw [show s.rtcSet = _ from if_pos beyond] at e
  exact ⟨_, e, State.get_putB _ _ _ _ (by decide) (by decide), .putB _ _ .refl (by decide)⟩

/-- An event of the calendar is raised and marked; registers outside the collector stay (R357, R370). -/
theorem State.calEvent_shows (code before : Nat) : (s.calEvent code before).raisedCode 0x94 code ∧
    EventFrame [] [] s (s.calEvent code before) :=
  ⟨State.raise_raised s _ _ _ _ (by omega), .addMark (.raise .refl (by decide))⟩

theorem execCalendarLoad_loads (run : s.inRun = true) {v : Nat} (cross : s.opt.setCross = some v) (due : s.opt.setDue = true)
    (own : s.get RTC_STAT RTC_STAT_SUBST = 0) : Answers .calendarLoad s fun t => t.bak.cal = v ∧ t.opt.setCross = none ∧
      t.opt.setDue = false ∧ t.get RTC_STAT RTC_STAT_VALID = 1 ∧ t.raisedCode 0x94 1 ∧
      EventFrame [RTC_STAT] [.bak, .opt] s t := by
  let u := (s.updBak (fun b => { b with cal := v })).updOpt (fun o => { o with setCross := none, setDue := false })
  let w := u.putB RTC_STAT RTC_STAT_VALID true
  have e : exec .calendarLoad s = done (w.calEvent 1 s.calendar) := by
    refine (congrArg done (if_pos (by simp [run, cross, due, State.flag, own]))).trans ?_
    dsimp only
    rw [cross]
    rfl
  obtain ⟨raised, event⟩ := w.calEvent_shows 1 s.calendar
  have bak : (w.calEvent 1 s.calendar).bak = u.bak := event.same .bak (by decide) (by decide)
  have opt : (w.calEvent 1 s.calendar).opt = u.opt := event.same .opt (by decide) (by decide)
  have loaded : EventFrame [RTC_STAT] [.bak, .opt] s w :=
    .putB _ _ (.updOpt (.updBak .refl (by decide)) (by decide)) (by decide)
  refine ⟨_, e, ?_, ?_, ?_, ?_, raised, loaded.trans (event.mono (by simp) (by simp))⟩
  · rw [bak]; rfl
  · rw [opt]; rfl
  · rw [opt]; rfl
  · unfold State.get
    rw [event.rd _ (by simp) (offEvents_above (by decide))]
    exact State.get_putB _ _ _ _ (by decide) (by decide)

/-! ### The trim (R370) -/

theorem RTC_TRIM_named : blockOf RTC_TRIM = some 14 ∧ regAt RTC_TRIM = some (regDefRTC_TRIM, []) := by decide

theorem State.regWrite_RTC_TRIM (v : Word) :
    s.regWrite 14 RTC_TRIM regDefRTC_TRIM [] v = s.trimWrite (getF v RTC_TRIM_TRIM) := by
  have taken (v w : Word) : s.writeRtc RTC_TRIM v w = s.trimWrite (getF v RTC_TRIM_TRIM) :=
    (if_neg (by decide)).trans (if_pos rfl)
  exact (State.lock_of_open _ _ _ (by decide)).trans (taken _ _)

theorem execRtcTrimWrite_trims (v : BitVec 8) (unlocked : s.Unlocked 14) : Answers (.rtcTrimWrite v) s fun t =>
    t.get RTC_TRIM RTC_TRIM_TRIM = v.toNat ∧ t.raisedCode 0x94 2 ∧
      EventFrame [RTC_TRIM, SYS_UNL_STAT, mrCnt 2] [.sys, .mr] s t := by
  obtain ⟨reaches, passed⟩ := unlocked
  let u := s.measured 14 RTC_TRIM (BitVec.ofNat 32 v.toNat)
  let w := u.put RTC_TRIM RTC_TRIM_TRIM v.toNat
  have field : getF (BitVec.ofNat 32 v.toNat) RTC_TRIM_TRIM = v.toNat := by
    have small := v.isLt
    unfold getF RTC_TRIM_TRIM
    rw [BitVec.toNat_ushiftRight, Nat.shiftRight_zero, BitVec.toNat_ofNat]
    show v.toNat % 2 ^ 32 % 2 ^ 8 = v.toNat
    omega
  have e := s.exec_protMade (c := .rtcTrimWrite v) (congrArg done (if_pos reaches)) RTC_TRIM_named.1 RTC_TRIM_named.2 rfl
    (by decide) passed
  rw [State.regWrite_RTC_TRIM, field] at e
  obtain ⟨raised, event⟩ := w.calEvent_shows 2 u.calendar
  refine ⟨_, e, ?_, raised, ?_⟩
  · refine (show (w.calEvent 2 u.calendar).get RTC_TRIM RTC_TRIM_TRIM = w.get RTC_TRIM RTC_TRIM_TRIM by
      unfold State.get
      rw [event.rd _ (by simp) (offEvents_above (by decide))]).trans ?_
    exact (State.get_put _ _ _ _ (by decide)).trans (Nat.mod_eq_of_lt v.isLt)
  · have measured := s.measured_frame 14 (a := RTC_TRIM) (BitVec.ofNat 32 v.toNat) (by decide)
    have stored : EventFrame [RTC_TRIM, SYS_UNL_STAT, mrCnt 2] [.sys, .mr] s w :=
      .put _ _ (measured.mono (fun _ => List.mem_cons_of_mem _) fun _ => id) List.mem_cons_self
    exact stored.trans (event.mono (by simp) (by simp))

/-! ### The stamp of the switch-over (R372) -/

/-- The registers of the stamp. -/
def swoRegs : List Nat := [RTC_SWO_CNT, RTC_SWO_CAL_LO, RTC_SWO_CAL_HI, RTC_SWO_OPT_LO, RTC_SWO_OPT_HI, RTC_STAT]

theorem State.clearSwo_frame : Frame swoRegs [.opt] s s.clearSwo := by
  unfold State.clearSwo
  exact .updOpt (.putB _ _ (.wr _ (.wr _ (.wr _ (.wr _ (.wr _ .refl (by decide)) (by decide)) (by decide)) (by decide))
    (by decide)) (by decide)) (by decide)

/-- A register of the stamp as the clear leaves it. -/
theorem State.clearSwo_zero {a : Nat} (h : a ∈ [RTC_SWO_CNT, RTC_SWO_CAL_LO, RTC_SWO_CAL_HI, RTC_SWO_OPT_LO, RTC_SWO_OPT_HI]) :
    s.clearSwo.rd a = 0 := by
  have stat : a ≠ RTC_STAT := by
    revert a
    decide
  refine (State.rd_putB_ne _ _ _ _ _ stat).trans ?_
  simp only [State.rd_wr]
  split
  · rfl
  split
  · rfl
  split
  · rfl
  split
  · rfl
  split
  · rfl
  simp_all

theorem State.clearSwo_stamped : s.clearSwo.get RTC_STAT RTC_STAT_SWO_STAMPED = 0 :=
  State.get_putB _ _ _ _ (by decide) (by decide)

theorem execClearSwo_clears (run : s.inRun = true) : Answers .clearSwo s fun t => t.rd RTC_SWO_CNT = 0 ∧
    t.rd RTC_SWO_CAL_LO = 0 ∧ t.rd RTC_SWO_CAL_HI = 0 ∧ t.rd RTC_SWO_OPT_LO = 0 ∧ t.rd RTC_SWO_OPT_HI = 0 ∧
    t.get RTC_STAT RTC_STAT_SWO_STAMPED = 0 ∧ t.opt.swoCross = false ∧ Frame swoRegs [.opt] s t :=
  ⟨_, congrArg done (if_pos run), s.clearSwo_zero (by decide), s.clearSwo_zero (by decide), s.clearSwo_zero (by decide),
    s.clearSwo_zero (by decide), s.clearSwo_zero (by decide), s.clearSwo_stamped, rfl, s.clearSwo_frame⟩

/-! ### Crystal cycles (R365, R368, R371) -/

theorem State.calSteps_frame (n : Nat) : Frame [RTC_STAT] [.bak] s (s.calSteps n) := by
  have counted : Frame [RTC_STAT] [.bak] s (s.updBak (fun b => { b with cal := (s.bak.cal + n) % calLimit })) :=
    .updBak .refl (by decide)
  unfold State.calSteps
  exact .ite (.putB _ _ counted (by decide)) counted
theorem State.wakeSteps_frame (n : Nat) : Frame [] [.bak] s (s.wakeSteps n) := by
  unfold State.wakeSteps
  exact .updBak .refl (by decide)

theorem State.bakCycles_frame (n : Nat) : Frame [RTC_STAT] [.bak] s (s.bakCycles n) := by
  have counted : Frame [RTC_STAT] [.bak] s (s.updBak (fun b => { b with cycles := (s.bak.cycles + n) % 128 })) :=
    .updBak .refl (by decide)
  exact (counted.trans (State.calSteps_frame _ _)).trans ((State.wakeSteps_frame _ _).mono (by simp) fun _ => id)

theorem State.optAdd_frame (n : Nat) : Frame [RTC_OPT_LO, RTC_OPT_HI] [.opt, .bak] s (s.optAdd n) := by
  unfold State.optAdd State.optShow
  exact .updBak (.put _ _ (.wr _ (.updOpt .refl (by decide)) (by decide)) (by decide)) (by decide)

/-- R372: a clear that crosses arrives with the crystal's cycles. -/
theorem State.xtalCycles_clears {n : Nat} (live : Bool) (cross : s.opt.swoCross = true) (some : n ≠ 0) :
    (s.xtalCycles n live).rd RTC_SWO_CNT = 0 ∧ (s.xtalCycles n live).get RTC_STAT RTC_STAT_SWO_STAMPED = 0 ∧
      (s.xtalCycles n live).opt.swoCross = false := by
  let t := trimmed s.trim s.bak.trimAcc n
  let u := (s.updBak (fun b => { b with trimAcc := t.2 })).bakCycles t.1
  let w := u.updOpt (fun o =>
    { o with setDue := o.setDue || (o.setCross.isSome && decide (128 ≤ s.bak.cycles + t.1)) })
  have waits : u.opt.swoCross = true := by
    have kept : u.opt = s.opt := (State.bakCycles_frame _ _).same .opt (by decide)
    rw [kept]
    exact cross
  have arrives : u.crossed n (decide (128 ≤ s.bak.cycles + t.1)) = w.clearSwo := by
    have due : (w.opt.swoCross && n != 0) = true := by
      rw [show w.opt.swoCross = u.opt.swoCross from rfl, waits]
      simpa using some
    exact if_pos due
  have e : s.xtalCycles n live = if live then
      (w.clearSwo.updOpt (fun o => { o with acc := (w.clearSwo.opt.acc + 1000 * t.1) % 32768 })).optAdd
        ((w.clearSwo.opt.acc + 1000 * t.1) / 32768)
      else w.clearSwo := by
    rw [← arrives]
    rfl
  rw [e]
  cases live with
  | false => exact ⟨w.clearSwo_zero (by decide), w.clearSwo_stamped, rfl⟩
  | true =>
    have later := (w.clearSwo.updOpt (fun o => { o with acc := (w.clearSwo.opt.acc + 1000 * t.1) % 32768 })).optAdd_frame
      ((w.clearSwo.opt.acc + 1000 * t.1) / 32768)
    exact ⟨(later.rd _ (by decide)).trans (w.clearSwo_zero (by decide)),
      (later.get _ _ (by decide)).trans w.clearSwo_stamped, rfl⟩

/-! ### The crystal, the wrap and VBAK (R366, R368, R373) -/

theorem execCrystalStop_stops (powered : s.power ≠ .unpowered) : Answers .crystalStop s fun t =>
    t.get RTC_STAT RTC_STAT_XSTOP = 1 ∧ t.get RTC_STAT RTC_STAT_VALID = 0 ∧ t.bak.crystal = false ∧
    Frame [RTC_STAT] [.bak] s t :=
  ⟨_, congrArg done (if_pos (by simpa using powered)),
    (State.get_putB_field _ _ _ _ _ (by decide)).trans (State.get_putB _ _ _ _ (by decide) (by decide)),
    State.get_putB _ _ _ _ (by decide) (by decide), rfl, .updBak (.putB _ _ (.putB _ _ .refl (by decide)) (by decide)) (by decide)⟩

theorem execCalendarWrap_wraps (powered : s.power ≠ .unpowered) (last : s.bak.cal = 256 * 6311433600 - 1) :
    Answers .calendarWrap s fun t => t.bak.cal = 0 ∧ t.get RTC_STAT RTC_STAT_VALID = 0 ∧ Frame [RTC_STAT] [.bak] s t := by
  let u := s.updBak (fun b => { b with cycles := 0 })
  have count : s.bak.cal + 1 = calLimit := by rw [last]; rfl
  have wraps : u.calSteps 1 = (u.updBak (fun b => { b with cal := (s.bak.cal + 1) % calLimit })).putB RTC_STAT
      RTC_STAT_VALID false := if_pos (Nat.le_of_eq count.symm)
  have at_ : (s.power != .unpowered && s.bak.cal == calLimit - 1) = true := by
    rw [Bool.and_eq_true, beq_iff_eq, bne_iff_ne]
    exact ⟨powered, last⟩
  have e : exec .calendarWrap s = done ((u.calSteps 1).wakeSteps 1) := congrArg done (if_pos at_)
  have steps := u.calSteps_frame 1
  rw [wraps] at e steps
  refine ⟨_, e, ?_, State.get_putB _ _ _ _ (by decide) (by decide), ?_⟩
  · show (s.bak.cal + 1) % calLimit = 0
    rw [count, Nat.mod_self]
  · have begun : Frame [RTC_STAT] [.bak] s u := .updBak .refl (by decide)
    exact (begun.trans steps).trans ((State.wakeSteps_frame _ 1).mono (by simp) fun _ => id)

/-- VBAK is said where the part is. -/
theorem execVbakLow_eq {v : BitVec 12} (low : v.toNat < 2000) (powered : s.power ≠ .unpowered) : exec (.vbakLow v) s =
    done (match s.power with
      | .run => s.raise 0x96 1
      | .standby => s.raiseLater 0x96 1 0
      | _ => (s.putB RTC_STAT RTC_STAT_BAK_LOW true).updBak (fun b => { b with lowMark := true })) := by
  refine (congrArg done (if_pos (by simp [low, powered]))).trans ?_
  rfl

theorem execCounterRecordHourly_queues (run : s.inRun = true) (due : s.opt.hourRec < s.opt.ms / 3600000) :
    Answers .counterRecordHourly s fun t => t.opt.hourRec = s.opt.ms / 3600000 ∧
      t.nv.q1 = s.nv.q1 ++ [counterJob s.opt.ms (s.rd PWR_CYCLES).toNat] ∧ Frame [] [.opt, .nv] s t :=
  ⟨_, congrArg done (if_pos (by simp [run, due])), rfl, rfl, .nvQueue1 (.updOpt .refl (by decide)) (by decide)⟩

end

/-- Settles O38: the commands of the clock come to what its sections above say of each. -/
theorem backupDomain : Obligations.BackupDomain := fun s => by
  have latched (f : OptSt → OptSt) : Frame [] [.opt, .out] s (s.updOpt f) := .updOpt .refl (by decide)
  refine ⟨execSet_crosses s, execSet_ignores s, fun v run cross due own => execCalendarLoad_loads s run cross due own,
    execRtcTrimWrite_trims s, execClearSwo_clears s, fun n live cross some => s.xtalCycles_clears live cross some,
    fun run => ⟨_, congrArg done (if_pos run), rfl, rfl, rfl, (latched _).set_out (by decide)⟩,
    fun run => ⟨_, congrArg done (if_pos run), rfl, rfl, rfl, (latched _).set_out (by decide)⟩,
    execCrystalStop_stops s, execCalendarWrap_wraps s, fun v low power => ?_, fun v low power => ?_, fun v low power => ?_,
    execCounterRecordHourly_queues s⟩
  · have e := execVbakLow_eq s low (by rw [power]; decide)
    rw [power] at e
    exact ⟨_, e, State.raise_raised s _ _ _ _ (by omega), .raise .refl (by decide)⟩
  · have e := execVbakLow_eq s low (by rw [power]; decide)
    rw [power] at e
    exact ⟨_, e, rfl, .updOpt .refl (by decide)⟩
  · have e := execVbakLow_eq s low (by rw [power]; decide)
    rw [power] at e
    exact ⟨_, e, State.get_putB _ _ _ _ (by decide) (by decide), rfl, .updBak (.putB _ _ .refl (by decide)) (by decide)⟩

end Sys2Proof.Machine
end

section
/-! PROOF. The mailboxes (R382, R385, R386, R391, R392, R396 to R399). -/
namespace Sys2Proof.Machine
open Sys2Proof

theorem tagOf_val (k : Fin 96) : tagOf k.val = some k := dif_pos k.isLt

section
variable (s : State) (p : Port)

theorem State.updPort_frame (f : PortSt → PortSt) : Frame [PORT_STAT p, NOTE_STAT p] [.ports] s (s.updPort p f) :=
  .updPort .refl (by decide) (by simp) (by simp)

/-- A change of a port shows its levels in PORT_STAT; the register's other fields stay. -/
theorem State.updPort_get (f : PortSt → PortSt) (g : Fld) (high : 15 ≤ g.lo) :
    (s.updPort p f).get (PORT_STAT p) g = s.get (PORT_STAT p) g := by
  have other : PORT_STAT p ≠ NOTE_STAT p := by unfold PORT_STAT NOTE_STAT; omega
  refine (State.get_put_ne _ _ _ _ _ _ other).trans ((State.get_put_field _ _ _ _ _ (.inl ?_)).trans
    (State.get_put_field _ _ _ _ _ (.inl ?_)))
  · exact high
  · exact Nat.le_trans (by decide : 0 + 7 ≤ 15) high

/-! ### Deadlines (R392) and responses of Burin (R391) -/

theorem execDeadlineExpiry_answers {k : Fin 96} (run : s.inRun = true) (layers : s.layers = true)
    (queued : s.tags[k].st = .queued) (due : s.tags[k].due ≤ s.clk.frames) (port : s.tags[k].port = p) :
    Answers (.deadlineExpiry k) s fun t => t.Answered k p s.tags[k].cls 0xE2 [] ∧ t.raisedCode (portEsn p) 1 ∧
      EventFrame (answerRegs p k) [.ports, .tags] s t := by
  have e : exec (.deadlineExpiry k) s = done ((s.answer k 0xE2 []).raise (portEsn s.tags[k].port) 1 k) := by
    refine congrArg done (if_pos ?_)
    rw [run, layers, queued, decide_eq_true due]
    rfl
  have answered := s.answer_answered k 0xE2 []
  have frame := s.answer_frame k 0xE2 []
  rw [port] at e answered frame
  have esn : portEsn p < 0xA0 := by cases p <;> decide
  have raised : EventFrame [] [] (s.answer k 0xE2 []) ((s.answer k 0xE2 []).raise (portEsn p) 1 k) :=
    .raise .refl (by omega)
  exact ⟨_, e, answered.of_eventFrame raised (by decide) (by decide) (fun _ => by simp),
    State.raise_raised _ _ _ _ _ (by omega), (EventFrame.of_frame frame).trans (raised.mono (by simp) (by simp))⟩

section
variable {s p} {k : Fin 96} {w : Word} (reaches : s.burinReaches = true) (layers : s.layers = true)
  (idle : (s.port p).tx = []) (tag : headTag w = k.val) (bare : headLen w = 0)
include reaches layers idle tag bare

/-- A response of one word is whole at once (R391). -/
theorem execResponseWrite_bare : exec (.responseWrite p (.words [w])) s = done
    (let u := s.updPort p (fun x => { x with tx := [] })
    if u.accepts k p then (u.tagState k .answered).place p [w] (some k) else u.bump (PORT_STAT p) PORT_STAT_LATE) := by
  have run : (s.burinReaches && s.layers) = true := by rw [reaches, layers]; rfl
  refine (congrArg done (if_pos run)).trans (congrArg done ?_)
  show s.txWord p w = _
  unfold State.txWord
  rw [idle]
  have whole : (([] : List Word) ++ [w]).length = headLen (([] ++ [w]).getD 0 0) + 1 := by
    show 1 = headLen w + 1
    rw [bare]
  have framed : ¬ 62 < headLen (([] ++ [w]).getD 0 0) := by
    show ¬ 62 < headLen w
    omega
  refine (if_neg framed).trans ((if_pos whole).trans ?_)
  show (match tagOf (headTag w) with
    | some t => _
    | none => _) = _
  rw [tag, tagOf_val]
  rfl

theorem execResponseWrite_accepted (queued : s.tags[k].st = .queued) (port : s.tags[k].port = p)
    (early : s.clk.frames < s.tags[k].due) : Answers (.responseWrite p (.words [w])) s fun t => t.tags[k].st = .answered ∧
      (∃ i ∈ (t.port p).out, i.tag = some k.val ∧ i.notice = false ∧ i.words.getD 0 0 = w) ∧
      Frame (answerRegs p k) [.ports, .tags] s t := by
  let u := s.updPort p (fun x => { x with tx := [] })
  let v := u.tagState k .answered
  have accepted : u.accepts k p = true := by
    show (s.tags[k].st == .queued && s.tags[k].port == p && decide (s.clk.frames < s.tags[k].due)) = true
    rw [queued, port, decide_eq_true early]
    simp
  have e := execResponseWrite_bare reaches layers idle tag bare
  rw [show (if u.accepts k p then v.place p [w] (some k) else u.bump (PORT_STAT p) PORT_STAT_LATE) = v.place p [w] (some k)
    from if_pos accepted] at e
  have placed : Frame (answerRegs p k) [.ports] v (v.place p [w] (some k)) :=
    .place .refl (by decide) (by simp [answerRegs]) (by simp [answerRegs])
  refine ⟨_, e, ?_, ⟨_, State.mem_out_place _ _ _, rfl, rfl, ?_⟩, ?_⟩
  · rw [show (v.place p [w] (some k)).tags = v.tags from placed.same .tags (by decide)]
    exact congrArg TagSt.st (Vector.getElem_set_self _)
  · unfold State.item
    split <;> rfl
  · have taken : Frame (answerRegs p k) [.ports, .tags] s v :=
      .tagState (.updPort .refl (by decide) (by simp [answerRegs]) (by simp [answerRegs])) (by decide) (by simp [answerRegs])
    exact taken.trans (placed.mono (fun _ => id) (by simp))

theorem execResponseWrite_late (barred : s.tags[k].st ≠ .queued ∨ s.tags[k].port ≠ p ∨ s.tags[k].due ≤ s.clk.frames) :
    Answers (.responseWrite p (.words [w])) s fun t => t.tags = s.tags ∧ (t.port p).out = (s.port p).out ∧
      t.get (PORT_STAT p) PORT_STAT_LATE = min (s.get (PORT_STAT p) PORT_STAT_LATE + 1) (2 ^ PORT_STAT_LATE.w - 1) ∧
      Frame [PORT_STAT p, NOTE_STAT p] [.ports] s t := by
  let u := s.updPort p (fun x => { x with tx := [] })
  have refused : ¬ u.accepts k p = true := by
    show ¬ (s.tags[k].st == .queued && s.tags[k].port == p && decide (s.clk.frames < s.tags[k].due)) = true
    simp only [Bool.and_eq_true, beq_iff_eq, decide_eq_true_eq]
    rintro ⟨⟨queued, port⟩, early⟩
    obtain other | other | late := barred
    · exact other queued
    · exact other port
    · omega
  have e := execResponseWrite_bare reaches layers idle tag bare
  rw [show (if u.accepts k p then (u.tagState k .answered).place p [w] (some k) else u.bump (PORT_STAT p) PORT_STAT_LATE) =
    u.bump (PORT_STAT p) PORT_STAT_LATE from if_neg refused] at e
  have counted : Frame [PORT_STAT p, NOTE_STAT p] [.ports] s (u.bump (PORT_STAT p) PORT_STAT_LATE) :=
    .bump _ (s.updPort_frame p _) List.mem_cons_self
  have kept : (u.port p).out = (s.port p).out := by
    rw [State.port_updPort]
  have shown : u.get (PORT_STAT p) PORT_STAT_LATE = s.get (PORT_STAT p) PORT_STAT_LATE := s.updPort_get p _ _ (by decide)
  refine ⟨_, e, counted.same .tags (by decide), kept, ?_, counted⟩
  rw [← shown]
  exact State.get_bump _ _ _ (by decide)

end

/-! ### What Burin reads (R382, R386) -/

theorem execMbxRxRead_word (reaches : s.burinReaches = true) {w : Word} {r : List Word} (rx : (s.port p).rx = w :: r) :
    Answers (.mbxRxRead p) s fun t => t.out = [w] ∧ (t.port p).rx = r ∧
      Frame [PORT_STAT p, NOTE_STAT p] [.ports, .fw, .out] s t := by
  let all := (s.port p).rxDone ++ [w]
  let u := s.updPort p (fun x => { x with rx := r, rxDone := if r.isEmpty then [] else all })
  let v := if r.isEmpty then { u with fw := { u.fw with taken := u.fw.taken ++ [(p, all)] } } else u
  have word : s.rxWord p = (w, v) := by
    simp only [State.rxWord, rx, List.isEmpty_cons, Bool.false_eq_true, if_false]
    rfl
  have e : exec (.mbxRxRead p) s = done { (s.rxWord p).2 with out := [(s.rxWord p).1] } := congrArg done (if_pos reaches)
  rw [word] at e
  have read : Frame [PORT_STAT p, NOTE_STAT p] [.ports, .fw, .out] s u := (s.updPort_frame p _).mono (fun _ => id) (by simp)
  have ports : v.ports = u.ports := by
    show (if r.isEmpty then _ else u).ports = _
    split <;> rfl
  refine ⟨_, e, rfl, ?_, .set_out (.ite (.set_fw read (by decide)) read) (by decide)⟩
  unfold State.port
  rw [ports]
  exact congrArg PortSt.rx (s.port_updPort p _)

theorem execMbxRxRead_idle (reaches : s.burinReaches = true) (rx : (s.port p).rx = []) (inq : (s.port p).inq = []) :
    Answers (.mbxRxRead p) s fun t => t = { s with out := [0xFFFFFFFF] } := by
  have word : s.rxWord p = (idleItem, s) := by
    simp only [State.rxWord, rx, inq, List.isEmpty_nil, if_true]
  have e : exec (.mbxRxRead p) s = done { (s.rxWord p).2 with out := [(s.rxWord p).1] } := congrArg done (if_pos reaches)
  rw [word] at e
  exact ⟨_, e, rfl⟩

theorem execDrop_drops (reaches : s.burinReaches = true) : Answers (.drop p) s fun t => (t.port p).rx = [] ∧
    (t.port p).inq = (s.port p).inq ∧ (t.port p).out = (s.port p).out ∧ Frame [PORT_STAT p, NOTE_STAT p] [.ports] s t := by
  refine ⟨_, congrArg done (if_pos reaches), ?_, ?_, ?_, s.updPort_frame p _⟩
  all_goals
    unfold State.rxDrop
    rw [State.port_updPort]

end

end Sys2Proof.Machine
end

section
/-! PROOF. The mailboxes from the host's side (R384 to R386, R391, R396 to R399). -/
namespace Sys2Proof.Machine
open Sys2Proof

section
variable (s : State) (p : Port)

/-! ### The item at the head (R386, R391) -/

/-- The item at the head gone, before its tag is freed. -/
def State.headGone (i : Item) (r : List Item) : State :=
  s.updPort p (fun x =>
    { x with out := r, notes := if i.notice then x.notes else x.notes.map (fun n => { n with waited := n.waited + 1 }) })

variable {s p} {i : Item} {r : List Item} {k : Fin 96}

theorem State.itemGone_response (out : (s.port p).out = i :: r) (tag : i.tag = some k.val) :
    s.itemGone p = ((s.headGone p i r).tagState k .free).pump p := by
  unfold State.itemGone
  rw [out]
  dsimp only
  rw [tag]
  unfold State.freeTag
  dsimp only [Option.bind]
  rw [tagOf_val]
  rfl

theorem State.headGone_frame : Frame (answerRegs p k) [.ports, .tags] s ((s.headGone p i r).tagState k .free) :=
  .tagState (.updPort .refl (by decide) (by simp [answerRegs]) (by simp [answerRegs])) (by decide) (by simp [answerRegs])

/-- R391: the response at the head frees its tag as it goes. -/
theorem State.itemGone_frees (out : (s.port p).out = i :: r) (tag : i.tag = some k.val) :
    (s.itemGone p).tags[k].st = .free ∧ Frame (answerRegs p k) [.ports, .tags] s (s.itemGone p) := by
  rw [State.itemGone_response out tag]
  have pumped : Frame (answerRegs p k) [.ports] ((s.headGone p i r).tagState k .free)
      (((s.headGone p i r).tagState k .free).pump p) := .pump .refl (by decide) (by simp [answerRegs]) (by simp [answerRegs])
  refine ⟨?_, State.headGone_frame.trans (pumped.mono (fun _ => id) (by simp))⟩
  rw [show (((s.headGone p i r).tagState k .free).pump p).tags = ((s.headGone p i r).tagState k .free).tags from
    pumped.same .tags (by decide)]
  exact congrArg TagSt.st (Vector.getElem_set_self _)

/-- With no notice that waits, the items behind it come to the head. -/
theorem State.itemGone_out (out : (s.port p).out = i :: r) (tag : i.tag = some k.val) (quiet : (s.port p).notes = []) :
    ((s.itemGone p).port p).out = r := by
  have gone : ((s.headGone p i r).port p).out = r ∧ ((s.headGone p i r).port p).notes = [] := by
    unfold State.headGone
    rw [State.port_updPort, quiet]
    exact ⟨rfl, ite_self _⟩
  have still : ((s.headGone p i r).tagState k .free).pump p = (s.headGone p i r).tagState k .free := by
    unfold State.pump
    rw [show (((s.headGone p i r).tagState k .free).port p).notes = [] from gone.2]
  rw [State.itemGone_response out tag, still]
  exact gone.1

/-! ### Words of the outbound FIFO (R382, R385) -/

theorem State.outWord_last {w : Word} (out : (s.port p).out = i :: r) (words : i.words = [w]) :
    s.outWord p = (w, s.itemGone p) := by
  unfold State.outWord
  rw [out]
  dsimp only
  rw [words]

/-- The item at the head with its first word read. -/
def State.headRead (s : State) (p : Port) (i : Item) (ws : List Word) (r : List Item) : State :=
  s.updPort p (fun x => { x with out := { i with words := ws, begun := true } :: r })

theorem State.outWord_more {w v : Word} {l : List Word} (out : (s.port p).out = i :: r) (words : i.words = w :: v :: l) :
    s.outWord p = (w, s.headRead p i (v :: l) r) := by
  unfold State.outWord
  rw [out]
  dsimp only
  rw [words]
  rfl

/-- R391: an item read to its last word gives its words and frees its tag. -/
theorem State.outWords_item {ws : List Word} (out : (s.port p).out = i :: r) (tag : i.tag = some k.val) (words : i.words = ws)
    (some : ws ≠ []) : (s.outWords p ws.length).1 = ws ∧ (s.outWords p ws.length).2.tags[k].st = .free ∧
      Frame (answerRegs p k) [.ports, .tags] s (s.outWords p ws.length).2 := by
  induction ws generalizing s i with
  | nil => exact absurd rfl some
  | cons w l ih =>
    cases l with
    | nil =>
      obtain ⟨free, frame⟩ := State.itemGone_frees out tag
      have read : s.outWords p 1 = ([w], s.itemGone p) := by
        unfold State.outWords
        rw [State.outWord_last out words]
        rfl
      show (s.outWords p 1).1 = [w] ∧ _
      rw [show [w].length = 1 from rfl, read]
      exact ⟨rfl, free, frame⟩
    | cons v l =>
      have begun : ((s.headRead p i (v :: l) r).port p).out = { i with words := v :: l, begun := true } :: r := by
        unfold State.headRead
        rw [State.port_updPort]
      obtain ⟨rest, free, frame⟩ := ih begun tag rfl (List.cons_ne_nil _ _)
      have read : s.outWords p (w :: v :: l).length = (w :: ((s.headRead p i (v :: l) r).outWords p (v :: l).length).1,
          ((s.headRead p i (v :: l) r).outWords p (v :: l).length).2) := by
        rw [List.length_cons, State.outWords, State.outWord_more out words]
      rw [read, rest]
      exact ⟨rfl, free, (((s.updPort_frame p _).mono (by simp [answerRegs]) (by simp)) :
        Frame (answerRegs p k) [.ports, .tags] s (s.headRead p i (v :: l) r)).trans frame⟩

theorem State.outWords_idle (s : State) {p : Port} (out : (s.port p).out = []) (n : Nat) :
    s.outWords p n = (List.replicate n idleItem, s) := by
  have word : s.outWord p = (idleItem, s) := by
    unfold State.outWord
    rw [out]
  induction n with
  | zero => rfl
  | succ n ih =>
    rw [State.outWords, word, ih]
    rfl

theorem execResponseRetrieved_frees (reaches : s.hostReaches p = true) (out : (s.port p).out = i :: r)
    (response : i.notice = false) (tag : i.tag = some k.val) (some : i.words ≠ []) : Answers (.responseRetrieved p) s fun t =>
      t.out = i.words ∧ t.tags[k].st = .free ∧ Frame (answerRegs p k) [.ports, .tags, .out, .wire] s t := by
  let v := s.outWords p (s.port p).headWords
  have head : (s.port p).headWords = i.words.length := by
    unfold PortSt.headWords
    rw [out]
  obtain ⟨words, free, frame⟩ := State.outWords_item out tag rfl some
  rw [← head] at words free frame
  have ready : (s.hostReaches p && (match (s.port p).out with | [] => false | i :: _ => !i.notice)) = true := by
    rw [reaches, out]
    dsimp only
    rw [response]
    rfl
  have e : exec (.responseRetrieved p) s = done ((v.2.updPort p (fun x => { x with again := v.1 })).send v.1) :=
    congrArg done (if_pos ready)
  refine ⟨_, e, words, free, .send (.updPort (frame.mono (fun _ => id) (by simp)) (by decide) ?_ ?_) (by decide) (by decide)⟩
  · simp [answerRegs]
  · simp [answerRegs]

end

/-! ### The status word and the word of four bytes -/

/-- R397: the fields of the status word. -/
theorem State.statusWord_fields (s : State) (p : Port) : getF (s.statusWord p) ⟨0, 7⟩ = 64 - (s.port p).inUsed ∧
    getF (s.statusWord p) ⟨8, 7⟩ = (s.port p).outUsed ∧
    getF (s.statusWord p) ⟨16, 1⟩ = s.get BOOT_STAT BOOT_STAT_READY ∧
    getF (s.statusWord p) ⟨17, 1⟩ = s.get PWR_STATE PWR_STATE_AUTON := by
  unfold State.statusWord
  dsimp only
  refine ⟨?_, ?_, ?_, ?_⟩
  · iterate 5 rw [getF_setF_ne _ _ _ _ (by decide)]
    exact (getF_setF _ _ _ (by decide)).trans (Nat.mod_eq_of_lt (show 64 - (s.port p).inUsed < 2 ^ 7 by omega))
  · iterate 4 rw [getF_setF_ne _ _ _ _ (by decide)]
    refine (getF_setF _ _ _ (by decide)).trans (Nat.mod_eq_of_lt (Nat.lt_of_le_of_lt (Nat.min_le_left _ _) (by decide)))
  · iterate 2 rw [getF_setF_ne _ _ _ _ (by decide)]
    exact (getF_setF _ _ _ (by decide)).trans (Nat.mod_eq_of_lt (Nat.mod_lt _ (by decide)))
  · rw [getF_setF_ne _ _ _ _ (by decide)]
    exact (getF_setF _ _ _ (by decide)).trans (Nat.mod_eq_of_lt (Nat.mod_lt _ (by decide)))

/-- The bytes of a word are its word. -/
theorem wordsOf_bytesLE (w : Word) : wordsOf (bytesLE 4 w.toNat) = [w] := by
  have bytes := ofBytesLE_bytesLE 4 w.toNat
  have whole : BitVec.ofNat 32 (ofBytesLE (bytesLE 4 w.toNat)) = w := by
    rw [bytes]
    exact BitVec.eq_of_toNat_eq (by rw [BitVec.toNat_ofNat]; have := w.isLt; omega)
  exact congrArg (fun x => [x]) whole

/-! ### Transactions of Ports A, B and C (R386, R397 to R399) -/

section
variable {s : State} {p : Port} (host : s.transacts p = true)
include host

theorem execMbxOut_eq (n : Fin 65) : exec (.mbxOut p n) s = done
    (let r := s.outWords p (s.outCount p n)
    (r.2.updPort p (fun x => { x with again := r.1 })).send r.1) := congrArg done (if_pos host)

theorem execMbxOut_idle (n : Fin 65) (c : p = .c) (out : (s.port p).out = []) : Answers (.mbxOut p n) s fun t =>
    t.out = List.replicate n.val 0xFFFFFFFF ∧ t.tags = s.tags ∧
      Frame [PORT_STAT p, NOTE_STAT p] [.ports, .out, .wire] s t := by
  have count : s.outCount p n = n.val := if_pos (by rw [c]; rfl)
  have e := execMbxOut_eq host n
  rw [count, s.outWords_idle out] at e
  exact ⟨_, e, rfl, rfl, .send ((s.updPort_frame p _).mono (fun _ => id) (by simp)) (by decide) (by decide)⟩

theorem execMbxOut_more {i : Item} {r : List Item} {w v : Word} {l : List Word} (crc : s.crcPort p = true)
    (out : (s.port p).out = i :: r) (words : i.words = w :: v :: l) : Answers (.mbxOut p 1) s fun t => t.out = [w] ∧
      (t.port p).out = { i with words := v :: l, begun := true } :: r ∧ t.tags = s.tags ∧
      Frame [PORT_STAT p, NOTE_STAT p] [.ports, .out, .wire] s t := by
  have count : s.outCount p (1 : Fin 65).val = 1 := by
    unfold State.outCount
    rw [crc]
    exact ite_self _
  have read : s.outWords p 1 = ([w], s.headRead p i (v :: l) r) := by
    rw [State.outWords, State.outWord_more out words]
    rfl
  have e := execMbxOut_eq host 1
  rw [count, read] at e
  have begun : Frame [PORT_STAT p, NOTE_STAT p] [.ports] s (s.headRead p i (v :: l) r) := s.updPort_frame p _
  have frame : Frame [PORT_STAT p, NOTE_STAT p] [.ports] s
      ((s.headRead p i (v :: l) r).updPort p (fun x => { x with again := [w] })) :=
    begun.trans (State.updPort_frame _ p _)
  refine ⟨_, e, rfl, ?_, rfl, .send (frame.mono (fun _ => id) (by simp)) (by decide) (by decide)⟩
  show (((s.headRead p i (v :: l) r).updPort p (fun x => { x with again := [w] })).port p).out = _
  rw [State.port_updPort]
  show ((s.headRead p i (v :: l) r).port p).out = _
  unfold State.headRead
  rw [State.port_updPort]

theorem execHostDrop_drops {i : Item} {r : List Item} {k : Fin 96} (out : (s.port p).out = i :: r) (begun : i.begun = true)
    (tag : i.tag = some k.val) (quiet : (s.port p).notes = []) : Answers (.hostDrop p) s fun t => (t.port p).out = r ∧
      t.tags[k].st = .free ∧ Frame (answerRegs p k) [.ports, .tags] s t := by
  have ready : (s.transacts p && (match (s.port p).out with | [] => false | i :: _ => i.begun)) = true := by
    rw [host, out]
    exact begun
  obtain ⟨free, frame⟩ := State.itemGone_frees out tag
  exact ⟨_, congrArg done (if_pos ready), State.itemGone_out out tag quiet, free, frame⟩

theorem execHostDrop_between {i : Item} {r : List Item} (out : (s.port p).out = i :: r) (between : i.begun = false) :
    Answers (.hostDrop p) s fun t => t = s := by
  have unready : ¬ (s.transacts p && (match (s.port p).out with | [] => false | i :: _ => i.begun)) = true := by
    rw [host, out]
    dsimp only
    rw [between]
    decide
  exact ⟨_, congrArg done (if_neg unready), rfl⟩

theorem execAbortIn_discards : Answers (.abortIn p) s fun t => (t.port p).collect = [] ∧
    (t.port p).inq = (s.port p).inq ∧ (t.port p).out = (s.port p).out ∧ Frame [PORT_STAT p, NOTE_STAT p] [.ports] s t := by
  refine ⟨_, congrArg done (if_pos host), ?_, ?_, ?_, s.updPort_frame p _⟩
  all_goals rw [State.port_updPort]

theorem execPortStatusRead_sends : Answers (.portStatusRead p) s fun t => ∃ w, t.out = [w] ∧
    getF w ⟨0, 7⟩ = (64 - (s.port p).inUsed) ∧ getF w ⟨8, 7⟩ = (s.port p).outUsed ∧
    getF w ⟨16, 1⟩ = s.get BOOT_STAT BOOT_STAT_READY ∧ getF w ⟨17, 1⟩ = s.get PWR_STATE PWR_STATE_AUTON ∧
    t.wire = bytesLE 4 w.toNat ∧ Frame [] [.out, .wire] s t := by
  obtain ⟨free, used, ready, autonomous⟩ := s.statusWord_fields p
  exact ⟨_, congrArg done (if_pos host), _, rfl, free, used, ready, autonomous, List.append_nil _,
    .send .refl (by decide) (by decide)⟩

/-! ### Words that arrive (R384, R397, R398, R402) -/

theorem execMbxIn_badPec {bs : List Byte} {k : BitVec 12} (smbus : p = .a ∨ p = .b) (pec : s.crcPort p = false)
    (whole : bs.length % 4 = 0) : Answers (.mbxIn p bs false k) s fun t =>
      t.ports = s.ports ∧ t.raisedCode (portEsn p) 2 ∧ EventFrame [] [.clk] s t := by
  let u := s.clockAt k.toNat
  have plain : (p == .c) = false := by
    obtain rfl | rfl := smbus <;> rfl
  have unsplit : ¬ ((bs.take 64).length % 4 != 0) = true := by
    rw [List.length_take]
    simp only [bne_iff_ne, ne_eq, not_not]
    omega
  have e : exec (.mbxIn p bs false k) s = done (u.raise (portEsn p) 2) := by
    refine (congrArg done (if_pos host)).trans (congrArg done ?_)
    have crc : (s.clockAt k.toNat).crcPort p = false := pec
    simp only [plain, crc, Bool.false_eq_true, if_false, Bool.or_self, if_neg unsplit]
    rfl
  have esn : portEsn p < 0xA0 := by cases p <;> decide
  exact ⟨_, e, State.raise_ports _ _ _ _ _, State.raise_raised _ _ _ _ _ (by omega),
    .raise (.of_frame (s.clockAt_frame _)) (by omega)⟩

theorem execMbxIn_header {w : Word} {ok : Bool} {k : BitVec 12} (room : (s.port p).inUsed < 64)
    (between : (s.port p).collect = []) (none : (s.port p).missed = 0) (more : 0 < headLen w) (fits : headLen w ≤ 62)
    (c : p = .c) : Answers (.mbxIn p (bytesLE 4 w.toNat) ok k) s fun t =>
      (t.port p).collect = [w] ∧ (t.port p).inq = (s.port p).inq ∧ t.tags = s.tags ∧
      Frame [PORT_STAT p, NOTE_STAT p] [.ports, .clk] s t := by
  let u := s.clockAt k.toNat
  let v := u.updPort p (fun x => { x with collect := x.collect ++ [w] })
  have port : v.port p = { s.port p with collect := [w] } := by
    show (u.updPort p _).port p = _
    rw [State.port_updPort]
    show { s.port p with collect := (s.port p).collect ++ [w] } = _
    rw [between]
    rfl
  have waits : v.packetIn p = v := by
    unfold State.packetIn
    rw [port]
    dsimp only
    rw [none]
    exact if_pos (show 1 + 0 < headLen w + 1 + _ by omega)
  have word : u.inWord p w = (v, false) := by
    have collect : (u.port p).collect = [] := between
    have free : decide (64 ≤ (u.port p).inUsed) = false := decide_eq_false (Nat.not_le.mpr room)
    have short : decide (62 < headLen w) = false := decide_eq_false (Nat.not_lt.mpr fits)
    unfold State.inWord
    dsimp only
    rw [collect, free, short]
    exact congrArg (fun x => (x, false)) waits
  have read : u.inWords p [w] = v := by
    unfold State.inWords
    rw [word]
    rfl
  have e : exec (.mbxIn p (bytesLE 4 w.toNat) ok k) s = done v := by
    refine (congrArg done (if_pos host)).trans (congrArg done ?_)
    have link : (p == .c) = true := by rw [c]; rfl
    simp only [link, if_true, Bool.true_or, length_bytesLE, wordsOf_bytesLE]
    exact (if_neg (by decide)).trans read
  refine ⟨_, e, by rw [port], by rw [port], rfl, ?_⟩
  exact ((s.clockAt_frame _).mono (by simp) (by simp)).trans ((u.updPort_frame p _).mono (fun _ => id) (by simp))

/-! ### SMBus (R396, R398, R399) -/

section
variable (smbus : p = .a ∨ p = .b)
include smbus

theorem transacts_smbus : (s.transacts p && p != .c) = true := by
  obtain rfl | rfl := smbus <;> rw [host] <;> rfl

theorem execMbxAgain_sends : Answers (.mbxAgain p) s fun t => t.out = (s.port p).again ∧ Frame [] [.out, .wire] s t :=
  ⟨_, congrArg done (if_pos (transacts_smbus host smbus)), rfl, .send .refl (by decide) (by decide)⟩

theorem execAlertResponse_answers (some : (s.port p).out ≠ []) : Answers (.alertResponse p) s fun t =>
    t.out = [BitVec.ofNat 32 (2 * s.get (PORT_ADDR p) PORT_ADDR_ADDR)] ∧ Frame [] [.out, .wire] s t := by
  have layers : s.layers = true := by
    have parts := host
    simp only [State.transacts, State.hostReaches, Bool.and_eq_true] at parts
    exact parts.1.1.2
  have alert : s.alert p = true := by
    unfold State.alert
    rw [layers]
    simpa using some
  have ready : (s.transacts p && p != .c && s.alert p) = true := by
    rw [transacts_smbus host smbus, alert]
    rfl
  have sent : Frame [] [.out, .wire] s { s with out := [BitVec.ofNat 32 (2 * s.get (PORT_ADDR p) PORT_ADDR_ADDR)] } :=
    .set_out .refl (by decide)
  exact ⟨_, congrArg done (if_pos ready), rfl, sent.set_wire (by decide)⟩

theorem execBusTimeout_resets {ms : BitVec 8} (held : min 35 (max 1 (s.get (PORT_TIM p) PORT_TIM_STO)) ≤ ms.toNat) :
    Answers (.busTimeout p ms) s fun t => (t.port p).collect = [] ∧ t.get (PORT_STAT p) PORT_STAT_BUS_TO = 1 ∧
      t.raisedCode (portEsn p) 3 ∧ EventFrame [PORT_STAT p, NOTE_STAT p] [.ports] s t := by
  let u := s.updPort p (fun x => { x with collect := [], bad := false, missed := 0 })
  let v := u.putB (PORT_STAT p) PORT_STAT_BUS_TO true
  have ready : (s.transacts p && p != .c && decide (stoMs (s.get (PORT_TIM p) PORT_TIM_STO) ≤ ms.toNat)) = true := by
    rw [transacts_smbus host smbus]
    exact decide_eq_true held
  have e : exec (.busTimeout p ms) s = done (v.raise (portEsn p) 3) := congrArg done (if_pos ready)
  have esn : portEsn p < 0xA0 := by cases p <;> decide
  have stat : offEvents (PORT_STAT p) := offEvents_above (by unfold PORT_STAT; omega)
  have reset : EventFrame [PORT_STAT p, NOTE_STAT p] [.ports] s v :=
    .putB _ _ (.of_frame (s.updPort_frame p _)) List.mem_cons_self
  refine ⟨_, e, ?_, ?_, State.raise_raised _ _ _ _ _ (by omega), reset.raise (by omega)⟩
  · unfold State.port
    rw [State.raise_ports]
    show (u.port p).collect = []
    rw [State.port_updPort]
  · exact (State.raise_get _ _ _ _ _ _ _ (by omega) stat).trans (State.get_putB _ _ _ _ (by decide) (by decide))

end

end

/-- Settles O45: every command of a mailbox comes to the change of its port that the lemmas above name. -/
theorem portMailboxes : Obligations.PortMailboxes := fun s p =>
  ⟨fun _ run layers queued due port => execDeadlineExpiry_answers s p run layers queued due port,
    fun _ _ reaches layers idle tag bare queued port early =>
      execResponseWrite_accepted reaches layers idle tag bare queued port early,
    fun _ _ reaches layers idle tag bare barred => execResponseWrite_late reaches layers idle tag bare barred,
    fun _ _ reaches rx => execMbxRxRead_word s p reaches rx, execMbxRxRead_idle s p, execDrop_drops s p,
    fun _ _ _ reaches out response tag some => execResponseRetrieved_frees reaches out response tag some,
    fun host => ⟨fun n c out _ => execMbxOut_idle host n c out,
      fun _ _ _ _ _ crc out words => execMbxOut_more host crc out words,
      fun _ _ _ out begun tag quiet => execHostDrop_drops host out begun tag quiet,
      fun _ _ out between => execHostDrop_between host out between, execAbortIn_discards host,
      execPortStatusRead_sends host, fun _ _ smbus pec whole => execMbxIn_badPec host smbus pec whole,
      fun _ _ _ room between none _ more fits c => execMbxIn_header host room between none more fits c,
      fun smbus => ⟨execMbxAgain_sends host smbus, execAlertResponse_answers host smbus,
        fun _ held => execBusTimeout_resets host smbus held⟩⟩⟩

end Sys2Proof.Machine
end
